-- ==== Sys2Proof/Word.lean ====
section
/-! DEFINITION. The word types of the UMT-8840: bytes, 16-bit codes, 32-bit register words, 64-bit wide words and ticks. -/

namespace Sys2Proof

/-- One byte of memory. -/
abbrev Byte := BitVec 8

/-- A 16-bit error or status code (chapter 00, "Conventions"), or a 16-bit fail or frame word. -/
abbrev Half := BitVec 16

/-- A 32-bit register, fabric or sequencer word. -/
abbrev Word := BitVec 32

/-- A 64-bit register, TICK_COUNT value, address or B-cell W register. -/
abbrev Wide := BitVec 64

end Sys2Proof
end

