-- ==== Sys2Proof/Syntax.lean ====
section
/-! DEFINITION. The commands of the UMT-8840: one constructor of `Instr` per row of spec/opcode_table.json, and the types of their
operands. A command is something that reaches the block from outside it (a register access by a requester, a packet, a pin) or an event
of one of its units; what the unit or the outside world decides is its operands. -/

namespace Sys2Proof

/-- Who makes a register access (R542, class 0xE): the host, the firmware, the remote device at a position, or the owner module. -/
inductive Requester where
  | host
  | firmware
  | remote (pos : Fin 32)
  | ownerModule
deriving DecidableEq, Repr

/-- A unit with a completion monitor (R44, R46): a core cell, a U-cell by its cluster, an X-cell, a sequencer. -/
inductive UnitId where
  | core (col : Fin 64) (row : Fin 40)
  | ucell (cl : Fin 256)
  | xcell (x : Fin 128)
  | seq (n : Fin 16)
deriving DecidableEq, Repr

/-- The sequencer configuration registers that R216 protects. -/
inductive PsqCfgReg where
  | entry | cfg | wcfg | spillBase | spillLimit | daper | voteCfg
deriving DecidableEq, Repr

/-- The slice setting registers that R232 protects. -/
inductive PslReg where
  | cfg | posLead | posTrail | posDen | posStrb | dskTx | dskRx | rxalign | eq
deriving DecidableEq, Repr

/-- What a calibration measures (R240, R241): the median round trips in steps, or no usable marker. -/
inductive CalOutcome where
  | measured (rH rL : BitVec 17)
  | noMarker
deriving DecidableEq, Repr

/-- A queue: a capture queue FQ00 to FQ63 or a stream queue SQ0 to SQ7. -/
inductive QueueId where
  | capture (k : Fin 64)
  | stream (j : Fin 8)
deriving DecidableEq, Repr

/-- A duplicated queue pointer (R295). -/
inductive PtrId where
  | wptr | rptr | tptr
deriving DecidableEq, Repr

/-- The queue, fail-region and source configuration registers that R275 protects. -/
inductive FcqReg where
  | qCfg (k : Fin 64)
  | frBase (k : Fin 64)
  | frSize (k : Fin 64)
  | frBmcfg (k : Fin 64)
  | frTbase (k : Fin 64)
  | srcCfg (x : Fin 128)
  | srcCred (x : Fin 128)
deriving DecidableEq, Repr

/-- A unit of the fail-line store (R318): the cells of a row group or of a column group, or a must line. -/
inductive StoreUnit where
  | rowCells (r : BitVec 16)
  | colCells (c : BitVec 14)
  | mustRow (r : BitVec 16)
  | mustCol (c : BitVec 14)
deriving DecidableEq, Repr

/-- What goes wrong with a packet: nothing, a parity error in its header or in another flit, with the router that finds it (R359), or a completion of the host other than a
successful one, with its status, 0 for a poisoned payload (R569, R595). -/
inductive LinkFault where
  | none
  | header (r : Fin 64)
  | body (r : Fin 64)
  | host (status : Fin 8)
deriving DecidableEq, Repr

/-- The width of a write in BAR0: 4 or 8 bytes, or byte enables that do not cover a whole dword (R565). -/
inductive WriteSize where
  | dword
  | qword
  | part
deriving DecidableEq, Repr

/-- What an NI puts into a request beside its address: the data of a write, none for a read, and the parity error that the request meets on its way (R355, R359). -/
structure RequestBody where
  write : Option (List Byte)
  link  : LinkFault
deriving DecidableEq, Repr

/-- Items that a producer writes of a packet, and whether they are the last of it (R298). -/
structure PacketPart where
  items : List Word
  last  : Bool
deriving DecidableEq, Repr

/-- A byte symbol in error in a 64-byte burst (R383): the component that delivers it and its beat. -/
structure MemFault where
  comp : Fin 5
  beat : Fin 16
deriving DecidableEq, Repr

/-- How a part of a slice ended (R517): patterns applied, whether every signature compared matched its reference, and the signature; `runs` tells that the part goes on
beyond the command, so that none of that counts yet. -/
structure PartEnd where
  runs  : Bool := false
  count : Word
  ok    : Bool
  sig   : Wide
deriving DecidableEq, Repr

/-- How an aborted slice ended (R521): patterns applied, and in which of the three ticks of the hand-back that follows the comparison disagrees, if it does (R512). -/
structure AbortEnd where
  count   : Word
  differs : Option (Fin 3)
deriving DecidableEq, Repr

/-- What TAMPER_N does (R451, R533): whether it is low, and whether a running Nightfall test is in its step 5. -/
structure TamperPin where
  low     : Bool
  keyStep : Bool
deriving DecidableEq, Repr

/-- How a Nightfall group ended (R526): the units that failed, whether it reached its end within its limit, patterns applied, signature. -/
structure GroupEnd where
  fails    : List Half
  complete : Bool
  count    : Word
  sig      : Wide
deriving DecidableEq, Repr

/-- What reading a firmware slot of the flash brings (R438): a failed read, or the image. -/
inductive FwRead where
  | failed
  | read
deriving DecidableEq, Repr

/-- What sensing the fuses finds uncorrectable (R444, R531): repair records, the slots KEY0, KEY1, OWNER0 and OWNER1, and whether UDS, DEVICE_ID, the SVN bits
or the lock bits are. -/
structure FuseSense where
  recs  : List (Fin 64)
  slots : List (Fin 4)
  critical : Bool
deriving DecidableEq, Repr

/-- A slice of the start-up pass whose parts did not all pass (R522, R523): its cluster and number, how its parts ended, the rows that failed. -/
structure StartPart where
  cl     : Fin 256
  j      : Fin 10
  logic  : PartEnd
  chunk  : PartEnd
  rows   : List (Fin 256)
  spares : List (Fin 16)
deriving DecidableEq, Repr

/-- The start-up self-test (R522): the slices that did not pass, and the four groups, which count only when they are run. -/
structure SelfTest where
  parts : List StartPart
  tck   : GroupEnd
  xcl   : GroupEnd
  psl   : GroupEnd
  key   : GroupEnd
deriving DecidableEq, Repr

/-- The commands, in the order of spec/opcode_table.json. -/
inductive Instr where
  /-- REGISTER_WRITE (R14): A write of `value` to BAR0 offset `off`, of `size`. -/
  | regWrite (req : Requester) (off : BitVec 26) (size : WriteSize) (value : Wide)
  /-- FCK_APPLY (R54): A write of 1 to TICK_CTRL.FCK_APPLY. -/
  | fckApply (req : Requester)
  /-- FCK_CHANGE_COMPLETE (R56): The FCK PLL has relocked after a change. -/
  | fckChangeComplete
  /-- TICK_CNT_CLR (R44): A write of 1 to TICK_CTRL.CNT_CLR. -/
  | tickCntClr (req : Requester)
  /-- TICK_UIREP_WRITE (R58): A write of `value` to TICK_UIREP_n. -/
  | tickUirepWrite (req : Requester) (site : Fin 16) (value : Word)
  /-- TICK_SLIP (R44): The work of `unit` has not completed at the coming tick edge. -/
  | tickSlip (unit : UnitId)
  /-- NEAR_SLIP (R49): The work of `unit` completed within the last eighth of the tick. -/
  | nearSlip (unit : UnitId)
  /-- FCK_PLL_UNLOCK (R50): The FCK PLL loses lock. -/
  | fckPllUnlock
  /-- CONTEXT_SWITCH (R79): The pending context select of the site falls due. -/
  | contextSwitch (site : Fin 16)
  /-- FAB_STORE_PARITY (R133): The active routing-word third of a position fails its parity check. -/
  | fabStoreParity (pos : Fin 2688) (third : Fin 3)
  /-- NOP (R86): A fabric cell NOP leaves Q and all state unchanged. -/
  | cellNop (slot : Fin 2944)
  /-- MOV (R86): A cell copies operand a to Q. -/
  | cellMov (slot : Fin 2944)
  /-- ADD (R86): A cell adds a and b into Q and sets CY to the carry out. -/
  | cellAdd (slot : Fin 2944)
  /-- ADDC (R86): A cell adds a, b and CY into Q and sets CY to the carry out. -/
  | cellAddc (slot : Fin 2944)
  /-- SUB (R86): A cell subtracts b from a into Q and sets CY on unsigned borrow. -/
  | cellSub (slot : Fin 2944)
  /-- SUBB (R86): A cell subtracts b and CY from a into Q and sets CY to the borrow out. -/
  | cellSubb (slot : Fin 2944)
  /-- MIN (R86): A cell writes the lesser of a and b to Q. -/
  | cellMin (slot : Fin 2944)
  /-- MAX (R86): A cell writes the greater of a and b to Q. -/
  | cellMax (slot : Fin 2944)
  /-- CMP (R87): A cell writes 1 to Q when the condition named by MOD holds between a and b. -/
  | cellCmp (slot : Fin 2944)
  /-- SEL (R86): A cell writes b when c[0] = 1, else a, to Q. -/
  | cellSel (slot : Fin 2944)
  /-- AND (R86): A cell writes a AND b to Q. -/
  | cellAnd (slot : Fin 2944)
  /-- OR (R86): A cell writes a OR b to Q. -/
  | cellOr (slot : Fin 2944)
  /-- XOR (R86): A cell writes a XOR b to Q. -/
  | cellXor (slot : Fin 2944)
  /-- ANDN (R86): A cell writes a AND NOT b to Q. -/
  | cellAndn (slot : Fin 2944)
  /-- SHL (R86): A cell shifts a left by b[4:0] into Q. -/
  | cellShl (slot : Fin 2944)
  /-- SHR (R86): A cell shifts a right by b[4:0] with zero fill into Q. -/
  | cellShr (slot : Fin 2944)
  /-- SRA (R86): A cell shifts a right by b[4:0] with sign fill into Q. -/
  | cellSra (slot : Fin 2944)
  /-- ROL (R86): A cell rotates a left by b[4:0] into Q. -/
  | cellRol (slot : Fin 2944)
  /-- MUL (R86): A cell multiplies the low halves of a and b into Q. -/
  | cellMul (slot : Fin 2944)
  /-- MAC (R86): A cell adds the product of the low halves of a and b to ACC, with wrap or saturation. -/
  | cellMac (slot : Fin 2944)
  /-- MACL (R86): A cell loads ACC and Q with the product of the low halves of a and b. -/
  | cellMacl (slot : Fin 2944)
  /-- ACCR (R86): A cell writes ACC to Q. -/
  | cellAccr (slot : Fin 2944)
  /-- CNTM (R88): A cell steps Q by a modulo b and sets CY on wrap. -/
  | cellCntm (slot : Fin 2944)
  /-- CNTE (R88): A cell performs CNTM when c[0] = 1 and otherwise holds Q with CY = 0. -/
  | cellCnte (slot : Fin 2944)
  /-- BFM (R88): A cell moves a bit field of a into b as set by IMM. -/
  | cellBfm (slot : Fin 2944)
  /-- GRAY (R88): A cell converts a between binary and Gray code. -/
  | cellGray (slot : Fin 2944)
  /-- XTAP (R88): A cell XORs the parity of a AND b into one bit of a. -/
  | cellXtap (slot : Fin 2944)
  /-- BREV (R86): A cell reverses the low bits of a into Q. -/
  | cellBrev (slot : Fin 2944)
  /-- WLD (R90): A B-cell loads W with {b, a}. -/
  | cellWld (slot : Fin 2944)
  /-- WAND (R90): A B-cell ANDs {b, a} into W. -/
  | cellWand (slot : Fin 2944)
  /-- WOR (R90): A B-cell ORs {b, a} into W. -/
  | cellWor (slot : Fin 2944)
  /-- WXOR (R90): A B-cell XORs {b, a} into W. -/
  | cellWxor (slot : Fin 2944)
  /-- WANDN (R90): A B-cell ANDs W with NOT {b, a}. -/
  | cellWandn (slot : Fin 2944)
  /-- WNOT (R90): A B-cell inverts W. -/
  | cellWnot (slot : Fin 2944)
  /-- WROL (R90): A B-cell rotates W left by a[5:0]. -/
  | cellWrol (slot : Fin 2944)
  /-- WSHL (R90): A B-cell shifts W left by a[5:0]. -/
  | cellWshl (slot : Fin 2944)
  /-- WSHR (R90): A B-cell shifts W right by a[5:0] with zero fill. -/
  | cellWshr (slot : Fin 2944)
  /-- WBFLY (R91): A B-cell applies one butterfly stage to W under control {b, a}. -/
  | cellWbfly (slot : Fin 2944)
  /-- LFSR (R91): A B-cell runs Galois LFSR steps on W with polynomial {b, a}. -/
  | cellLfsr (slot : Fin 2944)
  /-- CRC32 (R91): A B-cell runs a CRC step of a with polynomial b into W[31:0]. -/
  | cellCrc32 (slot : Fin 2944)
  /-- POPC (R90): A B-cell writes the number of 1 bits of {b, a} to Q. -/
  | cellPopc (slot : Fin 2944)
  /-- PAR (R90): A B-cell writes the parity of {b, a} to Q. -/
  | cellPar (slot : Fin 2944)
  /-- CLZ (R90): A B-cell writes the leading zeros of {b, a} to Q. -/
  | cellClz (slot : Fin 2944)
  /-- LUTN (R90): A B-cell maps each nibble of a through the lookup table into Q. -/
  | cellLutn (slot : Fin 2944)
  /-- LUTW (R90): A B-cell writes LUT[a[3:0]] to Q. -/
  | cellLutw (slot : Fin 2944)
  /-- WLUTN (R90): A B-cell maps each nibble of W through the lookup table. -/
  | cellWlutn (slot : Fin 2944)
  /-- MEM (R95): An M-cell performs read, write or read-then-write accesses on its two ports. -/
  | cellMem (cl : Fin 256)
  /-- XIO (R108): An X-cell registers drive-and-enable and expect words for its fed slices. -/
  | cellXio (x : Fin 128)
  /-- STREAM_POP (R110): An X-cell pops the oldest stream-buffer word into Q1. -/
  | streamPop (x : Fin 128)
  /-- XS_START (R120): A write to FAB_XS_CTRL_x with START = 1 and LOOP = `loop`. -/
  | xsStart (req : Requester) (x : Fin 128) (loop : Bool)
  /-- XS_ABORT (R120): A write to FAB_XS_CTRL_x with ABORT = 1 and LOOP = `loop`. -/
  | xsAbort (req : Requester) (x : Fin 128) (loop : Bool)
  /-- XS_FILL_RESPONSE (R110): A fill request of `words` words completes with the network or memory status `status`. -/
  | xsFillResponse (x : Fin 128) (words : Fin 65) (status : Half)
  /-- FAB_CTXSEL_WRITE (R119): A write to FAB_CTXSEL_n sets INIT or is refused while the site is active. -/
  | fabCtxselWrite (req : Requester) (site : Fin 16) (value : Word)
  /-- FAB_MREP_WRITE (R99): A host write to an M-cell spare-row entry is performed or refused by region state. -/
  | fabMrepWrite (req : Requester) (cl : Fin 256) (k : Fin 16) (value : Word)
  /-- FREEZE (R145): A FREEZE command for a region is accepted or refused. -/
  | freeze (req : Requester) (g : Fin 64)
  /-- FREEZE_TAKES_EFFECT (R145): At tick F the region leaves LIVE, becomes HELD and FROZEN, and its borders present frozen words. -/
  | freezeTakesEffect
  /-- THAW (R146): A THAW command is accepted, copying the site's context state into the region, or refused. -/
  | thaw (req : Requester) (g : Fin 64)
  /-- THAW_TAKES_EFFECT (R146): At tick B the thawed region becomes LIVE if its site is active and its borders are driven again. -/
  | thawTakesEffect
  /-- STARFIX_ARM (R150): A write of 1 to FAB_SFX_CTRL.ARM arms a capture of FAB_SFX_TICK or is refused. -/
  | starfixArm (req : Requester)
  /-- CANCEL (R150): A write of 1 to FAB_SFX_CTRL.CANCEL disarms an armed capture. -/
  | starfixCancel (req : Requester)
  /-- STARFIX_CAPTURE (R149): At the named tick edge the whole fabric register state is captured, with HALT pausing running sites. -/
  | starfixCapture
  /-- STARFIX_DRAIN_DONE (R153): The capture image finishes draining into the Starfix buffer and STATE becomes ready. -/
  | starfixDrainDone
  /-- STARFIX_RELEASE (R153): A write of 1 to RELEASE frees the Starfix buffer. -/
  | starfixRelease (req : Requester)
  /-- UNLOAD (R156): A write of 1 to UNLOAD starts copying M-cell arrays and stream buffers to attached memory. -/
  | starfixUnload (req : Requester)
  /-- UNLOAD_DONE (R156): The array copy completes and UNLOAD_BUSY clears. -/
  | starfixUnloadDone
  /-- FAB_RB_DATA_READ (R158): A read of FAB_RB_DATA returns one read-back word and increments WORD, or is refused while not stopped. -/
  | fabRbDataRead (req : Requester)
  /-- ARM (R165): The ARM command arms a site, resetting its sequencer state and queues, or is refused. -/
  | psqArm (req : Requester) (n : Fin 16)
  /-- START (R164): The START command schedules the site to enter RUNNING at t + 2 or at PSQ_START_TICK, or is refused. -/
  | psqStart (req : Requester) (n : Fin 16) (at_ : Bool)
  /-- SITE_RUN_BEGINS (R23): The site enters RUNNING at its start or resume tick and its sequencer begins issuing. -/
  | siteRunBegins (n : Fin 16)
  /-- PAUSE (R164): The PAUSE command suspends the site's frame program from the next tick. -/
  | psqPause (req : Requester) (n : Fin 16)
  /-- RESUME (R164): The RESUME command schedules a paused site to run again with its held frame phase. -/
  | psqResume (req : Requester) (n : Fin 16) (at_ : Bool)
  /-- STOP (R164): The STOP command returns the site to LOADED or IDLE and its regions to HELD. -/
  | psqStop (req : Requester) (n : Fin 16)
  /-- HOLD (R164): The HOLD command puts an active site into SAFE_HOLD with cause PSQ_HOST_HOLD. -/
  | psqHold (req : Requester) (n : Fin 16)
  /-- SERVICE (R164): The SERVICE command starts the service program at SVC_PC. -/
  | psqService (req : Requester) (n : Fin 16)
  /-- SVC_END (R164): The SVC_END command requests that the service program stop. -/
  | psqSvcEnd (req : Requester) (n : Fin 16)
  /-- SVC_STOP_AT_BOUNDARY (R164): The service program stops at the next instruction or transfer-element boundary after SVC_END. -/
  | svcStopAtBoundary (n : Fin 16)
  /-- NOPV (R178): The sequencer emits VC[VS] and does nothing else. -/
  | seqNopv (n : Fin 16)
  /-- EMIT (R178): The sequencer writes ga + imm to VC[VS] and emits it. -/
  | seqEmit (n : Fin 16)
  /-- VSET (R178): The sequencer writes ga + imm to VC[k]. -/
  | seqVset (n : Fin 16)
  /-- ALU (R180): The sequencer computes ga FN gb into gd. -/
  | seqAlu (n : Fin 16)
  /-- ADDI (R178): The sequencer writes ga + imm to gd. -/
  | seqAddi (n : Fin 16)
  /-- ANDI (R178): The sequencer writes ga AND imm to gd. -/
  | seqAndi (n : Fin 16)
  /-- ORI (R178): The sequencer writes ga OR imm to gd. -/
  | seqOri (n : Fin 16)
  /-- LUI (R178): The sequencer loads the upper half of gd from imm. -/
  | seqLui (n : Fin 16)
  /-- BR (R181): The sequencer branches to TGT when COND holds. -/
  | seqBr (n : Fin 16)
  /-- DJNZ (R178): The sequencer decrements ga and branches when the result is not 0. -/
  | seqDjnz (n : Fin 16)
  /-- REP (R182): The sequencer repeats the next instruction ga + imm times. -/
  | seqRep (n : Fin 16)
  /-- CALL (R192): The sequencer opens a new register-window frame and jumps to TGT, or traps WOVF. -/
  | seqCall (n : Fin 16)
  /-- RET (R193): The sequencer returns from a call frame to its caller, or traps. -/
  | seqRet (n : Fin 16)
  /-- RETX_INTERRUPT (R202): RETX with KIND 0 returns from an interrupt frame, restoring STATUS and LMSTATE. -/
  | seqRetxInterrupt (n : Fin 16)
  /-- RETX_TRAP (R205): RETX with KIND 1 returns from the trap window to EPC. -/
  | seqRetxTrap (n : Fin 16)
  /-- CTX (R36): The sequencer issues a context select to its site's regions. -/
  | seqCtx (n : Fin 16)
  /-- MATCH (R184): The sequencer tests a match accumulator and branches, optionally issuing a context select. -/
  | seqMatch (n : Fin 16)
  /-- MWAIT (R185): The sequencer waits on a match accumulator with a countdown timeout. -/
  | seqMwait (n : Fin 16)
  /-- VMATCH (R186): The sequencer tests the constellation vote decision and branches, optionally selecting a context. -/
  | seqVmatch (n : Fin 16)
  /-- LDS (R178): The sequencer loads a scratch word into gd. -/
  | seqLds (n : Fin 16)
  /-- STS (R178): The sequencer stores gs into a scratch word. -/
  | seqSts (n : Fin 16)
  /-- MFS (R188): The sequencer reads a special register into gd. -/
  | seqMfs (n : Fin 16)
  /-- MTS (R188): The sequencer writes ga into a special register. -/
  | seqMts (n : Fin 16)
  /-- XMOV (R212): The sequencer moves a register between the current bank and bank WINSEL.BANK. -/
  | seqXmov (n : Fin 16)
  /-- SIG (R187): The sequencer signals another sequencer and optionally the host. -/
  | seqSig (n : Fin 16)
  /-- SFX (R178): The sequencer arms a Starfix capture of a tick it names. -/
  | seqSfx (n : Fin 16)
  /-- PGLD (R173): The sequencer starts a fill of an IMEM page from attached memory. -/
  | seqPgld (n : Fin 16)
  /-- LD (R208): The sequencer issues a load of a word from its data address space. -/
  | seqLd (n : Fin 16)
  /-- ST (R208): The sequencer issues a store of gs to its data address space. -/
  | seqSt (n : Fin 16)
  /-- LDM (R209): The sequencer loads the registers named in MASK, restartably. -/
  | seqLdm (n : Fin 16)
  /-- STM (R209): The sequencer stores the registers named in MASK, restartably. -/
  | seqStm (n : Fin 16)
  /-- DATA_ACCESS_COMPLETE (R170): A service-class data access completes and its data or fault is applied. -/
  | dataAccessComplete (n : Fin 16) (status : Half)
  /-- SYSC (R178): The sequencer traps with cause SYSCALL. -/
  | seqSysc (n : Fin 16)
  /-- WAITI (R178): The service program waits for an interrupt. -/
  | seqWaiti (n : Fin 16)
  /-- FENCE (R178): The service program waits until earlier stores are complete. -/
  | seqFence (n : Fin 16)
  /-- HALT (R178): The service program stops with EXEC = STOP. -/
  | seqHalt (n : Fin 16)
  /-- ILLEGAL_OPCODE (R178): Opcode 0x1F traps with cause ILLEGAL. -/
  | seqIllegal (n : Fin 16)
  /-- INTERRUPT_ENTRY (R201): A pending enabled interrupt is taken, opening an interrupt frame at the vector. -/
  | interruptEntry (n : Fin 16)
  /-- PSQ_DOORBELL (R199): A host write to PSQ_DOORBELL makes source DOORBELL pending. -/
  | psqDoorbell (req : Requester) (n : Fin 16) (value : Word)
  /-- TIMER (R199): FRAMECNT reaches PSQ_TIMER and source TIMER becomes pending. -/
  | psqTimer (n : Fin 16)
  /-- PSQ_PG_CMD (R173): A write to PSQ_PG_CMD starts a page fill or is refused with PSQ_PAGE_BUSY. -/
  | psqPgCmd (req : Requester) (n : Fin 16) (page : Fin 16) (srcUnit : BitVec 24)
  /-- PAGE_FILL_DONE (R173): A page fill ends, the page becomes VALID or ERROR, and source PAGE becomes pending. -/
  | pageFillDone (n : Fin 16) (page : Fin 16) (status : Half)
  /-- WINDOW_SPILL (R194): The spill engine moves a resident frame from a bank into the window store. -/
  | windowSpill (n : Fin 16)
  /-- WINDOW_FILL (R194): The spill engine moves a frame from the window store back into a bank, checking it. -/
  | windowFill (n : Fin 16)
  /-- WSTORE_TO_MEMORY (R195): The window store writes its lowest-depth frames to attached memory above STORE_HI. -/
  | wstoreToMemory (n : Fin 16) (status : Half)
  /-- WSTORE_FROM_MEMORY (R195): The window store reads spilled frames back from attached memory below STORE_LO. -/
  | wstoreFromMemory (n : Fin 16) (status : Half)
  /-- PSQ_SEAL_SET (R213): A write of 1 to PSQ_SEAL.SET seals the sequencer. -/
  | psqSealSet (req : Requester) (n : Fin 16)
  /-- PSQ_WDBG_ACCESS (R215): An access to PSQ_WDBG_DATA reads or writes a bank register, or is refused. -/
  | psqWdbgAccess (req : Requester) (n : Fin 16) (write : Option Word)
  /-- PSQ_CONFIG_WRITE (R216): A write to a protected PSQ configuration register is performed or refused by site state. -/
  | psqConfigWrite (req : Requester) (n : Fin 16) (reg : PsqCfgReg) (value : Wide)
  /-- SLICE_COMPARE (R236): A slice compares a received frame against its expect codes and registers its fail word and OR. -/
  | sliceCompare (sl : Fin 256) (h : Half) (l : Half)
  /-- CAL (R238): A write of 1 to PSL_CTRL.CAL starts receive-alignment calibration or is refused. -/
  | pslCal (req : Requester) (sl : Fin 256)
  /-- CAL_DONE (R240): Calibration ends, setting deskew, strobe and alignment or failing with PSL_CAL_FAIL. -/
  | calDone (sl : Fin 256) (outcome : CalOutcome)
  /-- PSL_CNT_CLR (R237): A write of 1 to PSL_CTRL.CNT_CLR clears the slice counters and PSL_FIRST_FAIL. -/
  | pslCntClr (req : Requester) (sl : Fin 256)
  /-- PSL_SETTING_WRITE (R232): A write to a slice position, deskew, alignment, configuration or equaliser register is taken or refused. -/
  | pslSettingWrite (req : Requester) (sl : Fin 256) (reg : PslReg) (value : Word)
  /-- PSL_BIND (R249): A write to PSL_BIND binds or unbinds a slice, or is refused. -/
  | pslBind (req : Requester) (sl : Fin 256) (value : Word)
  /-- LOS (R250): Loss of signal on a slice's comparator inputs registers a partner loss or is logged as PSL_RX_LOS. -/
  | los (sl : Fin 256) (onH : Bool) (onL : Bool)
  /-- PRESENCE_ABSENT (R250): A partner's presence input shows absence and every slice bound to it loses its binding. -/
  | presenceAbsent (partner : Fin 64)
  /-- PSL_PARTNER_DROP (R250): A write to PSL_PARTNER_DROP declares a partner lost. -/
  | pslPartnerDrop (req : Requester) (partner : Fin 64)
  /-- PWR_EN_WRITE (R253): A write to PSL_QCTRL_q.PWR_EN powers a quadrant up or down, or is refused. -/
  | pwrEnWrite (req : Requester) (q : Fin 4) (en : Bool)
  /-- QUADRANT_READY (R253): A powered quadrant's serialisers lock, READY is set and its slices read SAFE. -/
  | quadrantReady (q : Fin 4)
  /-- QUADRANT_TIMEOUT (R253): A quadrant fails to reach READY in time, logs PWR_DOMAIN_TIMEOUT and is switched off. -/
  | quadrantTimeout (q : Fin 4)
  /-- FAIL_PACKET_HANDOVER (R266): A fail packet is handed to its capture queue and placed against a credit or refused. -/
  | failPacketHandover (x : Fin 128)
  /-- CREDIT_REFILL (R264): A source's refill accumulator reaches 256 and it attempts to reserve space for one credit. -/
  | creditRefill (x : Fin 128)
  /-- SATURATION_EXIT (R270): A saturated source reaches SAT_EXIT credits and writes its saturation marker. -/
  | saturationExit (x : Fin 128)
  /-- DRAIN_RECORD (R287): The drain engine processes queued items into fail-region records by FORM. -/
  | drainRecord (k : Fin 64)
  /-- RECORD_WRITE_DONE (R291): A record's memory write completes and WTOTAL advances, or fails with FCQ_DRAIN_ERR. -/
  | recordWriteDone (k : Fin 64) (status : Half)
  /-- COUNT_PERIOD (R289): TICK_COUNT crosses a multiple of 2^(CP + 10) and COUNT records are written. -/
  | countPeriod (k : Fin 64)
  /-- QUEUE_FLUSH_BEGIN (R276): Eight ticks after its site leaves the active states, a capture queue enters FLUSH. -/
  | queueFlushBegin (k : Fin 64)
  /-- FLUSH_DONE (R277): A flush completes and the queue returns to READY. -/
  | flushDone (k : Fin 64)
  /-- FCQ_PTR_MISMATCH (R296): Duplicated queue pointer copies disagree and the queue enters RESET. -/
  | fcqPtrMismatch (q : QueueId) (ptr : PtrId) (copy1 : Word) (copy2 : Word)
  /-- QUEUE_RESET_DONE (R296): A queue reset completes, writes a reset marker and returns to its previous state. -/
  | queueResetDone (q : QueueId)
  /-- FCQ_CONFIG_WRITE (R275): A write to a queue, fail-region or source configuration register is performed or refused by queue state. -/
  | fcqConfigWrite (req : Requester) (reg : FcqReg) (value : Wide)
  /-- CKPT (R289): The CKPT command writes COUNT records. -/
  | ckpt (req : Requester) (k : Fin 64)
  /-- Q_RESET (R304): A host RESET of a capture queue acts as a pointer-mismatch reset without logging. -/
  | qReset (req : Requester) (k : Fin 64)
  /-- Q_DROP (R281): A DROP discards the rest of the packet the tap is reading. -/
  | qDrop (req : Requester) (k : Fin 64)
  /-- MARK_SET (R292): MARK_SET stores the current WTOTAL in a replay mark and makes it valid. -/
  | markSet (req : Requester) (k : Fin 64) (m : Fin 4)
  /-- MARK_CLR (R292): MARK_CLR invalidates a replay mark. -/
  | markClr (req : Requester) (k : Fin 64) (m : Fin 4)
  /-- SQ_DROP (R281): A DROP discards the rest of the stream packet being read. -/
  | sqDrop (req : Requester) (j : Fin 8)
  /-- SQ_RESET (R296): A host RESET of a stream queue discards its contents. -/
  | sqReset (req : Requester) (j : Fin 8)
  /-- SQ_WM_WRITE (R299): A write to FCQ_SQ_WM sets the watermarks or is refused when LO is not below HI. -/
  | sqWmWrite (req : Requester) (j : Fin 8) (value : Word)
  /-- STREAM_PACKET_WRITE (R298): A producer writes a packet into a stream queue, waiting for room where allowed. -/
  | streamPacketWrite (j : Fin 8) (part : PacketPart)
  /-- SQ_POP (R300): A read of the low half of FCQ_SQ_POP pops one stream item. -/
  | sqPop (req : Requester) (j : Fin 8)
  /-- COLLECT_PACKET (R316): A solver collector maps a fail packet through the lane map and applies its fail bits. -/
  | collectPacket (l : Fin 16) (k : Fin 64)
  /-- COLLECT_MARKER (R317): A saturation or reset marker sets INPUT_LOSS on affected open regions. -/
  | collectMarker (l : Fin 16) (k : Fin 64)
  /-- SLV_STORE_ECC (R322): A store unit has an uncorrectable ECC error and is discarded. -/
  | slvStoreEcc (g : Fin 4096) (unit : StoreUnit)
  /-- LANE_MAP (R315): A write to SLV_CMD with OP = 1; `status` is the outcome that the network or memory brings to the read of the map. -/
  | laneMap (req : Requester) (l : Fin 16) (status : Half)
  /-- LANE_RESET (R328): LANE_RESET returns a mapped lane to IDLE. -/
  | laneReset (req : Requester) (l : Fin 16)
  /-- OPEN (R329): OPEN reads and checks descriptors and opens a range of free regions, all or nothing. -/
  | slvOpen (req : Requester) (g : Fin 4096) (cnt : Fin 4096) (status : Half)
  /-- CLOSE (R332): CLOSE closes open regions at the next packet boundary and queues them when AUTO. -/
  | slvClose (req : Requester) (g : Fin 4096) (cnt : Fin 4096)
  /-- SOLVE (R328): SOLVE queues closed regions for solving. -/
  | slvSolve (req : Requester) (g : Fin 4096) (cnt : Fin 4096)
  /-- RESOLVE (R344): RESOLVE re-solves a solved region from the store or by replay. -/
  | slvResolve (req : Requester) (g : Fin 4096) (cnt : Fin 4096) (status : Half)
  /-- ABORT (R328): ABORT stops queued, solving or replaying regions. -/
  | slvAbort (req : Requester) (g : Fin 4096) (cnt : Fin 4096)
  /-- RELEASE (R328): RELEASE frees regions' store units and makes them FREE. -/
  | slvRelease (req : Requester) (g : Fin 4096) (cnt : Fin 4096)
  /-- SLV_CMD_COMPLETE (R328): A solver command completes and SLV_CMD_STAT is written. -/
  | slvCmdComplete
  /-- SOLVE_BEGIN (R333): A lane's solver takes its oldest queued region and starts solving it. -/
  | solveBegin (l : Fin 16)
  /-- SOLVE_COMPLETE (R334): A solve ends through its phases and the result record is written. -/
  | solveComplete (l : Fin 16) (status : Half)
  /-- RESULT_ENQUEUE (R343): A waiting result record finds room in its stream queue or is dropped. -/
  | resultEnqueue (l : Fin 16)
  /-- REPLAY_COMPLETE (R345): A replay finishes reading the tapped queues' records and the region is queued or restored. -/
  | replayComplete (l : Fin 16) (status : Half)
  /-- SLV_CTRL_WRITE (R348): A write to SLV_CTRL.EN enables or disables the engine, or is refused. -/
  | slvCtrlWrite (req : Requester) (en : Bool)
  /-- SLV_LANE_CFG_WRITE (R349): A write to SLV_LANE_CFG_l is refused while the lane collects. -/
  | slvLaneCfgWrite (req : Requester) (l : Fin 16) (value : Word)
  /-- NOC_REQUEST (R355): An NI injects a request packet on its route to its target. -/
  | nocRequest (ni : Fin 177) (tag : Byte) (body : RequestBody) (addr : BitVec 48) (len : Fin 257)
  /-- MEM_ACCESS (R384): A memory controller serves a read or write, correcting or reporting ECC errors. -/
  | memAccess (c : Fin 8) (cycles : Half) (faults : List (Fin 5 × MemFault))
  /-- NOC_COMPLETION (R355): A completion arrives at the requesting NI and ends the request. -/
  | nocCompletion (ni : Fin 177) (tag : Byte) (link : LinkFault)
  /-- NOC_TIMEOUT (R358): A request receives no completion in time and is completed with NOC_TIMEOUT. -/
  | nocTimeout (ni : Fin 177) (tag : Byte)
  /-- ROUTE_HOLD_EXPIRY (R369): A request head waits HOLD cycles for a withdrawn router, is dropped and NACKed. -/
  | routeHoldExpiry (ni : Fin 177) (tag : Byte) (router : Fin 64)
  /-- NACK (R371): A NACK reaches the source NI, which resends on the alternate or fails the request. -/
  | nack (ni : Fin 177) (tag : Byte)
  /-- BEGIN (R368): NOC_RTR_CMD BEGIN withdraws a router from service. -/
  | nocBegin (req : Requester) (r : Fin 64)
  /-- ROUTER_DRAINED (R368): A withdrawn router holds no flit and sets its drained bit. -/
  | routerDrained (r : Fin 64)
  /-- END (R372): NOC_RTR_CMD END returns a router to service. -/
  | nocEnd (req : Requester) (r : Fin 64)
  /-- NOC_RECONF_TIMEOUT (R372): A router withdrawn for RECONF_US returns to service by itself. -/
  | nocReconfTimeout (r : Fin 64)
  /-- NOC_FENCE (R374): A FENCE command fences a power domain's NIs or is refused. -/
  | nocFence (req : Requester) (d : Fin 32)
  /-- DOMAIN_FENCED (R375): A fenced domain has no outstanding requests and becomes FENCED. -/
  | domainFenced (d : Fin 32)
  /-- NOC_UNFENCE (R376): An UNFENCE command removes a domain's fence or is refused. -/
  | nocUnfence (req : Requester) (d : Fin 32)
  /-- ROUTE_COMMIT (R362): A write to NOC_RT_ADDR with COMMIT = 1 writes a route-table entry or is refused. -/
  | routeCommit (req : Requester) (src : Byte) (dest : Byte)
  /-- ROUTE_LOAD (R361): A write to NOC_RT_ADDR with COMMIT = 0 loads an entry into NOC_RT_PRI and NOC_RT_ALT. -/
  | routeLoad (req : Requester) (src : Byte) (dest : Byte)
  /-- NOC_TIMEOUT_WRITE (R394): A write to NOC_TIMEOUT is taken or refused when REQ_US does not exceed RECONF_US. -/
  | nocTimeoutWrite (req : Requester) (value : Word)
  /-- INIT (R380): MEMC_CTRL INIT starts channel initialisation. -/
  | memcInit (req : Requester) (c : Fin 8)
  /-- READY (R380): MEMC_CTRL READY declares a channel ready. -/
  | memcReady (req : Requester) (c : Fin 8)
  /-- SR_ENTER (R382): MEMC_CTRL SR_ENTER puts a channel into self-refresh. -/
  | memcSrEnter (req : Requester) (c : Fin 8)
  /-- SR_EXIT (R382): MEMC_CTRL SR_EXIT leaves self-refresh using retained PHY results. -/
  | memcSrExit (req : Requester) (c : Fin 8)
  /-- ERASE (R383): MEMC_CTRL ERASE sets an erasure on one component of a subchannel. -/
  | memcErase (req : Requester) (c : Fin 8) (sub : Fin 2) (comp : Fin 8)
  /-- UNERASE (R383): MEMC_CTRL UNERASE removes the erasure. -/
  | memcUnerase (req : Requester) (c : Fin 8)
  /-- FAIL (R380): MEMC_CTRL FAIL declares a channel FAILED and logs MEM_TRAIN_FAIL. -/
  | memcFail (req : Requester) (c : Fin 8)
  /-- MEMC_MR_GO (R380): A write of GO to MEMC_MR issues a mode-register read or write in INIT. -/
  | memcMrGo (req : Requester) (c : Fin 8) (value : Word)
  /-- PATROL_SCRUB (R385): The patrol scrub reads and corrects a line in its period. -/
  | patrolScrub (c : Fin 8) (laddr : BitVec 35) (faults : List MemFault)
  /-- DRAM_TEMP_REPORT (R385): A component's temperature crosses 85 °C or 80 °C and refresh rate and HOT change. -/
  | dramTempReport (c : Fin 8) (celsius : Byte)
  /-- MEMC_MAP_WRITE (R395): A write to MEMC_MAP is taken or refused by channel state and RATE. -/
  | memcMapWrite (req : Requester) (value : Word)
  /-- MEMC_BAR2_BASE_WRITE (R392): A write to MEMC_BAR2_BASE moves the BAR2 window or is refused above 192. -/
  | memcBar2BaseWrite (req : Requester) (value : Word)
  /-- BAR2_ACCESS (R566): A BAR2 TLP is translated into an attached-memory request by NI 168. -/
  | bar2Access (off : BitVec 36) (write : Option (List Byte)) (len : Fin 4097) (status : Half)
  /-- CFG_LOAD (R409): CFG_CMD LOAD starts a bitstream load from memory or flash, or is refused. -/
  | cfgLoad (req : Requester) (src : Fin 8) (chain : Bool) (fallback : Bool)
  /-- CFG_ABORT (R416): CFG_CMD ABORT ends a load before commit with CFG_ABORTED. -/
  | cfgAbort (req : Requester)
  /-- CFG_HEADER (R410): A bitstream header is received and checked, and the load begins or ends. -/
  | cfgHeader (bytes : List Byte) (status : Half)
  /-- CHUNK_AUTHENTICATE (R413): A received chunk is decrypted and its GCM tag is checked. -/
  | chunkAuthenticate (cipher : List Byte) (tag : List Byte) (status : Half)
  /-- REGION_MAP (R404): A REGION_MAP frame writes the cluster and X-cell region map. -/
  | regionMap
  /-- REGION_DESC (R404): A REGION_DESC frame sets a region's site and border policy. -/
  | regionDesc
  /-- CELL_WORDS (R404): A CELL_WORDS frame writes context-store words of a cell. -/
  | cellWords
  /-- ROUTE_WORDS (R404): A ROUTE_WORDS frame writes routing words of a position. -/
  | routeWords
  /-- MCELL_INIT (R404): An MCELL_INIT frame writes initial M-cell words. -/
  | mcellInit
  /-- PSQ_IMEM (R404): A PSQ_IMEM frame writes sequencer instructions. -/
  | psqImem
  /-- PSQ_CONFIG (R404): A PSQ_CONFIG frame writes vector entries, entry points and configuration of a sequencer. -/
  | psqConfig
  /-- SLICE_SITE (R404): A SLICE_SITE frame writes every slice's site assignment. -/
  | sliceSite
  /-- INIT_STATE (R404): An INIT_STATE frame sets initial register values of a cell. -/
  | initState
  /-- FRAME_END (R405): The END frame closes the image's frame stream. -/
  | frameEnd
  /-- SIGNATURE_CHECK (R402): After the last chunk the image signature is checked. -/
  | signatureCheck (bytes : List Byte) (status : Half)
  /-- CFG_STALL_TIMEOUT (R418): A load source stalls for STALL_US and the load fails with CFG_TRUNCATED. -/
  | cfgStallTimeout
  /-- END_OF_CHAIN (R421): The end-of-chain record is received, forwarded, and the device is ready for the next stream. -/
  | endOfChain (bytes : List Byte) (status : Half)
  /-- CFG_CHAIN_WRITE (R431): A write to CFG_CHAIN is refused while a chain stream is in progress. -/
  | cfgChainWrite (req : Requester) (value : Word)
  /-- PORT_LOAD (R425): The configuration port's LOAD command loads an image or chain stream. -/
  | portLoad (chain : Bool) (len : Word)
  /-- READBACK (R426): The configuration port's READBACK command returns read-back words. -/
  | readback (addr : Word) (count : Word)
  /-- PORT_STATUS (R425): The configuration port's STATUS command returns CFG_STAT. -/
  | portStatus
  /-- PORT_ABORT (R416): The configuration port's ABORT command aborts a load. -/
  | portAbort
  /-- POWER_UP (R433): PD00 powers up, resetting every domain and beginning a start attempt with FAILS = 0. -/
  | powerUp (kcvOk : Bool) (vbatLost : Bool) (sense : FuseSense) (a : FwRead) (b : FwRead)
  /-- PD00_POWER_LOSS (R550): PD00 loses power and the device goes OFF. -/
  | pd00PowerLoss (mboxBlow : Bool)
  /-- POR_N_RELEASE (R433): POR_N is released and a start attempt begins with CAUSE 1. -/
  | porNRelease (sense : FuseSense)
  /-- WRST_N_RELEASE (R433): WRST_N is released and a warm-reset start attempt begins with CAUSE 2. -/
  | wrstNRelease
  /-- BOOT_WDT_EXPIRED (R435): The boot watchdog expires before READY and the attempt fails with a warm reset. -/
  | bootWdtExpired
  /-- FIRMWARE_FAILURE_RESET (R434): Boot ROM or firmware declares a failure, writes the boot record and resets with CAUSE 4. -/
  | firmwareFailureReset (code : Half) (stage : Fin 8) (detail : Word) (slotB : Bool)
  /-- BOOT_READY (R434): A start attempt reaches READY, clears FAILS, writes its boot record and copies boot records to the log. -/
  | bootReady (a : FwRead) (b : FwRead) (test : SelfTest)
  /-- QUOTE (R450): The QUOTE mailbox command writes a signed attestation quote. -/
  | quote (req : Requester)
  /-- READ_LOG (R442): The READ_LOG mailbox command writes stored attestation log entries. -/
  | readLog (req : Requester)
  /-- READ_IDKEY (R442): The READ_IDKEY mailbox command writes the identity public key. -/
  | readIdkey (req : Requester)
  /-- BOOT_HOST (R440): The BOOT_HOST mailbox command checks a host firmware image and begins a CAUSE 9 attempt. -/
  | bootHost (req : Requester)
  /-- RETRY (R440): The RETRY mailbox command clears FAILS and warm-resets with CAUSE 5. -/
  | retry (req : Requester)
  /-- ENROL_OWNER (R446): The ENROL_OWNER mailbox command programs owner key slot 0. -/
  | enrolOwner (req : Requester)
  /-- ROTATE_OWNER (R446): The ROTATE_OWNER mailbox command programs slot 1 and revokes slot 0. -/
  | rotateOwner (req : Requester)
  /-- PROVISION_KEY (R445): The PROVISION_KEY mailbox command stores a key in a fuse slot or the battery-backed store. -/
  | provisionKey (req : Requester) (arg : Byte)
  /-- REVOKE_KEY (R442): The REVOKE_KEY mailbox command revokes a fuse key slot. -/
  | revokeKey (req : Requester) (arg : Byte)
  /-- LOCK (R442): The LOCK mailbox command blows the named lock fuses. -/
  | lock (req : Requester) (arg : Byte)
  /-- LOAD_MODULE (R447): The LOAD_MODULE mailbox command authenticates and starts an owner module. -/
  | loadModule (req : Requester)
  /-- ZEROIZE (R442): The ZEROIZE mailbox command clears the battery-backed key. -/
  | zeroize (req : Requester)
  /-- SEC_MBOX_COMPLETE (R442): A mailbox command completes and STATUS and LEN are written. -/
  | secMboxComplete (status : Half) (wstatus : Half) (blowOk : Bool)
  /-- TAMPER (R451): TAMPER_N acts, clearing the battery-backed key and counting the event. -/
  | tamper (pin : TamperPin)
  /-- TEST_MODE_ENTRY (R456): A test-mode instruction loaded with JTAG_LOCK = 0 clears secrets and warm-resets with CAUSE 7. -/
  | testModeEntry (ir : Byte) (blowOk : Bool) (mboxBlow : Bool)
  /-- TEST_MODE_EXIT (R456): A boundary-scan instruction or TRST_N lets the next start attempt begin after test-mode entry. -/
  | testModeExit (trst : Bool) (ir : Byte)
  /-- BYPASS (R591): BYPASS is loaded in Update-IR: the bypass register, which captures 0, is selected. -/
  | bypass
  /-- IDCODE (R591): IDCODE is loaded in Update-IR: the data register captures 0x5884_005F. -/
  | idcode
  /-- SAMPLE (R591): SAMPLE is loaded and the boundary register captures the pins, whose levels are `pins`. -/
  | sample (pins : List Bool)
  /-- PRELOAD (R591): PRELOAD is loaded and `data` is shifted into the boundary register. -/
  | preload (data : List Bool)
  /-- EXTEST (R591): EXTEST is loaded: the pins are driven from the boundary register, and their levels `pins` are captured. -/
  | extest (pins : List Bool)
  /-- CLAMP (R591): CLAMP is loaded: the pins stay at the boundary register's values with the bypass register selected. -/
  | clamp
  /-- HIGHZ (R591): HIGHZ is loaded: the outputs are in high impedance with the bypass register selected. -/
  | highz
  /-- EXTEST_PULSE (R591): EXTEST_PULSE is loaded: the AC-coupled pins are tested with pulses, and their levels `pins` are captured. -/
  | extestPulse (pins : List Bool)
  /-- EXTEST_TRAIN (R591): EXTEST_TRAIN is loaded: the AC-coupled pins are tested with pulse trains, and their levels `pins` are captured. -/
  | extestTrain (pins : List Bool)
  /-- CASCADE_LINK_UP (R465): A cascade port gains block lock and deskew on all lanes and comes UP. -/
  | cascadeLinkUp (p : Fin 8)
  /-- CASCADE_LINK_DOWN (R465): A cascade port goes DOWN and logs CSC_LINK_DOWN. -/
  | cascadeLinkDown (p : Fin 8)
  /-- ALIGN (R461): An ALIGN control block deskews the lanes of a port. -/
  | align (p : Fin 8) (body : BitVec 40)
  /-- SYNC (R476): A SYNC block arrives and is timestamped for calibration or tracking. -/
  | sync (p : Fin 8) (body : BitVec 40) (ta : BitVec 24)
  /-- ECHO (R476): An ECHO block returns and the upstream device updates its loop measurement. -/
  | echo (p : Fin 8) (body : BitVec 40) (n : Wide) (elapsed : Word)
  /-- PKT (R466): A PKT block and its data blocks deliver a packet, checked by CRC and SEQ. -/
  | pkt (p : Fin 8) (seq : Fin 1024) (bytes : List Byte)
  /-- ACK (R467): An ACK block releases acknowledged packets from the resend buffer. -/
  | ack (p : Fin 8) (body : BitVec 40)
  /-- NAK (R467): A NAK block makes the sender resend from the named SEQ. -/
  | nak (p : Fin 8) (body : BitVec 40)
  /-- PACKET_ACK_TIMEOUT (R467): No ACK arrives for 20 µs or a packet is resent 8 times and the port goes DOWN. -/
  | packetAckTimeout (p : Fin 8)
  /-- HOLD_BLOCK (R487): A HOLD control block is received and relayed, scheduling a hold at its effective tick. -/
  | holdBlock (p : Fin 8) (body : BitVec 40)
  /-- DOWN (R488): A DOWN control block announces a device leaving in order. -/
  | down (p : Fin 8) (body : BitVec 40)
  /-- VOTE_FIELD_RECEIVED (R482): A vote or decision field is deserialised, decoded, combined or relayed and delivered. -/
  | voteFieldReceived (p : Fin 8) (field : BitVec 24) (phase : Fin 64)
  /-- VOTE_FIELD_LOST (R485): A due vote field does not arrive valid and a group hold is raised. -/
  | voteFieldLost (p : Fin 8)
  /-- HOLD_EFFECTIVE (R487): At EFF every matching active site enters SAFE_HOLD with CSC_REMOTE_HOLD. -/
  | holdEffective
  /-- MEM_RD (R468): A MEM_RD packet requests a pooled-memory read at the target. -/
  | memRd (status : Half)
  /-- MEM_WR (R468): A MEM_WR packet requests a pooled-memory write at the target. -/
  | memWr (status : Half)
  /-- MEM_CPL (R468): A MEM_CPL packet completes a pooled-memory request. -/
  | memCpl
  /-- CHAIN (R468): A CHAIN packet carries chain-stream bytes to the next device. -/
  | chain
  /-- HELLO (R470): A HELLO packet offers a pole candidate during discovery. -/
  | hello
  /-- ASSIGN (R471): An ASSIGN packet admits a device and sets its upstream port. -/
  | assign
  /-- REPORT (R472): A REPORT packet gives a member's state, requests and measurements to the pole. -/
  | report
  /-- POSITION (R473): A POSITION packet assigns a member its position and sets CFG_CHAIN. -/
  | position
  /-- TICKSET (R476): A TICKSET packet sets a member's FCK phase and TICK_COUNT. -/
  | tickset (elapsed : Word) (err : Byte)
  /-- FLIGHT (R479): A FLIGHT packet sets Fu and Fd in TICK_VOTE_FLIGHT. -/
  | flight
  /-- VGRP (R484): A VGRP packet copies the pole's vote-group settings to a member. -/
  | vgrp
  /-- FCKSET (R493): An FCKSET packet schedules a constellation FCK change at a stop tick. -/
  | fckset
  /-- FCK_STOP_TICK_REACHED (R493): The FCKSET stop tick is reached and each device stops FCK and relocks. -/
  | fckStopTickReached
  /-- REG_RD (R500): A REG_RD packet performs a remote BAR0 read. -/
  | regRd
  /-- REG_WR (R500): A REG_WR packet performs a remote BAR0 write. -/
  | regWr
  /-- REG_RSP (R500): A REG_RSP packet completes a remote register access. -/
  | regRsp
  /-- HELLO_TIMER (R470): Every 10 µs during discovery a device sends HELLO on every UP port. -/
  | helloTimer
  /-- POLE_ELECTED (R470): A device that remains its own candidate for 200 µs becomes pole. -/
  | poleElected
  /-- FORM_TIMEOUT (R475): A device left with no UP port 1 ms after FORM enters ALONE. -/
  | formTimeout
  /-- ALIGN_TRACKING (R478): Every 65,536 ticks a SYNC and ECHO re-measure the link and trim the member's phase. -/
  | alignTracking (p : Fin 8)
  /-- FORM (R469): CSC_CMD FORM starts constellation discovery. -/
  | form (req : Requester)
  /-- LEAVE (R494): CSC_CMD LEAVE sends DOWN and makes the device ALONE. -/
  | leave (req : Requester)
  /-- RECAL (R498): CSC_CMD RECAL recalibrates every link of a quiet constellation. -/
  | recal (req : Requester)
  /-- REMOTE (R500): CSC_CMD REMOTE makes one 32-bit access to a device's BAR0. -/
  | remote (req : Requester)
  /-- REMOTE_TIMEOUT (R500): A remote access has no response within 100 µs and fails with CSC_REMOTE_ERR. -/
  | remoteTimeout
  /-- CSC_VGRP_WRITE (R499): A write to a vote-group register is refused on members or while a site of the group is active. -/
  | cscVgrpWrite (req : Requester) (g : Fin 16) (start : Bool) (value : Wide)
  /-- BIST_SLICE_START (R506): The self-test engine starts a slice, taking over a cell or saving state as its method requires. -/
  | bistSliceStart (cl : Fin 256) (j : Fin 10) (differs : Option (Fin 3))
  /-- BIST_SLICE_END (R518): A slice ends with a verdict and the engine hands back, repairs or marks the unit failed. -/
  | bistSliceEnd (cl : Fin 256) (logic : PartEnd) (chunk : PartEnd) (rows : List (Fin 256)) (spares : List (Fin 16)) (differs : Option (Fin 3))
  /-- BIST_SLICE_ABORT (R520): A request held for 2 µs aborts the slice, which restores state and is rescheduled. -/
  | bistSliceAbort (cl : Fin 256) (how : AbortEnd) (sig : Wide)
  /-- NIGHTFALL (R526): BIST_CMD NIGHTFALL runs the shutdown test groups or is refused. -/
  | nightfall (req : Requester)
  /-- NIGHTFALL_COMPLETE (R526): The Nightfall test ends, writing the ledger and leaving the device READY. -/
  | nightfallComplete (tck : GroupEnd) (xcl : GroupEnd) (psl : GroupEnd) (key : GroupEnd) (ended : Wide)
  /-- BLOW (R530): BIST_FUSE_CMD BLOW programs a repair record into the lowest blank record, or is refused. -/
  | blow (req : Requester)
  /-- VOID (R530): BIST_FUSE_CMD VOID blows the VOID bit of a record, or is refused. -/
  | void (req : Requester) (index : Fin 64)
  /-- FUSE_BLOW_DONE (R531): A fuse blow completes and is verified, or fails with BIST_FUSE_BLOW_FAIL. -/
  | fuseBlowDone (ok : Bool)
  /-- ERROR_REPORT (R536): A block raises a report, which enters the logger intake, merges into the pending report or is lost. -/
  | errorReport (code : Half) (source : Word) (detail : Wide)
  /-- LOGGER_TAKE_ENTRY (R538): The logger takes one intake entry and writes a full record or coalesces it. -/
  | loggerTakeEntry
  /-- SUMMARY_PERIOD (R540): TICK_COUNT crosses the summary period and summary records are written. -/
  | summaryPeriod
  /-- ROLL (R540): ERR_CMD ROLL writes summary records for pending kinds. -/
  | errRoll (req : Requester)
  /-- CLEAR (R540): ERR_CMD CLEAR writes summaries, frees every kind entry and clears ERR_LOST. -/
  | errClear (req : Requester)
  /-- DUMP_ACK (R558): ERR_CMD DUMP_ACK clears the dump slot flags and ERR_FATAL. -/
  | dumpAck (req : Requester)
  /-- ERR_RPTR_WRITE (R545): A write to ERR_RPTR frees log records or is refused when out of range. -/
  | errRptrWrite (req : Requester) (value : Word)
  /-- LOG_MIRROR (R545): Firmware copies a new log record to the mirror in channel window 1. -/
  | logMirror (status : Half)
  /-- FATAL_REPORT (R552): A class-F report latches ERR_FATAL, takes the device to FAULT, holds sites and starts the dump. -/
  | fatalReport (code : Half) (source : Word) (detail : Wide)
  /-- DUMP_COMPLETE (R556): The firmware has written the dump: how its writes to the slot and, where they are made, to host memory ended. -/
  | dumpComplete (slotStatus : Half) (hostStatus : Half)
  /-- DUMP_AUTO_RESET (R558): One millisecond after the dump, with AUTO_RESET, firmware warm-resets with CAUSE 8. -/
  | dumpAutoReset
  /-- PERST (R567): PERST# is asserted: the PCIe core, the configuration space and the HIF queue state are reset. -/
  | perst
  /-- HOT_RESET (R567): A Hot Reset arrives on the link. -/
  | hotReset
  /-- LINK_DOWN (R567): The PCIe link goes down. -/
  | linkDown
  /-- FLR (R568): A Function Level Reset: a host warm reset. -/
  | flr
  /-- HIF_RESET_WRITE (R568): A write of `value` to HIF_RESET. -/
  | hifResetWrite (req : Requester) (value : Word)
  /-- CMQ_ENABLE (R571): A write of `value` to HIF_CMQ_CTRL_q. -/
  | cmqEnable (req : Requester) (q : Fin 8) (value : Word)
  /-- CMQ_DOORBELL (R575): A write of `value` to CMQ TAIL of queue `q`. -/
  | cmqDoorbell (req : Requester) (q : Fin 8) (value : Half)
  /-- CPQ_HEAD_WRITE (R575): A write of `value` to CPQ HEAD of queue `q`. -/
  | cpqHeadWrite (req : Requester) (q : Fin 8) (value : Half)
  /-- CMD_START (R574): Firmware reads the next entry of command queue `q`, a read that ends with `status`, and starts the command. -/
  | cmdStart (q : Fin 8) (status : Half)
  /-- CMD_NOP (R576): The oldest NOP started and not yet carried out on queue `q`. -/
  | cmdNop (q : Fin 8)
  /-- CMD_REG_WR (R576): The oldest such REG_WR of queue `q` makes its writes. -/
  | cmdRegWr (q : Fin 8)
  /-- CMD_REG_RD (R576): The oldest such REG_RD of queue `q` makes its read. -/
  | cmdRegRd (q : Fin 8)
  /-- CMD_COPY (R577): The oldest such COPY of queue `q` ends with `status`; where it fails, `done` bytes have been copied. -/
  | cmdCopy (q : Fin 8) (status : Half) (done : Word)
  /-- CMD_CFG_LOAD (R577): The oldest such CFG_LOAD of queue `q` starts a load. -/
  | cmdCfgLoad (q : Fin 8)
  /-- CMD_SITE_CMD (R578): The oldest such SITE_CMD of queue `q` is registered. -/
  | cmdSiteCmd (q : Fin 8)
  /-- CMD_SLV_CMD (R577): The oldest such SLV_CMD of queue `q` is issued; `status` ends the reads its command makes. -/
  | cmdSlvCmd (q : Fin 8) (status : Half)
  /-- CMD_COMPLETE (R574): The oldest finished command `cid` of queue `q` completes, the write of its completion ending with `status`. -/
  | cmdComplete (q : Fin 8) (cid : Half) (status : Half)
  /-- ELOG_EVENT_WINDOW (R580): The error-log event window ends and one delayed error-log event is posted. -/
  | elogEventWindow
  /-- EVQ_ENABLE (R579): A write of `value` to HIF_EVQ_CTRL. -/
  | evqEnable (req : Requester) (value : Word)
  /-- UPLOAD_ENABLE (R583): A write of `value` to HIF_UPL_CTRL_j. -/
  | uploadEnable (req : Requester) (j : Fin 8) (value : Word)
  /-- UPLOAD_PACKET (R582): Upload engine `j` moves a packet, its writes ending with `status`; `irq` tells that IRQ_US µs have passed since its last vector. -/
  | uploadPacket (j : Fin 8) (status : Half) (irq : Bool)
  /-- HOT_JOIN (R586): A target with these characteristics and this descriptor joins on I3C`bus`; `addr` is the dynamic address that firmware gives it, none when none is free. -/
  | hotJoin (bus : Bool) (pid : BitVec 48) (bcr : Byte) (dcr : Byte) (desc : BitVec 128) (addr : Option Byte)
  /-- PARTNER_POLL (R587): The poll of every online partner, of which those in `fails` have not answered. -/
  | partnerPoll (fails : BitVec 64)
  /-- AUX_I3C_XFER (R588): A write of `value` to AUX_I3C_XFER. -/
  | auxI3cXfer (req : Requester) (value : Word)
  /-- I3C_XFER_DONE (R588): The transfer in progress ends; a read has brought `data`, first byte lowest. -/
  | i3cXferDone (ok : Bool) (data : BitVec 256)
  /-- READ (R590): A write to AUX_XSPI_CMD with GO = 1 and OP = READ. -/
  | xspiRead (req : Requester)
  /-- PROGRAM (R590): A write to AUX_XSPI_CMD with GO = 1 and OP = PROGRAM. -/
  | xspiProgram (req : Requester)
  /-- ERASE_4K (R590): A write to AUX_XSPI_CMD with GO = 1 and OP = ERASE_4K. -/
  | xspiErase4k (req : Requester)
  /-- ERASE_64K (R590): A write to AUX_XSPI_CMD with GO = 1 and OP = ERASE_64K. -/
  | xspiErase64k (req : Requester)
  /-- XSPI_CMD_DONE (R590): The flash command in progress ends: its accesses to attached memory with `status`, and with the flash's own status where it has failed. -/
  | xspiCmdDone (status : Half) (flashFail : Option Byte)
  /-- PWR_ON (R604): A write to PWR_DOM_CMD with OP = ON for domain `d`. -/
  | pwrOn (req : Requester) (d : Fin 32)
  /-- PWR_OFF (R603): A write to PWR_DOM_CMD with OP = OFF for domain `d`. -/
  | pwrOff (req : Requester) (d : Fin 32)
  /-- DOMAIN_SWITCH_DONE (R603): A domain switch completes and PWR_DOM_STAT and BUSY are updated. -/
  | domainSwitchDone
  /-- PWR_DOMAIN_TIMEOUT (R605): A domain does not reach FENCED or power good in time and the switch fails. -/
  | pwrDomainTimeout
  /-- REF_LOST (R599): REF shows no edge for 2 µs and REF_LOST is set. -/
  | refLost
  /-- CLK_PLL_UNLOCK (R600): PLL `pll` of CLK_STAT, other than the FCK PLL, loses lock. -/
  | clkPllUnlock (pll : Fin 10)
  /-- PLL_RELOCK (R600): PLL `pll` of CLK_STAT has locked again. -/
  | pllRelock (pll : Fin 10)
  /-- PWR_RAIL_FAULT (R611): Rail `rail` has been outside its window for 10 µs. -/
  | pwrRailFault (rail : Fin 4)
  /-- PWR_THERMAL_WARN (R613): Sensor `sensor` reads `temp`, in 1/16 °C. -/
  | pwrThermalWarn (sensor : Fin 8) (temp : Half)
  /-- PWR_THERMAL_TRIP (R613): Sensor `sensor` has stood at 110 °C or above for 1 ms and reads `temp`. -/
  | pwrThermalTrip (sensor : Fin 8) (temp : Half)
  /-- THERMTRIP (R613): Sensor `sensor` reads `temp`. -/
  | thermtrip (sensor : Fin 8) (temp : Half)
  /-- FCK_EDGE (R52): At every FCK edge while FCK runs, TICK_COUNT increments by 1. -/
  | fckEdge
  /-- REGISTER_READ (R18): A host read of a BAR0 register clears RC fields and, for the low half of a 64-bit register, latches the high half. -/
  | regRead (req : Requester) (off : BitVec 26) (wide : Bool)
  /-- RCLK_SYNC_TRANSFER (R116): A word taken on a routed-clock edge reaches the tick-side output of its synchroniser 2 to 4 ticks after that edge. -/
  | rclkSyncTransfer (slot : Fin 2560)
  /-- PCIE_LINK_UP (R569): The link comes up at speed code `speed` + 1 and 2^`width` lanes, and the host's configuration writes follow. -/
  | pcieLinkUp (speed : Fin 5) (width : Fin 5) (msixOn : Bool) (busMaster : Bool)
  /-- AER_UNCORRECTABLE (R595): An uncorrectable AER error with this status is recorded. -/
  | aerUncorrectable (status : Word)
  /-- MEMC_MR_DONE (R380): A mode-register command completes, MEMC_MR.BUSY clears and MRR data is returned in DATA. -/
  | memcMrDone (c : Fin 8) (data : Byte)
  /-- LOS_RECOVERY (R250): Signal returns on CMPH or CMPL and LOS_H, LOS_L and the slice's PSL_LOS bit clear, while a stale binding stays stale. -/
  | losRecovery (sl : Fin 256) (onH : Bool) (onL : Bool)
  /-- CFG_CS_N_RAISE (R425): Raising CFG_CS_N ends the configuration-port command in progress. -/
  | cfgCsNRaise
  /-- THERMAL_WARN_REARM (R613): The eight sensors read `temps`, sensor 0 lowest. -/
  | thermalWarnRearm (temps : BitVec 128)
deriving DecidableEq, Repr

end Sys2Proof
end

