-- ==== Sys2Proof/Decode.lean ====
section
/-! DEFINITION. The command that a word spells. The table gives no row of this block any bits (every row's fields are empty), so no word spells a
command. The bytes that the configuration port takes do spell commands (R425). -/

namespace Sys2Proof

/-- The command that the `nbits` bits of `w` spell by the table's bits: none, because no row has bits. [DESIGN CHOICE 5] -/
def decodeTableWord (_nbits _w : Nat) : Option Instr := none

/-- Bytes as a number, the least significant first (R17). -/
def portNum : List Byte → Nat
  | [] => 0
  | b :: bs => b.toNat + 256 * portNum bs

/-- What follows a complete sync sequence on the configuration port (R425): the command, none for an unknown opcode and where operand bytes are missing. -/
def portOpcode (bs : List Byte) : Option Instr :=
  let o := bs.drop 1
  match bs.head? with
  | some 0x10 => if o.length < 5 then none else some (.portLoad ((o.getD 0 0).getLsbD 0) (BitVec.ofNat 32 (portNum ((o.drop 1).take 4))))
  | some 0x20 => if o.length < 8 then none else some (.readback (BitVec.ofNat 32 (portNum (o.take 4))) (BitVec.ofNat 32 (portNum ((o.drop 4).take 4))))
  | some 0x30 => some .portStatus
  | some 0x40 => some .portAbort
  | _ => none

/-- The first command that the bytes taken by the configuration port spell (R425): bytes before a complete sync sequence 0x5A, 0x3C, 0x88, 0x40 and unknown opcodes are
discarded. -/
def portCommand : List Byte → Option Instr
  | [] => none
  | b :: bs =>
    match if (b :: bs).take 4 = [0x5A, 0x3C, 0x88, 0x40] then portOpcode (bs.drop 3) else none with
    | some i => some i
    | none => portCommand bs

end Sys2Proof
end

