-- ==== Sys2Proof/Config.lean ====
section
/-! DEFINITION. What the spec leaves open: free values, opaque so that no proof can rest on a particular one. Each is applied to the
plain counter `State.free` (and to what the value depends on), and every use advances that counter. -/

namespace Sys2Proof

/-- The byte that host memory returns at bus offset `addr` in the `n`th free read (the host's memory is outside the block). [DESIGN CHOICE 9] -/
opaque Config.hostByte (n addr : Nat) : Byte

/-- The byte that another device's pooled memory returns at DPA `addr` in the `n`th free read (R490). -/
opaque Config.remoteByte (n addr : Nat) : Byte

/-- How many ticks after a SAFE condition arises a slice begins the safe state (R245: within its bound not otherwise specified); taken
modulo the length of the bound. [DEDUCED 15] -/
opaque Config.safeDelay (n slice : Nat) : Nat

/-- A number that the spec gives no value for, in the `n`th use; `what` tells the uses of one step apart. [DESIGN CHOICE 2] -/
opaque Config.unstated (n what : Nat) : Nat

/-- Byte `i` of the key stream that AES-256-GCM makes of a key and a 96-bit IV; the spec names the function and does not define it (R399). [DEDUCED 11] -/
opaque Config.gcmStream : Nat → List Byte → Nat → Byte

/-- The 16-byte tag of AES-256-GCM for a key, an IV, additional authenticated data and a ciphertext (R399). [DEDUCED 11] -/
opaque Config.gcmTag : Nat → List Byte → List Byte → List Byte → List Byte

/-- Whether an ECDSA signature over brainpoolP384r1 with SHA-384 of the bytes agrees with a public key: key, signed bytes, signature (R401). [DEDUCED 11] -/
opaque Config.ecdsaOk : List Byte → List Byte → List Byte → Bool

/-- The Ferkiska configuration public key that the device holds, 96 bytes (R401). [DEDUCED 11] -/
opaque Config.configKey : List Byte

/-- SHA-384 of the bytes, as 48 bytes; the spec names the function and does not define it (R448). [DEDUCED 11] -/
opaque Config.sha384 : List Byte → List Byte

/-- The KCV of a key: the first 4 bytes of AES-256 of 16 zero bytes under it (R445). [DEDUCED 11] -/
opaque Config.kcv : Nat → Word

/-- The Ferkiska firmware public key that the boot ROM holds, 96 bytes (R438). [DEDUCED 11] -/
opaque Config.firmwareKey : List Byte

/-- The digest of the boot ROM of this stepping (R449): the spec gives no value. [DESIGN CHOICE 2] -/
opaque Config.romDigest : List Byte

/-- The public key over brainpoolP384r1 of a private key, 96 bytes with the first lowest (R442, R448). [DEDUCED 11] -/
opaque Config.idKey : Nat → BitVec 768

/-- An ECDSA signature of the bytes by a private key, 96 bytes with the first lowest (R450). [DEDUCED 11] -/
opaque Config.idSign : Nat → List Byte → BitVec 768

/-- The byte that flash holds at an address that this block has not written (the flash device is outside the block). [DESIGN CHOICE 12] -/
opaque Config.flashByte : Nat → Byte

/-- The SECDED code that is blown with a repair record (R529). [DESIGN CHOICE 135] -/
opaque Config.secded : Word → BitVec 7

/-- The data that a repair record's bits and code are corrected to, none where the error is uncorrectable (R531). [DESIGN CHOICE 135] -/
opaque Config.secdedFix : Word → BitVec 7 → Option Word

end Sys2Proof
end

