-- ==== Sys2Proof/Machine/Codes.lean ====
section
/-! DEFINITION. The error and status codes of the table of R548 (chapter 13 of spec/) by name, and the class of each. -/

namespace Sys2Proof.Machine

/-- Code 0x0101, class E. -/
abbrev C.ERR_TICK_SLIP : Nat := 0x0101
/-- Code 0x0102, class E. -/
abbrev C.TICK_BUDGET_EXCEEDED : Nat := 0x0102
/-- Code 0x0103, class E. -/
abbrev C.TICK_FCK_INVALID : Nat := 0x0103
/-- Code 0x0104, class E. -/
abbrev C.TICK_UIREP_MISMATCH : Nat := 0x0104
/-- Code 0x0105, class E. -/
abbrev C.TICK_PLL_UNLOCK : Nat := 0x0105
/-- Code 0x0201, class E. -/
abbrev C.FAB_CTX_LIVE_WRITE : Nat := 0x0201
/-- Code 0x0202, class W. -/
abbrev C.FAB_CTX_EMPTY : Nat := 0x0202
/-- Code 0x0203, class W. -/
abbrev C.FAB_MCELL_PARITY : Nat := 0x0203
/-- Code 0x0204, class W. -/
abbrev C.FAB_MCELL_WCOLLIDE : Nat := 0x0204
/-- Code 0x0205, class W. -/
abbrev C.FAB_RCLK_OVERRUN : Nat := 0x0205
/-- Code 0x0206, class E. -/
abbrev C.FAB_XSTREAM_UNDERRUN : Nat := 0x0206
/-- Code 0x0207, class E. -/
abbrev C.FAB_OP_INVALID : Nat := 0x0207
/-- Code 0x0210, class E. -/
abbrev C.FAB_REGION_INVALID : Nat := 0x0210
/-- Code 0x0211, class E. -/
abbrev C.FAB_STORE_PARITY : Nat := 0x0211
/-- Code 0x0212, class E. -/
abbrev C.ROUTE_CONFLICT : Nat := 0x0212
/-- Code 0x0213, class E. -/
abbrev C.STARFIX_MISSED : Nat := 0x0213
/-- Code 0x0214, class E. -/
abbrev C.STARFIX_BUSY : Nat := 0x0214
/-- Code 0x0215, class E. -/
abbrev C.READBACK_NOT_STOPPED : Nat := 0x0215
/-- Code 0x0301, class F. -/
abbrev C.PSQ_DOUBLE_FAULT : Nat := 0x0301
/-- Code 0x0302, class E. -/
abbrev C.PSQ_START_MISSED : Nat := 0x0302
/-- Code 0x0303, class E. -/
abbrev C.PSQ_PAGE_FILL_ERR : Nat := 0x0303
/-- Code 0x0304, class E. -/
abbrev C.PSQ_PAGE_BUSY : Nat := 0x0304
/-- Code 0x0305, class W. -/
abbrev C.PSQ_SEALED_ACCESS : Nat := 0x0305
/-- Code 0x0306, class E. -/
abbrev C.PSQ_SPILL_ERR : Nat := 0x0306
/-- Code 0x0307, class E. -/
abbrev C.PSQ_VENT_INVALID : Nat := 0x0307
/-- Code 0x0308, class I. -/
abbrev C.PSQ_HOST_HOLD : Nat := 0x0308
/-- Code 0x0401, class E. -/
abbrev C.PSL_PARTNER_LOST : Nat := 0x0401
/-- Code 0x0402, class E. -/
abbrev C.PSL_BIND_INVALID : Nat := 0x0402
/-- Code 0x0403, class E. -/
abbrev C.PSL_CAL_FAIL : Nat := 0x0403
/-- Code 0x0404, class W. -/
abbrev C.PSL_CMP_INVALID : Nat := 0x0404
/-- Code 0x0405, class W. -/
abbrev C.PSL_EDGE_ORDER : Nat := 0x0405
/-- Code 0x0406, class W. -/
abbrev C.PSL_RX_LOS : Nat := 0x0406
/-- Code 0x0407, class E. -/
abbrev C.PSL_QUAD_OFF : Nat := 0x0407
/-- Code 0x0501, class W. -/
abbrev C.FCQ_SATURATED : Nat := 0x0501
/-- Code 0x0502, class E. -/
abbrev C.FCQ_PTR_MISMATCH : Nat := 0x0502
/-- Code 0x0503, class W. -/
abbrev C.FCQ_MARK_LOST : Nat := 0x0503
/-- Code 0x0504, class W. -/
abbrev C.FCQ_REGION_FULL : Nat := 0x0504
/-- Code 0x0505, class E. -/
abbrev C.FCQ_CFG_INVALID : Nat := 0x0505
/-- Code 0x0506, class E. -/
abbrev C.FCQ_CREDIT_OVERCOMMIT : Nat := 0x0506
/-- Code 0x0507, class E. -/
abbrev C.FCQ_DRAIN_ERR : Nat := 0x0507
/-- Code 0x0601, class E. -/
abbrev C.SLV_DESC_INVALID : Nat := 0x0601
/-- Code 0x0602, class E. -/
abbrev C.SLV_MAP_INVALID : Nat := 0x0602
/-- Code 0x0603, class W. -/
abbrev C.SLV_STORE_FULL : Nat := 0x0603
/-- Code 0x0604, class W. -/
abbrev C.SLV_INPUT_LOSS : Nat := 0x0604
/-- Code 0x0605, class I. -/
abbrev C.SLV_BUDGET_EXHAUSTED : Nat := 0x0605
/-- Code 0x0606, class E. -/
abbrev C.SLV_REPLAY_FORM : Nat := 0x0606
/-- Code 0x0607, class E. -/
abbrev C.SLV_REPLAY_ERR : Nat := 0x0607
/-- Code 0x0608, class E. -/
abbrev C.SLV_RESULT_ERR : Nat := 0x0608
/-- Code 0x0609, class E. -/
abbrev C.SLV_TAP_REFUSED : Nat := 0x0609
/-- Code 0x060A, class W. -/
abbrev C.SLV_STORE_ECC : Nat := 0x060A
/-- Code 0x060B, class E. -/
abbrev C.SLV_STORE_STALE : Nat := 0x060B
/-- Code 0x0701, class E. -/
abbrev C.ROUTE_UNAVAILABLE : Nat := 0x0701
/-- Code 0x0702, class E. -/
abbrev C.DOMAIN_OFF : Nat := 0x0702
/-- Code 0x0703, class E. -/
abbrev C.NOC_ROUTE_INVALID : Nat := 0x0703
/-- Code 0x0704, class E. -/
abbrev C.NOC_ADDR_UNMAPPED : Nat := 0x0704
/-- Code 0x0705, class E. -/
abbrev C.NOC_ADDR_PROTECTED : Nat := 0x0705
/-- Code 0x0706, class E. -/
abbrev C.NOC_TIMEOUT : Nat := 0x0706
/-- Code 0x0707, class W. -/
abbrev C.NOC_LINK_ERR : Nat := 0x0707
/-- Code 0x0708, class W. -/
abbrev C.NOC_RECONF_TIMEOUT : Nat := 0x0708
/-- Code 0x0801, class W. -/
abbrev C.MEM_CE : Nat := 0x0801
/-- Code 0x0802, class E. -/
abbrev C.MEM_UE : Nat := 0x0802
/-- Code 0x0803, class E. -/
abbrev C.MEM_TRAIN_FAIL : Nat := 0x0803
/-- Code 0x0804, class E. -/
abbrev C.MEM_CH_NOT_READY : Nat := 0x0804
/-- Code 0x0901, class E. -/
abbrev C.CFG_TRUNCATED : Nat := 0x0901
/-- Code 0x0902, class E. -/
abbrev C.CFG_IDENTITY_MISMATCH : Nat := 0x0902
/-- Code 0x0903, class E. -/
abbrev C.CFG_AUTH_FAIL : Nat := 0x0903
/-- Code 0x0904, class E. -/
abbrev C.CFG_FORMAT : Nat := 0x0904
/-- Code 0x0905, class E. -/
abbrev C.CFG_KEY_UNAVAILABLE : Nat := 0x0905
/-- Code 0x0906, class E. -/
abbrev C.CFG_SCOPE : Nat := 0x0906
/-- Code 0x0907, class I. -/
abbrev C.CFG_ABORTED : Nat := 0x0907
/-- Code 0x0908, class E. -/
abbrev C.CFG_BUSY : Nat := 0x0908
/-- Code 0x0909, class E. -/
abbrev C.CFG_SOURCE_ERR : Nat := 0x0909
/-- Code 0x090A, class W. -/
abbrev C.CFG_FORWARD_DROP : Nat := 0x090A
/-- Code 0x090B, class W. -/
abbrev C.CFG_GOLDEN_USED : Nat := 0x090B
/-- Code 0x0A01, class E. -/
abbrev C.BOOT_FW_AUTH_FAIL : Nat := 0x0A01
/-- Code 0x0A02, class E. -/
abbrev C.BOOT_FW_FORMAT : Nat := 0x0A02
/-- Code 0x0A03, class E. -/
abbrev C.BOOT_FLASH_ERR : Nat := 0x0A03
/-- Code 0x0A04, class E. -/
abbrev C.BOOT_ROLLBACK : Nat := 0x0A04
/-- Code 0x0A05, class E. -/
abbrev C.BOOT_FUSE_ERR : Nat := 0x0A05
/-- Code 0x0A06, class E. -/
abbrev C.BOOT_WDT_EXPIRED : Nat := 0x0A06
/-- Code 0x0A07, class E. -/
abbrev C.BOOT_INTERRUPTED : Nat := 0x0A07
/-- Code 0x0A08, class E. -/
abbrev C.BOOT_TWILIGHT : Nat := 0x0A08
/-- Code 0x0A10, class W or F. -/
abbrev C.SEC_TAMPER : Nat := 0x0A10
/-- Code 0x0A11, class W. -/
abbrev C.SEC_TEST_MODE : Nat := 0x0A11
/-- Code 0x0A12, class E. -/
abbrev C.SEC_ENROL_FAIL : Nat := 0x0A12
/-- Code 0x0A13, class E. -/
abbrev C.SEC_KEY_PROV_FAIL : Nat := 0x0A13
/-- Code 0x0A14, class E. -/
abbrev C.SEC_MODULE_AUTH_FAIL : Nat := 0x0A14
/-- Code 0x0A15, class E. -/
abbrev C.SEC_MBOX_INVALID : Nat := 0x0A15
/-- Code 0x0B01, class E. -/
abbrev C.CSC_MEMBER_LOST : Nat := 0x0B01
/-- Code 0x0B02, class E. -/
abbrev C.CSC_VOTE_LOST : Nat := 0x0B02
/-- Code 0x0B03, class E. -/
abbrev C.CSC_ALIGN_LOST : Nat := 0x0B03
/-- Code 0x0B04, class E. -/
abbrev C.CSC_POLE_CONFLICT : Nat := 0x0B04
/-- Code 0x0B05, class W. -/
abbrev C.CSC_TOPOLOGY : Nat := 0x0B05
/-- Code 0x0B06, class W. -/
abbrev C.CSC_POS_CONFLICT : Nat := 0x0B06
/-- Code 0x0B07, class W. -/
abbrev C.CSC_FLIGHT_RANGE : Nat := 0x0B07
/-- Code 0x0B08, class E. -/
abbrev C.CSC_POOL_ABSENT : Nat := 0x0B08
/-- Code 0x0B09, class I. -/
abbrev C.CSC_REMOTE_HOLD : Nat := 0x0B09
/-- Code 0x0B0A, class E. -/
abbrev C.CSC_LINK_DOWN : Nat := 0x0B0A
/-- Code 0x0B0B, class E. -/
abbrev C.CSC_REMOTE_ERR : Nat := 0x0B0B
/-- Code 0x0C01, class W. -/
abbrev C.BIST_UNIT_FAIL : Nat := 0x0C01
/-- Code 0x0C02, class I. -/
abbrev C.BIST_SLICE_ABORTED : Nat := 0x0C02
/-- Code 0x0C03, class W. -/
abbrev C.BIST_HANDOVER_MISMATCH : Nat := 0x0C03
/-- Code 0x0C04, class E. -/
abbrev C.BIST_CELL_FENCED : Nat := 0x0C04
/-- Code 0x0C05, class W. -/
abbrev C.BIST_MCELL_NOSPARE : Nat := 0x0C05
/-- Code 0x0C06, class E. -/
abbrev C.BIST_NIGHTFALL_FAIL : Nat := 0x0C06
/-- Code 0x0C07, class E. -/
abbrev C.BIST_STARTUP_FAIL : Nat := 0x0C07
/-- Code 0x0C08, class E. -/
abbrev C.BIST_FUSE_BUDGET : Nat := 0x0C08
/-- Code 0x0C09, class E. -/
abbrev C.BIST_FUSE_INVALID : Nat := 0x0C09
/-- Code 0x0C0A, class E. -/
abbrev C.BIST_FUSE_BLOW_FAIL : Nat := 0x0C0A
/-- Code 0x0C0B, class W. -/
abbrev C.BIST_FUSE_ECC : Nat := 0x0C0B
/-- Code 0x0C0C, class I. -/
abbrev C.BIST_INCOMPLETE : Nat := 0x0C0C
/-- Code 0x0D01, class E. -/
abbrev C.PWR_DOMAIN_TIMEOUT : Nat := 0x0D01
/-- Code 0x0D02, class F. -/
abbrev C.PWR_RAIL_FAULT : Nat := 0x0D02
/-- Code 0x0D03, class W. -/
abbrev C.PWR_THERMAL_WARN : Nat := 0x0D03
/-- Code 0x0D04, class F. -/
abbrev C.PWR_THERMAL_TRIP : Nat := 0x0D04
/-- Code 0x0D05, class E. -/
abbrev C.CLK_PLL_UNLOCK : Nat := 0x0D05
/-- Code 0x0E01, class E. -/
abbrev C.HIF_CMD_UNKNOWN : Nat := 0x0E01
/-- Code 0x0E02, class E. -/
abbrev C.HIF_CMD_MALFORMED : Nat := 0x0E02
/-- Code 0x0E03, class E. -/
abbrev C.HIF_CQ_OVERFLOW : Nat := 0x0E03
/-- Code 0x0E04, class E. -/
abbrev C.HIF_DMA_ERR : Nat := 0x0E04
/-- Code 0x0E05, class E. -/
abbrev C.HIF_AER_UNCORR : Nat := 0x0E05
/-- Code 0x0E06, class E. -/
abbrev C.HIF_LINK_DOWN : Nat := 0x0E06
/-- Code 0x0F01, class E. -/
abbrev C.STATE_REFUSED : Nat := 0x0F01
/-- Code 0x0F02, class W. -/
abbrev C.ERR_RING_FULL : Nat := 0x0F02
/-- Code 0x0F03, class F. -/
abbrev C.ERR_FW_FATAL : Nat := 0x0F03
/-- Code 0x0F04, class E. -/
abbrev C.ERR_DUMP_FAIL : Nat := 0x0F04
/-- Code 0x0F05, class W. -/
abbrev C.ERR_DUMP_DIVERTED : Nat := 0x0F05
/-- Code 0x0F06, class W. -/
abbrev C.ERR_MIRROR_FAIL : Nat := 0x0F06
/-- Code 0x1001, class I. -/
abbrev C.AUX_PARTNER_JOIN : Nat := 0x1001
/-- Code 0x1002, class W. -/
abbrev C.AUX_PARTNER_LEAVE : Nat := 0x1002
/-- Code 0x1003, class W. -/
abbrev C.AUX_I3C_ERR : Nat := 0x1003
/-- Code 0x1004, class W. -/
abbrev C.AUX_I3C_ADDR_EXHAUSTED : Nat := 0x1004
/-- Code 0x1005, class E. -/
abbrev C.AUX_XSPI_ERR : Nat := 0x1005

/-- The classes of R547. -/
inductive ErrClass where
  | info | warn | error | fatal
deriving DecidableEq, Repr

/-- The class of a code by R548, where `tamperFatal` is SEC_TAMPER_CFG.FATAL. A code that the table does not name counts as class E. -/
def classOf (tamperFatal : Bool) (code : Nat) : ErrClass :=
  if code = 0x0A10 then (if tamperFatal then .fatal else .warn)
  else if [0x301, 0xd02, 0xd04, 0xf03].contains code then .fatal
  else if [0x202, 0x203, 0x204, 0x205, 0x305, 0x404, 0x405, 0x406, 0x501, 0x503, 0x504, 0x603, 0x604, 0x60a, 0x707, 0x708, 0x801, 0x90a, 0x90b, 0xa11, 0xb05, 0xb06, 0xb07, 0xc01, 0xc03, 0xc05, 0xc0b, 0xd03, 0xf02, 0xf05, 0xf06, 0x1002, 0x1003, 0x1004].contains code then .warn
  else if [0x308, 0x605, 0x907, 0xb09, 0xc02, 0xc0c, 0x1001].contains code then .info
  else .error

end Sys2Proof.Machine
end

