-- ==== Sys2Proof/Machine/Bits.lean ====
section
/-! DEFINITION. Bit-field, byte-order and canonical-map helpers that every other file of the machine uses. -/

namespace Sys2Proof.Machine

/-- A field of a BAR0 register: the register's offset, the field's lowest bit and its width. -/
structure Fld where
  off : Nat
  lo  : Nat
  w   : Nat
deriving DecidableEq, Repr

/-- Bits `lo + w - 1` to `lo` of `v`, as a number. -/
def getBits (v : Wide) (lo w : Nat) : Nat := (v.toNat >>> lo) % 2 ^ w

/-- The mask with ones in bits `lo + w - 1` to `lo`. -/
def maskBits (lo w : Nat) : Wide := (BitVec.ofNat 64 (2 ^ w - 1)) <<< lo

/-- `v` with bits `lo + w - 1` to `lo` replaced by the low `w` bits of `x`. -/
def putBits (v : Wide) (lo w x : Nat) : Wide :=
  (v &&& ~~~ maskBits lo w) ||| (BitVec.ofNat 64 (x % 2 ^ w) <<< lo)

/-- Bit `i` of the number `v`. -/
def bitOf (v i : Nat) : Bool := v.testBit i

/-- 1 for true and 0 for false. -/
def b2n (b : Bool) : Nat := if b then 1 else 0

/-- `n` held at `m` when it would pass `m`: the saturating counters of the spec. -/
def satAt (m n : Nat) : Nat := if n ≤ m then n else m

/-- The `n` bytes of the number `v`, least significant first (R17). -/
def leBytes : Nat → Nat → List Byte
  | 0, _ => []
  | n + 1, v => BitVec.ofNat 8 v :: leBytes n (v / 256)

/-- The number whose little-endian bytes are given (R17). -/
def ofLeBytes : List Byte → Nat
  | [] => 0
  | b :: bs => b.toNat + 256 * ofLeBytes bs

/-- The number of ones among the low `n` bits of `v`. -/
def popNat : Nat → Nat → Nat
  | 0, _ => 0
  | n + 1, v => v % 2 + popNat n (v / 2)

/-- The parity of the low `n` bits of `v`. -/
def parityNat (n v : Nat) : Nat := popNat n v % 2

/-- The positions of the ones among the `n` lowest bits of `v`, counted from `i`, lowest first. -/
def onesFrom : Nat → Nat → Nat → List Nat
  | 0, _, _ => []
  | n + 1, i, v => if v % 2 = 1 then i :: onesFrom n (i + 1) (v / 2) else onesFrom n (i + 1) (v / 2)

/-- The value at key `k` of a map held as key and value pairs, where an unlisted key reads `d k`. -/
def mget {α : Type} (d : Nat → α) (k : Nat) : List (Nat × α) → α
  | [] => d k
  | (j, v) :: m => if j = k then v else mget d k m

/-- The map with `v` at key `k`, in canonical form: keys rise strictly and no listed value is the one an unlisted key reads. -/
def mset {α : Type} [DecidableEq α] (d : Nat → α) (k : Nat) (v : α) : List (Nat × α) → List (Nat × α)
  | [] => if v = d k then [] else [(k, v)]
  | (j, w) :: m =>
    if j = k then (if v = d k then m else (k, v) :: m)
    else if k < j then (if v = d k then (j, w) :: m else (k, v) :: (j, w) :: m)
    else (j, w) :: mset d k v m

/-- Every listed key of `m` is above `k`. -/
def mabove {α : Type} (k : Nat) : List (Nat × α) → Bool
  | [] => true
  | (j, _) :: m => decide (k < j) && mabove k m

/-- The canonical form of a map: keys rise strictly and no listed value is the one an unlisted key reads. -/
def mwf {α : Type} [DecidableEq α] (d : Nat → α) : List (Nat × α) → Bool
  | [] => true
  | (j, v) :: m => mabove j m && decide (v ≠ d j) && mwf d m

/-- The map with every listed value replaced by `f`; `f` must keep the value an unlisted key reads. -/
def mmap {α : Type} [DecidableEq α] (d : Nat → α) (f : Nat → α → α) : List (Nat × α) → List (Nat × α)
  | [] => []
  | (j, v) :: m => if f j v = d j then mmap d f m else (j, f j v) :: mmap d f m

/-- The map without the keys for which `p` is false. -/
def mkeep {α : Type} (p : Nat → Bool) : List (Nat × α) → List (Nat × α)
  | [] => []
  | (j, v) :: m => if p j then (j, v) :: mkeep p m else mkeep p m

/-- The values `f k` written at the keys listed, in order. -/
def msetAll {α : Type} [DecidableEq α] (d : Nat → α) (f : Nat → α) : List Nat → List (Nat × α) → List (Nat × α)
  | [], m => m
  | k :: ks, m => msetAll d f ks (mset d k (f k) m)

/-- Element `i` of a list replaced, where it exists. -/
def setNth {α : Type} : Nat → α → List α → List α
  | _, _, [] => []
  | 0, v, _ :: xs => v :: xs
  | i + 1, v, x :: xs => x :: setNth i v xs

end Sys2Proof.Machine
end

