-- ==== Sys2Proof/Machine/RegFields.lean ====
section
/-! DEFINITION. The offsets of the BAR0 registers and the places of their fields, by the names the register tables of spec/ give them
(`R.X` an offset, `F.X.Y` field Y of register X), for the meanings to read like the spec. -/

namespace Sys2Proof.Machine

/-- GLB_ID (00_scope.md). -/
abbrev R.GLB_ID : Nat := 0x0
/-- GLB_ID [31:24]. -/
abbrev F.GLB_ID.FAMILY : Fld := ⟨0x0, 24, 8⟩
/-- GLB_ID [23:8]. -/
abbrev F.GLB_ID.PART : Fld := ⟨0x0, 8, 16⟩
/-- GLB_ID [7:4]. -/
abbrev F.GLB_ID.STEP_MAJOR : Fld := ⟨0x0, 4, 4⟩
/-- GLB_ID [3:0]. -/
abbrev F.GLB_ID.STEP_MINOR : Fld := ⟨0x0, 0, 4⟩
/-- GLB_INFO (00_scope.md). -/
abbrev R.GLB_INFO : Nat := 0x4
/-- GLB_INFO [8:0]. -/
abbrev F.GLB_INFO.SLICE_COUNT : Fld := ⟨0x4, 0, 9⟩
/-- GLB_STATE (00_scope.md). -/
abbrev R.GLB_STATE : Nat := 0x8
/-- GLB_STATE [31:16]. -/
abbrev F.GLB_STATE.SITE_ACTIVE : Fld := ⟨0x8, 16, 16⟩
/-- GLB_STATE [3:0]. -/
abbrev F.GLB_STATE.STATE : Fld := ⟨0x8, 0, 4⟩
/-- TICK_CTRL (01_frame_tick.md). -/
abbrev R.TICK_CTRL : Nat := 0x40000
/-- TICK_CTRL [1]. -/
abbrev F.TICK_CTRL.CNT_CLR : Fld := ⟨0x40000, 1, 1⟩
/-- TICK_CTRL [0]. -/
abbrev F.TICK_CTRL.FCK_APPLY : Fld := ⟨0x40000, 0, 1⟩
/-- TICK_STAT (01_frame_tick.md). -/
abbrev R.TICK_STAT : Nat := 0x40004
/-- TICK_STAT [31:16]. -/
abbrev F.TICK_STAT.APPLY_STATUS : Fld := ⟨0x40004, 16, 16⟩
/-- TICK_STAT [3]. -/
abbrev F.TICK_STAT.SLIP_SEEN : Fld := ⟨0x40004, 3, 1⟩
/-- TICK_STAT [2]. -/
abbrev F.TICK_STAT.UNLOCK_SEEN : Fld := ⟨0x40004, 2, 1⟩
/-- TICK_STAT [1]. -/
abbrev F.TICK_STAT.FCK_BUSY : Fld := ⟨0x40004, 1, 1⟩
/-- TICK_STAT [0]. -/
abbrev F.TICK_STAT.LOCK : Fld := ⟨0x40004, 0, 1⟩
/-- TICK_FCK_CFG (01_frame_tick.md). -/
abbrev R.TICK_FCK_CFG : Nat := 0x40008
/-- TICK_FCK_CFG [13:8]. -/
abbrev F.TICK_FCK_CFG.POSTDIV : Fld := ⟨0x40008, 8, 6⟩
/-- TICK_FCK_CFG [6:0]. -/
abbrev F.TICK_FCK_CFG.FBDIV : Fld := ⟨0x40008, 0, 7⟩
/-- TICK_BUDGET_STAT (01_frame_tick.md). -/
abbrev R.TICK_BUDGET_STAT : Nat := 0x4000c
/-- TICK_BUDGET_STAT [31:16]. -/
abbrev F.TICK_BUDGET_STAT.PERIOD_PS : Fld := ⟨0x4000c, 16, 16⟩
/-- TICK_BUDGET_STAT [15:0]. -/
abbrev F.TICK_BUDGET_STAT.PMIN_PS : Fld := ⟨0x4000c, 0, 16⟩
/-- TICK_COUNT (01_frame_tick.md). -/
abbrev R.TICK_COUNT : Nat := 0x40010
/-- TICK_COUNT [63:0]. -/
abbrev F.TICK_COUNT.COUNT : Fld := ⟨0x40010, 0, 64⟩
/-- TICK_SLIP_CNT (01_frame_tick.md). -/
abbrev R.TICK_SLIP_CNT : Nat := 0x40018
/-- TICK_SLIP_CNT [31:16]. -/
abbrev F.TICK_SLIP_CNT.NEAR_CNT : Fld := ⟨0x40018, 16, 16⟩
/-- TICK_SLIP_CNT [15:0]. -/
abbrev F.TICK_SLIP_CNT.SLIP_CNT : Fld := ⟨0x40018, 0, 16⟩
/-- TICK_SLIP_SITES (01_frame_tick.md). -/
abbrev R.TICK_SLIP_SITES : Nat := 0x4001c
/-- TICK_SLIP_SITES [15:0]. -/
abbrev F.TICK_SLIP_SITES.SITES : Fld := ⟨0x4001c, 0, 16⟩
/-- TICK_SLIP_LAST (01_frame_tick.md). -/
abbrev R.TICK_SLIP_LAST : Nat := 0x40020
/-- TICK_SLIP_LAST [31:28]. -/
abbrev F.TICK_SLIP_LAST.KIND : Fld := ⟨0x40020, 28, 4⟩
/-- TICK_SLIP_LAST [27:25]. -/
abbrev F.TICK_SLIP_LAST.CTX : Fld := ⟨0x40020, 25, 3⟩
/-- TICK_SLIP_LAST [13:8]. -/
abbrev F.TICK_SLIP_LAST.ROW : Fld := ⟨0x40020, 8, 6⟩
/-- TICK_SLIP_LAST [7:0]. -/
abbrev F.TICK_SLIP_LAST.COL : Fld := ⟨0x40020, 0, 8⟩
/-- TICK_SLIP_TICK (01_frame_tick.md). -/
abbrev R.TICK_SLIP_TICK : Nat := 0x40028
/-- TICK_SLIP_TICK [63:0]. -/
abbrev F.TICK_SLIP_TICK.TICK : Fld := ⟨0x40028, 0, 64⟩
/-- TICK_VOTE_FLIGHT (01_frame_tick.md). -/
abbrev R.TICK_VOTE_FLIGHT : Nat := 0x40030
/-- TICK_VOTE_FLIGHT [15:8]. -/
abbrev F.TICK_VOTE_FLIGHT.FLIGHT_DOWN : Fld := ⟨0x40030, 8, 8⟩
/-- TICK_VOTE_FLIGHT [7:0]. -/
abbrev F.TICK_VOTE_FLIGHT.FLIGHT_UP : Fld := ⟨0x40030, 0, 8⟩
/-- TICK_UIREP_n (01_frame_tick.md). -/
abbrev R.TICK_UIREP (n : Nat) : Nat := 0x40100 + 4 * n
/-- TICK_UIREP_n [10:0]. -/
abbrev F.TICK_UIREP.REPEAT (n : Nat) : Fld := ⟨0x40100 + 4 * n, 0, 11⟩
/-- FAB_STAT (02_fabric_cells.md). -/
abbrev R.FAB_STAT : Nat := 0x80000
/-- FAB_STAT [5]. -/
abbrev F.FAB_STAT.OP_INVALID_SEEN : Fld := ⟨0x80000, 5, 1⟩
/-- FAB_STAT [4]. -/
abbrev F.FAB_STAT.XS_UNDERRUN_SEEN : Fld := ⟨0x80000, 4, 1⟩
/-- FAB_STAT [3]. -/
abbrev F.FAB_STAT.RCLK_OVR_SEEN : Fld := ⟨0x80000, 3, 1⟩
/-- FAB_STAT [2]. -/
abbrev F.FAB_STAT.CTX_EMPTY_SEEN : Fld := ⟨0x80000, 2, 1⟩
/-- FAB_STAT [1]. -/
abbrev F.FAB_STAT.WCOLL_SEEN : Fld := ⟨0x80000, 1, 1⟩
/-- FAB_STAT [0]. -/
abbrev F.FAB_STAT.PARITY_SEEN : Fld := ⟨0x80000, 0, 1⟩
/-- FAB_CTXSEL_n (02_fabric_cells.md). -/
abbrev R.FAB_CTXSEL (n : Nat) : Nat := 0x80100 + 4 * n
/-- FAB_CTXSEL_n [18:16]. -/
abbrev F.FAB_CTXSEL.INIT (n : Nat) : Fld := ⟨0x80100 + 4 * n, 16, 3⟩
/-- FAB_CTXSEL_n [8]. -/
abbrev F.FAB_CTXSEL.PEND (n : Nat) : Fld := ⟨0x80100 + 4 * n, 8, 1⟩
/-- FAB_CTXSEL_n [6:4]. -/
abbrev F.FAB_CTXSEL.PENDING (n : Nat) : Fld := ⟨0x80100 + 4 * n, 4, 3⟩
/-- FAB_CTXSEL_n [2:0]. -/
abbrev F.FAB_CTXSEL.ACTIVE (n : Nat) : Fld := ⟨0x80100 + 4 * n, 0, 3⟩
/-- FAB_CL_STAT_n (02_fabric_cells.md). -/
abbrev R.FAB_CL_STAT (n : Nat) : Nat := 0x81000 + 4 * n
/-- FAB_CL_STAT_n [31:24]. -/
abbrev F.FAB_CL_STAT.PAR_CNT (n : Nat) : Fld := ⟨0x81000 + 4 * n, 24, 8⟩
/-- FAB_CL_STAT_n [23:16]. -/
abbrev F.FAB_CL_STAT.WCOLL_CNT (n : Nat) : Fld := ⟨0x81000 + 4 * n, 16, 8⟩
/-- FAB_CL_STAT_n [11:8]. -/
abbrev F.FAB_CL_STAT.U_TARGET (n : Nat) : Fld := ⟨0x81000 + 4 * n, 8, 4⟩
/-- FAB_CL_STAT_n [7:6]. -/
abbrev F.FAB_CL_STAT.U_STATE (n : Nat) : Fld := ⟨0x81000 + 4 * n, 6, 2⟩
/-- FAB_CL_STAT_n [5]. -/
abbrev F.FAB_CL_STAT.U_FAILED (n : Nat) : Fld := ⟨0x81000 + 4 * n, 5, 1⟩
/-- FAB_CL_STAT_n [4]. -/
abbrev F.FAB_CL_STAT.RCLK (n : Nat) : Fld := ⟨0x81000 + 4 * n, 4, 1⟩
/-- FAB_CL_STAT_n [0]. -/
abbrev F.FAB_CL_STAT.LOADED (n : Nat) : Fld := ⟨0x81000 + 4 * n, 0, 1⟩
/-- FAB_MREP_m_k (02_fabric_cells.md). -/
abbrev R.FAB_MREP (m : Nat) (k : Nat) : Nat := 0x84000 + 64 * m + 4 * k
/-- FAB_MREP_m_k [8]. -/
abbrev F.FAB_MREP.EN (m : Nat) (k : Nat) : Fld := ⟨0x84000 + 64 * m + 4 * k, 8, 1⟩
/-- FAB_MREP_m_k [7:0]. -/
abbrev F.FAB_MREP.ROW (m : Nat) (k : Nat) : Fld := ⟨0x84000 + 64 * m + 4 * k, 0, 8⟩
/-- FAB_XS_ADDR_x (02_fabric_cells.md). -/
abbrev R.FAB_XS_ADDR (x : Nat) : Nat := 0x88000 + 32 * x
/-- FAB_XS_ADDR_x [63:6]. -/
abbrev F.FAB_XS_ADDR.ADDR (x : Nat) : Fld := ⟨0x88000 + 32 * x, 6, 58⟩
/-- FAB_XS_LEN_x (02_fabric_cells.md). -/
abbrev R.FAB_XS_LEN (x : Nat) : Nat := 0x88008 + 32 * x
/-- FAB_XS_LEN_x [31:0]. -/
abbrev F.FAB_XS_LEN.WORDS (x : Nat) : Fld := ⟨0x88008 + 32 * x, 0, 32⟩
/-- FAB_XS_CTRL_x (02_fabric_cells.md). -/
abbrev R.FAB_XS_CTRL (x : Nat) : Nat := 0x8800c + 32 * x
/-- FAB_XS_CTRL_x [2]. -/
abbrev F.FAB_XS_CTRL.ABORT (x : Nat) : Fld := ⟨0x8800c + 32 * x, 2, 1⟩
/-- FAB_XS_CTRL_x [1]. -/
abbrev F.FAB_XS_CTRL.LOOP (x : Nat) : Fld := ⟨0x8800c + 32 * x, 1, 1⟩
/-- FAB_XS_CTRL_x [0]. -/
abbrev F.FAB_XS_CTRL.START (x : Nat) : Fld := ⟨0x8800c + 32 * x, 0, 1⟩
/-- FAB_XS_STAT_x (02_fabric_cells.md). -/
abbrev R.FAB_XS_STAT (x : Nat) : Nat := 0x88010 + 32 * x
/-- FAB_XS_STAT_x [26:16]. -/
abbrev F.FAB_XS_STAT.LEVEL (x : Nat) : Fld := ⟨0x88010 + 32 * x, 16, 11⟩
/-- FAB_XS_STAT_x [3]. -/
abbrev F.FAB_XS_STAT.FILL_ERR (x : Nat) : Fld := ⟨0x88010 + 32 * x, 3, 1⟩
/-- FAB_XS_STAT_x [2]. -/
abbrev F.FAB_XS_STAT.UNDERRUN (x : Nat) : Fld := ⟨0x88010 + 32 * x, 2, 1⟩
/-- FAB_XS_STAT_x [1]. -/
abbrev F.FAB_XS_STAT.DONE (x : Nat) : Fld := ⟨0x88010 + 32 * x, 1, 1⟩
/-- FAB_XS_STAT_x [0]. -/
abbrev F.FAB_XS_STAT.BUSY (x : Nat) : Fld := ⟨0x88010 + 32 * x, 0, 1⟩
/-- FAB_RT_CONFLICT_CNT (03_fabric_routing_regions.md). -/
abbrev R.FAB_RT_CONFLICT_CNT : Nat := 0x80010
/-- FAB_RT_CONFLICT_CNT [31:16]. -/
abbrev F.FAB_RT_CONFLICT_CNT.PARITY_CNT : Fld := ⟨0x80010, 16, 16⟩
/-- FAB_RT_CONFLICT_CNT [15:0]. -/
abbrev F.FAB_RT_CONFLICT_CNT.CONFLICT_CNT : Fld := ⟨0x80010, 0, 16⟩
/-- FAB_RT_CONFLICT_LAST (03_fabric_routing_regions.md). -/
abbrev R.FAB_RT_CONFLICT_LAST : Nat := 0x80014
/-- FAB_RT_CONFLICT_LAST [31:29]. -/
abbrev F.FAB_RT_CONFLICT_LAST.CTX : Fld := ⟨0x80014, 29, 3⟩
/-- FAB_RT_CONFLICT_LAST [28]. -/
abbrev F.FAB_RT_CONFLICT_LAST.STORE : Fld := ⟨0x80014, 28, 1⟩
/-- FAB_RT_CONFLICT_LAST [27:23]. -/
abbrev F.FAB_RT_CONFLICT_LAST.MUX : Fld := ⟨0x80014, 23, 5⟩
/-- FAB_RT_CONFLICT_LAST [13:8]. -/
abbrev F.FAB_RT_CONFLICT_LAST.ROW : Fld := ⟨0x80014, 8, 6⟩
/-- FAB_RT_CONFLICT_LAST [7:0]. -/
abbrev F.FAB_RT_CONFLICT_LAST.COL : Fld := ⟨0x80014, 0, 8⟩
/-- FAB_RT_CONFLICT_TICK (03_fabric_routing_regions.md). -/
abbrev R.FAB_RT_CONFLICT_TICK : Nat := 0x80018
/-- FAB_RT_CONFLICT_TICK [63:0]. -/
abbrev F.FAB_RT_CONFLICT_TICK.TICK : Fld := ⟨0x80018, 0, 64⟩
/-- FAB_RGN_CMD (03_fabric_routing_regions.md). -/
abbrev R.FAB_RGN_CMD : Nat := 0x80020
/-- FAB_RGN_CMD [9:8]. -/
abbrev F.FAB_RGN_CMD.OP : Fld := ⟨0x80020, 8, 2⟩
/-- FAB_RGN_CMD [5:0]. -/
abbrev F.FAB_RGN_CMD.REGION : Fld := ⟨0x80020, 0, 6⟩
/-- FAB_RGN_CMD_STAT (03_fabric_routing_regions.md). -/
abbrev R.FAB_RGN_CMD_STAT : Nat := 0x80024
/-- FAB_RGN_CMD_STAT [31:16]. -/
abbrev F.FAB_RGN_CMD_STAT.STATUS : Fld := ⟨0x80024, 16, 16⟩
/-- FAB_RGN_CMD_STAT [0]. -/
abbrev F.FAB_RGN_CMD_STAT.BUSY : Fld := ⟨0x80024, 0, 1⟩
/-- FAB_RGN_EVT_TICK (03_fabric_routing_regions.md). -/
abbrev R.FAB_RGN_EVT_TICK : Nat := 0x80028
/-- FAB_RGN_EVT_TICK [63:0]. -/
abbrev F.FAB_RGN_EVT_TICK.TICK : Fld := ⟨0x80028, 0, 64⟩
/-- FAB_SFX_CTRL (03_fabric_routing_regions.md). -/
abbrev R.FAB_SFX_CTRL : Nat := 0x80040
/-- FAB_SFX_CTRL [5]. -/
abbrev F.FAB_SFX_CTRL.UNLOAD : Fld := ⟨0x80040, 5, 1⟩
/-- FAB_SFX_CTRL [4]. -/
abbrev F.FAB_SFX_CTRL.RELEASE : Fld := ⟨0x80040, 4, 1⟩
/-- FAB_SFX_CTRL [3]. -/
abbrev F.FAB_SFX_CTRL.CANCEL : Fld := ⟨0x80040, 3, 1⟩
/-- FAB_SFX_CTRL [2]. -/
abbrev F.FAB_SFX_CTRL.ON_SLIP : Fld := ⟨0x80040, 2, 1⟩
/-- FAB_SFX_CTRL [1]. -/
abbrev F.FAB_SFX_CTRL.MODE : Fld := ⟨0x80040, 1, 1⟩
/-- FAB_SFX_CTRL [0]. -/
abbrev F.FAB_SFX_CTRL.ARM : Fld := ⟨0x80040, 0, 1⟩
/-- FAB_SFX_STAT (03_fabric_routing_regions.md). -/
abbrev R.FAB_SFX_STAT : Nat := 0x80044
/-- FAB_SFX_STAT [31:16]. -/
abbrev F.FAB_SFX_STAT.STATUS : Fld := ⟨0x80044, 16, 16⟩
/-- FAB_SFX_STAT [3]. -/
abbrev F.FAB_SFX_STAT.ARRAYS_HELD : Fld := ⟨0x80044, 3, 1⟩
/-- FAB_SFX_STAT [2]. -/
abbrev F.FAB_SFX_STAT.UNLOAD_BUSY : Fld := ⟨0x80044, 2, 1⟩
/-- FAB_SFX_STAT [1:0]. -/
abbrev F.FAB_SFX_STAT.STATE : Fld := ⟨0x80044, 0, 2⟩
/-- FAB_SFX_TICK (03_fabric_routing_regions.md). -/
abbrev R.FAB_SFX_TICK : Nat := 0x80048
/-- FAB_SFX_TICK [63:0]. -/
abbrev F.FAB_SFX_TICK.TICK : Fld := ⟨0x80048, 0, 64⟩
/-- FAB_SFX_ADDR (03_fabric_routing_regions.md). -/
abbrev R.FAB_SFX_ADDR : Nat := 0x80050
/-- FAB_SFX_ADDR [63:6]. -/
abbrev F.FAB_SFX_ADDR.ADDR : Fld := ⟨0x80050, 6, 58⟩
/-- FAB_RB_ADDR (03_fabric_routing_regions.md). -/
abbrev R.FAB_RB_ADDR : Nat := 0x80060
/-- FAB_RB_ADDR [31:30]. -/
abbrev F.FAB_RB_ADDR.SPACE : Fld := ⟨0x80060, 30, 2⟩
/-- FAB_RB_ADDR [29:16]. -/
abbrev F.FAB_RB_ADDR.WORD : Fld := ⟨0x80060, 16, 14⟩
/-- FAB_RB_ADDR [11:0]. -/
abbrev F.FAB_RB_ADDR.SLOT : Fld := ⟨0x80060, 0, 12⟩
/-- FAB_RB_DATA (03_fabric_routing_regions.md). -/
abbrev R.FAB_RB_DATA : Nat := 0x80064
/-- FAB_RB_DATA [31:0]. -/
abbrev F.FAB_RB_DATA.DATA : Fld := ⟨0x80064, 0, 32⟩
/-- FAB_RGN_MAP_n (03_fabric_routing_regions.md). -/
abbrev R.FAB_RGN_MAP (n : Nat) : Nat := 0x89000 + 4 * n
/-- FAB_RGN_MAP_n [5:0]. -/
abbrev F.FAB_RGN_MAP.REGION (n : Nat) : Fld := ⟨0x89000 + 4 * n, 0, 6⟩
/-- FAB_RGN_XMAP_x (03_fabric_routing_regions.md). -/
abbrev R.FAB_RGN_XMAP (x : Nat) : Nat := 0x89400 + 4 * x
/-- FAB_RGN_XMAP_x [5:0]. -/
abbrev F.FAB_RGN_XMAP.REGION (x : Nat) : Fld := ⟨0x89400 + 4 * x, 0, 6⟩
/-- FAB_RGN_DESC_g (03_fabric_routing_regions.md). -/
abbrev R.FAB_RGN_DESC (g : Nat) : Nat := 0x89800 + 8 * g
/-- FAB_RGN_DESC_g [24:16]. -/
abbrev F.FAB_RGN_DESC.NCL (g : Nat) : Fld := ⟨0x89800 + 8 * g, 16, 9⟩
/-- FAB_RGN_DESC_g [10]. -/
abbrev F.FAB_RGN_DESC.BVAL (g : Nat) : Fld := ⟨0x89800 + 8 * g, 10, 1⟩
/-- FAB_RGN_DESC_g [9]. -/
abbrev F.FAB_RGN_DESC.BPOL (g : Nat) : Fld := ⟨0x89800 + 8 * g, 9, 1⟩
/-- FAB_RGN_DESC_g [8]. -/
abbrev F.FAB_RGN_DESC.FAILED (g : Nat) : Fld := ⟨0x89800 + 8 * g, 8, 1⟩
/-- FAB_RGN_DESC_g [7]. -/
abbrev F.FAB_RGN_DESC.FROZEN (g : Nat) : Fld := ⟨0x89800 + 8 * g, 7, 1⟩
/-- FAB_RGN_DESC_g [6:4]. -/
abbrev F.FAB_RGN_DESC.STATE (g : Nat) : Fld := ⟨0x89800 + 8 * g, 4, 3⟩
/-- FAB_RGN_DESC_g [3:0]. -/
abbrev F.FAB_RGN_DESC.SITE (g : Nat) : Fld := ⟨0x89800 + 8 * g, 0, 4⟩
/-- FAB_RGN_BCONST_g (03_fabric_routing_regions.md). -/
abbrev R.FAB_RGN_BCONST (g : Nat) : Nat := 0x89804 + 8 * g
/-- FAB_RGN_BCONST_g [31:0]. -/
abbrev F.FAB_RGN_BCONST.CONST (g : Nat) : Fld := ⟨0x89804 + 8 * g, 0, 32⟩
/-- PSQ_CMD (04_pattern_sequencers.md). -/
abbrev R.PSQ_CMD (n : Nat) : Nat := 0x200000 + 0x1000 * n
/-- PSQ_CMD [4]. -/
abbrev F.PSQ_CMD.AT (n : Nat) : Fld := ⟨0x200000 + 0x1000 * n, 4, 1⟩
/-- PSQ_CMD [3:0]. -/
abbrev F.PSQ_CMD.OP (n : Nat) : Fld := ⟨0x200000 + 0x1000 * n, 0, 4⟩
/-- PSQ_STAT (04_pattern_sequencers.md). -/
abbrev R.PSQ_STAT (n : Nat) : Nat := 0x200004 + 0x1000 * n
/-- PSQ_STAT [31:16]. -/
abbrev F.PSQ_STAT.CMD_STATUS (n : Nat) : Fld := ⟨0x200004 + 0x1000 * n, 16, 16⟩
/-- PSQ_STAT [11]. -/
abbrev F.PSQ_STAT.SEALED (n : Nat) : Fld := ⟨0x200004 + 0x1000 * n, 11, 1⟩
/-- PSQ_STAT [10:8]. -/
abbrev F.PSQ_STAT.EXEC (n : Nat) : Fld := ⟨0x200004 + 0x1000 * n, 8, 3⟩
/-- PSQ_STAT [2:0]. -/
abbrev F.PSQ_STAT.SITE (n : Nat) : Fld := ⟨0x200004 + 0x1000 * n, 0, 3⟩
/-- PSQ_HOLD_CAUSE (04_pattern_sequencers.md). -/
abbrev R.PSQ_HOLD_CAUSE (n : Nat) : Nat := 0x200008 + 0x1000 * n
/-- PSQ_HOLD_CAUSE [15:0]. -/
abbrev F.PSQ_HOLD_CAUSE.CODE (n : Nat) : Fld := ⟨0x200008 + 0x1000 * n, 0, 16⟩
/-- PSQ_HOLD_TICK (04_pattern_sequencers.md). -/
abbrev R.PSQ_HOLD_TICK (n : Nat) : Nat := 0x200010 + 0x1000 * n
/-- PSQ_HOLD_TICK [63:0]. -/
abbrev F.PSQ_HOLD_TICK.TICK (n : Nat) : Fld := ⟨0x200010 + 0x1000 * n, 0, 64⟩
/-- PSQ_START_TICK (04_pattern_sequencers.md). -/
abbrev R.PSQ_START_TICK (n : Nat) : Nat := 0x200018 + 0x1000 * n
/-- PSQ_START_TICK [63:0]. -/
abbrev F.PSQ_START_TICK.TICK (n : Nat) : Fld := ⟨0x200018 + 0x1000 * n, 0, 64⟩
/-- PSQ_ENTRY (04_pattern_sequencers.md). -/
abbrev R.PSQ_ENTRY (n : Nat) : Nat := 0x200020 + 0x1000 * n
/-- PSQ_ENTRY [31:16]. -/
abbrev F.PSQ_ENTRY.SVC_PC (n : Nat) : Fld := ⟨0x200020 + 0x1000 * n, 16, 16⟩
/-- PSQ_ENTRY [15:0]. -/
abbrev F.PSQ_ENTRY.RUN_PC (n : Nat) : Fld := ⟨0x200020 + 0x1000 * n, 0, 16⟩
/-- PSQ_CFG (04_pattern_sequencers.md). -/
abbrev R.PSQ_CFG (n : Nat) : Nat := 0x200024 + 0x1000 * n
/-- PSQ_CFG [11]. -/
abbrev F.PSQ_CFG.SVC_PRIV (n : Nat) : Fld := ⟨0x200024 + 0x1000 * n, 11, 1⟩
/-- PSQ_CFG [10]. -/
abbrev F.PSQ_CFG.RUN_PRIV (n : Nat) : Fld := ⟨0x200024 + 0x1000 * n, 10, 1⟩
/-- PSQ_CFG [9]. -/
abbrev F.PSQ_CFG.IRQ_PRIV (n : Nat) : Fld := ⟨0x200024 + 0x1000 * n, 9, 1⟩
/-- PSQ_CFG [8]. -/
abbrev F.PSQ_CFG.IE_INIT (n : Nat) : Fld := ⟨0x200024 + 0x1000 * n, 8, 1⟩
/-- PSQ_CFG [7:0]. -/
abbrev F.PSQ_CFG.IVBASE (n : Nat) : Fld := ⟨0x200024 + 0x1000 * n, 0, 8⟩
/-- PSQ_WCFG (04_pattern_sequencers.md). -/
abbrev R.PSQ_WCFG (n : Nat) : Nat := 0x200028 + 0x1000 * n
/-- PSQ_WCFG [29:20]. -/
abbrev F.PSQ_WCFG.STORE_LO (n : Nat) : Fld := ⟨0x200028 + 0x1000 * n, 20, 10⟩
/-- PSQ_WCFG [19:10]. -/
abbrev F.PSQ_WCFG.STORE_HI (n : Nat) : Fld := ⟨0x200028 + 0x1000 * n, 10, 10⟩
/-- PSQ_WCFG [6:4]. -/
abbrev F.PSQ_WCFG.FILL_AHEAD (n : Nat) : Fld := ⟨0x200028 + 0x1000 * n, 4, 3⟩
/-- PSQ_WCFG [2:0]. -/
abbrev F.PSQ_WCFG.SPILL_AHEAD (n : Nat) : Fld := ⟨0x200028 + 0x1000 * n, 0, 3⟩
/-- PSQ_SPILL_BASE (04_pattern_sequencers.md). -/
abbrev R.PSQ_SPILL_BASE (n : Nat) : Nat := 0x200030 + 0x1000 * n
/-- PSQ_SPILL_BASE [63:7]. -/
abbrev F.PSQ_SPILL_BASE.ADDR (n : Nat) : Fld := ⟨0x200030 + 0x1000 * n, 7, 57⟩
/-- PSQ_SPILL_LIMIT (04_pattern_sequencers.md). -/
abbrev R.PSQ_SPILL_LIMIT (n : Nat) : Nat := 0x200038 + 0x1000 * n
/-- PSQ_SPILL_LIMIT [23:0]. -/
abbrev F.PSQ_SPILL_LIMIT.DEPTH (n : Nat) : Fld := ⟨0x200038 + 0x1000 * n, 0, 24⟩
/-- PSQ_DAPER (04_pattern_sequencers.md). -/
abbrev R.PSQ_DAPER (n : Nat) : Nat := 0x20003c + 0x1000 * n
/-- PSQ_DAPER [7:0]. -/
abbrev F.PSQ_DAPER.BASE (n : Nat) : Fld := ⟨0x20003c + 0x1000 * n, 0, 8⟩
/-- PSQ_SEAL (04_pattern_sequencers.md). -/
abbrev R.PSQ_SEAL (n : Nat) : Nat := 0x200040 + 0x1000 * n
/-- PSQ_SEAL [1]. -/
abbrev F.PSQ_SEAL.SET (n : Nat) : Fld := ⟨0x200040 + 0x1000 * n, 1, 1⟩
/-- PSQ_SEAL [0]. -/
abbrev F.PSQ_SEAL.SEALED (n : Nat) : Fld := ⟨0x200040 + 0x1000 * n, 0, 1⟩
/-- PSQ_PC (04_pattern_sequencers.md). -/
abbrev R.PSQ_PC (n : Nat) : Nat := 0x200044 + 0x1000 * n
/-- PSQ_PC [31:16]. -/
abbrev F.PSQ_PC.EPC (n : Nat) : Fld := ⟨0x200044 + 0x1000 * n, 16, 16⟩
/-- PSQ_PC [15:0]. -/
abbrev F.PSQ_PC.PC (n : Nat) : Fld := ⟨0x200044 + 0x1000 * n, 0, 16⟩
/-- PSQ_ECAUSE (04_pattern_sequencers.md). -/
abbrev R.PSQ_ECAUSE (n : Nat) : Nat := 0x200048 + 0x1000 * n
/-- PSQ_ECAUSE [31:0]. -/
abbrev F.PSQ_ECAUSE.ECAUSE (n : Nat) : Fld := ⟨0x200048 + 0x1000 * n, 0, 32⟩
/-- PSQ_WSTAT (04_pattern_sequencers.md). -/
abbrev R.PSQ_WSTAT (n : Nat) : Nat := 0x20004c + 0x1000 * n
/-- PSQ_WSTAT [31:28]. -/
abbrev F.PSQ_WSTAT.BANK (n : Nat) : Fld := ⟨0x20004c + 0x1000 * n, 28, 4⟩
/-- PSQ_WSTAT [27:24]. -/
abbrev F.PSQ_WSTAT.FREE (n : Nat) : Fld := ⟨0x20004c + 0x1000 * n, 24, 4⟩
/-- PSQ_WSTAT [23:0]. -/
abbrev F.PSQ_WSTAT.DEPTH (n : Nat) : Fld := ⟨0x20004c + 0x1000 * n, 0, 24⟩
/-- PSQ_WSTORE (04_pattern_sequencers.md). -/
abbrev R.PSQ_WSTORE (n : Nat) : Nat := 0x200050 + 0x1000 * n
/-- PSQ_WSTORE [10]. -/
abbrev F.PSQ_WSTORE.SPILL_ERR (n : Nat) : Fld := ⟨0x200050 + 0x1000 * n, 10, 1⟩
/-- PSQ_WSTORE [9:0]. -/
abbrev F.PSQ_WSTORE.OCC (n : Nat) : Fld := ⟨0x200050 + 0x1000 * n, 0, 10⟩
/-- PSQ_FRAMECNT (04_pattern_sequencers.md). -/
abbrev R.PSQ_FRAMECNT (n : Nat) : Nat := 0x200058 + 0x1000 * n
/-- PSQ_FRAMECNT [63:0]. -/
abbrev F.PSQ_FRAMECNT.COUNT (n : Nat) : Fld := ⟨0x200058 + 0x1000 * n, 0, 64⟩
/-- PSQ_IRQ (04_pattern_sequencers.md). -/
abbrev R.PSQ_IRQ (n : Nat) : Nat := 0x200060 + 0x1000 * n
/-- PSQ_IRQ [20:16]. -/
abbrev F.PSQ_IRQ.EN (n : Nat) : Fld := ⟨0x200060 + 0x1000 * n, 16, 5⟩
/-- PSQ_IRQ [4:0]. -/
abbrev F.PSQ_IRQ.PEND (n : Nat) : Fld := ⟨0x200060 + 0x1000 * n, 0, 5⟩
/-- PSQ_DOORBELL (04_pattern_sequencers.md). -/
abbrev R.PSQ_DOORBELL (n : Nat) : Nat := 0x200064 + 0x1000 * n
/-- PSQ_DOORBELL [31:0]. -/
abbrev F.PSQ_DOORBELL.VALUE (n : Nat) : Fld := ⟨0x200064 + 0x1000 * n, 0, 32⟩
/-- PSQ_TIMER (04_pattern_sequencers.md). -/
abbrev R.PSQ_TIMER (n : Nat) : Nat := 0x200068 + 0x1000 * n
/-- PSQ_TIMER [31:0]. -/
abbrev F.PSQ_TIMER.MATCH (n : Nat) : Fld := ⟨0x200068 + 0x1000 * n, 0, 32⟩
/-- PSQ_SIG (04_pattern_sequencers.md). -/
abbrev R.PSQ_SIG (n : Nat) : Nat := 0x20006c + 0x1000 * n
/-- PSQ_SIG [12]. -/
abbrev F.PSQ_SIG.OVR (n : Nat) : Fld := ⟨0x20006c + 0x1000 * n, 12, 1⟩
/-- PSQ_SIG [11:8]. -/
abbrev F.PSQ_SIG.SRC (n : Nat) : Fld := ⟨0x20006c + 0x1000 * n, 8, 4⟩
/-- PSQ_SIG [7:0]. -/
abbrev F.PSQ_SIG.CODE (n : Nat) : Fld := ⟨0x20006c + 0x1000 * n, 0, 8⟩
/-- PSQ_PG_CMD (04_pattern_sequencers.md). -/
abbrev R.PSQ_PG_CMD (n : Nat) : Nat := 0x200070 + 0x1000 * n
/-- PSQ_PG_CMD [31:28]. -/
abbrev F.PSQ_PG_CMD.PAGE (n : Nat) : Fld := ⟨0x200070 + 0x1000 * n, 28, 4⟩
/-- PSQ_PG_CMD [23:0]. -/
abbrev F.PSQ_PG_CMD.UNIT (n : Nat) : Fld := ⟨0x200070 + 0x1000 * n, 0, 24⟩
/-- PSQ_PG_STAT (04_pattern_sequencers.md). -/
abbrev R.PSQ_PG_STAT (n : Nat) : Nat := 0x200074 + 0x1000 * n
/-- PSQ_PG_STAT [31:30]. -/
abbrev F.PSQ_PG_STAT.PAGE15 (n : Nat) : Fld := ⟨0x200074 + 0x1000 * n, 30, 2⟩
/-- PSQ_PG_STAT [29:28]. -/
abbrev F.PSQ_PG_STAT.PAGE14 (n : Nat) : Fld := ⟨0x200074 + 0x1000 * n, 28, 2⟩
/-- PSQ_PG_STAT [27:26]. -/
abbrev F.PSQ_PG_STAT.PAGE13 (n : Nat) : Fld := ⟨0x200074 + 0x1000 * n, 26, 2⟩
/-- PSQ_PG_STAT [25:24]. -/
abbrev F.PSQ_PG_STAT.PAGE12 (n : Nat) : Fld := ⟨0x200074 + 0x1000 * n, 24, 2⟩
/-- PSQ_PG_STAT [23:22]. -/
abbrev F.PSQ_PG_STAT.PAGE11 (n : Nat) : Fld := ⟨0x200074 + 0x1000 * n, 22, 2⟩
/-- PSQ_PG_STAT [21:20]. -/
abbrev F.PSQ_PG_STAT.PAGE10 (n : Nat) : Fld := ⟨0x200074 + 0x1000 * n, 20, 2⟩
/-- PSQ_PG_STAT [19:18]. -/
abbrev F.PSQ_PG_STAT.PAGE9 (n : Nat) : Fld := ⟨0x200074 + 0x1000 * n, 18, 2⟩
/-- PSQ_PG_STAT [17:16]. -/
abbrev F.PSQ_PG_STAT.PAGE8 (n : Nat) : Fld := ⟨0x200074 + 0x1000 * n, 16, 2⟩
/-- PSQ_PG_STAT [15:14]. -/
abbrev F.PSQ_PG_STAT.PAGE7 (n : Nat) : Fld := ⟨0x200074 + 0x1000 * n, 14, 2⟩
/-- PSQ_PG_STAT [13:12]. -/
abbrev F.PSQ_PG_STAT.PAGE6 (n : Nat) : Fld := ⟨0x200074 + 0x1000 * n, 12, 2⟩
/-- PSQ_PG_STAT [11:10]. -/
abbrev F.PSQ_PG_STAT.PAGE5 (n : Nat) : Fld := ⟨0x200074 + 0x1000 * n, 10, 2⟩
/-- PSQ_PG_STAT [9:8]. -/
abbrev F.PSQ_PG_STAT.PAGE4 (n : Nat) : Fld := ⟨0x200074 + 0x1000 * n, 8, 2⟩
/-- PSQ_PG_STAT [7:6]. -/
abbrev F.PSQ_PG_STAT.PAGE3 (n : Nat) : Fld := ⟨0x200074 + 0x1000 * n, 6, 2⟩
/-- PSQ_PG_STAT [5:4]. -/
abbrev F.PSQ_PG_STAT.PAGE2 (n : Nat) : Fld := ⟨0x200074 + 0x1000 * n, 4, 2⟩
/-- PSQ_PG_STAT [3:2]. -/
abbrev F.PSQ_PG_STAT.PAGE1 (n : Nat) : Fld := ⟨0x200074 + 0x1000 * n, 2, 2⟩
/-- PSQ_PG_STAT [1:0]. -/
abbrev F.PSQ_PG_STAT.PAGE0 (n : Nat) : Fld := ⟨0x200074 + 0x1000 * n, 0, 2⟩
/-- PSQ_PG_STATUS (04_pattern_sequencers.md). -/
abbrev R.PSQ_PG_STATUS (n : Nat) : Nat := 0x200078 + 0x1000 * n
/-- PSQ_PG_STATUS [15:0]. -/
abbrev F.PSQ_PG_STATUS.STATUS (n : Nat) : Fld := ⟨0x200078 + 0x1000 * n, 0, 16⟩
/-- PSQ_VOTE_CFG (04_pattern_sequencers.md). -/
abbrev R.PSQ_VOTE_CFG (n : Nat) : Nat := 0x20007c + 0x1000 * n
/-- PSQ_VOTE_CFG [7:4]. -/
abbrev F.PSQ_VOTE_CFG.GROUP (n : Nat) : Fld := ⟨0x20007c + 0x1000 * n, 4, 4⟩
/-- PSQ_VOTE_CFG [2:1]. -/
abbrev F.PSQ_VOTE_CFG.MASK (n : Nat) : Fld := ⟨0x20007c + 0x1000 * n, 1, 2⟩
/-- PSQ_VOTE_CFG [0]. -/
abbrev F.PSQ_VOTE_CFG.EN (n : Nat) : Fld := ⟨0x20007c + 0x1000 * n, 0, 1⟩
/-- PSQ_VENT_k (04_pattern_sequencers.md). -/
abbrev R.PSQ_VENT (n : Nat) (k : Nat) : Nat := 0x200080 + 0x1000 * n + 4 * k
/-- PSQ_VENT_k [15]. -/
abbrev F.PSQ_VENT.EN (n : Nat) (k : Nat) : Fld := ⟨0x200080 + 0x1000 * n + 4 * k, 15, 1⟩
/-- PSQ_VENT_k [13:8]. -/
abbrev F.PSQ_VENT.ROW (n : Nat) (k : Nat) : Fld := ⟨0x200080 + 0x1000 * n + 4 * k, 8, 6⟩
/-- PSQ_VENT_k [7:0]. -/
abbrev F.PSQ_VENT.COL (n : Nat) (k : Nat) : Fld := ⟨0x200080 + 0x1000 * n + 4 * k, 0, 8⟩
/-- PSQ_MMASK_k_w (04_pattern_sequencers.md). -/
abbrev R.PSQ_MMASK (n : Nat) (k : Nat) (w : Nat) : Nat := 0x200100 + 0x1000 * n + 32 * k + 4 * w
/-- PSQ_MMASK_k_w [31:0]. -/
abbrev F.PSQ_MMASK.SLICES (n : Nat) (k : Nat) (w : Nat) : Fld := ⟨0x200100 + 0x1000 * n + 32 * k + 4 * w, 0, 32⟩
/-- PSQ_WDBG_ADDR (04_pattern_sequencers.md). -/
abbrev R.PSQ_WDBG_ADDR (n : Nat) : Nat := 0x200200 + 0x1000 * n
/-- PSQ_WDBG_ADDR [7:4]. -/
abbrev F.PSQ_WDBG_ADDR.BANK (n : Nat) : Fld := ⟨0x200200 + 0x1000 * n, 4, 4⟩
/-- PSQ_WDBG_ADDR [3:0]. -/
abbrev F.PSQ_WDBG_ADDR.REG (n : Nat) : Fld := ⟨0x200200 + 0x1000 * n, 0, 4⟩
/-- PSQ_WDBG_DATA (04_pattern_sequencers.md). -/
abbrev R.PSQ_WDBG_DATA (n : Nat) : Nat := 0x200204 + 0x1000 * n
/-- PSQ_WDBG_DATA [31:0]. -/
abbrev F.PSQ_WDBG_DATA.DATA (n : Nat) : Fld := ⟨0x200204 + 0x1000 * n, 0, 32⟩
/-- PSL_CTRL (05_pin_slices.md). -/
abbrev R.PSL_CTRL (s : Nat) : Nat := 0x100000 + 0x400 * s
/-- PSL_CTRL [1]. -/
abbrev F.PSL_CTRL.CNT_CLR (s : Nat) : Fld := ⟨0x100000 + 0x400 * s, 1, 1⟩
/-- PSL_CTRL [0]. -/
abbrev F.PSL_CTRL.CAL (s : Nat) : Fld := ⟨0x100000 + 0x400 * s, 0, 1⟩
/-- PSL_STAT (05_pin_slices.md). -/
abbrev R.PSL_STAT (s : Nat) : Nat := 0x100004 + 0x400 * s
/-- PSL_STAT [31:16]. -/
abbrev F.PSL_STAT.CMD_STATUS (s : Nat) : Fld := ⟨0x100004 + 0x400 * s, 16, 16⟩
/-- PSL_STAT [13]. -/
abbrev F.PSL_STAT.CMPBAD_SEEN (s : Nat) : Fld := ⟨0x100004 + 0x400 * s, 13, 1⟩
/-- PSL_STAT [12]. -/
abbrev F.PSL_STAT.CLAMP (s : Nat) : Fld := ⟨0x100004 + 0x400 * s, 12, 1⟩
/-- PSL_STAT [11]. -/
abbrev F.PSL_STAT.EDGE_ORDER (s : Nat) : Fld := ⟨0x100004 + 0x400 * s, 11, 1⟩
/-- PSL_STAT [10]. -/
abbrev F.PSL_STAT.LOS_SEEN (s : Nat) : Fld := ⟨0x100004 + 0x400 * s, 10, 1⟩
/-- PSL_STAT [9]. -/
abbrev F.PSL_STAT.LOS_L (s : Nat) : Fld := ⟨0x100004 + 0x400 * s, 9, 1⟩
/-- PSL_STAT [8]. -/
abbrev F.PSL_STAT.LOS_H (s : Nat) : Fld := ⟨0x100004 + 0x400 * s, 8, 1⟩
/-- PSL_STAT [7]. -/
abbrev F.PSL_STAT.STALE (s : Nat) : Fld := ⟨0x100004 + 0x400 * s, 7, 1⟩
/-- PSL_STAT [6]. -/
abbrev F.PSL_STAT.BOUND (s : Nat) : Fld := ⟨0x100004 + 0x400 * s, 6, 1⟩
/-- PSL_STAT [5:3]. -/
abbrev F.PSL_STAT.SAFE_WHY (s : Nat) : Fld := ⟨0x100004 + 0x400 * s, 3, 3⟩
/-- PSL_STAT [2:0]. -/
abbrev F.PSL_STAT.STATE (s : Nat) : Fld := ⟨0x100004 + 0x400 * s, 0, 3⟩
/-- PSL_SITE (05_pin_slices.md). -/
abbrev R.PSL_SITE (s : Nat) : Nat := 0x100008 + 0x400 * s
/-- PSL_SITE [4]. -/
abbrev F.PSL_SITE.EN (s : Nat) : Fld := ⟨0x100008 + 0x400 * s, 4, 1⟩
/-- PSL_SITE [3:0]. -/
abbrev F.PSL_SITE.SITE (s : Nat) : Fld := ⟨0x100008 + 0x400 * s, 0, 4⟩
/-- PSL_BIND (05_pin_slices.md). -/
abbrev R.PSL_BIND (s : Nat) : Nat := 0x10000c + 0x400 * s
/-- PSL_BIND [31]. -/
abbrev F.PSL_BIND.EN (s : Nat) : Fld := ⟨0x10000c + 0x400 * s, 31, 1⟩
/-- PSL_BIND [23:16]. -/
abbrev F.PSL_BIND.GEN (s : Nat) : Fld := ⟨0x10000c + 0x400 * s, 16, 8⟩
/-- PSL_BIND [13:8]. -/
abbrev F.PSL_BIND.PARTNER (s : Nat) : Fld := ⟨0x10000c + 0x400 * s, 8, 6⟩
/-- PSL_BIND [7:0]. -/
abbrev F.PSL_BIND.CHANNEL (s : Nat) : Fld := ⟨0x10000c + 0x400 * s, 0, 8⟩
/-- PSL_CFG (05_pin_slices.md). -/
abbrev R.PSL_CFG (s : Nat) : Nat := 0x100010 + 0x400 * s
/-- PSL_CFG [9]. -/
abbrev F.PSL_CFG.LOS_EN (s : Nat) : Fld := ⟨0x100010 + 0x400 * s, 9, 1⟩
/-- PSL_CFG [8]. -/
abbrev F.PSL_CFG.CMPL_INV (s : Nat) : Fld := ⟨0x100010 + 0x400 * s, 8, 1⟩
/-- PSL_CFG [7]. -/
abbrev F.PSL_CFG.CMPH_INV (s : Nat) : Fld := ⟨0x100010 + 0x400 * s, 7, 1⟩
/-- PSL_CFG [6]. -/
abbrev F.PSL_CFG.EO_LVL (s : Nat) : Fld := ⟨0x100010 + 0x400 * s, 6, 1⟩
/-- PSL_CFG [5]. -/
abbrev F.PSL_CFG.PAUSE_POL (s : Nat) : Fld := ⟨0x100010 + 0x400 * s, 5, 1⟩
/-- PSL_CFG [4]. -/
abbrev F.PSL_CFG.SPOL (s : Nat) : Fld := ⟨0x100010 + 0x400 * s, 4, 1⟩
/-- PSL_CFG [3]. -/
abbrev F.PSL_CFG.VGAP (s : Nat) : Fld := ⟨0x100010 + 0x400 * s, 3, 1⟩
/-- PSL_CFG [2:0]. -/
abbrev F.PSL_CFG.MODE (s : Nat) : Fld := ⟨0x100010 + 0x400 * s, 0, 3⟩
/-- PSL_POS_LEAD (05_pin_slices.md). -/
abbrev R.PSL_POS_LEAD (s : Nat) : Nat := 0x100014 + 0x400 * s
/-- PSL_POS_LEAD [16:7]. -/
abbrev F.PSL_POS_LEAD.COARSE (s : Nat) : Fld := ⟨0x100014 + 0x400 * s, 7, 10⟩
/-- PSL_POS_LEAD [6:0]. -/
abbrev F.PSL_POS_LEAD.FINE (s : Nat) : Fld := ⟨0x100014 + 0x400 * s, 0, 7⟩
/-- PSL_POS_TRAIL (05_pin_slices.md). -/
abbrev R.PSL_POS_TRAIL (s : Nat) : Nat := 0x100018 + 0x400 * s
/-- PSL_POS_TRAIL [16:7]. -/
abbrev F.PSL_POS_TRAIL.COARSE (s : Nat) : Fld := ⟨0x100018 + 0x400 * s, 7, 10⟩
/-- PSL_POS_TRAIL [6:0]. -/
abbrev F.PSL_POS_TRAIL.FINE (s : Nat) : Fld := ⟨0x100018 + 0x400 * s, 0, 7⟩
/-- PSL_POS_DEN (05_pin_slices.md). -/
abbrev R.PSL_POS_DEN (s : Nat) : Nat := 0x10001c + 0x400 * s
/-- PSL_POS_DEN [16:7]. -/
abbrev F.PSL_POS_DEN.COARSE (s : Nat) : Fld := ⟨0x10001c + 0x400 * s, 7, 10⟩
/-- PSL_POS_DEN [6:0]. -/
abbrev F.PSL_POS_DEN.FINE (s : Nat) : Fld := ⟨0x10001c + 0x400 * s, 0, 7⟩
/-- PSL_POS_STRB (05_pin_slices.md). -/
abbrev R.PSL_POS_STRB (s : Nat) : Nat := 0x100020 + 0x400 * s
/-- PSL_POS_STRB [16:7]. -/
abbrev F.PSL_POS_STRB.COARSE (s : Nat) : Fld := ⟨0x100020 + 0x400 * s, 7, 10⟩
/-- PSL_POS_STRB [6:0]. -/
abbrev F.PSL_POS_STRB.FINE (s : Nat) : Fld := ⟨0x100020 + 0x400 * s, 0, 7⟩
/-- PSL_DSK_TX (05_pin_slices.md). -/
abbrev R.PSL_DSK_TX (s : Nat) : Nat := 0x100024 + 0x400 * s
/-- PSL_DSK_TX [25:16]. -/
abbrev F.PSL_DSK_TX.DEN (s : Nat) : Fld := ⟨0x100024 + 0x400 * s, 16, 10⟩
/-- PSL_DSK_TX [9:0]. -/
abbrev F.PSL_DSK_TX.DRV (s : Nat) : Fld := ⟨0x100024 + 0x400 * s, 0, 10⟩
/-- PSL_DSK_RX (05_pin_slices.md). -/
abbrev R.PSL_DSK_RX (s : Nat) : Nat := 0x100028 + 0x400 * s
/-- PSL_DSK_RX [25:16]. -/
abbrev F.PSL_DSK_RX.CMPL (s : Nat) : Fld := ⟨0x100028 + 0x400 * s, 16, 10⟩
/-- PSL_DSK_RX [9:0]. -/
abbrev F.PSL_DSK_RX.CMPH (s : Nat) : Fld := ⟨0x100028 + 0x400 * s, 0, 10⟩
/-- PSL_RXALIGN (05_pin_slices.md). -/
abbrev R.PSL_RXALIGN (s : Nat) : Nat := 0x10002c + 0x400 * s
/-- PSL_RXALIGN [11:8]. -/
abbrev F.PSL_RXALIGN.RXOFS (s : Nat) : Fld := ⟨0x10002c + 0x400 * s, 8, 4⟩
/-- PSL_RXALIGN [6:0]. -/
abbrev F.PSL_RXALIGN.K (s : Nat) : Fld := ⟨0x10002c + 0x400 * s, 0, 7⟩
/-- PSL_EQ (05_pin_slices.md). -/
abbrev R.PSL_EQ (s : Nat) : Nat := 0x100030 + 0x400 * s
/-- PSL_EQ [11:8]. -/
abbrev F.PSL_EQ.RX_CTLE (s : Nat) : Fld := ⟨0x100030 + 0x400 * s, 8, 4⟩
/-- PSL_EQ [7:4]. -/
abbrev F.PSL_EQ.TX_DEEMPH (s : Nat) : Fld := ⟨0x100030 + 0x400 * s, 4, 4⟩
/-- PSL_EQ [3:0]. -/
abbrev F.PSL_EQ.TX_SWING (s : Nat) : Fld := ⟨0x100030 + 0x400 * s, 0, 4⟩
/-- PSL_CAL_RESULT (05_pin_slices.md). -/
abbrev R.PSL_CAL_RESULT (s : Nat) : Nat := 0x100034 + 0x400 * s
/-- PSL_CAL_RESULT [16:0]. -/
abbrev F.PSL_CAL_RESULT.RTRIP (s : Nat) : Fld := ⟨0x100034 + 0x400 * s, 0, 17⟩
/-- PSL_CNT_FRAMES (05_pin_slices.md). -/
abbrev R.PSL_CNT_FRAMES (s : Nat) : Nat := 0x100038 + 0x400 * s
/-- PSL_CNT_FRAMES [31:0]. -/
abbrev F.PSL_CNT_FRAMES.COUNT (s : Nat) : Fld := ⟨0x100038 + 0x400 * s, 0, 32⟩
/-- PSL_CNT_FAILUI (05_pin_slices.md). -/
abbrev R.PSL_CNT_FAILUI (s : Nat) : Nat := 0x10003c + 0x400 * s
/-- PSL_CNT_FAILUI [31:0]. -/
abbrev F.PSL_CNT_FAILUI.COUNT (s : Nat) : Fld := ⟨0x10003c + 0x400 * s, 0, 32⟩
/-- PSL_CNT_MISC (05_pin_slices.md). -/
abbrev R.PSL_CNT_MISC (s : Nat) : Nat := 0x100040 + 0x400 * s
/-- PSL_CNT_MISC [31:16]. -/
abbrev F.PSL_CNT_MISC.CMPBAD (s : Nat) : Fld := ⟨0x100040 + 0x400 * s, 16, 16⟩
/-- PSL_CNT_MISC [15:0]. -/
abbrev F.PSL_CNT_MISC.VGAP (s : Nat) : Fld := ⟨0x100040 + 0x400 * s, 0, 16⟩
/-- PSL_FIRST_FAIL_TICK (05_pin_slices.md). -/
abbrev R.PSL_FIRST_FAIL_TICK (s : Nat) : Nat := 0x100048 + 0x400 * s
/-- PSL_FIRST_FAIL_TICK [63:0]. -/
abbrev F.PSL_FIRST_FAIL_TICK.TICK (s : Nat) : Fld := ⟨0x100048 + 0x400 * s, 0, 64⟩
/-- PSL_FIRST_FAIL (05_pin_slices.md). -/
abbrev R.PSL_FIRST_FAIL (s : Nat) : Nat := 0x100050 + 0x400 * s
/-- PSL_FIRST_FAIL [16]. -/
abbrev F.PSL_FIRST_FAIL.VALID (s : Nat) : Fld := ⟨0x100050 + 0x400 * s, 16, 1⟩
/-- PSL_FIRST_FAIL [15:0]. -/
abbrev F.PSL_FIRST_FAIL.WORD (s : Nat) : Fld := ⟨0x100050 + 0x400 * s, 0, 16⟩
/-- PSL_QCTRL_q (05_pin_slices.md). -/
abbrev R.PSL_QCTRL (q : Nat) : Nat := 0x140000 + 4 * q
/-- PSL_QCTRL_q [0]. -/
abbrev F.PSL_QCTRL.PWR_EN (q : Nat) : Fld := ⟨0x140000 + 4 * q, 0, 1⟩
/-- PSL_QSTAT_q (05_pin_slices.md). -/
abbrev R.PSL_QSTAT (q : Nat) : Nat := 0x140010 + 4 * q
/-- PSL_QSTAT_q [31:16]. -/
abbrev F.PSL_QSTAT.STATUS (q : Nat) : Fld := ⟨0x140010 + 4 * q, 16, 16⟩
/-- PSL_QSTAT_q [1]. -/
abbrev F.PSL_QSTAT.READY (q : Nat) : Fld := ⟨0x140010 + 4 * q, 1, 1⟩
/-- PSL_QSTAT_q [0]. -/
abbrev F.PSL_QSTAT.PWR_GOOD (q : Nat) : Fld := ⟨0x140010 + 4 * q, 0, 1⟩
/-- PSL_LOS_w (05_pin_slices.md). -/
abbrev R.PSL_LOS (w : Nat) : Nat := 0x140020 + 4 * w
/-- PSL_LOS_w [31:0]. -/
abbrev F.PSL_LOS.LOS (w : Nat) : Fld := ⟨0x140020 + 4 * w, 0, 32⟩
/-- PSL_PARTNER_DROP (05_pin_slices.md). -/
abbrev R.PSL_PARTNER_DROP : Nat := 0x140040
/-- PSL_PARTNER_DROP [8]. -/
abbrev F.PSL_PARTNER_DROP.GO : Fld := ⟨0x140040, 8, 1⟩
/-- PSL_PARTNER_DROP [5:0]. -/
abbrev F.PSL_PARTNER_DROP.PARTNER : Fld := ⟨0x140040, 0, 6⟩
/-- FCQ_GLB_CFG (06_fail_capture_queues.md). -/
abbrev R.FCQ_GLB_CFG : Nat := 0x300000
/-- FCQ_GLB_CFG [15:0]. -/
abbrev F.FCQ_GLB_CFG.BW_LIMIT : Fld := ⟨0x300000, 0, 16⟩
/-- FCQ_SAT_SUM_w (06_fail_capture_queues.md). -/
abbrev R.FCQ_SAT_SUM (w : Nat) : Nat := 0x300010 + 4 * w
/-- FCQ_SAT_SUM_w [31:0]. -/
abbrev F.FCQ_SAT_SUM.SAT (w : Nat) : Fld := ⟨0x300010 + 4 * w, 0, 32⟩
/-- FCQ_SRC_CFG_x (06_fail_capture_queues.md). -/
abbrev R.FCQ_SRC_CFG (x : Nat) : Nat := 0x301000 + 64 * x
/-- FCQ_SRC_CFG_x [31]. -/
abbrev F.FCQ_SRC_CFG.EN (x : Nat) : Fld := ⟨0x301000 + 64 * x, 31, 1⟩
/-- FCQ_SRC_CFG_x [30]. -/
abbrev F.FCQ_SRC_CFG.ALLF (x : Nat) : Fld := ⟨0x301000 + 64 * x, 30, 1⟩
/-- FCQ_SRC_CFG_x [29:24]. -/
abbrev F.FCQ_SRC_CFG.QUEUE (x : Nat) : Fld := ⟨0x301000 + 64 * x, 24, 6⟩
/-- FCQ_SRC_CFG_x [23:16]. -/
abbrev F.FCQ_SRC_CFG.RATE (x : Nat) : Fld := ⟨0x301000 + 64 * x, 16, 8⟩
/-- FCQ_SRC_CFG_x [15:0]. -/
abbrev F.FCQ_SRC_CFG.BM_OFS (x : Nat) : Fld := ⟨0x301000 + 64 * x, 0, 16⟩
/-- FCQ_SRC_CRED_x (06_fail_capture_queues.md). -/
abbrev R.FCQ_SRC_CRED (x : Nat) : Nat := 0x301004 + 64 * x
/-- FCQ_SRC_CRED_x [26:16]. -/
abbrev F.FCQ_SRC_CRED.SAT_EXIT (x : Nat) : Fld := ⟨0x301004 + 64 * x, 16, 11⟩
/-- FCQ_SRC_CRED_x [10:0]. -/
abbrev F.FCQ_SRC_CRED.CAP (x : Nat) : Fld := ⟨0x301004 + 64 * x, 0, 11⟩
/-- FCQ_SRC_STAT_x (06_fail_capture_queues.md). -/
abbrev R.FCQ_SRC_STAT (x : Nat) : Nat := 0x301008 + 64 * x
/-- FCQ_SRC_STAT_x [31]. -/
abbrev F.FCQ_SRC_STAT.SATURATED (x : Nat) : Fld := ⟨0x301008 + 64 * x, 31, 1⟩
/-- FCQ_SRC_STAT_x [30]. -/
abbrev F.FCQ_SRC_STAT.PEND (x : Nat) : Fld := ⟨0x301008 + 64 * x, 30, 1⟩
/-- FCQ_SRC_STAT_x [23:16]. -/
abbrev F.FCQ_SRC_STAT.CAUSE (x : Nat) : Fld := ⟨0x301008 + 64 * x, 16, 8⟩
/-- FCQ_SRC_STAT_x [10:0]. -/
abbrev F.FCQ_SRC_STAT.CR (x : Nat) : Fld := ⟨0x301008 + 64 * x, 0, 11⟩
/-- FCQ_SRC_SATCNT_x (06_fail_capture_queues.md). -/
abbrev R.FCQ_SRC_SATCNT (x : Nat) : Nat := 0x301010 + 64 * x
/-- FCQ_SRC_SATCNT_x [63:32]. -/
abbrev F.FCQ_SRC_SATCNT.FAILUI (x : Nat) : Fld := ⟨0x301010 + 64 * x, 32, 32⟩
/-- FCQ_SRC_SATCNT_x [31:0]. -/
abbrev F.FCQ_SRC_SATCNT.PKTS (x : Nat) : Fld := ⟨0x301010 + 64 * x, 0, 32⟩
/-- FCQ_SRC_SATFIRST_x (06_fail_capture_queues.md). -/
abbrev R.FCQ_SRC_SATFIRST (x : Nat) : Nat := 0x301018 + 64 * x
/-- FCQ_SRC_SATFIRST_x [63:0]. -/
abbrev F.FCQ_SRC_SATFIRST.TICK (x : Nat) : Fld := ⟨0x301018 + 64 * x, 0, 64⟩
/-- FCQ_SRC_SATLAST_x (06_fail_capture_queues.md). -/
abbrev R.FCQ_SRC_SATLAST (x : Nat) : Nat := 0x301020 + 64 * x
/-- FCQ_SRC_SATLAST_x [63:0]. -/
abbrev F.FCQ_SRC_SATLAST.TICK (x : Nat) : Fld := ⟨0x301020 + 64 * x, 0, 64⟩
/-- FCQ_Q_CFG_k (06_fail_capture_queues.md). -/
abbrev R.FCQ_Q_CFG (k : Nat) : Nat := 0x304000 + 0x100 * k
/-- FCQ_Q_CFG_k [31]. -/
abbrev F.FCQ_Q_CFG.EN (k : Nat) : Fld := ⟨0x304000 + 0x100 * k, 31, 1⟩
/-- FCQ_Q_CFG_k [30]. -/
abbrev F.FCQ_Q_CFG.TAP_EN (k : Nat) : Fld := ⟨0x304000 + 0x100 * k, 30, 1⟩
/-- FCQ_Q_CFG_k [29:26]. -/
abbrev F.FCQ_Q_CFG.TAP_LANE (k : Nat) : Fld := ⟨0x304000 + 0x100 * k, 26, 4⟩
/-- FCQ_Q_CFG_k [25:24]. -/
abbrev F.FCQ_Q_CFG.FORM (k : Nat) : Fld := ⟨0x304000 + 0x100 * k, 24, 2⟩
/-- FCQ_Q_CFG_k [23]. -/
abbrev F.FCQ_Q_CFG.WRAP (k : Nat) : Fld := ⟨0x304000 + 0x100 * k, 23, 1⟩
/-- FCQ_Q_CFG_k [22]. -/
abbrev F.FCQ_Q_CFG.BM_WRAP (k : Nat) : Fld := ⟨0x304000 + 0x100 * k, 22, 1⟩
/-- FCQ_Q_CFG_k [20:16]. -/
abbrev F.FCQ_Q_CFG.CP (k : Nat) : Fld := ⟨0x304000 + 0x100 * k, 16, 5⟩
/-- FCQ_Q_CFG_k [15:13]. -/
abbrev F.FCQ_Q_CFG.MSQ (k : Nat) : Fld := ⟨0x304000 + 0x100 * k, 13, 3⟩
/-- FCQ_Q_CFG_k [12]. -/
abbrev F.FCQ_Q_CFG.MIRROR (k : Nat) : Fld := ⟨0x304000 + 0x100 * k, 12, 1⟩
/-- FCQ_Q_CFG_k [11:0]. -/
abbrev F.FCQ_Q_CFG.FIRST_N (k : Nat) : Fld := ⟨0x304000 + 0x100 * k, 0, 12⟩
/-- FCQ_Q_CMD_k (06_fail_capture_queues.md). -/
abbrev R.FCQ_Q_CMD (k : Nat) : Nat := 0x304004 + 0x100 * k
/-- FCQ_Q_CMD_k [9:8]. -/
abbrev F.FCQ_Q_CMD.MARK (k : Nat) : Fld := ⟨0x304004 + 0x100 * k, 8, 2⟩
/-- FCQ_Q_CMD_k [3:0]. -/
abbrev F.FCQ_Q_CMD.OP (k : Nat) : Fld := ⟨0x304004 + 0x100 * k, 0, 4⟩
/-- FCQ_Q_CMDSTAT_k (06_fail_capture_queues.md). -/
abbrev R.FCQ_Q_CMDSTAT (k : Nat) : Nat := 0x30400c + 0x100 * k
/-- FCQ_Q_CMDSTAT_k [31:16]. -/
abbrev F.FCQ_Q_CMDSTAT.STATUS (k : Nat) : Fld := ⟨0x30400c + 0x100 * k, 16, 16⟩
/-- FCQ_Q_CMDSTAT_k [15:0]. -/
abbrev F.FCQ_Q_CMDSTAT.RESET_CNT (k : Nat) : Fld := ⟨0x30400c + 0x100 * k, 0, 16⟩
/-- FCQ_Q_STAT_k (06_fail_capture_queues.md). -/
abbrev R.FCQ_Q_STAT (k : Nat) : Nat := 0x304008 + 0x100 * k
/-- FCQ_Q_STAT_k [31:9]. -/
abbrev F.FCQ_Q_STAT.STATUS_HI (k : Nat) : Fld := ⟨0x304008 + 0x100 * k, 9, 23⟩
/-- FCQ_Q_STAT_k [8:6]. -/
abbrev F.FCQ_Q_STAT.SEEN (k : Nat) : Fld := ⟨0x304008 + 0x100 * k, 6, 3⟩
/-- FCQ_Q_STAT_k [5:0]. -/
abbrev F.FCQ_Q_STAT.STATUS_LO (k : Nat) : Fld := ⟨0x304008 + 0x100 * k, 0, 6⟩
/-- FCQ_Q_WPTR_k (06_fail_capture_queues.md). -/
abbrev R.FCQ_Q_WPTR (k : Nat) : Nat := 0x304010 + 0x100 * k
/-- FCQ_Q_WPTR_k [31:0]. -/
abbrev F.FCQ_Q_WPTR.PTR (k : Nat) : Fld := ⟨0x304010 + 0x100 * k, 0, 32⟩
/-- FCQ_Q_RPTR_k (06_fail_capture_queues.md). -/
abbrev R.FCQ_Q_RPTR (k : Nat) : Nat := 0x304014 + 0x100 * k
/-- FCQ_Q_RPTR_k [31:0]. -/
abbrev F.FCQ_Q_RPTR.PTR (k : Nat) : Fld := ⟨0x304014 + 0x100 * k, 0, 32⟩
/-- FCQ_Q_TPTR_k (06_fail_capture_queues.md). -/
abbrev R.FCQ_Q_TPTR (k : Nat) : Nat := 0x304018 + 0x100 * k
/-- FCQ_Q_TPTR_k [31:0]. -/
abbrev F.FCQ_Q_TPTR.PTR (k : Nat) : Fld := ⟨0x304018 + 0x100 * k, 0, 32⟩
/-- FCQ_FR_BASE_k (06_fail_capture_queues.md). -/
abbrev R.FCQ_FR_BASE (k : Nat) : Nat := 0x304020 + 0x100 * k
/-- FCQ_FR_BASE_k [63:12]. -/
abbrev F.FCQ_FR_BASE.ADDR (k : Nat) : Fld := ⟨0x304020 + 0x100 * k, 12, 52⟩
/-- FCQ_FR_SIZE_k (06_fail_capture_queues.md). -/
abbrev R.FCQ_FR_SIZE (k : Nat) : Nat := 0x304028 + 0x100 * k
/-- FCQ_FR_SIZE_k [63:12]. -/
abbrev F.FCQ_FR_SIZE.SIZE (k : Nat) : Fld := ⟨0x304028 + 0x100 * k, 12, 52⟩
/-- FCQ_FR_WTOTAL_k (06_fail_capture_queues.md). -/
abbrev R.FCQ_FR_WTOTAL (k : Nat) : Nat := 0x304030 + 0x100 * k
/-- FCQ_FR_WTOTAL_k [63:0]. -/
abbrev F.FCQ_FR_WTOTAL.BYTES (k : Nat) : Fld := ⟨0x304030 + 0x100 * k, 0, 64⟩
/-- FCQ_FR_BMCFG_k (06_fail_capture_queues.md). -/
abbrev R.FCQ_FR_BMCFG (k : Nat) : Nat := 0x304038 + 0x100 * k
/-- FCQ_FR_BMCFG_k [63:32]. -/
abbrev F.FCQ_FR_BMCFG.FRAMES (k : Nat) : Fld := ⟨0x304038 + 0x100 * k, 32, 32⟩
/-- FCQ_FR_BMCFG_k [23:0]. -/
abbrev F.FCQ_FR_BMCFG.ROWWORDS (k : Nat) : Fld := ⟨0x304038 + 0x100 * k, 0, 24⟩
/-- FCQ_FR_TBASE_k (06_fail_capture_queues.md). -/
abbrev R.FCQ_FR_TBASE (k : Nat) : Nat := 0x304040 + 0x100 * k
/-- FCQ_FR_TBASE_k [63:0]. -/
abbrev F.FCQ_FR_TBASE.TICK (k : Nat) : Fld := ⟨0x304040 + 0x100 * k, 0, 64⟩
/-- FCQ_FR_NPLACED_k (06_fail_capture_queues.md). -/
abbrev R.FCQ_FR_NPLACED (k : Nat) : Nat := 0x304048 + 0x100 * k
/-- FCQ_FR_NPLACED_k [63:32]. -/
abbrev F.FCQ_FR_NPLACED.OUTMAP (k : Nat) : Fld := ⟨0x304048 + 0x100 * k, 32, 32⟩
/-- FCQ_FR_NPLACED_k [31:0]. -/
abbrev F.FCQ_FR_NPLACED.RECORDS (k : Nat) : Fld := ⟨0x304048 + 0x100 * k, 0, 32⟩
/-- FCQ_FR_MARK_k_m (06_fail_capture_queues.md). -/
abbrev R.FCQ_FR_MARK (k : Nat) (m : Nat) : Nat := 0x304050 + 0x100 * k + 8 * m
/-- FCQ_FR_MARK_k_m [63]. -/
abbrev F.FCQ_FR_MARK.VALID (k : Nat) (m : Nat) : Fld := ⟨0x304050 + 0x100 * k + 8 * m, 63, 1⟩
/-- FCQ_FR_MARK_k_m [62]. -/
abbrev F.FCQ_FR_MARK.LOST (k : Nat) (m : Nat) : Fld := ⟨0x304050 + 0x100 * k + 8 * m, 62, 1⟩
/-- FCQ_FR_MARK_k_m [61:0]. -/
abbrev F.FCQ_FR_MARK.POS (k : Nat) (m : Nat) : Fld := ⟨0x304050 + 0x100 * k + 8 * m, 0, 62⟩
/-- FCQ_SQ_CFG_j (06_fail_capture_queues.md). -/
abbrev R.FCQ_SQ_CFG (j : Nat) : Nat := 0x308000 + 0x100 * j
/-- FCQ_SQ_CFG_j [31]. -/
abbrev F.FCQ_SQ_CFG.EN (j : Nat) : Fld := ⟨0x308000 + 0x100 * j, 31, 1⟩
/-- FCQ_SQ_CFG_j [30]. -/
abbrev F.FCQ_SQ_CFG.CONSUMER (j : Nat) : Fld := ⟨0x308000 + 0x100 * j, 30, 1⟩
/-- FCQ_SQ_CFG_j [26:16]. -/
abbrev F.FCQ_SQ_CFG.CT (j : Nat) : Fld := ⟨0x308000 + 0x100 * j, 16, 11⟩
/-- FCQ_SQ_WM_j (06_fail_capture_queues.md). -/
abbrev R.FCQ_SQ_WM (j : Nat) : Nat := 0x308004 + 0x100 * j
/-- FCQ_SQ_WM_j [28:16]. -/
abbrev F.FCQ_SQ_WM.HI (j : Nat) : Fld := ⟨0x308004 + 0x100 * j, 16, 13⟩
/-- FCQ_SQ_WM_j [12:0]. -/
abbrev F.FCQ_SQ_WM.LO (j : Nat) : Fld := ⟨0x308004 + 0x100 * j, 0, 13⟩
/-- FCQ_SQ_STAT_j (06_fail_capture_queues.md). -/
abbrev R.FCQ_SQ_STAT (j : Nat) : Nat := 0x308008 + 0x100 * j
/-- FCQ_SQ_STAT_j [31:9]. -/
abbrev F.FCQ_SQ_STAT.STATUS_HI (j : Nat) : Fld := ⟨0x308008 + 0x100 * j, 9, 23⟩
/-- FCQ_SQ_STAT_j [8:6]. -/
abbrev F.FCQ_SQ_STAT.SEEN (j : Nat) : Fld := ⟨0x308008 + 0x100 * j, 6, 3⟩
/-- FCQ_SQ_STAT_j [5:0]. -/
abbrev F.FCQ_SQ_STAT.STATUS_LO (j : Nat) : Fld := ⟨0x308008 + 0x100 * j, 0, 6⟩
/-- FCQ_SQ_XCNT_j (06_fail_capture_queues.md). -/
abbrev R.FCQ_SQ_XCNT (j : Nat) : Nat := 0x30800c + 0x100 * j
/-- FCQ_SQ_XCNT_j [31:16]. -/
abbrev F.FCQ_SQ_XCNT.XLO_CNT (j : Nat) : Fld := ⟨0x30800c + 0x100 * j, 16, 16⟩
/-- FCQ_SQ_XCNT_j [15:0]. -/
abbrev F.FCQ_SQ_XCNT.XHI_CNT (j : Nat) : Fld := ⟨0x30800c + 0x100 * j, 0, 16⟩
/-- FCQ_SQ_CMD_j (06_fail_capture_queues.md). -/
abbrev R.FCQ_SQ_CMD (j : Nat) : Nat := 0x308010 + 0x100 * j
/-- FCQ_SQ_CMD_j [3:0]. -/
abbrev F.FCQ_SQ_CMD.OP (j : Nat) : Fld := ⟨0x308010 + 0x100 * j, 0, 4⟩
/-- FCQ_SQ_WPTR_j (06_fail_capture_queues.md). -/
abbrev R.FCQ_SQ_WPTR (j : Nat) : Nat := 0x308014 + 0x100 * j
/-- FCQ_SQ_WPTR_j [31:0]. -/
abbrev F.FCQ_SQ_WPTR.PTR (j : Nat) : Fld := ⟨0x308014 + 0x100 * j, 0, 32⟩
/-- FCQ_SQ_RPTR_j (06_fail_capture_queues.md). -/
abbrev R.FCQ_SQ_RPTR (j : Nat) : Nat := 0x308018 + 0x100 * j
/-- FCQ_SQ_RPTR_j [31:0]. -/
abbrev F.FCQ_SQ_RPTR.PTR (j : Nat) : Fld := ⟨0x308018 + 0x100 * j, 0, 32⟩
/-- FCQ_SQ_DROP_j (06_fail_capture_queues.md). -/
abbrev R.FCQ_SQ_DROP (j : Nat) : Nat := 0x30801c + 0x100 * j
/-- FCQ_SQ_DROP_j [31:0]. -/
abbrev F.FCQ_SQ_DROP.COUNT (j : Nat) : Fld := ⟨0x30801c + 0x100 * j, 0, 32⟩
/-- FCQ_SQ_POP_j (06_fail_capture_queues.md). -/
abbrev R.FCQ_SQ_POP (j : Nat) : Nat := 0x308020 + 0x100 * j
/-- FCQ_SQ_POP_j [34]. -/
abbrev F.FCQ_SQ_POP.EOP (j : Nat) : Fld := ⟨0x308020 + 0x100 * j, 34, 1⟩
/-- FCQ_SQ_POP_j [33]. -/
abbrev F.FCQ_SQ_POP.SOP (j : Nat) : Fld := ⟨0x308020 + 0x100 * j, 33, 1⟩
/-- FCQ_SQ_POP_j [32]. -/
abbrev F.FCQ_SQ_POP.V (j : Nat) : Fld := ⟨0x308020 + 0x100 * j, 32, 1⟩
/-- FCQ_SQ_POP_j [31:0]. -/
abbrev F.FCQ_SQ_POP.ITEM (j : Nat) : Fld := ⟨0x308020 + 0x100 * j, 0, 32⟩
/-- FCQ_FC_CFG (06_fail_capture_queues.md). -/
abbrev R.FCQ_FC_CFG : Nat := 0x309000
/-- FCQ_FC_CFG [31]. -/
abbrev F.FCQ_FC_CFG.EN3 : Fld := ⟨0x309000, 31, 1⟩
/-- FCQ_FC_CFG [30]. -/
abbrev F.FCQ_FC_CFG.POL3 : Fld := ⟨0x309000, 30, 1⟩
/-- FCQ_FC_CFG [29:28]. -/
abbrev F.FCQ_FC_CFG.COND3 : Fld := ⟨0x309000, 28, 2⟩
/-- FCQ_FC_CFG [26:24]. -/
abbrev F.FCQ_FC_CFG.SQ3 : Fld := ⟨0x309000, 24, 3⟩
/-- FCQ_FC_CFG [23]. -/
abbrev F.FCQ_FC_CFG.EN2 : Fld := ⟨0x309000, 23, 1⟩
/-- FCQ_FC_CFG [22]. -/
abbrev F.FCQ_FC_CFG.POL2 : Fld := ⟨0x309000, 22, 1⟩
/-- FCQ_FC_CFG [21:20]. -/
abbrev F.FCQ_FC_CFG.COND2 : Fld := ⟨0x309000, 20, 2⟩
/-- FCQ_FC_CFG [18:16]. -/
abbrev F.FCQ_FC_CFG.SQ2 : Fld := ⟨0x309000, 16, 3⟩
/-- FCQ_FC_CFG [15]. -/
abbrev F.FCQ_FC_CFG.EN1 : Fld := ⟨0x309000, 15, 1⟩
/-- FCQ_FC_CFG [14]. -/
abbrev F.FCQ_FC_CFG.POL1 : Fld := ⟨0x309000, 14, 1⟩
/-- FCQ_FC_CFG [13:12]. -/
abbrev F.FCQ_FC_CFG.COND1 : Fld := ⟨0x309000, 12, 2⟩
/-- FCQ_FC_CFG [10:8]. -/
abbrev F.FCQ_FC_CFG.SQ1 : Fld := ⟨0x309000, 8, 3⟩
/-- FCQ_FC_CFG [7]. -/
abbrev F.FCQ_FC_CFG.EN0 : Fld := ⟨0x309000, 7, 1⟩
/-- FCQ_FC_CFG [6]. -/
abbrev F.FCQ_FC_CFG.POL0 : Fld := ⟨0x309000, 6, 1⟩
/-- FCQ_FC_CFG [5:4]. -/
abbrev F.FCQ_FC_CFG.COND0 : Fld := ⟨0x309000, 4, 2⟩
/-- FCQ_FC_CFG [2:0]. -/
abbrev F.FCQ_FC_CFG.SQ0 : Fld := ⟨0x309000, 0, 3⟩
/-- SLV_CTRL (07_damson_solver.md). -/
abbrev R.SLV_CTRL : Nat := 0x380000
/-- SLV_CTRL [0]. -/
abbrev F.SLV_CTRL.EN : Fld := ⟨0x380000, 0, 1⟩
/-- SLV_STAT (07_damson_solver.md). -/
abbrev R.SLV_STAT : Nat := 0x380004
/-- SLV_STAT [18]. -/
abbrev F.SLV_STAT.FULL_SEEN : Fld := ⟨0x380004, 18, 1⟩
/-- SLV_STAT [17]. -/
abbrev F.SLV_STAT.ECC_SEEN : Fld := ⟨0x380004, 17, 1⟩
/-- SLV_STAT [16]. -/
abbrev F.SLV_STAT.SPILL : Fld := ⟨0x380004, 16, 1⟩
/-- SLV_STAT [12:0]. -/
abbrev F.SLV_STAT.QUEUED : Fld := ⟨0x380004, 0, 13⟩
/-- SLV_STORE_USE (07_damson_solver.md). -/
abbrev R.SLV_STORE_USE : Nat := 0x380008
/-- SLV_STORE_USE [20:0]. -/
abbrev F.SLV_STORE_USE.UNITS : Fld := ⟨0x380008, 0, 21⟩
/-- SLV_CFG (07_damson_solver.md). -/
abbrev R.SLV_CFG : Nat := 0x38000c
/-- SLV_CFG [3]. -/
abbrev F.SLV_CFG.RSQ_EN : Fld := ⟨0x38000c, 3, 1⟩
/-- SLV_CFG [2:0]. -/
abbrev F.SLV_CFG.RSQ : Fld := ⟨0x38000c, 0, 3⟩
/-- SLV_RDT_BASE (07_damson_solver.md). -/
abbrev R.SLV_RDT_BASE : Nat := 0x380010
/-- SLV_RDT_BASE [63:12]. -/
abbrev F.SLV_RDT_BASE.ADDR : Fld := ⟨0x380010, 12, 52⟩
/-- SLV_SPILL_BASE (07_damson_solver.md). -/
abbrev R.SLV_SPILL_BASE : Nat := 0x380018
/-- SLV_SPILL_BASE [63:12]. -/
abbrev F.SLV_SPILL_BASE.ADDR : Fld := ⟨0x380018, 12, 52⟩
/-- SLV_SPILL_SIZE (07_damson_solver.md). -/
abbrev R.SLV_SPILL_SIZE : Nat := 0x380020
/-- SLV_SPILL_SIZE [63:12]. -/
abbrev F.SLV_SPILL_SIZE.SIZE : Fld := ⟨0x380020, 12, 52⟩
/-- SLV_CMD_ARG (07_damson_solver.md). -/
abbrev R.SLV_CMD_ARG : Nat := 0x380028
/-- SLV_CMD_ARG [63:0]. -/
abbrev F.SLV_CMD_ARG.ARG : Fld := ⟨0x380028, 0, 64⟩
/-- SLV_CMD (07_damson_solver.md). -/
abbrev R.SLV_CMD : Nat := 0x380030
/-- SLV_CMD [31:28]. -/
abbrev F.SLV_CMD.OP : Fld := ⟨0x380030, 28, 4⟩
/-- SLV_CMD [27:24]. -/
abbrev F.SLV_CMD.LANE : Fld := ⟨0x380030, 24, 4⟩
/-- SLV_CMD [23:12]. -/
abbrev F.SLV_CMD.CNT : Fld := ⟨0x380030, 12, 12⟩
/-- SLV_CMD [11:0]. -/
abbrev F.SLV_CMD.REGION : Fld := ⟨0x380030, 0, 12⟩
/-- SLV_CMD_STAT (07_damson_solver.md). -/
abbrev R.SLV_CMD_STAT : Nat := 0x380034
/-- SLV_CMD_STAT [31:16]. -/
abbrev F.SLV_CMD_STAT.STATUS : Fld := ⟨0x380034, 16, 16⟩
/-- SLV_CMD_STAT [15]. -/
abbrev F.SLV_CMD_STAT.BUSY : Fld := ⟨0x380034, 15, 1⟩
/-- SLV_CMD_STAT [12:0]. -/
abbrev F.SLV_CMD_STAT.ACTED : Fld := ⟨0x380034, 0, 13⟩
/-- SLV_CMD_DETAIL (07_damson_solver.md). -/
abbrev R.SLV_CMD_DETAIL : Nat := 0x380038
/-- SLV_CMD_DETAIL [11:0]. -/
abbrev F.SLV_CMD_DETAIL.REGION : Fld := ⟨0x380038, 0, 12⟩
/-- SLV_LANE_CFG_l (07_damson_solver.md). -/
abbrev R.SLV_LANE_CFG (l : Nat) : Nat := 0x381000 + 64 * l
/-- SLV_LANE_CFG_l [4]. -/
abbrev F.SLV_LANE_CFG.TREL (l : Nat) : Fld := ⟨0x381000 + 64 * l, 4, 1⟩
/-- SLV_LANE_CFG_l [3:2]. -/
abbrev F.SLV_LANE_CFG.MARK_NUM (l : Nat) : Fld := ⟨0x381000 + 64 * l, 2, 2⟩
/-- SLV_LANE_CFG_l [1]. -/
abbrev F.SLV_LANE_CFG.MARK_EN (l : Nat) : Fld := ⟨0x381000 + 64 * l, 1, 1⟩
/-- SLV_LANE_CFG_l [0]. -/
abbrev F.SLV_LANE_CFG.STALE_USE (l : Nat) : Fld := ⟨0x381000 + 64 * l, 0, 1⟩
/-- SLV_LANE_STAT_l (07_damson_solver.md). -/
abbrev R.SLV_LANE_STAT (l : Nat) : Nat := 0x381004 + 64 * l
/-- SLV_LANE_STAT_l [27:16]. -/
abbrev F.SLV_LANE_STAT.REGION (l : Nat) : Fld := ⟨0x381004 + 64 * l, 16, 12⟩
/-- SLV_LANE_STAT_l [6:4]. -/
abbrev F.SLV_LANE_STAT.TAPS (l : Nat) : Fld := ⟨0x381004 + 64 * l, 4, 3⟩
/-- SLV_LANE_STAT_l [3]. -/
abbrev F.SLV_LANE_STAT.REPLAY (l : Nat) : Fld := ⟨0x381004 + 64 * l, 3, 1⟩
/-- SLV_LANE_STAT_l [2]. -/
abbrev F.SLV_LANE_STAT.SOLVING (l : Nat) : Fld := ⟨0x381004 + 64 * l, 2, 1⟩
/-- SLV_LANE_STAT_l [1:0]. -/
abbrev F.SLV_LANE_STAT.STATE (l : Nat) : Fld := ⟨0x381004 + 64 * l, 0, 2⟩
/-- SLV_LANE_TAPS_l (07_damson_solver.md). -/
abbrev R.SLV_LANE_TAPS (l : Nat) : Nat := 0x381008 + 64 * l
/-- SLV_LANE_TAPS_l [31]. -/
abbrev F.SLV_LANE_TAPS.V3 (l : Nat) : Fld := ⟨0x381008 + 64 * l, 31, 1⟩
/-- SLV_LANE_TAPS_l [29:24]. -/
abbrev F.SLV_LANE_TAPS.QUEUE3 (l : Nat) : Fld := ⟨0x381008 + 64 * l, 24, 6⟩
/-- SLV_LANE_TAPS_l [23]. -/
abbrev F.SLV_LANE_TAPS.V2 (l : Nat) : Fld := ⟨0x381008 + 64 * l, 23, 1⟩
/-- SLV_LANE_TAPS_l [21:16]. -/
abbrev F.SLV_LANE_TAPS.QUEUE2 (l : Nat) : Fld := ⟨0x381008 + 64 * l, 16, 6⟩
/-- SLV_LANE_TAPS_l [15]. -/
abbrev F.SLV_LANE_TAPS.V1 (l : Nat) : Fld := ⟨0x381008 + 64 * l, 15, 1⟩
/-- SLV_LANE_TAPS_l [13:8]. -/
abbrev F.SLV_LANE_TAPS.QUEUE1 (l : Nat) : Fld := ⟨0x381008 + 64 * l, 8, 6⟩
/-- SLV_LANE_TAPS_l [7]. -/
abbrev F.SLV_LANE_TAPS.V0 (l : Nat) : Fld := ⟨0x381008 + 64 * l, 7, 1⟩
/-- SLV_LANE_TAPS_l [5:0]. -/
abbrev F.SLV_LANE_TAPS.QUEUE0 (l : Nat) : Fld := ⟨0x381008 + 64 * l, 0, 6⟩
/-- SLV_LANE_MAP_l (07_damson_solver.md). -/
abbrev R.SLV_LANE_MAP (l : Nat) : Nat := 0x381010 + 64 * l
/-- SLV_LANE_MAP_l [63:0]. -/
abbrev F.SLV_LANE_MAP.ADDR (l : Nat) : Fld := ⟨0x381010 + 64 * l, 0, 64⟩
/-- SLV_LANE_APPLIED_l (07_damson_solver.md). -/
abbrev R.SLV_LANE_APPLIED (l : Nat) : Nat := 0x381018 + 64 * l
/-- SLV_LANE_APPLIED_l [63:0]. -/
abbrev F.SLV_LANE_APPLIED.BITS (l : Nat) : Fld := ⟨0x381018 + 64 * l, 0, 64⟩
/-- SLV_LANE_DROP_RGN_l (07_damson_solver.md). -/
abbrev R.SLV_LANE_DROP_RGN (l : Nat) : Nat := 0x381020 + 64 * l
/-- SLV_LANE_DROP_RGN_l [31:0]. -/
abbrev F.SLV_LANE_DROP_RGN.COUNT (l : Nat) : Fld := ⟨0x381020 + 64 * l, 0, 32⟩
/-- SLV_LANE_DROP_RANGE_l (07_damson_solver.md). -/
abbrev R.SLV_LANE_DROP_RANGE (l : Nat) : Nat := 0x381024 + 64 * l
/-- SLV_LANE_DROP_RANGE_l [31:0]. -/
abbrev F.SLV_LANE_DROP_RANGE.COUNT (l : Nat) : Fld := ⟨0x381024 + 64 * l, 0, 32⟩
/-- SLV_LANE_DROP_MAP_l (07_damson_solver.md). -/
abbrev R.SLV_LANE_DROP_MAP (l : Nat) : Nat := 0x381028 + 64 * l
/-- SLV_LANE_DROP_MAP_l [31:0]. -/
abbrev F.SLV_LANE_DROP_MAP.COUNT (l : Nat) : Fld := ⟨0x381028 + 64 * l, 0, 32⟩
/-- SLV_LANE_DROP_STALE_l (07_damson_solver.md). -/
abbrev R.SLV_LANE_DROP_STALE (l : Nat) : Nat := 0x38102c + 64 * l
/-- SLV_LANE_DROP_STALE_l [31:0]. -/
abbrev F.SLV_LANE_DROP_STALE.COUNT (l : Nat) : Fld := ⟨0x38102c + 64 * l, 0, 32⟩
/-- SLV_LANE_DROP_STORE_l (07_damson_solver.md). -/
abbrev R.SLV_LANE_DROP_STORE (l : Nat) : Nat := 0x381030 + 64 * l
/-- SLV_LANE_DROP_STORE_l [31:0]. -/
abbrev F.SLV_LANE_DROP_STORE.COUNT (l : Nat) : Fld := ⟨0x381030 + 64 * l, 0, 32⟩
/-- SLV_RGN_STATE_g (07_damson_solver.md). -/
abbrev R.SLV_RGN_STATE (g : Nat) : Nat := 0x388000 + 4 * g
/-- SLV_RGN_STATE_g [31:24]. -/
abbrev F.SLV_RGN_STATE.SEQ (g : Nat) : Fld := ⟨0x388000 + 4 * g, 24, 8⟩
/-- SLV_RGN_STATE_g [11:8]. -/
abbrev F.SLV_RGN_STATE.LANE (g : Nat) : Fld := ⟨0x388000 + 4 * g, 8, 4⟩
/-- SLV_RGN_STATE_g [7]. -/
abbrev F.SLV_RGN_STATE.KEPT (g : Nat) : Fld := ⟨0x388000 + 4 * g, 7, 1⟩
/-- SLV_RGN_STATE_g [6]. -/
abbrev F.SLV_RGN_STATE.EARLY (g : Nat) : Fld := ⟨0x388000 + 4 * g, 6, 1⟩
/-- SLV_RGN_STATE_g [5]. -/
abbrev F.SLV_RGN_STATE.LOSS (g : Nat) : Fld := ⟨0x388000 + 4 * g, 5, 1⟩
/-- SLV_RGN_STATE_g [4:3]. -/
abbrev F.SLV_RGN_STATE.CLASS (g : Nat) : Fld := ⟨0x388000 + 4 * g, 3, 2⟩
/-- SLV_RGN_STATE_g [2:0]. -/
abbrev F.SLV_RGN_STATE.STATE (g : Nat) : Fld := ⟨0x388000 + 4 * g, 0, 3⟩
/-- NOC_CFG (08_network_memory.md). -/
abbrev R.NOC_CFG : Nat := 0x400000
/-- NOC_CFG [23:16]. -/
abbrev F.NOC_CFG.AGE_STEP : Fld := ⟨0x400000, 16, 8⟩
/-- NOC_CFG [15:0]. -/
abbrev F.NOC_CFG.HOLD : Fld := ⟨0x400000, 0, 16⟩
/-- NOC_TIMEOUT (08_network_memory.md). -/
abbrev R.NOC_TIMEOUT : Nat := 0x400004
/-- NOC_TIMEOUT [31:20]. -/
abbrev F.NOC_TIMEOUT.RECONF_US : Fld := ⟨0x400004, 20, 12⟩
/-- NOC_TIMEOUT [19:0]. -/
abbrev F.NOC_TIMEOUT.REQ_US : Fld := ⟨0x400004, 0, 20⟩
/-- NOC_STAT (08_network_memory.md). -/
abbrev R.NOC_STAT : Nat := 0x400008
/-- NOC_STAT [4]. -/
abbrev F.NOC_STAT.RECONF_TO_SEEN : Fld := ⟨0x400008, 4, 1⟩
/-- NOC_STAT [3]. -/
abbrev F.NOC_STAT.LINK_SEEN : Fld := ⟨0x400008, 3, 1⟩
/-- NOC_STAT [2]. -/
abbrev F.NOC_STAT.TIMEOUT_SEEN : Fld := ⟨0x400008, 2, 1⟩
/-- NOC_STAT [1]. -/
abbrev F.NOC_STAT.UNAVAIL_SEEN : Fld := ⟨0x400008, 1, 1⟩
/-- NOC_STAT [0]. -/
abbrev F.NOC_STAT.NACK_SEEN : Fld := ⟨0x400008, 0, 1⟩
/-- NOC_RTR_CMD (08_network_memory.md). -/
abbrev R.NOC_RTR_CMD : Nat := 0x400010
/-- NOC_RTR_CMD [9:8]. -/
abbrev F.NOC_RTR_CMD.OP : Fld := ⟨0x400010, 8, 2⟩
/-- NOC_RTR_CMD [5:0]. -/
abbrev F.NOC_RTR_CMD.ROUTER : Fld := ⟨0x400010, 0, 6⟩
/-- NOC_RTR_CMDSTAT (08_network_memory.md). -/
abbrev R.NOC_RTR_CMDSTAT : Nat := 0x400014
/-- NOC_RTR_CMDSTAT [31:16]. -/
abbrev F.NOC_RTR_CMDSTAT.STATUS : Fld := ⟨0x400014, 16, 16⟩
/-- NOC_RTR_WITHDRAWN (08_network_memory.md). -/
abbrev R.NOC_RTR_WITHDRAWN : Nat := 0x400018
/-- NOC_RTR_WITHDRAWN [63:0]. -/
abbrev F.NOC_RTR_WITHDRAWN.MASK : Fld := ⟨0x400018, 0, 64⟩
/-- NOC_RTR_DRAINED (08_network_memory.md). -/
abbrev R.NOC_RTR_DRAINED : Nat := 0x400020
/-- NOC_RTR_DRAINED [63:0]. -/
abbrev F.NOC_RTR_DRAINED.MASK : Fld := ⟨0x400020, 0, 64⟩
/-- NOC_FENCE_CMD (08_network_memory.md). -/
abbrev R.NOC_FENCE_CMD : Nat := 0x400030
/-- NOC_FENCE_CMD [9:8]. -/
abbrev F.NOC_FENCE_CMD.OP : Fld := ⟨0x400030, 8, 2⟩
/-- NOC_FENCE_CMD [4:0]. -/
abbrev F.NOC_FENCE_CMD.DOMAIN : Fld := ⟨0x400030, 0, 5⟩
/-- NOC_FENCE_STAT (08_network_memory.md). -/
abbrev R.NOC_FENCE_STAT : Nat := 0x400038
/-- NOC_FENCE_STAT [63:48]. -/
abbrev F.NOC_FENCE_STAT.STATUS : Fld := ⟨0x400038, 48, 16⟩
/-- NOC_FENCE_STAT [47:24]. -/
abbrev F.NOC_FENCE_STAT.PENDING : Fld := ⟨0x400038, 24, 24⟩
/-- NOC_FENCE_STAT [23:0]. -/
abbrev F.NOC_FENCE_STAT.FENCED : Fld := ⟨0x400038, 0, 24⟩
/-- NOC_RT_ADDR (08_network_memory.md). -/
abbrev R.NOC_RT_ADDR : Nat := 0x400100
/-- NOC_RT_ADDR [31]. -/
abbrev F.NOC_RT_ADDR.COMMIT : Fld := ⟨0x400100, 31, 1⟩
/-- NOC_RT_ADDR [15:8]. -/
abbrev F.NOC_RT_ADDR.DEST : Fld := ⟨0x400100, 8, 8⟩
/-- NOC_RT_ADDR [7:0]. -/
abbrev F.NOC_RT_ADDR.SRC : Fld := ⟨0x400100, 0, 8⟩
/-- NOC_RT_PRI (08_network_memory.md). -/
abbrev R.NOC_RT_PRI : Nat := 0x400108
/-- NOC_RT_PRI [63:0]. -/
abbrev F.NOC_RT_PRI.ROUTE : Fld := ⟨0x400108, 0, 64⟩
/-- NOC_RT_ALT (08_network_memory.md). -/
abbrev R.NOC_RT_ALT : Nat := 0x400110
/-- NOC_RT_ALT [63:0]. -/
abbrev F.NOC_RT_ALT.ROUTE : Fld := ⟨0x400110, 0, 64⟩
/-- NOC_RT_STATUS (08_network_memory.md). -/
abbrev R.NOC_RT_STATUS : Nat := 0x400118
/-- NOC_RT_STATUS [31:16]. -/
abbrev F.NOC_RT_STATUS.STATUS : Fld := ⟨0x400118, 16, 16⟩
/-- NOC_ERR_CNT (08_network_memory.md). -/
abbrev R.NOC_ERR_CNT : Nat := 0x400120
/-- NOC_ERR_CNT [63:48]. -/
abbrev F.NOC_ERR_CNT.LINK : Fld := ⟨0x400120, 48, 16⟩
/-- NOC_ERR_CNT [47:32]. -/
abbrev F.NOC_ERR_CNT.TIMEOUT : Fld := ⟨0x400120, 32, 16⟩
/-- NOC_ERR_CNT [31:16]. -/
abbrev F.NOC_ERR_CNT.UNAVAIL : Fld := ⟨0x400120, 16, 16⟩
/-- NOC_ERR_CNT [15:0]. -/
abbrev F.NOC_ERR_CNT.NACK : Fld := ⟨0x400120, 0, 16⟩
/-- MEMC_MAP (08_network_memory.md). -/
abbrev R.MEMC_MAP : Nat := 0x4c0000
/-- MEMC_MAP [6:4]. -/
abbrev F.MEMC_MAP.RATE : Fld := ⟨0x4c0000, 4, 3⟩
/-- MEMC_MAP [0]. -/
abbrev F.MEMC_MAP.GRAN : Fld := ⟨0x4c0000, 0, 1⟩
/-- MEMC_BAR2_BASE (08_network_memory.md). -/
abbrev R.MEMC_BAR2_BASE : Nat := 0x4c0008
/-- MEMC_BAR2_BASE [7:0]. -/
abbrev F.MEMC_BAR2_BASE.BASE : Fld := ⟨0x4c0008, 0, 8⟩
/-- MEMC_CTRL (08_network_memory.md). -/
abbrev R.MEMC_CTRL (c : Nat) : Nat := 0x480000 + 0x2000 * c
/-- MEMC_CTRL [11:9]. -/
abbrev F.MEMC_CTRL.COMP (c : Nat) : Fld := ⟨0x480000 + 0x2000 * c, 9, 3⟩
/-- MEMC_CTRL [8]. -/
abbrev F.MEMC_CTRL.SUB (c : Nat) : Fld := ⟨0x480000 + 0x2000 * c, 8, 1⟩
/-- MEMC_CTRL [3:0]. -/
abbrev F.MEMC_CTRL.OP (c : Nat) : Fld := ⟨0x480000 + 0x2000 * c, 0, 4⟩
/-- MEMC_STAT (08_network_memory.md). -/
abbrev R.MEMC_STAT (c : Nat) : Nat := 0x480004 + 0x2000 * c
/-- MEMC_STAT [31:16]. -/
abbrev F.MEMC_STAT.CMD_STATUS (c : Nat) : Fld := ⟨0x480004 + 0x2000 * c, 16, 16⟩
/-- MEMC_STAT [5]. -/
abbrev F.MEMC_STAT.HOT (c : Nat) : Fld := ⟨0x480004 + 0x2000 * c, 5, 1⟩
/-- MEMC_STAT [4]. -/
abbrev F.MEMC_STAT.ERASED (c : Nat) : Fld := ⟨0x480004 + 0x2000 * c, 4, 1⟩
/-- MEMC_STAT [3]. -/
abbrev F.MEMC_STAT.RETAINED (c : Nat) : Fld := ⟨0x480004 + 0x2000 * c, 3, 1⟩
/-- MEMC_STAT [2:0]. -/
abbrev F.MEMC_STAT.STATE (c : Nat) : Fld := ⟨0x480004 + 0x2000 * c, 0, 3⟩
/-- MEMC_MR (08_network_memory.md). -/
abbrev R.MEMC_MR (c : Nat) : Nat := 0x480008 + 0x2000 * c
/-- MEMC_MR [31]. -/
abbrev F.MEMC_MR.GO (c : Nat) : Fld := ⟨0x480008 + 0x2000 * c, 31, 1⟩
/-- MEMC_MR [30]. -/
abbrev F.MEMC_MR.WR (c : Nat) : Fld := ⟨0x480008 + 0x2000 * c, 30, 1⟩
/-- MEMC_MR [29]. -/
abbrev F.MEMC_MR.SUB (c : Nat) : Fld := ⟨0x480008 + 0x2000 * c, 29, 1⟩
/-- MEMC_MR [26:24]. -/
abbrev F.MEMC_MR.COMP (c : Nat) : Fld := ⟨0x480008 + 0x2000 * c, 24, 3⟩
/-- MEMC_MR [16]. -/
abbrev F.MEMC_MR.BUSY (c : Nat) : Fld := ⟨0x480008 + 0x2000 * c, 16, 1⟩
/-- MEMC_MR [15:8]. -/
abbrev F.MEMC_MR.MRA (c : Nat) : Fld := ⟨0x480008 + 0x2000 * c, 8, 8⟩
/-- MEMC_MR [7:0]. -/
abbrev F.MEMC_MR.DATA (c : Nat) : Fld := ⟨0x480008 + 0x2000 * c, 0, 8⟩
/-- MEMC_SCRUB_CFG (08_network_memory.md). -/
abbrev R.MEMC_SCRUB_CFG (c : Nat) : Nat := 0x48000c + 0x2000 * c
/-- MEMC_SCRUB_CFG [15:8]. -/
abbrev F.MEMC_SCRUB_CFG.HOURS (c : Nat) : Fld := ⟨0x48000c + 0x2000 * c, 8, 8⟩
/-- MEMC_SCRUB_CFG [0]. -/
abbrev F.MEMC_SCRUB_CFG.EN (c : Nat) : Fld := ⟨0x48000c + 0x2000 * c, 0, 1⟩
/-- MEMC_ECC_CNT (08_network_memory.md). -/
abbrev R.MEMC_ECC_CNT (c : Nat) : Nat := 0x480010 + 0x2000 * c
/-- MEMC_ECC_CNT [63:32]. -/
abbrev F.MEMC_ECC_CNT.UE (c : Nat) : Fld := ⟨0x480010 + 0x2000 * c, 32, 32⟩
/-- MEMC_ECC_CNT [31:0]. -/
abbrev F.MEMC_ECC_CNT.CE (c : Nat) : Fld := ⟨0x480010 + 0x2000 * c, 0, 32⟩
/-- MEMC_ERR_ADDR (08_network_memory.md). -/
abbrev R.MEMC_ERR_ADDR (c : Nat) : Nat := 0x480018 + 0x2000 * c
/-- MEMC_ERR_ADDR [50:48]. -/
abbrev F.MEMC_ERR_ADDR.SYMBOLS (c : Nat) : Fld := ⟨0x480018 + 0x2000 * c, 48, 3⟩
/-- MEMC_ERR_ADDR [47:45]. -/
abbrev F.MEMC_ERR_ADDR.COMP (c : Nat) : Fld := ⟨0x480018 + 0x2000 * c, 45, 3⟩
/-- MEMC_ERR_ADDR [44]. -/
abbrev F.MEMC_ERR_ADDR.SCRUB (c : Nat) : Fld := ⟨0x480018 + 0x2000 * c, 44, 1⟩
/-- MEMC_ERR_ADDR [43]. -/
abbrev F.MEMC_ERR_ADDR.UE (c : Nat) : Fld := ⟨0x480018 + 0x2000 * c, 43, 1⟩
/-- MEMC_ERR_ADDR [34:0]. -/
abbrev F.MEMC_ERR_ADDR.LADDR (c : Nat) : Fld := ⟨0x480018 + 0x2000 * c, 0, 35⟩
/-- CFG_CMD (09_configuration.md). -/
abbrev R.CFG_CMD : Nat := 0x20000
/-- CFG_CMD [9]. -/
abbrev F.CFG_CMD.FALLBACK : Fld := ⟨0x20000, 9, 1⟩
/-- CFG_CMD [8]. -/
abbrev F.CFG_CMD.CHAIN : Fld := ⟨0x20000, 8, 1⟩
/-- CFG_CMD [6:4]. -/
abbrev F.CFG_CMD.SRC : Fld := ⟨0x20000, 4, 3⟩
/-- CFG_CMD [3:0]. -/
abbrev F.CFG_CMD.OP : Fld := ⟨0x20000, 0, 4⟩
/-- CFG_STAT (09_configuration.md). -/
abbrev R.CFG_STAT : Nat := 0x20004
/-- CFG_STAT [31:16]. -/
abbrev F.CFG_STAT.STATUS : Fld := ⟨0x20004, 16, 16⟩
/-- CFG_STAT [11]. -/
abbrev F.CFG_STAT.GOLDEN : Fld := ⟨0x20004, 11, 1⟩
/-- CFG_STAT [10]. -/
abbrev F.CFG_STAT.CHAIN : Fld := ⟨0x20004, 10, 1⟩
/-- CFG_STAT [9:8]. -/
abbrev F.CFG_STAT.KIND : Fld := ⟨0x20004, 8, 2⟩
/-- CFG_STAT [6:4]. -/
abbrev F.CFG_STAT.SRC : Fld := ⟨0x20004, 4, 3⟩
/-- CFG_STAT [2:0]. -/
abbrev F.CFG_STAT.STATE : Fld := ⟨0x20004, 0, 3⟩
/-- CFG_SRC_ADDR (09_configuration.md). -/
abbrev R.CFG_SRC_ADDR : Nat := 0x20008
/-- CFG_SRC_ADDR [63:0]. -/
abbrev F.CFG_SRC_ADDR.ADDR : Fld := ⟨0x20008, 0, 64⟩
/-- CFG_SRC_LEN (09_configuration.md). -/
abbrev R.CFG_SRC_LEN : Nat := 0x20010
/-- CFG_SRC_LEN [31:0]. -/
abbrev F.CFG_SRC_LEN.BYTES : Fld := ⟨0x20010, 0, 32⟩
/-- CFG_FAIL_INFO (09_configuration.md). -/
abbrev R.CFG_FAIL_INFO : Nat := 0x20018
/-- CFG_FAIL_INFO [63:48]. -/
abbrev F.CFG_FAIL_INFO.DETAIL : Fld := ⟨0x20018, 48, 16⟩
/-- CFG_FAIL_INFO [47:32]. -/
abbrev F.CFG_FAIL_INFO.TYPE : Fld := ⟨0x20018, 32, 16⟩
/-- CFG_FAIL_INFO [31:0]. -/
abbrev F.CFG_FAIL_INFO.OFFSET : Fld := ⟨0x20018, 0, 32⟩
/-- CFG_PROGRESS (09_configuration.md). -/
abbrev R.CFG_PROGRESS : Nat := 0x20020
/-- CFG_PROGRESS [63:32]. -/
abbrev F.CFG_PROGRESS.CHUNKS : Fld := ⟨0x20020, 32, 32⟩
/-- CFG_PROGRESS [31:0]. -/
abbrev F.CFG_PROGRESS.BYTES : Fld := ⟨0x20020, 0, 32⟩
/-- CFG_BUILD_ID_i (09_configuration.md). -/
abbrev R.CFG_BUILD_ID (i : Nat) : Nat := 0x20030 + 4 * i
/-- CFG_BUILD_ID_i [31:0]. -/
abbrev F.CFG_BUILD_ID.ID (i : Nat) : Fld := ⟨0x20030 + 4 * i, 0, 32⟩
/-- CFG_FLASH_PRI (09_configuration.md). -/
abbrev R.CFG_FLASH_PRI : Nat := 0x20040
/-- CFG_FLASH_PRI [31:12]. -/
abbrev F.CFG_FLASH_PRI.ADDR : Fld := ⟨0x20040, 12, 20⟩
/-- CFG_FLASH_GOLD (09_configuration.md). -/
abbrev R.CFG_FLASH_GOLD : Nat := 0x20044
/-- CFG_FLASH_GOLD [31:12]. -/
abbrev F.CFG_FLASH_GOLD.ADDR : Fld := ⟨0x20044, 12, 20⟩
/-- CFG_AUTOLOAD (09_configuration.md). -/
abbrev R.CFG_AUTOLOAD : Nat := 0x20048
/-- CFG_AUTOLOAD [2]. -/
abbrev F.CFG_AUTOLOAD.CHAIN : Fld := ⟨0x20048, 2, 1⟩
/-- CFG_AUTOLOAD [1]. -/
abbrev F.CFG_AUTOLOAD.FALLBACK : Fld := ⟨0x20048, 1, 1⟩
/-- CFG_AUTOLOAD [0]. -/
abbrev F.CFG_AUTOLOAD.EN : Fld := ⟨0x20048, 0, 1⟩
/-- CFG_TIMEOUT (09_configuration.md). -/
abbrev R.CFG_TIMEOUT : Nat := 0x2004c
/-- CFG_TIMEOUT [15:0]. -/
abbrev F.CFG_TIMEOUT.STALL_US : Fld := ⟨0x2004c, 0, 16⟩
/-- CFG_CHAIN (09_configuration.md). -/
abbrev R.CFG_CHAIN : Nat := 0x20050
/-- CFG_CHAIN [20:16]. -/
abbrev F.CFG_CHAIN.POSITION : Fld := ⟨0x20050, 16, 5⟩
/-- CFG_CHAIN [15]. -/
abbrev F.CFG_CHAIN.DN_EN : Fld := ⟨0x20050, 15, 1⟩
/-- CFG_CHAIN [14:12]. -/
abbrev F.CFG_CHAIN.DN_PORT : Fld := ⟨0x20050, 12, 3⟩
/-- CFG_CHAIN [11]. -/
abbrev F.CFG_CHAIN.UP_EN : Fld := ⟨0x20050, 11, 1⟩
/-- CFG_CHAIN [10:8]. -/
abbrev F.CFG_CHAIN.UP_PORT : Fld := ⟨0x20050, 8, 3⟩
/-- CFG_CHAIN_STAT (09_configuration.md). -/
abbrev R.CFG_CHAIN_STAT : Nat := 0x20054
/-- CFG_CHAIN_STAT [31:16]. -/
abbrev F.CFG_CHAIN_STAT.OWN_STATUS : Fld := ⟨0x20054, 16, 16⟩
/-- CFG_CHAIN_STAT [15:8]. -/
abbrev F.CFG_CHAIN_STAT.FORWARDED : Fld := ⟨0x20054, 8, 8⟩
/-- CFG_CHAIN_STAT [7:0]. -/
abbrev F.CFG_CHAIN_STAT.LOADED : Fld := ⟨0x20054, 0, 8⟩
/-- CFG_PORT_CTRL (09_configuration.md). -/
abbrev R.CFG_PORT_CTRL : Nat := 0x20058
/-- CFG_PORT_CTRL [1]. -/
abbrev F.CFG_PORT_CTRL.RB_EN : Fld := ⟨0x20058, 1, 1⟩
/-- CFG_PORT_CTRL [0]. -/
abbrev F.CFG_PORT_CTRL.EN : Fld := ⟨0x20058, 0, 1⟩
/-- SEC_BOOT_STAT (10_boot_security.md). -/
abbrev R.SEC_BOOT_STAT : Nat := 0x10000
/-- SEC_BOOT_STAT [31:16]. -/
abbrev F.SEC_BOOT_STAT.LAST_CODE : Fld := ⟨0x10000, 16, 16⟩
/-- SEC_BOOT_STAT [15:12]. -/
abbrev F.SEC_BOOT_STAT.STAGE : Fld := ⟨0x10000, 12, 4⟩
/-- SEC_BOOT_STAT [11:8]. -/
abbrev F.SEC_BOOT_STAT.NEXT : Fld := ⟨0x10000, 8, 4⟩
/-- SEC_BOOT_STAT [3:0]. -/
abbrev F.SEC_BOOT_STAT.FAILS : Fld := ⟨0x10000, 0, 4⟩
/-- SEC_BOOT_CFG (10_boot_security.md). -/
abbrev R.SEC_BOOT_CFG : Nat := 0x10004
/-- SEC_BOOT_CFG [16]. -/
abbrev F.SEC_BOOT_CFG.WDT_EN : Fld := ⟨0x10004, 16, 1⟩
/-- SEC_BOOT_CFG [15:0]. -/
abbrev F.SEC_BOOT_CFG.WDT_MS : Fld := ⟨0x10004, 0, 16⟩
/-- SEC_FUSE_STAT (10_boot_security.md). -/
abbrev R.SEC_FUSE_STAT : Nat := 0x10008
/-- SEC_FUSE_STAT [30:24]. -/
abbrev F.SEC_FUSE_STAT.SVN : Fld := ⟨0x10008, 24, 7⟩
/-- SEC_FUSE_STAT [10]. -/
abbrev F.SEC_FUSE_STAT.ENROL_LOCK : Fld := ⟨0x10008, 10, 1⟩
/-- SEC_FUSE_STAT [9]. -/
abbrev F.SEC_FUSE_STAT.JTAG_LOCK : Fld := ⟨0x10008, 9, 1⟩
/-- SEC_FUSE_STAT [8]. -/
abbrev F.SEC_FUSE_STAT.PROV_LOCK : Fld := ⟨0x10008, 8, 1⟩
/-- SEC_FUSE_STAT [5:4]. -/
abbrev F.SEC_FUSE_STAT.OWNER1 : Fld := ⟨0x10008, 4, 2⟩
/-- SEC_FUSE_STAT [3:2]. -/
abbrev F.SEC_FUSE_STAT.OWNER0 : Fld := ⟨0x10008, 2, 2⟩
/-- SEC_KEY_STAT (10_boot_security.md). -/
abbrev R.SEC_KEY_STAT : Nat := 0x1000c
/-- SEC_KEY_STAT [8]. -/
abbrev F.SEC_KEY_STAT.LOCKED : Fld := ⟨0x1000c, 8, 1⟩
/-- SEC_KEY_STAT [5:4]. -/
abbrev F.SEC_KEY_STAT.BBK : Fld := ⟨0x1000c, 4, 2⟩
/-- SEC_KEY_STAT [3:2]. -/
abbrev F.SEC_KEY_STAT.KEY1 : Fld := ⟨0x1000c, 2, 2⟩
/-- SEC_KEY_STAT [1:0]. -/
abbrev F.SEC_KEY_STAT.KEY0 : Fld := ⟨0x1000c, 0, 2⟩
/-- SEC_TAMPER_STAT (10_boot_security.md). -/
abbrev R.SEC_TAMPER_STAT : Nat := 0x10010
/-- SEC_TAMPER_STAT [31:16]. -/
abbrev F.SEC_TAMPER_STAT.COUNT : Fld := ⟨0x10010, 16, 16⟩
/-- SEC_TAMPER_STAT [2]. -/
abbrev F.SEC_TAMPER_STAT.VBAT_LOST : Fld := ⟨0x10010, 2, 1⟩
/-- SEC_TAMPER_STAT [1]. -/
abbrev F.SEC_TAMPER_STAT.TESTMODE_SEEN : Fld := ⟨0x10010, 1, 1⟩
/-- SEC_TAMPER_STAT [0]. -/
abbrev F.SEC_TAMPER_STAT.TAMPERED : Fld := ⟨0x10010, 0, 1⟩
/-- SEC_TAMPER_CFG (10_boot_security.md). -/
abbrev R.SEC_TAMPER_CFG : Nat := 0x10014
/-- SEC_TAMPER_CFG [0]. -/
abbrev F.SEC_TAMPER_CFG.FATAL : Fld := ⟨0x10014, 0, 1⟩
/-- SEC_LOG_STAT (10_boot_security.md). -/
abbrev R.SEC_LOG_STAT : Nat := 0x10018
/-- SEC_LOG_STAT [31:16]. -/
abbrev F.SEC_LOG_STAT.OVERFLOW : Fld := ⟨0x10018, 16, 16⟩
/-- SEC_LOG_STAT [8:0]. -/
abbrev F.SEC_LOG_STAT.ENTRIES : Fld := ⟨0x10018, 0, 9⟩
/-- SEC_DEVICE_ID_i (10_boot_security.md). -/
abbrev R.SEC_DEVICE_ID (i : Nat) : Nat := 0x10020 + 4 * i
/-- SEC_DEVICE_ID_i [31:0]. -/
abbrev F.SEC_DEVICE_ID.ID (i : Nat) : Fld := ⟨0x10020 + 4 * i, 0, 32⟩
/-- SEC_MBOX_CMD (10_boot_security.md). -/
abbrev R.SEC_MBOX_CMD : Nat := 0x10040
/-- SEC_MBOX_CMD [31]. -/
abbrev F.SEC_MBOX_CMD.GO : Fld := ⟨0x10040, 31, 1⟩
/-- SEC_MBOX_CMD [15:8]. -/
abbrev F.SEC_MBOX_CMD.ARG : Fld := ⟨0x10040, 8, 8⟩
/-- SEC_MBOX_CMD [7:0]. -/
abbrev F.SEC_MBOX_CMD.OP : Fld := ⟨0x10040, 0, 8⟩
/-- SEC_MBOX_STAT (10_boot_security.md). -/
abbrev R.SEC_MBOX_STAT : Nat := 0x10044
/-- SEC_MBOX_STAT [31:16]. -/
abbrev F.SEC_MBOX_STAT.STATUS : Fld := ⟨0x10044, 16, 16⟩
/-- SEC_MBOX_STAT [0]. -/
abbrev F.SEC_MBOX_STAT.BUSY : Fld := ⟨0x10044, 0, 1⟩
/-- SEC_MBOX_ADDR (10_boot_security.md). -/
abbrev R.SEC_MBOX_ADDR : Nat := 0x10048
/-- SEC_MBOX_ADDR [63:6]. -/
abbrev F.SEC_MBOX_ADDR.ADDR : Fld := ⟨0x10048, 6, 58⟩
/-- SEC_MBOX_LEN (10_boot_security.md). -/
abbrev R.SEC_MBOX_LEN : Nat := 0x10050
/-- SEC_MBOX_LEN [31:0]. -/
abbrev F.SEC_MBOX_LEN.BYTES : Fld := ⟨0x10050, 0, 32⟩
/-- SEC_BOOT_REC_e_w (10_boot_security.md). -/
abbrev R.SEC_BOOT_REC (e : Nat) (w : Nat) : Nat := 0x10100 + 16 * e + 4 * w
/-- SEC_BOOT_REC_e_w [31:0]. -/
abbrev F.SEC_BOOT_REC.DATA (e : Nat) (w : Nat) : Fld := ⟨0x10100 + 16 * e + 4 * w, 0, 32⟩
/-- CSC_CFG (11_constellation.md). -/
abbrev R.CSC_CFG : Nat := 0x500000
/-- CSC_CFG [31:24]. -/
abbrev F.CSC_CFG.PORT_EN : Fld := ⟨0x500000, 24, 8⟩
/-- CSC_CFG [12:8]. -/
abbrev F.CSC_CFG.POS_REQ : Fld := ⟨0x500000, 8, 5⟩
/-- CSC_CFG [1:0]. -/
abbrev F.CSC_CFG.ROLE : Fld := ⟨0x500000, 0, 2⟩
/-- CSC_CMD (11_constellation.md). -/
abbrev R.CSC_CMD : Nat := 0x500004
/-- CSC_CMD [3:0]. -/
abbrev F.CSC_CMD.OP : Fld := ⟨0x500004, 0, 4⟩
/-- CSC_STAT (11_constellation.md). -/
abbrev R.CSC_STAT : Nat := 0x500008
/-- CSC_STAT [31:16]. -/
abbrev F.CSC_STAT.CMD_STATUS : Fld := ⟨0x500008, 16, 16⟩
/-- CSC_STAT [15]. -/
abbrev F.CSC_STAT.ALIGNED : Fld := ⟨0x500008, 15, 1⟩
/-- CSC_STAT [14]. -/
abbrev F.CSC_STAT.POLE : Fld := ⟨0x500008, 14, 1⟩
/-- CSC_STAT [12:8]. -/
abbrev F.CSC_STAT.POSITION : Fld := ⟨0x500008, 8, 5⟩
/-- CSC_STAT [2:0]. -/
abbrev F.CSC_STAT.CSTATE : Fld := ⟨0x500008, 0, 3⟩
/-- CSC_MEMBERS (11_constellation.md). -/
abbrev R.CSC_MEMBERS : Nat := 0x50000c
/-- CSC_MEMBERS [31:0]. -/
abbrev F.CSC_MEMBERS.PRESENT : Fld := ⟨0x50000c, 0, 32⟩
/-- CSC_ALIGN (11_constellation.md). -/
abbrev R.CSC_ALIGN : Nat := 0x500010
/-- CSC_ALIGN [23:8]. -/
abbrev F.CSC_ALIGN.WARN_CNT : Fld := ⟨0x500010, 8, 16⟩
/-- CSC_ALIGN [7:0]. -/
abbrev F.CSC_ALIGN.ERR : Fld := ⟨0x500010, 0, 8⟩
/-- CSC_VSCHED (11_constellation.md). -/
abbrev R.CSC_VSCHED : Nat := 0x500014
/-- CSC_VSCHED [15:8]. -/
abbrev F.CSC_VSCHED.DN_ARR : Fld := ⟨0x500014, 8, 8⟩
/-- CSC_VSCHED [7:0]. -/
abbrev F.CSC_VSCHED.UP_SEND : Fld := ⟨0x500014, 0, 8⟩
/-- CSC_HOLD_LAST (11_constellation.md). -/
abbrev R.CSC_HOLD_LAST : Nat := 0x500018
/-- CSC_HOLD_LAST [31:16]. -/
abbrev F.CSC_HOLD_LAST.CODE : Fld := ⟨0x500018, 16, 16⟩
/-- CSC_HOLD_LAST [15:14]. -/
abbrev F.CSC_HOLD_LAST.KIND : Fld := ⟨0x500018, 14, 2⟩
/-- CSC_HOLD_LAST [12:8]. -/
abbrev F.CSC_HOLD_LAST.ORIGIN : Fld := ⟨0x500018, 8, 5⟩
/-- CSC_HOLD_LAST [7:0]. -/
abbrev F.CSC_HOLD_LAST.GRP : Fld := ⟨0x500018, 0, 8⟩
/-- CSC_HOLD_TICK (11_constellation.md). -/
abbrev R.CSC_HOLD_TICK : Nat := 0x500020
/-- CSC_HOLD_TICK [63:0]. -/
abbrev F.CSC_HOLD_TICK.EFF : Fld := ⟨0x500020, 0, 64⟩
/-- CSC_MEMBER_p (11_constellation.md). -/
abbrev R.CSC_MEMBER (p : Nat) : Nat := 0x500100 + 4 * p
/-- CSC_MEMBER_p [31:28]. -/
abbrev F.CSC_MEMBER.STATE (p : Nat) : Fld := ⟨0x500100 + 4 * p, 28, 4⟩
/-- CSC_MEMBER_p [15:8]. -/
abbrev F.CSC_MEMBER.DEPTH (p : Nat) : Fld := ⟨0x500100 + 4 * p, 8, 8⟩
/-- CSC_MEMBER_p [2:0]. -/
abbrev F.CSC_MEMBER.BRANCH (p : Nat) : Fld := ⟨0x500100 + 4 * p, 0, 3⟩
/-- CSC_PORT_STAT_p (11_constellation.md). -/
abbrev R.CSC_PORT_STAT (p : Nat) : Nat := 0x500200 + 16 * p
/-- CSC_PORT_STAT_p [20:16]. -/
abbrev F.CSC_PORT_STAT.PEER (p : Nat) : Fld := ⟨0x500200 + 16 * p, 16, 5⟩
/-- CSC_PORT_STAT_p [5:4]. -/
abbrev F.CSC_PORT_STAT.USE (p : Nat) : Fld := ⟨0x500200 + 16 * p, 4, 2⟩
/-- CSC_PORT_STAT_p [2:0]. -/
abbrev F.CSC_PORT_STAT.LSTATE (p : Nat) : Fld := ⟨0x500200 + 16 * p, 0, 3⟩
/-- CSC_PORT_DELAY_p (11_constellation.md). -/
abbrev R.CSC_PORT_DELAY (p : Nat) : Nat := 0x500204 + 16 * p
/-- CSC_PORT_DELAY_p [23:0]. -/
abbrev F.CSC_PORT_DELAY.D (p : Nat) : Fld := ⟨0x500204 + 16 * p, 0, 24⟩
/-- CSC_PORT_ERR_p (11_constellation.md). -/
abbrev R.CSC_PORT_ERR (p : Nat) : Nat := 0x500208 + 16 * p
/-- CSC_PORT_ERR_p [31:16]. -/
abbrev F.CSC_PORT_ERR.RESEND (p : Nat) : Fld := ⟨0x500208 + 16 * p, 16, 16⟩
/-- CSC_PORT_ERR_p [15:0]. -/
abbrev F.CSC_PORT_ERR.VCORR (p : Nat) : Fld := ⟨0x500208 + 16 * p, 0, 16⟩
/-- CSC_VGRP_CFG_g (11_constellation.md). -/
abbrev R.CSC_VGRP_CFG (g : Nat) : Nat := 0x500400 + 4 * g
/-- CSC_VGRP_CFG_g [31]. -/
abbrev F.CSC_VGRP_CFG.RULE (g : Nat) : Fld := ⟨0x500400 + 4 * g, 31, 1⟩
/-- CSC_VGRP_CFG_g [10:0]. -/
abbrev F.CSC_VGRP_CFG.REPEAT (g : Nat) : Fld := ⟨0x500400 + 4 * g, 0, 11⟩
/-- CSC_VGRP_START_g (11_constellation.md). -/
abbrev R.CSC_VGRP_START (g : Nat) : Nat := 0x500440 + 8 * g
/-- CSC_VGRP_START_g [63:0]. -/
abbrev F.CSC_VGRP_START.TICK (g : Nat) : Fld := ⟨0x500440 + 8 * g, 0, 64⟩
/-- CSC_RMT_ADDR (11_constellation.md). -/
abbrev R.CSC_RMT_ADDR : Nat := 0x500500
/-- CSC_RMT_ADDR [31]. -/
abbrev F.CSC_RMT_ADDR.WR : Fld := ⟨0x500500, 31, 1⟩
/-- CSC_RMT_ADDR [30:26]. -/
abbrev F.CSC_RMT_ADDR.POSITION : Fld := ⟨0x500500, 26, 5⟩
/-- CSC_RMT_ADDR [25:0]. -/
abbrev F.CSC_RMT_ADDR.OFFSET : Fld := ⟨0x500500, 0, 26⟩
/-- CSC_RMT_DATA (11_constellation.md). -/
abbrev R.CSC_RMT_DATA : Nat := 0x500504
/-- CSC_RMT_DATA [31:0]. -/
abbrev F.CSC_RMT_DATA.DATA : Fld := ⟨0x500504, 0, 32⟩
/-- CSC_RMT_STAT (11_constellation.md). -/
abbrev R.CSC_RMT_STAT : Nat := 0x500508
/-- CSC_RMT_STAT [31:16]. -/
abbrev F.CSC_RMT_STAT.STATUS : Fld := ⟨0x500508, 16, 16⟩
/-- CSC_RMT_STAT [0]. -/
abbrev F.CSC_RMT_STAT.BUSY : Fld := ⟨0x500508, 0, 1⟩
/-- BIST_CFG (12_self_test_repair.md). -/
abbrev R.BIST_CFG : Nat := 0x580000
/-- BIST_CFG [31]. -/
abbrev F.BIST_CFG.EN : Fld := ⟨0x580000, 31, 1⟩
/-- BIST_CFG [30]. -/
abbrev F.BIST_CFG.HO_TAG : Fld := ⟨0x580000, 30, 1⟩
/-- BIST_CFG [27:24]. -/
abbrev F.BIST_CFG.STRIPE_MAX : Fld := ⟨0x580000, 24, 4⟩
/-- BIST_CFG [9:0]. -/
abbrev F.BIST_CFG.SPACING : Fld := ⟨0x580000, 0, 10⟩
/-- BIST_CMD (12_self_test_repair.md). -/
abbrev R.BIST_CMD : Nat := 0x580004
/-- BIST_CMD [3:0]. -/
abbrev F.BIST_CMD.OP : Fld := ⟨0x580004, 0, 4⟩
/-- BIST_STAT (12_self_test_repair.md). -/
abbrev R.BIST_STAT : Nat := 0x580008
/-- BIST_STAT [31:16]. -/
abbrev F.BIST_STAT.CMD_STATUS : Fld := ⟨0x580008, 16, 16⟩
/-- BIST_STAT [15:14]. -/
abbrev F.BIST_STAT.NF : Fld := ⟨0x580008, 14, 2⟩
/-- BIST_STAT [6:0]. -/
abbrev F.BIST_STAT.RUNNING : Fld := ⟨0x580008, 0, 7⟩
/-- BIST_PASS_CNT (12_self_test_repair.md). -/
abbrev R.BIST_PASS_CNT : Nat := 0x58000c
/-- BIST_PASS_CNT [31:0]. -/
abbrev F.BIST_PASS_CNT.PASSES : Fld := ⟨0x58000c, 0, 32⟩
/-- BIST_PASS_TICK (12_self_test_repair.md). -/
abbrev R.BIST_PASS_TICK : Nat := 0x580010
/-- BIST_PASS_TICK [63:0]. -/
abbrev F.BIST_PASS_TICK.TICK : Fld := ⟨0x580010, 0, 64⟩
/-- BIST_EVT_CNT (12_self_test_repair.md). -/
abbrev R.BIST_EVT_CNT : Nat := 0x580018
/-- BIST_EVT_CNT [63:48]. -/
abbrev F.BIST_EVT_CNT.SKIPPED : Fld := ⟨0x580018, 48, 16⟩
/-- BIST_EVT_CNT [47:32]. -/
abbrev F.BIST_EVT_CNT.MISMATCH : Fld := ⟨0x580018, 32, 16⟩
/-- BIST_EVT_CNT [31:16]. -/
abbrev F.BIST_EVT_CNT.ABORTS : Fld := ⟨0x580018, 16, 16⟩
/-- BIST_EVT_CNT [15:0]. -/
abbrev F.BIST_EVT_CNT.INCOMPLETE : Fld := ⟨0x580018, 0, 16⟩
/-- BIST_LAST (12_self_test_repair.md). -/
abbrev R.BIST_LAST : Nat := 0x580020
/-- BIST_LAST [63:32]. -/
abbrev F.BIST_LAST.COUNT : Fld := ⟨0x580020, 32, 32⟩
/-- BIST_LAST [18]. -/
abbrev F.BIST_LAST.ABORT : Fld := ⟨0x580020, 18, 1⟩
/-- BIST_LAST [17:16]. -/
abbrev F.BIST_LAST.VERDICT : Fld := ⟨0x580020, 16, 2⟩
/-- BIST_LAST [15:12]. -/
abbrev F.BIST_LAST.KIND : Fld := ⟨0x580020, 12, 4⟩
/-- BIST_LAST [11:8]. -/
abbrev F.BIST_LAST.PART : Fld := ⟨0x580020, 8, 4⟩
/-- BIST_LAST [7:0]. -/
abbrev F.BIST_LAST.UNIT : Fld := ⟨0x580020, 0, 8⟩
/-- BIST_LAST_SIG (12_self_test_repair.md). -/
abbrev R.BIST_LAST_SIG : Nat := 0x580028
/-- BIST_LAST_SIG [63:0]. -/
abbrev F.BIST_LAST_SIG.SIG : Fld := ⟨0x580028, 0, 64⟩
/-- BIST_LAST_TICK (12_self_test_repair.md). -/
abbrev R.BIST_LAST_TICK : Nat := 0x580030
/-- BIST_LAST_TICK [63:0]. -/
abbrev F.BIST_LAST_TICK.TICK : Fld := ⟨0x580030, 0, 64⟩
/-- BIST_LEDGER_CFG (12_self_test_repair.md). -/
abbrev R.BIST_LEDGER_CFG : Nat := 0x580040
/-- BIST_LEDGER_CFG [31:12]. -/
abbrev F.BIST_LEDGER_CFG.ADDR : Fld := ⟨0x580040, 12, 20⟩
/-- BIST_LEDGER_CFG [3:0]. -/
abbrev F.BIST_LEDGER_CFG.SKIP_MAX : Fld := ⟨0x580040, 0, 4⟩
/-- BIST_NF_STAT (12_self_test_repair.md). -/
abbrev R.BIST_NF_STAT : Nat := 0x580044
/-- BIST_NF_STAT [9]. -/
abbrev F.BIST_NF_STAT.FROM_FLASH : Fld := ⟨0x580044, 9, 1⟩
/-- BIST_NF_STAT [8]. -/
abbrev F.BIST_NF_STAT.SKIPPED : Fld := ⟨0x580044, 8, 1⟩
/-- BIST_NF_STAT [7:0]. -/
abbrev F.BIST_NF_STAT.RESULTS : Fld := ⟨0x580044, 0, 8⟩
/-- BIST_LEDGER_w (12_self_test_repair.md). -/
abbrev R.BIST_LEDGER (w : Nat) : Nat := 0x580100 + 4 * w
/-- BIST_LEDGER_w [31:0]. -/
abbrev F.BIST_LEDGER.DATA (w : Nat) : Fld := ⟨0x580100 + 4 * w, 0, 32⟩
/-- BIST_PSL_FAIL_w (12_self_test_repair.md). -/
abbrev R.BIST_PSL_FAIL (w : Nat) : Nat := 0x580200 + 4 * w
/-- BIST_PSL_FAIL_w [31:0]. -/
abbrev F.BIST_PSL_FAIL.FAIL (w : Nat) : Fld := ⟨0x580200 + 4 * w, 0, 32⟩
/-- BIST_XCL_FAIL_w (12_self_test_repair.md). -/
abbrev R.BIST_XCL_FAIL (w : Nat) : Nat := 0x580220 + 4 * w
/-- BIST_XCL_FAIL_w [31:0]. -/
abbrev F.BIST_XCL_FAIL.FAIL (w : Nat) : Fld := ⟨0x580220 + 4 * w, 0, 32⟩
/-- BIST_FUSE_CMD (12_self_test_repair.md). -/
abbrev R.BIST_FUSE_CMD : Nat := 0x580300
/-- BIST_FUSE_CMD [31]. -/
abbrev F.BIST_FUSE_CMD.GO : Fld := ⟨0x580300, 31, 1⟩
/-- BIST_FUSE_CMD [13:8]. -/
abbrev F.BIST_FUSE_CMD.INDEX : Fld := ⟨0x580300, 8, 6⟩
/-- BIST_FUSE_CMD [1:0]. -/
abbrev F.BIST_FUSE_CMD.OP : Fld := ⟨0x580300, 0, 2⟩
/-- BIST_FUSE_DATA (12_self_test_repair.md). -/
abbrev R.BIST_FUSE_DATA : Nat := 0x580304
/-- BIST_FUSE_DATA [31:0]. -/
abbrev F.BIST_FUSE_DATA.RECORD : Fld := ⟨0x580304, 0, 32⟩
/-- BIST_FUSE_STAT (12_self_test_repair.md). -/
abbrev R.BIST_FUSE_STAT : Nat := 0x580308
/-- BIST_FUSE_STAT [31:16]. -/
abbrev F.BIST_FUSE_STAT.STATUS : Fld := ⟨0x580308, 16, 16⟩
/-- BIST_FUSE_STAT [15]. -/
abbrev F.BIST_FUSE_STAT.BUSY : Fld := ⟨0x580308, 15, 1⟩
/-- BIST_FUSE_STAT [6:0]. -/
abbrev F.BIST_FUSE_STAT.USED : Fld := ⟨0x580308, 0, 7⟩
/-- BIST_FUSE_REC_i (12_self_test_repair.md). -/
abbrev R.BIST_FUSE_REC (i : Nat) : Nat := 0x580400 + 8 * i
/-- BIST_FUSE_REC_i [33:32]. -/
abbrev F.BIST_FUSE_REC.STATE (i : Nat) : Fld := ⟨0x580400 + 8 * i, 32, 2⟩
/-- BIST_FUSE_REC_i [31:0]. -/
abbrev F.BIST_FUSE_REC.RECORD (i : Nat) : Fld := ⟨0x580400 + 8 * i, 0, 32⟩
/-- BIST_CL_n (12_self_test_repair.md). -/
abbrev R.BIST_CL (n : Nat) : Nat := 0x581000 + 4 * n
/-- BIST_CL_n [27]. -/
abbrev F.BIST_CL.SKIP_SEEN (n : Nat) : Fld := ⟨0x581000 + 4 * n, 27, 1⟩
/-- BIST_CL_n [26]. -/
abbrev F.BIST_CL.NOSPARE (n : Nat) : Fld := ⟨0x581000 + 4 * n, 26, 1⟩
/-- BIST_CL_n [25:16]. -/
abbrev F.BIST_CL.FAILED (n : Nat) : Fld := ⟨0x581000 + 4 * n, 16, 10⟩
/-- BIST_CL_n [15:0]. -/
abbrev F.BIST_CL.SPARE_BAD (n : Nat) : Fld := ⟨0x581000 + 4 * n, 0, 16⟩
/-- ERR_CFG (13_errors_dump.md). -/
abbrev R.ERR_CFG : Nat := 0x600000
/-- ERR_CFG [10]. -/
abbrev F.ERR_CFG.AUTO_RESET : Fld := ⟨0x600000, 10, 1⟩
/-- ERR_CFG [9]. -/
abbrev F.ERR_CFG.HOST_DUMP : Fld := ⟨0x600000, 9, 1⟩
/-- ERR_CFG [8]. -/
abbrev F.ERR_CFG.MIRROR : Fld := ⟨0x600000, 8, 1⟩
/-- ERR_CFG [4:0]. -/
abbrev F.ERR_CFG.SUM_EXP : Fld := ⟨0x600000, 0, 5⟩
/-- ERR_CMD (13_errors_dump.md). -/
abbrev R.ERR_CMD : Nat := 0x600004
/-- ERR_CMD [3:0]. -/
abbrev F.ERR_CMD.OP : Fld := ⟨0x600004, 0, 4⟩
/-- ERR_STAT (13_errors_dump.md). -/
abbrev R.ERR_STAT : Nat := 0x600008
/-- ERR_STAT [31:16]. -/
abbrev F.ERR_STAT.CMD_STATUS : Fld := ⟨0x600008, 16, 16⟩
/-- ERR_STAT [12]. -/
abbrev F.ERR_STAT.RESERVE : Fld := ⟨0x600008, 12, 1⟩
/-- ERR_STAT [10:0]. -/
abbrev F.ERR_STAT.KINDS : Fld := ⟨0x600008, 0, 11⟩
/-- ERR_WPTR (13_errors_dump.md). -/
abbrev R.ERR_WPTR : Nat := 0x600010
/-- ERR_WPTR [31:0]. -/
abbrev F.ERR_WPTR.PTR : Fld := ⟨0x600010, 0, 32⟩
/-- ERR_RPTR (13_errors_dump.md). -/
abbrev R.ERR_RPTR : Nat := 0x600014
/-- ERR_RPTR [31:0]. -/
abbrev F.ERR_RPTR.PTR : Fld := ⟨0x600014, 0, 32⟩
/-- ERR_LOST (13_errors_dump.md). -/
abbrev R.ERR_LOST : Nat := 0x600018
/-- ERR_LOST [31:0]. -/
abbrev F.ERR_LOST.COUNT : Fld := ⟨0x600018, 0, 32⟩
/-- ERR_FATAL (13_errors_dump.md). -/
abbrev R.ERR_FATAL : Nat := 0x600020
/-- ERR_FATAL [63:32]. -/
abbrev F.ERR_FATAL.SOURCE : Fld := ⟨0x600020, 32, 32⟩
/-- ERR_FATAL [15:0]. -/
abbrev F.ERR_FATAL.CODE : Fld := ⟨0x600020, 0, 16⟩
/-- ERR_FATAL_TICK (13_errors_dump.md). -/
abbrev R.ERR_FATAL_TICK : Nat := 0x600028
/-- ERR_FATAL_TICK [63:0]. -/
abbrev F.ERR_FATAL_TICK.TICK : Fld := ⟨0x600028, 0, 64⟩
/-- ERR_DUMP_HOST (13_errors_dump.md). -/
abbrev R.ERR_DUMP_HOST : Nat := 0x600030
/-- ERR_DUMP_HOST [63:12]. -/
abbrev F.ERR_DUMP_HOST.ADDR : Fld := ⟨0x600030, 12, 52⟩
/-- ERR_DUMP_HOST [0]. -/
abbrev F.ERR_DUMP_HOST.EN : Fld := ⟨0x600030, 0, 1⟩
/-- ERR_DUMP_STAT (13_errors_dump.md). -/
abbrev R.ERR_DUMP_STAT : Nat := 0x600038
/-- ERR_DUMP_STAT [31:16]. -/
abbrev F.ERR_DUMP_STAT.STATUS : Fld := ⟨0x600038, 16, 16⟩
/-- ERR_DUMP_STAT [15:8]. -/
abbrev F.ERR_DUMP_STAT.SEQ : Fld := ⟨0x600038, 8, 8⟩
/-- ERR_DUMP_STAT [7]. -/
abbrev F.ERR_DUMP_STAT.SLOT1_VALID : Fld := ⟨0x600038, 7, 1⟩
/-- ERR_DUMP_STAT [6]. -/
abbrev F.ERR_DUMP_STAT.SLOT0_VALID : Fld := ⟨0x600038, 6, 1⟩
/-- ERR_DUMP_STAT [5:4]. -/
abbrev F.ERR_DUMP_STAT.DEST : Fld := ⟨0x600038, 4, 2⟩
/-- ERR_DUMP_STAT [0]. -/
abbrev F.ERR_DUMP_STAT.BUSY : Fld := ⟨0x600038, 0, 1⟩
/-- HIF_CFG (14_host_sideband.md). -/
abbrev R.HIF_CFG : Nat := 0x700000
/-- HIF_CFG [23:16]. -/
abbrev F.HIF_CFG.ELOG_US : Fld := ⟨0x700000, 16, 8⟩
/-- HIF_CFG [0]. -/
abbrev F.HIF_CFG.HOLD_ON_LINK : Fld := ⟨0x700000, 0, 1⟩
/-- HIF_LINK (14_host_sideband.md). -/
abbrev R.HIF_LINK : Nat := 0x700004
/-- HIF_LINK [19]. -/
abbrev F.HIF_LINK.HOTRST_SEEN : Fld := ⟨0x700004, 19, 1⟩
/-- HIF_LINK [18]. -/
abbrev F.HIF_LINK.DOWN_SEEN : Fld := ⟨0x700004, 18, 1⟩
/-- HIF_LINK [17]. -/
abbrev F.HIF_LINK.NARROW : Fld := ⟨0x700004, 17, 1⟩
/-- HIF_LINK [16]. -/
abbrev F.HIF_LINK.UP : Fld := ⟨0x700004, 16, 1⟩
/-- HIF_LINK [9:4]. -/
abbrev F.HIF_LINK.WIDTH : Fld := ⟨0x700004, 4, 6⟩
/-- HIF_LINK [3:0]. -/
abbrev F.HIF_LINK.SPEED : Fld := ⟨0x700004, 0, 4⟩
/-- HIF_RESET (14_host_sideband.md). -/
abbrev R.HIF_RESET : Nat := 0x700008
/-- HIF_RESET [31:24]. -/
abbrev F.HIF_RESET.KEY : Fld := ⟨0x700008, 24, 8⟩
/-- HIF_RESET [0]. -/
abbrev F.HIF_RESET.GO : Fld := ⟨0x700008, 0, 1⟩
/-- HIF_HMEM_HI (14_host_sideband.md). -/
abbrev R.HIF_HMEM_HI : Nat := 0x700010
/-- HIF_HMEM_HI [19:0]. -/
abbrev F.HIF_HMEM_HI.UPPER : Fld := ⟨0x700010, 0, 20⟩
/-- HIF_EVQ_BASE (14_host_sideband.md). -/
abbrev R.HIF_EVQ_BASE : Nat := 0x700020
/-- HIF_EVQ_BASE [63:12]. -/
abbrev F.HIF_EVQ_BASE.ADDR : Fld := ⟨0x700020, 12, 52⟩
/-- HIF_EVQ_CTRL (14_host_sideband.md). -/
abbrev R.HIF_EVQ_CTRL : Nat := 0x700028
/-- HIF_EVQ_CTRL [31]. -/
abbrev F.HIF_EVQ_CTRL.EN : Fld := ⟨0x700028, 31, 1⟩
/-- HIF_EVQ_CTRL [19:16]. -/
abbrev F.HIF_EVQ_CTRL.SIZE_EXP : Fld := ⟨0x700028, 16, 4⟩
/-- HIF_EVQ_CTRL [15:0]. -/
abbrev F.HIF_EVQ_CTRL.LOST : Fld := ⟨0x700028, 0, 16⟩
/-- HIF_EVQ_PTR (14_host_sideband.md). -/
abbrev R.HIF_EVQ_PTR : Nat := 0x70002c
/-- HIF_EVQ_PTR [31:16]. -/
abbrev F.HIF_EVQ_PTR.TAIL : Fld := ⟨0x70002c, 16, 16⟩
/-- HIF_EVQ_PTR [15:0]. -/
abbrev F.HIF_EVQ_PTR.HEAD : Fld := ⟨0x70002c, 0, 16⟩
/-- HIF_CMQ_BASE_q (14_host_sideband.md). -/
abbrev R.HIF_CMQ_BASE (q : Nat) : Nat := 0x701000 + 64 * q
/-- HIF_CMQ_BASE_q [63:12]. -/
abbrev F.HIF_CMQ_BASE.ADDR (q : Nat) : Fld := ⟨0x701000 + 64 * q, 12, 52⟩
/-- HIF_CPQ_BASE_q (14_host_sideband.md). -/
abbrev R.HIF_CPQ_BASE (q : Nat) : Nat := 0x701008 + 64 * q
/-- HIF_CPQ_BASE_q [63:12]. -/
abbrev F.HIF_CPQ_BASE.ADDR (q : Nat) : Fld := ⟨0x701008 + 64 * q, 12, 52⟩
/-- HIF_CMQ_CTRL_q (14_host_sideband.md). -/
abbrev R.HIF_CMQ_CTRL (q : Nat) : Nat := 0x701010 + 64 * q
/-- HIF_CMQ_CTRL_q [31]. -/
abbrev F.HIF_CMQ_CTRL.EN (q : Nat) : Fld := ⟨0x701010 + 64 * q, 31, 1⟩
/-- HIF_CMQ_CTRL_q [30:29]. -/
abbrev F.HIF_CMQ_CTRL.STATE (q : Nat) : Fld := ⟨0x701010 + 64 * q, 29, 2⟩
/-- HIF_CMQ_CTRL_q [19:16]. -/
abbrev F.HIF_CMQ_CTRL.SIZE_EXP (q : Nat) : Fld := ⟨0x701010 + 64 * q, 16, 4⟩
/-- HIF_CMQ_PTR_q (14_host_sideband.md). -/
abbrev R.HIF_CMQ_PTR (q : Nat) : Nat := 0x701014 + 64 * q
/-- HIF_CMQ_PTR_q [31:16]. -/
abbrev F.HIF_CMQ_PTR.HEAD (q : Nat) : Fld := ⟨0x701014 + 64 * q, 16, 16⟩
/-- HIF_CMQ_PTR_q [15:0]. -/
abbrev F.HIF_CMQ_PTR.TAIL (q : Nat) : Fld := ⟨0x701014 + 64 * q, 0, 16⟩
/-- HIF_CPQ_PTR_q (14_host_sideband.md). -/
abbrev R.HIF_CPQ_PTR (q : Nat) : Nat := 0x701018 + 64 * q
/-- HIF_CPQ_PTR_q [31:16]. -/
abbrev F.HIF_CPQ_PTR.TAIL (q : Nat) : Fld := ⟨0x701018 + 64 * q, 16, 16⟩
/-- HIF_CPQ_PTR_q [15:0]. -/
abbrev F.HIF_CPQ_PTR.HEAD (q : Nat) : Fld := ⟨0x701018 + 64 * q, 0, 16⟩
/-- HIF_UPL_BASE_j (14_host_sideband.md). -/
abbrev R.HIF_UPL_BASE (j : Nat) : Nat := 0x702000 + 32 * j
/-- HIF_UPL_BASE_j [63:12]. -/
abbrev F.HIF_UPL_BASE.ADDR (j : Nat) : Fld := ⟨0x702000 + 32 * j, 12, 52⟩
/-- HIF_UPL_CTRL_j (14_host_sideband.md). -/
abbrev R.HIF_UPL_CTRL (j : Nat) : Nat := 0x702008 + 32 * j
/-- HIF_UPL_CTRL_j [31]. -/
abbrev F.HIF_UPL_CTRL.EN (j : Nat) : Fld := ⟨0x702008 + 32 * j, 31, 1⟩
/-- HIF_UPL_CTRL_j [30]. -/
abbrev F.HIF_UPL_CTRL.STOPPED (j : Nat) : Fld := ⟨0x702008 + 32 * j, 30, 1⟩
/-- HIF_UPL_CTRL_j [20:16]. -/
abbrev F.HIF_UPL_CTRL.SIZE_EXP (j : Nat) : Fld := ⟨0x702008 + 32 * j, 16, 5⟩
/-- HIF_UPL_CTRL_j [15:0]. -/
abbrev F.HIF_UPL_CTRL.IRQ_US (j : Nat) : Fld := ⟨0x702008 + 32 * j, 0, 16⟩
/-- HIF_UPL_PTR_j (14_host_sideband.md). -/
abbrev R.HIF_UPL_PTR (j : Nat) : Nat := 0x702010 + 32 * j
/-- HIF_UPL_PTR_j [63:32]. -/
abbrev F.HIF_UPL_PTR.WPTR (j : Nat) : Fld := ⟨0x702010 + 32 * j, 32, 32⟩
/-- HIF_UPL_PTR_j [31:0]. -/
abbrev F.HIF_UPL_PTR.RPTR (j : Nat) : Fld := ⟨0x702010 + 32 * j, 0, 32⟩
/-- AUX_I3C_CFG (14_host_sideband.md). -/
abbrev R.AUX_I3C_CFG : Nat := 0x780000
/-- AUX_I3C_CFG [15:8]. -/
abbrev F.AUX_I3C_CFG.POLL_MS : Fld := ⟨0x780000, 8, 8⟩
/-- AUX_I3C_CFG [1:0]. -/
abbrev F.AUX_I3C_CFG.BUS_EN : Fld := ⟨0x780000, 0, 2⟩
/-- AUX_I3C_XFER (14_host_sideband.md). -/
abbrev R.AUX_I3C_XFER : Nat := 0x780004
/-- AUX_I3C_XFER [31]. -/
abbrev F.AUX_I3C_XFER.GO : Fld := ⟨0x780004, 31, 1⟩
/-- AUX_I3C_XFER [30]. -/
abbrev F.AUX_I3C_XFER.DIR : Fld := ⟨0x780004, 30, 1⟩
/-- AUX_I3C_XFER [21:16]. -/
abbrev F.AUX_I3C_XFER.LEN : Fld := ⟨0x780004, 16, 6⟩
/-- AUX_I3C_XFER [15]. -/
abbrev F.AUX_I3C_XFER.BUSY : Fld := ⟨0x780004, 15, 1⟩
/-- AUX_I3C_XFER [5:0]. -/
abbrev F.AUX_I3C_XFER.INDEX : Fld := ⟨0x780004, 0, 6⟩
/-- AUX_I3C_XSTAT (14_host_sideband.md). -/
abbrev R.AUX_I3C_XSTAT : Nat := 0x780008
/-- AUX_I3C_XSTAT [31:16]. -/
abbrev F.AUX_I3C_XSTAT.STATUS : Fld := ⟨0x780008, 16, 16⟩
/-- AUX_I3C_DATA_i (14_host_sideband.md). -/
abbrev R.AUX_I3C_DATA (i : Nat) : Nat := 0x780010 + 4 * i
/-- AUX_I3C_DATA_i [31:0]. -/
abbrev F.AUX_I3C_DATA.DATA (i : Nat) : Fld := ⟨0x780010 + 4 * i, 0, 32⟩
/-- AUX_XSPI_CMD (14_host_sideband.md). -/
abbrev R.AUX_XSPI_CMD : Nat := 0x780100
/-- AUX_XSPI_CMD [31]. -/
abbrev F.AUX_XSPI_CMD.GO : Fld := ⟨0x780100, 31, 1⟩
/-- AUX_XSPI_CMD [16]. -/
abbrev F.AUX_XSPI_CMD.BUSY : Fld := ⟨0x780100, 16, 1⟩
/-- AUX_XSPI_CMD [3:0]. -/
abbrev F.AUX_XSPI_CMD.OP : Fld := ⟨0x780100, 0, 4⟩
/-- AUX_XSPI_ARGS (14_host_sideband.md). -/
abbrev R.AUX_XSPI_ARGS : Nat := 0x780108
/-- AUX_XSPI_ARGS [63:32]. -/
abbrev F.AUX_XSPI_ARGS.LEN : Fld := ⟨0x780108, 32, 32⟩
/-- AUX_XSPI_ARGS [31:0]. -/
abbrev F.AUX_XSPI_ARGS.ADDR : Fld := ⟨0x780108, 0, 32⟩
/-- AUX_XSPI_BUF (14_host_sideband.md). -/
abbrev R.AUX_XSPI_BUF : Nat := 0x780110
/-- AUX_XSPI_BUF [63:6]. -/
abbrev F.AUX_XSPI_BUF.ADDR : Fld := ⟨0x780110, 6, 58⟩
/-- AUX_XSPI_STAT (14_host_sideband.md). -/
abbrev R.AUX_XSPI_STAT : Nat := 0x780118
/-- AUX_XSPI_STAT [31:16]. -/
abbrev F.AUX_XSPI_STAT.STATUS : Fld := ⟨0x780118, 16, 16⟩
/-- AUX_XSPI_STAT [0]. -/
abbrev F.AUX_XSPI_STAT.VIO_HIGH : Fld := ⟨0x780118, 0, 1⟩
/-- AUX_GPIO_CFG_g (14_host_sideband.md). -/
abbrev R.AUX_GPIO_CFG (g : Nat) : Nat := 0x780200 + 4 * g
/-- AUX_GPIO_CFG_g [13:8]. -/
abbrev F.AUX_GPIO_CFG.SLOT (g : Nat) : Fld := ⟨0x780200 + 4 * g, 8, 6⟩
/-- AUX_GPIO_CFG_g [2]. -/
abbrev F.AUX_GPIO_CFG.POL (g : Nat) : Fld := ⟨0x780200 + 4 * g, 2, 1⟩
/-- AUX_GPIO_CFG_g [1:0]. -/
abbrev F.AUX_GPIO_CFG.FUNC (g : Nat) : Fld := ⟨0x780200 + 4 * g, 0, 2⟩
/-- AUX_GPIO_IN (14_host_sideband.md). -/
abbrev R.AUX_GPIO_IN : Nat := 0x780280
/-- AUX_GPIO_IN [23:0]. -/
abbrev F.AUX_GPIO_IN.LEVEL : Fld := ⟨0x780280, 0, 24⟩
/-- AUX_GPIO_OUT (14_host_sideband.md). -/
abbrev R.AUX_GPIO_OUT : Nat := 0x780284
/-- AUX_GPIO_OUT [23:0]. -/
abbrev F.AUX_GPIO_OUT.LEVEL : Fld := ⟨0x780284, 0, 24⟩
/-- AUX_PT_e_w (14_host_sideband.md). -/
abbrev R.AUX_PT (e : Nat) (w : Nat) : Nat := 0x781000 + 16 * e + 4 * w
/-- AUX_PT_e_w [31:0]. -/
abbrev F.AUX_PT.DATA (e : Nat) (w : Nat) : Fld := ⟨0x781000 + 16 * e + 4 * w, 0, 32⟩
/-- PWR_DOM_CMD (15_power_clocks_electrical.md). -/
abbrev R.PWR_DOM_CMD : Nat := 0x680000
/-- PWR_DOM_CMD [9:8]. -/
abbrev F.PWR_DOM_CMD.OP : Fld := ⟨0x680000, 8, 2⟩
/-- PWR_DOM_CMD [4:0]. -/
abbrev F.PWR_DOM_CMD.DOMAIN : Fld := ⟨0x680000, 0, 5⟩
/-- PWR_DOM_CMDSTAT (15_power_clocks_electrical.md). -/
abbrev R.PWR_DOM_CMDSTAT : Nat := 0x680004
/-- PWR_DOM_CMDSTAT [31:16]. -/
abbrev F.PWR_DOM_CMDSTAT.STATUS : Fld := ⟨0x680004, 16, 16⟩
/-- PWR_DOM_CMDSTAT [0]. -/
abbrev F.PWR_DOM_CMDSTAT.BUSY : Fld := ⟨0x680004, 0, 1⟩
/-- PWR_DOM_STAT (15_power_clocks_electrical.md). -/
abbrev R.PWR_DOM_STAT : Nat := 0x680008
/-- PWR_DOM_STAT [23:0]. -/
abbrev F.PWR_DOM_STAT.ON : Fld := ⟨0x680008, 0, 24⟩
/-- PWR_RAIL_STAT (15_power_clocks_electrical.md). -/
abbrev R.PWR_RAIL_STAT : Nat := 0x68000c
/-- PWR_RAIL_STAT [11:8]. -/
abbrev F.PWR_RAIL_STAT.FAULT : Fld := ⟨0x68000c, 8, 4⟩
/-- PWR_RAIL_STAT [3:0]. -/
abbrev F.PWR_RAIL_STAT.IN_RANGE : Fld := ⟨0x68000c, 0, 4⟩
/-- PWR_THERM_CFG (15_power_clocks_electrical.md). -/
abbrev R.PWR_THERM_CFG : Nat := 0x680020
/-- PWR_THERM_CFG [11:8]. -/
abbrev F.PWR_THERM_CFG.HYST : Fld := ⟨0x680020, 8, 4⟩
/-- PWR_THERM_CFG [6:0]. -/
abbrev F.PWR_THERM_CFG.WARN : Fld := ⟨0x680020, 0, 7⟩
/-- PWR_TEMP_s (15_power_clocks_electrical.md). -/
abbrev R.PWR_TEMP (s : Nat) : Nat := 0x680040 + 4 * s
/-- PWR_TEMP_s [31:16]. -/
abbrev F.PWR_TEMP.MAX (s : Nat) : Fld := ⟨0x680040 + 4 * s, 16, 16⟩
/-- PWR_TEMP_s [15:0]. -/
abbrev F.PWR_TEMP.TEMP (s : Nat) : Fld := ⟨0x680040 + 4 * s, 0, 16⟩
/-- CLK_STAT (15_power_clocks_electrical.md). -/
abbrev R.CLK_STAT : Nat := 0x680100
/-- CLK_STAT [31]. -/
abbrev F.CLK_STAT.REF_LOST : Fld := ⟨0x680100, 31, 1⟩
/-- CLK_STAT [25:16]. -/
abbrev F.CLK_STAT.UNLOCK_SEEN : Fld := ⟨0x680100, 16, 10⟩
/-- CLK_STAT [9:0]. -/
abbrev F.CLK_STAT.LOCK : Fld := ⟨0x680100, 0, 10⟩

end Sys2Proof.Machine
end

