-- ==== Sys2Proof/Machine/RegTable.lean ====
section
/-! DEFINITION. The BAR0 registers as the register tables of every chapter of spec/ give them: offset, index strides and ranges,
width, reset domain (R16) and, field by field, bit range, access type (R14) and reset value. One row per register table. -/

namespace Sys2Proof.Machine

/-- R14: the access types of register fields. -/
inductive Access where
  | ro | rw | w1c | wo | rws | rc
deriving DecidableEq, Repr

/-- R16: the reset domains. -/
inductive ResetDomain where
  | aon | por | warm
deriving DecidableEq, Repr

/-- One field row of a register table: bits `hi` to `lo`, its name, access type and reset value. -/
structure FieldRow where
  hi : Nat
  lo : Nat
  name : String
  access : Access
  reset : Nat
deriving DecidableEq, Repr

/-- One register table: its offset is `base` plus, for each index, stride times index; an index runs over `count` values from `first`. -/
structure RegRow where
  name : String
  base : Nat
  dims : List (Nat × Nat × Nat)
  wide : Bool
  domain : ResetDomain
  fields : List FieldRow
deriving DecidableEq, Repr

/-- The register tables of block GLB (chapter 00 of spec/). -/
def regRowsGlb : List RegRow := [
  ⟨"GLB_ID", 0x0, [], false, .por, [⟨31, 24, "FAMILY", .ro, 0x5a⟩, ⟨23, 8, "PART", .ro, 0x8840⟩, ⟨7, 4, "STEP_MAJOR", .ro, 1⟩, ⟨3, 0, "STEP_MINOR", .ro, 0⟩]⟩,
  ⟨"GLB_INFO", 0x4, [], false, .por, [⟨8, 0, "SLICE_COUNT", .ro, 0x100⟩]⟩,
  ⟨"GLB_STATE", 0x8, [], false, .warm, [⟨31, 16, "SITE_ACTIVE", .ro, 0⟩, ⟨3, 0, "STATE", .ro, 1⟩]⟩]

/-- The register tables of block TICK (chapter 01 of spec/). -/
def regRowsTick : List RegRow := [
  ⟨"TICK_CTRL", 0x40000, [], false, .warm, [⟨1, 1, "CNT_CLR", .wo, 0⟩, ⟨0, 0, "FCK_APPLY", .wo, 0⟩]⟩,
  ⟨"TICK_STAT", 0x40004, [], false, .warm, [⟨31, 16, "APPLY_STATUS", .ro, 0⟩, ⟨3, 3, "SLIP_SEEN", .w1c, 0⟩, ⟨2, 2, "UNLOCK_SEEN", .w1c, 0⟩, ⟨1, 1, "FCK_BUSY", .ro, 0⟩, ⟨0, 0, "LOCK", .ro, 0⟩]⟩,
  ⟨"TICK_FCK_CFG", 0x40008, [], false, .por, [⟨13, 8, "POSTDIV", .rw, 0x20⟩, ⟨6, 0, "FBDIV", .rw, 0x32⟩]⟩,
  ⟨"TICK_BUDGET_STAT", 0x4000c, [], false, .warm, [⟨31, 16, "PERIOD_PS", .ro, 0x1900⟩, ⟨15, 0, "PMIN_PS", .ro, 0⟩]⟩,
  ⟨"TICK_COUNT", 0x40010, [], true, .warm, [⟨63, 0, "COUNT", .ro, 0⟩]⟩,
  ⟨"TICK_SLIP_CNT", 0x40018, [], false, .warm, [⟨31, 16, "NEAR_CNT", .ro, 0⟩, ⟨15, 0, "SLIP_CNT", .ro, 0⟩]⟩,
  ⟨"TICK_SLIP_SITES", 0x4001c, [], false, .warm, [⟨15, 0, "SITES", .w1c, 0⟩]⟩,
  ⟨"TICK_SLIP_LAST", 0x40020, [], false, .warm, [⟨31, 28, "KIND", .ro, 0⟩, ⟨27, 25, "CTX", .ro, 0⟩, ⟨13, 8, "ROW", .ro, 0⟩, ⟨7, 0, "COL", .ro, 0⟩]⟩,
  ⟨"TICK_SLIP_TICK", 0x40028, [], true, .warm, [⟨63, 0, "TICK", .ro, 0⟩]⟩,
  ⟨"TICK_VOTE_FLIGHT", 0x40030, [], false, .warm, [⟨15, 8, "FLIGHT_DOWN", .ro, 0⟩, ⟨7, 0, "FLIGHT_UP", .ro, 0⟩]⟩,
  ⟨"TICK_UIREP_n", 0x40100, [(4, 0, 16)], false, .warm, [⟨10, 0, "REPEAT", .rw, 1⟩]⟩]

/-- The register tables of block FAB (chapter 02 and 03 of spec/), part 0. -/
def regRowsFab0 : List RegRow := [
  ⟨"FAB_STAT", 0x80000, [], false, .warm, [⟨5, 5, "OP_INVALID_SEEN", .w1c, 0⟩, ⟨4, 4, "XS_UNDERRUN_SEEN", .w1c, 0⟩, ⟨3, 3, "RCLK_OVR_SEEN", .w1c, 0⟩, ⟨2, 2, "CTX_EMPTY_SEEN", .w1c, 0⟩, ⟨1, 1, "WCOLL_SEEN", .w1c, 0⟩, ⟨0, 0, "PARITY_SEEN", .w1c, 0⟩]⟩,
  ⟨"FAB_CTXSEL_n", 0x80100, [(4, 0, 16)], false, .warm, [⟨18, 16, "INIT", .rw, 0⟩, ⟨8, 8, "PEND", .ro, 0⟩, ⟨6, 4, "PENDING", .ro, 0⟩, ⟨2, 0, "ACTIVE", .ro, 0⟩]⟩,
  ⟨"FAB_CL_STAT_n", 0x81000, [(4, 0, 256)], false, .warm, [⟨31, 24, "PAR_CNT", .ro, 0⟩, ⟨23, 16, "WCOLL_CNT", .ro, 0⟩, ⟨11, 8, "U_TARGET", .ro, 0⟩, ⟨7, 6, "U_STATE", .ro, 0⟩, ⟨5, 5, "U_FAILED", .ro, 0⟩, ⟨4, 4, "RCLK", .ro, 0⟩, ⟨0, 0, "LOADED", .ro, 0⟩]⟩,
  ⟨"FAB_MREP_m_k", 0x84000, [(64, 0, 256), (4, 0, 16)], false, .por, [⟨8, 8, "EN", .rw, 0⟩, ⟨7, 0, "ROW", .rw, 0⟩]⟩,
  ⟨"FAB_XS_ADDR_x", 0x88000, [(32, 0, 128)], true, .warm, [⟨63, 6, "ADDR", .rw, 0⟩]⟩,
  ⟨"FAB_XS_LEN_x", 0x88008, [(32, 0, 128)], false, .warm, [⟨31, 0, "WORDS", .rw, 0⟩]⟩,
  ⟨"FAB_XS_CTRL_x", 0x8800c, [(32, 0, 128)], false, .warm, [⟨2, 2, "ABORT", .wo, 0⟩, ⟨1, 1, "LOOP", .rw, 0⟩, ⟨0, 0, "START", .wo, 0⟩]⟩,
  ⟨"FAB_XS_STAT_x", 0x88010, [(32, 0, 128)], false, .warm, [⟨26, 16, "LEVEL", .ro, 0⟩, ⟨3, 3, "FILL_ERR", .w1c, 0⟩, ⟨2, 2, "UNDERRUN", .w1c, 0⟩, ⟨1, 1, "DONE", .ro, 0⟩, ⟨0, 0, "BUSY", .ro, 0⟩]⟩,
  ⟨"FAB_RT_CONFLICT_CNT", 0x80010, [], false, .warm, [⟨31, 16, "PARITY_CNT", .ro, 0⟩, ⟨15, 0, "CONFLICT_CNT", .ro, 0⟩]⟩,
  ⟨"FAB_RT_CONFLICT_LAST", 0x80014, [], false, .warm, [⟨31, 29, "CTX", .ro, 0⟩, ⟨28, 28, "STORE", .ro, 0⟩, ⟨27, 23, "MUX", .ro, 0⟩, ⟨13, 8, "ROW", .ro, 0⟩, ⟨7, 0, "COL", .ro, 0⟩]⟩,
  ⟨"FAB_RT_CONFLICT_TICK", 0x80018, [], true, .warm, [⟨63, 0, "TICK", .ro, 0⟩]⟩,
  ⟨"FAB_RGN_CMD", 0x80020, [], false, .warm, [⟨9, 8, "OP", .wo, 0⟩, ⟨5, 0, "REGION", .wo, 0⟩]⟩,
  ⟨"FAB_RGN_CMD_STAT", 0x80024, [], false, .warm, [⟨31, 16, "STATUS", .ro, 0⟩, ⟨0, 0, "BUSY", .ro, 0⟩]⟩,
  ⟨"FAB_RGN_EVT_TICK", 0x80028, [], true, .warm, [⟨63, 0, "TICK", .ro, 0⟩]⟩]

/-- The register tables of block FAB (chapter 02 and 03 of spec/), part 1. -/
def regRowsFab1 : List RegRow := [
  ⟨"FAB_SFX_CTRL", 0x80040, [], false, .warm, [⟨5, 5, "UNLOAD", .wo, 0⟩, ⟨4, 4, "RELEASE", .wo, 0⟩, ⟨3, 3, "CANCEL", .wo, 0⟩, ⟨2, 2, "ON_SLIP", .rw, 0⟩, ⟨1, 1, "MODE", .rw, 0⟩, ⟨0, 0, "ARM", .wo, 0⟩]⟩,
  ⟨"FAB_SFX_STAT", 0x80044, [], false, .warm, [⟨31, 16, "STATUS", .ro, 0⟩, ⟨3, 3, "ARRAYS_HELD", .ro, 0⟩, ⟨2, 2, "UNLOAD_BUSY", .ro, 0⟩, ⟨1, 0, "STATE", .ro, 0⟩]⟩,
  ⟨"FAB_SFX_TICK", 0x80048, [], true, .warm, [⟨63, 0, "TICK", .rw, 0⟩]⟩,
  ⟨"FAB_SFX_ADDR", 0x80050, [], true, .warm, [⟨63, 6, "ADDR", .rw, 0⟩]⟩,
  ⟨"FAB_RB_ADDR", 0x80060, [], false, .warm, [⟨31, 30, "SPACE", .rw, 0⟩, ⟨29, 16, "WORD", .rw, 0⟩, ⟨11, 0, "SLOT", .rw, 0⟩]⟩,
  ⟨"FAB_RB_DATA", 0x80064, [], false, .warm, [⟨31, 0, "DATA", .ro, 0⟩]⟩,
  ⟨"FAB_RGN_MAP_n", 0x89000, [(4, 0, 256)], false, .warm, [⟨5, 0, "REGION", .ro, 0⟩]⟩,
  ⟨"FAB_RGN_XMAP_x", 0x89400, [(4, 0, 128)], false, .warm, [⟨5, 0, "REGION", .ro, 0⟩]⟩,
  ⟨"FAB_RGN_DESC_g", 0x89800, [(8, 1, 63)], false, .warm, [⟨24, 16, "NCL", .ro, 0⟩, ⟨10, 10, "BVAL", .ro, 0⟩, ⟨9, 9, "BPOL", .ro, 0⟩, ⟨8, 8, "FAILED", .ro, 0⟩, ⟨7, 7, "FROZEN", .ro, 0⟩, ⟨6, 4, "STATE", .ro, 0⟩, ⟨3, 0, "SITE", .ro, 0⟩]⟩,
  ⟨"FAB_RGN_BCONST_g", 0x89804, [(8, 1, 63)], false, .warm, [⟨31, 0, "CONST", .ro, 0⟩]⟩]

/-- All register tables of block FAB. -/
def regRowsFab : List RegRow := regRowsFab0 ++ regRowsFab1

/-- The register tables of block PSQ (chapter 04 of spec/), part 0. -/
def regRowsPsq0 : List RegRow := [
  ⟨"PSQ_CMD", 0x200000, [(0x1000, 0, 16)], false, .warm, [⟨4, 4, "AT", .wo, 0⟩, ⟨3, 0, "OP", .wo, 0⟩]⟩,
  ⟨"PSQ_STAT", 0x200004, [(0x1000, 0, 16)], false, .warm, [⟨31, 16, "CMD_STATUS", .ro, 0⟩, ⟨11, 11, "SEALED", .ro, 0⟩, ⟨10, 8, "EXEC", .ro, 0⟩, ⟨2, 0, "SITE", .ro, 0⟩]⟩,
  ⟨"PSQ_HOLD_CAUSE", 0x200008, [(0x1000, 0, 16)], false, .warm, [⟨15, 0, "CODE", .ro, 0⟩]⟩,
  ⟨"PSQ_HOLD_TICK", 0x200010, [(0x1000, 0, 16)], true, .warm, [⟨63, 0, "TICK", .ro, 0⟩]⟩,
  ⟨"PSQ_START_TICK", 0x200018, [(0x1000, 0, 16)], true, .warm, [⟨63, 0, "TICK", .rw, 0⟩]⟩,
  ⟨"PSQ_ENTRY", 0x200020, [(0x1000, 0, 16)], false, .warm, [⟨31, 16, "SVC_PC", .rw, 0⟩, ⟨15, 0, "RUN_PC", .rw, 0⟩]⟩,
  ⟨"PSQ_CFG", 0x200024, [(0x1000, 0, 16)], false, .warm, [⟨11, 11, "SVC_PRIV", .rw, 1⟩, ⟨10, 10, "RUN_PRIV", .rw, 0⟩, ⟨9, 9, "IRQ_PRIV", .rw, 0⟩, ⟨8, 8, "IE_INIT", .rw, 0⟩, ⟨7, 0, "IVBASE", .rw, 0xff⟩]⟩,
  ⟨"PSQ_WCFG", 0x200028, [(0x1000, 0, 16)], false, .warm, [⟨29, 20, "STORE_LO", .rw, 0x40⟩, ⟨19, 10, "STORE_HI", .rw, 0x1c0⟩, ⟨6, 4, "FILL_AHEAD", .rw, 2⟩, ⟨2, 0, "SPILL_AHEAD", .rw, 2⟩]⟩,
  ⟨"PSQ_SPILL_BASE", 0x200030, [(0x1000, 0, 16)], true, .warm, [⟨63, 7, "ADDR", .rw, 0⟩]⟩,
  ⟨"PSQ_SPILL_LIMIT", 0x200038, [(0x1000, 0, 16)], false, .warm, [⟨23, 0, "DEPTH", .rw, 0xe⟩]⟩,
  ⟨"PSQ_DAPER", 0x20003c, [(0x1000, 0, 16)], false, .warm, [⟨7, 0, "BASE", .rw, 0⟩]⟩,
  ⟨"PSQ_SEAL", 0x200040, [(0x1000, 0, 16)], false, .warm, [⟨1, 1, "SET", .wo, 0⟩, ⟨0, 0, "SEALED", .ro, 0⟩]⟩,
  ⟨"PSQ_PC", 0x200044, [(0x1000, 0, 16)], false, .warm, [⟨31, 16, "EPC", .ro, 0⟩, ⟨15, 0, "PC", .ro, 0⟩]⟩,
  ⟨"PSQ_ECAUSE", 0x200048, [(0x1000, 0, 16)], false, .warm, [⟨31, 0, "ECAUSE", .ro, 0⟩]⟩]

/-- The register tables of block PSQ (chapter 04 of spec/), part 1. -/
def regRowsPsq1 : List RegRow := [
  ⟨"PSQ_WSTAT", 0x20004c, [(0x1000, 0, 16)], false, .warm, [⟨31, 28, "BANK", .ro, 0⟩, ⟨27, 24, "FREE", .ro, 0⟩, ⟨23, 0, "DEPTH", .ro, 0⟩]⟩,
  ⟨"PSQ_WSTORE", 0x200050, [(0x1000, 0, 16)], false, .warm, [⟨10, 10, "SPILL_ERR", .w1c, 0⟩, ⟨9, 0, "OCC", .ro, 0⟩]⟩,
  ⟨"PSQ_FRAMECNT", 0x200058, [(0x1000, 0, 16)], true, .warm, [⟨63, 0, "COUNT", .ro, 0⟩]⟩,
  ⟨"PSQ_IRQ", 0x200060, [(0x1000, 0, 16)], false, .warm, [⟨20, 16, "EN", .rw, 0⟩, ⟨4, 0, "PEND", .ro, 0⟩]⟩,
  ⟨"PSQ_DOORBELL", 0x200064, [(0x1000, 0, 16)], false, .warm, [⟨31, 0, "VALUE", .rw, 0⟩]⟩,
  ⟨"PSQ_TIMER", 0x200068, [(0x1000, 0, 16)], false, .warm, [⟨31, 0, "MATCH", .rw, 0xffffffff⟩]⟩,
  ⟨"PSQ_SIG", 0x20006c, [(0x1000, 0, 16)], false, .warm, [⟨12, 12, "OVR", .w1c, 0⟩, ⟨11, 8, "SRC", .ro, 0⟩, ⟨7, 0, "CODE", .ro, 0⟩]⟩,
  ⟨"PSQ_PG_CMD", 0x200070, [(0x1000, 0, 16)], false, .warm, [⟨31, 28, "PAGE", .wo, 0⟩, ⟨23, 0, "UNIT", .wo, 0⟩]⟩,
  ⟨"PSQ_PG_STAT", 0x200074, [(0x1000, 0, 16)], false, .warm, [⟨31, 30, "PAGE15", .ro, 0⟩, ⟨29, 28, "PAGE14", .ro, 0⟩, ⟨27, 26, "PAGE13", .ro, 0⟩, ⟨25, 24, "PAGE12", .ro, 0⟩, ⟨23, 22, "PAGE11", .ro, 0⟩, ⟨21, 20, "PAGE10", .ro, 0⟩, ⟨19, 18, "PAGE9", .ro, 0⟩, ⟨17, 16, "PAGE8", .ro, 0⟩, ⟨15, 14, "PAGE7", .ro, 0⟩, ⟨13, 12, "PAGE6", .ro, 0⟩, ⟨11, 10, "PAGE5", .ro, 0⟩, ⟨9, 8, "PAGE4", .ro, 0⟩, ⟨7, 6, "PAGE3", .ro, 0⟩, ⟨5, 4, "PAGE2", .ro, 0⟩, ⟨3, 2, "PAGE1", .ro, 0⟩, ⟨1, 0, "PAGE0", .ro, 0⟩]⟩,
  ⟨"PSQ_PG_STATUS", 0x200078, [(0x1000, 0, 16)], false, .warm, [⟨15, 0, "STATUS", .ro, 0⟩]⟩,
  ⟨"PSQ_VOTE_CFG", 0x20007c, [(0x1000, 0, 16)], false, .warm, [⟨7, 4, "GROUP", .rw, 0⟩, ⟨2, 1, "MASK", .rw, 0⟩, ⟨0, 0, "EN", .rw, 0⟩]⟩,
  ⟨"PSQ_VENT_k", 0x200080, [(0x1000, 0, 16), (4, 0, 8)], false, .warm, [⟨15, 15, "EN", .ro, 0⟩, ⟨13, 8, "ROW", .ro, 0⟩, ⟨7, 0, "COL", .ro, 0⟩]⟩,
  ⟨"PSQ_MMASK_k_w", 0x200100, [(0x1000, 0, 16), (32, 0, 4), (4, 0, 8)], false, .warm, [⟨31, 0, "SLICES", .rw, 0xffffffff⟩]⟩,
  ⟨"PSQ_WDBG_ADDR", 0x200200, [(0x1000, 0, 16)], false, .warm, [⟨7, 4, "BANK", .rw, 0⟩, ⟨3, 0, "REG", .rw, 0⟩]⟩]

/-- The register tables of block PSQ (chapter 04 of spec/), part 2. -/
def regRowsPsq2 : List RegRow := [
  ⟨"PSQ_WDBG_DATA", 0x200204, [(0x1000, 0, 16)], false, .warm, [⟨31, 0, "DATA", .rw, 0⟩]⟩]

/-- All register tables of block PSQ. -/
def regRowsPsq : List RegRow := regRowsPsq0 ++ regRowsPsq1 ++ regRowsPsq2

/-- The register tables of block PSL (chapter 05 of spec/), part 0. -/
def regRowsPsl0 : List RegRow := [
  ⟨"PSL_CTRL", 0x100000, [(0x400, 0, 256)], false, .warm, [⟨1, 1, "CNT_CLR", .wo, 0⟩, ⟨0, 0, "CAL", .wo, 0⟩]⟩,
  ⟨"PSL_STAT", 0x100004, [(0x400, 0, 256)], false, .warm, [⟨31, 16, "CMD_STATUS", .ro, 0⟩, ⟨13, 13, "CMPBAD_SEEN", .w1c, 0⟩, ⟨12, 12, "CLAMP", .w1c, 0⟩, ⟨11, 11, "EDGE_ORDER", .w1c, 0⟩, ⟨10, 10, "LOS_SEEN", .w1c, 0⟩, ⟨9, 9, "LOS_L", .ro, 0⟩, ⟨8, 8, "LOS_H", .ro, 0⟩, ⟨7, 7, "STALE", .ro, 0⟩, ⟨6, 6, "BOUND", .ro, 0⟩, ⟨5, 3, "SAFE_WHY", .ro, 1⟩, ⟨2, 0, "STATE", .ro, 0⟩]⟩,
  ⟨"PSL_SITE", 0x100008, [(0x400, 0, 256)], false, .warm, [⟨4, 4, "EN", .ro, 0⟩, ⟨3, 0, "SITE", .ro, 0⟩]⟩,
  ⟨"PSL_BIND", 0x10000c, [(0x400, 0, 256)], false, .warm, [⟨31, 31, "EN", .rw, 0⟩, ⟨23, 16, "GEN", .rw, 0⟩, ⟨13, 8, "PARTNER", .rw, 0⟩, ⟨7, 0, "CHANNEL", .rw, 0⟩]⟩,
  ⟨"PSL_CFG", 0x100010, [(0x400, 0, 256)], false, .warm, [⟨9, 9, "LOS_EN", .rw, 1⟩, ⟨8, 8, "CMPL_INV", .rw, 0⟩, ⟨7, 7, "CMPH_INV", .rw, 0⟩, ⟨6, 6, "EO_LVL", .rw, 0⟩, ⟨5, 5, "PAUSE_POL", .rw, 0⟩, ⟨4, 4, "SPOL", .rw, 0⟩, ⟨3, 3, "VGAP", .rw, 0⟩, ⟨2, 0, "MODE", .rw, 0⟩]⟩,
  ⟨"PSL_POS_LEAD", 0x100014, [(0x400, 0, 256)], false, .warm, [⟨16, 7, "COARSE", .rw, 0⟩, ⟨6, 0, "FINE", .rw, 0⟩]⟩,
  ⟨"PSL_POS_TRAIL", 0x100018, [(0x400, 0, 256)], false, .warm, [⟨16, 7, "COARSE", .rw, 0⟩, ⟨6, 0, "FINE", .rw, 0x40⟩]⟩,
  ⟨"PSL_POS_DEN", 0x10001c, [(0x400, 0, 256)], false, .warm, [⟨16, 7, "COARSE", .rw, 0⟩, ⟨6, 0, "FINE", .rw, 0⟩]⟩,
  ⟨"PSL_POS_STRB", 0x100020, [(0x400, 0, 256)], false, .por, [⟨16, 7, "COARSE", .rw, 0⟩, ⟨6, 0, "FINE", .rw, 0x40⟩]⟩,
  ⟨"PSL_DSK_TX", 0x100024, [(0x400, 0, 256)], false, .por, [⟨25, 16, "DEN", .rw, 0⟩, ⟨9, 0, "DRV", .rw, 0⟩]⟩,
  ⟨"PSL_DSK_RX", 0x100028, [(0x400, 0, 256)], false, .por, [⟨25, 16, "CMPL", .rw, 0⟩, ⟨9, 0, "CMPH", .rw, 0⟩]⟩,
  ⟨"PSL_RXALIGN", 0x10002c, [(0x400, 0, 256)], false, .por, [⟨11, 8, "RXOFS", .rw, 0⟩, ⟨6, 0, "K", .rw, 3⟩]⟩,
  ⟨"PSL_EQ", 0x100030, [(0x400, 0, 256)], false, .por, [⟨11, 8, "RX_CTLE", .rw, 4⟩, ⟨7, 4, "TX_DEEMPH", .rw, 2⟩, ⟨3, 0, "TX_SWING", .rw, 0xa⟩]⟩,
  ⟨"PSL_CAL_RESULT", 0x100034, [(0x400, 0, 256)], false, .por, [⟨16, 0, "RTRIP", .ro, 0⟩]⟩]

/-- The register tables of block PSL (chapter 05 of spec/), part 1. -/
def regRowsPsl1 : List RegRow := [
  ⟨"PSL_CNT_FRAMES", 0x100038, [(0x400, 0, 256)], false, .warm, [⟨31, 0, "COUNT", .ro, 0⟩]⟩,
  ⟨"PSL_CNT_FAILUI", 0x10003c, [(0x400, 0, 256)], false, .warm, [⟨31, 0, "COUNT", .ro, 0⟩]⟩,
  ⟨"PSL_CNT_MISC", 0x100040, [(0x400, 0, 256)], false, .warm, [⟨31, 16, "CMPBAD", .ro, 0⟩, ⟨15, 0, "VGAP", .ro, 0⟩]⟩,
  ⟨"PSL_FIRST_FAIL_TICK", 0x100048, [(0x400, 0, 256)], true, .warm, [⟨63, 0, "TICK", .ro, 0⟩]⟩,
  ⟨"PSL_FIRST_FAIL", 0x100050, [(0x400, 0, 256)], false, .warm, [⟨16, 16, "VALID", .ro, 0⟩, ⟨15, 0, "WORD", .ro, 0⟩]⟩,
  ⟨"PSL_QCTRL_q", 0x140000, [(4, 0, 4)], false, .por, [⟨0, 0, "PWR_EN", .rw, 0⟩]⟩,
  ⟨"PSL_QSTAT_q", 0x140010, [(4, 0, 4)], false, .por, [⟨31, 16, "STATUS", .ro, 0⟩, ⟨1, 1, "READY", .ro, 0⟩, ⟨0, 0, "PWR_GOOD", .ro, 0⟩]⟩,
  ⟨"PSL_LOS_w", 0x140020, [(4, 0, 8)], false, .warm, [⟨31, 0, "LOS", .ro, 0⟩]⟩,
  ⟨"PSL_PARTNER_DROP", 0x140040, [], false, .warm, [⟨8, 8, "GO", .wo, 0⟩, ⟨5, 0, "PARTNER", .wo, 0⟩]⟩]

/-- All register tables of block PSL. -/
def regRowsPsl : List RegRow := regRowsPsl0 ++ regRowsPsl1

/-- The register tables of block FCQ (chapter 06 of spec/), part 0. -/
def regRowsFcq0 : List RegRow := [
  ⟨"FCQ_GLB_CFG", 0x300000, [], false, .warm, [⟨15, 0, "BW_LIMIT", .rw, 0xc8⟩]⟩,
  ⟨"FCQ_SAT_SUM_w", 0x300010, [(4, 0, 4)], false, .warm, [⟨31, 0, "SAT", .w1c, 0⟩]⟩,
  ⟨"FCQ_SRC_CFG_x", 0x301000, [(64, 0, 128)], false, .warm, [⟨31, 31, "EN", .rw, 0⟩, ⟨30, 30, "ALLF", .rw, 0⟩, ⟨29, 24, "QUEUE", .rw, 0⟩, ⟨23, 16, "RATE", .rw, 0x3f⟩, ⟨15, 0, "BM_OFS", .rw, 0⟩]⟩,
  ⟨"FCQ_SRC_CRED_x", 0x301004, [(64, 0, 128)], false, .warm, [⟨26, 16, "SAT_EXIT", .rw, 0x80⟩, ⟨10, 0, "CAP", .rw, 0x100⟩]⟩,
  ⟨"FCQ_SRC_STAT_x", 0x301008, [(64, 0, 128)], false, .warm, [⟨31, 31, "SATURATED", .ro, 0⟩, ⟨30, 30, "PEND", .ro, 0⟩, ⟨23, 16, "CAUSE", .ro, 0⟩, ⟨10, 0, "CR", .ro, 0⟩]⟩,
  ⟨"FCQ_SRC_SATCNT_x", 0x301010, [(64, 0, 128)], true, .warm, [⟨63, 32, "FAILUI", .ro, 0⟩, ⟨31, 0, "PKTS", .ro, 0⟩]⟩,
  ⟨"FCQ_SRC_SATFIRST_x", 0x301018, [(64, 0, 128)], true, .warm, [⟨63, 0, "TICK", .ro, 0⟩]⟩,
  ⟨"FCQ_SRC_SATLAST_x", 0x301020, [(64, 0, 128)], true, .warm, [⟨63, 0, "TICK", .ro, 0⟩]⟩,
  ⟨"FCQ_Q_CFG_k", 0x304000, [(0x100, 0, 64)], false, .warm, [⟨31, 31, "EN", .rw, 0⟩, ⟨30, 30, "TAP_EN", .rw, 0⟩, ⟨29, 26, "TAP_LANE", .rw, 0⟩, ⟨25, 24, "FORM", .rw, 0⟩, ⟨23, 23, "WRAP", .rw, 1⟩, ⟨22, 22, "BM_WRAP", .rw, 0⟩, ⟨20, 16, "CP", .rw, 0⟩, ⟨15, 13, "MSQ", .rw, 0⟩, ⟨12, 12, "MIRROR", .rw, 0⟩, ⟨11, 0, "FIRST_N", .rw, 1⟩]⟩,
  ⟨"FCQ_Q_CMD_k", 0x304004, [(0x100, 0, 64)], false, .warm, [⟨9, 8, "MARK", .wo, 0⟩, ⟨3, 0, "OP", .wo, 0⟩]⟩,
  ⟨"FCQ_Q_CMDSTAT_k", 0x30400c, [(0x100, 0, 64)], false, .warm, [⟨31, 16, "STATUS", .ro, 0⟩, ⟨15, 0, "RESET_CNT", .ro, 0⟩]⟩,
  ⟨"FCQ_Q_STAT_k", 0x304008, [(0x100, 0, 64)], false, .warm, [⟨31, 9, "STATUS_HI", .ro, 0⟩, ⟨8, 6, "SEEN", .w1c, 0⟩, ⟨5, 0, "STATUS_LO", .ro, 0⟩]⟩,
  ⟨"FCQ_Q_WPTR_k", 0x304010, [(0x100, 0, 64)], false, .warm, [⟨31, 0, "PTR", .ro, 0⟩]⟩,
  ⟨"FCQ_Q_RPTR_k", 0x304014, [(0x100, 0, 64)], false, .warm, [⟨31, 0, "PTR", .ro, 0⟩]⟩]

/-- The register tables of block FCQ (chapter 06 of spec/), part 1. -/
def regRowsFcq1 : List RegRow := [
  ⟨"FCQ_Q_TPTR_k", 0x304018, [(0x100, 0, 64)], false, .warm, [⟨31, 0, "PTR", .ro, 0⟩]⟩,
  ⟨"FCQ_FR_BASE_k", 0x304020, [(0x100, 0, 64)], true, .warm, [⟨63, 12, "ADDR", .rw, 0⟩]⟩,
  ⟨"FCQ_FR_SIZE_k", 0x304028, [(0x100, 0, 64)], true, .warm, [⟨63, 12, "SIZE", .rw, 0⟩]⟩,
  ⟨"FCQ_FR_WTOTAL_k", 0x304030, [(0x100, 0, 64)], true, .warm, [⟨63, 0, "BYTES", .ro, 0⟩]⟩,
  ⟨"FCQ_FR_BMCFG_k", 0x304038, [(0x100, 0, 64)], true, .warm, [⟨63, 32, "FRAMES", .rw, 0⟩, ⟨23, 0, "ROWWORDS", .rw, 0⟩]⟩,
  ⟨"FCQ_FR_TBASE_k", 0x304040, [(0x100, 0, 64)], true, .warm, [⟨63, 0, "TICK", .rw, 0⟩]⟩,
  ⟨"FCQ_FR_NPLACED_k", 0x304048, [(0x100, 0, 64)], true, .warm, [⟨63, 32, "OUTMAP", .ro, 0⟩, ⟨31, 0, "RECORDS", .ro, 0⟩]⟩,
  ⟨"FCQ_FR_MARK_k_m", 0x304050, [(0x100, 0, 64), (8, 0, 4)], true, .warm, [⟨63, 63, "VALID", .ro, 0⟩, ⟨62, 62, "LOST", .w1c, 0⟩, ⟨61, 0, "POS", .ro, 0⟩]⟩,
  ⟨"FCQ_SQ_CFG_j", 0x308000, [(0x100, 0, 8)], false, .warm, [⟨31, 31, "EN", .rw, 0⟩, ⟨30, 30, "CONSUMER", .rw, 0⟩, ⟨26, 16, "CT", .rw, 0⟩]⟩,
  ⟨"FCQ_SQ_WM_j", 0x308004, [(0x100, 0, 8)], false, .warm, [⟨28, 16, "HI", .rw, 0xc00⟩, ⟨12, 0, "LO", .rw, 0x400⟩]⟩,
  ⟨"FCQ_SQ_STAT_j", 0x308008, [(0x100, 0, 8)], false, .warm, [⟨31, 9, "STATUS_HI", .ro, 0⟩, ⟨8, 6, "SEEN", .w1c, 0⟩, ⟨5, 0, "STATUS_LO", .ro, 8⟩]⟩,
  ⟨"FCQ_SQ_XCNT_j", 0x30800c, [(0x100, 0, 8)], false, .warm, [⟨31, 16, "XLO_CNT", .rc, 0⟩, ⟨15, 0, "XHI_CNT", .rc, 0⟩]⟩,
  ⟨"FCQ_SQ_CMD_j", 0x308010, [(0x100, 0, 8)], false, .warm, [⟨3, 0, "OP", .wo, 0⟩]⟩,
  ⟨"FCQ_SQ_WPTR_j", 0x308014, [(0x100, 0, 8)], false, .warm, [⟨31, 0, "PTR", .ro, 0⟩]⟩]

/-- The register tables of block FCQ (chapter 06 of spec/), part 2. -/
def regRowsFcq2 : List RegRow := [
  ⟨"FCQ_SQ_RPTR_j", 0x308018, [(0x100, 0, 8)], false, .warm, [⟨31, 0, "PTR", .ro, 0⟩]⟩,
  ⟨"FCQ_SQ_DROP_j", 0x30801c, [(0x100, 0, 8)], false, .warm, [⟨31, 0, "COUNT", .rc, 0⟩]⟩,
  ⟨"FCQ_SQ_POP_j", 0x308020, [(0x100, 0, 8)], true, .warm, [⟨34, 34, "EOP", .ro, 0⟩, ⟨33, 33, "SOP", .ro, 0⟩, ⟨32, 32, "V", .ro, 0⟩, ⟨31, 0, "ITEM", .ro, 0⟩]⟩,
  ⟨"FCQ_FC_CFG", 0x309000, [], false, .por, [⟨31, 31, "EN3", .rw, 0⟩, ⟨30, 30, "POL3", .rw, 0⟩, ⟨29, 28, "COND3", .rw, 0⟩, ⟨26, 24, "SQ3", .rw, 0⟩, ⟨23, 23, "EN2", .rw, 0⟩, ⟨22, 22, "POL2", .rw, 0⟩, ⟨21, 20, "COND2", .rw, 0⟩, ⟨18, 16, "SQ2", .rw, 0⟩, ⟨15, 15, "EN1", .rw, 0⟩, ⟨14, 14, "POL1", .rw, 0⟩, ⟨13, 12, "COND1", .rw, 0⟩, ⟨10, 8, "SQ1", .rw, 0⟩, ⟨7, 7, "EN0", .rw, 0⟩, ⟨6, 6, "POL0", .rw, 0⟩, ⟨5, 4, "COND0", .rw, 0⟩, ⟨2, 0, "SQ0", .rw, 0⟩]⟩]

/-- All register tables of block FCQ. -/
def regRowsFcq : List RegRow := regRowsFcq0 ++ regRowsFcq1 ++ regRowsFcq2

/-- The register tables of block SLV (chapter 07 of spec/), part 0. -/
def regRowsSlv0 : List RegRow := [
  ⟨"SLV_CTRL", 0x380000, [], false, .warm, [⟨0, 0, "EN", .rw, 0⟩]⟩,
  ⟨"SLV_STAT", 0x380004, [], false, .warm, [⟨18, 18, "FULL_SEEN", .w1c, 0⟩, ⟨17, 17, "ECC_SEEN", .w1c, 0⟩, ⟨16, 16, "SPILL", .ro, 0⟩, ⟨12, 0, "QUEUED", .ro, 0⟩]⟩,
  ⟨"SLV_STORE_USE", 0x380008, [], false, .warm, [⟨20, 0, "UNITS", .ro, 0⟩]⟩,
  ⟨"SLV_CFG", 0x38000c, [], false, .warm, [⟨3, 3, "RSQ_EN", .rw, 0⟩, ⟨2, 0, "RSQ", .rw, 0⟩]⟩,
  ⟨"SLV_RDT_BASE", 0x380010, [], true, .warm, [⟨63, 12, "ADDR", .rw, 0⟩]⟩,
  ⟨"SLV_SPILL_BASE", 0x380018, [], true, .warm, [⟨63, 12, "ADDR", .rw, 0⟩]⟩,
  ⟨"SLV_SPILL_SIZE", 0x380020, [], true, .warm, [⟨63, 12, "SIZE", .rw, 0⟩]⟩,
  ⟨"SLV_CMD_ARG", 0x380028, [], true, .warm, [⟨63, 0, "ARG", .rw, 0⟩]⟩,
  ⟨"SLV_CMD", 0x380030, [], false, .warm, [⟨31, 28, "OP", .wo, 0⟩, ⟨27, 24, "LANE", .wo, 0⟩, ⟨23, 12, "CNT", .wo, 0⟩, ⟨11, 0, "REGION", .wo, 0⟩]⟩,
  ⟨"SLV_CMD_STAT", 0x380034, [], false, .warm, [⟨31, 16, "STATUS", .ro, 0⟩, ⟨15, 15, "BUSY", .ro, 0⟩, ⟨12, 0, "ACTED", .ro, 0⟩]⟩,
  ⟨"SLV_CMD_DETAIL", 0x380038, [], false, .warm, [⟨11, 0, "REGION", .ro, 0⟩]⟩,
  ⟨"SLV_LANE_CFG_l", 0x381000, [(64, 0, 16)], false, .warm, [⟨4, 4, "TREL", .rw, 0⟩, ⟨3, 2, "MARK_NUM", .rw, 0⟩, ⟨1, 1, "MARK_EN", .rw, 0⟩, ⟨0, 0, "STALE_USE", .rw, 0⟩]⟩,
  ⟨"SLV_LANE_STAT_l", 0x381004, [(64, 0, 16)], false, .warm, [⟨27, 16, "REGION", .ro, 0⟩, ⟨6, 4, "TAPS", .ro, 0⟩, ⟨3, 3, "REPLAY", .ro, 0⟩, ⟨2, 2, "SOLVING", .ro, 0⟩, ⟨1, 0, "STATE", .ro, 0⟩]⟩,
  ⟨"SLV_LANE_TAPS_l", 0x381008, [(64, 0, 16)], false, .warm, [⟨31, 31, "V3", .ro, 0⟩, ⟨29, 24, "QUEUE3", .ro, 0⟩, ⟨23, 23, "V2", .ro, 0⟩, ⟨21, 16, "QUEUE2", .ro, 0⟩, ⟨15, 15, "V1", .ro, 0⟩, ⟨13, 8, "QUEUE1", .ro, 0⟩, ⟨7, 7, "V0", .ro, 0⟩, ⟨5, 0, "QUEUE0", .ro, 0⟩]⟩]

/-- The register tables of block SLV (chapter 07 of spec/), part 1. -/
def regRowsSlv1 : List RegRow := [
  ⟨"SLV_LANE_MAP_l", 0x381010, [(64, 0, 16)], true, .warm, [⟨63, 0, "ADDR", .ro, 0⟩]⟩,
  ⟨"SLV_LANE_APPLIED_l", 0x381018, [(64, 0, 16)], true, .warm, [⟨63, 0, "BITS", .ro, 0⟩]⟩,
  ⟨"SLV_LANE_DROP_RGN_l", 0x381020, [(64, 0, 16)], false, .warm, [⟨31, 0, "COUNT", .ro, 0⟩]⟩,
  ⟨"SLV_LANE_DROP_RANGE_l", 0x381024, [(64, 0, 16)], false, .warm, [⟨31, 0, "COUNT", .ro, 0⟩]⟩,
  ⟨"SLV_LANE_DROP_MAP_l", 0x381028, [(64, 0, 16)], false, .warm, [⟨31, 0, "COUNT", .ro, 0⟩]⟩,
  ⟨"SLV_LANE_DROP_STALE_l", 0x38102c, [(64, 0, 16)], false, .warm, [⟨31, 0, "COUNT", .ro, 0⟩]⟩,
  ⟨"SLV_LANE_DROP_STORE_l", 0x381030, [(64, 0, 16)], false, .warm, [⟨31, 0, "COUNT", .ro, 0⟩]⟩,
  ⟨"SLV_RGN_STATE_g", 0x388000, [(4, 0, 4096)], false, .warm, [⟨31, 24, "SEQ", .ro, 0⟩, ⟨11, 8, "LANE", .ro, 0⟩, ⟨7, 7, "KEPT", .ro, 0⟩, ⟨6, 6, "EARLY", .ro, 0⟩, ⟨5, 5, "LOSS", .ro, 0⟩, ⟨4, 3, "CLASS", .ro, 0⟩, ⟨2, 0, "STATE", .ro, 0⟩]⟩]

/-- All register tables of block SLV. -/
def regRowsSlv : List RegRow := regRowsSlv0 ++ regRowsSlv1

/-- The register tables of block NOC (chapter 08 of spec/). -/
def regRowsNoc : List RegRow := [
  ⟨"NOC_CFG", 0x400000, [], false, .por, [⟨23, 16, "AGE_STEP", .rw, 0x20⟩, ⟨15, 0, "HOLD", .rw, 0xbb8⟩]⟩,
  ⟨"NOC_TIMEOUT", 0x400004, [], false, .por, [⟨31, 20, "RECONF_US", .rw, 0x64⟩, ⟨19, 0, "REQ_US", .rw, 0x1f4⟩]⟩,
  ⟨"NOC_STAT", 0x400008, [], false, .warm, [⟨4, 4, "RECONF_TO_SEEN", .w1c, 0⟩, ⟨3, 3, "LINK_SEEN", .w1c, 0⟩, ⟨2, 2, "TIMEOUT_SEEN", .w1c, 0⟩, ⟨1, 1, "UNAVAIL_SEEN", .w1c, 0⟩, ⟨0, 0, "NACK_SEEN", .w1c, 0⟩]⟩,
  ⟨"NOC_RTR_CMD", 0x400010, [], false, .warm, [⟨9, 8, "OP", .wo, 0⟩, ⟨5, 0, "ROUTER", .wo, 0⟩]⟩,
  ⟨"NOC_RTR_CMDSTAT", 0x400014, [], false, .warm, [⟨31, 16, "STATUS", .ro, 0⟩]⟩,
  ⟨"NOC_RTR_WITHDRAWN", 0x400018, [], true, .warm, [⟨63, 0, "MASK", .ro, 0⟩]⟩,
  ⟨"NOC_RTR_DRAINED", 0x400020, [], true, .warm, [⟨63, 0, "MASK", .ro, 0⟩]⟩,
  ⟨"NOC_FENCE_CMD", 0x400030, [], false, .warm, [⟨9, 8, "OP", .wo, 0⟩, ⟨4, 0, "DOMAIN", .wo, 0⟩]⟩,
  ⟨"NOC_FENCE_STAT", 0x400038, [], true, .warm, [⟨63, 48, "STATUS", .ro, 0⟩, ⟨47, 24, "PENDING", .ro, 0⟩, ⟨23, 0, "FENCED", .ro, 0⟩]⟩,
  ⟨"NOC_RT_ADDR", 0x400100, [], false, .warm, [⟨31, 31, "COMMIT", .wo, 0⟩, ⟨15, 8, "DEST", .rw, 0⟩, ⟨7, 0, "SRC", .rw, 0⟩]⟩,
  ⟨"NOC_RT_PRI", 0x400108, [], true, .warm, [⟨63, 0, "ROUTE", .rw, 0⟩]⟩,
  ⟨"NOC_RT_ALT", 0x400110, [], true, .warm, [⟨63, 0, "ROUTE", .rw, 0⟩]⟩,
  ⟨"NOC_RT_STATUS", 0x400118, [], false, .warm, [⟨31, 16, "STATUS", .ro, 0⟩]⟩,
  ⟨"NOC_ERR_CNT", 0x400120, [], true, .warm, [⟨63, 48, "LINK", .rc, 0⟩, ⟨47, 32, "TIMEOUT", .rc, 0⟩, ⟨31, 16, "UNAVAIL", .rc, 0⟩, ⟨15, 0, "NACK", .rc, 0⟩]⟩]

/-- The register tables of block MEMC (chapter 08 of spec/). -/
def regRowsMemc : List RegRow := [
  ⟨"MEMC_MAP", 0x4c0000, [], false, .por, [⟨6, 4, "RATE", .rw, 4⟩, ⟨0, 0, "GRAN", .rw, 1⟩]⟩,
  ⟨"MEMC_BAR2_BASE", 0x4c0008, [], false, .warm, [⟨7, 0, "BASE", .rw, 0⟩]⟩,
  ⟨"MEMC_CTRL", 0x480000, [(0x2000, 0, 8)], false, .por, [⟨11, 9, "COMP", .wo, 0⟩, ⟨8, 8, "SUB", .wo, 0⟩, ⟨3, 0, "OP", .wo, 0⟩]⟩,
  ⟨"MEMC_STAT", 0x480004, [(0x2000, 0, 8)], false, .por, [⟨31, 16, "CMD_STATUS", .ro, 0⟩, ⟨5, 5, "HOT", .ro, 0⟩, ⟨4, 4, "ERASED", .ro, 0⟩, ⟨3, 3, "RETAINED", .rw, 0⟩, ⟨2, 0, "STATE", .ro, 0⟩]⟩,
  ⟨"MEMC_MR", 0x480008, [(0x2000, 0, 8)], false, .por, [⟨31, 31, "GO", .wo, 0⟩, ⟨30, 30, "WR", .rw, 0⟩, ⟨29, 29, "SUB", .rw, 0⟩, ⟨26, 24, "COMP", .rw, 0⟩, ⟨16, 16, "BUSY", .ro, 0⟩, ⟨15, 8, "MRA", .rw, 0⟩, ⟨7, 0, "DATA", .rw, 0⟩]⟩,
  ⟨"MEMC_SCRUB_CFG", 0x48000c, [(0x2000, 0, 8)], false, .por, [⟨15, 8, "HOURS", .rw, 0x18⟩, ⟨0, 0, "EN", .rw, 1⟩]⟩,
  ⟨"MEMC_ECC_CNT", 0x480010, [(0x2000, 0, 8)], true, .por, [⟨63, 32, "UE", .rc, 0⟩, ⟨31, 0, "CE", .rc, 0⟩]⟩,
  ⟨"MEMC_ERR_ADDR", 0x480018, [(0x2000, 0, 8)], true, .por, [⟨50, 48, "SYMBOLS", .ro, 0⟩, ⟨47, 45, "COMP", .ro, 0⟩, ⟨44, 44, "SCRUB", .ro, 0⟩, ⟨43, 43, "UE", .ro, 0⟩, ⟨34, 0, "LADDR", .ro, 0⟩]⟩]

/-- The register tables of block CFG (chapter 09 of spec/). -/
def regRowsCfg : List RegRow := [
  ⟨"CFG_CMD", 0x20000, [], false, .warm, [⟨9, 9, "FALLBACK", .wo, 0⟩, ⟨8, 8, "CHAIN", .wo, 0⟩, ⟨6, 4, "SRC", .wo, 0⟩, ⟨3, 0, "OP", .wo, 0⟩]⟩,
  ⟨"CFG_STAT", 0x20004, [], false, .warm, [⟨31, 16, "STATUS", .ro, 0⟩, ⟨11, 11, "GOLDEN", .ro, 0⟩, ⟨10, 10, "CHAIN", .ro, 0⟩, ⟨9, 8, "KIND", .ro, 0⟩, ⟨6, 4, "SRC", .ro, 0⟩, ⟨2, 0, "STATE", .ro, 0⟩]⟩,
  ⟨"CFG_SRC_ADDR", 0x20008, [], true, .warm, [⟨63, 0, "ADDR", .rw, 0⟩]⟩,
  ⟨"CFG_SRC_LEN", 0x20010, [], false, .warm, [⟨31, 0, "BYTES", .rw, 0⟩]⟩,
  ⟨"CFG_FAIL_INFO", 0x20018, [], true, .warm, [⟨63, 48, "DETAIL", .ro, 0⟩, ⟨47, 32, "TYPE", .ro, 0⟩, ⟨31, 0, "OFFSET", .ro, 0⟩]⟩,
  ⟨"CFG_PROGRESS", 0x20020, [], true, .warm, [⟨63, 32, "CHUNKS", .ro, 0⟩, ⟨31, 0, "BYTES", .ro, 0⟩]⟩,
  ⟨"CFG_BUILD_ID_i", 0x20030, [(4, 0, 4)], false, .warm, [⟨31, 0, "ID", .ro, 0⟩]⟩,
  ⟨"CFG_FLASH_PRI", 0x20040, [], false, .por, [⟨31, 12, "ADDR", .rw, 0x100⟩]⟩,
  ⟨"CFG_FLASH_GOLD", 0x20044, [], false, .por, [⟨31, 12, "ADDR", .rw, 0x1000⟩]⟩,
  ⟨"CFG_AUTOLOAD", 0x20048, [], false, .por, [⟨2, 2, "CHAIN", .rw, 0⟩, ⟨1, 1, "FALLBACK", .rw, 1⟩, ⟨0, 0, "EN", .rw, 0⟩]⟩,
  ⟨"CFG_TIMEOUT", 0x2004c, [], false, .por, [⟨15, 0, "STALL_US", .rw, 0x3e8⟩]⟩,
  ⟨"CFG_CHAIN", 0x20050, [], false, .warm, [⟨20, 16, "POSITION", .ro, 0⟩, ⟨15, 15, "DN_EN", .rw, 0⟩, ⟨14, 12, "DN_PORT", .rw, 0⟩, ⟨11, 11, "UP_EN", .rw, 0⟩, ⟨10, 8, "UP_PORT", .rw, 0⟩]⟩,
  ⟨"CFG_CHAIN_STAT", 0x20054, [], false, .warm, [⟨31, 16, "OWN_STATUS", .ro, 0⟩, ⟨15, 8, "FORWARDED", .ro, 0⟩, ⟨7, 0, "LOADED", .ro, 0⟩]⟩,
  ⟨"CFG_PORT_CTRL", 0x20058, [], false, .por, [⟨1, 1, "RB_EN", .rw, 1⟩, ⟨0, 0, "EN", .rw, 1⟩]⟩]

/-- The register tables of block SEC (chapter 10 of spec/). -/
def regRowsSec : List RegRow := [
  ⟨"SEC_BOOT_STAT", 0x10000, [], false, .aon, [⟨31, 16, "LAST_CODE", .ro, 0⟩, ⟨15, 12, "STAGE", .ro, 0⟩, ⟨11, 8, "NEXT", .ro, 0⟩, ⟨3, 0, "FAILS", .ro, 0⟩]⟩,
  ⟨"SEC_BOOT_CFG", 0x10004, [], false, .por, [⟨16, 16, "WDT_EN", .rw, 1⟩, ⟨15, 0, "WDT_MS", .rw, 0x7d0⟩]⟩,
  ⟨"SEC_FUSE_STAT", 0x10008, [], false, .por, [⟨30, 24, "SVN", .ro, 0⟩, ⟨10, 10, "ENROL_LOCK", .ro, 0⟩, ⟨9, 9, "JTAG_LOCK", .ro, 0⟩, ⟨8, 8, "PROV_LOCK", .ro, 0⟩, ⟨5, 4, "OWNER1", .ro, 0⟩, ⟨3, 2, "OWNER0", .ro, 0⟩]⟩,
  ⟨"SEC_KEY_STAT", 0x1000c, [], false, .por, [⟨8, 8, "LOCKED", .ro, 0⟩, ⟨5, 4, "BBK", .ro, 0⟩, ⟨3, 2, "KEY1", .ro, 0⟩, ⟨1, 0, "KEY0", .ro, 0⟩]⟩,
  ⟨"SEC_TAMPER_STAT", 0x10010, [], false, .aon, [⟨31, 16, "COUNT", .ro, 0⟩, ⟨2, 2, "VBAT_LOST", .w1c, 0⟩, ⟨1, 1, "TESTMODE_SEEN", .ro, 0⟩, ⟨0, 0, "TAMPERED", .w1c, 0⟩]⟩,
  ⟨"SEC_TAMPER_CFG", 0x10014, [], false, .aon, [⟨0, 0, "FATAL", .rw, 0⟩]⟩,
  ⟨"SEC_LOG_STAT", 0x10018, [], false, .warm, [⟨31, 16, "OVERFLOW", .ro, 0⟩, ⟨8, 0, "ENTRIES", .ro, 0⟩]⟩,
  ⟨"SEC_DEVICE_ID_i", 0x10020, [(4, 0, 4)], false, .por, [⟨31, 0, "ID", .ro, 0⟩]⟩,
  ⟨"SEC_MBOX_CMD", 0x10040, [], false, .warm, [⟨31, 31, "GO", .wo, 0⟩, ⟨15, 8, "ARG", .rw, 0⟩, ⟨7, 0, "OP", .rw, 0⟩]⟩,
  ⟨"SEC_MBOX_STAT", 0x10044, [], false, .warm, [⟨31, 16, "STATUS", .ro, 0⟩, ⟨0, 0, "BUSY", .ro, 0⟩]⟩,
  ⟨"SEC_MBOX_ADDR", 0x10048, [], true, .warm, [⟨63, 6, "ADDR", .rw, 0⟩]⟩,
  ⟨"SEC_MBOX_LEN", 0x10050, [], false, .warm, [⟨31, 0, "BYTES", .rw, 0⟩]⟩,
  ⟨"SEC_BOOT_REC_e_w", 0x10100, [(16, 0, 8), (4, 0, 4)], false, .aon, [⟨31, 0, "DATA", .ro, 0⟩]⟩]

/-- The register tables of block CSC (chapter 11 of spec/), part 0. -/
def regRowsCsc0 : List RegRow := [
  ⟨"CSC_CFG", 0x500000, [], false, .por, [⟨31, 24, "PORT_EN", .rw, 0xff⟩, ⟨12, 8, "POS_REQ", .rw, 0⟩, ⟨1, 0, "ROLE", .rw, 0⟩]⟩,
  ⟨"CSC_CMD", 0x500004, [], false, .warm, [⟨3, 0, "OP", .wo, 0⟩]⟩,
  ⟨"CSC_STAT", 0x500008, [], false, .warm, [⟨31, 16, "CMD_STATUS", .ro, 0⟩, ⟨15, 15, "ALIGNED", .ro, 0⟩, ⟨14, 14, "POLE", .ro, 0⟩, ⟨12, 8, "POSITION", .ro, 0⟩, ⟨2, 0, "CSTATE", .ro, 0⟩]⟩,
  ⟨"CSC_MEMBERS", 0x50000c, [], false, .warm, [⟨31, 0, "PRESENT", .ro, 0⟩]⟩,
  ⟨"CSC_ALIGN", 0x500010, [], false, .warm, [⟨23, 8, "WARN_CNT", .rc, 0⟩, ⟨7, 0, "ERR", .ro, 0⟩]⟩,
  ⟨"CSC_VSCHED", 0x500014, [], false, .warm, [⟨15, 8, "DN_ARR", .ro, 0⟩, ⟨7, 0, "UP_SEND", .ro, 3⟩]⟩,
  ⟨"CSC_HOLD_LAST", 0x500018, [], false, .warm, [⟨31, 16, "CODE", .ro, 0⟩, ⟨15, 14, "KIND", .ro, 0⟩, ⟨12, 8, "ORIGIN", .ro, 0⟩, ⟨7, 0, "GRP", .ro, 0⟩]⟩,
  ⟨"CSC_HOLD_TICK", 0x500020, [], true, .warm, [⟨63, 0, "EFF", .ro, 0⟩]⟩,
  ⟨"CSC_MEMBER_p", 0x500100, [(4, 0, 32)], false, .warm, [⟨31, 28, "STATE", .ro, 0⟩, ⟨15, 8, "DEPTH", .ro, 0⟩, ⟨2, 0, "BRANCH", .ro, 0⟩]⟩,
  ⟨"CSC_PORT_STAT_p", 0x500200, [(16, 0, 8)], false, .warm, [⟨20, 16, "PEER", .ro, 0⟩, ⟨5, 4, "USE", .ro, 0⟩, ⟨2, 0, "LSTATE", .ro, 0⟩]⟩,
  ⟨"CSC_PORT_DELAY_p", 0x500204, [(16, 0, 8)], false, .warm, [⟨23, 0, "D", .ro, 0⟩]⟩,
  ⟨"CSC_PORT_ERR_p", 0x500208, [(16, 0, 8)], false, .warm, [⟨31, 16, "RESEND", .rc, 0⟩, ⟨15, 0, "VCORR", .rc, 0⟩]⟩,
  ⟨"CSC_VGRP_CFG_g", 0x500400, [(4, 0, 16)], false, .warm, [⟨31, 31, "RULE", .rw, 0⟩, ⟨10, 0, "REPEAT", .rw, 1⟩]⟩,
  ⟨"CSC_VGRP_START_g", 0x500440, [(8, 0, 16)], true, .warm, [⟨63, 0, "TICK", .rw, 0⟩]⟩]

/-- The register tables of block CSC (chapter 11 of spec/), part 1. -/
def regRowsCsc1 : List RegRow := [
  ⟨"CSC_RMT_ADDR", 0x500500, [], false, .warm, [⟨31, 31, "WR", .rw, 0⟩, ⟨30, 26, "POSITION", .rw, 0⟩, ⟨25, 0, "OFFSET", .rw, 0⟩]⟩,
  ⟨"CSC_RMT_DATA", 0x500504, [], false, .warm, [⟨31, 0, "DATA", .rw, 0⟩]⟩,
  ⟨"CSC_RMT_STAT", 0x500508, [], false, .warm, [⟨31, 16, "STATUS", .ro, 0⟩, ⟨0, 0, "BUSY", .ro, 0⟩]⟩]

/-- All register tables of block CSC. -/
def regRowsCsc : List RegRow := regRowsCsc0 ++ regRowsCsc1

/-- The register tables of block BIST (chapter 12 of spec/), part 0. -/
def regRowsBist0 : List RegRow := [
  ⟨"BIST_CFG", 0x580000, [], false, .warm, [⟨31, 31, "EN", .rw, 0⟩, ⟨30, 30, "HO_TAG", .rw, 0⟩, ⟨27, 24, "STRIPE_MAX", .rw, 8⟩, ⟨9, 0, "SPACING", .rw, 0x186⟩]⟩,
  ⟨"BIST_CMD", 0x580004, [], false, .warm, [⟨3, 0, "OP", .wo, 0⟩]⟩,
  ⟨"BIST_STAT", 0x580008, [], false, .warm, [⟨31, 16, "CMD_STATUS", .ro, 0⟩, ⟨15, 14, "NF", .ro, 0⟩, ⟨6, 0, "RUNNING", .ro, 0⟩]⟩,
  ⟨"BIST_PASS_CNT", 0x58000c, [], false, .warm, [⟨31, 0, "PASSES", .ro, 0⟩]⟩,
  ⟨"BIST_PASS_TICK", 0x580010, [], true, .warm, [⟨63, 0, "TICK", .ro, 0⟩]⟩,
  ⟨"BIST_EVT_CNT", 0x580018, [], true, .warm, [⟨63, 48, "SKIPPED", .rc, 0⟩, ⟨47, 32, "MISMATCH", .rc, 0⟩, ⟨31, 16, "ABORTS", .rc, 0⟩, ⟨15, 0, "INCOMPLETE", .rc, 0⟩]⟩,
  ⟨"BIST_LAST", 0x580020, [], true, .warm, [⟨63, 32, "COUNT", .ro, 0⟩, ⟨18, 18, "ABORT", .ro, 0⟩, ⟨17, 16, "VERDICT", .ro, 0⟩, ⟨15, 12, "KIND", .ro, 0⟩, ⟨11, 8, "PART", .ro, 0⟩, ⟨7, 0, "UNIT", .ro, 0⟩]⟩,
  ⟨"BIST_LAST_SIG", 0x580028, [], true, .warm, [⟨63, 0, "SIG", .ro, 0⟩]⟩,
  ⟨"BIST_LAST_TICK", 0x580030, [], true, .warm, [⟨63, 0, "TICK", .ro, 0⟩]⟩,
  ⟨"BIST_LEDGER_CFG", 0x580040, [], false, .por, [⟨31, 12, "ADDR", .rw, 0xefe⟩, ⟨3, 0, "SKIP_MAX", .rw, 7⟩]⟩,
  ⟨"BIST_NF_STAT", 0x580044, [], false, .warm, [⟨9, 9, "FROM_FLASH", .ro, 0⟩, ⟨8, 8, "SKIPPED", .ro, 0⟩, ⟨7, 0, "RESULTS", .ro, 0xff⟩]⟩,
  ⟨"BIST_LEDGER_w", 0x580100, [(4, 0, 16)], false, .aon, [⟨31, 0, "DATA", .ro, 0⟩]⟩,
  ⟨"BIST_PSL_FAIL_w", 0x580200, [(4, 0, 8)], false, .por, [⟨31, 0, "FAIL", .ro, 0⟩]⟩,
  ⟨"BIST_XCL_FAIL_w", 0x580220, [(4, 0, 4)], false, .por, [⟨31, 0, "FAIL", .ro, 0⟩]⟩]

/-- The register tables of block BIST (chapter 12 of spec/), part 1. -/
def regRowsBist1 : List RegRow := [
  ⟨"BIST_FUSE_CMD", 0x580300, [], false, .warm, [⟨31, 31, "GO", .wo, 0⟩, ⟨13, 8, "INDEX", .wo, 0⟩, ⟨1, 0, "OP", .wo, 0⟩]⟩,
  ⟨"BIST_FUSE_DATA", 0x580304, [], false, .warm, [⟨31, 0, "RECORD", .rw, 0⟩]⟩,
  ⟨"BIST_FUSE_STAT", 0x580308, [], false, .por, [⟨31, 16, "STATUS", .ro, 0⟩, ⟨15, 15, "BUSY", .ro, 0⟩, ⟨6, 0, "USED", .ro, 0⟩]⟩,
  ⟨"BIST_FUSE_REC_i", 0x580400, [(8, 0, 64)], true, .por, [⟨33, 32, "STATE", .ro, 0⟩, ⟨31, 0, "RECORD", .ro, 0⟩]⟩,
  ⟨"BIST_CL_n", 0x581000, [(4, 0, 256)], false, .por, [⟨27, 27, "SKIP_SEEN", .w1c, 0⟩, ⟨26, 26, "NOSPARE", .ro, 0⟩, ⟨25, 16, "FAILED", .ro, 0⟩, ⟨15, 0, "SPARE_BAD", .ro, 0⟩]⟩]

/-- All register tables of block BIST. -/
def regRowsBist : List RegRow := regRowsBist0 ++ regRowsBist1

/-- The register tables of block ERR (chapter 13 of spec/). -/
def regRowsErr : List RegRow := [
  ⟨"ERR_CFG", 0x600000, [], false, .por, [⟨10, 10, "AUTO_RESET", .rw, 0⟩, ⟨9, 9, "HOST_DUMP", .rw, 1⟩, ⟨8, 8, "MIRROR", .rw, 1⟩, ⟨4, 0, "SUM_EXP", .rw, 0⟩]⟩,
  ⟨"ERR_CMD", 0x600004, [], false, .warm, [⟨3, 0, "OP", .wo, 0⟩]⟩,
  ⟨"ERR_STAT", 0x600008, [], false, .warm, [⟨31, 16, "CMD_STATUS", .ro, 0⟩, ⟨12, 12, "RESERVE", .ro, 0⟩, ⟨10, 0, "KINDS", .ro, 0⟩]⟩,
  ⟨"ERR_WPTR", 0x600010, [], false, .warm, [⟨31, 0, "PTR", .ro, 0⟩]⟩,
  ⟨"ERR_RPTR", 0x600014, [], false, .warm, [⟨31, 0, "PTR", .rw, 0⟩]⟩,
  ⟨"ERR_LOST", 0x600018, [], false, .warm, [⟨31, 0, "COUNT", .ro, 0⟩]⟩,
  ⟨"ERR_FATAL", 0x600020, [], true, .aon, [⟨63, 32, "SOURCE", .ro, 0⟩, ⟨15, 0, "CODE", .ro, 0⟩]⟩,
  ⟨"ERR_FATAL_TICK", 0x600028, [], true, .aon, [⟨63, 0, "TICK", .ro, 0⟩]⟩,
  ⟨"ERR_DUMP_HOST", 0x600030, [], true, .por, [⟨63, 12, "ADDR", .rw, 0⟩, ⟨0, 0, "EN", .rw, 0⟩]⟩,
  ⟨"ERR_DUMP_STAT", 0x600038, [], false, .aon, [⟨31, 16, "STATUS", .ro, 0⟩, ⟨15, 8, "SEQ", .ro, 0⟩, ⟨7, 7, "SLOT1_VALID", .ro, 0⟩, ⟨6, 6, "SLOT0_VALID", .ro, 0⟩, ⟨5, 4, "DEST", .ro, 0⟩, ⟨0, 0, "BUSY", .ro, 0⟩]⟩]

/-- The register tables of block HIF (chapter 14 of spec/), part 0. -/
def regRowsHif0 : List RegRow := [
  ⟨"HIF_CFG", 0x700000, [], false, .por, [⟨23, 16, "ELOG_US", .rw, 0xa⟩, ⟨0, 0, "HOLD_ON_LINK", .rw, 1⟩]⟩,
  ⟨"HIF_LINK", 0x700004, [], false, .por, [⟨19, 19, "HOTRST_SEEN", .w1c, 0⟩, ⟨18, 18, "DOWN_SEEN", .w1c, 0⟩, ⟨17, 17, "NARROW", .ro, 0⟩, ⟨16, 16, "UP", .ro, 0⟩, ⟨9, 4, "WIDTH", .ro, 0⟩, ⟨3, 0, "SPEED", .ro, 0⟩]⟩,
  ⟨"HIF_RESET", 0x700008, [], false, .warm, [⟨31, 24, "KEY", .wo, 0⟩, ⟨0, 0, "GO", .wo, 0⟩]⟩,
  ⟨"HIF_HMEM_HI", 0x700010, [], false, .por, [⟨19, 0, "UPPER", .rw, 0⟩]⟩,
  ⟨"HIF_EVQ_BASE", 0x700020, [], true, .por, [⟨63, 12, "ADDR", .rw, 0⟩]⟩,
  ⟨"HIF_EVQ_CTRL", 0x700028, [], false, .por, [⟨31, 31, "EN", .rw, 0⟩, ⟨19, 16, "SIZE_EXP", .rw, 8⟩, ⟨15, 0, "LOST", .rc, 0⟩]⟩,
  ⟨"HIF_EVQ_PTR", 0x70002c, [], false, .por, [⟨31, 16, "TAIL", .ro, 0⟩, ⟨15, 0, "HEAD", .rw, 0⟩]⟩,
  ⟨"HIF_CMQ_BASE_q", 0x701000, [(64, 0, 8)], true, .por, [⟨63, 12, "ADDR", .rw, 0⟩]⟩,
  ⟨"HIF_CPQ_BASE_q", 0x701008, [(64, 0, 8)], true, .por, [⟨63, 12, "ADDR", .rw, 0⟩]⟩,
  ⟨"HIF_CMQ_CTRL_q", 0x701010, [(64, 0, 8)], false, .por, [⟨31, 31, "EN", .rw, 0⟩, ⟨30, 29, "STATE", .ro, 0⟩, ⟨19, 16, "SIZE_EXP", .rw, 6⟩]⟩,
  ⟨"HIF_CMQ_PTR_q", 0x701014, [(64, 0, 8)], false, .por, [⟨31, 16, "HEAD", .ro, 0⟩, ⟨15, 0, "TAIL", .rw, 0⟩]⟩,
  ⟨"HIF_CPQ_PTR_q", 0x701018, [(64, 0, 8)], false, .por, [⟨31, 16, "TAIL", .ro, 0⟩, ⟨15, 0, "HEAD", .rw, 0⟩]⟩,
  ⟨"HIF_UPL_BASE_j", 0x702000, [(32, 0, 8)], true, .por, [⟨63, 12, "ADDR", .rw, 0⟩]⟩,
  ⟨"HIF_UPL_CTRL_j", 0x702008, [(32, 0, 8)], false, .por, [⟨31, 31, "EN", .rw, 0⟩, ⟨30, 30, "STOPPED", .ro, 0⟩, ⟨20, 16, "SIZE_EXP", .rw, 0x14⟩, ⟨15, 0, "IRQ_US", .rw, 0x64⟩]⟩]

/-- The register tables of block HIF (chapter 14 of spec/), part 1. -/
def regRowsHif1 : List RegRow := [
  ⟨"HIF_UPL_PTR_j", 0x702010, [(32, 0, 8)], true, .por, [⟨63, 32, "WPTR", .ro, 0⟩, ⟨31, 0, "RPTR", .rw, 0⟩]⟩]

/-- All register tables of block HIF. -/
def regRowsHif : List RegRow := regRowsHif0 ++ regRowsHif1

/-- The register tables of block AUX (chapter 14 of spec/). -/
def regRowsAux : List RegRow := [
  ⟨"AUX_I3C_CFG", 0x780000, [], false, .por, [⟨15, 8, "POLL_MS", .rw, 0xa⟩, ⟨1, 0, "BUS_EN", .rw, 0⟩]⟩,
  ⟨"AUX_I3C_XFER", 0x780004, [], false, .warm, [⟨31, 31, "GO", .wo, 0⟩, ⟨30, 30, "DIR", .rw, 0⟩, ⟨21, 16, "LEN", .rw, 0⟩, ⟨15, 15, "BUSY", .ro, 0⟩, ⟨5, 0, "INDEX", .rw, 0⟩]⟩,
  ⟨"AUX_I3C_XSTAT", 0x780008, [], false, .warm, [⟨31, 16, "STATUS", .ro, 0⟩]⟩,
  ⟨"AUX_I3C_DATA_i", 0x780010, [(4, 0, 8)], false, .warm, [⟨31, 0, "DATA", .rw, 0⟩]⟩,
  ⟨"AUX_XSPI_CMD", 0x780100, [], false, .warm, [⟨31, 31, "GO", .wo, 0⟩, ⟨16, 16, "BUSY", .ro, 0⟩, ⟨3, 0, "OP", .rw, 0⟩]⟩,
  ⟨"AUX_XSPI_ARGS", 0x780108, [], true, .warm, [⟨63, 32, "LEN", .rw, 0⟩, ⟨31, 0, "ADDR", .rw, 0⟩]⟩,
  ⟨"AUX_XSPI_BUF", 0x780110, [], true, .warm, [⟨63, 6, "ADDR", .rw, 0⟩]⟩,
  ⟨"AUX_XSPI_STAT", 0x780118, [], false, .warm, [⟨31, 16, "STATUS", .ro, 0⟩, ⟨0, 0, "VIO_HIGH", .ro, 0⟩]⟩,
  ⟨"AUX_GPIO_CFG_g", 0x780200, [(4, 0, 24)], false, .por, [⟨13, 8, "SLOT", .rw, 0⟩, ⟨2, 2, "POL", .rw, 0⟩, ⟨1, 0, "FUNC", .rw, 0⟩]⟩,
  ⟨"AUX_GPIO_IN", 0x780280, [], false, .por, [⟨23, 0, "LEVEL", .ro, 0⟩]⟩,
  ⟨"AUX_GPIO_OUT", 0x780284, [], false, .por, [⟨23, 0, "LEVEL", .rw, 0⟩]⟩,
  ⟨"AUX_PT_e_w", 0x781000, [(16, 0, 64), (4, 0, 4)], false, .warm, [⟨31, 0, "DATA", .ro, 0⟩]⟩]

/-- The register tables of block PWR (chapter 15 of spec/). -/
def regRowsPwr : List RegRow := [
  ⟨"PWR_DOM_CMD", 0x680000, [], false, .warm, [⟨9, 8, "OP", .wo, 0⟩, ⟨4, 0, "DOMAIN", .wo, 0⟩]⟩,
  ⟨"PWR_DOM_CMDSTAT", 0x680004, [], false, .warm, [⟨31, 16, "STATUS", .ro, 0⟩, ⟨0, 0, "BUSY", .ro, 0⟩]⟩,
  ⟨"PWR_DOM_STAT", 0x680008, [], false, .por, [⟨23, 0, "ON", .ro, 1⟩]⟩,
  ⟨"PWR_RAIL_STAT", 0x68000c, [], false, .por, [⟨11, 8, "FAULT", .w1c, 0⟩, ⟨3, 0, "IN_RANGE", .ro, 0⟩]⟩,
  ⟨"PWR_THERM_CFG", 0x680020, [], false, .por, [⟨11, 8, "HYST", .rw, 5⟩, ⟨6, 0, "WARN", .rw, 0x5f⟩]⟩,
  ⟨"PWR_TEMP_s", 0x680040, [(4, 0, 8)], false, .por, [⟨31, 16, "MAX", .rc, 0⟩, ⟨15, 0, "TEMP", .ro, 0⟩]⟩,
  ⟨"CLK_STAT", 0x680100, [], false, .por, [⟨31, 31, "REF_LOST", .w1c, 0⟩, ⟨25, 16, "UNLOCK_SEEN", .w1c, 0⟩, ⟨9, 0, "LOCK", .ro, 0⟩]⟩]

/-- The register tables of the block that BAR0 offset `off` lies in, by the block map of chapter 00. -/
def regRowsAt (off : Nat) : List RegRow :=
  if off < 0x10000 then regRowsGlb
  else if off < 0x20000 then regRowsSec
  else if off < 0x40000 then regRowsCfg
  else if off < 0x80000 then regRowsTick
  else if off < 0x100000 then regRowsFab
  else if off < 0x200000 then regRowsPsl
  else if off < 0x300000 then regRowsPsq
  else if off < 0x380000 then regRowsFcq
  else if off < 0x400000 then regRowsSlv
  else if off < 0x480000 then regRowsNoc
  else if off < 0x500000 then regRowsMemc
  else if off < 0x580000 then regRowsCsc
  else if off < 0x600000 then regRowsBist
  else if off < 0x680000 then regRowsErr
  else if off < 0x700000 then regRowsPwr
  else if off < 0x780000 then regRowsHif
  else regRowsAux

end Sys2Proof.Machine
end

