-- ==== Sys2Proof/Machine/RegLookup.lean ====
section
/-! DEFINITION. Finding a register by its BAR0 offset, its reset value and what a read or a write does to its fields by their access
types (R14, R15, R18, R565). -/

namespace Sys2Proof.Machine

/-- Where offset `d` past a register table's base lands: `some false` the register (or its low half), `some true` its high half. -/
def dimsHit (wide : Bool) : List (Nat × Nat × Nat) → Nat → Option Bool
  | [], d => if d = 0 then some false else if wide && d == 4 then some true else none
  | (stride, first, count) :: ds, d =>
    if first * stride ≤ d && d / stride < first + count then dimsHit wide ds (d % stride) else none

/-- The table row of `rows` that offset `off` lies in, and whether it is the high half of a 64-bit register. -/
def findRow (off : Nat) : List RegRow → Option (RegRow × Bool)
  | [] => none
  | r :: rs =>
    if off < r.base then findRow off rs
    else match dimsHit r.wide r.dims (off - r.base) with
      | some hi => some (r, hi)
      | none => findRow off rs

/-- The register table that BAR0 offset `off` belongs to, and whether it is a high half. -/
def regAt (off : Nat) : Option (RegRow × Bool) := findRow off (regRowsAt off)

/-- The value that a register's field rows give at reset. -/
def rowReset (fs : List FieldRow) : Nat := (fs.map (fun f => f.reset * 2 ^ f.lo)).sum

/-- The reset value of the register at `off`; FCQ_SRC_CFG_x.QUEUE resets to x div 2. [DESIGN CHOICE 4] -/
def resetVal (off : Nat) : Wide :=
  match regAt off with
  | some (r, false) =>
    if r.base = 0x301000 then BitVec.ofNat 64 (rowReset r.fields + ((off - r.base) / 64 / 2) * 2 ^ 24)
    else BitVec.ofNat 64 (rowReset r.fields)
  | _ => 0

/-- The PHY result registers, at offsets 0x0100 to 0x1FFF of each memory channel's block (R380). [DEDUCED 56] -/
def isPhy (off : Nat) : Bool := decide (0x480000 ≤ off) && decide (off < 0x490000) && decide (0x100 ≤ off % 0x2000)

/-- The reset domain of the register at `off`. -/
def domainAt (off : Nat) : ResetDomain :=
  match regAt off with
  | some (r, _) => r.domain
  | none => if isPhy off then .por else .warm

/-- What a write of `v` leaves in field `f` of a register that holds `old` (R14). -/
def writeField (old v : Wide) (f : FieldRow) : Nat :=
  let w := f.hi - f.lo + 1
  match f.access with
  | .rw | .rws => getBits v f.lo w
  | .w1c => getBits (old &&& ~~~ v) f.lo w
  | .wo => 0
  | .ro | .rc => getBits old f.lo w

/-- The register value after a write of `v` to the bits that `mask` selects (R14, R15: reserved bits read 0). -/
def writeRow (fs : List FieldRow) (old v mask : Wide) : Wide :=
  let v' := (v &&& mask) ||| (old &&& ~~~ mask)
  fs.foldl (fun acc f =>
    let w := f.hi - f.lo + 1
    let keep := match f.access with
      | .w1c => writeField old (v &&& mask) f
      | _ => writeField old v' f
    putBits acc f.lo w keep) 0

/-- The register value that remains after a read of the bits that `mask` selects: RC fields read are cleared (R14). -/
def readClear (fs : List FieldRow) (old mask : Wide) : Wide :=
  fs.foldl (fun acc f =>
    match f.access with
    | .rc => if getBits mask f.lo (f.hi - f.lo + 1) = 0 then acc else putBits acc f.lo (f.hi - f.lo + 1) 0
    | _ => acc) old

end Sys2Proof.Machine
end

