-- ==== Sys2Proof/Machine/TypesBist.lean ====
section
/-! DEFINITION. The parts of the state that the self-test engine keeps (chapter 12 of spec/). -/

namespace Sys2Proof.Machine

/-- What the logic part of a slice tests (R502): nothing, a cell by rotation or directly, the U-cell. -/
inductive LogicPart where
  | none | rotated | direct | ucell
deriving DecidableEq, Repr

/-- Whether a slice with this logic part tests its unit directly (R502). -/
def LogicPart.isDirect (l : LogicPart) : Bool := l == .direct || l == .ucell

/-- What the chunk part of a slice tests: nothing, a chunk of the M-cell, the spare rows not in use. -/
inductive ChunkPart where
  | none | chunk | spares
deriving DecidableEq, Repr

/-- A running slice (R504 to R512): its cluster and number, its parts, the tick H or G in which a takeover or hand-back under way began, the
tick in which its comparison disagrees, whether the slice is the second test of R512, the verdict of its logic part where that has ended before the chunk part, and
whether the chunk part has ended before the logic part. -/
structure BistSlice where
  cl       : Nat
  j        : Nat
  logic    : LogicPart
  chunk    : ChunkPart
  takeover : Option Wide
  back     : Option Wide
  differs  : Option Wide
  retest   : Bool
  logicEnd : Option Nat := none
  chunkEnd : Bool := false
deriving DecidableEq, Repr

/-- The fuses of one repair record (R529): 32 data bits, the SECDED code, and the three fuses of the VOID bit. -/
structure RepairFuse where
  data  : Word
  code  : BitVec 7
  voids : BitVec 3
deriving DecidableEq, Repr

/-- The self-test engine: running slices, the slices of this pass that have completed or been skipped (10 × cluster + j), the slices moved
ahead, requests held by a slice oldest first (R520), the fuse commands being carried out, the first one in progress: OP, record number, record (R530, R531), the fuses
of the repair records, the spare rows of each cluster that passed their last test (R515), the clusters whose U-cell is to stand in for a failed cell, with the tick H of
the takeover once that is under way (R518), whether a tamper event has spoiled the KEY group of the running Nightfall test, and whether a reset or a loss of power has
cut off a Nightfall test since the groups last ran (R533). [DESIGN CHOICE 74] -/
structure BistState where
  slices : List BistSlice
  done   : List Nat
  first  : List Nat
  held   : List Instr
  blow   : List (Nat × Nat × Word)
  fuses  : List (Nat × Option RepairFuse)
  sparesOk : List (Nat × Nat)
  standIns : List (Nat × Option Wide)
  keyCut : Bool
  nfCut  : Bool
deriving DecidableEq, Repr

/-- The engine after reset. -/
def BistState.reset : BistState :=
  { slices := [], done := [], first := [], held := [], blow := [], fuses := [], sparesOk := [], standIns := [], keyCut := false, nfCut := false }

end Sys2Proof.Machine
end

