-- ==== Sys2Proof/Machine/TypesCsc.lean ====
section
/-! DEFINITION. The parts of the state that the constellation block keeps (chapter 11 of spec/): ports, packets, votes, holds, formation. -/

namespace Sys2Proof.Machine

/-- A packet of the cascade (R466, R468): its header fields and body. -/
structure CscPkt where
  op   : Byte
  src  : Byte
  dst  : Byte
  tag  : Byte
  arg  : Wide
  body : List Byte
deriving DecidableEq, Repr

/-- What a port puts on its link (R461, R462): a control block, a packet with its SEQ, or a vote field. -/
inductive CscBlock where
  | ctl (ctype : Byte) (field : BitVec 24)
  | pkt (seq : Nat) (p : CscPkt)
  | vote (field : BitVec 24)
deriving DecidableEq, Repr

/-- One cascade port: the SEQ of the next packet to send and the one expected, the unacknowledged packets with their resends (R467), of which the first 64
are on the link, whether a NAK is out, the lanes deskewed (R461), what the neighbour's HELLO told (DEVICE_ID, role), whether it has joined; the tick in which its
calibration began and the loop figures in 1/64 tick (R476), the latest arrival of a vote field measured and its count (R479), DN_ARR of a downstream port
and the down flight of an upstream one, the fields received for later ticks (R42), the tick in which the last due field was lost (R485, R488), and the tick of
the last SYNC sent (R478). -/
structure CscPort where
  txSeq   : Nat
  rxSeq   : Nat
  unacked : List (Nat × Nat × CscPkt)
  naked   : Bool
  lanes   : Nat
  peer    : Option (Nat × Nat)
  joined  : Bool
  cal     : Option Nat
  loops   : List Nat
  worst   : Nat
  seen    : Nat
  dnArr   : Nat
  fields  : List (Nat × Byte)
  lostAt  : Option Wide
  lastSync : Nat
deriving DecidableEq, Repr

/-- A member as the pole knows it (R472, R473): its branch port, depth, DEVICE_ID, POS_REQ, position, PMIN, DN_ARR, down flight and last reported
GLB_STATE, whether it has been aligned and its flights have been measured in the present round, and whether it stays PENDING. -/
structure CscMember where
  id     : Nat
  port   : Nat
  depth  : Nat
  posReq : Nat
  pos    : Option Nat
  pmin   : Nat
  dnArr  : Nat
  down   : Nat
  state  : Nat
  aligned : Bool
  ready  : Bool
  out    : Bool
deriving DecidableEq, Repr

/-- A hold on its way to its effective tick (R486, R487): KIND, GRP as groups 0 to 15, the origin, the originating code and the tick
EFF; `tag` is EFF modulo 64. -/
structure CscHold where
  kind   : Nat
  grp    : Half
  origin : Nat
  code   : Nat
  eff    : Wide
deriving DecidableEq, Repr

/-- The constellation block: ports; packets delivered and not yet acted on, oldest first, with their port; blocks put on the links in the present tick and
those due in later ones (tick, port); ROLE and POS_REQ as the last FORM took them; the best candidate (role rank, DEVICE_ID); whether forming stopped on a
conflict; the formation epoch; the upstream port; the members, and the positions below a member; own votes and decisions by compare tick; holds; the tick in which the
upstream neighbour was lost; an FCK change that waits for its stop tick; whether a RECAL is under way; the branch ports that the pole has yet to calibrate; whether the device takes
up discovery once it is quiet (R475); whether its last REPORT told of an active site; and the tag of the remote access under way with what it is. [DESIGN CHOICE 109] -/
structure CscState where
  ports   : List (Nat × CscPort)
  inbox   : List (Nat × CscPkt)
  out     : List (Nat × CscBlock)
  due     : List (Nat × Nat × CscBlock)
  role    : Nat
  posReq  : Nat
  cand    : Option (Nat × Nat)
  clash   : Bool
  epoch   : Nat
  up      : Option Nat
  members : List CscMember
  below   : List Nat
  own     : List (Nat × Half)
  decs    : List (Nat × Byte)
  holds   : List CscHold
  cutAt   : Option Wide
  fckset  : Option (Nat × Nat × Nat)
  recal   : Bool
  walk    : List Nat
  waits   : Bool
  told    : Bool
  rmt     : Option Nat
  rmtTag  : Nat
deriving DecidableEq, Repr

/-- A port that has carried nothing. -/
def CscPort.reset : CscPort :=
  { txSeq := 0, rxSeq := 0, unacked := [], naked := false, lanes := 0, peer := none, joined := false, cal := none, loops := [], worst := 0, seen := 0, dnArr := 0,
    fields := [], lostAt := none, lastSync := 0 }

/-- The constellation block after reset: alone. -/
def CscState.reset : CscState :=
  { ports := [], inbox := [], out := [], due := [], role := 0, posReq := 0, cand := none, clash := false, epoch := 0, up := none,
    members := [], below := [], own := [], decs := [], holds := [], cutAt := none, fckset := none, recal := false, walk := [], waits := false, told := false, rmt := none,
    rmtTag := 0 }

end Sys2Proof.Machine
end

