-- ==== Sys2Proof/Machine/TypesHif.lean ====
section
/-! DEFINITION. The parts of the state that the host interface, the sideband ports and the power controller keep (chapters 14 and 15 of
spec/). -/

namespace Sys2Proof.Machine

/-- A host command that firmware has started (R572 to R574): its queue, entry bytes, the HEAD after it was taken, whether its action has been made, the
STATUS and RESULT it completes with once they are known, and whether a loss of the link has taken away its completion (R594). -/
structure HifCmd where
  q      : Nat
  entry  : List Byte
  head   : Nat
  acted  : Bool
  answer : Option (Nat × Nat)
  lost   : Bool
deriving DecidableEq, Repr

/-- What the host gets as the completion of a read of BAR0 or BAR2 (R565, R566): data, Unsupported Request, Completer Abort or poisoned data. -/
inductive HostCpl where
  | success | ur | ca | poisoned
deriving DecidableEq, Repr

/-- What the endpoint's configuration space holds: its identification (R564), the base addresses of BAR0 and BAR2, whether it is in D3hot, and the AER Uncorrectable Error Status
(R563, R595). The number of Ferkiska's Vendor ID is not in the spec, and the model's is 0. [DESIGN CHOICE 133] -/
structure ConfigSpace where
  vendorId  : Half
  deviceId  : Half
  classCode : BitVec 24
  revision  : Byte
  bar0      : Wide
  bar2      : Wide
  d3hot     : Bool
  aer       : Word
deriving DecidableEq, Repr

/-- The configuration space after reset: Device ID, class code of a processing accelerator, Revision ID of stepping B0 (R564). -/
def ConfigSpace.reset : ConfigSpace := { vendorId := 0, deviceId := 0x8840, classCode := 0x120000, revision := 0x10, bar0 := 0, bar2 := 0, d3hot := false, aer := 0 }

/-- The host interface: commands started and not completed, oldest first; whether an error-log event window is open and a record was written in it (R580);
SEQ of the next packet of each upload engine (R582); the configuration space (R563, R564); whether configuration requests are answered with Retry
Status (R568); and the completion of the host's last read of BAR0 or BAR2, the model's own record (R565, R566). [DESIGN CHOICE 8] -/
structure HifState where
  cmds   : List HifCmd
  window : Bool
  late   : Bool
  uplSeq : List (Nat × Nat)
  space  : ConfigSpace
  retry  : Bool
  cpl    : HostCpl
deriving DecidableEq, Repr

/-- What the TAP makes the pins do (R591). -/
inductive PinDrive where
  | system | boundary | highz | pulse | train
deriving DecidableEq, Repr

/-- The TAP (R591): the instruction, what the instruction register captured when it was scanned in, the boundary register, the pins' drive and what the selected data register captured. -/
structure JtagState where
  ir       : Byte
  irOut    : Byte
  boundary : List Bool
  drive    : PinDrive
  captured : List Bool
deriving DecidableEq, Repr

/-- A flash command of AUX_XSPI_CMD in progress: OP, ADDR, LEN, buffer. -/
structure XspiCmd where
  op   : Nat
  addr : Nat
  len  : Nat
  buf  : Nat
deriving DecidableEq, Repr

/-- A target that asks to join (R586): its bus, PID, BCR, DCR and descriptor, and the dynamic address that firmware has for it. -/
structure JoinReq where
  bus  : Bool
  pid  : BitVec 48
  bcr  : Byte
  dcr  : Byte
  desc : BitVec 128
  addr : Option Byte
deriving DecidableEq, Repr

/-- The auxiliary block: the flash bytes that this block has programmed or erased, the flash command in progress, and the joins that wait for the I3C transfer in progress (R588). -/
structure AuxState where
  flash : List (Nat × Option Byte)
  xspi  : Option XspiCmd
  joins : List JoinReq
deriving DecidableEq, Repr

/-- The power controller: the domain being switched and whether on, whether a warning stands logged (R613), THERMTRIP_N. -/
structure PwrState where
  switching : Option (Nat × Bool)
  warned    : Bool
  thermtrip : Bool
  quadUp    : List Nat
deriving DecidableEq, Repr

/-- The host interface after reset. -/
def HifState.reset : HifState := { cmds := [], window := false, late := false, uplSeq := [], space := ConfigSpace.reset, retry := false, cpl := .success }

/-- The TAP after TRST_N: IDCODE selected. -/
def JtagState.reset : JtagState := { ir := 1, irOut := 1, boundary := [], drive := .system, captured := [] }

/-- The auxiliary block after reset. -/
def AuxState.reset : AuxState := { flash := [], xspi := none, joins := [] }

/-- The power controller after reset. -/
def PwrState.reset : PwrState := { switching := none, warned := false, thermtrip := false, quadUp := [] }

end Sys2Proof.Machine
end

