-- ==== Sys2Proof/Machine/TypesNet.lean ====
section
/-! DEFINITION. The parts of the state that the on-chip network, the memory controllers and the configuration block keep (chapters 08 and
09 of spec/). -/

namespace Sys2Proof.Machine

/-- The requests of R355: RD, WR, and the snoops of the memory controllers. -/
inductive ReqKind where
  | rd | wr | snpCln | snpInv
deriving DecidableEq, Repr

/-- A packet on the mesh (R356, R360): its 64-bit header, the 64 bits after it (the DPA and LENGTH − 1 of a request, the status of a completion), the NI
that injected it, the router that has accepted its head (none while that waits at its NI) and the input it came in by (R351: 0 to 3 from N, E, S, W,
above that local), the routers still ahead of it and then, as 64 and above, the local port of the NI that it is addressed to, the CD05 cycles for which its head has waited where it
stands (R366), whether a router has discarded it and whether it is poisoned (R359). -/
structure NocPkt where
  header : Wide
  word   : Wide
  inj    : Nat
  here   : Option Nat
  port   : Nat
  ahead  : List Nat
  waited : Nat
  lost   : Bool
  poison : Bool
deriving DecidableEq, Repr

/-- One request in the retry buffer of its NI (R355 to R359): the NI, its tag, what it asks for, the DPA, length and destination NI, the data it writes or
has read, the packet that is on the mesh for it (the request, then its completion or a NACK), whether it was resent after a NACK (R371), the URG it carried on arrival (R366) and its place in the order of arrivals (R367), the snoops sent for it as line and core, for a snoop the
request that waits for it (R391), the tag under which it is outstanding on the cascade, and whether its NI has already completed it by timeout
(R358). [DESIGN CHOICE 55] -/
structure NocReq where
  ni      : Nat
  tag     : Nat
  kind    : ReqKind
  addr    : Nat
  len     : Nat
  dst     : Nat
  data    : List Byte
  pkt     : NocPkt
  resent  : Bool
  arrUrg  : Nat
  stamp   : Option Nat
  snooped : List (Nat × Nat)
  snoopOf : Option (Nat × Nat)
  cascade : Option Nat
  dead    : Bool
deriving DecidableEq, Repr

/-- How a request ended at its NI: status and data read. -/
structure NocResult where
  status : Nat
  data   : List Byte
deriving DecidableEq, Repr

/-- The network and the memory controllers: route words by 512 × source + 2 × destination, plus 1 for the alternate (R361); the requests
injected and not ended, in the order of their issue; the last completion of each tag by 256 × NI + tag, the model's own record; the erasure of each
channel as subchannel and component (R383); the input that each router output or injection point granted last (R367) and the number of arrivals at targets so
far; the snoop filter, the 64-byte lines that the caches of MC0 and MC1 hold, as line and core (R391); the patrol reads that wait behind an earlier request to their line, as channel, local
address, symbols in error and place in the order of arrivals (R393); and the completion status with which the host answered last, the model's own record (R569). -/
structure NocState where
  routes  : List (Nat × Wide)
  reqs    : List NocReq
  results : List (Nat × NocResult)
  erase   : List (Nat × Option (Nat × Nat))
  granted : List (Nat × Nat)
  stamps  : Nat
  filter  : List (Nat × Nat)
  scrubs  : List (Nat × Nat × List MemFault × Nat)
  hostSt  : Nat
deriving DecidableEq, Repr

/-- The header of a bitstream image (R398), without the fields that its checks fix. -/
structure CfgHdr where
  stepMin   : Nat
  position  : Nat
  kind      : Nat
  keysel    : Nat
  signer    : Nat
  totalLen  : Nat
  nchunk    : Nat
  lastLen   : Nat
  pmin      : Nat
  regionSet : Nat
  nonce     : List Byte
  buildId   : Nat
deriving DecidableEq, Repr

/-- A load in progress (R408 to R416): who asked for it, its source and FALLBACK, whether it is the retry from the golden image and whether its image comes from a
chain stream, where the image begins in its source and the bytes available there, its header once that is accepted, chunks that have passed,
bytes received, the plaintext not yet taken by a frame and the offset of the next frame, whether a REGION_MAP and the END were seen,
the frames applied, the regions being loaded, what waits for the commit (slice assignments, sequencer configurations, pages written), the bytes of the image taken
so far, header first, which the tags and the signature cover (R399, R401), and, once the signature has passed, the SHA-384 of what it covers: the load then commits at the
coming tick edge (R415). -/
structure CfgLoad where
  req      : Option Requester
  src      : Nat
  fallback : Bool
  golden   : Bool
  chained  : Bool
  base     : Nat
  avail    : Option Nat
  hdr      : Option CfgHdr
  chunks   : Nat
  recv     : Nat
  plain    : List Byte
  consumed : Nat
  mapSeen  : Bool
  ended    : Bool
  frames   : Nat
  regions  : List Nat
  siteMap  : Option (List Byte)
  psqCfg   : List (Nat × List Byte)
  pages    : List (Nat × Nat)
  image    : List Byte
  commit   : Option (List Byte)
deriving DecidableEq, Repr

/-- A chain stream in progress (R419 to R424): who asked for it, its source and FALLBACK, whether it is the golden retry, where its next header begins and the bytes available from
there, the positions of the images taken so far, how many images have passed, and, of a stream that arrives, the bytes of the present image still to come, whether
they are forwarded, and the TOTAL_LEN of that image. -/
structure CfgChain where
  req    : Option Requester
  src    : Nat
  fallback : Bool
  golden : Bool
  base   : Nat
  avail  : Option Nat
  seen   : List Nat
  images : Nat
  left   : Nat
  fwd    : Bool
  total  : Nat
deriving DecidableEq, Repr

/-- The command that the configuration port carries out (R425): LOAD with its LEN, or a command that returns words, and the words it returned. -/
inductive PortCmd where
  | load (len : Nat)
  | words (ws : List Word)
  | other
deriving DecidableEq, Repr

/-- The configuration block: the load, the chain stream, the PMIN of the configuration that each region holds (R33; 0: of one that loaded no region),
the port's command, the bytes of an upstream chain stream that wait for a whole header, whether the bytes that arrive belong to a stream that has ended and
are discarded (R420), the clusters whose self-test slices the load waits for (R520), and the tick and regions of the last commit (R430). [DEDUCED 61] -/
structure CfgState where
  load  : Option CfgLoad
  chain : Option CfgChain
  pmins : List (Nat × Nat)
  port  : Option PortCmd
  inbuf : List Byte
  deaf  : Bool
  waits : List Nat
  committed : Option (Wide × List Nat)
deriving DecidableEq, Repr

/-- The network after power-on: the routes of R363, nothing in flight, no erasure, no line in a cache. -/
def NocState.reset : NocState :=
  { routes := [], reqs := [], results := [], erase := [], granted := [], stamps := 0, filter := [], scrubs := [], hostSt := 0 }

/-- The configuration block after reset. -/
def CfgState.reset : CfgState := { load := none, chain := none, pmins := [], port := none, inbuf := [], deaf := false, waits := [], committed := none }

end Sys2Proof.Machine
end

