-- ==== Sys2Proof/Machine/TypesCore.lean ====
section
/-! DEFINITION. The parts of the state that the frame tick, the fabric, the sequencers and the error log keep
(chapters 00 to 04 and 13 of spec/). -/

namespace Sys2Proof.Machine

/-- The device states that R6 reports directly; LOADED to SAFE_HOLD of R5 are computed from the sites while `loaded`. -/
inductive DevPhase where
  | off | boot | twilight | ready | loaded | fault
deriving DecidableEq, Repr

/-- One report on its way to the logger (R535), with the count and last tick of the reports merged into it (R536). `more` is what its chapter has it carry beside SOURCE and DETAIL
and R542 and R543 give no place in a record: the local index of a U-cell (R121), SRC and KIND of a load (R432). [DEDUCED 138] -/
structure ErrReport where
  code   : Half
  source : Word
  detail : Wide
  first  : Wide
  last   : Wide
  count  : Nat
  more   : Nat
deriving DecidableEq, Repr

/-- One kind table entry (R538, R540, R544): `pfirst` and `plast` are the first and last pending ticks, and `coalesced` is set once a summary has been
written, until CLEAR. -/
structure KindEntry where
  code    : Half
  source  : Word
  first   : Wide
  last    : Wide
  full    : Nat
  total   : Nat
  pending : Nat
  pfirst  : Wide
  plast   : Wide
  coalesced : Bool
deriving DecidableEq, Repr

/-- One record of the log ring (R541), with `more` of its report, which its 32 bytes do not hold: `tick` is the report's tick or the first pending tick, `detail` the DETAIL or the last
pending tick, `tail` the report's number within its kind or the PENDING count. [DEDUCED 138] -/
structure LogRecord where
  tick   : Wide
  code   : Half
  flags  : Byte
  source : Word
  detail : Wide
  seq    : Word
  tail   : Word
  more   : Nat := 0
deriving DecidableEq, Repr

/-- The error log (R535 to R546): the intake oldest first, the pending report of each reporter, the kind table, the ring by entry
number, and its counters. -/
structure ErrState where
  intake  : List ErrReport
  held    : List (Nat × Option ErrReport)
  kinds   : List KindEntry
  ring    : List (Nat × Option LogRecord)
  wptr    : Word
  rptr    : Word
  lost    : Nat
deriving DecidableEq, Repr

/-- A fabric word (R62). -/
structure FWord where
  s    : Bool
  v    : Bool
  data : Word
deriving DecidableEq, Repr

/-- The read pipeline of one M-cell port (R28, R154): the address and mode of the last access, whether a read is in flight, and the
word it will load. -/
structure PortPipe where
  addr : Nat
  mode : Nat
  busy : Bool
  word : FWord
deriving DecidableEq, Repr

/-- The registers of one fabric cell, the union over the cell types of the table "Per-cell state" of chapter 02. `q` is Q or Q0. The
four slice words are those an X-cell passes on; `sync` is the tick-side output of a routed-clock cell, `syncPend` its pending flag and
`syncAt` the tick of the routed edge. -/
structure CellRegs where
  q        : FWord
  q1       : FWord
  l0       : FWord
  l1       : FWord
  l2       : FWord
  l3       : FWord
  acc      : FWord
  cy       : Bool
  w        : Wide
  wv       : Bool
  ws       : Bool
  pipe0    : PortPipe
  pipe1    : PortPipe
  xde      : FWord
  xxe      : FWord
  xdo      : FWord
  xxo      : FWord
  sync     : FWord
  syncPend : Bool
  syncAt   : Wide
deriving DecidableEq, Repr

/-- The context pointers of one cell (R79). -/
structure CtxRegs where
  active  : Nat
  pending : Nat
  pend    : Bool
deriving DecidableEq, Repr

/-- One stored word of an M-cell array (R92): data, S tag and parity bit. -/
structure MWord where
  data   : Word
  s      : Bool
  parity : Bool
deriving DecidableEq, Repr

/-- The stream buffer of one X-cell (R110): its words oldest first, its 1,024 entries as filled, its read and write pointers, the words fetched so
far and the tick of the last pop. -/
structure XsBuf where
  words   : List Word
  ring    : List (Nat × Word)
  rd      : Nat
  wr      : Nat
  fetched : Nat
  popAt   : Option Wide
deriving DecidableEq, Repr

/-- An accepted FREEZE or THAW that has not taken effect (R145, R146). -/
structure RgnPend where
  thaw   : Bool
  region : Nat
  tick   : Wide
  copied : Bool
deriving DecidableEq, Repr

/-- The Starfix engine (R149 to R156): the armed tick, its cause and mode, the captured image as its non-zero 64-bit words, and the
stream-buffer levels and read pointers at the edge of the last capture in HALT mode (R156). -/
structure Starfix where
  armed  : Option Wide
  cause  : Nat
  halt   : Bool
  image  : List (Nat × Wide)
  levels : List (Nat × (Nat × Nat))
deriving DecidableEq, Repr

/-- The fabric: cell registers, the values that the coming tick edge registers, context pointers, context stores (word 16 × slot + w),
LOADED flags (8 × slot + context), routing words in thirds (24 × position + 3 × context + third) and their parity faults, M-cell arrays
(4,352 × cluster + physical word), border words latched when a region left LIVE, stream buffers, the pending region command, Starfix,
the context selects issued in this tick, the tick since which a select is pending, the select received while an earlier one is due in this tick
(R37), the U-cells' shadows of stores and LOADED flags (R103), bit 0 of P3 at the last edge for each routed-clock cell (R113), and the units
that slipped in this tick (R44): slots, and 4,096 + n for sequencer n. -/
structure FabState where
  cells    : List (Nat × CellRegs)
  nxt      : List (Nat × Option CellRegs)
  ctx      : List (Nat × CtxRegs)
  store    : List (Nat × Wide)
  loadedFl : List (Nat × Bool)
  route    : List (Nat × Wide)
  routeBad : List (Nat × Bool)
  marr     : List (Nat × MWord)
  frozen   : List (Nat × FWord)
  xs       : List (Nat × XsBuf)
  rgnPend  : Option RgnPend
  sfx      : Starfix
  selNow   : List (Nat × Option Nat)
  selSince : List (Nat × Wide)
  selHeld  : List (Nat × Option Nat)
  shadow   : List (Nat × Wide)
  shadowFl : List (Nat × Bool)
  rclkLvl  : List (Nat × Bool)
  slipped  : List Nat
deriving DecidableEq, Repr

/-- The states of a site that a command or cause sets (R163); IDLE and LOADED are told apart by the site's regions. -/
inductive SiteMode where
  | none | armed | running | paused | safeHold
deriving DecidableEq, Repr

/-- The execution states of R169. -/
inductive ExecState where
  | stop | frame | svc | wait | fault | susp
deriving DecidableEq, Repr

/-- A change of site state that takes effect at the next tick edge (R164, R167); `at_` is the start or resume tick. -/
inductive SiteNext where
  | arm
  | start (at_ : Wide)
  | resume (at_ : Wide)
  | pause
  | halt
  | stop
  | hold (code : Nat)
deriving DecidableEq, Repr

/-- The header of a register-window frame (R197). -/
structure FrameHdr where
  depth   : Nat
  kind    : Nat
  retpc   : Half
  status  : Word
  lmstate : Word
  lmbase  : Word
deriving DecidableEq, Repr

/-- A frame in the window store: its header and the 16 registers. -/
structure StoredFrame where
  hdr  : FrameHdr
  regs : List Word
  bad  : Bool
deriving DecidableEq, Repr

/-- A service-class data access under way (R170, R208, R209): load or store, the register, the address and, for LDM and STM, the
registers that remain after this element. -/
structure DataAccess where
  store : Bool
  reg   : Nat
  addr  : Word
  value : Word
  multi : Bool
deriving DecidableEq, Repr

/-- One pattern sequencer and its site (chapter 04). `vwr` is the vector word that its entry positions receive in the present tick, `vout` what the coming edge
registers there, `movedAt` the tick of the last frame that the spill engine moved (R194), `masks` match-mask words written in the present tick,
`faulted` a double fault that the coming edge acts on (R207), `irqCheck` the interrupt source chosen and what its check found, the EVAL of a trap or none
(R201). -/
structure Psq where
  mode     : SiteMode
  next     : Option SiteNext
  cmdNow   : Option (Requester × Nat)
  runAt    : Option Wide
  slipAt   : Option Wide
  exec     : ExecState
  faulted  : Bool
  svcAt    : Option Wide
  svcEnd   : Bool
  nRun     : Nat
  s0       : Wide
  rep      : Nat
  issuedAt : Option Wide
  pc       : Half
  cur      : Nat
  depth    : Nat
  banks    : List (Nat × Word)
  frames   : List (Nat × Option FrameHdr)
  wstore   : List StoredFrame
  inMem    : Nat
  spillBad : List Nat
  ie       : Bool
  priv     : Bool
  trap     : Bool
  sealFlag : Bool
  epc      : Half
  ecause   : Word
  eval     : Word
  tstatus  : Word
  lmstate  : Word
  lmbase   : Word
  tlmstate : Word
  tlmbase  : Word
  winsel   : Nat
  tickHi   : Option Word
  sfail    : Bool
  acc      : BitVec 4
  vote     : Bool
  vc       : List (Nat × Word)
  vwr      : FWord
  vout     : Option FWord
  repLeft  : Nat
  movedAt  : Option Wide
  masks    : List (Nat × Word)
  scratch  : List (Nat × Word)
  imem     : List (Nat × Word)
  fills    : List (Nat × Option Nat)
  irq      : List (Nat × Option Wide)
  irqCheck : Option (Nat × Option Nat)
  access   : Option DataAccess
  held     : List (Nat × Wide)
deriving DecidableEq, Repr

end Sys2Proof.Machine
end

