-- ==== Sys2Proof/Machine/TypesPins.lean ====
section
/-! DEFINITION. The parts of the state that the pin slices and the fail capture and queue block keep (chapters 05 and 06 of spec/). -/

namespace Sys2Proof.Machine

/-- What a powered slice that is not calibrating does (R242): SAFE, ACTIVE or PAUSE. -/
inductive SliceAct where
  | safe | active | paused
deriving DecidableEq, Repr

/-- The settings registers of a slice as they were when it last left SAFE or CAL, which are those it works with (R232). -/
structure SliceSet where
  cfg   : Wide
  lead  : Wide
  trail : Wide
  den   : Wide
  strb  : Wide
  tx    : Wide
  rx    : Wide
  align : Wide
  eq    : Wide
deriving DecidableEq, Repr

/-- A frame loaded into a slice (R223): its words, the tick it was loaded in, its compare tick (R234), the level changes it puts on DRV and DEN, each a step
from the frame's start and the level from there on (R226 to R228), the levels before it, and when the signals are sampled for UI 0: the steps from the
frame's reference instant, on CMPH and on CMPL, input deskew taken off (R226, R231, R233). -/
structure SliceFrame where
  drive    : FWord
  expect   : FWord
  loadTick : Wide
  compare  : Wide
  drv      : List (Nat × Bool)
  den      : List (Nat × Bool)
  drv0     : Bool
  den0     : Bool
  sampleH  : Int
  sampleL  : Int
deriving DecidableEq, Repr

/-- The result a slice registers at the end of a tick (R236): whether it compared, its fail word, the stale mark of R224, whether
it was in SAFE or OFF in that tick (R109), its X-cell's ACTIVE context in that tick (R261) and the tick. -/
structure SliceResult where
  compared : Bool
  fail     : Half
  stale    : Bool
  safe     : Bool
  ctx      : Nat
  tick     : Wide
deriving DecidableEq, Repr

/-- A PSL_BIND write accepted in a tick (R249): the tick, and what the register, BOUND and STALE were before it. -/
structure BindRec where
  tick  : Wide
  reg   : Wide
  bound : Nat
  stale : Nat
deriving DecidableEq, Repr

/-- One pin slice (chapter 05): what it does, the tick by which a SAFE condition takes effect (R245), whether CAL runs, since which tick and what PSL_DSK_RX
held before it (R240), whether a frame was loaded since its site was armed, whether the next frame is the first after SAFE (R225), the frames in flight, the
last line levels of DRV and DEN, whether PSL_EDGE_ORDER was logged since the site was armed, the settings it works with, the last accepted PSL_BIND write and
the tick of the last loss of a binding (R255), the result of this tick and that of the tick before. -/
structure Slice where
  act       : SliceAct
  safeDue   : Option Wide
  cal       : Bool
  calAt     : Wide
  calRx     : Wide
  loaded    : Bool
  fresh     : Bool
  frames    : List SliceFrame
  drvLvl    : Bool
  denLvl    : Bool
  edgeLog   : Bool
  set       : SliceSet
  bindRec   : Option BindRec
  lostAt    : Option Wide
  now       : SliceResult
  last      : SliceResult
deriving DecidableEq, Repr

/-- The packets of a capture queue (R261, R263). -/
inductive CapPkt where
  | fail (tick : Wide) (fwE fwO : Half) (src : Nat) (flags : Byte) (site ctx : Nat)
  | sat (first : Wide) (pkts : Nat) (src cause site : Nat) (last : Wide) (failui : Nat)
  | reset (tick : Wide) (items site : Nat)
deriving DecidableEq, Repr

/-- A packet in a ring with the counter value of its first item. -/
structure RingPkt where
  start : Nat
  pkt   : CapPkt
deriving DecidableEq, Repr

/-- A capture source (R259, R264): whether its site has been armed, credits, refill accumulator and whether a refill is
attempted at the end of the present tick (R264, R303), saturation with its CAUSE, whether a packet was refused in the present tick (R303), whether its
marker still occupies the reserved items, packets with a non-zero fail word since ARM (R286), and the COUNT figures of R289. -/
structure Source where
  armed     : Bool
  cr        : Nat
  acc       : Nat
  refill    : Bool
  refusedNow : Bool
  saturated : Bool
  cause     : Nat
  marker    : Bool
  firsts    : Nat
  placed    : Nat
  placedUi  : Nat
  refused   : Nat
  firstTick : Wide
  lastTick  : Wide
deriving DecidableEq, Repr

/-- An open run of a source in RLE form (R287). -/
structure OpenRun where
  first   : Wide
  last    : Wide
  fwE     : Half
  fwO     : Half
  flags   : Byte
  siteCtx : Byte
  len     : Nat
deriving DecidableEq, Repr

/-- The states of a capture queue (R274). -/
inductive QueueSt where
  | off | ready | run | flush | reset
deriving DecidableEq, Repr

/-- One capture queue: its state and the state it returns to after RESET, the tick its site left the active states (R276), its packets, those placed in the
present tick and written at the edge (R40, R266), pointers in items with the second copy of each (R295), whether the COUNT records of a flush and its END
record have been made, whether END is written (R283), the open runs, the records whose memory write is under way oldest first, and the counts the header and
the END record carry. -/
structure CapQueue where
  st        : QueueSt
  back      : QueueSt
  leftAt    : Option Wide
  pkts      : List RingPkt
  inFlight  : List CapPkt
  wptr      : Nat
  rptr      : Nat
  tptr      : Nat
  wptr2     : Nat
  rptr2     : Nat
  tptr2     : Nat
  counted   : Bool
  ended     : Bool
  closed    : Bool
  runs      : List (Nat × Option OpenRun)
  writes    : List (List Byte)
  wrote     : Nat
  resets    : Nat
  episodes  : Nat
  fullLog   : Bool
  discarded : Nat
  resetAt   : Wide
deriving DecidableEq, Repr

/-- One item of a stream queue, with its packet marks (R257). -/
structure StreamItem where
  data : Word
  sop  : Bool
  eop  : Bool
deriving DecidableEq, Repr

/-- One stream queue: its items oldest first, pointers with the second copy of each (R295), level state, whether it is in RESET, the items read of the packet
that is being read (0 at a packet boundary), the items written of the packet that is being written (0 when none is), and whether the rest of that one is
discarded as it arrives (R281). -/
structure StreamQueue where
  items    : List StreamItem
  wptr     : Nat
  rptr     : Nat
  wptr2    : Nat
  rptr2    : Nat
  high     : Bool
  reset    : Bool
  readIn   : Nat
  filling  : Nat
  dropping : Bool
deriving DecidableEq, Repr

end Sys2Proof.Machine
end

