-- ==== Sys2Proof/Machine/TypesSec.lean ====
section
/-! DEFINITION. The parts of the state that the boot ROM, the security block and the fatal dump keep (chapters 10 and 13 of spec/). -/

namespace Sys2Proof.Machine

/-- A mailbox command in progress (R442): OP, ARG, the DPA and length given, and what it was accepted with: the entries stored, OVERFLOW and
CHAIN of the attestation log, TICK_COUNT and FLAGS of a quote (R450), its requester as a SOURCE, and whether a tamper event has spoiled it (R457). -/
structure MboxCmd where
  op      : Nat
  arg     : Nat
  addr    : Nat
  len     : Nat
  entries : Nat
  overflow : Nat
  chain   : List Byte
  tick    : Wide
  flags   : Nat
  source  : Nat
  spoiled : Bool
deriving DecidableEq, Repr

/-- Code placed in management SRAM (R437, R447): its offset there, the offset of its first instruction within it, and its bytes. -/
structure SramImage where
  ofs   : Nat
  entry : Nat
  body  : List Byte
deriving DecidableEq, Repr

/-- The security block and the start attempts: the secret fuse UDS, the values of keys by slot (0 and 1 fuse keys, 2 the battery-backed key, 3
and 4 owner public keys, as numbers of their bytes), the attestation log, its chain and the number of entries added (R448), the mailbox
command in progress, the TAMPER_N pin, events and loss of voltage latched on VBAT while main power was off, the attempt's number, CAUSE and
SLOT, whether the firmware came by BOOT_HOST, the SVN that is blown at READY, a test-mode entry that holds the reset and one to be recorded,
the firmware and the owner module that runs on MC1 as management SRAM holds them (R436, R447), the KCV that the battery-backed store keeps with its key (R445), whether a loss of
power has cut off a blow of SVN or lock fuses (R457), the codes with which slots B and A failed in this attempt (R438), or BOOT_FUSE_ERR with DETAIL 0, and whether a critical fuse
field is uncorrectable (R444). [DEDUCED 67; DESIGN CHOICE 109] -/
structure SecState where
  uds     : Nat
  keys    : List (Nat × Nat)
  log     : List (List Byte)
  chain   : List Byte
  index   : Nat
  mbox    : Option MboxCmd
  tamperLow : Bool
  vbatEvents : Nat
  seq     : Nat
  cause   : Nat
  slot    : Nat
  hostFw  : Bool
  svnUp   : Option Nat
  testHold : Bool
  testRec : Bool
  fw      : Option SramImage
  module_ : Option SramImage
  bbKcv   : Option Word
  fuseCut : Bool
  fwBad   : Option (Nat × Nat)
  fuseBad : Bool
deriving DecidableEq, Repr

/-- The record of one tick in the tick trace (R559): the eight fields of 16 bytes as numbers. -/
structure TickRec where
  tick    : Nat
  running : Nat
  issued  : Nat
  ors     : Nat
  selects : Nat
  held    : Nat
  flags   : Nat
deriving DecidableEq, Repr

/-- The dump: the fatal report being dumped (code, device state and active sites before FAULT), how the Starfix image of the dump comes about
(STARFIX of the header), the management cores that have faulted (bit m: MCm), a failed dump still to be logged at READY, the tick trace newest
first, the tick after which it is frozen, and this tick's events for it. -/
structure DumpState where
  fatal   : Option (Nat × Nat × Nat)
  sfx     : Nat
  cores   : Nat
  failLog : Bool
  trace   : List TickRec
  stopAt  : Option Wide
  marks   : Nat
deriving DecidableEq, Repr

/-- The security block after power-on: no key, an empty log. [DESIGN CHOICE 4] -/
def SecState.reset : SecState :=
  { uds := 0, keys := [], log := [], chain := List.replicate 48 0, index := 0, mbox := none, tamperLow := false, vbatEvents := 0, seq := 1,
    cause := 0, slot := 0xFF, hostFw := false, svnUp := none, testHold := false, testRec := false, fw := none, module_ := none,
    bbKcv := none, fuseCut := false, fwBad := none, fuseBad := false }

/-- The dump state after power-on. -/
def DumpState.reset : DumpState := { fatal := none, sfx := 0, cores := 0, failLog := false, trace := [], stopAt := none, marks := 0 }

end Sys2Proof.Machine
end

