-- ==== Sys2Proof/Machine/TypesSlv.lean ====
section
/-! DEFINITION. The parts of the state that the Damson engine keeps (chapter 07 of spec/): lane maps, tap lists, repair regions and
results. -/

namespace Sys2Proof.Machine

/-- A region descriptor as read from memory (R312). -/
structure RgnDesc where
  rowsM1     : Nat
  colsM1     : Nat
  sr         : Nat
  sc         : Nat
  nblk       : Nat
  rgs        : Nat
  cgs        : Nat
  brs        : Nat
  bcs        : Nat
  wr         : Nat
  wc         : Nat
  wb         : Nat
  auto       : Bool
  lossUnrep  : Bool
  keep       : Bool
  lane       : Nat
  budget     : Nat
  maskR      : Nat
  maskC      : Nat
  maskB      : Nat
  user       : Nat
  resultAddr : Nat
deriving DecidableEq, Repr

/-- A segment of a lane map (R314). -/
structure MapSeg where
  fStart  : Nat
  fLen    : Nat
  fpr     : Nat
  row0    : Nat
  rstep   : Nat
  col0    : Nat
  cstep   : Nat
  rgnBase : Nat
deriving DecidableEq, Repr

/-- A pin entry of a lane map (R314). -/
structure MapPin where
  src     : Nat
  side    : Nat
  rgnOfs  : Nat
  colOfs  : Nat
  uiCstep : Nat
deriving DecidableEq, Repr

/-- A loaded lane map: TBASE, the used segments and the used pins (R314). -/
structure LaneMap where
  tbase : Nat
  segs  : List MapSeg
  pins  : List MapPin
deriving DecidableEq, Repr

/-- An entry of a lane's tap list (R324, R326): the queue, its site, and the recorded t0 and UI-repeat factor. -/
structure TapEntry where
  queue : Nat
  site  : Nat
  t0    : Nat
  rep   : Nat
deriving DecidableEq, Repr

/-- A result record that waits for room in its stream queue (R340, R343): the queue that SLV_CFG named when it was due, its region, class and bytes. -/
structure SlvResult where
  queue  : Nat
  region : Nat
  cls    : Nat
  bytes  : List Byte
deriving DecidableEq, Repr

/-- A queue that a replay reads (R345): its entry in the tap list, the mark's POS and the WTOTAL read at the start. -/
structure ReplaySrc where
  tap   : TapEntry
  start : Nat
  fin   : Nat
deriving DecidableEq, Repr

/-- A replay (R345): its region, the lane map, mark number and queues as they were when it started, and whether an ARM has since re-initialised the region of one
of the queues (R347). -/
structure SlvReplay where
  region : Nat
  map    : Option LaneMap
  mark   : Nat
  srcs   : List ReplaySrc
  lost   : Bool
deriving DecidableEq, Repr

/-- One solver lane (R307, R323): its map, whether it is in COLLECT, its tap list, the regions queued for it oldest first, the region
being solved with the tick its solve began, a result waiting for its stream queue, and the replays in progress, oldest first. -/
structure SlvLane where
  map     : Option LaneMap
  collect : Bool
  taps    : List TapEntry
  queue   : List Nat
  solving : Option (Nat × Wide)
  waiting : Option SlvResult
  replays : List SlvReplay
deriving DecidableEq, Repr

/-- The states of a repair region (R327). -/
inductive SlvSt where
  | free | opened | closed | queued | solving | solved | replay
deriving DecidableEq, Repr

/-- One repair region (R318, R327): its descriptor and the one it was last solved with, its stored cells as 65,536 × R + C in rising
order, its must lines, its counts and flags, whether loss of input and a full store were logged in this run, SEQ and CLASS of its last
result, and how it is being re-solved. -/
structure SlvRgn where
  st        : SlvSt
  desc      : RgnDesc
  prev      : Option RgnDesc
  cells     : List Nat
  mustRows  : List Nat
  mustCols  : List Nat
  failBits  : Nat
  dropped   : Nat
  inputLoss : Bool
  storeLoss : Bool
  early     : Bool
  lossLog   : Bool
  fullLog   : Bool
  spilled   : Bool
  seq       : Nat
  cls       : Nat
  kept      : Bool
  resolve   : Bool
  replayed  : Bool
deriving DecidableEq, Repr

/-- The outcome that a solver command writes when it completes (R328 to R330): STATUS, ACTED and the offending region. -/
structure SlvOutcome where
  status : Nat
  acted  : Nat
  detail : Option Nat
deriving DecidableEq, Repr

/-- The Damson engine: its lanes, its regions and the outcome of the command in progress. -/
structure SlvState where
  lanes : List (Nat × SlvLane)
  rgns  : List (Nat × SlvRgn)
  cmd   : Option SlvOutcome
deriving DecidableEq, Repr

/-- A descriptor of zeros. -/
def RgnDesc.zero : RgnDesc :=
  { rowsM1 := 0, colsM1 := 0, sr := 0, sc := 0, nblk := 0, rgs := 0, cgs := 0, brs := 0, bcs := 0, wr := 0, wc := 0, wb := 0,
    auto := false, lossUnrep := false, keep := false, lane := 0, budget := 0, maskR := 0, maskC := 0, maskB := 0, user := 0,
    resultAddr := 0 }

/-- A lane after reset: IDLE. -/
def SlvLane.reset : SlvLane :=
  { map := none, collect := false, taps := [], queue := [], solving := none, waiting := none, replays := [] }

/-- A region after reset: FREE. -/
def SlvRgn.reset : SlvRgn :=
  { st := .free, desc := RgnDesc.zero, prev := none, cells := [], mustRows := [], mustCols := [], failBits := 0, dropped := 0,
    inputLoss := false, storeLoss := false, early := false, lossLog := false, fullLog := false, spilled := false, seq := 0, cls := 0,
    kept := false, resolve := false, replayed := false }

/-- The engine after reset. -/
def SlvState.reset : SlvState := { lanes := [], rgns := [], cmd := none }

end Sys2Proof.Machine
end

