-- ==== Sys2Proof/WellFormed.lean ====
section
/-! DEFINITION. Which commands are well formed: the lists of bytes and words that a command carries have a length that its packet, transfer or
request can have. Every other operand is bounded by its type. -/

namespace Sys2Proof

/-- A request of 4 to 256 bytes whose write data is as long as the request says (R355). -/
def wfRequest (write : Option (List Byte)) (len : Nat) : Bool :=
  decide (4 ≤ len) && (match write with | some d => decide (d.length = len) | none => true)

/-- A memory TLP inside the 64 GiB of BAR2: a write carries 1 to 512 bytes, a read asks for 1 to 4,096 (R392, R566). -/
def wfTlp (off : Nat) (write : Option (List Byte)) (len : Nat) : Bool :=
  decide (1 ≤ len) && decide (off + len ≤ 2 ^ 36) &&
    (match write with | some d => decide (d.length = len) && decide (len ≤ 512) | none => true)

/-- A cascade packet: whole data blocks of 20 bytes, 1 to 255 of them (R466). -/
def wfPacket (bytes : List Byte) : Bool :=
  decide (bytes.length % 20 = 0) && decide (20 ≤ bytes.length) && decide (bytes.length ≤ 5100)

/-- A stream packet of 1 to 1,024 items (R298). -/
def wfItems (items : List Word) : Bool := decide (1 ≤ items.length) && decide (items.length ≤ 1024)

/-- What the configuration port delivers of a chunk: at most 65,536 bytes, a multiple of 16, and their tag of 16 bytes (R397, R398); nothing where the chunk comes
from another source. -/
def wfChunk (cipher tag : List Byte) : Bool :=
  decide (cipher.length ≤ 65536) && decide (cipher.length % 16 = 0) && (tag.isEmpty || decide (tag.length = 16))

/-- What the configuration port delivers of a signature: at most its 96 bytes (R397). -/
def wfSignature (bytes : List Byte) : Bool := decide (bytes.length ≤ 96)

/-- Whether a command's operands are well formed. [DESIGN CHOICE 7] -/
def Instr.wf : Instr → Bool
  | .nocRequest _ _ body _ len => wfRequest body.write len.val
  | .bar2Access off write len _ => wfTlp off.toNat write len.val
  | .pkt _ _ bytes => wfPacket bytes
  | .streamPacketWrite _ part => wfItems part.items
  | .chunkAuthenticate cipher tag _ => wfChunk cipher tag
  | .signatureCheck bytes _ => wfSignature bytes
  | _ => true

end Sys2Proof
end

