-- ==== Sys2Proof/Machine/State.lean ====
section
/-! DEFINITION. The state of the UMT-8840, the state right after reset, and the reasons a command can stop. -/

namespace Sys2Proof.Machine

/-- MSI-X (R581): the Function Mask, the vector table's dwords, the pending bits of masked vectors and, the model's own record, how often each vector was
signalled; and what the host's configuration space set up: MSI-X enabled, Bus Master Enable. -/
structure Msix where
  table   : List (Nat × Word)
  pba     : List (Nat × Bool)
  sent    : List (Nat × Nat)
  enabled : Bool
  busMaster : Bool
  fmask   : Bool
deriving DecidableEq, Repr

/-- The whole state of the block. `free` is the model's own counter behind free values; `fckSet` is the FBDIV and POSTDIV in effect and
`fckNew` those of an FCK change in progress; `pslLost` are the sites with a slice that lost its partner in the present tick (R252); `rdata` is the data that the last register
read returned, the model's own record. -/
structure State where
  pending : List Instr
  free    : Nat
  f128    : Bool
  dev     : DevPhase
  devFault : Bool
  tick    : Wide
  fckOn   : Bool
  fckStop : Bool
  fckSet  : Nat × Nat
  fckNew  : Option (Nat × Nat)
  regs    : List (Nat × Wide)
  latch   : List (Nat × Option Word)
  mem     : List (Nat × Byte)
  hmem    : List (Nat × Byte)
  msix    : Msix
  err     : ErrState
  fab     : FabState
  psq     : List (Nat × Psq)
  slices  : List (Nat × Slice)
  pslLost : List Nat
  sources : List (Nat × Source)
  queues  : List (Nat × CapQueue)
  streams : List (Nat × StreamQueue)
  xPkts   : List (Nat × List CapPkt)
  slv     : SlvState
  csc     : CscState
  bist    : BistState
  sec     : SecState
  dump    : DumpState
  noc     : NocState
  cfg     : CfgState
  hif     : HifState
  jtag    : JtagState
  aux     : AuxState
  pwr     : PwrState
  rdata   : Wide
deriving DecidableEq, Repr

/-- The reasons a command faults: none. The block has no command at which the spec lets it stop. -/
inductive Fault where
deriving DecidableEq, Repr

/-- The reasons a command is refused by the model. -/
inductive Refusal where
  /-- The command has no meaning yet; raised by the dispatch only. Safe: nothing is claimed of it. -/
  | notModelled (mnemonic : String)
  /-- The command's operands are not well formed (`Instr.wf`): no packet or transfer of that length exists. Raised by the meanings of the
  commands that carry a list of bytes or words. Safe: nothing can give the hardware such a command. -/
  | illFormed
deriving DecidableEq, Repr

/-- A fabric word that is 0 with V = 0 and S = 0 (R67). -/
def FWord.zero : FWord := ⟨false, false, 0⟩

/-- A port pipeline with nothing in flight. -/
def PortPipe.zero : PortPipe := ⟨0, 0, false, FWord.zero⟩

/-- The registers of a cell as a region load leaves them (R84). -/
def CellRegs.zero : CellRegs :=
  { q := FWord.zero, q1 := FWord.zero, l0 := FWord.zero, l1 := FWord.zero, l2 := FWord.zero, l3 := FWord.zero, acc := FWord.zero,
    cy := false, w := 0, wv := false, ws := false, pipe0 := PortPipe.zero, pipe1 := PortPipe.zero, xde := FWord.zero,
    xxe := FWord.zero, xdo := FWord.zero, xxo := FWord.zero, sync := FWord.zero, syncPend := false, syncAt := 0 }

/-- Context pointers after reset: context 0, no pending select. -/
def CtxRegs.zero : CtxRegs := ⟨0, 0, false⟩

/-- An M-cell word after a load that does not initialise it (R84): 0 with S = 0 and correct parity. -/
def MWord.zero : MWord := ⟨0, false, false⟩

/-- An empty stream buffer. -/
def XsBuf.zero : XsBuf := ⟨[], [], 0, 0, 0, none⟩

/-- The Starfix engine with nothing armed or captured. -/
def Starfix.idle : Starfix := ⟨none, 0, false, [], []⟩

/-- The fabric after reset: no region, every store empty. -/
def FabState.reset : FabState :=
  { cells := [], nxt := [], ctx := [], store := [], loadedFl := [], route := [], routeBad := [], marr := [], frozen := [], xs := [],
    rgnPend := none, sfx := Starfix.idle, selNow := [], selSince := [], selHeld := [], shadow := [], shadowFl := [], rclkLvl := [],
    slipped := [] }

/-- The header of a base frame (R197). -/
def FrameHdr.base : FrameHdr := ⟨0, 0, 0, 0, 0, 0⟩

/-- A sequencer after reset: no site active, EXEC = STOP, every register 0, no page valid. Bank 0 is CURRENT and banks 1 to 14 are FREE, as ARM leaves
them. [DESIGN CHOICE 121] -/
def Psq.reset : Psq :=
  { mode := .none, next := none, cmdNow := none, runAt := none, slipAt := none, exec := .stop, faulted := false, svcAt := none, svcEnd := false, nRun := 0, s0 := 0, rep := 1, issuedAt := none,
    pc := 0, cur := 0, depth := 0, banks := [], frames := [(0, some FrameHdr.base)], wstore := [], inMem := 0, spillBad := [], ie := false, priv := false,
    trap := false, sealFlag := false, epc := 0, ecause := 0, eval := 0, tstatus := 0, lmstate := 0, lmbase := 0, tlmstate := 0,
    tlmbase := 0, winsel := 0, tickHi := none, sfail := false, acc := 0, vote := false, vc := [], vwr := FWord.zero, vout := none, repLeft := 0,
    movedAt := none, masks := [], scratch := [], imem := [], fills := [], irq := [], irqCheck := none, access := none, held := [] }

/-- A slice result that did not compare. -/
def SliceResult.none : SliceResult := ⟨false, 0, false, true, 0, 0⟩

/-- The settings of a slice after reset: the reset values of their registers. -/
def SliceSet.reset : SliceSet := ⟨0x200, 0, 0x40, 0, 0x40, 0, 0, 3, 0x42A⟩

/-- A slice after reset: safe, nothing loaded. -/
def Slice.reset : Slice :=
  { act := .safe, safeDue := none, cal := false, calAt := 0, calRx := 0, loaded := false, fresh := true, frames := [], drvLvl := false,
    denLvl := false, edgeLog := false, set := SliceSet.reset, bindRec := none, lostAt := none, now := SliceResult.none, last := SliceResult.none }

/-- A capture source after reset. -/
def Source.reset : Source :=
  { armed := false, cr := 0, acc := 0, refill := false, refusedNow := false, saturated := false, cause := 0, marker := false, firsts := 0, placed := 0, placedUi := 0, refused := 0,
    firstTick := 0, lastTick := 0 }

/-- A capture queue after reset: OFF and empty. -/
def CapQueue.reset : CapQueue :=
  { st := .off, back := .off, leftAt := none, pkts := [], inFlight := [], wptr := 0, rptr := 0, tptr := 0, wptr2 := 0, rptr2 := 0, tptr2 := 0,
    counted := false, ended := false, closed := false, runs := [], writes := [], wrote := 0, resets := 0, episodes := 0, fullLog := false, discarded := 0, resetAt := 0 }

/-- A stream queue after reset: empty, level state LOW. -/
def StreamQueue.initial : StreamQueue :=
  { items := [], wptr := 0, rptr := 0, wptr2 := 0, rptr2 := 0, high := false, reset := false, readIn := 0, filling := 0, dropping := false }

/-- The error log after reset: nothing in the intake, no kind, an empty ring. -/
def ErrState.reset : ErrState :=
  { intake := [], held := [], kinds := [], ring := [], wptr := 0, rptr := 0, lost := 0 }

/-- The MSI-X state after reset: every vector masked (its table entry's dword 3 reads 1), nothing pending. -/
def Msix.reset : Msix := { table := [], pba := [], sent := [], enabled := false, busMaster := false, fmask := false }

/-- The block right after power-on reset: a start attempt has begun (R433, R550), every register at its reset value. [DESIGN CHOICE 1, 4] -/
def State.reset : State :=
  { pending := [], free := 0, f128 := false, dev := .boot, devFault := false, tick := 0, fckOn := false, fckStop := false,
    fckSet := (50, 32), fckNew := none,
    regs := [], latch := [], mem := [], hmem := [], msix := Msix.reset, err := ErrState.reset, fab := FabState.reset, psq := [],
    slices := [], pslLost := [], sources := [], queues := [], streams := [], xPkts := [], slv := SlvState.reset, csc := CscState.reset, bist := BistState.reset, sec := SecState.reset,
    dump := DumpState.reset, noc := NocState.reset, cfg := CfgState.reset, hif := HifState.reset, jtag := JtagState.reset,
    aux := AuxState.reset, pwr := PwrState.reset, rdata := 0 }

end Sys2Proof.Machine
end

