-- ==== Sys2Proof/Machine/Regs.lean ====
section
/-! DEFINITION. Reading and writing the state's parts by name: registers and their fields, sequencers, slices, cells, sources and
queues. Every meaning goes through these. -/

namespace Sys2Proof.Machine

/-- The stored value of the register at BAR0 offset `off`. -/
def State.reg (s : State) (off : Nat) : Wide := mget resetVal off s.regs

/-- `s` with `v` stored in the register at BAR0 offset `off`. -/
def State.setReg (s : State) (off : Nat) (v : Wide) : State := { s with regs := mset resetVal off v s.regs }

/-- Field `f` of its register, as a number. -/
def State.fld (s : State) (f : Fld) : Nat := getBits (s.reg f.off) f.lo f.w

/-- Whether the one-bit field `f` is 1. -/
def State.bit (s : State) (f : Fld) : Bool := s.fld f == 1

/-- `s` with field `f` set to `x`; the register's other fields keep their values. -/
def State.setFld (s : State) (f : Fld) (x : Nat) : State := s.setReg f.off (putBits (s.reg f.off) f.lo f.w x)

/-- Fields of `f` set in order. -/
def State.setFlds (s : State) (xs : List (Fld × Nat)) : State := xs.foldl (fun t x => t.setFld x.1 x.2) s

/-- `s` with the counter field `f` increased by `n`, held at its largest value. -/
def State.addSat (s : State) (f : Fld) (n : Nat) : State := s.setFld f (satAt (2 ^ f.w - 1) (s.fld f + n))

/-- `f` applied when `b` holds. -/
def State.iff (s : State) (b : Bool) (f : State → State) : State := if b then f s else s

/-- `s` with one more free value taken. [DESIGN CHOICE 2] -/
def State.tookFree (s : State) : State := { s with free := s.free + 1 }

/-- Sequencer `n` and its site. -/
def State.getPsq (s : State) (n : Nat) : Psq := mget (fun _ => Psq.reset) n s.psq

/-- `s` with sequencer `n` replaced. -/
def State.setPsq (s : State) (n : Nat) (p : Psq) : State := { s with psq := mset (fun _ => Psq.reset) n p s.psq }

/-- The value in effect of the register of sequencer `n` at BAR0 offset `off`: one written since the last ARM or SERVICE does not act before the next (R216). -/
def State.effReg (s : State) (n off : Nat) : Wide :=
  match (s.getPsq n).held.find? (fun e => e.1 == off) with
  | some e => e.2
  | none => s.reg off

/-- The field `f` of a register of sequencer `n` as it is in effect (R216). -/
def State.effFld (s : State) (n : Nat) (f : Fld) : Nat := getBits (s.effReg n f.off) f.lo f.w

/-- The one-bit field `f` of a register of sequencer `n` as it is in effect (R216). -/
def State.effBit (s : State) (n : Nat) (f : Fld) : Bool := s.effFld n f == 1

/-- The register of sequencer `n` at offset `off` is about to be written: what it holds stays in effect until the next ARM or SERVICE (R216). -/
def State.holdReg (s : State) (n off : Nat) : State :=
  let p := s.getPsq n
  if p.held.any (fun e => e.1 == off) then s else s.setPsq n { p with held := (off, s.reg off) :: p.held }

/-- Slice `k`. -/
def State.slice (s : State) (k : Nat) : Slice := mget (fun _ => Slice.reset) k s.slices

/-- `s` with slice `k` replaced. -/
def State.setSlice (s : State) (k : Nat) (x : Slice) : State := { s with slices := mset (fun _ => Slice.reset) k x s.slices }

/-- Capture source `x`. -/
def State.source (s : State) (x : Nat) : Source := mget (fun _ => Source.reset) x s.sources

/-- `s` with capture source `x` replaced. -/
def State.setSource (s : State) (x : Nat) (v : Source) : State :=
  { s with sources := mset (fun _ => Source.reset) x v s.sources }

/-- Capture queue `k`. -/
def State.queue (s : State) (k : Nat) : CapQueue := mget (fun _ => CapQueue.reset) k s.queues

/-- `s` with capture queue `k` replaced. -/
def State.setQueue (s : State) (k : Nat) (q : CapQueue) : State := { s with queues := mset (fun _ => CapQueue.reset) k q s.queues }

/-- Stream queue `j`. -/
def State.stream (s : State) (j : Nat) : StreamQueue := mget (fun _ => StreamQueue.initial) j s.streams

/-- `s` with stream queue `j` replaced. -/
def State.setStream (s : State) (j : Nat) (q : StreamQueue) : State :=
  { s with streams := mset (fun _ => StreamQueue.initial) j q s.streams }

/-- The fail packets of X-cell `x` on their way to its capture queue, oldest first. -/
def State.xPkt (s : State) (x : Nat) : List CapPkt := mget (fun _ => []) x s.xPkts

/-- `s` with the fail packets of X-cell `x` replaced. -/
def State.setXPkt (s : State) (x : Nat) (l : List CapPkt) : State := { s with xPkts := mset (fun _ => []) x l s.xPkts }

/-- The registers of the fabric cell in slot `k` (slots as R153 numbers them). -/
def State.cell (s : State) (k : Nat) : CellRegs := mget (fun _ => CellRegs.zero) k s.fab.cells

/-- `s` with the registers of slot `k` replaced at once. -/
def State.setCell (s : State) (k : Nat) (c : CellRegs) : State :=
  { s with fab := { s.fab with cells := mset (fun _ => CellRegs.zero) k c s.fab.cells } }

/-- What the coming tick edge registers in slot `k`, when the cell has issued in this tick. -/
def State.cellNxt (s : State) (k : Nat) : Option CellRegs := mget (fun _ => none) k s.fab.nxt

/-- `s` with `c` to be registered in slot `k` at the coming tick edge. -/
def State.setNxt (s : State) (k : Nat) (c : CellRegs) : State :=
  { s with fab := { s.fab with nxt := mset (fun _ => none) k (some c) s.fab.nxt } }

/-- The context pointers of slot `k`. -/
def State.ctxOf (s : State) (k : Nat) : CtxRegs := mget (fun _ => CtxRegs.zero) k s.fab.ctx

/-- `s` with the context pointers of slot `k` replaced. -/
def State.setCtx (s : State) (k : Nat) (c : CtxRegs) : State :=
  { s with fab := { s.fab with ctx := mset (fun _ => CtxRegs.zero) k c s.fab.ctx } }

/-- The select of site `n` that waits behind one due in the present tick (R37). -/
def State.selWaiting (s : State) (n : Nat) : Option Nat := mget (fun _ => (none : Option Nat)) n s.fab.selHeld

/-- `s` with the select of site `n` that waits behind one due in the coming tick replaced. -/
def State.setSelWaiting (s : State) (n : Nat) (c : Option Nat) : State :=
  { s with fab := { s.fab with selHeld := mset (fun _ => none) n c s.fab.selHeld } }

/-- Word `w` (0 to 12) of the context store of slot `k` (R76). -/
def State.storeWord (s : State) (k w : Nat) : Wide := mget (fun _ => 0) (16 * k + w) s.fab.store

/-- Whether slot `k` holds an A-cell or B-cell, of which its cluster's U-cell keeps a shadow (R60, R103). -/
def hasShadow (k : Nat) : Bool := decide (k < 2560) && !(k % 2 == 0 && k / 64 % 5 == 2)

/-- Word `w` of the U-cell's shadow of the context store of slot `k` (R103). -/
def State.shadowWord (s : State) (k w : Nat) : Wide := mget (fun _ => 0) (16 * k + w) s.fab.shadow

/-- `s` with word `w` of the context store of slot `k` replaced, and of its shadow with it (R103). -/
def State.setStoreWord (s : State) (k w : Nat) (v : Wide) : State :=
  { s with fab := { s.fab with store := mset (fun _ => 0) (16 * k + w) v s.fab.store,
                               shadow := if hasShadow k then mset (fun _ => 0) (16 * k + w) v s.fab.shadow else s.fab.shadow } }

/-- The LOADED flag of context `c` of slot `k` (R76). -/
def State.loadedFlag (s : State) (k c : Nat) : Bool := mget (fun _ => false) (8 * k + c) s.fab.loadedFl

/-- The LOADED flag of context `c` in the U-cell's shadow of slot `k` (R103). -/
def State.shadowFlag (s : State) (k c : Nat) : Bool := mget (fun _ => false) (8 * k + c) s.fab.shadowFl

/-- `s` with the LOADED flag of context `c` of slot `k` replaced, and of its shadow with it (R103). -/
def State.setLoadedFlag (s : State) (k c : Nat) (b : Bool) : State :=
  { s with fab := { s.fab with loadedFl := mset (fun _ => false) (8 * k + c) b s.fab.loadedFl,
                               shadowFl := if hasShadow k then mset (fun _ => false) (8 * k + c) b s.fab.shadowFl else s.fab.shadowFl } }

/-- Third `t` of the routing word of context `c` at position `p` (R129). -/
def State.routeThird (s : State) (p c t : Nat) : Wide := mget (fun _ => 0) (24 * p + 3 * c + t) s.fab.route

/-- `s` with third `t` of the routing word of context `c` at position `p` replaced, its parity made good. -/
def State.setRouteThird (s : State) (p c t : Nat) (v : Wide) : State :=
  { s with fab := { s.fab with route := mset (fun _ => 0) (24 * p + 3 * c + t) v s.fab.route,
                               routeBad := mset (fun _ => false) (24 * p + 3 * c + t) false s.fab.routeBad } }

/-- Whether third `t` of the routing word of context `c` at position `p` fails its parity check (R133). -/
def State.routeFault (s : State) (p c t : Nat) : Bool := mget (fun _ => false) (24 * p + 3 * c + t) s.fab.routeBad

/-- Physical word `a` of the M-cell of cluster `m`: 0 to 4,095 the main words, then the spare rows (R92, R156). -/
def State.mword (s : State) (m a : Nat) : MWord := mget (fun _ => MWord.zero) (4352 * m + a) s.fab.marr

/-- `s` with physical word `a` of the M-cell of cluster `m` replaced. -/
def State.setMword (s : State) (m a : Nat) (v : MWord) : State :=
  { s with fab := { s.fab with marr := mset (fun _ => MWord.zero) (4352 * m + a) v s.fab.marr } }

/-- The stream buffer of X-cell `x`. -/
def State.xsBuf (s : State) (x : Nat) : XsBuf := mget (fun _ => XsBuf.zero) x s.fab.xs

/-- `s` with the stream buffer of X-cell `x` replaced. -/
def State.setXsBuf (s : State) (x : Nat) (b : XsBuf) : State :=
  { s with fab := { s.fab with xs := mset (fun _ => XsBuf.zero) x b s.fab.xs } }

/-- Solver lane `l`. -/
def State.lane (s : State) (l : Nat) : SlvLane := mget (fun _ => SlvLane.reset) l s.slv.lanes

/-- `s` with solver lane `l` replaced. -/
def State.setLane (s : State) (l : Nat) (v : SlvLane) : State :=
  { s with slv := { s.slv with lanes := mset (fun _ => SlvLane.reset) l v s.slv.lanes } }

/-- Repair region `g`. -/
def State.srgn (s : State) (g : Nat) : SlvRgn := mget (fun _ => SlvRgn.reset) g s.slv.rgns

/-- `s` with repair region `g` replaced. -/
def State.setSrgn (s : State) (g : Nat) (v : SlvRgn) : State :=
  { s with slv := { s.slv with rgns := mset (fun _ => SlvRgn.reset) g v s.slv.rgns } }

/-- Cascade port `p`. -/
def State.cport (s : State) (p : Nat) : CscPort := mget (fun _ => CscPort.reset) p s.csc.ports

/-- `s` with cascade port `p` replaced. -/
def State.setCport (s : State) (p : Nat) (v : CscPort) : State :=
  { s with csc := { s.csc with ports := mset (fun _ => CscPort.reset) p v s.csc.ports } }

/-- Whether site `n` is ARMED, RUNNING or PAUSED. -/
def State.siteActive (s : State) (n : Nat) : Bool :=
  match (s.getPsq n).mode with
  | .armed | .running | .paused => true
  | .none | .safeHold => false

end Sys2Proof.Machine
end

