-- ==== Sys2Proof/Machine/Memory.lean ====
section
/-! DEFINITION. Device physical addresses, access rights and the attached memory (R354, R374, R381, R386 to R390, R569). -/

namespace Sys2Proof.Machine

/-- The rows of the physical address map (R386): the interleaved area, a channel window, a position's pooled window, host memory. -/
inductive DpaRange where
  | interleaved
  | window (c : Nat)
  | pooled (pos : Nat)
  | hostMem
deriving DecidableEq, Repr

/-- The range that one address lies in (R386, R490: pooled memory has one 256 GiB window for each of the positions 0 to 31). -/
def dpaRangeAt (a : Nat) : Option DpaRange :=
  if a < 0x3F80000000 then some .interleaved
  else if a < 0x4000000000 then some (.window ((a - 0x3F80000000) / 0x10000000))
  else if a < 0x80000000000 then none
  else if a < 0x100000000000 then some (.pooled ((a - 0x80000000000) / 0x4000000000))
  else if a < 0x200000000000 then some .hostMem
  else none

/-- The range that a request of `len` bytes at `a` lies in, none when its bytes do not lie within one (R386). -/
def dpaRange (a len : Nat) : Option DpaRange :=
  match dpaRangeAt a with
  | some r => if dpaRangeAt (a + len - 1) = some r then some r else none
  | none => none

/-- The channel and channel-local address of an attached-memory DPA (R387). [DEDUCED 54] -/
def dpaChannel (s : State) (a : Nat) : Nat × Nat :=
  if a < 0x3F80000000 then
    let g := if s.bit F.MEMC_MAP.GRAN then 12 else 8
    (((a / 2 ^ g) % 8) ^^^ ((a / 2 ^ (g + 3)) % 8), (a / 2 ^ (g + 3)) * 2 ^ g + a % 2 ^ g)
  else ((a - 0x3F80000000) / 0x10000000 % 8, 0x7F0000000 + (a - 0x3F80000000) % 0x10000000)

/-- The key under which the memory list holds the byte at channel-local address `l` of channel `c`. -/
def memKey (c l : Nat) : Nat := c * 2 ^ 35 + l

/-- What a byte of attached memory that nothing has written reads as: the model's choice. [DESIGN CHOICE 1] -/
def memDefault (_ : Nat) : Byte := 0

/-- The byte of attached memory at DPA `a`. -/
def State.memByte (s : State) (a : Nat) : Byte := mget memDefault (memKey (dpaChannel s a).1 (dpaChannel s a).2) s.mem

/-- `s` with byte `b` at attached-memory DPA `a`. -/
def State.setMemByte (s : State) (a : Nat) (b : Byte) : State :=
  { s with mem := mset memDefault (memKey (dpaChannel s a).1 (dpaChannel s a).2) b s.mem }

/-- Whether pooled position `pos` is this device's own in a FORMED constellation, which NI 174 turns round locally (R491, R492). -/
def State.ownPool (s : State) (pos : Nat) : Bool := s.fld F.CSC_STAT.CSTATE == 3 && s.fld F.CSC_STAT.POSITION == pos

/-- The target's own DPA that a pooled DPA addresses (R490). -/
def pooledDpa (a : Nat) : Nat := (a - 0x80000000000) % 2 ^ 38

/-- The bus address in host memory of DPA `a` (R569). -/
def State.busAddr (s : State) (a : Nat) : Nat := s.fld F.HIF_HMEM_HI.UPPER * 2 ^ 44 + (a - 0x100000000000)

/-- The byte at DPA `a`, where host memory and another device's pooled memory return free values. -/
def State.dpaByte (s : State) (a : Nat) : Byte :=
  match dpaRangeAt a with
  | some (.interleaved) | some (.window _) => s.memByte a
  | some (.pooled p) => if s.ownPool p then s.memByte (pooledDpa a) else Config.remoteByte s.free a
  | some .hostMem => Config.hostByte s.free (s.busAddr a)
  | none => 0

/-- The `n` bytes at DPA `a`. -/
def State.dpaBytes (s : State) (a : Nat) : Nat → List Byte
  | 0 => []
  | n + 1 => s.dpaByte a :: s.dpaBytes (a + 1) n

/-- The little-endian number in the `n` bytes at DPA `a` (R17). -/
def State.dpaNat (s : State) (a n : Nat) : Nat := ofLeBytes (s.dpaBytes a n)

/-- The `n` bytes at DPA `a` read by a unit, with the state in which a free value has been taken for them. -/
def State.readDpa (s : State) (a n : Nat) : List Byte × State := (s.dpaBytes a n, s.tookFree)

/-- `n` bytes for which the spec states no value, kept apart by `what`. -/
def State.openBytes (s : State) (what n : Nat) : List Byte :=
  (List.range n).map (fun i => BitVec.ofNat 8 (Config.unstated s.free (what + i)))

/-- `s` with one byte written at DPA `a`: attached memory keeps it, host memory records it, pooled memory is another device's. -/
def State.setDpaByte (s : State) (a : Nat) (b : Byte) : State :=
  match dpaRangeAt a with
  | some (.interleaved) | some (.window _) => s.setMemByte a b
  | some .hostMem => { s with hmem := mset memDefault (s.busAddr a) b s.hmem }
  | some (.pooled p) => if s.ownPool p then s.setMemByte (pooledDpa a) b else s
  | none => s

/-- `s` with bytes written from DPA `a` on. -/
def State.setDpaBytes (s : State) (a : Nat) : List Byte → State
  | [] => s
  | b :: bs => (s.setDpaByte a b).setDpaBytes (a + 1) bs

/-- The power domain of network interface `ni` (R354). [PRESUMED 58] -/
def niDomain (ni : Nat) : Nat :=
  if ni < 64 then 4
  else if ni < 128 then 11
  else if ni < 144 then 21
  else if ni < 153 then 3
  else if ni < 157 then 20
  else if ni < 160 then 3
  else if ni < 164 then 16
  else if ni < 168 then 17
  else if ni = 168 then 18
  else if ni < 171 then 2
  else if ni = 171 then 1
  else if ni = 172 then 22
  else if ni = 173 then 23
  else if ni < 176 then 19
  else 3

/-- Whether power domain `d` is fenced or its fence is pending (R374: every NI answers for it). -/
def State.fenced (s : State) (d : Nat) : Bool :=
  bitOf (s.fld F.NOC_FENCE_STAT.FENCED) d || bitOf (s.fld F.NOC_FENCE_STAT.PENDING) d

/-- Whether NI `ni` may make the access (R390). [PRESUMED 58] -/
def dpaAllowed (ni : Nat) (r : DpaRange) (write : Bool) : Bool :=
  match r with
  | .interleaved | .pooled _ => true
  | .window 0 => !write || ni == 169 || ni == 170
  | .window 1 => ni == 169 || ni == 170
  | .window _ => true
  | .hostMem => ni == 169 || ni == 170 || ni == 152

/-- The downstream ports: a member's one, or every branch port of the pole. -/
def State.downPorts (s : State) : List Nat := (List.range 8).filter (fun p => s.fld (F.CSC_PORT_STAT.USE p) == 2)

/-- The port towards position `d` (R468): on the pole the branch that holds it, on a member down when it lies below and up when it does
not. -/
def State.portTo (s : State) (d : Nat) : Option Nat :=
  if s.bit F.CSC_STAT.POLE then (s.csc.members.find? (fun m => m.pos == some d)).map (·.port)
  else if s.csc.below.contains d then s.downPorts.head?
  else s.csc.up

/-- The NI that a request of one range goes to: a channel's for attached memory, PCIe's for host memory, and for pooled memory the cascade NI of the
port towards the position, or NI 174 for the device's own (R386, R491). -/
def targetNi (s : State) (a : Nat) (r : DpaRange) : Nat :=
  match r with
  | .interleaved | .window _ => 160 + (dpaChannel s a).1
  | .pooled p => if s.ownPool p then 174 else match s.portTo p with
    | some q => if q < 4 then 174 else 175
    | none => 174
  | .hostMem => 168

/-- The attached-memory DPA that a request of `len` bytes at `a` reaches at this device's memory controllers, none for another target (R386, R491). -/
def State.attachedDpa (s : State) (a len : Nat) : Option Nat :=
  match dpaRange a len with
  | some .interleaved | some (.window _) => some a
  | some (.pooled p) => if s.ownPool p then some (pooledDpa a) else none
  | _ => none

/-- Whether a write of `n` bytes at `a` leaves part of a 64-byte line as it was, so that the line is read first (R384). -/
def partialLine (a n : Nat) : Bool := a % 64 != 0 || n % 64 != 0

/-- Whether host memory can be reached: the link is up and Bus Master Enable is set (R569). -/
def State.hostReachable (s : State) : Bool := s.bit F.HIF_LINK.UP && s.msix.busMaster

/-- Whether every channel that the `n` bytes at attached DPA `a` touch is READY (R381), judged at each 256-byte granule. -/
def chansReady (s : State) (a n : Nat) : Bool :=
  (List.range (n / 256 + 2)).all (fun i =>
    let x := if a + 256 * i < a + n then a + 256 * i else a + n - 1
    s.fld (F.MEMC_STAT.STATE (dpaChannel s x).1) == 2)

/-- The status of a request to pooled position `pos` (R491, R492): absent while this device is not FORMED, and where the pole does not know a
FORMED member there; a request to the own position is judged as one of NI 174. [DEDUCED 52] -/
def poolCheck (s : State) (pos a len : Nat) (write : Bool) : Nat :=
  if s.fld F.CSC_STAT.CSTATE ≠ 3 then C.CSC_POOL_ABSENT
  else if s.ownPool pos then
    match dpaRange (pooledDpa a) len with
    | none => C.NOC_ADDR_UNMAPPED
    | some r =>
      if !dpaAllowed 174 r write then C.NOC_ADDR_PROTECTED
      else if s.fenced (niDomain (160 + (dpaChannel s (pooledDpa a)).1)) then C.DOMAIN_OFF
      else if chansReady s (pooledDpa a) len then 0 else C.MEM_CH_NOT_READY
  else if s.bit F.CSC_STAT.POLE && !bitOf (s.fld F.CSC_MEMBERS.PRESENT) pos then C.CSC_POOL_ABSENT
  else 0

/-- The status with which the network completes a request of NI `ni` for `len` bytes at DPA `a`, before the outcomes that only the
network or the memory itself can bring: 0, or a code of R374, R381, R386, R390 or R569. [DEDUCED 52] -/
def memCheck (s : State) (ni a len : Nat) (write : Bool) : Nat :=
  match dpaRange a len with
  | none => C.NOC_ADDR_UNMAPPED
  | some r =>
    if !dpaAllowed ni r write then C.NOC_ADDR_PROTECTED
    else if s.fenced (niDomain (targetNi s a r)) || s.fenced (niDomain ni) then C.DOMAIN_OFF
    else match r with
      | .interleaved | .window _ => if chansReady s a len then 0 else C.MEM_CH_NOT_READY
      | .hostMem => if s.hostReachable then 0 else C.HIF_DMA_ERR
      | .pooled p => poolCheck s p a len write

/-- The status of a request: the check's code, else the outcome that the network or memory brought, where a corrected read succeeds
(R384) and a host completion status other than success fails the access (R569). [DEDUCED 53] -/
def memStatus (s : State) (ni a len : Nat) (write : Bool) (outcome : Nat) : Nat :=
  let c := memCheck s ni a len write
  if c ≠ 0 then c
  else if outcome = C.MEM_CE then 0
  else if outcome < 8 ∧ outcome ≠ 0 ∧ dpaRange a len = some .hostMem then C.HIF_DMA_ERR
  else outcome

/-- The key in the snoop filter of the line at attached DPA `a` (R391). -/
def lineKey (a : Nat) : Nat := a / 64

/-- A write of NI `ni` to `n` bytes at DPA `a` that a unit makes as one command has waited for the SNP_INV of each line that it touches: no core other than the writer holds one of
them any more (R391). [DEDUCED 54] -/
def State.snoopInv (s : State) (ni a n : Nat) : State :=
  match s.attachedDpa a n with
  | some b => { s with noc := { s.noc with filter := s.noc.filter.filter (fun e => !(decide (lineKey b ≤ e.1) && decide (e.1 ≤ lineKey (b + n - 1)) && 169 + e.2 != ni)) } }
  | none => s

/-- Bytes that NI `ni` writes from DPA `a` on in one command, its snoops made (R391). [DEDUCED 54] -/
def State.unitWrite (s : State) (ni a : Nat) (bs : List Byte) : State := (s.snoopInv ni a bs.length).setDpaBytes a bs

end Sys2Proof.Machine
end

