-- ==== Sys2Proof/Machine/ErrLog.lean ====
section
/-! DEFINITION. Reports on their way to the error log, refusals under R7, host events and MSI-X vectors (R535 to R545, R549, R551,
R579 to R581). -/

namespace Sys2Proof.Machine

/-- The reporter, named by its code's high byte, of the block whose registers lie at BAR0 offset `off` (R535). [DEDUCED 85] -/
def blockReporter (off : Nat) : Nat :=
  if off < 0x10000 then 0x0F else if off < 0x20000 then 0x0A else if off < 0x40000 then 0x09 else if off < 0x80000 then 0x01
  else if off < 0x100000 then 0x02 else if off < 0x200000 then 0x04 else if off < 0x300000 then 0x03 else if off < 0x380000 then 0x05
  else if off < 0x400000 then 0x06 else if off < 0x480000 then 0x07 else if off < 0x500000 then 0x08 else if off < 0x580000 then 0x0B
  else if off < 0x600000 then 0x0C else if off < 0x680000 then 0x0F else if off < 0x700000 then 0x0D else if off < 0x780000 then 0x0E
  else 0x10

/-- The reporter that a report comes from (R535): one per block, by the code's high byte, where STATE_REFUSED comes from the block whose command
register its DETAIL names; and one for the firmware, which raises ERR_FW_FATAL, the dump codes and ERR_MIRROR_FAIL. [DEDUCED 85] -/
def reporterOf (code detail : Nat) : Nat :=
  if 0x0F03 ≤ code ∧ code ≤ 0x0F06 then 0xFF
  else if code = C.STATE_REFUSED then blockReporter (detail % 2 ^ 26)
  else code / 256

/-- The report held back by reporter `b` (R536). -/
def ErrState.heldOf (e : ErrState) (b : Nat) : Option ErrReport := mget (fun _ => none) b e.held

/-- One report lost (R536, R537): ERR_LOST saturates. -/
def ErrState.lose (e : ErrState) (n : Nat) : ErrState := { e with lost := satAt 0xFFFFFFFF (e.lost + n) }

/-- A report enters the intake, is held, merges into the held report of its block, or is lost (R536). -/
def ErrState.enter (e : ErrState) (r : ErrReport) : ErrState :=
  let b := reporterOf r.code.toNat r.detail.toNat
  match e.heldOf b with
  | some p =>
    if p.code = r.code ∧ p.source = r.source then
      { e with held := mset (fun _ => none) b (some { p with count := p.count + r.count, last := r.last }) e.held }
    else e.lose r.count
  | none =>
    if e.intake.length < 64 then { e with intake := e.intake ++ [r] }
    else { e with held := mset (fun _ => none) b (some r) e.held }

/-- What a report carries beside SOURCE and DETAIL: from a U-cell the local index of the cell that it stands in for or is taking over (R121), under a code of the configuration
block SRC and KIND of the load as CFG_STAT shows them (R432). -/
def State.reportMore (s : State) (code source : Nat) : Nat :=
  if source / 2 ^ 28 = 2 then s.fld (F.FAB_CL_STAT.U_TARGET (source % 256))
  else if code / 256 = 9 then s.fld F.CFG_STAT.SRC + 8 * s.fld F.CFG_STAT.KIND
  else 0

/-- A unit raises a report of `code`, which is not fatal, in the present tick (R535, R536). [DEDUCED 138] -/
def State.report (s : State) (code source detail : Nat) : State :=
  let r : ErrReport := ⟨BitVec.ofNat 16 code, BitVec.ofNat 32 source, BitVec.ofNat 64 detail, s.tick, s.tick, 1, s.reportMore code source⟩
  { s with err := s.err.enter r }

/-- SOURCE of a core cell or X-cell position: row plus 1 and column (R542). -/
def srcPosition (rowPlus1 col : Nat) : Nat := 0x10000000 + rowPlus1 * 256 + col

/-- SOURCE of the U-cell of cluster `n` (R542). -/
def srcUcell (n : Nat) : Nat := 0x20000000 + n

/-- SOURCE of sequencer `n`. -/
def srcSeq (n : Nat) : Nat := 0x30000000 + n

/-- SOURCE of pin slice `k`. -/
def srcSlice (k : Nat) : Nat := 0x40000000 + k

/-- SOURCE of capture queue `k`. -/
def srcQueue (k : Nat) : Nat := 0x50000000 + k

/-- SOURCE of capture source `x`. -/
def srcSource (x : Nat) : Nat := 0x50000100 + x

/-- SOURCE of stream queue `j`. -/
def srcStream (j : Nat) : Nat := 0x60000000 + j

/-- SOURCE of the solver: lane and region. -/
def srcSolver (lane g : Nat) : Nat := 0x70000000 + lane * 4096 + g

/-- SOURCE of network interface `ni`. -/
def srcNi (ni : Nat) : Nat := 0x80000000 + ni

/-- SOURCE of router `r`. -/
def srcRouter (r : Nat) : Nat := 0x80000100 + r

/-- SOURCE of memory channel `c`. -/
def srcChannel (c : Nat) : Nat := 0x90000000 + c

/-- SOURCE of the cascade: port and position. -/
def srcCascade (port pos : Nat) : Nat := 0xA0000000 + pos * 256 + port

/-- SOURCE of a self-test unit: BIST_LAST [15:0]. -/
def srcBist (u : Nat) : Nat := 0xB0000000 + u % 65536

/-- SOURCE of power domain `d`. -/
def srcDomain (d : Nat) : Nat := 0xC0000000 + d

/-- SOURCE of a management core. -/
def srcCore (m : Nat) : Nat := 0xD0000000 + m

/-- SOURCE of a requester (R542). [DEDUCED 86] -/
def srcRequester : Requester → Nat
  | .host => 0xE0000000
  | .firmware => 0xE0000001
  | .remote p => 0xE0000002 + p.val * 256
  | .ownerModule => 0xE0000003

/-- A command refused under R7 is logged as STATE_REFUSED with the requester and, in DETAIL, the command register's BAR0 offset and OP
(R543, R551). [DEDUCED 86] -/
def State.logRefused (s : State) (req : Requester) (off op : Nat) : State :=
  s.report C.STATE_REFUSED (srcRequester req) (off + op * 2 ^ 32)

/-- What a request of NI `ni` at DPA `a` that ends with code `c` logs of its own: an access outside its rights (R390), and a host-memory access that
fails, with the host's completion status where the host answered (R569, R595). [DEDUCED 52, 53] -/
def State.accLog (s : State) (ni a c : Nat) : State :=
  if c = C.NOC_ADDR_PROTECTED then s.report C.NOC_ADDR_PROTECTED (srcNi ni) (a + ni * 2 ^ 48)
  else if c = C.HIF_DMA_ERR then
    if s.hostReachable then s.report C.HIF_DMA_ERR (srcNi 168) (s.noc.hostSt + a * 2 ^ 16)
    else s.report C.HIF_DMA_ERR (srcNi 168) (a * 2 ^ 16)
  else s

/-- MEMC_ERR_ADDR for an error at channel-local address `l` (R384, R385). -/
def errAddr (l symbols comp : Nat) (scrub ue : Bool) : Wide :=
  BitVec.ofNat 64 (l % 2 ^ 35 + b2n ue * 2 ^ 43 + b2n scrub * 2 ^ 44 + comp * 2 ^ 45 + symbols * 2 ^ 48)

/-- Channel `c` has corrected a burst at local address `l`: counted and logged (R384). -/
def State.memCe (s : State) (c l ni symbols comp : Nat) (scrub : Bool) : State :=
  ((s.addSat (F.MEMC_ECC_CNT.CE c) 1).setReg (R.MEMC_ERR_ADDR c) (errAddr l symbols comp scrub false)).report C.MEM_CE (srcChannel c)
    (l + ni * 2 ^ 48)

/-- Channel `c` has found an uncorrectable burst at local address `l`: counted and logged (R384). -/
def State.memUe (s : State) (c l ni : Nat) (scrub : Bool) : State :=
  ((s.addSat (F.MEMC_ECC_CNT.UE c) 1).setReg (R.MEMC_ERR_ADDR c) (errAddr l 0 0 scrub true)).report C.MEM_UE (srcChannel c) (l + ni * 2 ^ 48)

/-- What an access that a unit makes as one command leaves beside its data: the completion status of the host, 0 for a poisoned payload (R569); and when its outcome is MEM_CE or
MEM_UE, what the memory channels count and log (R384): in which of the lines that it touches, how many symbols and in which component are free values. [DEDUCED 53] -/
def State.eccSeen (s0 : State) (ni a n : Nat) (write : Bool) (status : Nat) : State :=
  let s : State := if dpaRange a n = some .hostMem then { s0 with noc := { s0.noc with hostSt := if status < 8 then status else 0 } } else s0
  if (status ≠ C.MEM_CE ∧ status ≠ C.MEM_UE) ∨ memCheck s ni a n write ≠ 0 ∨ (write && !partialLine a n) then s
  else match s.attachedDpa a n with
    | none => s
    | some b =>
      let x := (b / 64 + Config.unstated s.free 384 % ((b + n - 1) / 64 - b / 64 + 1)) * 64
      let c := (dpaChannel s x).1
      let l := (dpaChannel s x).2
      if status = C.MEM_CE then
        (s.memCe c l ni (Config.unstated s.free 385 % 4 + 1) (Config.unstated s.free 386 % 5) false).tookFree
      else (s.memUe c l ni false).tookFree

/-- MSI-X vector `v` is signalled (R581): sent when enabled and masked neither by the Function Mask nor by its own, else held in the PBA. -/
def State.signal (s : State) (v : Nat) : State :=
  let masked := ((mget (fun k => if k % 4 = 3 then 1 else 0) (4 * v + 3) s.msix.table : Word).toNat % 2) == 1
  if s.msix.enabled && !s.msix.fmask && !masked then
    { s with msix := { s.msix with sent := mset (fun _ => 0) v (mget (fun _ => 0) v s.msix.sent + 1) s.msix.sent } }
  else { s with msix := { s.msix with pba := mset (fun _ => false) v true s.msix.pba } }

/-- Pending vectors that are no longer masked are sent (R581). [DEDUCED 97] -/
def State.flushVectors (s : State) : State :=
  (List.range 256).foldl (fun t v =>
    if mget (fun _ => false) v t.msix.pba then
      { t with msix := { t.msix with pba := mset (fun _ => false) v false t.msix.pba } }.signal v
    else t) s

/-- The completion that a read of the host gets, where `b` says that it is one of the host's (R565, R566). -/
def State.hostCpl (s : State) (b : Bool) (c : HostCpl) : State := if b then { s with hif := { s.hif with cpl := c } } else s

/-- The host commands of OP `op` that have acted and whose answer is not known yet are answered by `f`, where it gives one (R577, R578). -/
def State.answerCmds (s : State) (op : Nat) (f : HifCmd → Option (Nat × Nat)) : State :=
  { s with hif := { s.hif with cmds := s.hif.cmds.map (fun c =>
      if c.acted && c.answer.isNone && (c.entry.getD 0 0).toNat == op then { c with answer := f c } else c) } }

/-- The sites of a mask, lowest first. -/
def maskSites (m : Nat) : List (Fin 16) := (List.finRange 16).filter (fun n => bitOf m n.val)

/-- The sites that a SITE_CMD names (R576). -/
def HifCmd.sites (c : HifCmd) : List (Fin 16) := maskSites (ofLeBytes ((c.entry.drop 10).take 2))

/-- STATUS and RESULT of a SITE_CMD (R578): the refusal of the lowest site that refused, and the sites that accepted. -/
def State.siteAnswer (s : State) (c : HifCmd) : Nat × Nat :=
  let st (n : Fin 16) : Nat := s.fld (F.PSQ_STAT.CMD_STATUS n)
  (((c.sites.map st).find? (fun x => x != 0)).getD 0, ((c.sites.filter (fun n => st n == 0)).map (fun n => 2 ^ n.val)).sum)

/-- The SITE_CMDs given in the tick that ends are answered, but for one whose ARM a self-test slice holds (R520, R578). -/
def State.siteAnswers (s : State) : State :=
  s.answerCmds 5 (fun c => if c.sites.any (fun n => s.bist.held.any (fun i => match i with
    | .psqArm _ m => m == n
    | _ => false)) then none else some (s.siteAnswer c))

/-- The CFG_LOADs of the host whose load has ended are answered with what CFG_STAT and CFG_FAIL_INFO hold, before another load or command replaces it (R577). -/
def State.cfgAnswers (s : State) : State :=
  if s.cfg.load.isSome || s.cfg.chain.isSome then s
  else s.answerCmds 4 (fun _ => some (s.fld F.CFG_STAT.STATUS, (s.reg R.CFG_FAIL_INFO).toNat))

/-- The bytes of an event queue entry (R579). -/
def eventBytes (tick : Wide) (typ : Nat) (phase : Bool) (arg0 arg1 : Nat) : List Byte :=
  leBytes 8 tick.toNat ++ leBytes 1 typ ++ leBytes 1 (b2n phase) ++ leBytes 2 arg0 ++ leBytes 4 arg1

/-- Entries of a ring between free-running 16-bit pointers. -/
def ringUsed (tail head : Nat) : Nat := (tail + 65536 - head) % 65536

/-- A host event of type `typ` is posted (R579, R580): written when EVQ is enabled and has an entry that this event may take, else
counted as lost while enabled; its vector is signalled in every case. -/
def State.postEvent (s : State) (typ arg0 arg1 vec : Nat) : State :=
  if !s.bit F.HIF_EVQ_CTRL.EN then s.signal vec
  else
    let size := 2 ^ s.fld F.HIF_EVQ_CTRL.SIZE_EXP
    let tail := s.fld F.HIF_EVQ_PTR.TAIL
    let free := size - ringUsed tail (s.fld F.HIF_EVQ_PTR.HEAD)
    if free > (if typ = 4 then 0 else 2) then
      let a := s.fld F.HIF_EVQ_BASE.ADDR * 4096 + 16 * (tail % size)
      let s1 := if memCheck s 169 a 16 true = 0 then
          s.unitWrite 169 a (eventBytes s.tick typ (tail / size % 2 == 0) arg0 arg1) else s.accLog 169 a (memCheck s 169 a 16 true)
      (s1.setFld F.HIF_EVQ_PTR.TAIL ((tail + 1) % 65536)).signal vec
    else (s.addSat F.HIF_EVQ_CTRL.LOST 1).signal vec

/-- The device state code of GLB_STATE.STATE (R5, R6). -/
def State.glbState (s : State) : Nat :=
  let any (m : SiteMode) : Bool := (List.range 16).any (fun n => (s.getPsq n).mode == m)
  match s.dev with
  | .off => 0
  | .boot => 1
  | .twilight => 2
  | .ready => 3
  | .fault => 9
  | .loaded =>
    if any .running then 6 else if any .paused then 7 else if any .armed then 5 else if any .safeHold then 8 else 4

/-- The commands of the matrix of R551. -/
inductive CmdClass where
  | cfgFull | cfgPartial | cfgAbort | psqCmd | fckApply | starfixArm | readBack | freezeThaw | pslCal | pwrEn | fcq | slv | nightfall
  | fuse | cscForm | cscLeave | cscRemote | errCmd | hostReset
deriving DecidableEq, Repr

/-- The matrix of R551: whether the command is accepted in device state `st` (1 BOOT to 9 FAULT). -/
def accepted (c : CmdClass) (st : Nat) : Bool :=
  match c with
  | .cfgFull => st == 3 || st == 4
  | .cfgPartial | .psqCmd | .starfixArm | .freezeThaw | .pslCal | .slv | .cscForm => 3 ≤ st && st ≤ 8
  | .cfgAbort | .readBack | .pwrEn | .fcq | .cscRemote => 3 ≤ st && st ≤ 9
  | .fckApply => st == 3 || st == 4 || st == 8
  | .nightfall => st == 3 || st == 4
  | .fuse => st == 3
  | .cscLeave => st == 3 || st == 4 || st == 8 || st == 9
  | .errCmd | .hostReset => 1 ≤ st && st ≤ 9

/-- Whether the matrix of R551 lets `req` give the command now; Ferkiska firmware is not bound by it. -/
def State.allows (s : State) (req : Requester) (c : CmdClass) : Bool :=
  match req with
  | .firmware => true
  | _ => accepted c s.glbState

end Sys2Proof.Machine
end

