-- ==== Sys2Proof/Machine/Fabric.lean ====
section
/-! DEFINITION. The fabric's geometry, which cell works at which position, the words that cells and routing present, and the routing
checker (R8 to R11, R60, R73, R122 to R143). A position is numbered 64 × (row + 1) + column; cells are numbered by their slots (R153). -/

namespace Sys2Proof.Machine

/-- The cell types of R61. -/
inductive CellType where
  | a | b | m | u | x
deriving DecidableEq, Repr

/-- The cluster of core cell (col, row) (R8). -/
def clusterOf (col row : Nat) : Nat := 32 * (row / 5) + col / 2

/-- The local index of core cell (col, row) in its cluster (R60). -/
def localOf (col row : Nat) : Nat := 2 * (row % 5) + col % 2

/-- The type of the core cell at local index `i` (R60). -/
def coreType (i : Nat) : CellType :=
  if i = 3 ∨ i = 5 ∨ i = 7 then .b else if i = 4 then .m else .a

/-- The type of the cell in slot `k`. -/
def slotType (k : Nat) : CellType :=
  if k < 2560 then coreType (localOf (k % 64) (k / 64)) else if k < 2816 then .u else .x

/-- The slot of the cell that sits at position `p`. -/
def slotAt (p : Nat) : Nat :=
  if p < 64 then 2816 + p else if p < 2624 then p - 64 else 2880 + (p - 2624)

/-- The position of the core cell or X-cell in slot `k`. -/
def posOfSlot (k : Nat) : Nat := if k < 2560 then k + 64 else if k < 2880 then k - 2816 else 2624 + (k - 2880)

/-- The slot of the core cell at local index `i` of cluster `n` (R9). -/
def coreSlot (n i : Nat) : Nat := 64 * (5 * (n / 32) + i / 2) + 2 * (n % 32) + i % 2

/-- The slot of the M-cell of cluster `n`. -/
def mSlot (n : Nat) : Nat := coreSlot n 4

/-- The slot of X-cell `x`. -/
def xSlot (x : Nat) : Nat := 2816 + x

/-- SOURCE of the cell in slot `k` (R542). -/
def srcSlot (k : Nat) : Nat :=
  if 2560 ≤ k ∧ k < 2816 then srcUcell (k - 2560) else srcPosition (posOfSlot k / 64) (posOfSlot k % 64)

/-- The region of position `p`, 0 when in none (R136). -/
def State.posRegion (s : State) (p : Nat) : Nat :=
  if p < 64 then s.fld (F.FAB_RGN_XMAP.REGION p)
  else if p < 2624 then s.fld (F.FAB_RGN_MAP.REGION (clusterOf (p % 64) (p / 64 - 1)))
  else s.fld (F.FAB_RGN_XMAP.REGION (64 + (p - 2624)))

/-- The STATE of region `g` (R140); region 0 reads as EMPTY. -/
def State.rgnState (s : State) (g : Nat) : Nat := if g = 0 then 0 else s.fld (F.FAB_RGN_DESC.STATE g)

/-- The site that owns region `g`. -/
def State.rgnSite (s : State) (g : Nat) : Nat := s.fld (F.FAB_RGN_DESC.SITE g)

/-- The regions of site `n` that are not EMPTY (R161). -/
def State.siteRegions (s : State) (n : Nat) : List Nat :=
  (List.range 64).filter (fun g => g != 0 && s.rgnState g != 0 && s.rgnSite g == n)

/-- The clusters of region `g`. -/
def State.rgnClusters (s : State) (g : Nat) : List Nat := (List.range 256).filter (fun c => s.fld (F.FAB_RGN_MAP.REGION c) == g)

/-- The X-cells of region `g`. -/
def State.rgnXcells (s : State) (g : Nat) : List Nat := (List.range 128).filter (fun x => s.fld (F.FAB_RGN_XMAP.REGION x) == g)

/-- The slots of the cells of region `g`: core cells, U-cells and X-cells. -/
def State.rgnSlots (s : State) (g : Nat) : List Nat :=
  (s.rgnClusters g).flatMap (fun c => (List.range 10).map (coreSlot c) ++ [2560 + c]) ++ (s.rgnXcells g).map xSlot

/-- The positions of region `g`. -/
def State.rgnPositions (s : State) (g : Nat) : List Nat :=
  (s.rgnClusters g).flatMap (fun c => (List.range 10).map (fun i => coreSlot c i + 64)) ++
  (s.rgnXcells g).map (fun x => posOfSlot (xSlot x))

/-- The slot of the cell that drives position `p`: the U-cell while it stands in, else the position's own cell (R10, R104). -/
def State.driver (s : State) (p : Nat) : Nat :=
  let k := slotAt p
  if k < 2560 then
    let c := clusterOf (k % 64) (k / 64)
    if s.fld (F.FAB_CL_STAT.U_STATE c) = 2 ∧ s.fld (F.FAB_CL_STAT.U_TARGET c) = localOf (k % 64) (k / 64) then 2560 + c else k
  else k

/-- The position that the cell in slot `k` works at: none for an idle U-cell and for a cell a U-cell stands in for. -/
def State.workPos (s : State) (k : Nat) : Option Nat :=
  if 2560 ≤ k ∧ k < 2816 then
    let c := k - 2560
    if s.fld (F.FAB_CL_STAT.U_STATE c) = 2 then some (coreSlot c (s.fld (F.FAB_CL_STAT.U_TARGET c)) + 64) else none
  else if s.driver (posOfSlot k) = k then some (posOfSlot k) else none

/-- Word `w` of the context store that the cell working at position `p` executes from: its own, or a stand-in's shadow of it (R103, R104). -/
def State.workWord (s : State) (p w : Nat) : Wide :=
  if s.driver p = slotAt p then s.storeWord (slotAt p) w else s.shadowWord (slotAt p) w

/-- The LOADED flag of context `c` that the cell working at position `p` goes by (R103, R104). -/
def State.workLoaded (s : State) (p c : Nat) : Bool :=
  if s.driver p = slotAt p then s.loadedFlag (slotAt p) c else s.shadowFlag (slotAt p) c

/-- The static word of the cell at position `p` (R77); a stand-in uses its shadow of its target's (R104). -/
def State.staticWord (s : State) (p : Nat) : Wide := s.workWord p 8

/-- EN of position `p` (R77). -/
def State.cellEn (s : State) (p : Nat) : Bool := getBits (s.staticWord p) 0 1 == 1

/-- Whether the cell at position `p` is a routed-clock B-cell (R113). -/
def State.isRclk (s : State) (p : Nat) : Bool := slotType (slotAt p) == .b && getBits (s.staticWord p) 2 1 == 1

/-- The active context of the cell that drives position `p`; a routed-clock cell always runs context 0 (R114). -/
def State.activeCtx (s : State) (p : Nat) : Nat := if s.isRclk p then 0 else (s.ctxOf (s.driver p)).active

/-- Whether the present tick is an issue tick of PHASE `ph` of site `n` (R73): the site runs and (N - PHASE) mod r is 0. -/
def State.issueTick (s : State) (n ph : Nat) : Bool :=
  let p := s.getPsq n
  p.mode == .running && (p.nRun + 64 * p.rep - ph) % p.rep == 0

/-- Whether the cell at position `p` issues in the present tick: its region is LIVE and the tick is one of its site's issue ticks. -/
def State.posIssues (s : State) (p : Nat) : Bool :=
  let g := s.posRegion p
  s.fckOn && s.rgnState g == 3 && s.issueTick (s.rgnSite g) (getBits (s.staticWord p) 10 6)

/-- Whether a cell of type `ty` has opcode `o` (R86, R90, R93, R102, R107). -/
def opcodeKnown (ty : CellType) (o : Nat) : Bool :=
  let inA := o ≤ 0x0D || (0x10 ≤ o && o ≤ 0x13) || (0x18 ≤ o && o ≤ 0x1B) || o == 0x20 || o == 0x21 || (0x24 ≤ o && o ≤ 0x27)
  let inB := o ≤ 1 || (0x40 ≤ o && o ≤ 0x4B) || (0x50 ≤ o && o ≤ 0x52) || (0x54 ≤ o && o ≤ 0x56)
  match ty with
  | .a => inA
  | .b => inB
  | .u => inA || inB
  | .m => o == 0 || o == 0x80
  | .x => o == 0 || o == 0xC0

/-- Which of operands a, b and c an A-cell or B-cell operation consumes (R86, R90). -/
def opReads (o : Nat) : Bool × Bool × Bool :=
  if o = 0 ∨ o = 0x1B ∨ o = 0x45 ∨ o = 0x56 then (false, false, false)
  else if o = 1 ∨ o = 0x25 ∨ o = 0x27 ∨ (0x46 ≤ o ∧ o ≤ 0x48) ∨ o = 0x54 ∨ o = 0x55 then (true, false, false)
  else if o = 9 ∨ o = 0x21 then (true, true, true)
  else (true, true, false)

/-- Whether operand select code `c` is one that cell type `ty` has (R69). -/
def selectKnown (ty : CellType) (c : Nat) : Bool :=
  match ty with
  | .a => c ≤ 0xC
  | .b => c ≤ 0xB || c == 0xD || c == 0xE
  | .u => c ≤ 0xE
  | .m => c ≤ 3 || c == 8 || c == 9 || c == 0xA
  | .x => c ≤ 3 || c == 0xA

/-- Whether a function word is invalid for its cell type (R72): an unknown opcode, an invalid modifier or parameter, an invalid select
of a consumed operand, or a reserved bit that is 1. -/
def fnInvalid (ty : CellType) (fn : Wide) : Bool :=
  let o := getBits fn 56 8
  let sel (i : Nat) : Bool := selectKnown ty (getBits fn i 4)
  !opcodeKnown ty o ||
  match ty with
  | .a | .b | .u =>
    let r := opReads o
    getBits fn 32 4 != 0 || (o == 8 && getBits fn 36 4 ≥ 8) || (o == 0x49 && getBits fn 0 3 ≥ 6) ||
    (r.1 && !sel 52) || (r.2.1 && !sel 48) || (r.2.2 && !sel 44)
  | .m =>
    let m0 := getBits fn 38 2
    let m1 := getBits fn 36 2
    getBits fn 28 8 != 0 || getBits fn 12 4 != 0 ||
    (o == 0x80 && ((m0 != 0 && !sel 52) || (m0 ≥ 2 && !sel 48) || (m1 != 0 && !sel 44) || (m1 ≥ 2 && !sel 40)))
  | .x =>
    getBits fn 0 37 != 0 ||
    (o == 0xC0 && ((getBits fn 39 1 == 1 && (!sel 52 || !sel 48)) || (getBits fn 38 1 == 1 && (!sel 44 || !sel 40))))

/-- Whether the core cell in slot `k` is marked failed and no U-cell stands in for it: it is fenced (R519). -/
def State.cellFenced (s : State) (k : Nat) : Bool :=
  decide (k < 2560) && bitOf (s.fld (F.BIST_CL.FAILED (clusterOf (k % 64) (k / 64)))) (localOf (k % 64) (k / 64)) &&
  s.driver (k + 64) == k

/-- Whether the words that position `p` drives carry S = 1 because a handover of its cell is under way (R509): in every tick of it with
HO_TAG = 1, from tick H or G on, and otherwise from the tick in which the comparison disagrees. -/
def State.handoverTag (s : State) (p : Nat) : Bool :=
  let come (t : Option Wide) : Bool := t.any (fun h => decide (h.toNat ≤ s.tick.toNat))
  s.bist.slices.any (fun x =>
    x.logic == .rotated && (come x.takeover || come x.back) &&
    coreSlot x.cl (if x.j ≤ 3 then x.j else x.j + 1) + 64 == p &&
    (s.bit F.BIST_CFG.HO_TAG || come x.differs))

/-- Whether context `c` is one that the cell working at position `p` can execute: loaded, with a function word that its cell type allows; a
stand-in's words are judged by the type of the cell whose words they are (R72, R81, R104). [DEDUCED 17] -/
def State.ctxGood (s : State) (p c : Nat) : Bool := s.workLoaded p c && !fnInvalid (slotType (slotAt p)) (s.workWord p c)

/-- Whether the stripe of the core cell in slot `k` is powered: the words that leave one that is off are 0 with V = 0 and S = 0 (R603). -/
def State.stripeOn (s : State) (k : Nat) : Bool := bitOf (s.fld F.PWR_DOM_STAT.ON) (4 + clusterOf (k % 64) (k / 64) / 32)

/-- Output `port` (0 for Q and Q0, 1 for Q1) of the cell at position `p`: 0 with S = 1 on a fenced cell (R519), 0 while EN = 0 (R77), 0 with S = 1 while the
active context is empty or invalid (R72, R81, R114), the tick-side word of a routed-clock cell (R116). [DEDUCED 16] -/
def State.outWord (s : State) (p port : Nat) : FWord :=
  let mark (w : FWord) : FWord := if s.handoverTag p then { w with s := true } else w
  if s.cellFenced (s.driver p) && s.stripeOn (s.driver p) then ⟨true, false, 0⟩
  else if !s.cellEn p then FWord.zero
  else if !s.ctxGood p (s.activeCtx p) then ⟨true, false, 0⟩
  else mark <|
    let c := s.cell (s.driver p)
    if port = 1 then c.q1 else if s.isRclk p then c.sync else c.q

/-- The position `n` steps from `p` in direction `d` (0 N, 1 E, 2 S, 3 W), where the resource exists (R124): horizontal wires run in
rows 0 to 39 only. -/
def posStep (p d n : Nat) : Option Nat :=
  let row := p / 64
  let col := p % 64
  if d = 0 then (if n ≤ row then some (p - 64 * n) else none)
  else if d = 2 then (if row + n ≤ 41 then some (p + 64 * n) else none)
  else if row = 0 ∨ row = 41 then none
  else if d = 1 then (if col + n ≤ 63 then some (p + n) else none)
  else (if n ≤ col then some (p - n) else none)

/-- The opposite direction. -/
def opposite (d : Nat) : Nat := (d + 2) % 4

/-- The span of segment type `t`: 0 and 1 the span-1 tracks, 2 span-4, 3 span-16 (R129). -/
def spanOf (t : Nat) : Nat := if t ≤ 1 then 1 else if t = 2 then 4 else 16

/-- The 192-bit routing word of context `c` at position `p` (R129). -/
def State.routeWord (s : State) (p c : Nat) : Nat :=
  (s.routeThird p c 0).toNat + (s.routeThird p c 1).toNat * 2 ^ 64 + (s.routeThird p c 2).toNat * 2 ^ 128

/-- The select of port multiplexer `k` in a routing word. -/
def portSel (w k : Nat) : Nat := w / 2 ^ (20 * k) % 2 ^ 20

/-- The select of driver multiplexer `j` in a routing word. -/
def drvSel (w j : Nat) : Nat := w / 2 ^ (80 + 6 * j) % 64

/-- Whether source bit `b` of a port multiplexer at position `p` exists (R127, R130). -/
def portSrcExists (p b : Nat) : Bool :=
  if b < 4 then (posStep p b 1).isSome
  else (posStep p ((b - 4) / 4) (spanOf ((b - 4) % 4))).isSome

/-- Whether source bit `b` of driver multiplexer `j` = 4 × d + t at position `p` exists (R128, R130); none does when the segment itself
does not exist. -/
def drvSrcExists (p j b : Nat) : Bool :=
  let d := j / 4
  let t := j % 4
  (posStep p d (spanOf t)).isSome &&
  (if b = 0 then true
   else if b = 1 then (slotType (slotAt p) == .m || slotType (slotAt p) == .x)
   else if b = 2 then (posStep p (opposite d) (spanOf t)).isSome
   else if b = 3 then (posStep p (opposite ((d + 1) % 4)) (spanOf t)).isSome
   else if b = 4 then (posStep p (opposite ((d + 3) % 4)) (spanOf t)).isSome
   else (posStep p (opposite d) (if t = 3 then 4 else 1)).isSome)

/-- Whether an active port select is faulty: more than one bit, or a bit that names an absent source (R130, R132). -/
def portSelBad (p sel : Nat) : Bool :=
  popNat 20 sel > 1 || (onesFrom 20 0 sel).any (fun b => !portSrcExists p b)

/-- Whether an active driver select is faulty (R130, R132). -/
def drvSelBad (p j sel : Nat) : Bool :=
  popNat 6 sel > 1 || (onesFrom 6 0 sel).any (fun b => !drvSrcExists p j b)

/-- Whether bits `lo` to `lo + w - 1` of a routing word lie in a third that fails parity (R133). -/
def State.muxParityBad (s : State) (p c lo w : Nat) : Bool :=
  s.routeFault p c (lo / 64) || s.routeFault p c ((lo + w - 1) / 64)

/-- The word of a multiplexer that the checker forces (R132). -/
def conflictWord : FWord := ⟨true, false, 0⟩

/-- The key of the border latch of the wire leaving position `p` in direction `d`: type 0 to 3 a segment, 4 the neighbour link. -/
def borderKey (p d t : Nat) : Nat := 20 * p + 5 * d + t

/-- Whether the wire from `p` to `q` is a border of the region of `p` (R139). -/
def State.isBorder (s : State) (p q : Nat) : Bool := s.posRegion p != 0 && s.posRegion q != s.posRegion p

/-- What a border of region `g` presents while the region is not LIVE (R140, R143), where `k` is the border's latch key. -/
def State.frozenWord (s : State) (g k : Nat) : FWord :=
  if s.rgnState g = 0 then FWord.zero
  else if s.bit (F.FAB_RGN_DESC.BPOL g) then
    ⟨true, s.bit (F.FAB_RGN_DESC.BVAL g), BitVec.ofNat 32 (s.fld (F.FAB_RGN_BCONST.CONST g))⟩
  else { mget (fun _ => FWord.zero) k s.fab.frozen with s := true }

/-- The word on the neighbour link that leaves position `p` in direction `d` (R123, R143). -/
def State.linkWord (s : State) (p d : Nat) : FWord :=
  match posStep p d 1 with
  | none => FWord.zero
  | some q =>
    if s.isBorder p q && s.rgnState (s.posRegion p) != 3 then s.frozenWord (s.posRegion p) (borderKey p d 4) else s.outWord p 0

/-- The word on the segment of type `t` that leaves position `p` in direction `d` (R128, R132, R133, R143). `fuel` bounds the segments
followed; a longer chain is a loop of routing alone, which R135 keeps out, and presents the conflict word. -/
def State.segWord (s : State) : Nat → Nat → Nat → Nat → FWord
  | 0, _, _, _ => conflictWord
  | fuel + 1, p, d, t =>
    match posStep p d (spanOf t) with
    | none => FWord.zero
    | some q =>
      if s.isBorder p q && s.rgnState (s.posRegion p) != 3 then s.frozenWord (s.posRegion p) (borderKey p d t)
      else
        let c := s.activeCtx p
        let j := 4 * d + t
        let sel := drvSel (s.routeWord p c) j
        if s.muxParityBad p c (80 + 6 * j) 6 || drvSelBad p j sel then conflictWord
        else
          let from_ (dir n : Nat) (typ : Nat) : FWord :=
            match posStep p (opposite dir) n with
            | none => FWord.zero
            | some r => s.segWord fuel r dir typ
          if sel = 1 then s.outWord p 0
          else if sel = 2 then s.outWord p 1
          else if sel = 4 then from_ d (spanOf t) t
          else if sel = 8 then from_ ((d + 1) % 4) (spanOf t) t
          else if sel = 16 then from_ ((d + 3) % 4) (spanOf t) t
          else if sel = 32 then
            (if t = 3 then from_ d 4 2
             else if t = 2 then from_ d 1 0
             else match posStep p (opposite d) 1 with
               | none => FWord.zero
               | some r => s.linkWord r d)
          else FWord.zero

/-- A bound on the segments of a route that is no loop: there are 37,408 (R125). -/
def routeFuel : Nat := 37408

/-- The word that input port `k` of position `p` receives (R67, R127, R132, R133). -/
def State.portWord (s : State) (p k : Nat) : FWord :=
  let c := s.activeCtx p
  let sel := portSel (s.routeWord p c) k
  if s.muxParityBad p c (20 * k) 20 || portSelBad p sel then conflictWord
  else match onesFrom 20 0 sel with
    | b :: _ =>
      if b < 4 then
        match posStep p b 1 with
        | none => FWord.zero
        | some r => s.linkWord r (opposite b)
      else
        let side := (b - 4) / 4
        let t := (b - 4) % 4
        match posStep p side (spanOf t) with
        | none => FWord.zero
        | some r => s.segWord routeFuel r (opposite side) t
    | [] => FWord.zero

/-- Every wire that leaves position `p` and is a border of its region: direction and type, 4 standing for the neighbour link. -/
def State.bordersAt (s : State) (p : Nat) : List (Nat × Nat) :=
  (List.range 20).filterMap (fun i =>
    let d := i / 5
    let t := i % 5
    match posStep p d (if t = 4 then 1 else spanOf t) with
    | some q => if s.isBorder p q then some (d, t) else none
    | none => none)

/-- The border words of region `g` latched as they stand, for the frozen borders of R143. [DEDUCED 21] -/
def State.latchBorders (s : State) (g : Nat) : State :=
  let word (p d t : Nat) : FWord := if t = 4 then s.linkWord p d else s.segWord routeFuel p d t
  let keys := (s.rgnPositions g).flatMap (fun p => (s.bordersAt p).map (fun dt => (p, dt.1, dt.2)))
  { s with fab := { s.fab with frozen := keys.foldl (fun m k =>
      mset (fun _ => FWord.zero) (borderKey k.1 k.2.1 k.2.2) { word k.1 k.2.1 k.2.2 with s := false } m) s.fab.frozen } }

/-- `s` with region `g` in state `st`. -/
def State.setRgnState (s : State) (g st : Nat) : State := s.setFld (F.FAB_RGN_DESC.STATE g) st

/-- Region `g` leaves LIVE: its borders freeze and it becomes HELD (R141, R143). -/
def State.rgnLeaveLive (s : State) (g : Nat) : State :=
  if s.rgnState g = 3 then (s.latchBorders g).setRgnState g 2 else s

/-- One multiplexer fault recorded and logged (R132, R133): `parity` for a store parity fault. -/
def State.muxFault (s : State) (p c mux : Nat) (parity : Bool) : State :=
  let s1 := if parity then s.addSat F.FAB_RT_CONFLICT_CNT.PARITY_CNT 1 else s.addSat F.FAB_RT_CONFLICT_CNT.CONFLICT_CNT 1
  let last := c * 2 ^ 29 + b2n parity * 2 ^ 28 + mux * 2 ^ 23 + (p / 64) * 2 ^ 8 + p % 64
  ((s1.setReg R.FAB_RT_CONFLICT_LAST (BitVec.ofNat 64 last)).setReg R.FAB_RT_CONFLICT_TICK s.tick).report
    (if parity then C.FAB_STORE_PARITY else C.ROUTE_CONFLICT) (srcPosition (p / 64) (p % 64)) last

/-- The multiplexers of position `p` that are faulty under context `c`, each with whether the fault is one of parity: port
multiplexers 0 to 3, driver multiplexer j as 4 + j. On a parity fault the select fields of driver segments that do not exist at the position count
too. [DEDUCED 112] -/
def State.muxFaults (s : State) (p c : Nat) : List (Nat × Bool) :=
  let w := s.routeWord p c
  (List.range 20).filterMap (fun m =>
    let parity := if m < 4 then s.muxParityBad p c (20 * m) 20 else s.muxParityBad p c (80 + 6 * (m - 4)) 6
    let bad := if m < 4 then portSelBad p (portSel w m) else drvSelBad p (m - 4) (drvSel w (m - 4))
    if parity then some (m, true) else if bad then some (m, false) else none)

end Sys2Proof.Machine
end

