-- ==== Sys2Proof/Machine/CellOps.lean ====
section
/-! DEFINITION. The operations of the A-cell and B-cell tables (R86 to R91) as functions of their operands, operand selects (R69), the
tags of results (R62 to R66, R71, R89), invalid function words (R72) and what happens when a context becomes active (R79 to R81, R623). -/

namespace Sys2Proof.Machine

/-- What an operation may read: operands a, b, c, the cell's Q, ACC, CY, W with its tags, MOD, IMM and the lookup table. -/
structure OpIn where
  a   : FWord
  b   : FWord
  c   : FWord
  q   : FWord
  acc : FWord
  cy  : Bool
  w   : Wide
  wt  : FWord
  md  : Nat
  imm : Nat
  lut : Nat → Nat

/-- What an operation gives: the DATA for Q, the consumed words whose tags make the result's (R63), new values for ACC, CY and W, and
whether its only effect is on W (R89). -/
structure OpOut where
  data  : Word
  used  : List FWord
  acc   : Option Word
  cy    : Option Bool
  w     : Option Wide
  wOnly : Bool

/-- A result that goes to Q alone. -/
def toQ (d : Word) (used : List FWord) : OpOut := ⟨d, used, none, none, none, false⟩

/-- A result that goes to Q and sets CY. -/
def toQcy (d : Word) (cy : Bool) (used : List FWord) : OpOut := ⟨d, used, none, some cy, none, false⟩

/-- A result that goes to Q and ACC. -/
def toAcc (d : Word) (used : List FWord) : OpOut := ⟨d, used, some d, none, none, false⟩

/-- An operation whose only effect is on W. -/
def toW (w : Wide) (used : List FWord) : OpOut := ⟨0, used, none, none, some w, true⟩

/-- MOV. -/
def opMov (i : OpIn) : OpOut := toQ i.a.data [i.a]
/-- ADD. -/
def opAdd (i : OpIn) : OpOut :=
  toQcy (i.a.data + i.b.data) (decide (2 ^ 32 ≤ i.a.data.toNat + i.b.data.toNat)) [i.a, i.b]
/-- ADDC. -/
def opAddc (i : OpIn) : OpOut :=
  let t := i.a.data.toNat + i.b.data.toNat + b2n i.cy
  toQcy (BitVec.ofNat 32 t) (decide (2 ^ 32 ≤ t)) [i.a, i.b]
/-- SUB. -/
def opSub (i : OpIn) : OpOut := toQcy (i.a.data - i.b.data) (i.a.data.ult i.b.data) [i.a, i.b]
/-- SUBB. -/
def opSubb (i : OpIn) : OpOut :=
  toQcy (i.a.data - i.b.data - BitVec.ofNat 32 (b2n i.cy)) (decide (i.a.data.toNat < i.b.data.toNat + b2n i.cy)) [i.a, i.b]
/-- MIN; MOD[0] selects signed order. -/
def opMin (i : OpIn) : OpOut :=
  let lt := if bitOf i.md 0 then i.a.data.slt i.b.data else i.a.data.ult i.b.data
  toQ (if lt then i.a.data else i.b.data) [i.a, i.b]
/-- MAX; MOD[0] selects signed order. -/
def opMax (i : OpIn) : OpOut :=
  let lt := if bitOf i.md 0 then i.a.data.slt i.b.data else i.a.data.ult i.b.data
  toQ (if lt then i.b.data else i.a.data) [i.a, i.b]
/-- The conditions of CMP (R87). -/
def cmpCond (md : Nat) (a b : Word) : Bool :=
  match md with
  | 0 => a == b
  | 1 => a != b
  | 2 => a.ult b
  | 3 => !a.ult b
  | 4 => a.slt b
  | 5 => !a.slt b
  | 6 => (a &&& b) != 0
  | _ => (a &&& b) == 0
/-- CMP. -/
def opCmp (i : OpIn) : OpOut := toQ (if cmpCond i.md i.a.data i.b.data then 1 else 0) [i.a, i.b]
/-- SEL. -/
def opSel (i : OpIn) : OpOut := toQ (if i.c.data.getLsbD 0 then i.b.data else i.a.data) [i.a, i.b, i.c]
/-- AND. -/
def opAnd (i : OpIn) : OpOut := toQ (i.a.data &&& i.b.data) [i.a, i.b]
/-- OR. -/
def opOr (i : OpIn) : OpOut := toQ (i.a.data ||| i.b.data) [i.a, i.b]
/-- XOR. -/
def opXor (i : OpIn) : OpOut := toQ (i.a.data ^^^ i.b.data) [i.a, i.b]
/-- ANDN. -/
def opAndn (i : OpIn) : OpOut := toQ (i.a.data &&& ~~~ i.b.data) [i.a, i.b]
/-- SHL. -/
def opShl (i : OpIn) : OpOut := toQ (i.a.data <<< (i.b.data.toNat % 32)) [i.a, i.b]
/-- SHR. -/
def opShr (i : OpIn) : OpOut := toQ (i.a.data >>> (i.b.data.toNat % 32)) [i.a, i.b]
/-- SRA. -/
def opSra (i : OpIn) : OpOut := toQ (i.a.data.sshiftRight (i.b.data.toNat % 32)) [i.a, i.b]
/-- ROL. -/
def opRol (i : OpIn) : OpOut := toQ (i.a.data.rotateLeft (i.b.data.toNat % 32)) [i.a, i.b]
/-- The 32-bit product of the low halves, signed when `sg`. -/
def mulLow (sg : Bool) (a b : Word) : Int :=
  if sg then (a.setWidth 16).toInt * (b.setWidth 16).toInt else ((a.toNat % 65536 * (b.toNat % 65536) : Nat) : Int)
/-- MUL. -/
def opMul (i : OpIn) : OpOut := toQ (BitVec.ofInt 32 (mulLow (bitOf i.md 0) i.a.data i.b.data)) [i.a, i.b]
/-- MAC: wraps, or saturates when MOD[1] = 1: at the ends of the signed 32-bit range with MOD[0] = 1, else at 0 and 2^32 - 1. [DEDUCED 110] -/
def opMac (i : OpIn) : OpOut :=
  let sg := bitOf i.md 0
  let acc : Int := if sg then i.acc.data.toInt else (i.acc.data.toNat : Int)
  let t := acc + mulLow sg i.a.data i.b.data
  let hi : Int := if sg then 2 ^ 31 - 1 else 2 ^ 32 - 1
  let lo : Int := if sg then -(2 ^ 31) else 0
  let r := if bitOf i.md 1 then (if t > hi then hi else if t < lo then lo else t) else t
  toAcc (BitVec.ofInt 32 r) [i.a, i.b, i.acc]
/-- MACL. -/
def opMacl (i : OpIn) : OpOut := toAcc (BitVec.ofInt 32 (mulLow (bitOf i.md 0) i.a.data i.b.data)) [i.a, i.b]
/-- ACCR. -/
def opAccr (i : OpIn) : OpOut := toQ i.acc.data [i.acc]
/-- One modular step (R88): the new Q and CY. -/
def cntStep (q a b : Word) : Word × Bool :=
  let t := q.toNat + a.toNat
  if b = 0 then (BitVec.ofNat 32 t, decide (2 ^ 32 ≤ t))
  else if b.toNat ≤ t then (BitVec.ofNat 32 (t - b.toNat), true)
  else (BitVec.ofNat 32 t, false)
/-- CNTM. -/
def opCntm (i : OpIn) : OpOut :=
  let r := cntStep i.q.data i.a.data i.b.data
  toQcy r.1 r.2 [i.a, i.b, i.q]
/-- CNTE. -/
def opCnte (i : OpIn) : OpOut :=
  let r := if i.c.data.getLsbD 0 then cntStep i.q.data i.a.data i.b.data else (i.q.data, false)
  toQcy r.1 r.2 [i.a, i.b, i.c, i.q]
/-- BFM (R88). -/
def opBfm (i : OpIn) : OpOut :=
  let s := i.imm % 32
  let d := i.imm / 32 % 32
  let w := i.imm / 1024 % 32 + 1
  let mw : Word := BitVec.ofNat 32 (2 ^ w - 1)
  let m : Word := mw <<< d
  toQ ((i.b.data &&& ~~~ m) ||| ((((i.a.data >>> s) &&& mw) <<< d) &&& m)) [i.a, i.b]
/-- GRAY (R88): binary to Gray, or Gray to binary when MOD[0] = 1. -/
def opGray (i : OpIn) : OpOut :=
  let a := i.a.data
  let x1 := a ^^^ (a >>> 1)
  let x2 := x1 ^^^ (x1 >>> 2)
  let x3 := x2 ^^^ (x2 >>> 4)
  let x4 := x3 ^^^ (x3 >>> 8)
  toQ (if bitOf i.md 0 then x4 ^^^ (x4 >>> 16) else x1) [i.a]
/-- XTAP (R88). -/
def opXtap (i : OpIn) : OpOut :=
  toQ (i.a.data ^^^ (BitVec.ofNat 32 (parityNat 32 (i.a.data &&& i.b.data).toNat) <<< (i.imm % 32))) [i.a, i.b]
/-- BREV: the low IMM[4:0] + 1 bits reversed, the upper bits 0. -/
def opBrev (i : OpIn) : OpOut :=
  let n := i.imm % 32 + 1
  toQ (i.a.data.reverse >>> (32 - n)) [i.a]
/-- The 64-bit operand X = {b, a} (R89). -/
def OpIn.x (i : OpIn) : Wide := i.b.data ++ i.a.data
/-- WLD. -/
def opWld (i : OpIn) : OpOut := toW i.x [i.a, i.b]
/-- WAND. -/
def opWand (i : OpIn) : OpOut := toW (i.w &&& i.x) [i.a, i.b, i.wt]
/-- WOR. -/
def opWor (i : OpIn) : OpOut := toW (i.w ||| i.x) [i.a, i.b, i.wt]
/-- WXOR. -/
def opWxor (i : OpIn) : OpOut := toW (i.w ^^^ i.x) [i.a, i.b, i.wt]
/-- WANDN. -/
def opWandn (i : OpIn) : OpOut := toW (i.w &&& ~~~ i.x) [i.a, i.b, i.wt]
/-- WNOT. -/
def opWnot (i : OpIn) : OpOut := toW (~~~ i.w) [i.wt]
/-- WROL. -/
def opWrol (i : OpIn) : OpOut := toW (i.w.rotateLeft (i.a.data.toNat % 64)) [i.a, i.wt]
/-- WSHL. -/
def opWshl (i : OpIn) : OpOut := toW (i.w <<< (i.a.data.toNat % 64)) [i.a, i.wt]
/-- WSHR. -/
def opWshr (i : OpIn) : OpOut := toW (i.w >>> (i.a.data.toNat % 64)) [i.a, i.wt]
/-- One butterfly stage (R91), over bit positions `i` counted down from `n`: W[i] and W[i + 2^k] swap where bit k of i is 0 and X[i] is 1. -/
def bflyBits (k : Nat) (x w : Wide) : Nat → Wide
  | 0 => w
  | n + 1 =>
    let r := bflyBits k x w n
    if !bitOf n k && x.getLsbD n then
      let m : Wide := (1 <<< n) ||| (1 <<< (n + 2 ^ k))
      if r.getLsbD n == r.getLsbD (n + 2 ^ k) then r else r ^^^ m
    else r
/-- WBFLY. -/
def opWbfly (i : OpIn) : OpOut := toW (bflyBits (i.imm % 8) i.x i.w 64) [i.a, i.b, i.wt]
/-- `n` Galois steps (R91). -/
def lfsrSteps (x w : Wide) : Nat → Wide
  | 0 => w
  | n + 1 =>
    let r := lfsrSteps x w n
    if r.getLsbD 63 then (r <<< 1) ^^^ x else r <<< 1
/-- LFSR. -/
def opLfsr (i : OpIn) : OpOut := toW (lfsrSteps i.x i.w (i.imm % 16 + 1)) [i.a, i.b, i.wt]
/-- The CRC of R91 over the `n` highest bits of `a` taken, most significant first. -/
def crcBits (a poly : Word) : Nat → Word → Word
  | 0, r => r
  | n + 1, r =>
    let r' := r <<< 1
    crcBits a poly n (if r.getLsbD 31 != a.getLsbD n then r' ^^^ poly else r')
/-- CRC32. -/
def opCrc32 (i : OpIn) : OpOut :=
  let hi : Word := i.w.extractLsb' 32 32
  let lo : Word := i.w.extractLsb' 0 32
  toW (hi ++ crcBits i.a.data i.b.data 32 lo) [i.a, i.b, i.wt]
/-- POPC. -/
def opPopc (i : OpIn) : OpOut := toQ (BitVec.ofNat 32 (popNat 64 i.x.toNat)) [i.a, i.b]
/-- PAR. -/
def opPar (i : OpIn) : OpOut := toQ (BitVec.ofNat 32 (parityNat 64 i.x.toNat)) [i.a, i.b]
/-- CLZ: 64 when X = 0. -/
def opClz (i : OpIn) : OpOut :=
  toQ (BitVec.ofNat 32 (if i.x = 0 then 64 else 63 - Nat.log2 i.x.toNat)) [i.a, i.b]
/-- The `n` lowest nibbles of `v` each replaced through bits [3:0] of the lookup table. -/
def lutNibbles (lut : Nat → Nat) : Nat → Nat → Nat
  | 0, _ => 0
  | n + 1, v => lut (v % 16) % 16 + 16 * lutNibbles lut n (v / 16)
/-- LUTN. -/
def opLutn (i : OpIn) : OpOut := toQ (BitVec.ofNat 32 (lutNibbles i.lut 8 i.a.data.toNat)) [i.a]
/-- LUTW. -/
def opLutw (i : OpIn) : OpOut := toQ (BitVec.ofNat 32 (i.lut (i.a.data.toNat % 16))) [i.a]
/-- WLUTN. -/
def opWlutn (i : OpIn) : OpOut := toW (BitVec.ofNat 64 (lutNibbles i.lut 16 i.w.toNat)) [i.wt]

/-- Whether position `p` is an enabled vector entry of its site's sequencer (R189). -/
def State.isVent (s : State) (p : Nat) : Bool :=
  let n := s.rgnSite (s.posRegion p)
  s.posRegion p != 0 && (List.range 8).any (fun k =>
    s.bit (F.PSQ_VENT.EN n k) && s.fld (F.PSQ_VENT.ROW n k) + 1 == p / 64 && s.fld (F.PSQ_VENT.COL n k) == p % 64)

/-- The word that operand select `code` names for the cell of type `ty` with registers `c` at position `p` (R69, R63, R189). -/
def State.operand (s : State) (p : Nat) (ty : CellType) (c : CellRegs) (imm code : Nat) : FWord :=
  if code < 4 then s.portWord p code
  else if code = 0xA then ⟨false, true, 0⟩
  else match ty with
    | .m => if code = 8 then c.q else c.q1
    | .x => FWord.zero
    | .a | .b | .u =>
      if code = 4 then c.l0 else if code = 5 then c.l1 else if code = 6 then c.l2
      else if code = 7 then (if s.isVent p then (s.getPsq (s.rgnSite (s.posRegion p))).vwr else c.l3)
      else if code = 8 then c.q
      else if code = 9 then ⟨false, true, BitVec.ofNat 32 imm⟩
      else if code = 0xB then ⟨false, true, 0xFFFFFFFF⟩
      else if code = 0xC then c.acc
      else if code = 0xD then ⟨c.ws, c.wv, c.w.extractLsb' 0 32⟩
      else ⟨c.ws, c.wv, c.w.extractLsb' 32 32⟩

/-- Entry `e` of the lookup table of the cell working at position `p` (R76, R104). -/
def State.lutEntry (s : State) (p e : Nat) : Nat := getBits (s.workWord p (9 + e / 4)) (16 * (e % 4)) 16

/-- L register `i` replaced. -/
def CellRegs.setL (c : CellRegs) (i : Nat) (v : FWord) : CellRegs :=
  if i = 0 then { c with l0 := v } else if i = 1 then { c with l1 := v } else if i = 2 then { c with l2 := v } else { c with l3 := v }

/-- Whether Q takes the result `o` under function word `fn`: it holds on an invalid result with HOLDINV = 1 (R65). -/
def takesQ (fn : Wide) (o : OpOut) : Bool := o.used.all (·.v) || getBits fn 40 1 != 1

/-- The registers after an operation other than NOP, from its result (R63 to R66, R71, R89). -/
def CellRegs.finish (c : CellRegs) (fn : Wide) (o : OpOut) : CellRegs :=
  let v := o.used.all (·.v)
  let st := o.used.any (·.s)
  let c1 := if v then
      { c with acc := match o.acc with | some d => ⟨st, true, d⟩ | none => c.acc,
               cy := o.cy.getD c.cy,
               w := o.w.getD c.w,
               wv := if o.w.isSome then true else c.wv,
               ws := if o.w.isSome then st else c.ws }
    else c
  if !takesQ fn o then c1
  else
    let d : Word := if o.wOnly then (if getBits fn 39 1 = 1 then c1.w.extractLsb' 32 32 else c1.w.extractLsb' 0 32) else o.data
    let r : FWord := ⟨st, v, d⟩
    let c2 := { c1 with q := r }
    if getBits fn 43 1 = 1 then c2.setL (getBits fn 41 2) r else c2

/-- The registers of an X-cell that issues under an empty or invalid context (R72, R81): its slices receive 0 with V = 0 and S = 1, the
rest holds. [DEDUCED 18] -/
def CellRegs.untrusted (c : CellRegs) : CellRegs :=
  { c with xde := conflictWord, xxe := conflictWord, xdo := conflictWord, xxo := conflictWord }

/-- The logs and counts of a context becoming active in the cell in slot `k` that works at position `p` (R72, R81, R623): a cell in
use whose context is empty or whose function word is invalid, for a stand-in by the type of the cell whose words it executes. [DEDUCED 17] -/
def State.logActivation (s : State) (k p c : Nat) : State :=
  if !s.cellEn p || s.ctxGood p c then s
  else if !s.workLoaded p c then
    (s.setFld F.FAB_STAT.CTX_EMPTY_SEEN 1).report C.FAB_CTX_EMPTY (srcSlot k) c
  else (s.setFld F.FAB_STAT.OP_INVALID_SEEN 1).report C.FAB_OP_INVALID (srcSlot k) c

/-- The multiplexer faults that become active at position `p` with context `c` (R132, R133, R623). -/
def State.logMuxFaults (s : State) (p c : Nat) : State :=
  (s.muxFaults p c).foldl (fun t m => t.muxFault p c m.1 m.2) s

/-- ACTIVE of the cell in slot `k` is set to `c` and PEND cleared: context `c` becomes active there (R79, R80, R623). In a routed-clock cell,
whose ACTIVE reads 0, it is context 0 that becomes active (R114). [DEDUCED 111] -/
def State.activate (s : State) (k c : Nat) : State :=
  match s.workPos k with
  | none => s.setCtx k { s.ctxOf k with active := c, pend := false }
  | some p =>
    if s.isRclk p then (s.logActivation k p 0).logMuxFaults p 0
    else ((s.setCtx k { s.ctxOf k with active := c, pend := false }).logActivation k p c).logMuxFaults p c

/-- Whether a multiplexer of position `p` is faulty under the active context, which holds the site of its region (R134). -/
def State.posFaulty (s : State) (p : Nat) : Option Bool :=
  match s.muxFaults p (s.activeCtx p) with
  | [] => none
  | ms => some (ms.any (fun m => m.2))

/-- The inputs of an A-cell or B-cell operation of the cell in slot `k` at position `p`. -/
def State.opInputs (s : State) (k p : Nat) (fn : Wide) : OpIn :=
  let c := s.cell k
  let ty := slotType k
  let imm := getBits fn 0 32
  { a := s.operand p ty c imm (getBits fn 52 4), b := s.operand p ty c imm (getBits fn 48 4), c := s.operand p ty c imm (getBits fn 44 4),
    q := c.q, acc := c.acc, cy := c.cy, w := c.w, wt := ⟨c.ws, c.wv, 0⟩, md := getBits fn 36 4, imm := imm,
    lut := s.lutEntry p }

/-- The registers of the cell in slot `k` at position `p` after operation `op` under function word `fn`. -/
def State.opResult (s : State) (k p : Nat) (fn : Wide) (op : OpIn → OpOut) : CellRegs :=
  (s.cell k).finish fn (op (s.opInputs k p fn))

/-- Bit 0 of the word on P3 of position `p`, the level of its routed clock (R113). -/
def State.rclkLevel (s : State) (p : Nat) : Bool := (s.portWord p 3).data.getLsbD 0

/-- Whether the routed clock of the cell in slot `k` at position `p` shows the edge that RCLK_EDGE selects, in the present tick against the tick
before, and the cell has not taken it yet (R77, R113). [DEDUCED 19] -/
def State.rclkEdge (s : State) (k p : Nat) : Bool :=
  let now := s.rclkLevel p
  now != mget (fun _ => false) k s.fab.rclkLvl && now != (getBits (s.staticWord p) 3 1 == 1)

/-- `s` with the routed clock's level last seen by the cell in slot `k` set to `b`. -/
def State.setRclkLvl (s : State) (k : Nat) (b : Bool) : State :=
  { s with fab := { s.fab with rclkLvl := mset (fun _ => false) k b s.fab.rclkLvl } }

/-- A routed-clock B-cell takes a routed edge and executes `op` (R113, R116, R117): its registers change at once. Where Q takes a new word, that word
waits for the synchroniser, and a word still waiting is lost. [DEDUCED 19] -/
def State.rclkStep (s : State) (k p : Nat) (fn : Wide) (op : OpIn → OpOut) : State :=
  let s0 := s.setRclkLvl k (s.rclkLevel p)
  let r := s.opResult k p fn op
  if !takesQ fn (op (s.opInputs k p fn)) then s0.setCell k r
  else
    let s1 := s0.setCell k { r with syncPend := true, syncAt := s.tick }
    if (s.cell k).syncPend then
      (s1.setFld F.FAB_STAT.RCLK_OVR_SEEN 1).report C.FAB_RCLK_OVERRUN (srcSlot k) 0
    else s1

/-- The cell in slot `k`, which is no routed-clock cell, issues opcode `o` in the present tick with effect `f` of its position and function
word, if that is what its active context holds (R27, R73, R74). Under an empty context or an invalid word its registers hold, and an X-cell passes
conflict words to its slices (R72, R81). In a tick that is not an issue tick, or when the cell has issued already, it holds. [DEDUCED 16, 18] -/
def State.cellIssue (s : State) (k o : Nat) (f : Nat → Wide → State) : State :=
  match s.workPos k with
  | none => s
  | some p =>
    let c := s.activeCtx p
    let fn := s.workWord p c
    if !s.cellEn p || s.cellFenced k || s.isRclk p || (s.cellNxt k).isSome || !s.posIssues p then s
    else if !s.ctxGood p c then (if slotType k = .x then s.setNxt k (s.cell k).untrusted else s)
    else if getBits fn 56 8 == o then f p fn
    else s

/-- The cell in slot `k` performs A-cell or B-cell opcode `o`: on the routed edge that RCLK_EDGE selects where the cell has a routed clock (R113), in
its issue tick otherwise. [DESIGN CHOICE 6] -/
def State.cellStep (s : State) (k o : Nat) (op : OpIn → OpOut) : State :=
  match s.workPos k with
  | none => s
  | some p =>
    if s.isRclk p then
      let fn := s.workWord p 0
      if !s.cellEn p || s.cellFenced k || !s.ctxGood p 0 || !s.rclkEdge k p then s
      else if getBits fn 56 8 == o then s.rclkStep k p fn op
      else s
    else s.cellIssue k o (fun p fn => s.setNxt k (s.opResult k p fn op))

end Sys2Proof.Machine
end

