-- ==== Sys2Proof/Machine/FcqOps.lean ====
section
/-! DEFINITION. Capture sources, capture queues, fail regions and stream queues (chapter 06 of spec/): the operations that the commands
and the tick use. -/

namespace Sys2Proof.Machine

/-- The 16 or 32 bytes of a packet in a capture queue (R261, R263). -/
def CapPkt.bytes : CapPkt → List Byte
  | .fail t e o x f site ctx =>
    leBytes 8 t.toNat ++ leBytes 2 e.toNat ++ leBytes 2 o.toNat ++ leBytes 1 x ++ [f] ++ leBytes 1 (site + 16 * ctx) ++ leBytes 1 0
  | .sat t n x cause site l ui =>
    leBytes 8 t.toNat ++ leBytes 4 n ++ leBytes 1 x ++ leBytes 1 cause ++ leBytes 1 site ++ leBytes 1 1 ++ leBytes 8 l.toNat ++
    leBytes 4 ui ++ leBytes 4 0
  | .reset t n site =>
    leBytes 8 t.toNat ++ leBytes 4 n ++ leBytes 1 0xFF ++ leBytes 1 0 ++ leBytes 1 site ++ leBytes 1 2

/-- The items that a packet takes in the ring. -/
def CapPkt.items : CapPkt → Nat
  | .sat .. => 8
  | .fail .. | .reset .. => 4

/-- The capture queue of source `x`. -/
def State.srcQueueOf (s : State) (x : Nat) : Nat := s.fld (F.FCQ_SRC_CFG.QUEUE x)

/-- Whether source `x` is enabled. -/
def State.srcEn (s : State) (x : Nat) : Bool := s.bit (F.FCQ_SRC_CFG.EN x)

/-- The enabled sources that are mapped to queue `k`. -/
def State.queueSources (s : State) (k : Nat) : List Nat :=
  (List.range 128).filter (fun x => s.srcEn x && s.srcQueueOf x == k)

/-- The region of X-cell `x`. -/
def State.xRegion (s : State) (x : Nat) : Nat := s.fld (F.FAB_RGN_XMAP.REGION x)

/-- Whether X-cell `x` lies in a region of site `n`. -/
def State.xOfSite (s : State) (x n : Nat) : Bool := s.rgnState (s.xRegion x) != 0 && s.rgnSite (s.xRegion x) == n

/-- The enabled sources whose X-cells lie in regions of site `n` (R272). -/
def State.siteSources (s : State) (n : Nat) : List Nat := (List.range 128).filter (fun x => s.srcEn x && s.xOfSite x n)

/-- The queues that the enabled sources of site `n` name. -/
def State.siteQueues (s : State) (n : Nat) : List Nat :=
  (List.range 64).filter (fun k => (s.siteSources n).any (fun x => s.srcQueueOf x == k))

/-- The site of queue `k`: that of its first enabled source's region. -/
def State.queueSite (s : State) (k : Nat) : Nat :=
  match s.queueSources k with
  | x :: _ => s.rgnSite (s.xRegion x)
  | [] => 0

/-- The oldest read pointer of queue `k` (R258): the drain's, and the tap's where the tap is enabled. -/
def State.oldest (s : State) (k : Nat) : Nat :=
  let q := s.queue k
  if s.bit (F.FCQ_Q_CFG.TAP_EN k) then min q.rptr q.tptr else q.rptr

/-- The level of queue `k` in items. -/
def State.queueLevel (s : State) (k : Nat) : Nat := (s.queue k).wptr - s.oldest k

/-- The items of queue `k` that can still be reserved (R265): those not occupied or about to be by a packet placed in this tick, not reserved for the
saturation markers of its sources and not already reserved for credits. A marker in the ring occupies its own reserved items. -/
def State.freeItems (s : State) (k : Nat) : Nat :=
  let xs := s.queueSources k
  let markers := (xs.filter (fun x => (s.source x).marker)).length
  8192 + 8 * markers - (s.queueLevel k + 4 * (s.queue k).inFlight.length + 8 * xs.length + 4 * (xs.map (fun x => (s.source x).cr)).sum)

/-- Both copies of WPTR advance by `n` items (R295). -/
def CapQueue.wAdvance (q : CapQueue) (n : Nat) : CapQueue := { q with wptr := q.wptr + n, wptr2 := q.wptr2 + n }

/-- Both copies of RPTR advance by `n` items (R295). -/
def CapQueue.rAdvance (q : CapQueue) (n : Nat) : CapQueue := { q with rptr := q.rptr + n, rptr2 := q.rptr2 + n }

/-- Both copies of TPTR advance by `n` items (R295). -/
def CapQueue.tAdvance (q : CapQueue) (n : Nat) : CapQueue := { q with tptr := q.tptr + n, tptr2 := q.tptr2 + n }

/-- The rest of the packet that the tap has started to read is passed (R281); at a packet boundary nothing is. [DEDUCED 45] -/
def CapQueue.tapDrop (q : CapQueue) : CapQueue :=
  match q.pkts.find? (fun p => decide (p.start < q.tptr) && decide (q.tptr < p.start + p.pkt.items)) with
  | some p => q.tAdvance (p.start + p.pkt.items - q.tptr)
  | none => q

/-- The packets that every enabled reader of queue `k` has passed are freed, and the reserved items of freed saturation markers restored
(R270, R278). -/
def State.freeRead (s : State) (k : Nat) : State :=
  let q := s.queue k
  let old := s.oldest k
  let gone := q.pkts.filter (fun p => p.start + p.pkt.items ≤ old)
  let s1 := s.setQueue k { q with pkts := q.pkts.filter (fun p => old < p.start + p.pkt.items) }
  gone.foldl (fun t p => match p.pkt with
    | .sat _ _ x _ _ _ _ => t.setSource x { t.source x with marker := false }
    | _ => t) s1

/-- A packet written into queue `k` (R279). -/
def State.putPkt (s : State) (k : Nat) (p : CapPkt) : State :=
  let q := s.queue k
  s.setQueue k { q.wAdvance p.items with pkts := q.pkts ++ [⟨q.wptr, p⟩] }

/-- A fail packet placed in the tick that ends is written into queue `k` and counted for its source (R40, R289). -/
def State.landPkt (s : State) (k : Nat) (p : CapPkt) : State :=
  match p with
  | .fail tick e o x _ _ _ =>
    let v := s.source x
    let ui := popNat 16 e.toNat + popNat 16 o.toNat
    (s.setSource x { v with placed := v.placed + 1, placedUi := v.placedUi + ui,
                            firstTick := if ui != 0 && v.placedUi = 0 then tick else v.firstTick,
                            lastTick := if ui = 0 then v.lastTick else tick }).putPkt k p
  | _ => s.putPkt k p

/-- The packets placed in the tick that ends are in the rings from the next tick on (R40). -/
def State.landFlight (s : State) : State :=
  (s.queues.map (·.1)).foldl (fun t k =>
    (t.queue k).inFlight.foldl (fun u p => u.landPkt k p) (t.setQueue k { t.queue k with inFlight := [] })) s

/-- Whether source `x` is refilled (R264): enabled, and its site armed since. -/
def State.srcLive (s : State) (x : Nat) : Bool := s.srcEn x && (s.source x).armed

/-- The refill accumulator of source `x` after its step at the end of the present tick (R264), holding at 511. -/
def State.accNext (s : State) (x : Nat) : Nat := satAt 511 ((s.source x).acc + s.fld (F.FCQ_SRC_CFG.RATE x) + 1)

/-- Source `x` attempts its refill at the end of the present tick, its accumulator stepped (R264, R265): discarded at CAP, a credit when 4 items can be reserved, pending
otherwise. -/
def State.takeRefill (s : State) (x : Nat) : State :=
  let v : Source := { s.source x with refill := false }
  let k := s.srcQueueOf x
  if s.fld (F.FCQ_SRC_CRED.CAP x) ≤ v.cr then s.setSource x { v with acc := v.acc - 256 }
  else if (s.queue k).st == .reset || s.freeItems k < 4 then s.setSource x v
  else s.setSource x { v with acc := v.acc - 256, cr := v.cr + 1 }

/-- The end of the tick for every source (R264, R303): the accumulators of the live ones step, and the refills commanded in the tick are attempted, with the credits that its
packets have left. [DEDUCED 43, DESIGN CHOICE 146] [DEDUCED 43; DESIGN CHOICE 146] -/
def State.stepCredits (s : State) : State :=
  let s1 : State := { s with sources := mmap (fun _ => Source.reset) (fun x v =>
    { v with refusedNow := false, acc := if s.srcLive x then s.accNext x else v.acc }) s.sources }
  (s.sources.filter (fun e => e.2.refill)).foldl (fun t e => t.takeRefill e.1) s1

/-- The refill of source `x` at the end of the present tick is commanded, where the accumulator's step makes one due (R264). [DEDUCED 43] -/
def State.refill (s : State) (x : Nat) : State :=
  if !s.srcLive x || s.accNext x < 256 then s else s.setSource x { s.source x with refill := true }

/-- Source `x` ends its saturation episode and its marker is written (R270, R277); `flush` adds the FLUSH cause. [DESIGN CHOICE 151] -/
def State.endEpisode (s : State) (x : Nat) (flush : Bool) : State :=
  let v := s.source x
  let k := s.srcQueueOf x
  let cause := if flush then v.cause ||| 8 else v.cause
  let m := CapPkt.sat (s.reg (R.FCQ_SRC_SATFIRST x)) (s.fld (F.FCQ_SRC_SATCNT.PKTS x)) x cause (s.rgnSite (s.xRegion x))
    (s.reg (R.FCQ_SRC_SATLAST x)) (s.fld (F.FCQ_SRC_SATCNT.FAILUI x))
  (s.setSource x { v with saturated := false, cause := cause, marker := true }).putPkt k m

/-- Whether source `x` is due to leave saturation (R270). -/
def State.satExitDue (s : State) (x : Nat) : Bool :=
  (s.source x).saturated && s.fld (F.FCQ_SRC_CRED.SAT_EXIT x) ≤ (s.source x).cr && (s.queue (s.srcQueueOf x)).st != .reset

/-- A packet of source `x` is refused (R268, R269, R271). -/
def State.refusePkt (s : State) (x : Nat) (tick : Wide) (ui : Nat) : State :=
  let k := s.srcQueueOf x
  let v := s.source x
  let why := if (s.queue k).st == .reset then 4 else if 256 ≤ v.acc then 2 else 1
  let s1 :=
    if v.saturated then s
    else
      ((((s.setReg (R.FCQ_SRC_SATFIRST x) tick).setReg (R.FCQ_SRC_SATCNT x) 0).setReg (R.FCQ_SAT_SUM (x / 32))
        (s.reg (R.FCQ_SAT_SUM (x / 32)) ||| (1 <<< (x % 32)))).setFld (F.FCQ_Q_STAT.SEEN k)
        (s.fld (F.FCQ_Q_STAT.SEEN k) ||| 1)).report C.FCQ_SATURATED (srcSource x) tick.toNat
  let s2 := ((s1.setReg (R.FCQ_SRC_SATLAST x) tick).addSat (F.FCQ_SRC_SATCNT.PKTS x) 1).addSat (F.FCQ_SRC_SATCNT.FAILUI x) ui
  let q := s2.queue k
  (s2.setSource x { v with saturated := true, refusedNow := true, cause := if v.saturated then v.cause ||| why else why, refused := v.refused + 1 }).setQueue k
    { q with episodes := if v.saturated then q.episodes else q.episodes + 1 }

/-- A packet of source `x` handed over is placed against a credit, to be written in the next tick, or refused (R266, R268 to R270). [DEDUCED 43] -/
def State.handOver (s0 : State) (x : Nat) (tick : Wide) (e o : Half) (p : CapPkt) : State :=
  let s := if s0.satExitDue x then s0.endEpisode x false else s0
  let k := s.srcQueueOf x
  let v := s.source x
  let st := (s.queue k).st
  let ui := popNat 16 e.toNat + popNat 16 o.toNat
  if v.saturated || v.cr = 0 || !(st == .run || st == .flush) then s.refusePkt x tick ui
  else (s.setSource x { v with cr := v.cr - 1 }).setQueue k { s.queue k with inFlight := (s.queue k).inFlight ++ [p] }

/-- The record area of a fail region in bytes (R282). -/
def State.frArea (s : State) (k : Nat) : Nat :=
  if s.fld (F.FCQ_Q_CFG.FORM k) = 2 then 0x100000 else s.fld (F.FCQ_FR_SIZE.SIZE k) * 4096 - 4096

/-- The base address of a fail region. -/
def State.frBase (s : State) (k : Nat) : Nat := s.fld (F.FCQ_FR_BASE.ADDR k) * 4096

/-- The NI of queue `k`'s drain group (R354). [PRESUMED 58] -/
def drainNi (k : Nat) : Nat := 144 + k / 8

/-- The header of a fail region (R283). [DEDUCED 44] -/
def State.frHeader (s : State) (k : Nat) : List Byte :=
  let q := s.queue k
  leBytes 2 1 ++ leBytes 2 0x8840 ++ leBytes 1 k ++ leBytes 1 (s.fld (F.FCQ_Q_CFG.FORM k)) ++
  leBytes 1 (s.fld (F.FCQ_Q_CFG.WRAP k) + 2 * s.fld (F.FCQ_Q_CFG.BM_WRAP k) + 4 * b2n q.closed + 8 * b2n q.fullLog) ++
  leBytes 1 (s.queueSite k) ++ leBytes 8 (s.reg (R.FCQ_FR_WTOTAL k)).toNat ++ leBytes 8 (s.frArea k) ++
  leBytes 8 (s.reg (R.FCQ_FR_TBASE k)).toNat ++ leBytes 4 (s.fld (F.FCQ_FR_NPLACED.RECORDS k)) ++
  leBytes 4 (s.fld (F.FCQ_FR_NPLACED.OUTMAP k)) ++ leBytes 4 q.resets ++ leBytes 4 q.episodes ++ leBytes 8 s.tick.toNat ++ leBytes 8 0

/-- The drain writes the header of queue `k`'s fail region, where the network lets it. -/
def State.writeHeader (s : State) (k : Nat) : State :=
  let c := memCheck s (drainNi k) (s.frBase k) 64 true
  if c = 0 then s.unitWrite (drainNi k) (s.frBase k) (s.frHeader k) else s.accLog (drainNi k) (s.frBase k) c

/-- The level crossings of stream queue `j` (R299). -/
def State.crossings (s : State) (j : Nat) : State :=
  let q := s.stream j
  let level := q.items.length
  if !q.high && s.fld (F.FCQ_SQ_WM.HI j) ≤ level then
    ((s.setStream j { q with high := true }).setFld (F.FCQ_SQ_STAT.SEEN j) (s.fld (F.FCQ_SQ_STAT.SEEN j) ||| 1)).addSat
      (F.FCQ_SQ_XCNT.XHI_CNT j) 1
  else if q.high && level ≤ s.fld (F.FCQ_SQ_WM.LO j) then
    ((s.setStream j { q with high := false }).setFld (F.FCQ_SQ_STAT.SEEN j) (s.fld (F.FCQ_SQ_STAT.SEEN j) ||| 2)).addSat
      (F.FCQ_SQ_XCNT.XLO_CNT j) 1
  else s

/-- Items with the packet marks (R257): `first` where they begin a packet, `last` where they end it. -/
def partItems (first last : Bool) (ws : List Word) : List StreamItem :=
  (List.range ws.length).map (fun i => ⟨ws.getD i 0, first && i == 0, last && i + 1 == ws.length⟩)

/-- The items of a whole packet with its marks. -/
def packetItems (ws : List Word) : List StreamItem := partItems true true ws

/-- Both copies of WPTR advance by `n` items (R258, R295). -/
def StreamQueue.wAdvance (q : StreamQueue) (n : Nat) : StreamQueue :=
  { q with wptr := (q.wptr + n) % 2 ^ 32, wptr2 := (q.wptr2 + n) % 2 ^ 32 }

/-- Both copies of RPTR advance by `n` items (R258, R295). -/
def StreamQueue.rAdvance (q : StreamQueue) (n : Nat) : StreamQueue :=
  { q with rptr := (q.rptr + n) % 2 ^ 32, rptr2 := (q.rptr2 + n) % 2 ^ 32 }

/-- Whether stream queue `j` is in RUN with room for `n` more items. -/
def State.streamRoom (s : State) (j n : Nat) : Bool :=
  s.bit (F.FCQ_SQ_CFG.EN j) && !(s.stream j).reset && decide ((s.stream j).items.length + n ≤ 4096)

/-- Whether a producer that writes whole packets can put one of `n` items into stream queue `j` now: there is room, and no packet of another producer stands
unfinished. [DESIGN CHOICE 127] -/
def State.streamTakes (s : State) (j n : Nat) : Bool := s.streamRoom j n && (s.stream j).filling == 0

/-- A whole packet is put into stream queue `j`, which has room for it (R298, R299). -/
def State.streamPut (s : State) (j : Nat) (ws : List Word) : State :=
  let q := s.stream j
  (s.setStream j { q.wAdvance ws.length with items := q.items ++ packetItems ws }).crossings j

/-- The 32-bit items of a record's bytes. -/
def bytesToWords : List Byte → List Word
  | a :: b :: c :: d :: rest => (d ++ c ++ b ++ a) :: bytesToWords rest
  | _ => []

/-- A record that the drain of queue `k` writes is copied to its mirror stream queue, or counted as not copied (R298). -/
def State.mirrorRecord (s : State) (k : Nat) (bs : List Byte) : State :=
  if s.bit (F.FCQ_Q_CFG.MIRROR k) then
    let j := s.fld (F.FCQ_Q_CFG.MSQ k)
    if s.streamTakes j (bs.length / 4) then s.streamPut j (bytesToWords bs) else s.addSat (F.FCQ_SQ_DROP.COUNT j) 1
  else s

/-- The replay marks that a write up to WTOTAL value `e` overtakes are lost (R293). -/
def State.overtakeMarks (s : State) (k e : Nat) : State :=
  (List.range 4).foldl (fun t m =>
    if t.bit (F.FCQ_FR_MARK.VALID k m) && decide (t.fld (F.FCQ_FR_MARK.POS k m) + t.frArea k < e) then
      ((t.setFld (F.FCQ_FR_MARK.VALID k m) 0).setFld (F.FCQ_FR_MARK.LOST k m) 1).report C.FCQ_MARK_LOST (srcQueue k) m
    else t) s

/-- A record of queue `k` that is not placed (R290), for want of room or with the code of its failed write. -/
def State.recordNotPlaced (s : State) (k code : Nat) : State :=
  let s1 := s.addSat (F.FCQ_FR_NPLACED.RECORDS k) 1
  if code = 0 then
    if (s1.queue k).fullLog then s1
    else (s1.setQueue k { s1.queue k with fullLog := true }).report C.FCQ_REGION_FULL (srcQueue k) 0
  else s1.report C.FCQ_DRAIN_ERR (srcQueue k) code

/-- The bytes that a record of `len` bytes takes in a ring of `area` bytes at WTOTAL `w`, a PAD record before it counted (R285). -/
def recordSpan (area w len : Nat) : Nat := len + (if area < w % area + len then 16 else 0)

/-- Whether a record that takes `n` bytes at WTOTAL `w` fits the fail region of queue `k` (R290). -/
def State.recordFits (s : State) (k w n : Nat) : Bool := decide (32 ≤ s.frArea k) && (s.bit (F.FCQ_Q_CFG.WRAP k) || decide (w + n ≤ s.frArea k))

/-- The 16-byte PAD record (R284); the spec gives it no tick, so that is a free value. [DEDUCED 44] -/
def State.padRecord (s : State) : List Byte :=
  leBytes 8 (Config.unstated s.free 284) ++ leBytes 4 0 ++ leBytes 1 0xFF ++ leBytes 2 0 ++ leBytes 1 0x0F

/-- A record under way, without the PAD record that stands before it where one is needed (R285). -/
def padded (bs : List Byte) : Option (List Byte) × List Byte := if bs.length = 48 then (some (bs.take 16), bs.drop 16) else (none, bs)

/-- WTOTAL of queue `k` once every record under way is written. -/
def State.totalAhead (s : State) (k : Nat) : Nat :=
  (s.queue k).writes.foldl (fun w bs => w + recordSpan (s.frArea k) w (padded bs).2.length) (s.reg (R.FCQ_FR_WTOTAL k)).toNat

/-- The drain writes a record of queue `k` (R286, R290, R293, R298): where it fits, the marks it overtakes are lost, it is mirrored, after the PAD record that it needs, and
its memory write is under way. [DEDUCED 44] -/
def State.pushRecord (s : State) (k : Nat) (bs : List Byte) : State :=
  let w := s.totalAhead k
  let n := recordSpan (s.frArea k) w bs.length
  if !s.recordFits k w n then s.recordNotPlaced k 0
  else
    let s1 := s.overtakeMarks k (w + n)
    if n = bs.length then (s1.setQueue k { s1.queue k with writes := (s1.queue k).writes ++ [bs] }).mirrorRecord k bs
    else
      let pad := s.padRecord
      (((s1.setQueue k { s1.queue k with writes := (s1.queue k).writes ++ [pad ++ bs] }).mirrorRecord k pad).tookFree).mirrorRecord k bs

/-- The RUN record of a run of source `x` (R284). -/
def runRecord (x : Nat) (r : OpenRun) : List Byte :=
  leBytes 8 r.first.toNat ++ leBytes 2 r.fwE.toNat ++ leBytes 2 r.fwO.toNat ++ leBytes 1 x ++ [r.flags] ++ [r.siteCtx] ++ leBytes 1 3 ++
  leBytes 8 r.last.toNat ++ leBytes 4 r.len ++ leBytes 4 0

/-- The open run of source `x` in queue `k`. -/
def CapQueue.run (q : CapQueue) (x : Nat) : Option OpenRun := mget (fun _ => none) x q.runs

/-- The open run of source `x`, if any, is closed and written as a RUN record (R287). -/
def State.closeRun (s : State) (k x : Nat) : State :=
  match (s.queue k).run x with
  | none => s
  | some r =>
    let s1 := s.pushRecord k (runRecord x r)
    s1.setQueue k { s1.queue k with runs := mset (fun _ => none) x none (s1.queue k).runs }

/-- Every open run of queue `k` is closed. -/
def State.closeRuns (s : State) (k : Nat) : State := (s.queueSources k).foldl (fun t x => t.closeRun k x) s

/-- The COUNT record of source `x` (R284, R289). -/
def State.countRecord (s : State) (x : Nat) : List Byte :=
  let v := s.source x
  leBytes 8 v.firstTick.toNat ++ leBytes 4 v.placed ++ leBytes 1 x ++ leBytes 1 0 ++ leBytes 1 (s.rgnSite (s.xRegion x)) ++ leBytes 1 4 ++
  leBytes 8 v.lastTick.toNat ++ leBytes 4 v.placedUi ++ leBytes 4 v.refused

/-- One COUNT record for each enabled source of queue `k` (R289); the header follows each of them into memory (R283). -/
def State.writeCounts (s : State) (k : Nat) : State :=
  (s.queueSources k).foldl (fun t x => t.pushRecord k (t.countRecord x)) s

/-- A placed packet of source `x` in RLE form (R287): it extends the open run or opens a new one. -/
def State.rlePacket (s : State) (k x : Nat) (tick : Wide) (e o : Half) (flags siteCtx : Byte) : State :=
  let r := (s.getPsq (s.queueSite k)).rep
  let fresh : OpenRun := ⟨tick, tick, e, o, flags, siteCtx, 1⟩
  let put (t : State) (v : OpenRun) : State :=
    t.setQueue k { t.queue k with runs := mset (fun _ => none) x (some v) (t.queue k).runs }
  match (s.queue k).run x with
  | some v =>
    if v.fwE = e ∧ v.fwO = o ∧ v.flags = flags ∧ tick = v.last + BitVec.ofNat 64 r then
      let t := put s { v with last := tick, len := v.len + 1 }
      if v.len + 1 = 0xFFFFFFFF then t.closeRun k x else t
    else put (s.closeRun k x) fresh
  | none => put s fresh

/-- The bytes of a bitmap changed by one more bit `b` set at address `base` (R288). -/
def State.setMemBit (s : State) (base b : Nat) : State :=
  s.setDpaByte (base + b / 8) (s.dpaByte (base + b / 8) ||| (1 <<< (b % 8)))

/-- A placed packet in BITMAP form (R288). [DESIGN CHOICE 152] -/
def State.bitmapPacket (s : State) (k x : Nat) (tick : Wide) (e o : Half) (flags : Byte) : State :=
  let r := (s.getPsq (s.queueSite k)).rep
  let tb := s.reg (R.FCQ_FR_TBASE k)
  let frames := s.fld (F.FCQ_FR_BMCFG.FRAMES k)
  let f := (tick.toNat - tb.toNat) / r
  if tick.toNat < tb.toNat ∨ (frames ≤ f ∧ !s.bit (F.FCQ_Q_CFG.BM_WRAP k)) then s.addSat (F.FCQ_FR_NPLACED.OUTMAP k) 1
  else
    let row := (f % frames) * 32 * s.fld (F.FCQ_FR_BMCFG.ROWWORDS k) + 32 * s.fld (F.FCQ_SRC_CFG.BM_OFS x)
    let bits := (if flags.getLsbD 0 then onesFrom 16 0 e.toNat else []) ++ (if flags.getLsbD 1 then onesFrom 16 16 o.toNat else [])
    let base := s.frBase k + 0x101000
    bits.foldl (fun t b =>
      let c := memCheck t (drainNi k) (base + (row + b) / 8) 1 true
      if c = 0 then t.setMemBit base (row + b)
      else ((t.accLog (drainNi k) (base + (row + b) / 8) c).addSat (F.FCQ_FR_NPLACED.RECORDS k) 1).report C.FCQ_DRAIN_ERR (srcQueue k) c) s

/-- The drain processes one packet of queue `k` (R286 to R288). -/
def State.drainPkt (s : State) (k : Nat) (p : CapPkt) : State :=
  match p with
  | .fail tick e o x flags site ctx =>
    let form := s.fld (F.FCQ_Q_CFG.FORM k)
    if form = 1 then
      let v := s.source x
      let n := s.fld (F.FCQ_Q_CFG.FIRST_N k)
      if e = 0 ∧ o = 0 then s
      else
        let s1 := s.setSource x { v with firsts := v.firsts + 1 }
        if n = 0 ∨ v.firsts < n then s1.pushRecord k p.bytes else s1
    else if form = 2 then s.bitmapPacket k x tick e o flags
    else if form = 3 then s.rlePacket k x tick e o flags (BitVec.ofNat 8 (site + 16 * ctx))
    else s
  | .sat _ _ x _ _ _ _ => (s.closeRun k x).pushRecord k p.bytes
  | .reset .. => (s.closeRuns k).pushRecord k p.bytes

/-- The packet at read pointer `ptr` of queue `k`. -/
def CapQueue.pktAt (q : CapQueue) (ptr : Nat) : Option CapPkt := (q.pkts.find? (fun p => p.start == ptr)).map (·.pkt)

/-- The END record of queue `k` (R284), made once every record before it is written or lost; WTOTAL counts a PAD record before it. [DEDUCED 44] -/
def State.endRecord (s : State) (k : Nat) : List Byte :=
  let w := (s.reg (R.FCQ_FR_WTOTAL k)).toNat
  leBytes 8 s.tick.toNat ++ leBytes 4 (s.queue k).wrote ++ leBytes 1 0xFF ++ leBytes 1 0 ++ leBytes 1 (s.queueSite k) ++ leBytes 1 5 ++
  leBytes 8 (w + (recordSpan (s.frArea k) w 32 - 32)) ++ leBytes 4 (s.fld (F.FCQ_FR_NPLACED.RECORDS k)) ++
  leBytes 4 (s.fld (F.FCQ_FR_NPLACED.OUTMAP k))

/-- One record written at WTOTAL, marks it overtakes lost first (R285, R290, R291, R293). -/
def State.placeRecord (s : State) (k : Nat) (bs : List Byte) : State :=
  let w := (s.reg (R.FCQ_FR_WTOTAL k)).toNat
  let s1 := s.overtakeMarks k (w + bs.length)
  let s2 := s1.unitWrite (drainNi k) (s1.frBase k + 0x1000 + w % s1.frArea k) bs
  (s2.setReg (R.FCQ_FR_WTOTAL k) (BitVec.ofNat 64 (w + bs.length))).setQueue k { s2.queue k with wrote := (s2.queue k).wrote + 1 }

/-- Byte 15 of a record, its KIND (R284). -/
def recordKind (bs : List Byte) : Nat := (bs.getD 15 0).toNat

/-- The memory write of a record of queue `k` ends with `status` (R285, R290, R291), with its PAD record where it needs one: that which the drain made, or another where lost
records have moved the ring's end. Once END is written the header shows CLOSED (R283). -/
def State.writeRecord (s : State) (k : Nat) (entry : List Byte) (status : Nat) : State :=
  let (pad, bs) := padded entry
  let area := s.frArea k
  let w := (s.reg (R.FCQ_FR_WTOTAL k)).toNat
  let n := recordSpan area w bs.length
  if !s.recordFits k w n then s.recordNotPlaced k 0
  else
    let a := s.frBase k + 0x1000 + (if n = bs.length then w % area else 0)
    let c := memStatus s (drainNi k) a bs.length true status
    let s := s.eccSeen (drainNi k) a bs.length true status
    if c ≠ 0 then (s.accLog (drainNi k) a c).recordNotPlaced k c
    else
      let s1 := if n = bs.length then s else match pad with
        | some b => s.placeRecord k b
        | none => ((s.placeRecord k s.padRecord).mirrorRecord k s.padRecord).tookFree
      let s2 := s1.placeRecord k bs
      if recordKind bs = 5 then s2.setQueue k { s2.queue k with closed := true } else s2

/-- What R273 does to queue `k` when its site is armed; the record writes under way go on, and CAUSE stays that of the last episode. [DEDUCED 128] -/
def State.armQueue (s : State) (k : Nat) : State :=
  let s1 := s.setQueue k { CapQueue.reset with st := .run, writes := (s.queue k).writes }
  let s2 := (s1.queueSources k).foldl (fun t x =>
    t.setSource x { Source.reset with armed := true, cr := t.fld (F.FCQ_SRC_CRED.CAP x), cause := (t.source x).cause }) s1
  let s3 := (s2.setReg (R.FCQ_FR_WTOTAL k) 0).setReg (R.FCQ_FR_NPLACED k) 0
  let s4 := (List.range 4).foldl (fun t m => t.setFld (F.FCQ_FR_MARK.VALID k m) 0) s3
  let s5 := s4.writeHeader k
  if memCheck s5 (drainNi k) (s5.frBase k) 4096 true = 0 then s5.unitWrite (drainNi k) (s5.frBase k + 64) (List.replicate 4032 0) else s5

/-- The tick in which its site leaves the active states is recorded in each of the site's queues in RUN, or in a RESET that it entered from RUN
(R274, R276). -/
def State.leaveQueues (s : State) (n : Nat) : State :=
  (s.siteQueues n).foldl (fun t k =>
    let q := t.queue k
    if q.st == .run || (q.st == .reset && q.back == .run) then t.setQueue k { q with leftAt := some t.tick } else t) s

/-- Whether CAP and SAT_EXIT of source `x` lie in their ranges (R272). -/
def State.creditsOk (s : State) (x : Nat) : Bool :=
  let cap := s.fld (F.FCQ_SRC_CRED.CAP x)
  let ex := s.fld (F.FCQ_SRC_CRED.SAT_EXIT x)
  decide (1 ≤ cap) && decide (cap ≤ 1024) && decide (1 ≤ ex) && decide (ex ≤ cap)

/-- Whether the fail region of queue `k` has a base and the size that its form needs (R272). -/
def State.regionOk (s : State) (k : Nat) : Bool :=
  let size := s.fld (F.FCQ_FR_SIZE.SIZE k) * 4096
  s.fld (F.FCQ_FR_BASE.ADDR k) != 0 && decide (8192 ≤ size) &&
  (s.fld (F.FCQ_Q_CFG.FORM k) != 2 ||
    decide (0x101000 + 4 * s.fld (F.FCQ_FR_BMCFG.FRAMES k) * s.fld (F.FCQ_FR_BMCFG.ROWWORDS k) ≤ size))

/-- What of queue `k` keeps site `n` from being armed under R272, as the SOURCE of the refusal (R305): the queue, or the source at fault; the tap
is judged by the solver. -/
def State.queueBad (s : State) (n k : Nat) : Option Nat :=
  let xs := s.queueSources k
  let caps := (xs.map (fun x => s.fld (F.FCQ_SRC_CRED.CAP x))).sum
  if !s.bit (F.FCQ_Q_CFG.EN k) || (s.queue k).st != .ready then some (srcQueue k)
  else match xs.find? (fun x => !s.xOfSite x n) with
    | some x => some (srcSource x)
    | none =>
      if 4 < xs.length then some (srcQueue k)
      else match xs.find? (fun x => !s.creditsOk x) with
        | some x => some (srcSource x)
        | none =>
          if 2040 < caps || !s.regionOk k then some (srcQueue k)
          else (xs.find? (fun x => s.fld (F.FCQ_Q_CFG.FORM k) == 2 &&
            decide (s.fld (F.FCQ_FR_BMCFG.ROWWORDS k) < s.fld (F.FCQ_SRC_CFG.BM_OFS x) + 1))).map srcSource

/-- What keeps site `n` from being armed under R272: the first fault in the order of its queues. -/
def State.captureBad (s : State) (n : Nat) : Option Nat := (s.siteQueues n).findSome? (s.queueBad n)

/-- Whether the credit rate of the active sites and site `n` keeps within BW_LIMIT (R267), with FCK = FBDIV × 100 MHz ÷ POSTDIV. -/
def State.creditsFit (s : State) (n : Nat) : Bool :=
  let sites := (List.range 16).filter (fun m => m == n || s.siteActive m)
  let rates := ((sites.flatMap s.siteSources).map (fun x => s.fld (F.FCQ_SRC_CFG.RATE x) + 1)).sum
  decide (rates * 16 * s.fckSet.1 ≤ s.fld F.FCQ_GLB_CFG.BW_LIMIT * 10 * 256 * s.fckSet.2)

/-- The state code of a capture queue (R274). -/
def QueueSt.code : QueueSt → Nat
  | .off => 0
  | .ready => 1
  | .run => 2
  | .flush => 3
  | .reset => 4

/-- The status word of capture queue `k` (R302); the sticky bits are those of the register. -/
def State.queueStatus (s : State) (k : Nat) : Nat :=
  (s.queue k).st.code + 16 * s.fld (F.FCQ_Q_CFG.TAP_EN k) +
  32 * b2n ((s.queueSources k).any (fun x => (s.source x).saturated)) + 64 * s.fld (F.FCQ_Q_STAT.SEEN k) + 2 ^ 16 * s.queueLevel k

/-- The status word of stream queue `j` (R302). -/
def State.streamStatus (s : State) (j : Nat) : Nat :=
  (if !s.bit (F.FCQ_SQ_CFG.EN j) then 0 else if (s.stream j).reset then 4 else 2) + 8 + 32 * b2n (s.stream j).high +
  64 * s.fld (F.FCQ_SQ_STAT.SEEN j) + 2 ^ 16 * (s.stream j).items.length

/-- The items that a reset of queue `k` discards (R296): those in the ring and those of the packets placed in the present tick. -/
def State.itemsHeld (s : State) (k : Nat) : Nat := s.queueLevel k + 4 * (s.queue k).inFlight.length

/-- A source as the reset of its queue leaves it (R296, R303): no credit, a refill pending, and CAUSE with RESET where a packet was refused in this tick. -/
def Source.queueReset (v : Source) : Source :=
  { v with cr := 0, acc := if v.acc < 256 then 256 else v.acc, marker := false,
           cause := if v.refusedNow && v.saturated then v.cause ||| 4 else v.cause }

/-- A capture queue enters RESET (R296): its items, `lvl` of them, are discarded, its pointers take the value of WPTR's first copy, its sources lose
their credits and have a refill pending. [DEDUCED 45] -/
def State.resetQueue (s : State) (k lvl : Nat) : State :=
  let q := s.queue k
  let s1 := s.setQueue k { q with st := .reset, back := if q.st == .reset then q.back else q.st, pkts := [], inFlight := [], rptr := q.wptr,
                                  tptr := q.wptr, wptr2 := q.wptr, rptr2 := q.wptr, tptr2 := q.wptr, discarded := lvl, resetAt := s.tick,
                                  resets := q.resets + 1 }
  let s2 := (s1.queueSources k).foldl (fun t x => t.setSource x (t.source x).queueReset) s1
  (s2.addSat (F.FCQ_Q_CMDSTAT.RESET_CNT k) 1).setFld (F.FCQ_Q_STAT.SEEN k) (s2.fld (F.FCQ_Q_STAT.SEEN k) ||| 4)

/-- A stream queue that is emptied (R296, R298): pointers at WPTR's first copy; the rest of a packet that is being written is discarded as it arrives. [DESIGN CHOICE 127] -/
def StreamQueue.emptied (q : StreamQueue) : StreamQueue :=
  { q with items := [], wptr2 := q.wptr, rptr := q.wptr, rptr2 := q.wptr, readIn := 0, dropping := decide (0 < q.filling) }

/-- A stream queue enters RESET (R296, R297). -/
def State.resetStream (s : State) (j : Nat) : State :=
  let q := s.stream j
  ((s.setStream j { q.emptied with reset := true }).setFld (F.FCQ_SQ_STAT.SEEN j)
    (s.fld (F.FCQ_SQ_STAT.SEEN j) ||| 4)).crossings j

end Sys2Proof.Machine
end

