-- ==== Sys2Proof/Machine/PslOps.lean ====
section
/-! DEFINITION. Pin slices (chapter 05 of spec/): states, the formatter, frames loaded and compared, results and their way back to the
fabric. -/

namespace Sys2Proof.Machine

/-- Whether slice `k` is present (R1, R2). -/
def State.present (s : State) (k : Nat) : Bool := !s.f128 || decide (k < 128)

/-- The slices that the variant has (R2): GLB_INFO.SLICE_COUNT. -/
def State.sliceCount (s : State) : Nat := if s.f128 then 128 else 256

/-- Whether the quadrant of slice `k` is READY. -/
def State.quadReady (s : State) (k : Nat) : Bool := s.present k && s.bit (F.PSL_QSTAT.READY (k / 64))

/-- Whether the PSK PLL of slice `k`'s powered quadrant has lost lock since the quadrant became READY (R600). -/
def State.pskLost (s : State) (k : Nat) : Bool :=
  s.present k && s.pwr.quadUp.contains (k / 64) && !s.bit (F.PSL_QSTAT.READY (k / 64))

/-- Whether slice `k` is assigned to a site. -/
def State.assigned (s : State) (k : Nat) : Bool := s.bit (F.PSL_SITE.EN k)

/-- The site of slice `k`. -/
def State.sliceSite (s : State) (k : Nat) : Nat := s.fld (F.PSL_SITE.SITE k)

/-- Whether slice `k` belongs to site `n`. -/
def State.sliceOf (s : State) (k n : Nat) : Bool := s.assigned k && s.sliceSite k == n

/-- Whether slice `k` belongs to a site that is ARMED, RUNNING or PAUSED. -/
def State.sliceBusy (s : State) (k : Nat) : Bool := s.assigned k && s.siteActive (s.sliceSite k)

/-- The first SAFE condition of slice `k` other than condition 6 that holds, in the order of R244, or 0; `loaded` is whether a frame was loaded since its site
was armed. -/
def State.safeCause (s : State) (k : Nat) (loaded : Bool) : Nat :=
  let m := (s.getPsq (s.sliceSite k)).mode
  if s.assigned k && m == .safeHold then 5
  else if !s.assigned k then 1
  else if !s.bit (F.PSL_STAT.BOUND k) then 2
  else if s.rgnState (s.xRegion (k / 2)) != 3 then 3
  else if (m == .running || m == .paused) && loaded then 0
  else 4

/-- The first SAFE condition of slice `k` that holds, in the order of R244, or 0. [DEDUCED 41] -/
def State.safeWhyWith (s : State) (k : Nat) (loaded : Bool) : Nat :=
  if s.bit F.TICK_STAT.FCK_BUSY || !s.fckOn || s.dev == .fault || s.pskLost k then 6 else s.safeCause k loaded

/-- SAFE_WHY's condition for slice `k` as it stands (R244). -/
def State.safeCond (s : State) (k : Nat) : Nat := s.safeWhyWith k (s.slice k).loaded

/-- PSL_STAT.STATE of slice `k` (R242): 0 OFF, 1 SAFE, 2 ACTIVE, 3 PAUSE, 4 CAL. -/
def State.sliceState (s : State) (k : Nat) : Nat :=
  if !s.quadReady k && !s.pskLost k then 0
  else if s.safeCond k = 6 then 1
  else if (s.slice k).cal then 4
  else match (s.slice k).act with
    | .safe => 1
    | .active => 2
    | .paused => 3

/-- PSL_STAT.SAFE_WHY of slice `k`: the condition, or 0 when STATE is not SAFE; for a slice that is OFF, the condition that its assignment, binding, region and site give, which after
reset is 1 as the register's reset value has it. [DEDUCED 145] -/
def State.safeWhy (s : State) (k : Nat) : Nat :=
  if s.sliceState k = 1 then s.safeCond k else if s.sliceState k = 0 then s.safeCause k (s.slice k).loaded else 0

/-- The effective position in steps of an edge register at UI-repeat factor `r` (R226). -/
def effPos (coarse fine r : Nat) : Nat := 128 * min coarse (r - 1) + fine

/-- The level of DRV up to its first positioned edge in the first frame after SAFE (R225). A mode above 4 counts as NRZ. -/
def drvFirst (mode d : Nat) (eo : Bool) : Bool :=
  if mode = 2 then true else if mode = 3 then !bitOf d 0 else if mode = 4 then eo else false

/-- The level changes of DRV in a frame driven as formatted (R226 to R228, R231): words `d`, mode, effective positions LEAD and TRAIL, EO_LVL and the output
deskew `dk`. A mode above 4 counts as NRZ. -/
def drvEdges (mode : Nat) (d : Nat) (r lead trail dk : Nat) (eo : Bool) : List (Nat × Bool) :=
  let ui (j : Nat) : List (Nat × Bool) :=
    let b := bitOf d j
    let st := 128 * r * j + dk
    if mode = 1 then (st, false) :: (if b && decide (lead < trail) then [(st + lead, true), (st + trail, false)] else [])
    else if mode = 2 then (st, true) :: (if !b && decide (lead < trail) then [(st + lead, false), (st + trail, true)] else [])
    else if mode = 3 then (st, !b) :: (if lead < trail then [(st + lead, b), (st + trail, !b)] else [])
    else if mode = 4 then [(st, eo)]
    else [(st + lead, b)]
  (List.range 16).flatMap ui

/-- The level changes of DEN in a frame (R225, R227): enables `e`, in EO mode gated by `d`. -/
def denEdges (mode : Nat) (d e : Nat) (r denp dk : Nat) : List (Nat × Bool) :=
  (List.range 16).map (fun j => (128 * r * j + dk + denp, if mode = 4 then bitOf d j && bitOf e j else bitOf e j))

/-- The level after a list of level changes that starts from `l`. -/
def lastLevel (l : Bool) (xs : List (Nat × Bool)) : Bool := (xs.getLast?.map (·.2)).getD l

/-- A word as the slice takes it: with SPOL = 1 a word with S = 1 counts as V = 0 (R224). -/
def polWord (spol : Bool) (w : FWord) : FWord := if spol && w.s then { w with v := false } else w

/-- DETAIL of a report of slice `k` (R543): the partner and channel of its binding. -/
def State.pslDetail (s : State) (k : Nat) : Nat := s.fld (F.PSL_BIND.PARTNER k) + s.fld (F.PSL_BIND.CHANNEL k) * 2 ^ 8

/-- The settings registers of slice `k` as they stand, which it takes when it leaves SAFE or CAL (R232). -/
def State.settings (s : State) (k : Nat) : SliceSet :=
  ⟨s.reg (R.PSL_CFG k), s.reg (R.PSL_POS_LEAD k), s.reg (R.PSL_POS_TRAIL k), s.reg (R.PSL_POS_DEN k), s.reg (R.PSL_POS_STRB k), s.reg (R.PSL_DSK_TX k),
    s.reg (R.PSL_DSK_RX k), s.reg (R.PSL_RXALIGN k), s.reg (R.PSL_EQ k)⟩

/-- Field `f` of a register whose value is `v`. -/
def Fld.of (f : Fld) (v : Wide) : Nat := getBits v f.lo f.w

/-- The slice drives the safe state from now on: DEN deasserted, DRV idle (R243). Frames that it has driven are still compared where its state allows it
(R236). -/
def Slice.safe (x : Slice) : Slice := { x with act := .safe, safeDue := none, fresh := true, drvLvl := false, denLvl := false }

/-- The slices `ks` drive the safe state at once: a condition of SAFE_WHY 6, which is timed by REF (R244, R245). -/
def State.safeNow (s : State) (ks : List Nat) : State :=
  { s with slices := mmap (fun _ => Slice.reset) (fun k x => if ks.contains k then x.safe else x) s.slices }

/-- A calibration of slice `k` ends with `status`, logged when it is PSL_CAL_FAIL; the slice is in SAFE. One that fails leaves every register unchanged
(R232, R240, R241). [DEDUCED 39] -/
def State.calEnd (s : State) (k status : Nat) : State :=
  let s0 := if status = 0 then s else s.setReg (R.PSL_DSK_RX k) (s.slice k).calRx
  let s1 := (s0.setSlice k { (s0.slice k).safe with cal := false, set := s0.settings k }).setFld (F.PSL_STAT.CMD_STATUS k) status
  if status = C.PSL_CAL_FAIL then s1.report status (srcSlice k) (s.pslDetail k) else s1

/-- Every calibration in progress fails: FCK is about to change or has stopped, or the device has left service (R241, R244, R255). [DEDUCED 39] -/
def State.calFailAll (s : State) : State :=
  (s.slices.filter (fun e => e.2.cal)).foldl (fun t e => t.calEnd e.1 C.PSL_CAL_FAIL) s

/-- The level of DRV of slice `k`, none while its pads are at electrical idle or high impedance: those of its frames while ACTIVE, in PAUSE with PAUSE_POL = 1
held, in CAL the markers of 64 ticks at 0 and 64 at 1, counted from the tick after CAL was accepted (R240, R242, R243, R246, R248). [DEDUCED 125] -/
def State.drvLine (s : State) (k : Nat) : Option Bool :=
  let x := s.slice k
  match s.sliceState k with
  | 2 => some x.drvLvl
  | 3 => if (F.PSL_CFG.PAUSE_POL k).of x.set.cfg = 1 then some x.drvLvl else none
  | 4 => some (decide (64 ≤ (s.tick.toNat - x.calAt.toNat - 1) % 128))
  | _ => none

/-- The level of DEN of slice `k`, none while its pads are high impedance: deasserted in SAFE and, with PAUSE_POL = 0, in PAUSE; asserted throughout CAL
(R240, R242, R243, R246, R248). -/
def State.denLine (s : State) (k : Nat) : Option Bool :=
  let x := s.slice k
  match s.sliceState k with
  | 0 => none
  | 1 => some false
  | 2 => some x.denLvl
  | 3 => some ((F.PSL_CFG.PAUSE_POL k).of x.set.cfg == 1 && x.denLvl)
  | _ => some true

/-- The frame that slice settings `c` make of a pair of words loaded in tick `t` (R224 to R234): level changes, compare tick and sampling instants. -/
def SliceSet.frame (c : SliceSet) (r : Nat) (fresh : Bool) (drv0 den0 : Bool) (t : Wide) (de ex : FWord) : SliceFrame :=
  let cfg (f : Nat → Fld) : Nat := (f 0).of c.cfg
  let mode := cfg F.PSL_CFG.MODE
  let w := polWord (cfg F.PSL_CFG.SPOL == 1) de
  let eo := cfg F.PSL_CFG.EO_LVL == 1
  let pos (v : Wide) : Nat := effPos ((F.PSL_POS_LEAD.COARSE 0).of v) ((F.PSL_POS_LEAD.FINE 0).of v) r
  let d := de.data.toNat % 65536
  let e := de.data.toNat / 65536
  let dkDen := (F.PSL_DSK_TX.DEN 0).of c.tx
  let drv := if w.v then drvEdges mode d r (pos c.lead) (pos c.trail) ((F.PSL_DSK_TX.DRV 0).of c.tx) eo else []
  let den := if w.v then denEdges mode d e r (pos c.den) dkDen else if cfg F.PSL_CFG.VGAP = 1 then [] else [(dkDen, false)]
  let k := (F.PSL_RXALIGN.K 0).of c.align
  let sample : Int := pos c.strb + 128 * (16 * ((k : Int) - 3) + (F.PSL_RXALIGN.RXOFS 0).of c.align)
  { drive := de, expect := ex, loadTick := t, compare := t + BitVec.ofNat 64 (r + k),
    drv := (if fresh then [(0, drvFirst mode d eo)] else []) ++ drv, den := (if fresh then [(0, false)] else []) ++ den, drv0 := drv0, den0 := den0,
    sampleH := sample - (F.PSL_DSK_RX.CMPH 0).of c.rx, sampleL := sample - (F.PSL_DSK_RX.CMPL 0).of c.rx }

/-- Whether a setting holds a COARSE that `r` clamps (R226). -/
def SliceSet.clamps (c : SliceSet) (r : Nat) : Bool :=
  [c.lead, c.trail, c.den, c.strb].any (fun v => decide (r - 1 < (F.PSL_POS_LEAD.COARSE 0).of v))

/-- Whether the settings order the edges wrongly or name no mode (R227, R228). -/
def SliceSet.disorder (c : SliceSet) (r : Nat) : Bool :=
  let mode := (F.PSL_CFG.MODE 0).of c.cfg
  let pos (v : Wide) : Nat := effPos ((F.PSL_POS_LEAD.COARSE 0).of v) ((F.PSL_POS_LEAD.FINE 0).of v) r
  ((mode == 1 || mode == 2 || mode == 3) && decide (pos c.trail ≤ pos c.lead)) || decide (4 < mode)

/-- Slice `k` loads a frame in the present tick (R223 to R228, R232, R246): nothing when a SAFE condition other than having loaded no frame
holds. [DESIGN CHOICE 150] -/
def State.loadFrame (s : State) (k : Nat) (de ex : FWord) : State :=
  if !s.quadReady k || (s.slice k).cal || s.safeWhyWith k true != 0 || (s.slice k).safeDue.isSome then s
  else
    let x := s.slice k
    let c := if x.act = .safe then s.settings k else x.set
    let r := (s.getPsq (s.sliceSite k)).rep
    let order := c.disorder r
    let f := c.frame r x.fresh x.drvLvl x.denLvl s.tick de ex
    let s1 := s.setSlice k
      { x with act := .active, loaded := true, fresh := false, set := c, frames := x.frames ++ [f], drvLvl := lastLevel x.drvLvl f.drv,
               denLvl := lastLevel x.denLvl f.den, edgeLog := x.edgeLog || order }
    let s3 := if c.clamps r then s1.setFld (F.PSL_STAT.CLAMP k) 1 else s1
    let s4 := if order then s3.setFld (F.PSL_STAT.EDGE_ORDER k) 1 else s3
    if order && !x.edgeLog then s4.report C.PSL_EDGE_ORDER (srcSlice k) (s.pslDetail k) else s4

/-- Whether a UI with expect code `code` fails on comparator samples `h` and `l` (R235). -/
def uiFails (code : Nat) (h l : Bool) : Bool :=
  match code with
  | 0 => !(l && !h)
  | 1 => !(h && !l)
  | 2 => h || l
  | _ => false

/-- The fail word of a frame: expect codes `ex`, samples `h` and `l` after inversion (R236). -/
def failWord (ex : Word) (h l : Half) : Half :=
  BitVec.ofNat 16 ((List.range 16).map (fun j =>
    if uiFails (ex.toNat / 4 ^ j % 4) (h.getLsbD j) (l.getLsbD j) then 2 ^ j else 0)).sum

/-- Whether a frame holds an impossible comparator state in a UI whose code is not X (R235). -/
def cmpBad (ex : Word) (h l : Half) : Bool :=
  (List.range 16).any (fun j => ex.toNat / 4 ^ j % 4 != 3 && h.getLsbD j && l.getLsbD j)

/-- The frame of a slice whose compare tick is `t`. -/
def Slice.frameAt (x : Slice) (t : Wide) : Option SliceFrame := x.frames.find? (fun f => f.compare == t)

/-- Whether a frame is stale: one of its words has S = 1 and SPOL is 0 (R224). -/
def Slice.stale (x : Slice) (f : SliceFrame) : Bool := (F.PSL_CFG.SPOL 0).of x.set.cfg == 0 && (f.expect.s || f.drive.s)

/-- The slice's result of the present tick with what the tick edge adds: the stale mark of its frame, whether it was in SAFE or OFF, the context and the
tick. -/
def State.sliceResult (s : State) (k : Nat) : SliceResult :=
  let st := s.sliceState k
  let x := s.slice k
  let stale := match x.frameAt s.tick with
    | some f => x.stale f
    | none => false
  { x.now with stale := stale, safe := st == 0 || st == 1, ctx := (s.ctxOf (xSlot (k / 2))).active, tick := s.tick }

/-- Frames that begin on the pads at the coming edge and come from a word with V = 0 are counted (R224). -/
def State.countGaps (s : State) : State :=
  s.slices.foldl (fun t e =>
    if e.2.frames.any (fun f => f.loadTick == t.tick && !(polWord ((F.PSL_CFG.SPOL 0).of e.2.set.cfg == 1) f.drive).v) then
      t.addSat (F.PSL_CNT_MISC.VGAP e.1) 1
    else t) s

/-- The tick edge moves every slice's result on (R39, R40) and forgets the frames whose compare tick is past. -/
def State.stepSlices (s : State) : State :=
  { s with slices := mmap (fun _ => Slice.reset) (fun k x =>
      { x with last := if x.now = SliceResult.none ∧ x.last = SliceResult.none ∧ x.act = .safe ∧ !x.cal ∧ x.frames = [] then SliceResult.none
                  else s.sliceResult k,
               now := SliceResult.none, frames := x.frames.filter (fun f => decide (s.tick.toNat < f.compare.toNat)) }) s.slices }

/-- A slice that is to be SAFE in a tick that is not specified, one of `n` from tick `t` on (R245). [DEDUCED 15] -/
def State.safeBy (s : State) (k : Nat) (t : Wide) (n : Nat) : State :=
  (s.setSlice k { s.slice k with safeDue := some (t + BitVec.ofNat 64 (Config.safeDelay s.free k % n)) }).tookFree

/-- At the end of tick q, a SAFE condition that arose in it: the slice is SAFE by the end of q + 4, and a frame that it loaded in q is not driven (R245,
R255). [DEDUCED 15] -/
def State.noteSafe (s : State) (k : Nat) : State :=
  let x := s.slice k
  let why := s.safeCond k
  if x.act = .safe ∨ x.safeDue.isSome ∨ why = 0 ∨ why = 6 then s
  else
    let y := match x.frames.find? (fun f => f.loadTick == s.tick) with
      | some f => { x with frames := x.frames.filter (fun g => g.loadTick != s.tick), drvLvl := f.drv0, denLvl := f.den0 }
      | none => x
    (s.setSlice k y).safeBy k (s.tick + 1) 4

/-- Every slice that holds something notes a condition of the tick that ends. -/
def State.noteSafes (s : State) : State := (s.slices.map (·.1)).foldl (fun t k => t.noteSafe k) s

/-- The slices in their new tick: those whose SAFE condition has reached its tick enter SAFE, at once where it is timed by REF; those of a PAUSED site that
have driven out their frames enter PAUSE (R245, R246). [DEDUCED 15] -/
def State.settleSlice (s0 : State) (k : Nat) : State :=
  let why := s0.safeCond k
  let s := if (s0.slice k).act ≠ .safe ∧ (s0.slice k).safeDue = none ∧ why ≠ 0 ∧ why ≠ 6 then s0.safeBy k s0.tick (if why = 5 then 4 else 5) else s0
  let x := s.slice k
  if x.act = .safe then (if x.safeDue.isSome then s.setSlice k { x with safeDue := none } else s)
  else if why = 6 then s.setSlice k x.safe
  else match x.safeDue with
    | some t => if t.toNat ≤ s.tick.toNat then s.setSlice k x.safe else s
    | none =>
      if (s.getPsq (s.sliceSite k)).mode = .paused then
        let r := (s.getPsq (s.sliceSite k)).rep
        if x.frames.all (fun f => decide (f.loadTick.toNat + 1 + r ≤ s.tick.toNat)) then s.setSlice k { x with act := .paused } else s
      else s

/-- Every slice that holds something settles into the new tick. -/
def State.settleSlices (s : State) : State := (s.slices.map (·.1)).foldl (fun t k => t.settleSlice k) s

/-- The fail packet of X-cell `x` from the results of its two slices (R260 to R262), for the results' tick. -/
def State.failPacket (s : State) (x : Nat) (e o : SliceResult) : CapPkt :=
  let n := s.rgnSite (s.xRegion x)
  let t := if e.compared then e.tick else o.tick
  let slipped (k : Nat) : Bool := s.assigned k && match (s.getPsq (s.sliceSite k)).slipAt with
    | some u => decide (u.toNat ≤ t.toNat)
    | none => false
  let flags := b2n e.compared + 2 * b2n o.compared + 4 * b2n e.stale + 8 * b2n o.stale +
    16 * b2n (slipped (2 * x) || slipped (2 * x + 1)) + 32 * b2n (e.safe || o.safe)
  .fail t (if e.compared then e.fail else 0) (if o.compared then o.fail else 0) x (BitVec.ofNat 8 flags) n (if e.compared then e.ctx else o.ctx)

/-- The X-cell's Q0, but for one that slipped in this tick (R44), and fail packet from the results that its slices registered at the end of the
tick before (R40, R109, R260). -/
def State.returnFails (s : State) (x : Nat) : State :=
  let e := (s.slice (2 * x)).last
  let o := (s.slice (2 * x + 1)).last
  if !(e.compared || o.compared) then s
  else
    let fe : Half := if e.compared then e.fail else 0
    let fo : Half := if o.compared then o.fail else 0
    let w : FWord := ⟨e.safe || o.safe, true, fo ++ fe⟩
    let k := xSlot x
    let base := (s.cellNxt k).getD (s.cell k)
    let s1 := if s.fab.slipped.contains k then s else s.setNxt k { base with q := w }
    if s.srcEn x && (fe != 0 || fo != 0 || s.bit (F.FCQ_SRC_CFG.ALLF x)) then
      s1.setXPkt x (s1.xPkt x ++ [s.failPacket x e o])
    else s1

/-- The reduction of the slices' ORs of the tick before over the slices of site `n` that mask `k` selects, `k` = 4 selecting all
(R39, R183). -/
def State.siteOr (s : State) (n k : Nat) : Bool :=
  s.slices.any (fun e =>
    let r := (s.slice e.1).last
    r.compared && r.fail != 0 && s.sliceOf e.1 n &&
    (k == 4 || bitOf (s.reg (R.PSQ_MMASK n k (e.1 / 32))).toNat (e.1 % 32)))

end Sys2Proof.Machine
end

