-- ==== Sys2Proof/Machine/SlvAlgo.lean ====
section
/-! DEFINITION. What the Damson engine computes (R309 to R315, R334 to R341): descriptors and lane maps read from their bytes, usable
spares, must-repair, the branch-and-bound search, the greedy method and the solve as a whole. -/

namespace Sys2Proof.Machine

/-- The number in the `n` bytes at offset `o` of `bs` (R17). -/
def fieldAt (bs : List Byte) (o n : Nat) : Nat := ofLeBytes ((bs.drop o).take n)

/-- The region descriptor in 64 bytes, none when it is invalid (R312, R313). -/
def parseDesc (b : List Byte) : Option RgnDesc :=
  let f := fieldAt b
  let d : RgnDesc :=
    { rowsM1 := f 0 2, colsM1 := f 2 2, sr := f 4 1, sc := f 5 1, nblk := f 6 1, rgs := f 7 1 % 4, cgs := f 7 1 / 4 % 4, brs := f 8 1,
      bcs := f 9 1, wr := f 10 1, wc := f 11 1, wb := f 12 1, auto := bitOf (f 13 1) 0, lossUnrep := bitOf (f 13 1) 1,
      keep := bitOf (f 13 1) 2, lane := f 14 1 % 16, budget := f 16 4, maskR := f 24 8, maskC := f 32 8, maskB := f 40 2,
      user := f 44 4, resultAddr := f 48 8 }
  let reserved := f 7 1 / 16 + f 13 1 / 8 + f 14 1 / 16 + f 15 1 + f 20 4 + f 42 2 + f 56 8
  if reserved = 0 ∧ d.colsM1 < 16384 ∧ d.sr ≤ 64 ∧ d.sc ≤ 64 ∧ d.nblk ≤ 16 ∧ (d.rowsM1 + 1) % 2 ^ d.rgs = 0 ∧
      (d.colsM1 + 1) % 2 ^ d.cgs = 0 ∧ d.resultAddr % 64 = 0 ∧
      (d.nblk = 0 ∨ (d.rgs ≤ d.brs ∧ d.cgs ≤ d.bcs ∧ d.brs ≤ 16 ∧ d.bcs ≤ 14)) then some d
  else none

/-- The usable spares among the first `n` of a kind, lowest first (R311). -/
def usable (n mask : Nat) : List Nat := (List.range n).filter (fun k => !bitOf mask k)

/-- SR_AVAIL. -/
def RgnDesc.srAvail (d : RgnDesc) : Nat := (usable d.sr d.maskR).length

/-- SC_AVAIL. -/
def RgnDesc.scAvail (d : RgnDesc) : Nat := (usable d.sc d.maskC).length

/-- NB_AVAIL. -/
def RgnDesc.nbAvail (d : RgnDesc) : Nat := (usable d.nblk d.maskB).length

/-- Whether every byte of a list is 0. -/
def allZero (bs : List Byte) : Bool := bs.all (fun b => b == 0)

/-- Segment `i` of a lane map's bytes. -/
def parseSeg (b : List Byte) (i : Nat) : MapSeg :=
  let f := fieldAt b
  let o := 64 + 32 * i
  { fStart := f o 8, fLen := f (o + 8) 4, fpr := f (o + 12) 4, row0 := f (o + 16) 2, rstep := f (o + 18) 2, col0 := f (o + 20) 2,
    cstep := f (o + 22) 2, rgnBase := f (o + 24) 2 }

/-- Pin entry `i` of a lane map's bytes. -/
def parsePin (b : List Byte) (i : Nat) : MapPin :=
  let f := fieldAt b
  let o := 2112 + 8 * i
  { src := f o 1, side := f (o + 1) 1, rgnOfs := f (o + 2) 2, colOfs := f (o + 4) 2, uiCstep := f (o + 6) 1 }

/-- Whether no two pins name the same SRC and SIDE. -/
def pinsDistinct : List MapPin → Bool
  | [] => true
  | p :: ps => ps.all (fun q => !(q.src == p.src && q.side == p.side)) && pinsDistinct ps

/-- The lane map in 2,368 bytes, none when LANE_MAP refuses it (R314, R315). -/
def parseMap (b : List Byte) : Option LaneMap :=
  let f := fieldAt b
  let nseg := f 2 1
  let npin := f 3 1
  let segs := (List.range nseg).map (parseSeg b)
  let pins := (List.range npin).map (parsePin b)
  if f 0 2 = 1 ∧ 1 ≤ nseg ∧ nseg ≤ 64 ∧ 1 ≤ npin ∧ npin ≤ 32 ∧ f 4 4 = 0 ∧ allZero ((b.drop 16).take 48) = true ∧
      segs.all (fun s => s.fLen != 0 && s.fpr != 0) = true ∧ pins.all (fun p => decide (p.side ≤ 1) && decide (p.src < 128)) = true ∧
      pinsDistinct pins = true ∧
      (List.range nseg).all (fun i => f (64 + 32 * i + 26) 6 == 0) = true ∧
      (List.range npin).all (fun i => f (2112 + 8 * i + 7) 1 == 0) = true then
    some ⟨f 8 8, segs, pins⟩
  else none

/-- Row group of a stored cell. -/
def cellR (c : Nat) : Nat := c / 65536

/-- Column group of a stored cell. -/
def cellC (c : Nat) : Nat := c % 65536

/-- Cells in rising order with `c` put in, unchanged when it is there. -/
def insertSorted (c : Nat) : List Nat → List Nat
  | [] => [c]
  | x :: xs => if c < x then c :: x :: xs else if c = x then x :: xs else x :: insertSorted c xs

/-- A list with its repeats dropped, in rising order. -/
def distinct (l : List Nat) : List Nat := l.foldl (fun acc x => insertSorted x acc) []

/-- A repair line in group coordinates: a row group, a column group, or block (i, k). -/
inductive RepLine where
  | row (r : Nat)
  | col (c : Nat)
  | blk (i k : Nat)
deriving DecidableEq, Repr

/-- The block that holds a cell (R309, R310). -/
def RgnDesc.blockOf (d : RgnDesc) (c : Nat) : Nat × Nat :=
  (cellR c * 2 ^ d.rgs / 2 ^ d.brs, cellC c * 2 ^ d.cgs / 2 ^ d.bcs)

/-- Whether a line covers a cell. -/
def RgnDesc.covers (d : RgnDesc) (l : RepLine) (c : Nat) : Bool :=
  match l with
  | .row r => cellR c == r
  | .col k => cellC c == k
  | .blk i k => d.blockOf c == (i, k)

/-- The spares that remain of each kind. -/
structure Rem where
  sr : Nat
  sc : Nat
  nb : Nat
deriving DecidableEq, Repr

/-- A number put into a list in falling order. -/
def insertDown (x : Nat) : List Nat → List Nat
  | [] => [x]
  | y :: ys => if y ≤ x then x :: y :: ys else y :: insertDown x ys

/-- How often each number occurs, as counts in falling order. -/
def countsDown (l : List Nat) : List Nat :=
  ((distinct l).map (fun x => (l.filter (fun y => y == x)).length)).foldl (fun acc n => insertDown n acc) []

/-- The uncovered cells of one line less the `nb` largest of its per-block counts (R335). -/
def excess (nb : Nat) (blocks : List Nat) : Nat := blocks.length - ((countsDown blocks).take nb).sum

/-- The row groups of the cells `u` that must take a spare row (R335). -/
def RgnDesc.mustRow (d : RgnDesc) (u : List Nat) (m : Rem) : Option Nat :=
  (distinct (u.map cellR)).find? (fun r =>
    decide (m.sc < excess m.nb ((u.filter (fun c => cellR c == r)).map (fun c => (d.blockOf c).2))))

/-- The column groups of the cells `u` that must take a spare column (R335). -/
def RgnDesc.mustCol (d : RgnDesc) (u : List Nat) (m : Rem) : Option Nat :=
  (distinct (u.map cellC)).find? (fun k =>
    decide (m.sr < excess m.nb ((u.filter (fun c => cellC c == k)).map (fun c => (d.blockOf c).1))))

/-- The cost of a line (R336). -/
def RgnDesc.cost (d : RgnDesc) : RepLine → Nat
  | .row _ => d.wr
  | .col _ => d.wc
  | .blk _ _ => d.wb

/-- The spares that remain after a line is taken, none when its kind has none left. -/
def Rem.take (m : Rem) : RepLine → Option Rem
  | .row _ => if m.sr = 0 then none else some { m with sr := m.sr - 1 }
  | .col _ => if m.sc = 0 then none else some { m with sc := m.sc - 1 }
  | .blk _ _ => if m.nb = 0 then none else some { m with nb := m.nb - 1 }

/-- A partial repair: the uncovered cells, the cost, the spares that remain and the lines taken. -/
structure Partial where
  u     : List Nat
  cost  : Nat
  rem   : Rem
  lines : List RepLine
deriving DecidableEq, Repr

/-- A partial repair with one more line, none when its kind has no spare left. -/
def RgnDesc.takeLine (d : RgnDesc) (p : Partial) (l : RepLine) : Option Partial :=
  match p.rem.take l with
  | none => none
  | some m => some ⟨p.u.filter (fun c => !d.covers l c), p.cost + d.cost l, m, p.lines ++ [l]⟩

/-- Must-repair to its fixed point, none when it is infeasible (R335). Every line taken covers a cell, so as many rounds as there are cells
are enough. -/
def RgnDesc.mustRepair (d : RgnDesc) : Nat → Partial → Option Partial
  | 0, p => some p
  | n + 1, p =>
    match d.mustRow p.u p.rem with
    | some r => match d.takeLine p (.row r) with
      | some q => d.mustRepair n q
      | none => none
    | none => match d.mustCol p.u p.rem with
      | some k => match d.takeLine p (.col k) with
        | some q => d.mustRepair n q
        | none => none
      | none => some p

/-- The cells taken by the walk of R337. -/
def RgnDesc.lbWalk (d : RgnDesc) (nb : Bool) : List Nat → List Nat → Nat
  | [], _ => 0
  | c :: cs, taken =>
    if taken.any (fun t => cellR t == cellR c || cellC t == cellC c || (nb && d.blockOf t == d.blockOf c)) then d.lbWalk nb cs taken
    else 1 + d.lbWalk nb cs (c :: taken)

/-- The least cost among the kinds that have a spare left, 0 when none has. -/
def RgnDesc.leastCost (d : RgnDesc) (m : Rem) : Nat :=
  let ws := (if m.sr > 0 then [d.wr] else []) ++ (if m.sc > 0 then [d.wc] else []) ++ (if m.nb > 0 then [d.wb] else [])
  match ws with
  | [] => 0
  | w :: rest => rest.foldl min w

/-- LB of R337. -/
def RgnDesc.lowerBound (d : RgnDesc) (u : List Nat) (m : Rem) : Nat := d.lbWalk (decide (m.nb > 0)) u [] * d.leastCost m

/-- What a search has found: its nodes, whether the budget ran out, and its best cost and lines. -/
structure Found where
  nodes     : Nat
  exhausted : Bool
  best      : Option (Nat × List RepLine)
deriving DecidableEq, Repr

/-- Whether the best solution found costs at most `n`. -/
def Found.atMost (f : Found) (n : Nat) : Bool :=
  match f.best with
  | some b => decide (b.1 ≤ n)
  | none => false

/-- The branch-and-bound search (R336). Each level covers a cell, so as many levels as there are cells are enough. -/
def RgnDesc.search (d : RgnDesc) : Nat → Partial → Found → Found
  | 0, _, f => f
  | n + 1, p, f =>
    match p.u with
    | [] => f
    | c :: _ =>
      [RepLine.row (cellR c), RepLine.col (cellC c), RepLine.blk (d.blockOf c).1 (d.blockOf c).2].foldl (fun g l =>
        if g.exhausted then g
        else match d.takeLine p l with
          | none => g
          | some q =>
            if g.nodes = d.budget then { g with exhausted := true }
            else
              let h := { g with nodes := g.nodes + 1 }
              match d.mustRepair q.u.length q with
              | none => h
              | some r =>
                if r.u = [] then (if h.atMost r.cost then h else { h with best := some (r.cost, r.lines) })
                else if h.atMost (r.cost + d.lowerBound r.u r.rem) then h
                else d.search n r h) f

/-- The place of a line in the order of R338 and R341: kind, then address. -/
def RepLine.rank : RepLine → Nat × Nat
  | .row r => (0, r)
  | .col c => (1, c)
  | .blk i k => (2, k * 65536 + i)

/-- Whether one line comes before another in that order. -/
def RepLine.before (a b : RepLine) : Bool :=
  decide (a.rank.1 < b.rank.1) || (a.rank.1 == b.rank.1 && decide (a.rank.2 < b.rank.2))

/-- The line that the greedy method takes: among the kinds with spares remaining, the one that covers most cells, ties to the first in
order (R338). -/
def RgnDesc.greedyPick (d : RgnDesc) (p : Partial) : Option RepLine :=
  let cands := (p.u.flatMap (fun c => [RepLine.row (cellR c), RepLine.col (cellC c), RepLine.blk (d.blockOf c).1 (d.blockOf c).2])).filter
    (fun l => (p.rem.take l).isSome)
  let count (l : RepLine) : Nat := (p.u.filter (fun c => d.covers l c)).length
  cands.foldl (fun best l => match best with
    | none => some l
    | some b => if count b < count l || (count l == count b && l.before b) then some l else some b) none

/-- The greedy method (R338), none when it fails. -/
def RgnDesc.greedy (d : RgnDesc) : Nat → Partial → Option Partial
  | 0, p => if p.u = [] then some p else none
  | n + 1, p =>
    match d.mustRepair p.u.length p with
    | none => none
    | some q =>
      if q.u = [] then some q
      else match d.greedyPick q with
        | none => none
        | some l => match d.takeLine q l with
          | some r => d.greedy n r
          | none => none

/-- The answer of a solve: CLASS, SRC, COST, NODES, UNCOV (none where the spec gives no value), the lines with those of phase 3 first,
how many of them are must lines, and the flags BUDGET, BB_SKIPPED and PROVEN. -/
structure Answer where
  cls     : Nat
  src     : Nat
  cost    : Nat
  nodes   : Nat
  uncov   : Option Nat
  lines   : List RepLine
  musts   : List RepLine
  budget  : Bool
  skipped : Bool
  proven  : Bool
deriving DecidableEq, Repr

/-- An UNREPAIRABLE answer. -/
def Answer.unrep (nodes : Nat) (uncov : Option Nat) (budget skipped proven : Bool) : Answer :=
  ⟨3, 3, 0, nodes, uncov, [], [], budget, skipped, proven⟩

/-- The solve of R334: descriptor, stored cells, must lines, whether the region is early-unrepairable and whether a loss flag is set. -/
def solveRegion (d : RgnDesc) (cells mustRows mustCols : List Nat) (early loss : Bool) : Answer :=
  if loss && d.lossUnrep then Answer.unrep 0 none false false false
  else if early then Answer.unrep 0 none false false true
  else
    let u := cells.filter (fun c => !mustRows.contains (cellR c) && !mustCols.contains (cellC c))
    if d.srAvail < mustRows.length ∨ d.scAvail < mustCols.length then Answer.unrep 0 none false false true
    else
      let p : Partial :=
        { u := u, cost := mustRows.length * d.wr + mustCols.length * d.wc,
          rem := ⟨d.srAvail - mustRows.length, d.scAvail - mustCols.length, d.nbAvail⟩,
          lines := mustRows.map RepLine.row ++ mustCols.map RepLine.col }
      match d.mustRepair u.length p with
      | none => Answer.unrep 0 none false false true
      | some q =>
        let left := some q.u.length
        if q.u = [] then ⟨1, 0, q.cost, 0, left, q.lines, q.lines, false, false, false⟩
        else
          let skipped := decide (8192 < q.u.length)
          let f : Found := if d.budget = 0 || skipped then ⟨0, true, none⟩ else d.search q.u.length q ⟨0, false, none⟩
          let ranOut := f.exhausted && !(d.budget == 0 || skipped)
          if !f.exhausted then
            match f.best with
            | some b => ⟨1, 1, b.1, f.nodes, left, b.2, q.lines, false, false, false⟩
            | none => Answer.unrep f.nodes left false false true
          else
            match d.greedy q.u.length q, f.best with
            | some g, some b =>
              if g.cost < b.1 then ⟨2, 2, g.cost, f.nodes, left, g.lines, q.lines, ranOut, skipped, false⟩
              else ⟨2, 1, b.1, f.nodes, left, b.2, q.lines, ranOut, skipped, false⟩
            | some g, none => ⟨2, 2, g.cost, f.nodes, left, g.lines, q.lines, ranOut, skipped, false⟩
            | none, some b => ⟨2, 1, b.1, f.nodes, left, b.2, q.lines, ranOut, skipped, false⟩
            | none, none => Answer.unrep f.nodes left ranOut skipped false

/-- A line put into a list in the order of R341. -/
def insertLine (l : RepLine) : List RepLine → List RepLine
  | [] => [l]
  | x :: xs => if l.before x then l :: x :: xs else x :: insertLine l xs

/-- The 8 bytes of a repair entry (R340): the line, its spare and whether it is a must line. -/
def entryBytes (d : RgnDesc) (l : RepLine) (spare : Nat) (must : Bool) : List Byte :=
  match l with
  | .row r => leBytes 1 1 ++ leBytes 1 spare ++ leBytes 1 (b2n must) ++ leBytes 1 0 ++ leBytes 4 (r * 2 ^ d.rgs)
  | .col c => leBytes 1 2 ++ leBytes 1 spare ++ leBytes 1 (b2n must) ++ leBytes 1 0 ++ leBytes 4 (c * 2 ^ d.cgs)
  | .blk i k => leBytes 1 3 ++ leBytes 1 spare ++ leBytes 1 (b2n must) ++ leBytes 1 0 ++ leBytes 4 (k * 65536 + i)

/-- The entries of one kind, each with the next usable spare of that kind (R341). -/
def entriesWith (d : RgnDesc) (musts : List RepLine) : List RepLine → List Nat → List Byte
  | l :: ls, sp :: sps => entryBytes d l sp (musts.contains l) ++ entriesWith d musts ls sps
  | _, _ => []

/-- The repair entries of an answer (R341). -/
def Answer.entries (a : Answer) (d : RgnDesc) : List Byte :=
  let sorted := a.lines.foldl (fun acc l => insertLine l acc) []
  entriesWith d a.musts (sorted.filter (fun l => l.rank.1 == 0)) (usable d.sr d.maskR) ++
  entriesWith d a.musts (sorted.filter (fun l => l.rank.1 == 1)) (usable d.sc d.maskC) ++
  entriesWith d a.musts (sorted.filter (fun l => l.rank.1 == 2)) (usable d.nblk d.maskB)

end Sys2Proof.Machine
end

