-- ==== Sys2Proof/Machine/SlvOps.lean ====
section
/-! DEFINITION. The Damson engine's operations on the state (R316 to R345): the fail-line store, collection, taps, region states,
results and replays. -/

namespace Sys2Proof.Machine

/-- The NI of solver lane `l` (R354). [PRESUMED 58] -/
def solverNi (l : Nat) : Nat := 153 + l / 4

/-- The store units that a region holds: one for each row group and each column group that has stored cells, and its must lines
(R318). -/
def SlvRgn.units (r : SlvRgn) : Nat :=
  (distinct (r.cells.map cellR)).length + (distinct (r.cells.map cellC)).length + r.mustRows.length + r.mustCols.length

/-- The units on the die. -/
def State.storeUnits (s : State) : Nat := (s.slv.rgns.map (fun e => if e.2.spilled then 0 else e.2.units)).sum

/-- The units in the spill area. -/
def State.spillUnits (s : State) : Nat := (s.slv.rgns.map (fun e => if e.2.spilled then e.2.units else 0)).sum

/-- The units that the spill area holds. -/
def State.spillCap (s : State) : Nat := s.fld F.SLV_SPILL_SIZE.SIZE * 4096 / 16

/-- The OPEN or CLOSED region of lane `l` on the die that holds the most units, the lowest-numbered on a tie (R320). -/
def State.spillVictim (s : State) (l : Nat) : Option Nat :=
  (s.slv.rgns.foldl (fun best e =>
    if (e.2.st == .opened || e.2.st == .closed) && e.2.desc.lane == l && !e.2.spilled && decide (0 < e.2.units) then
      match best with
      | none => some e
      | some b => if b.2.units < e.2.units then some e else best
    else best) none).map (·.1)

/-- The units in the spill area are written by lane `l` (R320): the spec gives no layout of the area, so its used bytes are free values; where the network
refuses the access nothing is written. [DESIGN CHOICE 130] -/
def State.spillWrite (s : State) (l : Nat) : State :=
  let a := s.fld F.SLV_SPILL_BASE.ADDR * 4096
  let n := 16 * s.spillUnits
  if n = 0 || memCheck s (solverNi l) a n true != 0 then s else (s.unitWrite (solverNi l) a (s.openBytes 0x50000 n)).tookFree

/-- Room for `n` more units of region `g`, after moving regions to the spill area where that is needed (R320, R321); with no other region to move, `g` itself
goes there; `rounds` bounds the regions moved. -/
def State.slvRoom (l g n : Nat) : Nat → State → State × Bool
  | 0, s => (s, false)
  | k + 1, s =>
    if (s.srgn g).spilled then (s, decide (s.spillUnits + n ≤ s.spillCap))
    else if s.storeUnits + n ≤ 1048576 then (s, true)
    else
      let v := (s.spillVictim l).getD g
      if s.spillUnits + (s.srgn v).units ≤ s.spillCap ∧ (0 < (s.srgn v).units ∨ s.spillUnits + n ≤ s.spillCap) then State.slvRoom l g n k ((s.setSrgn v { s.srgn v with spilled := true }).spillWrite l)
      else (s, false)

/-- Every unit of region `g` freed. -/
def State.freeUnits (s : State) (g : Nat) : State :=
  s.setSrgn g { s.srgn g with cells := [], mustRows := [], mustCols := [], spilled := false }

/-- The early must-repair of R318 after a cell of group (gr, gc) was stored. -/
def SlvRgn.earlyMust (r : SlvRgn) (gr gc : Nat) : SlvRgn :=
  let d := r.desc
  if d.nbAvail ≠ 0 then r
  else
    let r1 :=
      if d.scAvail < (r.cells.filter (fun c => cellR c == gr)).length then
        { r with mustRows := insertSorted gr r.mustRows, cells := r.cells.filter (fun c => cellR c != gr) }
      else if d.srAvail < (r.cells.filter (fun c => cellC c == gc)).length then
        { r with mustCols := insertSorted gc r.mustCols, cells := r.cells.filter (fun c => cellC c != gc) }
      else r
    if d.srAvail < r1.mustRows.length ∨ d.scAvail < r1.mustCols.length then
      { r1 with early := true, cells := [], mustRows := [], mustCols := [] }
    else r1

/-- apply() of R318 for region `g` of lane `l`; must-repair frees its units before a unit is asked for (R347), and lane counters change only for a live packet
(R345). -/
def State.slvApply (s : State) (l g gr gc : Nat) (live : Bool) : State :=
  let s0 := if live then s.addSat (F.SLV_LANE_APPLIED.BITS l) 1 else s
  let r := { s0.srgn g with failBits := satAt 0xFFFFFFFF ((s0.srgn g).failBits + 1) }
  let key := gr * 65536 + gc
  let s1 := s0.setSrgn g r
  if r.early || r.mustRows.contains gr || r.mustCols.contains gc || r.cells.contains key then s1
  else
    let after := SlvRgn.earlyMust { r with cells := insertSorted key r.cells } gr gc
    let (s2, room) := if after.units ≤ r.units then (s1, true) else State.slvRoom l g (after.units - r.units) 4 s1
    let r2 := s2.srgn g
    if room then
      let s3 := s2.setSrgn g { after with spilled := r2.spilled }
      if r2.spilled then s3.spillWrite l else s3
    else
      let s3 := (s2.setSrgn g { r2 with storeLoss := true, dropped := satAt 0xFFFFFFFF (r2.dropped + 1), fullLog := true }).setFld
        F.SLV_STAT.FULL_SEEN 1
      let s4 := if live then s3.addSat (F.SLV_LANE_DROP_STORE.COUNT l) 1 else s3
      if r2.fullLog then s4 else s4.report C.SLV_STORE_FULL (srcSolver l g) 0

/-- The pin entry for a source and side. -/
def LaneMap.pin (m : LaneMap) (src side : Nat) : Option MapPin := m.pins.find? (fun p => p.src == src && p.side == side)

/-- The lowest-numbered segment that holds frame `f`. -/
def LaneMap.seg (m : LaneMap) (f : Nat) : Option MapSeg :=
  m.segs.find? (fun g => decide (g.fStart ≤ f) && decide (f < g.fStart + g.fLen))

/-- Whether a collector of lane `l` adds fails to region `g`: an OPEN region of the lane, or the region of the replay (R316, R345). -/
def State.collects (s : State) (l : Nat) (only : Option Nat) (g : Nat) : Bool :=
  match only with
  | none => decide (g ≤ 4095) && (s.srgn g).st == .opened && (s.srgn g).desc.lane == l
  | some t => g == t

/-- One more fail bit counted as dropped, for a live packet (R316). -/
def State.dropBits (s : State) (only : Option Nat) (f : Fld) (n : Nat) : State := if only.isNone then s.addSat f n else s

/-- The fail word `fw` of one side of a fail packet with compare tick `t` mapped and applied (R316); `only` is the region of a
replay. -/
def State.collectSide (s : State) (l : Nat) (only : Option Nat) (m : LaneMap) (e : TapEntry) (t src side : Nat) (fw : Half)
    (stale : Bool) : State :=
  let n := popNat 16 fw.toNat
  if fw = 0 then s
  else if stale && !s.bit (F.SLV_LANE_CFG.STALE_USE l) then s.dropBits only (F.SLV_LANE_DROP_STALE.COUNT l) n
  else match m.pin src side with
    | none => s.dropBits only (F.SLV_LANE_DROP_MAP.COUNT l) n
    | some p =>
      if t < e.t0 then s.dropBits only (F.SLV_LANE_DROP_MAP.COUNT l) n
      else
        let f := (t - e.t0) / e.rep
        match m.seg f with
        | none => s.dropBits only (F.SLV_LANE_DROP_MAP.COUNT l) n
        | some g =>
          let i := f - g.fStart
          let row := (g.row0 + i / g.fpr * g.rstep) % 65536
          let cb := g.col0 + i % g.fpr * g.cstep + p.colOfs
          let rg := g.rgnBase + p.rgnOfs
          (onesFrom 16 0 fw.toNat).foldl (fun u j =>
            let col := (cb + j * p.uiCstep) % 16384
            if !u.collects l only rg then u.dropBits only (F.SLV_LANE_DROP_RGN.COUNT l) 1
            else
              let d := (u.srgn rg).desc
              if d.rowsM1 < row ∨ d.colsM1 < col then u.dropBits only (F.SLV_LANE_DROP_RANGE.COUNT l) 1
              else u.slvApply l rg (row / 2 ^ d.rgs) (col / 2 ^ d.cgs) only.isNone) s

/-- A fail packet collected (R316). -/
def State.collectFail (s : State) (l : Nat) (only : Option Nat) (m : LaneMap) (e : TapEntry) (t src : Nat) (fwE fwO : Half)
    (flags : Byte) : State :=
  let slip := flags.getLsbD 4
  let s1 := if flags.getLsbD 0 then s.collectSide l only m e t src 0 fwE (flags.getLsbD 2 || slip) else s
  if flags.getLsbD 1 then s1.collectSide l only m e t src 1 fwO (flags.getLsbD 3 || slip) else s1

/-- INPUT_LOSS set on region `g` of lane `l`, logged once per region and run (R317). -/
def State.markLoss (s : State) (l g : Nat) : State :=
  let r := s.srgn g
  let s1 := s.setSrgn g { r with inputLoss := true, lossLog := true }
  if r.lossLog then s1 else s1.report C.SLV_INPUT_LOSS (srcSolver l g) 0

/-- The regions that source `src` maps to in the frames from tick `t1` to tick `t2` (R317). -/
def LaneMap.lossRegions (m : LaneMap) (e : TapEntry) (src t1 t2 : Nat) : List Nat :=
  if t2 < e.t0 then []
  else
    let f1 := (t1 - e.t0) / e.rep
    let f2 := (t2 - e.t0) / e.rep
    distinct ((m.segs.filter (fun g => decide (g.fStart ≤ f2) && decide (f1 < g.fStart + g.fLen))).flatMap (fun g =>
      (m.pins.filter (fun p => p.src == src)).map (fun p => g.rgnBase + p.rgnOfs)))

/-- A saturation marker collected (R317). -/
def State.collectSat (s : State) (l : Nat) (only : Option Nat) (m : LaneMap) (e : TapEntry) (src t1 t2 : Nat) : State :=
  (m.lossRegions e src t1 t2).foldl (fun u g => if u.collects l only g then u.markLoss l g else u) s

/-- A reset marker collected (R317). -/
def State.collectReset (s : State) (l : Nat) (only : Option Nat) : State :=
  match only with
  | some g => s.markLoss l g
  | none => (s.slv.rgns.map (·.1)).foldl (fun u g => if u.collects l none g then u.markLoss l g else u) s

/-- Whether queue `k` is tapped to lane `l` in RUN or FLUSH (R323); a queue in RESET keeps the state it returns to. -/
def State.tapLive (s : State) (l k : Nat) : Bool :=
  let q := s.queue k
  let st := if q.st == .reset then q.back else q.st
  s.bit (F.FCQ_Q_CFG.TAP_EN k) && s.fld (F.FCQ_Q_CFG.TAP_LANE k) == l && (st == .run || st == .flush)

/-- The queues tapped to lane `l` in RUN or FLUSH. -/
def State.liveTaps (s : State) (l : Nat) : List Nat := (List.range 64).filter (s.tapLive l)

/-- The queues tapped to lane `l` of the sites whose ARM is accepted in the present tick: they are in RUN from the next tick on (R164, R273). -/
def State.armingTaps (s : State) (l : Nat) : List Nat :=
  ((List.range 16).filter (fun n => (s.getPsq n).next == some .arm)).flatMap (fun n =>
    (s.siteQueues n).filter (fun k => s.bit (F.FCQ_Q_CFG.TAP_EN k) && s.fld (F.FCQ_Q_CFG.TAP_LANE k) == l))

/-- Whether lane `l` accepts the taps of the queues `ks` (R324): with those in RUN or FLUSH, and those that an ARM of this tick brings there, at most 4. -/
def State.tapsOk (s : State) (l : Nat) (ks : List Nat) : Bool :=
  s.bit F.SLV_CTRL.EN && (s.lane l).map.isSome &&
  decide ((distinct (s.liveTaps l ++ s.armingTaps l ++ ks)).length ≤ 4)

/-- The lane's counters cleared (R324, R328). -/
def State.clearLaneCounts (s : State) (l : Nat) : State :=
  (((((s.setReg (R.SLV_LANE_APPLIED l) 0).setReg (R.SLV_LANE_DROP_RGN l) 0).setReg (R.SLV_LANE_DROP_RANGE l) 0).setReg
    (R.SLV_LANE_DROP_MAP l) 0).setReg (R.SLV_LANE_DROP_STALE l) 0).setReg (R.SLV_LANE_DROP_STORE l) 0

/-- A tap list with an entry for a queue: in the entry's own place when it is listed, else added, or put in the place of the first entry
whose queue is no longer tapped. [DEDUCED 50] -/
def putTap (live : Nat → Bool) (e : TapEntry) (ts : List TapEntry) : List TapEntry :=
  if ts.any (fun t => t.queue == e.queue) then ts.map (fun t => if t.queue = e.queue then e else t)
  else if ts.length < 4 then ts ++ [e]
  else match ts.findIdx? (fun t => !live t.queue) with
    | some i => setNth i e ts
    | none => ts

/-- A new run of lane `l` begins: its regions log loss of input and a full store once more (R317, R321). [DEDUCED 129] -/
def State.newRun (s : State) (l : Nat) : State :=
  { s with slv := { s.slv with rgns := mmap (fun _ => SlvRgn.reset) (fun _ r =>
      if r.desc.lane = l then { r with lossLog := false, fullLog := false } else r) s.slv.rgns } }

/-- The fail region of queue `k` is re-initialised: every replay that reads it has lost its mark (R347). -/
def State.loseReplays (s : State) (k : Nat) : State :=
  { s with slv := { s.slv with lanes := mmap (fun _ => SlvLane.reset) (fun _ v =>
      { v with replays := v.replays.map (fun r => if r.srcs.any (fun q => q.tap.queue == k) then { r with lost := true } else r) }) s.slv.lanes } }

/-- Lane `l` accepts the tap of queue `k` of site `n`, which has just been re-initialised (R324, R325). [DEDUCED 50] -/
def State.acceptTap (s : State) (l k n : Nat) : State :=
  let v := s.lane l
  let s0 := if v.collect then s else (s.clearLaneCounts l).newRun l
  let old := if v.collect then v.taps else []
  let e : TapEntry := ⟨k, n, (v.map.map (·.tbase)).getD 0, (s.getPsq n).rep⟩
  let s1 := s0.setLane l { v with collect := true, taps := putTap (s0.tapLive l) e old }
  if s.bit (F.SLV_LANE_CFG.MARK_EN l) then
    let m := s.fld (F.SLV_LANE_CFG.MARK_NUM l)
    (s1.setFld (F.FCQ_FR_MARK.POS k m) 0).setFld (F.FCQ_FR_MARK.VALID k m) 1
  else s1

/-- The start tick of site `n` reaches the lanes that its queues are tapped to (R316). -/
def State.tapStart (s : State) (n : Nat) (s0 : Wide) : State :=
  (List.range 16).foldl (fun t l =>
    let v := t.lane l
    match v.map with
    | some m =>
      if v.collect && s.bit (F.SLV_LANE_CFG.TREL l) then
        t.setLane l { v with taps := v.taps.map (fun e => if e.site = n ∧ s.tapLive l e.queue = true then
          { e with t0 := s0.toNat + m.tbase } else e) }
      else t
    | none => t) s

/-- Region `g` joins the queue of its lane (R333). -/
def State.queueRgn (s : State) (g : Nat) : State :=
  let r := s.srgn g
  let v := s.lane r.desc.lane
  (s.setSrgn g { r with st := .queued }).setLane r.desc.lane { v with queue := v.queue ++ [g] }

/-- An OPEN region closes, and is queued when AUTO = 1 (R328). -/
def State.closeRgn (s : State) (g : Nat) : State :=
  let s1 := s.setSrgn g { s.srgn g with st := .closed }
  if (s.srgn g).desc.auto then s1.queueRgn g else s1

/-- A lane that no queue taps any more returns to MAPPED and its AUTO regions close (R326). -/
def State.settleLane (s : State) (l : Nat) : State :=
  if (s.lane l).collect && (s.liveTaps l).isEmpty then
    (s.slv.rgns.map (·.1)).foldl (fun t g =>
      if (t.srgn g).st == .opened && (t.srgn g).desc.lane == l && (t.srgn g).desc.auto then t.closeRgn g else t)
      (s.setLane l { s.lane l with collect := false })
  else s

/-- Every lane settles. -/
def State.settleLanes (s : State) : State := (List.range 16).foldl State.settleLane s

/-- The result record of a solve of region `g` on lane `l` that began in tick `start` (R340 to R342). [DESIGN CHOICE 51] -/
def State.slvRecord (s : State) (l g : Nat) (start : Wide) (a : Answer) : List Byte :=
  let r := s.srgn g
  let d := r.desc
  let ents := a.entries d
  let flags := b2n r.inputLoss + 2 * b2n r.storeLoss + 4 * b2n a.budget + 8 * b2n a.skipped + 16 * b2n a.proven + 32 * b2n r.resolve +
    64 * b2n r.replayed + 128 * b2n r.early
  let kinds (k : Nat) : Nat := (a.lines.filter (fun x => x.rank.1 == k)).length
  leBytes 2 1 ++ leBytes 2 (64 + ents.length) ++ leBytes 2 g ++ leBytes 1 a.cls ++ leBytes 1 flags ++ leBytes 1 a.src ++ leBytes 1 l ++
  leBytes 1 (kinds 0) ++ leBytes 1 (kinds 1) ++ leBytes 1 (kinds 2) ++ leBytes 1 (r.seq + 1) ++ leBytes 2 a.cost ++
  leBytes 1 d.srAvail ++ leBytes 1 d.scAvail ++ leBytes 1 d.nbAvail ++ leBytes 1 0 ++ leBytes 4 d.user ++ leBytes 4 a.nodes ++
  leBytes 4 (a.uncov.getD (Config.unstated s.free g)) ++ leBytes 4 r.failBits ++ leBytes 4 r.dropped ++ leBytes 8 start.toNat ++
  leBytes 8 s.tick.toNat ++ leBytes 8 0 ++ ents

/-- The solve of region `g` of lane `l` has ended and every write of its result is done (R340). -/
def State.finishSolve (s : State) (l g cls : Nat) : State :=
  let r := s.srgn g
  let seq := (r.seq + 1) % 256
  let r1 := { r with st := .solved, seq := seq, cls := cls, prev := some r.desc, kept := r.desc.keep, resolve := false, replayed := false }
  let s1 := (s.setSrgn g r1).setLane l { s.lane l with solving := none, waiting := none }
  let s2 := if r.desc.keep then s1 else s1.freeUnits g
  s2.postEvent 2 g (l + 256 * cls + 65536 * seq) (28 + l)

/-- The waiting result of lane `l` is not copied to its stream queue (R343); `code` says why. -/
def State.dropResult (s : State) (l : Nat) (v : SlvResult) (code : Nat) : State :=
  ((s.addSat (F.FCQ_SQ_DROP.COUNT v.queue) 1).report C.SLV_RESULT_ERR (srcSolver l v.region) code).finishSolve l v.region v.cls

/-- A waiting result finds room, is dropped because its queue is OFF or in RESET, or goes on waiting (R343). -/
def State.tryResult (s : State) (l : Nat) : State :=
  match (s.lane l).waiting with
  | none => s
  | some v =>
    let j := v.queue
    if !s.bit (F.FCQ_SQ_CFG.EN j) then s.dropResult l v C.STATE_REFUSED
    else if (s.stream j).reset then s.dropResult l v C.FCQ_PTR_MISMATCH
    else if s.streamTakes j (v.bytes.length / 4) then (s.streamPut j (bytesToWords v.bytes)).finishSolve l v.region v.cls
    else s

/-- Stream queue `j` is switched OFF or enters RESET: every result that waits for it is dropped (R343). -/
def State.resultQueueGone (s : State) (j code : Nat) : State :=
  (List.range 16).foldl (fun t l => match (t.lane l).waiting with
    | some v => if v.queue = j then t.dropResult l v code else t
    | none => t) s

/-- The records of queue `k` from ring position `pos` to `fin`, replayed into region `g` (R345); `fuel` bounds the records. -/
def State.replayRecords (l g : Nat) (m : LaneMap) (e : TapEntry) : Nat → Nat → Nat → State → State
  | 0, _, _, s => s
  | fuel + 1, pos, fin, s =>
    if fin ≤ pos then s
    else
      let k := e.queue
      let area := s.frArea k
      let at_ (p : Nat) : Nat := s.frBase k + 0x1000 + p % area
      let kind := s.dpaNat (at_ pos + 15) 1
      let f (o n : Nat) : Nat := s.dpaNat (at_ pos + o) n
      if kind = 0 then
        State.replayRecords l g m e fuel (pos + 16) fin
          (s.collectFail l (some g) m e (f 0 8) (f 12 1) (BitVec.ofNat 16 (f 8 2)) (BitVec.ofNat 16 (f 10 2)) (BitVec.ofNat 8 (f 13 1)))
      else if kind = 3 then
        let s1 := (List.range (f 24 4)).foldl (fun t i =>
          t.collectFail l (some g) m e (f 0 8 + i * e.rep) (f 12 1) (BitVec.ofNat 16 (f 8 2)) (BitVec.ofNat 16 (f 10 2))
            (BitVec.ofNat 8 (f 13 1))) s
        State.replayRecords l g m e fuel (pos + 32) fin s1
      else if kind = 1 then State.replayRecords l g m e fuel (pos + 32) fin (s.collectSat l (some g) m e (f 12 1) (f 0 8) (f 16 8))
      else if kind = 2 then State.replayRecords l g m e fuel (pos + 16) fin (s.collectReset l (some g))
      else if kind = 4 ∨ kind = 5 then State.replayRecords l g m e fuel (pos + 32) fin s
      else State.replayRecords l g m e fuel (pos + 16) fin s

end Sys2Proof.Machine
end

