-- ==== Sys2Proof/Machine/CscOps.lean ====
section
/-! DEFINITION. The constellation block's votes, holds and links as far as the tick drives them (R460 to R464, R479 to R489). -/

namespace Sys2Proof.Machine

/-- CSTATE FORMED (R474). -/
def State.formed (s : State) : Bool := s.fld F.CSC_STAT.CSTATE == 3

/-- Fu of TICK_VOTE_FLIGHT. -/
def State.flightUp (s : State) : Nat := s.fld F.TICK_VOTE_FLIGHT.FLIGHT_UP

/-- F = Fu + Fd (R41). -/
def State.flight (s : State) : Nat := s.flightUp + s.fld F.TICK_VOTE_FLIGHT.FLIGHT_DOWN

/-- The upstream and downstream ports of the formed constellation (CSC_PORT_STAT.USE 1 or 2). -/
def State.formedPorts (s : State) : List Nat :=
  (List.range 8).filter (fun p => s.fld (F.CSC_PORT_STAT.USE p) == 1 || s.fld (F.CSC_PORT_STAT.USE p) == 2)

/-- The upstream port. -/
def State.upPorts (s : State) : List Nat := (List.range 8).filter (fun p => s.fld (F.CSC_PORT_STAT.USE p) == 1)

/-- The position 1 to 12 that data bit `i` of a half takes (R463). -/
def hamPos (i : Nat) : Nat := [3, 5, 6, 7, 9, 10, 11, 12].getD i 0

/-- The four check bits of 8 data bits (R463). -/
def hamCheck (d : Nat) : Nat :=
  (List.range 4).foldl (fun acc k =>
    acc + 2 ^ k * (((List.range 8).filter (fun i => bitOf d i && bitOf (hamPos i) k)).length % 2)) 0

/-- The vote field with VV, TAG and GRP (R462, R463). -/
def voteField (vv : Bool) (tag : Nat) (grp : Byte) : BitVec 24 :=
  let hi := b2n vv * 128 + (tag % 64) * 2
  BitVec.ofNat 24 (hi * 2 ^ 16 + hamCheck hi * 2 ^ 12 + grp.toNat * 16 + hamCheck grp.toNat)

/-- One half decoded (R463): the data, and whether a bit was corrected; none when it is uncorrectable. -/
def hamDecode (d c : Nat) : Option (Nat × Bool) :=
  let syn := Nat.xor (hamCheck d) c
  if syn = 0 then some (d, false)
  else if syn ≤ 12 then
    match (List.range 8).find? (fun i => hamPos i == syn) with
    | some i => some (Nat.xor d (2 ^ i), true)
    | none => some (d, true)
  else none

/-- A vote field decoded: VV, TAG and GRP; none when a half is uncorrectable (R463). -/
def voteDecode (f : BitVec 24) : Option (Bool × Nat × Byte) :=
  let v := f.toNat
  match hamDecode (v / 2 ^ 16) (v / 2 ^ 12 % 16), hamDecode (v / 16 % 256) (v % 16) with
  | some (h, _), some (l, _) => some (bitOf h 7, h / 2 % 64, BitVec.ofNat 8 l)
  | _, _ => none

/-- The corrections in a vote field (R463), one for each half in which one bit is inverted. -/
def voteFixes (f : BitVec 24) : Nat :=
  let one (r : Option (Nat × Bool)) : Nat := match r with
    | some (_, a) => b2n a
    | none => 0
  one (hamDecode (f.toNat / 2 ^ 16) (f.toNat / 2 ^ 12 % 16)) + one (hamDecode (f.toNat / 16 % 256) (f.toNat % 16))

/-- Whether site `n` votes in group `g` (R481): one that has no slice comparing in the tick votes 0. [DEDUCED 84] -/
def State.votesIn (s : State) (n g : Nat) : Bool := s.effBit n (F.PSQ_VOTE_CFG.EN n) && s.effFld n (F.PSQ_VOTE_CFG.GROUP n) == g

/-- The votes of the device's own sites, combined group by group (R481), from the results of the tick before. -/
def State.combineOwn (s : State) : Half :=
  BitVec.ofNat 16 ((List.range 16).map (fun g =>
    let all := s.bit (F.CSC_VGRP_CFG.RULE g)
    let votes := ((List.range 16).filter (fun n => s.votesIn n g)).map (fun n => s.siteOr n (s.effFld n (F.PSQ_VOTE_CFG.MASK n)))
    if (if all then votes.all id else votes.any id) then 2 ^ g else 0)).sum

/-- The identity of every group's rule (R481). -/
def State.identityVotes (s : State) : Half :=
  BitVec.ofNat 16 ((List.range 16).map (fun g => if s.bit (F.CSC_VGRP_CFG.RULE g) then 2 ^ g else 0)).sum

/-- The device's combined votes for compare tick `t`. [DEDUCED 84] -/
def State.ownVotes (s : State) (t : Nat) : Half :=
  match s.csc.own.find? (fun e => e.1 == t) with
  | some e => e.2
  | none => s.identityVotes

/-- Two bytes of votes combined by the rules of groups 0 to 7. -/
def State.combineVotes (s : State) (a b : Byte) : Byte :=
  let all : Byte := s.identityVotes.setWidth 8
  ((a &&& b) &&& all) ||| ((a ||| b) &&& ~~~ all)

/-- The field that port `p` received for compare tick `t`, when it has one. -/
def State.fieldFor (s : State) (p t : Nat) : Option Byte := ((s.cport p).fields.find? (fun e => e.1 == t)).map (·.2)

/-- A block queued for the links of the ports `ps` in tick `t`. -/
def State.sendAt (s : State) (t : Nat) (ps : List Nat) (b : CscBlock) : State :=
  { s with csc := { s.csc with due := s.csc.due ++ ps.map (fun p => (t, p, b)) } }

/-- A block on the link of port `p` in the present tick. -/
def State.sendNow (s : State) (p : Nat) (b : CscBlock) : State := { s with csc := { s.csc with out := s.csc.out ++ [(p, b)] } }

/-- Whether a block is a HOLD (R461). -/
def CscBlock.isHold : CscBlock → Bool
  | .ctl t _ => t == 0x78
  | _ => false

/-- Whether a block carries a vote field with VV = 1 (R482). -/
def CscBlock.isVote : CscBlock → Bool
  | .vote _ => true
  | _ => false

/-- The FIELD of a HOLD block (R461). -/
def holdField (kind eff grp origin : Nat) : BitVec 24 := BitVec.ofNat 24 (kind * 2 ^ 22 + (eff % 64) * 2 ^ 16 + grp * 256 + origin)

/-- An event of a FORMED device in tick `c` raises a hold (R486, R487): its HOLD block goes out in tick c + 2 on every formed port, when it
names a group of the constellation or is of KIND ALL, in three consecutive block times. Since EFF and ORIGIN name a hold, the holds that the device raises in one tick share
one block: of KIND ALL when one of them is, which covers the others (R497), else with the groups of all. [DEDUCED 84] -/
def State.raiseCscHold (s : State) (kind : Nat) (grp : Half) (code : Nat) : State :=
  if !s.formed then s
  else
    let origin := s.fld F.CSC_STAT.POSITION
    let eff := s.tick + BitVec.ofNat 64 (12 + s.flight)
    let h : CscHold := ⟨kind, grp, origin, code, eff⟩
    let s1 : State := { s with csc := { s.csc with holds := s.csc.holds ++ [h] } }
    let mine := s1.csc.holds.filter (fun x => x.eff == eff && x.origin == origin)
    let all : Bool := mine.any (fun x => x.kind == 2)
    let groups := if all then 0 else (mine.foldl (fun (a : Half) x => a ||| x.grp) 0).toNat % 256
    if all || groups != 0 then
      let c := s.tick.toNat
      let s2 : State := { s1 with csc := { s1.csc with due := s1.csc.due.filter (fun e => !(e.1 == c + 2 && e.2.2.isHold)) } }
      s2.sendAt (c + 2) (s.formedPorts.flatMap (List.replicate 3)) (.ctl 0x78 (holdField (if all then 2 else 1) eff.toNat groups origin))
    else s1

/-- The decisions delivered in the present tick (R480, R482, R483), for compare tick T with present tick T + 9 + F: groups 8 to 15 and those of
a device in ALONE resolve within the device. -/
def State.decisionNow (s : State) : Half :=
  let u := s.tick.toNat
  if u < 9 + s.flight then 0
  else
    let t := u - 9 - s.flight
    let recorded := s.csc.own.any (fun e => e.1 == t)
    let own : Half := if recorded then s.ownVotes t else 0
    if s.fld F.CSC_STAT.CSTATE = 0 then own
    else
      let low : Byte := match s.csc.decs.find? (fun e => e.1 == t) with
        | some e => e.2
        | none => 0
      (own &&& 0xFF00) ||| low.setWidth 16

/-- At the end of a tick the own votes on the frames compared in the tick before are combined and kept until they are delivered. -/
def State.keepVotes (s : State) : State :=
  let old := s.tick.toNat - 9 - s.flight
  let s1 := { s with csc := { s.csc with own := s.csc.own.filter (fun e => decide (old < e.1)),
                                         decs := s.csc.decs.filter (fun e => decide (old < e.1)) } }
  if (List.range 16).any (fun n => s.effBit n (F.PSQ_VOTE_CFG.EN n)) then
    { s1 with csc := { s1.csc with own := s1.csc.own ++ [(s.tick.toNat - 1, s.combineOwn)] } }
  else s1

/-- Whether the device is quiet under R475: no site of it is ARMED, RUNNING or PAUSED and no load is in progress. -/
def State.cscQuiet (s : State) : Bool := (List.range 16).all (fun n => !s.siteActive n) && s.cfg.load.isNone

/-- The DEVICE_ID as a number, byte 15 most significant (R470). -/
def State.deviceId (s : State) : Nat :=
  ((List.range 4).map (fun i => (s.fld (F.SEC_DEVICE_ID.ID i)) * 2 ^ (32 * i))).sum

/-- The rank of a ROLE as a pole candidate (R469, R470): POLE above AUTO, the others never. -/
def roleRank (role : Nat) : Nat := if role = 1 then 2 else if role = 0 then 1 else 0

/-- The device leaves the constellation it was in and starts discovery with itself as the candidate its role allows (R469, R470); while not quiet it
stays PENDING, and discovery waits until it is (R475). A conflict of poles lasts until the next FORM (R470). -/
def State.enterDiscover (s : State) : State :=
  let q := s.cscQuiet
  let s1 := (List.range 8).foldl (fun t p =>
    (t.setCport p { t.cport p with joined := false, cal := none, loops := [], worst := 0, seen := 0, dnArr := 0, fields := [],
                                   lostAt := none }).setFld (F.CSC_PORT_STAT.USE p) 0) s
  let s2 := (s1.setFlds [(F.CSC_STAT.CSTATE, if q then 1 else 4), (F.CSC_STAT.POLE, 0), (F.CSC_STAT.ALIGNED, 0), (F.CSC_STAT.POSITION, 0),
    (F.CFG_CHAIN.POSITION, 0), (F.CSC_VSCHED.DN_ARR, 0), (F.CSC_VSCHED.UP_SEND, 3)]).setReg R.CSC_MEMBERS 0
  { s2 with csc := { s2.csc with
      cand := if roleRank s2.csc.role = 0 then none else some (roleRank s2.csc.role, s2.deviceId), up := none, members := [],
      below := [], cutAt := none, fckset := none, recal := false, walk := [], waits := !q, told := false } }

/-- The device is on its own (R474): position 0 and F = 0. -/
def State.enterAlone (s : State) : State :=
  let s1 := s.enterDiscover
  let s2 := ((s1.setFld F.CSC_STAT.CSTATE 0).setReg R.TICK_VOTE_FLIGHT 0).setReg R.CSC_VSCHED 3
  { s2 with csc := { s2.csc with waits := false } }

/-- SOURCE of a report of port `p` (R542): the port and the position of its neighbour. -/
def State.srcPort (s : State) (p : Nat) : Nat := srcCascade p (s.fld (F.CSC_PORT_STAT.PEER p))

/-- Whether port `p` is UP (R465). -/
def State.portUp (s : State) (p : Nat) : Bool := s.fld (F.CSC_PORT_STAT.LSTATE p) == 2

/-- A packet queued on port `p` under the next SEQ (R467): it goes out at once while fewer than 64 are unacknowledged. -/
def State.sendPkt (s : State) (p : Nat) (k : CscPkt) : State :=
  if !s.portUp p then s
  else
    let c := s.cport p
    let s1 := s.setCport p { c with txSeq := (c.txSeq + 1) % 1024, unacked := c.unacked ++ [(c.txSeq, 0, k)] }
    if c.unacked.length < 64 then s1.sendNow p (.pkt c.txSeq k) else s1

/-- SRC of a packet sent now: the position, 0xFF before one is assigned (R466). -/
def State.ownSrc (s : State) : Byte :=
  if s.fld F.CSC_STAT.CSTATE = 3 ∨ s.bit F.CSC_STAT.POLE then BitVec.ofNat 8 (s.fld F.CSC_STAT.POSITION)
  else if s.fld F.CSC_STAT.POSITION = 0 then 0xFF else BitVec.ofNat 8 (s.fld F.CSC_STAT.POSITION)

/-- A packet of this device towards position `d`, or to every device with 0xFD (R468). -/
def State.sendTo (s : State) (d : Nat) (k : CscPkt) : State :=
  if d = 0xFD then s.formedPorts.foldl (fun t p => t.sendPkt p k) s
  else match s.portTo d with
    | some p => s.sendPkt p k
    | none => s

/-- A packet of this device: its OP, destination, tag, ARG and body. -/
def State.mkPkt (s : State) (op dst tag : Nat) (arg : Nat) (body : List Byte) : CscPkt :=
  ⟨BitVec.ofNat 8 op, s.ownSrc, BitVec.ofNat 8 dst, BitVec.ofNat 8 tag, BitVec.ofNat 64 arg, body⟩

/-- REPORT of this device (R472, R476, R479): its state, PMIN, flights, POS_REQ and depth 1. [DEDUCED 78] -/
def State.sendReport (s : State) : State :=
  match s.csc.up with
  | none => s
  | some p =>
    let arg := s.glbState + s.fld F.TICK_BUDGET_STAT.PMIN_PS * 2 ^ 16 + (s.cport p).dnArr % 256 * 2 ^ 32 + s.fld F.CSC_VSCHED.DN_ARR * 2 ^ 40
    s.sendPkt p (s.mkPkt 0x12 0xFE 0 arg (leBytes 16 s.deviceId ++ leBytes 1 s.csc.posReq ++ leBytes 1 1 ++ leBytes 6 0))

/-- A FORMED member tells the pole of a change between quiet and active, so that the pole knows whether a site of a member is active (R493, R495). [DEDUCED 142] -/
def State.tellPole (s : State) : State :=
  let active := (List.range 16).any s.siteActive
  if !s.formed || s.bit F.CSC_STAT.POLE || active == s.csc.told then s
  else ({ s with csc := { s.csc with told := active } }).sendReport

/-- Whether the device sends vote fields: FORMED, or aligned within a calibration, in which the flights are measured (R479, R482). -/
def State.sendsVotes (s : State) : Bool := s.formed || (s.fld F.CSC_STAT.CSTATE == 2 && s.bit F.CSC_STAT.ALIGNED)

/-- The SYNC blocks of a calibration under way (R476): 64 of them, one every 256 ticks; PH is left open, since it depends on the block times. [DESIGN CHOICE 80] -/
def State.sendSyncs (s : State) : State :=
  (List.range 8).foldl (fun t p =>
    match (t.cport p).cal with
    | some b =>
      let u := t.tick.toNat
      if b ≤ u ∧ (u - b) % 256 = 0 ∧ (u - b) / 256 < 64 then
        ((t.setCport p { t.cport p with lastSync := u }).sendNow p
          (.ctl 0x2D (BitVec.ofNat 24 (u % 2 ^ 18 * 64 + Config.unstated t.free p % 64)))).tookFree
      else t
    | none => t) s

/-- What the constellation block puts on its links in the new tick (R482, R483, R487): blocks that were due, SYNC blocks, the vote field of a member, the
pole's decisions; and the pole's combining of votes (R482). A device that is cut off, or stays PENDING for an active site or a load, enters DISCOVER when it has become quiet (R475,
R489). [DEDUCED 84] -/
def State.stepCsc (s0 : State) : State :=
  let u := s0.tick.toNat
  let sa : State := { s0 with csc := { s0.csc with
    out := (s0.csc.due.filter (fun e => e.1 == u)).map (·.2),
    due := s0.csc.due.filter (fun e => decide (u < e.1)) } }
  let sb := sa.sendSyncs
  let s := if (sb.csc.cutAt.isSome || sb.csc.waits) && sb.cscQuiet then sb.enterDiscover else sb.tellPole
  if !s.sendsVotes then s
  else if s.bit F.CSC_STAT.POLE then
    let fu := s.flightUp
    let s1 :=
      if 5 + fu ≤ u then
        let t := u - 5 - fu
        let votes := s.downPorts.foldl (fun acc p => match s.fieldFor p t with
          | some b => s.combineVotes acc b
          | none => acc) ((s.ownVotes t).setWidth 8)
        { s with csc := { s.csc with decs := s.csc.decs ++ [(t, votes)] } }
      else s
    if 7 + fu ≤ u then
      let t := u - 7 - fu
      match s1.csc.decs.find? (fun e => e.1 == t) with
      | some e => s.downPorts.foldl (fun r p => r.sendNow p (.vote (voteField true (t + 12 + s.flight) e.2))) s1
      | none => s1
    else s1
  else
    let up := s.fld F.CSC_VSCHED.UP_SEND
    if u < up ∨ s.csc.cutAt.isSome then s
    else
      let t := u - up
      let votes := s.downPorts.foldl (fun acc p => match s.fieldFor p t with
        | some b => s.combineVotes acc b
        | none => acc) ((s.ownVotes t).setWidth 8)
      s.upPorts.foldl (fun r p => r.sendNow p (.vote (voteField true t votes))) s

end Sys2Proof.Machine
end

