-- ==== Sys2Proof/Machine/Sites.lean ====
section
/-! DEFINITION. Sites: hold causes, changes of site state at a tick edge (R161 to R168), and the tick edge itself (R27, R37, R39, R40,
R52). -/

namespace Sys2Proof.Machine

/-- Interrupt source `src` becomes pending in tick `t` (R199, R200). -/
def Psq.pend (p : Psq) (src : Nat) (t : Wide) : Psq :=
  match mget (fun _ => (none : Option Wide)) src p.irq with
  | some _ => p
  | none => { p with irq := mset (fun _ => none) src (some t) p.irq }

/-- Whether interrupt source `src` is pending. -/
def Psq.pending (p : Psq) (src : Nat) : Bool := (mget (fun _ => (none : Option Wide)) src p.irq).isSome

/-- Interrupt source `src` of sequencer `n` becomes pending in the present tick. -/
def State.pendIrq (s : State) (n src : Nat) : State := s.setPsq n ((s.getPsq n).pend src s.tick)

/-- PSQ_STAT.SITE (R163). -/
def State.siteCode (s : State) (n : Nat) : Nat :=
  match (s.getPsq n).mode with
  | .armed => 2
  | .running => 3
  | .paused => 4
  | .safeHold => 5
  | .none => if (s.siteRegions n).isEmpty then 0 else 1

/-- PSQ_STAT.EXEC (R169). -/
def ExecState.code : ExecState → Nat
  | .stop => 0
  | .frame => 1
  | .svc => 2
  | .wait => 3
  | .fault => 4
  | .susp => 5

/-- Banks, window store and scratch memory set to 0 as the seal ends (R213). [DEDUCED 149] -/
def Psq.unseal (p : Psq) : Psq :=
  if p.sealFlag then { p with sealFlag := false, banks := [], wstore := [], scratch := [] } else p

/-- The seal of site `n` ends when the site has become IDLE, which it was not in `s0` (R213). -/
def State.unsealIdle (s s0 : State) (n : Nat) : State :=
  if s0.siteCode n ≠ 0 ∧ s.siteCode n = 0 then s.setPsq n (s.getPsq n).unseal else s

/-- The outcome of a command in PSQ_STAT.CMD_STATUS. -/
def State.cmdStatus (s : State) (n code : Nat) : State := s.setFld (F.PSQ_STAT.CMD_STATUS n) code

/-- A command of site `n` refused under R7. -/
def State.refuseCmd (s : State) (req : Requester) (n op : Nat) : State :=
  (s.cmdStatus n C.STATE_REFUSED).logRefused req (R.PSQ_CMD n) op

/-- A hold cause arises for site `n` in the present tick (R167, R168): a command of the same tick is refused, and of several causes the one
with the lowest code counts. A double fault holds its own site in any state (R207). -/
def State.raiseHold (s : State) (n code : Nat) : State :=
  if !s.siteActive n && !(s.getPsq n).faulted then s
  else
    let p := s.getPsq n
    let s1 := match p.cmdNow with
      | some (req, op) => s.refuseCmd req n op
      | none => s
    let low := match p.next, p.cmdNow with
      | some (.hold _), some _ => code
      | some (.hold c), none => min c code
      | _, _ => code
    s1.setPsq n { s1.getPsq n with next := some (.hold low), runAt := none, svcEnd := false, cmdNow := none }

/-- A hold cause arises for every site that is ARMED, RUNNING or PAUSED. -/
def State.holdAll (s : State) (code : Nat) : State := (List.range 16).foldl (fun t n => t.raiseHold n code) s

/-- A unit's site or sites are held by a cause. -/
def State.holdSites (s : State) (ns : List Nat) (code : Nat) : State := ns.foldl (fun t n => t.raiseHold n code) s

/-- The regions of site `n` leave LIVE and its queues record the tick (R141, R276). -/
def State.leaveActive (s : State) (n : Nat) : State :=
  ((s.siteRegions n).foldl (fun t g => t.rgnLeaveLive g) s).leaveQueues n

/-- SOURCE and DETAIL of a sequencer's own report (R217): the number and PC. -/
def State.reportPsq (s : State) (n code : Nat) : State := s.report code (srcSeq n) (s.getPsq n).pc.toNat

/-- Site `n` is in SAFE_HOLD from the next tick on, for cause `code` that arose in the present tick: EXEC is FAULT after a double fault, else STOP (R167,
R207, R486). -/
def State.commitHold (s : State) (n code : Nat) : State :=
  let p := s.getPsq n
  let s1 := (if s.siteActive n then s.leaveActive n else s).setPsq n
    { p with mode := .safeHold, next := none, runAt := none, exec := if p.faulted then ExecState.fault else .stop, faulted := false, access := none,
             svcAt := none, svcEnd := false, slipAt := if code = C.ERR_TICK_SLIP then some s.tick else p.slipAt }
  let s2 := (s1.setFld (F.PSQ_HOLD_CAUSE.CODE n) code).setReg (R.PSQ_HOLD_TICK n) s.tick
  let s3 := s2.postEvent 6 n code (52 + n)
  let s4 := if code = C.PSQ_HOST_HOLD then s3.reportPsq n C.PSQ_HOST_HOLD else s3
  if s4.effBit n (F.PSQ_VOTE_CFG.EN n) && code != C.CSC_REMOTE_HOLD then
    s4.raiseCscHold 1 (1 <<< s4.effFld n (F.PSQ_VOTE_CFG.GROUP n)) code
  else s4

/-- Site `n` is stopped from the next tick on (R164). [DEDUCED 36] -/
def State.commitStop (s : State) (n : Nat) : State :=
  let p := s.getPsq n
  let s1 := if s.siteActive n then s.leaveActive n else s
  (s1.setPsq n { p with mode := .none, next := none, runAt := none, exec := .stop, access := none, svcAt := none, svcEnd := false }).unsealIdle s n

/-- The sequencer registers as ARM leaves them (R165): LMBASE keeps its value; and the UI-repeat factor taken up (R58). -/
def Psq.armed (p : Psq) (rep : Nat) (ie priv : Bool) (pc : Half) : Psq :=
  { p with mode := .armed, next := none, runAt := none, slipAt := none, nRun := 0, rep := rep, pc := pc, cur := 0, depth := 0,
           frames := [(0, some FrameHdr.base)], wstore := [], inMem := 0, spillBad := [], ie := ie, priv := priv, trap := false,
           lmstate := 0, vwr := FWord.zero, vout := none, repLeft := 0, access := none, exec := .stop, issuedAt := none, held := [] }

/-- The solver lane tap of each queue of site `n` that has one is accepted; a replay of the queue's records ends without success (R324, R347). -/
def State.acceptTaps (s : State) (n : Nat) : State :=
  (s.siteQueues n).foldl (fun t0 k =>
    let t := t0.loseReplays k
    if t.bit (F.FCQ_Q_CFG.TAP_EN k) then t.acceptTap (t.fld (F.FCQ_Q_CFG.TAP_LANE k)) k n else t) s

/-- Site `n` is armed from the next tick on (R141, R165, R273, R80, R324, R519). [DESIGN CHOICE 147] -/
def State.commitArm (s : State) (n : Nat) : State :=
  let s1 := s.setPsq n ((s.getPsq n).armed (s.fld (F.TICK_UIREP.REPEAT n)) (s.bit (F.PSQ_CFG.IE_INIT n)) (s.bit (F.PSQ_CFG.RUN_PRIV n))
    (BitVec.ofNat 16 (s.fld (F.PSQ_ENTRY.RUN_PC n))))
  let s2 := (s1.siteRegions n).foldl (fun t g =>
    if t.rgnState g = 2 ∧ !t.bit (F.FAB_RGN_DESC.FROZEN g) ∧ !t.bit (F.FAB_RGN_DESC.FAILED g) then t.setRgnState g 3 else t) s1
  let init := s2.fld (F.FAB_CTXSEL.INIT n)
  let s3 := ((s2.setFld (F.FAB_CTXSEL.ACTIVE n) init).setFld (F.FAB_CTXSEL.PEND n) 0).setSelWaiting n none
  let s4 := (s3.siteRegions n).foldl (fun t g => (t.rgnSlots g).foldl (fun u k => u.activate k init) t) s3
  let s5 := ((s4.siteQueues n).foldl (fun t k => t.armQueue k) s4).acceptTaps n
  let s6 := (s5.siteRegions n).foldl (fun t g => (t.rgnSlots g).foldl (fun u k =>
    if u.cellFenced k then
      u.report C.BIST_CELL_FENCED (srcBist (clusterOf (k % 64) (k / 64) + 256 * localOf (k % 64) (k / 64))) (u.reg R.BIST_LAST).toNat
    else u) t) s5
  { s6 with slices := mmap (fun _ => Slice.reset) (fun k x =>
      if s6.sliceOf k n then { x with loaded := false, edgeLog := false } else x) s6.slices }

/-- START's effect on the registers of site `n` (R164, R166), with `t0` the tick it is to run from. START and RESUME empty the vote decision that VMATCH
tests with the match accumulators. [DEDUCED 118] -/
def State.commitStart (s : State) (n : Nat) (t0 : Wide) : State :=
  let s1 := (s.setPsq n { s.getPsq n with next := none, runAt := some t0, nRun := 0, s0 := t0, sfail := false, acc := 0, vote := false }).setReg
    (R.PSQ_FRAMECNT n) 0
  s1.tapStart n t0

/-- The pending change of site `n` takes effect at the tick edge. -/
def State.commitSite (s : State) (n : Nat) : State :=
  let p := s.getPsq n
  match p.next with
  | none => s
  | some .arm => s.commitArm n
  | some (.start t0) => s.commitStart n t0
  | some (.resume t0) => s.setPsq n { p with next := none, runAt := some t0, acc := 0, vote := false }
  | some .pause | some .halt => s.setPsq n { p with next := none, mode := .paused, exec := .susp }
  | some .stop => s.commitStop n
  | some (.hold code) => s.commitHold n code

/-- Whether a THAW of region `g` has copied the site's context state and not yet taken effect (R146). -/
def State.thawing (s : State) (g : Nat) : Bool :=
  match s.fab.rgnPend with
  | some r => r.thaw && r.copied && r.region == g
  | none => false

/-- Context `c`, selected in tick `since`, is pending for site `n` and for the cells of its regions that hear the select (R36, R79, R144). -/
def State.pendSelect (s : State) (n c : Nat) (since : Wide) : State :=
  let t1 := (s.setFld (F.FAB_CTXSEL.PENDING n) c).setFld (F.FAB_CTXSEL.PEND n) 1
  let t2 := (t1.siteRegions n).foldl (fun u g =>
    if u.rgnState g = 3 ∨ u.thawing g = true then (u.rgnSlots g).foldl (fun v k =>
      match v.workPos k with
      | some p => if v.isRclk p then v else v.setCtx k { v.ctxOf k with pending := c, pend := true }
      | none => v) u
    else u) t1
  { t2 with fab := { t2.fab with selSince := mset (fun _ => 0) n since t2.fab.selSince } }

/-- A select that waited behind one due in this tick becomes pending, issued in tick `since` (R37). -/
def State.releaseSelect (s : State) (n : Nat) (since : Wide) : State :=
  match s.selWaiting n with
  | some c => (s.setSelWaiting n none).pendSelect n c since
  | none => s

/-- The context selects issued in the present tick become pending (R36, R37, R79). At r = 1 a select whose predecessor is due in the coming tick
waits until that one has taken effect, so that each takes effect 2 ticks after its own issue; any other replaces a pending one. [DEDUCED 22] -/
def State.commitSelects (s : State) : State :=
  (List.range 16).foldl (fun t0 n =>
    let t := t0.releaseSelect n (t0.tick - 1)
    match mget (fun _ => (none : Option Nat)) n t.fab.selNow with
    | none => t
    | some c =>
      let since := mget (fun _ => (0 : Wide)) n t.fab.selSince
      if t.bit (F.FAB_CTXSEL.PEND n) && (t.getPsq n).rep == 1 && decide (since.toNat + 1 ≤ t.tick.toNat) then t.setSelWaiting n (some c)
      else t.pendSelect n c t.tick) s

/-- The number under which sequencer `n` stands among the units that slipped in the present tick, behind those of the slots. -/
def seqUnit (n : Nat) : Nat := 4096 + n

/-- The four match accumulators, SFAIL, the vote decision, the vector word, which is 0 with S = 1 where the sequencer slipped (R44), and FRAMECNT of site `n` at the end of the
present tick, `issued` telling whether it was an issue tick of the site (R35, R183, R186). -/
def State.stepMatch (s : State) (n : Nat) (issued : Bool) (decs : Half) : State :=
  let p := s.getPsq n
  let hit : BitVec 4 := BitVec.ofNat 4 ((List.range 4).map (fun k => if s.siteOr n k then 2 ^ k else 0)).sum
  let d := s.effBit n (F.PSQ_VOTE_CFG.EN n) && bitOf decs.toNat (s.effFld n (F.PSQ_VOTE_CFG.GROUP n))
  let f := s.siteOr n 4
  let p1 := { p with acc := (if issued then 0 else p.acc) ||| hit, vote := (!issued && p.vote) || d, sfail := p.sfail || f, cmdNow := none,
                     vwr := if s.fab.slipped.contains (seqUnit n) then conflictWord else p.vout.getD p.vwr, vout := none }
  let p2 := { p1 with masks := [] }
  let s0 := s.setPsq n (if f && !p.sfail then p2.pend 2 s.tick else p2)
  let s1 := p.masks.foldl (fun t e => t.setReg (R.PSQ_MMASK n (e.1 / 8) (e.1 % 8)) (e.2.setWidth 64)) s0
  if issued then s1.setReg (R.PSQ_FRAMECNT n) (s1.reg (R.PSQ_FRAMECNT n) + 1) else s1

/-- The depth limit (R196). -/
def State.depthLimit (s : State) (n : Nat) : Nat :=
  let l := s.effFld n (F.PSQ_SPILL_LIMIT.DEPTH n)
  if (s.getPsq n).sealFlag then min l 526 else l

/-- The header of the frame in bank `b`, none when it is FREE (R191). -/
def Psq.frameIn (p : Psq) (b : Nat) : Option FrameHdr := mget (fun _ => none) b p.frames

/-- What keeps a frame from being opened at DEPTH + 1, as the trap's EVAL (R192, R196). -/
def State.pushFault (s : State) (n : Nat) : Option Nat :=
  let p := s.getPsq n
  if s.depthLimit n < p.depth + 1 then some 1
  else if (p.frameIn ((p.depth + 1) % 15)).isSome then some 0 else none

/-- The interrupt source of highest priority that is enabled for sequencer `n`, has been pending since `d` ticks before the present one or longer, and may be
taken as STATUS stands (R200). -/
def State.irqSource (s : State) (n d : Nat) : Option Nat :=
  let p := s.getPsq n
  if !p.ie || p.trap then none
  else (List.range 5).find? (fun src =>
    bitOf (s.fld (F.PSQ_IRQ.EN n)) src && (match mget (fun _ => (none : Option Wide)) src p.irq with
      | some a => decide (a.toNat + d ≤ s.tick.toNat)
      | none => false))

/-- At the end of a tick the interrupt source that may be taken from the next one on is chosen, with its check for a FREE bank and the depth limit; a choice
that stands keeps its check (R201). [DEDUCED 33] -/
def State.chooseIrq (s : State) (n : Nat) : State :=
  let p := s.getPsq n
  let next : Option (Nat × Option Nat) := match s.irqSource n 1, p.irqCheck with
    | some src, some (old, c) => if src = old then some (old, c) else some (src, s.pushFault n)
    | some src, none => some (src, s.pushFault n)
    | none, _ => none
  s.setPsq n { p with irqCheck := next }

/-- Words in flight in the read pipelines of an M-cell land in Q0 and Q1 (R28). -/
def CellRegs.landReads (c : CellRegs) : CellRegs :=
  { c with q := if c.pipe0.busy then c.pipe0.word else c.q, q1 := if c.pipe1.busy then c.pipe1.word else c.q1,
           pipe0 := { c.pipe0 with busy := false, word := FWord.zero }, pipe1 := { c.pipe1 with busy := false, word := FWord.zero } }

/-- What the tick edge makes of the registers of one cell: the registered result of its operation, or the cell's own with its M-cell reads
landed and, on a routed-clock cell, the transferred word's tags cleared (R27, R28, R116). -/
def edgeCell (nxt : Option CellRegs) (c : CellRegs) : CellRegs :=
  match nxt with
  | some n => n
  | none => { c.landReads with sync := { c.sync with v := false, s := false } }

/-- The routed-clock B-cells (R113). -/
def State.rclkSlots (s : State) : List Nat :=
  s.fab.store.filterMap (fun e =>
    if e.1 % 16 = 8 ∧ slotType (e.1 / 16) = .b ∧ getBits e.2 2 1 = 1 then some (e.1 / 16) else none)

/-- The levels of the routed clocks in the tick that ends, against which the coming tick's edges are seen (R113). [DEDUCED 19] -/
def State.seeClocks (s : State) : State := s.rclkSlots.foldl (fun t k => t.setRclkLvl k (s.rclkLevel (posOfSlot k))) s

/-- Every cell registers its result. -/
def State.commitCells (s : State) : State :=
  let held := mmap (fun _ => CellRegs.zero) (fun _ c => edgeCell none c) s.fab.cells
  let cells := s.fab.nxt.foldl (fun m e => match e.2 with
    | some c => mset (fun _ => CellRegs.zero) e.1 (edgeCell (some c) c) m
    | none => m) held
  { s with fab := { s.fab with cells := cells, nxt := [], selNow := [], slipped := [] } }

/-- A THAW's copy of the site's context state into the region's cells, in the tick after its registration (R146). -/
def State.thawCopy (s : State) : State :=
  match s.fab.rgnPend with
  | some r =>
    if r.thaw && !r.copied && decide (r.tick.toNat + 1 ≤ s.tick.toNat) then
      let g := r.region
      let n := s.rgnSite g
      let s1 := { s with fab := { s.fab with rgnPend := some { r with copied := true } } }
      let s2 := s1.setFld (F.FAB_RGN_DESC.FROZEN g) 0
      (s2.rgnSlots g).foldl (fun t k =>
        let t1 := t.activate k (t.fld (F.FAB_CTXSEL.ACTIVE n))
        match t1.workPos k with
        | some p => if t1.isRclk p then t1 else
            t1.setCtx k { t1.ctxOf k with pending := t1.fld (F.FAB_CTXSEL.PENDING n), pend := t1.bit (F.FAB_CTXSEL.PEND n) }
        | none => t1) s2
    else s
  | none => s

/-- Hold causes of routing faults that stand in the new tick at positions of the given regions (R134). -/
def State.holdFaulty (s : State) (gs : List Nat) : State :=
  gs.foldl (fun t g => (t.rgnPositions g).foldl (fun u p =>
    match u.posFaulty p with
    | some parity => u.raiseHold (u.rgnSite g) (if parity then C.FAB_STORE_PARITY else C.ROUTE_CONFLICT)
    | none => u) t) s

/-- The X-cells that registered words for their slices in the present tick. -/
def State.issuedX (s : State) : List Nat :=
  s.fab.nxt.filterMap (fun e => if 2816 ≤ e.1 ∧ e.2.isSome then some (e.1 - 2816) else none)

/-- The slices of the X-cells `xs` load the frames registered for them (R35, R223). [DEDUCED 18] -/
def State.loadFrames (s : State) (xs : List Nat) : State :=
  xs.foldl (fun t x =>
    let c := t.cell (xSlot x)
    (t.loadFrame (2 * x) c.xde c.xxe).loadFrame (2 * x + 1) c.xdo c.xxo) s

/-- The loss of the upstream neighbour in tick L holds every active site in tick L + 1 (R489). -/
def State.cutOffHold (s : State) : State :=
  match s.csc.cutAt with
  | some l => if s.tick = l + 1 then s.holdAll C.CSC_MEMBER_LOST else s
  | none => s

/-- The borders of a region that is about to freeze, as they stand before the edge: what they present in the last tick before it leaves LIVE
(R143, R145). [DEDUCED 21] -/
def State.latchFreezing (s : State) : State :=
  match s.fab.rgnPend with
  | some r => if !r.thaw && s.rgnState r.region == 3 then s.latchBorders r.region else s
  | none => s

/-- The local index of the cell that the logic part of slice `j` tests (R504). -/
def sliceCell (j : Nat) : Nat := if j ≤ 3 then j else j + 1

/-- A slice is over for this pass, unless it has been moved ahead to run again (R507, R521). -/
def State.sliceDone (s : State) (x : BistSlice) : State :=
  if s.bist.first.contains (10 * x.cl + x.j) then s
  else { s with bist := { s.bist with done := insertSorted (10 * x.cl + x.j) s.bist.done } }

/-- A pass ends when every slice of every cluster has completed or been skipped, and the next begins (R507). -/
def State.passCheck (s : State) : State :=
  if s.bist.done.length = 2560 ∧ s.bist.slices = [] ∧ s.bist.first = [] then
    ({ s with bist := { s.bist with done := [] } }.setFld F.BIST_PASS_CNT.PASSES (s.fld F.BIST_PASS_CNT.PASSES + 1)).setReg
      R.BIST_PASS_TICK s.tick
  else s

/-- The running slice of cluster `cl`. -/
def State.sliceIn (s : State) (cl : Nat) : Option BistSlice := s.bist.slices.find? (fun x => x.cl == cl)

/-- Whether a FREEZE of the region of cluster `cl` is pending, so that no takeover starts (R508). -/
def State.freezePends (s : State) (cl : Nat) : Bool :=
  match s.fab.rgnPend with
  | some r => !r.thaw && r.region == s.fld (F.FAB_RGN_MAP.REGION cl)
  | none => false

/-- The local index of the cell of cluster `m` that its U-cell can stand in for now (R105, R518): marked failed and no routed-clock B-cell, with the U-cell free and no
slice running in the cluster. -/
def State.standTarget (s : State) (m : Nat) : Option Nat :=
  if s.fld (F.FAB_CL_STAT.U_STATE m) ≠ 0 ∨ s.bit (F.FAB_CL_STAT.U_FAILED m) ∨ (s.sliceIn m).isSome ∨
      !bitOf (s.fld F.PWR_DOM_STAT.ON) (4 + m / 32) then none
  else (List.range 10).find? (fun i => bitOf (s.fld (F.BIST_CL.FAILED m)) i && !s.isRclk (coreSlot m i + 64))

/-- The U-cell of cluster `m` loaded with the registers and context pointers of the cell at local index `i`, in state `st` (R508). -/
def State.loadUcell (s : State) (m i st : Nat) : State :=
  ((s.setCell (2560 + m) (s.cell (coreSlot m i))).setCtx (2560 + m) (s.ctxOf (coreSlot m i))).setFlds
    [(F.FAB_CL_STAT.U_STATE m, st), (F.FAB_CL_STAT.U_TARGET m, i)]

/-- The takeover by which the U-cell of cluster `m` stands in for a failed cell moves on at a tick edge (R508, R518), the new tick being the state's: it begins, in tick H, when the
U-cell is free and no FREEZE of the region is pending, and the U-cell drives the position from H + 3. The registers of the failed cell hold (R519) and are not compared. Answers
what is left of the request; it lapses where no cell of the cluster can be stood in for. -/
def State.stepStandIn (s : State) (m : Nat) (h : Option Wide) : State × List (Nat × Option Wide) :=
  match h, s.standTarget m with
  | some h, _ =>
    let i := s.fld (F.FAB_CL_STAT.U_TARGET m)
    if h.toNat + 3 ≤ s.tick.toNat then (s.loadUcell m i 2, []) else (s.loadUcell m i 1, [(m, some h)])
  | none, some i => if s.freezePends m then (s, [(m, none)]) else (s.loadUcell m i 1, [(m, some s.tick)])
  | none, none => (s, if (s.sliceIn m).isSome then [(m, none)] else [])

/-- Every stand-in that a load has called for moves on. -/
def State.stepStandIns (s : State) : State :=
  let r := s.bist.standIns.foldl (fun (acc : State × List (Nat × Option Wide)) e =>
    let (t, y) := acc.1.stepStandIn e.1 e.2
    (t, acc.2 ++ y)) (s, [])
  { r.1 with bist := { r.1.bist with standIns := r.2 } }

/-- One running slice moves on at a tick edge (R508 to R512), the new tick being the state's: in lockstep the loaded cell follows the driving
one; a takeover or hand-back ends after three ticks, or in the tick after its comparison disagreed. Answers the slice as it goes on. -/
def State.stepHandover (s : State) (x : BistSlice) : State × Option BistSlice :=
  let xs := coreSlot x.cl (sliceCell x.j)
  let us := 2560 + x.cl
  let bad := match x.differs with
    | some t => decide (t.toNat < s.tick.toNat)
    | none => false
  let mismatch (t : State) : State :=
    (t.addSat F.BIST_EVT_CNT.MISMATCH 1).report C.BIST_HANDOVER_MISMATCH (srcBist (x.cl + 256 * sliceCell x.j)) (t.reg R.BIST_LAST).toNat
  match x.takeover, x.back with
  | some h, _ =>
    let s1 := s.loadUcell x.cl (sliceCell x.j) 1
    if bad then
      let s2 := (mismatch s).setFld (F.FAB_CL_STAT.U_STATE x.cl) 0
      ({ s2 with bist := { s2.bist with first := (10 * x.cl + 9) :: s2.bist.first } }, none)
    else if h.toNat + 3 ≤ s.tick.toNat then (s1.setFld (F.FAB_CL_STAT.U_STATE x.cl) 2, some { x with takeover := none, differs := none })
    else (s1, some x)
  | none, some g =>
    let s1 := (s.setCell xs (s.cell us)).setCtx xs (s.ctxOf us)
    if bad then
      let s2 := mismatch s
      if x.retest then
        ((s2.setFld (F.BIST_CL.FAILED x.cl) (s2.fld (F.BIST_CL.FAILED x.cl) ||| 2 ^ sliceCell x.j)).sliceDone x, none)
      else (s2, some { x with back := none, differs := none, retest := true })
    else if g.toNat + 3 ≤ s.tick.toNat then
      let s2 := s1.setFld (F.FAB_CL_STAT.U_STATE x.cl) 0
      (s2.sliceDone x, none)
    else (s1, some x)
  | none, none => (s, some x)

/-- Every running slice moves on. -/
def State.stepHandovers (s : State) : State :=
  let r := s.bist.slices.foldl (fun (acc : State × List BistSlice) x =>
    let (t, y) := acc.1.stepHandover x
    (t, acc.2 ++ y.toList)) (s, [])
  { r.1 with bist := { r.1.bist with slices := r.2 } }.passCheck

/-- Bits 0 to 15 for the sites of which `p` holds. -/
def siteBits (p : Nat → Bool) : Nat := ((List.range 16).map (fun n => if p n then 2 ^ n else 0)).sum

/-- Whether a decision on a match vote is delivered in the present tick (R480). -/
def State.decisionHere (s : State) : Bool :=
  let u := s.tick.toNat
  decide (9 + s.flight ≤ u) &&
  (s.csc.own.any (fun e => e.1 + 9 + s.flight == u) || (s.formed && s.csc.decs.any (fun e => e.1 + 9 + s.flight == u)))

/-- The record of the present tick in the tick trace (R559). -/
def State.tickRecord (s : State) (issued : List Nat) : TickRec :=
  { tick := s.tick.toNat % 2 ^ 32
    running := siteBits (fun n => (s.getPsq n).mode == .running)
    issued := siteBits (fun n => issued.contains n)
    ors := siteBits (fun n => s.siteOr n 4)
    selects := siteBits (fun n => (mget (fun _ => (none : Option Nat)) n s.fab.selNow).isSome)
    held := siteBits (fun n => (s.getPsq n).mode == .safeHold && s.reg (R.PSQ_HOLD_TICK n) + 1 == s.tick)
    flags := s.dump.marks + 8 * b2n s.decisionHere + 16 * b2n s.fckStop }

/-- The tick trace with one more record, while it is not frozen (R559): it keeps 1,024 ticks. -/
def State.pushTrace (s : State) (r : TickRec) (t : Wide) : State :=
  let open_ := match s.dump.stopAt with
    | some e => decide (t.toNat ≤ e.toNat)
    | none => true
  if open_ then { s with dump := { s.dump with trace := (r :: s.dump.trace).take 1024, marks := 0 } }
  else { s with dump := { s.dump with marks := 0 } }

/-- FAULT entered at the edge after a fatal report: a KIND ALL hold is raised in the constellation (R486, R552). -/
def State.faultHold (s : State) (entered : Bool) : State :=
  if entered then s.raiseCscHold 2 0 (match s.dump.fatal with
    | some f => f.1
    | none => 0)
  else s

/-- The edge of FCK that ends the present tick: what the tick's work registers, the changes of site state, and TICK_COUNT (R27, R52,
R164, R552, R559). [DESIGN CHOICE 6, 108] -/
def State.fckEdge (s : State) : State :=
  let s1 := s.noteSafes.countGaps.latchFreezing.seeClocks.stepCredits.landFlight.commitSelects
  let decs := s1.decisionNow
  let issued := (List.range 16).filter (fun n => s1.issueTick n 0)
  let arming := (List.range 16).filter (fun n => (s1.getPsq n).next == some SiteNext.arm)
  let s2 : State := { s1 with psq := mmap (fun _ => Psq.reset) (fun _ p =>
    if p.mode = SiteMode.running then { p with nRun := p.nRun + 1 } else p) s1.psq }
  let s4 := (List.range 16).foldl (fun t n => t.commitSite n) s2.keepVotes
  let s5 := (List.range 16).foldl (fun t n => (t.stepMatch n (issued.contains n) decs).chooseIrq n) s4
  let xs := s5.issuedX
  let s6 := (List.range 128).foldl (fun t x => t.returnFails x) s5
  let s7 := s6.stepSlices.commitCells
  let s8 := { s7 with tick := s7.tick + 1, dev := if s7.devFault then .fault else s7.dev, devFault := false, pslLost := [],
                      fckOn := s7.fckOn && !s7.fckStop, fckStop := false }
  let s9 := (s8.stepHandovers.stepStandIns.thawCopy.loadFrames xs).settleSlices
  let s10 : State := arming.foldl (fun (t : State) n => t.holdFaulty (t.siteRegions n)) s9
  let thawed := match s.fab.rgnPend with
    | some r => if r.thaw && !r.copied && decide (r.tick.toNat ≤ s.tick.toNat) then [r.region] else []
    | none => []
  ((((s10.holdFaulty thawed).cutOffHold.holdSites s.pslLost C.PSL_PARTNER_LOST).faultHold s.devFault).stepCsc).pushTrace (s.tickRecord issued) s.tick

end Sys2Proof.Machine
end

