-- ==== Sys2Proof/Machine/CellExec.lean ====
section
/-! DEFINITION. The meanings of the fabric cells' operations (R86 to R91, R93 to R97, R107 to R111): a command makes one cell perform one
operation in the present tick. -/

namespace Sys2Proof.Machine

/-- NOP: nothing changes (R86); an X-cell feeds neither slice (R108), and an M-cell's reads in flight land (R28). -/
def execCellNop (slot : Fin 2944) (s : State) : Host.Outcome State Fault Refusal :=
  let k := slot.val
  .next (s.cellIssue k 0x00 (fun _ _ =>
    let c := s.cell k
    if slotType k = .x then
      s.setNxt k { c with xde := FWord.zero, xxe := FWord.zero, xdo := FWord.zero, xxo := FWord.zero }
    else s.setNxt k c.landReads))

/-- MOV: the cell in slot `slot` performs opcode 0x01. -/
def execCellMov (slot : Fin 2944) (s : State) : Host.Outcome State Fault Refusal := .next (s.cellStep slot.val 0x01 opMov)

/-- ADD: the cell in slot `slot` performs opcode 0x02. -/
def execCellAdd (slot : Fin 2944) (s : State) : Host.Outcome State Fault Refusal := .next (s.cellStep slot.val 0x02 opAdd)

/-- ADDC: the cell in slot `slot` performs opcode 0x03. -/
def execCellAddc (slot : Fin 2944) (s : State) : Host.Outcome State Fault Refusal := .next (s.cellStep slot.val 0x03 opAddc)

/-- SUB: the cell in slot `slot` performs opcode 0x04. -/
def execCellSub (slot : Fin 2944) (s : State) : Host.Outcome State Fault Refusal := .next (s.cellStep slot.val 0x04 opSub)

/-- SUBB: the cell in slot `slot` performs opcode 0x05. -/
def execCellSubb (slot : Fin 2944) (s : State) : Host.Outcome State Fault Refusal := .next (s.cellStep slot.val 0x05 opSubb)

/-- MIN: the cell in slot `slot` performs opcode 0x06. -/
def execCellMin (slot : Fin 2944) (s : State) : Host.Outcome State Fault Refusal := .next (s.cellStep slot.val 0x06 opMin)

/-- MAX: the cell in slot `slot` performs opcode 0x07. -/
def execCellMax (slot : Fin 2944) (s : State) : Host.Outcome State Fault Refusal := .next (s.cellStep slot.val 0x07 opMax)

/-- CMP: the cell in slot `slot` performs opcode 0x08. -/
def execCellCmp (slot : Fin 2944) (s : State) : Host.Outcome State Fault Refusal := .next (s.cellStep slot.val 0x08 opCmp)

/-- SEL: the cell in slot `slot` performs opcode 0x09. -/
def execCellSel (slot : Fin 2944) (s : State) : Host.Outcome State Fault Refusal := .next (s.cellStep slot.val 0x09 opSel)

/-- AND: the cell in slot `slot` performs opcode 0x0A. -/
def execCellAnd (slot : Fin 2944) (s : State) : Host.Outcome State Fault Refusal := .next (s.cellStep slot.val 0x0A opAnd)

/-- OR: the cell in slot `slot` performs opcode 0x0B. -/
def execCellOr (slot : Fin 2944) (s : State) : Host.Outcome State Fault Refusal := .next (s.cellStep slot.val 0x0B opOr)

/-- XOR: the cell in slot `slot` performs opcode 0x0C. -/
def execCellXor (slot : Fin 2944) (s : State) : Host.Outcome State Fault Refusal := .next (s.cellStep slot.val 0x0C opXor)

/-- ANDN: the cell in slot `slot` performs opcode 0x0D. -/
def execCellAndn (slot : Fin 2944) (s : State) : Host.Outcome State Fault Refusal := .next (s.cellStep slot.val 0x0D opAndn)

/-- SHL: the cell in slot `slot` performs opcode 0x10. -/
def execCellShl (slot : Fin 2944) (s : State) : Host.Outcome State Fault Refusal := .next (s.cellStep slot.val 0x10 opShl)

/-- SHR: the cell in slot `slot` performs opcode 0x11. -/
def execCellShr (slot : Fin 2944) (s : State) : Host.Outcome State Fault Refusal := .next (s.cellStep slot.val 0x11 opShr)

/-- SRA: the cell in slot `slot` performs opcode 0x12. -/
def execCellSra (slot : Fin 2944) (s : State) : Host.Outcome State Fault Refusal := .next (s.cellStep slot.val 0x12 opSra)

/-- ROL: the cell in slot `slot` performs opcode 0x13. -/
def execCellRol (slot : Fin 2944) (s : State) : Host.Outcome State Fault Refusal := .next (s.cellStep slot.val 0x13 opRol)

/-- MUL: the cell in slot `slot` performs opcode 0x18. -/
def execCellMul (slot : Fin 2944) (s : State) : Host.Outcome State Fault Refusal := .next (s.cellStep slot.val 0x18 opMul)

/-- MAC: the cell in slot `slot` performs opcode 0x19. -/
def execCellMac (slot : Fin 2944) (s : State) : Host.Outcome State Fault Refusal := .next (s.cellStep slot.val 0x19 opMac)

/-- MACL: the cell in slot `slot` performs opcode 0x1A. -/
def execCellMacl (slot : Fin 2944) (s : State) : Host.Outcome State Fault Refusal := .next (s.cellStep slot.val 0x1A opMacl)

/-- ACCR: the cell in slot `slot` performs opcode 0x1B. -/
def execCellAccr (slot : Fin 2944) (s : State) : Host.Outcome State Fault Refusal := .next (s.cellStep slot.val 0x1B opAccr)

/-- CNTM: the cell in slot `slot` performs opcode 0x20. -/
def execCellCntm (slot : Fin 2944) (s : State) : Host.Outcome State Fault Refusal := .next (s.cellStep slot.val 0x20 opCntm)

/-- CNTE: the cell in slot `slot` performs opcode 0x21. -/
def execCellCnte (slot : Fin 2944) (s : State) : Host.Outcome State Fault Refusal := .next (s.cellStep slot.val 0x21 opCnte)

/-- BFM: the cell in slot `slot` performs opcode 0x24. -/
def execCellBfm (slot : Fin 2944) (s : State) : Host.Outcome State Fault Refusal := .next (s.cellStep slot.val 0x24 opBfm)

/-- GRAY: the cell in slot `slot` performs opcode 0x25. -/
def execCellGray (slot : Fin 2944) (s : State) : Host.Outcome State Fault Refusal := .next (s.cellStep slot.val 0x25 opGray)

/-- XTAP: the cell in slot `slot` performs opcode 0x26. -/
def execCellXtap (slot : Fin 2944) (s : State) : Host.Outcome State Fault Refusal := .next (s.cellStep slot.val 0x26 opXtap)

/-- BREV: the cell in slot `slot` performs opcode 0x27. -/
def execCellBrev (slot : Fin 2944) (s : State) : Host.Outcome State Fault Refusal := .next (s.cellStep slot.val 0x27 opBrev)

/-- WLD: the cell in slot `slot` performs opcode 0x40. -/
def execCellWld (slot : Fin 2944) (s : State) : Host.Outcome State Fault Refusal := .next (s.cellStep slot.val 0x40 opWld)

/-- WAND: the cell in slot `slot` performs opcode 0x41. -/
def execCellWand (slot : Fin 2944) (s : State) : Host.Outcome State Fault Refusal := .next (s.cellStep slot.val 0x41 opWand)

/-- WOR: the cell in slot `slot` performs opcode 0x42. -/
def execCellWor (slot : Fin 2944) (s : State) : Host.Outcome State Fault Refusal := .next (s.cellStep slot.val 0x42 opWor)

/-- WXOR: the cell in slot `slot` performs opcode 0x43. -/
def execCellWxor (slot : Fin 2944) (s : State) : Host.Outcome State Fault Refusal := .next (s.cellStep slot.val 0x43 opWxor)

/-- WANDN: the cell in slot `slot` performs opcode 0x44. -/
def execCellWandn (slot : Fin 2944) (s : State) : Host.Outcome State Fault Refusal := .next (s.cellStep slot.val 0x44 opWandn)

/-- WNOT: the cell in slot `slot` performs opcode 0x45. -/
def execCellWnot (slot : Fin 2944) (s : State) : Host.Outcome State Fault Refusal := .next (s.cellStep slot.val 0x45 opWnot)

/-- WROL: the cell in slot `slot` performs opcode 0x46. -/
def execCellWrol (slot : Fin 2944) (s : State) : Host.Outcome State Fault Refusal := .next (s.cellStep slot.val 0x46 opWrol)

/-- WSHL: the cell in slot `slot` performs opcode 0x47. -/
def execCellWshl (slot : Fin 2944) (s : State) : Host.Outcome State Fault Refusal := .next (s.cellStep slot.val 0x47 opWshl)

/-- WSHR: the cell in slot `slot` performs opcode 0x48. -/
def execCellWshr (slot : Fin 2944) (s : State) : Host.Outcome State Fault Refusal := .next (s.cellStep slot.val 0x48 opWshr)

/-- WBFLY: the cell in slot `slot` performs opcode 0x49. -/
def execCellWbfly (slot : Fin 2944) (s : State) : Host.Outcome State Fault Refusal := .next (s.cellStep slot.val 0x49 opWbfly)

/-- LFSR: the cell in slot `slot` performs opcode 0x4A. -/
def execCellLfsr (slot : Fin 2944) (s : State) : Host.Outcome State Fault Refusal := .next (s.cellStep slot.val 0x4A opLfsr)

/-- CRC32: the cell in slot `slot` performs opcode 0x4B. -/
def execCellCrc32 (slot : Fin 2944) (s : State) : Host.Outcome State Fault Refusal := .next (s.cellStep slot.val 0x4B opCrc32)

/-- POPC: the cell in slot `slot` performs opcode 0x50. -/
def execCellPopc (slot : Fin 2944) (s : State) : Host.Outcome State Fault Refusal := .next (s.cellStep slot.val 0x50 opPopc)

/-- PAR: the cell in slot `slot` performs opcode 0x51. -/
def execCellPar (slot : Fin 2944) (s : State) : Host.Outcome State Fault Refusal := .next (s.cellStep slot.val 0x51 opPar)

/-- CLZ: the cell in slot `slot` performs opcode 0x52. -/
def execCellClz (slot : Fin 2944) (s : State) : Host.Outcome State Fault Refusal := .next (s.cellStep slot.val 0x52 opClz)

/-- LUTN: the cell in slot `slot` performs opcode 0x54. -/
def execCellLutn (slot : Fin 2944) (s : State) : Host.Outcome State Fault Refusal := .next (s.cellStep slot.val 0x54 opLutn)

/-- LUTW: the cell in slot `slot` performs opcode 0x55. -/
def execCellLutw (slot : Fin 2944) (s : State) : Host.Outcome State Fault Refusal := .next (s.cellStep slot.val 0x55 opLutw)

/-- WLUTN: the cell in slot `slot` performs opcode 0x56. -/
def execCellWlutn (slot : Fin 2944) (s : State) : Host.Outcome State Fault Refusal := .next (s.cellStep slot.val 0x56 opWlutn)

/-- The physical word that main word `a` of the M-cell of cluster `m` is kept in (R98). -/
def State.physWord (s : State) (m a : Nat) : Nat :=
  match (List.range 16).find? (fun k => s.bit (F.FAB_MREP.EN m k) && s.fld (F.FAB_MREP.ROW m k) == a / 16) with
  | some k => 4096 + 16 * k + a % 16
  | none => a

/-- Whether a stored word's parity is wrong (R92). -/
def MWord.bad (w : MWord) : Bool := (parityNat 32 w.data.toNat + b2n w.s + b2n w.parity) % 2 == 1

/-- A word with its parity made good. -/
def mkWord (data : Word) (st : Bool) : MWord := ⟨data, st, (parityNat 32 data.toNat + b2n st) % 2 == 1⟩

/-- What a port's read of main word `a` gives, with the address operand's tags (R95, R97). -/
def portRead (w : MWord) (av astale : Bool) : FWord := if av then ⟨w.s || astale || w.bad, true, w.data⟩ else ⟨astale, false, 0⟩

/-- A read of main word `a` of the M-cell of cluster `m` that finds a parity mismatch is counted and logged (R97). -/
def State.parityLog (s : State) (m a : Nat) : State :=
  ((s.addSat (F.FAB_CL_STAT.PAR_CNT m) 1).setFld F.FAB_STAT.PARITY_SEEN 1).report C.FAB_MCELL_PARITY (srcSlot (mSlot m)) a

/-- One port's access of an M-cell: mode, address and data operands with effective word address `a` (R94). -/
structure PortAcc where
  mode : Nat
  av   : Bool
  as_  : Bool
  a    : Nat
  d    : FWord

/-- Whether the access reads the array. -/
def PortAcc.reads (p : PortAcc) : Bool := p.mode % 2 == 1 && p.av

/-- Whether the access writes the array (R95). -/
def PortAcc.writes (p : PortAcc) : Bool := p.mode / 2 == 1 && p.av && p.d.v

/-- The port accesses that function word `fn` makes at position `p`. -/
def State.portAccs (s : State) (k p : Nat) (fn : Wide) : PortAcc × PortAcc :=
  let c := s.cell k
  let acc (mlo alo dlo base : Nat) : PortAcc :=
    let ad := s.operand p .m c 0 (getBits fn alo 4)
    ⟨getBits fn mlo 2, ad.v, ad.s, (ad.data.toNat + getBits fn base 12) % 4096, s.operand p .m c 0 (getBits fn dlo 4)⟩
  (acc 38 52 48 0, acc 36 44 40 16)

/-- The read pipeline of a port after its access. -/
def PortPipe.after (p : PortPipe) (x : PortAcc) (w : MWord) : PortPipe :=
  if x.mode = 0 then { p with busy := false, word := FWord.zero }
  else if x.mode = 2 then ⟨x.a, x.mode, false, FWord.zero⟩
  else ⟨x.a, x.mode, true, portRead w x.av x.as_⟩

/-- A port's write (R95, R96). -/
def State.portWrite (s : State) (m : Nat) (x : PortAcc) : State :=
  if x.writes then s.setMword m (s.physWord m x.a) (mkWord x.d.data (x.d.s || x.as_)) else s

/-- MEM: the M-cell of cluster `cl` makes its two port accesses; reads return the words held before the tick and land one tick later (R28,
R93 to R97). -/
def execCellMem (cl : Fin 256) (s : State) : Host.Outcome State Fault Refusal :=
  let m := cl.val
  let k := mSlot m
  .next (s.cellIssue k 0x80 (fun p fn =>
    let (x0, x1) := s.portAccs k p fn
    let w0 := s.mword m (s.physWord m x0.a)
    let w1 := s.mword m (s.physWord m x1.a)
    let c := (s.cell k).landReads
    let s1 := s.setNxt k { c with pipe0 := c.pipe0.after x0 w0, pipe1 := c.pipe1.after x1 w1 }
    let s2 := if x0.reads && w0.bad then s1.parityLog m x0.a else s1
    let s3 := if x1.reads && w1.bad then s2.parityLog m x1.a else s2
    if x0.writes && x1.writes && s.physWord m x0.a == s.physWord m x1.a then
      (((s3.portWrite m x0).addSat (F.FAB_CL_STAT.WCOLL_CNT m) 1).setFld F.FAB_STAT.WCOLL_SEEN 1).report C.FAB_MCELL_WCOLLIDE (srcSlot k) x0.a
    else (s3.portWrite m x0).portWrite m x1))

/-- XIO: the X-cell registers drive-and-enable and expect words for each slice that it feeds, and 0 with V = 0 for one it does not (R107,
R108). -/
def execCellXio (x : Fin 128) (s : State) : Host.Outcome State Fault Refusal :=
  let k := xSlot x.val
  .next (s.cellIssue k 0xC0 (fun p fn =>
    let c := s.cell k
    let word (en lo : Nat) : FWord := if getBits fn en 1 = 1 then s.operand p .x c 0 (getBits fn lo 4) else FWord.zero
    s.setNxt k { c with xde := word 39 52, xxe := word 39 48, xdo := word 38 44, xxo := word 38 40 }))

/-- The sites that an X-cell belongs to: that of its region and those of its slices (R46, R111). -/
def State.xSites (s : State) (x : Nat) : List Nat :=
  let g := s.xRegion x
  (if s.rgnState g = 0 then [] else [s.rgnSite g]) ++ ([2 * x, 2 * x + 1].filter s.assigned).map s.sliceSite

/-- STREAM_POP: in an issue tick whose function word has POP = 1 the oldest stream word goes to Q1; an empty buffer is an underrun, which
holds the sites of the X-cell; without a stream buffer Q1 loads 0 (R110, R111). [DEDUCED 107] -/
def execStreamPop (x : Fin 128) (s : State) : Host.Outcome State Fault Refusal :=
  let k := xSlot x.val
  let p := posOfSlot k
  let c := s.activeCtx p
  let fn := s.workWord p c
  let b := s.xsBuf x.val
  let out (r : CellRegs) (w : FWord) : CellRegs := if s.fab.slipped.contains k then r else { r with q1 := w }
  match s.cellNxt k with
  | none => .next s
  | some r =>
    if !s.ctxGood p c || getBits fn 37 1 != 1 || b.popAt == some s.tick then .next s
    else if getBits (s.staticWord p) 1 1 = 0 then .next (s.setNxt k (out r FWord.zero))
    else match b.words with
      | w :: ws =>
        .next ((s.setXsBuf x.val { b with words := ws, rd := (b.rd + 1) % 1024, popAt := some s.tick }).setNxt k (out r ⟨false, true, w⟩))
      | [] =>
        .next ((((((s.setXsBuf x.val { b with popAt := some s.tick }).setNxt k (out r conflictWord)).setFld
          (F.FAB_XS_STAT.UNDERRUN x.val) 1).setFld F.FAB_STAT.XS_UNDERRUN_SEEN 1).report C.FAB_XSTREAM_UNDERRUN (srcSlot k) c).holdSites
          (s.xSites x.val) C.FAB_XSTREAM_UNDERRUN)

/-- RCLK_SYNC_TRANSFER: the word waiting in a routed-clock cell's synchroniser reaches its tick-side output 2 to 4 ticks after the routed edge,
and stays there with V = 0 and S = 0 after that tick (R116). [DEDUCED 19] -/
def execRclkSyncTransfer (slot : Fin 2560) (s : State) : Host.Outcome State Fault Refusal :=
  let k := slot.val
  let c := s.cell k
  if s.isRclk (k + 64) && c.syncPend && decide (c.syncAt.toNat + 2 ≤ s.tick.toNat) && decide (s.tick.toNat ≤ c.syncAt.toNat + 4) then
    .next (s.setCell k { c with sync := c.q, syncPend := false })
  else .next s

end Sys2Proof.Machine
end

