-- ==== Sys2Proof/Machine/Starfix.lean ====
section
/-! DEFINITION. Starfix capture and read-back (R149 to R159): the slot image of a cell, the captured image, triggers. -/

namespace Sys2Proof.Machine

/-- A fabric word as a qword holds it (R154). -/
def FWord.qword (w : FWord) : Nat := b2n w.s * 2 ^ 33 + b2n w.v * 2 ^ 32 + w.data.toNat

/-- A port pipeline as a qword holds it (R154). -/
def PortPipe.qword (p : PortPipe) : Nat := p.addr + p.mode * 2 ^ 12 + b2n p.busy * 2 ^ 14

/-- The code of a cell type (R154). -/
def CellType.code : CellType → Nat
  | .a => 0
  | .b => 1
  | .m => 2
  | .u => 3
  | .x => 4

/-- Whether the core cell in slot `k` is freed: a U-cell stands in for it and no hand-back is under way (R155). -/
def State.cellFreed (s : State) (k : Nat) : Bool :=
  decide (k < 2560) && s.driver (k + 64) != k &&
  s.bist.slices.all (fun x => !(x.back.isSome && coreSlot x.cl (sliceCell x.j) == k))

/-- The control qword of slot `k` (R154, R155). EN of a U-cell, which has no static word of its own, is that of the cell it stands in for, else 0. [DEDUCED 116] -/
def State.slotControl (s : State) (k : Nat) : Nat :=
  let ty := slotType k
  let c := s.cell k
  let x := s.ctxOf k
  let g := if ty = .u then s.fld (F.FAB_RGN_MAP.REGION (k - 2560)) else s.posRegion (posOfSlot k)
  let en := if ty = .u then (match s.workPos k with
    | some p => s.cellEn p
    | none => false) else s.cellEn (posOfSlot k)
  let base := ty.code * 2 ^ 8 + b2n en * 2 ^ 11 + b2n (s.rgnState g != 3) * 2 ^ 21 + g * 2 ^ 22
  if s.cellFreed k then base
  else
    let rclk := ty == .b && s.isRclk (posOfSlot k)
    base + (if rclk then 0 else x.active) + x.pending * 2 ^ 3 + b2n x.pend * 2 ^ 6 +
    (if ty = .a ∨ ty = .u then b2n c.cy * 2 ^ 7 else 0) +
    (if ty = .u then s.fld (F.FAB_CL_STAT.U_STATE (k - 2560)) * 2 ^ 12 + s.fld (F.FAB_CL_STAT.U_TARGET (k - 2560)) * 2 ^ 14 else 0) +
    (if rclk then b2n c.syncPend * 2 ^ 18 else 0) +
    (if ty = .b ∨ ty = .u then b2n c.wv * 2 ^ 19 + b2n c.ws * 2 ^ 20 else 0)

/-- Qword `q` of slot `k` (R154). -/
def State.slotQword (s : State) (k q : Nat) : Nat :=
  let ty := slotType k
  let c := s.cell k
  if q = 0 then s.slotControl k
  else if s.cellFreed k then 0
  else match ty, q with
    | _, 1 => c.q.qword
    | .m, 2 | .x, 2 => c.q1.qword
    | _, 2 => c.l0.qword
    | .m, 3 => c.pipe0.qword
    | .x, 3 => c.xde.qword
    | _, 3 => c.l1.qword
    | .m, 4 => c.pipe1.qword
    | .x, 4 => c.xxe.qword
    | _, 4 => c.l2.qword
    | .m, 5 => 0
    | .x, 5 => c.xdo.qword
    | _, 5 => c.l3.qword
    | .a, 6 | .u, 6 => c.acc.qword
    | .b, 6 => if s.isRclk (posOfSlot k) then c.sync.qword else 0
    | .x, 6 => c.xxo.qword
    | .b, 7 | .u, 7 => c.w.toNat
    | .x, 7 =>
      let b := s.xsBuf (k - 2816)
      b.rd + b.wr * 2 ^ 10 + b.words.length * 2 ^ 20
    | _, _ => 0

/-- The header qwords of the image (R149, R153): `s` is the state in the captured tick, `e` that after its edge, which holds every value as
registered at the end of the tick. -/
def sfxHeader (s e : State) (cause : Nat) (halt : Bool) : List Nat :=
  let rclk := (List.range 2560).any (fun k => e.isRclk (k + 64))
  let live := ((List.range 64).map (fun g => if e.rgnState g = 3 then 2 ^ g else 0)).sum
  let running := ((List.range 16).map (fun n => if (e.getPsq n).mode = SiteMode.running then 2 ^ n else 0)).sum
  let act (lo : Nat) : Nat := ((List.range 8).map (fun i => e.fld (F.FAB_CTXSEL.ACTIVE (lo + i)) * 2 ^ (8 * i))).sum
  [1 + 0x8840 * 2 ^ 16 + cause * 2 ^ 32 + (b2n halt + 2 * b2n rclk) * 2 ^ 40 + 2944 * 2 ^ 48, s.tick.toNat, live,
    running + e.fld F.TICK_BUDGET_STAT.PERIOD_PS * 2 ^ 32, act 0, act 8, 0, 0]

/-- The two qwords of queue entry `i`: FQ00 to FQ63, then SQ0 to SQ7 (R153, R302). -/
def State.sfxQueue (s : State) (i : Nat) : List Nat :=
  if i < 64 then
    [(s.queue i).wptr % 2 ^ 32 + (s.queue i).rptr % 2 ^ 32 * 2 ^ 32, s.queueStatus i % 2 ^ 32]
  else [(s.stream (i - 64)).wptr % 2 ^ 32 + (s.stream (i - 64)).rptr % 2 ^ 32 * 2 ^ 32, s.streamStatus (i - 64) % 2 ^ 32]

/-- The captured image of tick N: its qwords by number, those that are 0 left out. -/
def captureImage (s e : State) (cause : Nat) (halt : Bool) : List (Nat × Wide) :=
  let qs := sfxHeader s e cause halt ++ (List.range 2944).flatMap (fun k => (List.range 8).map (e.slotQword k)) ++
    (List.range 72).flatMap e.sfxQueue
  (List.range qs.length).filterMap (fun i => if qs.getD i 0 = 0 then none else some (i, BitVec.ofNat 64 (qs.getD i 0)))

/-- The engine with a new value. -/
def State.setSfx (s : State) (x : Starfix) : State := { s with fab := { s.fab with sfx := x } }

/-- A trigger that names tick `t` with cause `cause` fires (R150, R151): armed, or refused with STARFIX_BUSY or STARFIX_MISSED, logged with
SOURCE `src`. [DEDUCED 25] -/
def State.sfxTrigger (s : State) (t cause src : Nat) (named : Bool) : State :=
  if s.fld F.FAB_SFX_STAT.STATE ≠ 0 then (s.setFld F.FAB_SFX_STAT.STATUS C.STARFIX_BUSY).report C.STARFIX_BUSY src 0
  else if named ∧ t < s.tick.toNat + 4 then (s.setFld F.FAB_SFX_STAT.STATUS C.STARFIX_MISSED).report C.STARFIX_MISSED src 0
  else (((s.setSfx { s.fab.sfx with armed := some (BitVec.ofNat 64 t), cause := cause, halt := false, image := [] }).setFld F.FAB_SFX_STAT.STATE 1).setFld
    F.FAB_SFX_STAT.STATUS 0)

/-- One word of read-back at SPACE, SLOT, WORD (R158). -/
def State.readBack (s : State) (space slot word : Nat) : Nat :=
  if space = 0 then
    if slot < 2944 ∧ word < 16 then s.slotQword slot (word / 2) / 2 ^ (32 * (word % 2)) % 2 ^ 32 else 0
  else if space = 1 then
    if slot < 2560 ∧ slotType slot = .m ∧ word < 8704 then
      let m := clusterOf (slot % 64) (slot / 64)
      let a := word / 2
      let w := s.mword m (if a < 4096 then s.physWord m a else a)
      if word % 2 = 0 then w.data.toNat else b2n w.s + 2 * b2n w.parity
    else 0
  else if space = 2 then
    if 2816 ≤ slot ∧ slot < 2944 ∧ word < 1024 then (((s.xsBuf (slot - 2816)).words.getD word 0 : Word)).toNat else 0
  else 0

/-- Whether read-back is served: no site is RUNNING and no region is LOADING (R157). -/
def State.readBackOk (s : State) : Bool :=
  (List.range 16).all (fun n => (s.getPsq n).mode != .running) && (List.range 64).all (fun g => s.rgnState g != 1)

/-- Whether a read-back that `req` asks for is served (R157, R551). -/
def State.rbServed (s : State) (req : Requester) : Bool := s.allows req .readBack && s.readBackOk

/-- A read of FAB_RB_DATA (R157, R158, R551): the word, and WORD stepped; a refused read returns 0. -/
def State.rbDataRead (s : State) (req : Requester) : State :=
  if !s.allows req .readBack then ({ s with rdata := 0 }).logRefused req R.FAB_RB_DATA 0
  else if !s.readBackOk then ({ s with rdata := 0 }).report C.READBACK_NOT_STOPPED (srcRequester req) 0
  else
    let word := s.fld F.FAB_RB_ADDR.WORD
    let v := s.readBack (s.fld F.FAB_RB_ADDR.SPACE) (s.fld F.FAB_RB_ADDR.SLOT) word
    ({ s with rdata := BitVec.ofNat 64 v }).setFld F.FAB_RB_ADDR.WORD (word + 1)

/-- The bytes of the array copy for the M-cell of cluster `m` (R156). [DEDUCED 106] -/
def State.arrayBytes (s : State) (m : Nat) : List Byte :=
  (List.range 4352).flatMap (fun a =>
    let w := s.mword m (if a < 4096 then s.physWord m a else a)
    leBytes 8 (w.data.toNat + b2n w.s * 2 ^ 32 + b2n w.parity * 2 ^ 33))

/-- Entry `i` of a stream buffer, counted from entry `rd` on. -/
def XsBuf.entry (b : XsBuf) (rd i : Nat) : Word := mget (fun _ => (0 : Word)) ((rd + i) % 1024) b.ring

/-- The bytes of the array copy for the stream buffer of X-cell `x`: the words it held at the capture edge, from the captured read pointer on (R156). [DEDUCED 106] -/
def State.streamBytes (s : State) (x : Nat) : List Byte :=
  let cap := mget (fun _ => (0, 0)) x s.fab.sfx.levels
  (List.range 1024).flatMap (fun i => leBytes 8 (if i < cap.1 then ((s.xsBuf x).entry cap.2 i).toNat else 0))

/-- A block of the array copy written at DPA `a`, where the network lets the configuration block write it. [DEDUCED 106] -/
def State.copyOut (s : State) (a : Nat) (bs : List Byte) : State :=
  if memCheck s 172 a bs.length true = 0 then s.unitWrite 172 a bs else s.accLog 172 a (memCheck s 172 a bs.length true)

/-- The whole array copy (R156). [DEDUCED 106] -/
def State.unloadArrays (s : State) : State :=
  let a := s.fld F.FAB_SFX_ADDR.ADDR * 64
  let s1 := (List.range 256).foldl (fun t m => t.copyOut (a + 34816 * m) (t.arrayBytes m)) s
  (List.range 128).foldl (fun t x => t.copyOut (a + 8912896 + 8192 * x) (t.streamBytes x)) s1

end Sys2Proof.Machine
end

