-- ==== Sys2Proof/Machine/FabExec.lean ====
section
/-! DEFINITION. The meanings of the fabric's commands and events other than cell operations: context switches, routing parity, streams, freezing
and thawing, Starfix and read-back (R79 to R81, R98 to R99, R110 to R112, R119 to R120, R132 to R134, R144 to R159). -/

namespace Sys2Proof.Machine

/-- Context `c` becomes active in the cell in slot `k` by a switch (R37, R79). -/
def State.switchCell (s : State) (k : Nat) : State :=
  let x := s.ctxOf k
  if !x.pend then s
  else if x.pending = x.active then s.setCtx k { x with pend := false }
  else s.activate k x.pending

/-- CONTEXT_SWITCH: the pending select of the site takes effect in tick S + 2, or at r > 1 in the next frame-boundary tick (R24, R36, R38, R79);
cells of frozen regions do not switch, newly active routing faults hold the site (R134, R148), and a select issued in tick S + 1 is then pending
(R37). [DEDUCED 22] -/
def execContextSwitch (site : Fin 16) (s : State) : Host.Outcome State Fault Refusal :=
  let n := site.val
  let p := s.getPsq n
  let since := mget (fun _ => (0 : Wide)) n s.fab.selSince
  let due := decide (since.toNat + 2 ≤ s.tick.toNat) &&
    (p.rep == 1 || (p.mode == .running && p.nRun % p.rep == 0))
  if !s.bit (F.FAB_CTXSEL.PEND n) || !due then .next s
  else
    let c := s.fld (F.FAB_CTXSEL.PENDING n)
    let s1 := (s.setFld (F.FAB_CTXSEL.ACTIVE n) c).setFld (F.FAB_CTXSEL.PEND n) 0
    let gs := (s1.siteRegions n).filter (fun g => (s1.rgnState g == 3 || s1.rgnState g == 2) && !s1.bit (F.FAB_RGN_DESC.FROZEN g))
    let moved := (gs.flatMap s1.rgnSlots).filter (fun k => (s1.ctxOf k).pend && (s1.ctxOf k).pending != (s1.ctxOf k).active)
    let s2 := (gs.flatMap s1.rgnSlots).foldl (fun t k => t.switchCell k) s1
    .next ((moved.foldl (fun t k => match t.workPos k with
      | some q => (match t.posFaulty q with
        | some parity => t.raiseHold n (if parity then C.FAB_STORE_PARITY else C.ROUTE_CONFLICT)
        | none => t)
      | none => t) s2).releaseSelect n (s2.tick - 1))

/-- FAB_STORE_PARITY: a third of the active routing word of a position fails its parity check; every multiplexer with select bits in it is
faulty from this tick on (R133, R134). -/
def execFabStoreParity (pos : Fin 2688) (third : Fin 3) (s : State) : Host.Outcome State Fault Refusal :=
  let p := pos.val
  let c := s.activeCtx p
  if s.routeFault p c third.val then .next s
  else
    let old := s.muxFaults p c
    let s1 := { s with fab := { s.fab with routeBad := mset (fun _ => false) (24 * p + 3 * c + third.val) true s.fab.routeBad } }
    let fresh := (s1.muxFaults p c).filter (fun m => m.2 && !old.any (fun o => o.1 == m.1 && o.2))
    let s2 : State := fresh.foldl (fun (t : State) m => t.muxFault p c m.1 true) s1
    let g := s2.posRegion p
    .next (if s2.rgnState g = 0 then s2 else s2.raiseHold (s2.rgnSite g) C.FAB_STORE_PARITY)

/-- Whether a write with START or ABORT to FAB_XS_CTRL_x is ignored (R120). -/
def State.xsRefused (s : State) (x : Nat) : Bool :=
  let g := s.xRegion x
  let m := (s.getPsq (s.rgnSite g)).mode
  (s.rgnState g != 0 && (m == .running || m == .paused)) || getBits (s.staticWord (posOfSlot (xSlot x))) 1 1 == 0

/-- Whether START would find a stream length that it does not allow (R120). -/
def State.xsMalformed (s : State) (x : Nat) : Bool := s.fld (F.FAB_XS_LEN.WORDS x) == 0 || s.fld (F.FAB_XS_LEN.WORDS x) % 16 != 0

/-- XS_START: a write with START = 1 (R110, R120, R156). -/
def execXsStart (req : Requester) (x : Fin 128) (loop : Bool) (s : State) : Host.Outcome State Fault Refusal :=
  let k := x.val
  if s.xsRefused k then .next (s.logRefused req (R.FAB_XS_CTRL k) 0)
  else if s.xsMalformed k then .next (s.setFld (F.FAB_XS_STAT.FILL_ERR k) 1)
  else .next ((((((s.setXsBuf k { XsBuf.zero with popAt := (s.xsBuf k).popAt }).setFld (F.FAB_XS_CTRL.LOOP k) (b2n loop)).setFld
    (F.FAB_XS_STAT.BUSY k) 1).setFld (F.FAB_XS_STAT.DONE k) 0).setFld F.FAB_SFX_STAT.ARRAYS_HELD 0))

/-- XS_ABORT: a write with ABORT = 1 stops filling and empties the buffer (R120, R156). -/
def execXsAbort (req : Requester) (x : Fin 128) (loop : Bool) (s : State) : Host.Outcome State Fault Refusal :=
  let k := x.val
  if s.xsRefused k then .next (s.logRefused req (R.FAB_XS_CTRL k) 0)
  else .next (((((s.setXsBuf k { XsBuf.zero with popAt := (s.xsBuf k).popAt }).setFld (F.FAB_XS_CTRL.LOOP k) (b2n loop)).setFld
    (F.FAB_XS_STAT.BUSY k) 0).setFld (F.FAB_XS_STAT.DONE k) 0).setFld F.FAB_SFX_STAT.ARRAYS_HELD 0)

/-- XS_FILL_RESPONSE: a fill request for the next `words` words of the stream completes (R110, R112), at the address and length that the registers
hold when it completes. [DEDUCED 115] -/
def execXsFillResponse (x : Fin 128) (words : Fin 65) (status : Half) (s : State) : Host.Outcome State Fault Refusal :=
  let k := x.val
  let b := s.xsBuf k
  let n := words.val
  let len := s.fld (F.FAB_XS_LEN.WORDS k)
  let a := s.fld (F.FAB_XS_ADDR.ADDR k) * 64 + 4 * b.fetched
  if !s.bit (F.FAB_XS_STAT.BUSY k) || n == 0 || decide (1024 < b.words.length + n) || decide (len < b.fetched + n) then .next s
  else
    let c := memStatus s k a (4 * n) false status.toNat
    let s := s.eccSeen k a (4 * n) false status.toNat
    if c ≠ 0 then
      .next (((s.setFld (F.FAB_XS_STAT.FILL_ERR k) 1).setFld (F.FAB_XS_STAT.BUSY k) 0).report c (srcNi k) (a + k * 2 ^ 48))
    else
      let (bs, s1) := s.readDpa a (4 * n)
      let f := b.fetched + n
      let s2 := s1.setXsBuf k { b with words := b.words ++ bytesToWords bs, wr := (b.wr + n) % 1024,
                                       ring := ((bytesToWords bs).zip (List.range n)).foldl (fun m e => mset (fun _ => (0 : Word)) ((b.wr + e.2) % 1024) e.1 m) b.ring,
                                       fetched := if f = len ∧ s.bit (F.FAB_XS_CTRL.LOOP k) then 0 else f }
      .next (if f = len ∧ !s.bit (F.FAB_XS_CTRL.LOOP k) then
        (s2.setFld (F.FAB_XS_STAT.DONE k) 1).setFld (F.FAB_XS_STAT.BUSY k) 0 else s2)

/-- FAB_CTXSEL_WRITE: INIT is written, unless the site is active (R119). -/
def execFabCtxselWrite (req : Requester) (site : Fin 16) (value : Word) (s : State) : Host.Outcome State Fault Refusal :=
  if s.siteActive site.val then .next (s.logRefused req (R.FAB_CTXSEL site.val) 0)
  else .next (s.setFld (F.FAB_CTXSEL.INIT site.val) (value.toNat / 2 ^ 16 % 8))

/-- Whether the chunk part of a slice, be it one of slice 8, tests the M-cell of cluster `m` (R520). [DEDUCED 26] -/
def State.chunkTested (s : State) (m : Nat) : Bool := s.bist.slices.any (fun x => x.cl == m && x.chunk != .none && !x.chunkEnd)

/-- A request is held by the self-test engine until the slice ends (R520). [DEDUCED 27] -/
def State.holdRequest (s : State) (i : Instr) : State := { s with bist := { s.bist with held := s.bist.held ++ [i] } }

/-- A write to FAB_MREP_m_k that no slice holds up (R98, R99). -/
def State.mrepWrite (s : State) (req : Requester) (m k : Nat) (value : Word) : State :=
  let st := s.rgnState (s.fld (F.FAB_RGN_MAP.REGION m))
  if st = 0 ∨ st = 2 then
    (s.setFld (F.FAB_MREP.EN m k) (value.toNat / 256 % 2)).setFld (F.FAB_MREP.ROW m k) (value.toNat % 256)
  else s.logRefused req (R.FAB_MREP m k) 0

/-- FAB_MREP_WRITE: performed at once, or held while a slice tests the M-cell (R99, R520). -/
def execFabMrepWrite (req : Requester) (cl : Fin 256) (k : Fin 16) (value : Word) (s : State) : Host.Outcome State Fault Refusal :=
  if s.chunkTested cl.val then .next (s.holdRequest (.fabMrepWrite req cl k value)) else .next (s.mrepWrite req cl.val k.val value)

/-- A FREEZE or THAW refused, with its code in FAB_RGN_CMD_STAT.STATUS (R147). [DEDUCED 24] -/
def State.refuseRgn (s : State) (req : Requester) (op code : Nat) : State :=
  let s1 := s.setFld F.FAB_RGN_CMD_STAT.STATUS code
  if code = C.STATE_REFUSED then s1.logRefused req R.FAB_RGN_CMD op else s1.report code (srcRequester req) 0

/-- The tick in which a THAW of region `g` counts as accepted: the next one in the tick in which a load of the region commits (R430). -/
def State.thawTick (s : State) (g : Nat) : Wide :=
  if s.cfg.committed.any (fun c => c.1 == s.tick && c.2.contains g) then s.tick + 1 else s.tick

/-- A FREEZE or THAW accepted (R147). [DEDUCED 24] -/
def State.acceptRgn (s : State) (thaw : Bool) (g : Nat) : State :=
  ({ s with fab := { s.fab with rgnPend := some ⟨thaw, g, if thaw then s.thawTick g else s.tick, false⟩ } }.setFld F.FAB_RGN_CMD_STAT.STATUS 0).setFld
    F.FAB_RGN_CMD_STAT.BUSY 1

/-- FREEZE of region `g` (R145, R147). -/
def execFreeze (req : Requester) (g : Fin 64) (s : State) : Host.Outcome State Fault Refusal :=
  if !s.allows req .freezeThaw then .next (s.refuseRgn req 1 C.STATE_REFUSED)
  else if s.rgnState g.val = 0 then .next (s.refuseRgn req 1 C.FAB_REGION_INVALID)
  else if s.bit F.FAB_RGN_CMD_STAT.BUSY ∨ s.rgnState g.val = 1 then .next (s.refuseRgn req 1 C.STATE_REFUSED)
  else .next (s.acceptRgn false g.val)

/-- THAW of region `g` (R146, R147). -/
def execThaw (req : Requester) (g : Fin 64) (s : State) : Host.Outcome State Fault Refusal :=
  if !s.allows req .freezeThaw then .next (s.refuseRgn req 2 C.STATE_REFUSED)
  else if s.rgnState g.val = 0 then .next (s.refuseRgn req 2 C.FAB_REGION_INVALID)
  else if s.bit F.FAB_RGN_CMD_STAT.BUSY || s.rgnState g.val != 2 || !s.bit (F.FAB_RGN_DESC.FROZEN g.val) ||
      s.bit (F.FAB_RGN_DESC.FAILED g.val) then .next (s.refuseRgn req 2 C.STATE_REFUSED)
  else .next (s.acceptRgn true g.val)

/-- Whether the present tick is one in which a region command of site `n` may take effect: the site is not RUNNING, or the tick is a
frame-boundary tick of it (R145, R146). -/
def State.rgnTick (s : State) (n : Nat) : Bool :=
  let p := s.getPsq n
  p.mode != .running || p.nRun % p.rep == 0

/-- Whether a handover is under way in region `g` (R148). -/
def State.handoverIn (s : State) (g : Nat) : Bool :=
  s.bist.slices.any (fun x => (x.takeover.isSome || x.back.isSome) && s.fld (F.FAB_RGN_MAP.REGION x.cl) == g) ||
  s.bist.standIns.any (fun e => e.2.isSome && s.fld (F.FAB_RGN_MAP.REGION e.1) == g)

/-- A region command has taken effect in the present tick. -/
def State.rgnDone (s : State) : State :=
  ({ s with fab := { s.fab with rgnPend := none } }.setFld F.FAB_RGN_CMD_STAT.BUSY 0).setReg R.FAB_RGN_EVT_TICK s.tick

/-- FREEZE_TAKES_EFFECT: in tick F the region is HELD and FROZEN (R145). [DEDUCED 21] -/
def execFreezeTakesEffect (s : State) : Host.Outcome State Fault Refusal :=
  match s.fab.rgnPend with
  | some r =>
    if r.thaw || !decide (r.tick.toNat + 1 ≤ s.tick.toNat) || !s.rgnTick (s.rgnSite r.region) || s.handoverIn r.region then .next s
    else
      let s1 := if s.rgnState r.region = 3 then s.setRgnState r.region 2 else s
      .next (s1.setFld (F.FAB_RGN_DESC.FROZEN r.region) 1).rgnDone
  | none => .next s

/-- THAW_TAKES_EFFECT: in tick B the region is LIVE when its site is active (R146). -/
def execThawTakesEffect (s : State) : Host.Outcome State Fault Refusal :=
  match s.fab.rgnPend with
  | some r =>
    if !r.thaw || !r.copied || !decide (r.tick.toNat + 2 ≤ s.tick.toNat) || !s.rgnTick (s.rgnSite r.region) then .next s
    else
      let s1 := if s.siteActive (s.rgnSite r.region) && s.rgnState r.region == 2 then s.setRgnState r.region 3 else s
      .next s1.rgnDone
  | none => .next s

/-- STARFIX_ARM: a write of 1 to FAB_SFX_CTRL.ARM (R150, R151). [DEDUCED 24] -/
def execStarfixArm (req : Requester) (s : State) : Host.Outcome State Fault Refusal :=
  if !s.allows req .starfixArm then .next ((s.setFld F.FAB_SFX_STAT.STATUS C.STATE_REFUSED).logRefused req R.FAB_SFX_CTRL 0)
  else .next (s.sfxTrigger (s.reg R.FAB_SFX_TICK).toNat 0 (srcRequester req) true)

/-- CANCEL: an armed capture is disarmed. -/
def execStarfixCancel (_req : Requester) (s : State) : Host.Outcome State Fault Refusal :=
  if s.fld F.FAB_SFX_STAT.STATE = 1 then .next ((s.setSfx { s.fab.sfx with armed := none }).setFld F.FAB_SFX_STAT.STATE 0) else .next s

/-- STARFIX_CAPTURE: at the edge that ends the named tick the fabric's state is copied, and the queues' as they are at its end, without the packets handed over in it, which are written in
the next (R40, R302); in HALT mode every RUNNING site enters PAUSED
(R149, R152, R168). [DEDUCED 25] -/
def execStarfixCapture (s : State) : Host.Outcome State Fault Refusal :=
  if s.fld F.FAB_SFX_STAT.STATE ≠ 1 ∨ s.fab.sfx.armed ≠ some s.tick then .next s
  else
    let s : State := { s with dump := { s.dump with marks := s.dump.marks ||| 4 } }
    let s0 : State := { s with queues := s.queues.map (fun q => (q.1, { q.2 with inFlight := [] })) }
    let e := if s.fckOn then s0.fckEdge else s0
    let halt := s.bit F.FAB_SFX_CTRL.MODE
    let x := s.fab.sfx
    let levels := (List.range 128).filterMap (fun i =>
      if (e.xsBuf i).words.isEmpty then none else some (i, ((e.xsBuf i).words.length, (e.xsBuf i).rd)))
    let s1 := (s.setSfx { x with armed := none, halt := halt, image := captureImage s e x.cause halt, levels := if halt then levels else x.levels }).setFld
      F.FAB_SFX_STAT.STATE 2
    if halt then
      .next ((List.range 16).foldl (fun t n =>
        let p := t.getPsq n
        match p.mode, p.next with
        | .running, none => t.setPsq n { p with next := some .halt }
        | _, _ => t) (s1.setFld F.FAB_SFX_STAT.ARRAYS_HELD 1))
    else .next s1

/-- STARFIX_DRAIN_DONE: the image is ready in the Starfix buffer (R153). -/
def execStarfixDrainDone (s : State) : Host.Outcome State Fault Refusal :=
  if s.fld F.FAB_SFX_STAT.STATE = 2 then .next (s.setFld F.FAB_SFX_STAT.STATE 3) else .next s

/-- RELEASE: the Starfix buffer is freed (R153); an armed capture stays armed. [DEDUCED 25] -/
def execStarfixRelease (_req : Requester) (s : State) : Host.Outcome State Fault Refusal :=
  if 2 ≤ s.fld F.FAB_SFX_STAT.STATE then
    .next ((s.setSfx { s.fab.sfx with image := [] }).setFld F.FAB_SFX_STAT.STATE 0)
  else .next s

/-- UNLOAD: the array copy begins (R156); the copy of an M-cell under a chunk test waits for that (R520). [DEDUCED 27] -/
def execStarfixUnload (req : Requester) (s : State) : Host.Outcome State Fault Refusal :=
  if s.bit F.FAB_SFX_STAT.ARRAYS_HELD && !s.bit F.FAB_SFX_STAT.UNLOAD_BUSY then .next (s.setFld F.FAB_SFX_STAT.UNLOAD_BUSY 1)
  else .next ((s.setFld F.FAB_SFX_STAT.STATUS C.STATE_REFUSED).logRefused req R.FAB_SFX_CTRL 0)

/-- UNLOAD_DONE: the array copy is complete in attached memory (R156), which it cannot be while a slice tests an M-cell (R520). -/
def execStarfixUnloadDone (s : State) : Host.Outcome State Fault Refusal :=
  if s.bit F.FAB_SFX_STAT.UNLOAD_BUSY && !(List.range 256).any s.chunkTested then .next (s.unloadArrays.setFld F.FAB_SFX_STAT.UNLOAD_BUSY 0) else .next s

end Sys2Proof.Machine
end

