-- ==== Sys2Proof/Machine/Reset.lean ====
section
/-! DEFINITION. Start attempts, boot records and resets (R16, R382, R433, R434, R439, R441, R556, R607). -/

namespace Sys2Proof.Machine

/-- The domains that a warm reset leaves powered (R607). -/
def warmDomains : Nat := 2 ^ 0 + 2 ^ 1 + 2 ^ 2 + 2 ^ 3 + 2 ^ 16 + 2 ^ 17 + 2 ^ 18

/-- The domains powered in TWILIGHT (R439). -/
def twilightDomains : Nat := 2 ^ 0 + 2 ^ 1 + 2 ^ 2 + 2 ^ 3 + 2 ^ 18

/-- A boot record is written into the entry that NEXT names (R441). -/
def State.bootRecord (s : State) (code stage detail fails : Nat) : State :=
  let e := s.fld F.SEC_BOOT_STAT.NEXT
  let w := [s.sec.seq, code + stage * 2 ^ 16 + s.sec.cause * 2 ^ 24, detail, s.sec.slot + fails * 2 ^ 8]
  let s1 := (List.range 4).foldl (fun t i => t.setReg (R.SEC_BOOT_REC e i) (BitVec.ofNat 64 (w.getD i 0 % 2 ^ 32))) s
  s1.setFld F.SEC_BOOT_STAT.NEXT ((e + 1) % 8)

/-- The attempt in progress fails: its record is written and, where it counts, FAILS increases (R434). -/
def State.attemptFails (s : State) (code stage detail : Nat) (counted : Bool) : State :=
  let fails := if counted then satAt 15 (s.fld F.SEC_BOOT_STAT.FAILS + 1) else s.fld F.SEC_BOOT_STAT.FAILS
  (s.bootRecord code stage detail fails).setFlds [(F.SEC_BOOT_STAT.FAILS, fails), (F.SEC_BOOT_STAT.LAST_CODE, code)]

/-- An entry of the attestation log (R448): TYPE, SIGNER, SVN or slot, BUILD_ID or KCV, DIGEST. -/
def attestEntry (typ signer index : Nat) (tick : Wide) (svn build : Nat) (digest : List Byte) : List Byte :=
  leBytes 1 typ ++ leBytes 1 signer ++ leBytes 2 0 ++ leBytes 4 index ++ leBytes 8 tick.toNat ++ leBytes 4 svn ++ leBytes 4 0 ++
  leBytes 16 build ++ (digest ++ List.replicate 48 0).take 48 ++ leBytes 8 0

/-- An entry is appended to the attestation log and to its chain; beyond 320 entries it is counted in OVERFLOW (R448). A quote accepted
in the same tick includes it (R457). -/
def State.attest (s : State) (typ signer svn build : Nat) (digest : List Byte) : State :=
  let e := attestEntry typ signer s.sec.index s.tick svn build digest
  let s1 : State := { s with sec := { s.sec with chain := Config.sha384 (s.sec.chain ++ e), index := s.sec.index + 1,
                                                 log := if s.sec.log.length < 320 then s.sec.log ++ [e] else s.sec.log } }
  let s2 := if s.sec.log.length < 320 then s1.addSat F.SEC_LOG_STAT.ENTRIES 1 else s1.addSat F.SEC_LOG_STAT.OVERFLOW 1
  let quote (m : MboxCmd) : MboxCmd :=
    if m.tick = s2.tick then
      { m with entries := s2.sec.log.length, overflow := s2.fld F.SEC_LOG_STAT.OVERFLOW, chain := s2.sec.chain }
    else m
  { s2 with sec := { s2.sec with mbox := s2.sec.mbox.map quote } }

/-- Twilight mode: its record, the state and the powered domains (R439). -/
def State.enterTwilight (s : State) : State :=
  let s1 := (s.bootRecord C.BOOT_TWILIGHT 0xF 0 (s.fld F.SEC_BOOT_STAT.FAILS)).setFlds
    [(F.SEC_BOOT_STAT.STAGE, 0xF), (F.PWR_DOM_STAT.ON, twilightDomains), (F.NOC_FENCE_STAT.FENCED, 2 ^ 16 + 2 ^ 17)]
  let s2 := (List.range 8).foldl (fun t c => t.setFlds [(F.MEMC_STAT.STATE c, 0), (F.MEMC_STAT.RETAINED c, 0)]) s1
  { s2 with dev := .twilight, mem := [], sec := { s2.sec with slot := 0xFF }, hif := { s2.hif with retry := false } }

/-- The domains `ds` are powered. -/
def State.powers (s : State) (ds : List Nat) : State :=
  s.setFld F.PWR_DOM_STAT.ON (ds.foldl (fun v d => v ||| 2 ^ d) (s.fld F.PWR_DOM_STAT.ON))

/-- The boot ROM starts, once in an attempt (R436, R449). -/
def State.romStart (s : State) : State :=
  if s.sec.log.any (fun e => e.head? == some 1) then s else s.attest 1 0 0 0 Config.romDigest

/-- A start attempt begins (R433, R436): its number, the ROM's attestation entries (R449), and Twilight mode when FAILS is 3 or more. An uncorrectable error in a
critical fuse field ends it at stage 1, before the ROM starts (R444). [DEDUCED 66] -/
def State.beginAttempt (s : State) (cause : Nat) : State :=
  let s0 := { s with dev := .boot, sec := { s.sec with seq := s.sec.seq + 1, cause := cause, slot := 0xFF, svnUp := none, fwBad := none } }
  let s1 := s0.powers (if s0.sec.fuseBad then [0, 1] else [0, 1, 2])
  if s1.sec.fuseBad then ({ s1 with sec := { s1.sec with fwBad := some (C.BOOT_FUSE_ERR, 0) } }).setFld F.SEC_BOOT_STAT.STAGE 1
  else
  let s3 := (s1.setFld F.SEC_BOOT_STAT.STAGE 0).romStart
  let s4 := if s3.sec.testRec then
      let t := s3.attest 8 0 0 0 []
      { t with sec := { t.sec with testRec := false } }.report C.SEC_TEST_MODE 0 0
    else s3
  if 3 ≤ s4.fld F.SEC_BOOT_STAT.FAILS then s4.enterTwilight else s4

/-- The registers that hold fuses and the battery-backed store's state, which no reset changes (R443, R445, R529). -/
def isFuseReg (off : Nat) : Bool :=
  off == R.SEC_FUSE_STAT || off == R.SEC_KEY_STAT || (R.SEC_DEVICE_ID 0 ≤ off && off ≤ R.SEC_DEVICE_ID 3) ||
  (R.BIST_FUSE_REC 0 ≤ off && off ≤ R.BIST_FUSE_REC 63) || off == R.BIST_FUSE_STAT || off == R.GLB_INFO

/-- The registers that a reset keeps: those of other domains and the fuses. `por` tells a power-on reset. -/
def keepReg (por : Bool) (off : Nat) : Bool :=
  isFuseReg off || (match domainAt off with
    | .aon => true
    | .por => !por
    | .warm => false)

/-- Every READY channel goes into self-refresh with its contents kept; another channel's state is as it stands (R382). -/
def State.selfRefreshAll (s : State) : State :=
  (List.range 8).foldl (fun t c =>
    if t.fld (F.MEMC_STAT.STATE c) = 2 then t.setFlds [(F.MEMC_STAT.STATE c, 3), (F.MEMC_STAT.RETAINED c, 1)] else t) s

/-- A dump in progress that a reset ends is recorded as failed and logged at the next READY (R556). -/
def State.dumpCut (s : State) : State :=
  if s.dump.fatal.isSome then
    let s1 := s.setFlds [(F.ERR_DUMP_STAT.DEST, 3), (F.ERR_DUMP_STAT.STATUS, C.ERR_DUMP_FAIL), (F.ERR_DUMP_STAT.BUSY, 0)]
    { s1 with dump := { s1.dump with fatal := none, failLog := true } }
  else s

/-- What of the self-test engine no reset clears: the repair fuses and a blow in progress, what is known of the spare rows, and that a Nightfall test has been cut off (R529,
R533). -/
def State.bistKept (s : State) : BistState :=
  { BistState.reset with blow := s.bist.blow, fuses := s.bist.fuses, sparesOk := s.bist.sparesOk,
                         nfCut := s.bist.nfCut || s.fld F.BIST_STAT.NF == 1 }

/-- A repair-fuse blow in progress is cut off: it counts as an event and leaves its record in state 3 with unstated fuses, and the commands that wait lapse (R457). [DESIGN CHOICE 137] -/
def State.cutBlow (s : State) : State :=
  match s.bist.blow with
  | (_, i, _) :: _ =>
    let f : RepairFuse := ⟨BitVec.ofNat 32 (Config.unstated s.free 531), BitVec.ofNat 7 (Config.unstated s.free 532), BitVec.ofNat 3 (Config.unstated s.free 533)⟩
    let t : State := { s with bist := { s.bist with blow := [], fuses := mset (fun _ => (none : Option RepairFuse)) i (some f) s.bist.fuses } }
    ((t.setFlds [(F.BIST_FUSE_REC.STATE i, 3), (F.BIST_FUSE_REC.RECORD i, f.data.toNat)]).addSat F.BIST_FUSE_STAT.USED 1).tookFree
  | [] => s

/-- Everything that a warm reset clears is as after reset; registers of the AON and POR domains, fuses, keys, attached memory in self-refresh
and what the host set up in the configuration space stay (R16, R382, R433, R607). -/
def State.warmCleared (s0 : State) : State :=
  let s := s0.selfRefreshAll.dumpCut
  let q (t : State) : State := (List.range 4).foldl (fun u i => u.setFlds [(F.PSL_QSTAT.READY i, 0), (F.PSL_QSTAT.PWR_GOOD i, 0)]) t
  let r : State := { State.reset with
    pending := s.pending, free := s.free, f128 := s.f128, regs := mkeep (keepReg false) s.regs, mem := s.mem, hmem := s.hmem, msix := s.msix,
    bist := s.bistKept,
    sec := { SecState.reset with uds := s.sec.uds, keys := s.sec.keys, tamperLow := s.sec.tamperLow, vbatEvents := s.sec.vbatEvents,
                                 seq := s.sec.seq, cause := s.sec.cause, slot := s.sec.slot, testHold := s.sec.testHold,
                                 testRec := s.sec.testRec, fuseBad := s.sec.fuseBad, bbKcv := s.sec.bbKcv, fuseCut := s.sec.fuseCut },
    dump := { DumpState.reset with failLog := s.dump.failLog },
    noc := { NocState.reset with routes := s.noc.routes, erase := s.noc.erase },
    hif := { HifState.reset with retry := s.hif.retry, uplSeq := s.hif.uplSeq, space := s.hif.space }, jtag := s.jtag, aux := { AuxState.reset with flash := s.aux.flash },
    pwr := { PwrState.reset with thermtrip := s.pwr.thermtrip }, rdata := s.rdata }
  (q r).setFld F.PWR_DOM_STAT.ON (r.fld F.PWR_DOM_STAT.ON &&& warmDomains)

/-- A warm reset of cause `cause` (R433, R434): an attempt in progress ends with its record, the reset takes effect and the next attempt
begins. CAUSE 4 has written its own record; test-mode entry does not count. -/
def State.warmReset (s : State) (cause : Nat) : State :=
  let s1 :=
    if s.dev = .boot ∧ cause ≠ 4 then
      s.attemptFails (if cause = 3 then C.BOOT_WDT_EXPIRED else C.BOOT_INTERRUPTED) (s.fld F.SEC_BOOT_STAT.STAGE) 0 (cause != 7)
    else s
  let s2 := s1.warmCleared
  let s3 := if cause = 5 then s2.setFld F.SEC_BOOT_STAT.FAILS 0 else s2
  s3.beginAttempt cause

/-- The boot ROM or the firmware declares the attempt failed with `code`: the record is written and the device resets with CAUSE 4 (R434). -/
def State.declareFailure (s : State) (code detail : Nat) : State :=
  (s.attemptFails code (s.fld F.SEC_BOOT_STAT.STAGE) detail true).warmReset 4

/-- What a power-on reset clears (R16, R433): everything but the AON registers (which go too with `cause` 0), the fuses, the key store and the
flash is as after reset. A repair-fuse blow in progress is cut off. [DESIGN CHOICE 137] -/
def State.powerOnCleared (s : State) (cause : Nat) : State :=
  let s1 := if s.dev = .boot ∧ cause = 1 ∧ !s.sec.testHold then
      s.attemptFails C.BOOT_INTERRUPTED (s.fld F.SEC_BOOT_STAT.STAGE) 0 true
    else s
  let s2 := s1.cutBlow.dumpCut
  let keep (off : Nat) : Bool := if cause = 0 then isFuseReg off else keepReg true off
  let r : State := { State.reset with
    pending := s2.pending, free := s2.free, f128 := s2.f128, regs := mkeep keep s2.regs, hmem := s2.hmem,
    bist := { s2.bistKept with blow := [], sparesOk := [] },
    sec := { SecState.reset with uds := s2.sec.uds, keys := s2.sec.keys, tamperLow := s2.sec.tamperLow, vbatEvents := s2.sec.vbatEvents,
                                 seq := if cause = 0 then 0 else s2.sec.seq, testRec := cause != 0 && s2.sec.testRec, bbKcv := s2.sec.bbKcv,
                                 testHold := cause != 0 && s2.sec.testHold, fuseCut := s2.sec.fuseCut },
    dump := { DumpState.reset with failLog := cause != 0 && s2.dump.failLog }, jtag := if cause = 0 then JtagState.reset else s2.jtag,
    aux := { AuxState.reset with flash := s2.aux.flash }, rdata := s2.rdata }
  r.setFlds [(F.SEC_KEY_STAT.LOCKED, 0), (F.BIST_FUSE_STAT.STATUS, 0), (F.BIST_FUSE_STAT.BUSY, 0)]

end Sys2Proof.Machine
end

