-- ==== Sys2Proof/Machine/LogOps.lean ====
section
/-! DEFINITION. The logger: kinds, full and summary records, the ring and its reserve (R536 to R546). -/

namespace Sys2Proof.Machine

/-- The class number of a code in a record's FLAGS (R541). -/
def ErrClass.code : ErrClass → Nat
  | .info => 0
  | .warn => 1
  | .error => 2
  | .fatal => 3

/-- The class of `code` now: SEC_TAMPER follows SEC_TAMPER_CFG.FATAL (R548). -/
def State.codeClass (s : State) (code : Nat) : ErrClass := classOf (s.bit F.SEC_TAMPER_CFG.FATAL) code

/-- Free entries of the log ring (R539). -/
def State.ringFree (s : State) : Nat := 4096 - (s.err.wptr - s.err.rptr).toNat

/-- Whether a record of `code` finds an entry that R539 allows it. -/
def State.ringAllows (s : State) (code : Nat) : Bool :=
  if s.codeClass code = .fatal ∨ code = C.ERR_RING_FULL then decide (0 < s.ringFree) else decide (64 < s.ringFree)

/-- The error-log event of a record write (R545, R580): posted unless one was posted in the last ELOG_US µs. -/
def State.elogEvent (s : State) : State :=
  if s.hif.window then { s with hif := { s.hif with late := true } }
  else
    let s1 := s.postEvent 3 0 s.err.wptr.toNat 1
    { s1 with hif := { s1.hif with window := s1.fld F.HIF_CFG.ELOG_US != 0, late := false } }

/-- One record is written at WPTR (R541). -/
def State.putRecord (s : State) (tick : Wide) (code flags : Nat) (source : Word) (detail : Wide) (tail : Nat) (more : Nat := 0) : State :=
  let r : LogRecord := ⟨tick, BitVec.ofNat 16 code, BitVec.ofNat 8 ((s.codeClass code).code + flags), source, detail, s.err.wptr,
    BitVec.ofNat 32 tail, more⟩
  let e := s.err
  { s with err := { e with ring := mset (fun _ => none) (e.wptr.toNat % 4096) (some r) e.ring, wptr := e.wptr + 1 } }.elogEvent

/-- The kind table entry of a code and source (R537). -/
def ErrState.kind (e : ErrState) (code : Half) (source : Word) : Option KindEntry :=
  e.kinds.find? (fun k => k.code == code && k.source == source)

/-- The kind table with entry `k` in place of its kind's, or in a free entry when the kind has none. -/
def ErrState.setKind (e : ErrState) (k : KindEntry) : ErrState :=
  if (e.kind k.code k.source).isSome then
    { e with kinds := e.kinds.map (fun j => if j.code == k.code && j.source == k.source then k else j) }
  else { e with kinds := e.kinds ++ [k] }

/-- The entry that a report's kind has, or a fresh one where the table of 1,024 has room (R537). -/
def ErrState.kindFor (e : ErrState) (code : Half) (source : Word) (first : Wide) : Option KindEntry :=
  match e.kind code source with
  | some k => some k
  | none => if e.kinds.length < 1024 then some ⟨code, source, first, first, 0, 0, 0, 0, 0, false⟩ else none

/-- When the ring has just entered its reserve, ERR_RING_FULL is written into it at once (R539). [DEDUCED 87] -/
def State.reserveCheck (s : State) : State :=
  if !s.bit F.ERR_STAT.RESERVE && decide (s.ringFree ≤ 64) then
    let s1 := s.setFld F.ERR_STAT.RESERVE 1
    let t := s1.tick
    match s1.err.kindFor (BitVec.ofNat 16 C.ERR_RING_FULL) 0 t with
    | some k =>
      let n := satAt 8 (k.full + 1)
      ({ s1 with err := s1.err.setKind { k with last := t, full := n, total := satAt 0xFFFFFFFF (k.total + 1) } }).putRecord t
        C.ERR_RING_FULL 0 0 0 n
    | none => s1.putRecord t C.ERR_RING_FULL 0 0 0 1
  else s

/-- A full record (R538, R541): `flags` adds BOOT or PRIOR. -/
def State.fullRecord (s : State) (tick : Wide) (code flags : Nat) (source : Word) (detail : Wide) (n : Nat) (more : Nat := 0) : State :=
  (s.putRecord tick code flags source detail n more).reserveCheck

/-- The logger handles one intake entry (R537, R538). -/
def State.handleReport (s : State) (r : ErrReport) : State :=
  match s.err.kindFor r.code r.source r.first with
  | none => { s with err := s.err.lose r.count }
  | some k =>
    let code := r.code.toNat
    let full := !k.coalesced && decide (k.full < 8) && s.ringAllows code
    let rest := if full then r.count - 1 else r.count
    let k1 := { k with last := r.last, total := satAt 0xFFFFFFFF (k.total + r.count), full := if full then k.full + 1 else k.full }
    let k2 := if rest = 0 then k1 else
      { k1 with pfirst := if k1.pending = 0 then r.first else k1.pfirst, plast := r.last,
                pending := satAt 0xFFFFFFFF (k1.pending + rest) }
    let s1 := { s with err := s.err.setKind k2 }
    if full then s1.fullRecord r.first code 0 r.source r.detail k2.full r.more else s1

/-- A reporter's held report enters the intake as soon as there is room (R536). [DEDUCED 85] -/
def ErrState.refillIntake (e : ErrState) : ErrState :=
  match e.held with
  | (b, some r) :: _ => if e.intake.length < 64 then
      { e with intake := e.intake ++ [r], held := mset (fun _ => none) b none e.held } else e
  | _ => e

/-- The logger takes the oldest intake entry, when there is one (R535, R538). -/
def State.takeEntry (s : State) : State :=
  match s.err.intake with
  | [] => s
  | r :: rs => ({ s with err := { s.err with intake := rs }.refillIntake }).handleReport r

/-- The summary record of one kind, when it is pending and the ring has an entry outside the reserve (R540). -/
def State.summary (s : State) (k : KindEntry) : State :=
  if k.pending = 0 ∨ s.ringFree ≤ 64 then s
  else
    let s1 := s.putRecord k.pfirst k.code.toNat 4 k.source k.plast k.pending
    ({ s1 with err := s1.err.setKind { k with pending := 0, coalesced := true } }).reserveCheck

/-- Summary records for every pending kind, in the order of the kind table (R540). -/
def State.summaries (s : State) : State := s.err.kinds.foldl (fun t k => t.summary ((t.err.kind k.code k.source).getD k)) s

/-- The 32 bytes of a record (R541). -/
def LogRecord.bytes (r : LogRecord) : List Byte :=
  leBytes 8 r.tick.toNat ++ leBytes 2 r.code.toNat ++ leBytes 1 0 ++ leBytes 1 r.flags.toNat ++ leBytes 4 r.source.toNat ++
  leBytes 8 r.detail.toNat ++ leBytes 4 r.seq.toNat ++ leBytes 4 r.tail.toNat

/-- The 32 bytes of a kind table entry (R544). -/
def KindEntry.bytes (k : KindEntry) : List Byte :=
  leBytes 8 k.first.toNat ++ leBytes 2 k.code.toNat ++ leBytes 1 1 ++ leBytes 1 k.full ++ leBytes 4 k.source.toNat ++
  leBytes 8 k.last.toNat ++ leBytes 4 k.total ++ leBytes 4 k.pending

/-- The boot records copied at READY, those written since the last READY, each a full record with BOOT set (R436, R546), or coalesced where the ring has no entry for it
(R539). -/
def State.bootRecordLog (s : State) (code detail : Nat) : State :=
  let c : Half := BitVec.ofNat 16 code
  match s.err.kindFor c 0 0 with
  | none => { s with err := s.err.lose 1 }
  | some k =>
    let k1 := { k with total := satAt 0xFFFFFFFF (k.total + 1) }
    if s.ringAllows code then
      let n := satAt 8 (k.full + 1)
      ({ s with err := s.err.setKind { k1 with full := n } }).fullRecord 0 code 8 0 (BitVec.ofNat 64 detail) n
    else { s with err := s.err.setKind { k1 with last := 0, pfirst := if k.pending = 0 then 0 else k.pfirst, plast := 0,
                                                 pending := satAt 0xFFFFFFFF (k.pending + 1) } }

end Sys2Proof.Machine
end

