-- ==== Sys2Proof/Machine/CfgOps.lean ====
section
/-! DEFINITION. Loads: how one begins, fails and commits (R33, R141, R172, R409 to R418, R427). -/

namespace Sys2Proof.Machine

/-- SOURCE of a load's reports: its requester, none for a load that no requester asked for. -/
def srcOptional : Option Requester → Nat
  | some r => srcRequester r
  | none => 0

/-- State of IMEM page `p` of sequencer `n` in PSQ_PG_STAT (R172). -/
def pageFld (n p : Nat) : Fld := ⟨R.PSQ_PG_STAT n, 2 * p, 2⟩

/-- Page `p` of sequencer `n` takes state `st`; a fill in progress on it lapses (R172). -/
def State.setPage (s : State) (n p st : Nat) : State :=
  let q := s.getPsq n
  (s.setPsq n { q with fills := mset (fun _ => none) p none q.fills }).setFld (pageFld n p) st

/-- TICK_BUDGET_STAT.PMIN_PS: the largest PMIN of the configurations that regions hold and of the load in progress (R33, R411). [DEDUCED 13] -/
def State.updPmin (s : State) : State :=
  let own := match s.cfg.load with
    | some l => (l.hdr.map (·.pmin)).getD 0
    | none => 0
  s.setFld F.TICK_BUDGET_STAT.PMIN_PS ((s.cfg.pmins.map (·.2)).foldl max own)

/-- The configuration block with a new load. -/
def State.setLoad (s : State) (l : Option CfgLoad) : State := { s with cfg := { s.cfg with load := l, waits := if l.isSome then s.cfg.waits else [] } }

/-- Whether the load in progress writes IMEM or configuration of sequencer `n` (R414). -/
def State.loadWrites (s : State) (n : Nat) : Bool :=
  match s.cfg.load with
  | some l => l.psqCfg.any (fun c => c.1 == n) || l.pages.any (fun c => c.1 == n)
  | none => false

/-- CFG_STAT.STATE when a load has ended: IDLE, or within a chain stream SKIP until the next header (R422). -/
def State.afterLoad (s : State) : State := s.setFld F.CFG_STAT.STATE (if s.cfg.chain.isSome then 5 else 0)

/-- Every context of the cells of region `g` loses its LOADED flag (R141). -/
def State.clearLoaded (s : State) (g : Nat) : State :=
  (s.rgnSlots g).foldl (fun t k => (List.range 8).foldl (fun u c => u.setLoadedFlag k c false) t) s

/-- The slices whose X-cell lies in a region of `gs` (R258: slices 2x and 2x + 1 belong to X-cell x). -/
def State.slicesOfRegions (s : State) (gs : List Nat) : List Nat :=
  (List.range 256).filter (fun k => gs.contains (s.fld (F.FAB_RGN_XMAP.REGION (k / 2))))

/-- What a load that fails after it began leaves (R417). -/
def State.undoLoad (s : State) (l : CfgLoad) (h : CfgHdr) : State :=
  let s1 := l.regions.foldl (fun t g => ((t.clearLoaded g).setRgnState g 2).setFld (F.FAB_RGN_DESC.FAILED g) 1) s
  let s2 := l.pages.foldl (fun t p => t.setPage p.1 p.2 0) s1
  let s3 := if h.kind = 2 then
      (s2.slicesOfRegions (onesFrom 64 0 h.regionSet)).foldl (fun t k => t.setFld (F.PSL_SITE.EN k) 0) s2
    else s2
  let s4 := l.psqCfg.foldl (fun t c => (List.range 8).foldl (fun u k => u.setFld (F.PSQ_VENT.EN c.1 k) 0) t) s3
  let s5 := (s4.setLoad none).updPmin
  if h.kind = 1 then { s5 with dev := if s5.dev = .loaded then .ready else s5.dev } else s5

/-- The slot that the next frame of the load in progress targets, when it is one that writes a slot (R404). -/
def State.frameSlot (s : State) : Option Nat :=
  s.cfg.load.bind (fun l =>
    let t := ofLeBytes (l.plain.take 2)
    if t = 3 ∨ t = 4 ∨ t = 5 ∨ t = 9 then some (ofLeBytes ((l.plain.drop 8).take 8) % 4096) else none)

/-- SOURCE and DETAIL of the failure of a load with `code`: a check of a frame names the unit that the frame targets (R121, R217, R542, R543), any other failure
the requester, with CFG_FAIL_INFO `info` where the code is one of the configuration block (R432). [DEDUCED 123] -/
def State.failSource (s : State) (req : Option Requester) (code info : Nat) : Nat × Nat :=
  if code = C.PSQ_VENT_INVALID then
    let n := (s.cfg.load.map (fun l => ofLeBytes ((l.plain.drop 8).take 8) % 16)).getD 0
    (srcSeq n, (s.getPsq n).pc.toNat)
  else if code = C.FAB_OP_INVALID ∨ code = C.FAB_REGION_INVALID ∨ code = C.ROUTE_CONFLICT then
    match s.frameSlot with
    | some k => (srcSlot k, if code = C.ROUTE_CONFLICT then (s.reg R.FAB_RT_CONFLICT_LAST).toNat else (s.ctxOf k).active)
    | none => (srcOptional req, 0)
  else (srcOptional req, if code = C.STATE_REFUSED then R.CFG_CMD + 2 ^ 32 else if code / 256 = 9 then info else 0)

/-- The outcome of a load or a command in CFG_STAT.STATUS and CFG_FAIL_INFO, logged once (R418, R432). -/
def State.cfgRecord (s : State) (req : Option Requester) (code detail typ offset : Nat) : State :=
  let info := offset % 2 ^ 32 + typ * 2 ^ 32 + detail * 2 ^ 48
  let u := s.failSource req code info
  ((s.setFld F.CFG_STAT.STATUS code).setReg R.CFG_FAIL_INFO (BitVec.ofNat 64 info)).report code u.1 u.2

/-- The outcome of an own image of a chain stream in CFG_CHAIN_STAT (R424). -/
def State.ownStatus (s : State) (l : CfgLoad) (code : Nat) : State :=
  if l.chained then
    let s1 := s.setFld F.CFG_CHAIN_STAT.OWN_STATUS code
    if code = 0 then s1.addSat F.CFG_CHAIN_STAT.LOADED 1 else s1
  else s

/-- A load is set going at `base` in its source (R408): CFG_STAT names it and the block waits for a header. [DEDUCED 20] -/
def State.beginLoad (s : State) (req : Option Requester) (src : Nat) (fallback golden chain : Bool) (base : Nat) (avail : Option Nat) :
    State :=
  let s1 := s.setFlds [(F.CFG_STAT.SRC, src), (F.CFG_STAT.CHAIN, b2n chain), (F.CFG_STAT.STATE, 1)]
  if chain then
    let s2 := s1.setFlds [(F.CFG_CHAIN_STAT.FORWARDED, 0), (F.CFG_CHAIN_STAT.LOADED, 0)]
    { s2 with cfg := { s2.cfg with chain := some ⟨req, src, fallback, golden, base, avail, [], 0, 0, false, 0⟩ } }
  else
    s1.setLoad (some ⟨req, src, fallback, golden, false, base, avail, none, 0, 0, [], 0, false, false, 0, [], none, [], [], [], none⟩)

/-- The load in progress fails (R417, R418), and where `retry` allows it the golden image is tried at once (R427). -/
def State.loadFail (s : State) (code detail typ offset : Nat) (retry : Bool) : State :=
  match s.cfg.load with
  | none => s
  | some l =>
    let s1 := (s.cfgRecord l.req code detail typ offset).ownStatus l code
    let s2 := match l.hdr with
      | some h => s1.undoLoad l h
      | none => s1.setLoad none
    let s3 := s2.afterLoad
    if retry && l.fallback && !l.golden && l.src == 1 then
      ({ s3 with cfg := { s3.cfg with chain := none } }).beginLoad l.req 1 true true l.chained (s3.fld F.CFG_FLASH_GOLD.ADDR * 4096) none
    else s3

/-- The bytes of the part of the image that the load in progress receives next: the header, a chunk with its tag, or the signature (R397). -/
def CfgLoad.partLen (l : CfgLoad) : Nat :=
  match l.hdr with
  | none => 256
  | some h => if l.chunks + 1 < h.nchunk then 65552 else if l.chunks < h.nchunk then h.lastLen + 16 else 96

/-- The image bytes that load `l` has received (R418): those of an upstream stream one by one; from another source the parts received whole and, of the part that it is
receiving, a number that no command tells. [DESIGN CHOICE 136] -/
def State.received (s : State) (l : CfgLoad) : Nat :=
  if l.src = 3 then l.image.length
  else if l.commit.isSome then l.image.length + 96
  else l.recv + Config.unstated s.free 418 % l.partLen

/-- A load, and a chain stream with it, ended by an abort or a fatal report with CFG_ABORTED (R416, R552). -/
def State.abortLoad (s : State) (stream : Bool) : State :=
  let s1 := match s.cfg.load with
    | some l => (s.loadFail C.CFG_ABORTED 0 0 (s.received l) false).tookFree
    | none => s
  if stream && s1.cfg.chain.isSome then
    ({ s1 with cfg := { s1.cfg with chain := none } }).setFlds [(F.CFG_STAT.CHAIN, 0), (F.CFG_STAT.STATE, 0)]
  else s1

end Sys2Proof.Machine
end

