-- ==== Sys2Proof/Machine/BistOps.lean ====
section
/-! DEFINITION. Slices of the self-test engine: verdicts and aborts (R511, R517 to R521). -/

namespace Sys2Proof.Machine

/-- BIST_LAST [15:0] of a part: KIND, PART and UNIT (R542). -/
def bistPart (kind part unit : Nat) : Nat := unit % 256 + part * 256 + kind * 4096

/-- KIND and PART of the logic part of a slice, while that goes on. -/
def BistSlice.logicId (x : BistSlice) : Option (Nat × Nat) :=
  if x.logicEnd.isSome then none
  else match x.logic with
  | .none => none
  | .rotated => some (0, sliceCell x.j)
  | .direct => some (1, sliceCell x.j)
  | .ucell => some (2, 0)

/-- KIND and PART of the chunk part of a slice, while that goes on. -/
def BistSlice.chunkId (x : BistSlice) : Option (Nat × Nat) :=
  if x.chunkEnd then none
  else match x.chunk with
  | .none => none
  | .chunk => some (3, x.j)
  | .spares => some (4, 0)

/-- A verdict is recorded in BIST_LAST, BIST_LAST_SIG and BIST_LAST_TICK (R518): 1 FAIL, 2 INCOMPLETE. -/
def State.recordPart (s : State) (id : Nat × Nat) (unit verdict : Nat) (abort : Bool) (count : Nat) (sig : Wide) : State :=
  let v := bistPart id.1 id.2 unit + verdict * 2 ^ 16 + b2n abort * 2 ^ 18 + count % 2 ^ 32 * 2 ^ 32
  ((s.setReg R.BIST_LAST (BitVec.ofNat 64 v)).setReg R.BIST_LAST_SIG sig).setReg R.BIST_LAST_TICK s.tick

/-- A BIST code raised for a part; DETAIL is BIST_LAST (R543). -/
def State.reportPart (s : State) (code : Nat) (id : Nat × Nat) (unit : Nat) : State :=
  s.report code (srcBist (bistPart id.1 id.2 unit)) (s.reg R.BIST_LAST).toNat

/-- The running slice of cluster `cl` replaced, or ended with `none`. -/
def State.putSlice (s : State) (cl : Nat) (y : Option BistSlice) : State :=
  { s with bist := { s.bist with slices := s.bist.slices.flatMap (fun x => if x.cl = cl then y.toList else [x]) } }

/-- A rotated slice goes over into its hand-back at the coming edge, the comparison of which disagrees in the tick that `differs` gives, if it does (R511,
R512). -/
def BistSlice.handBack (x : BistSlice) (g : Wide) (differs : Option (Fin 3)) : BistSlice :=
  { x with chunk := .none, chunkEnd := false, logicEnd := none, back := some g, differs := differs.map (fun d => g + BitVec.ofNat 64 d.val) }

/-- A slice aborts: INCOMPLETE with ABORT = 1 for the parts that run, its registers and data restored, a rotated cell handed back (R511) unless its test has failed it
(R518), and the slice rescheduled as the first of its stripe (R521). A hand-back under way goes on. Aborts that the spec does not count are neither counted nor
logged (R533, R603). -/
def State.abortSlice (s : State) (x : BistSlice) (counted : Bool) (count : Nat) (differs : Option (Fin 3)) (sig : Wide) : State :=
  if x.back.isSome then s
  else
    let ids := x.logicId.toList ++ x.chunkId.toList
    let s1 := ids.foldl (fun t id => t.recordPart id x.cl 2 true count sig) s
    let s2 := if counted then
        let t := (s1.addSat F.BIST_EVT_CNT.ABORTS 1).addSat F.BIST_EVT_CNT.INCOMPLETE ids.length
        t.reportPart C.BIST_SLICE_ABORTED ((ids.getLast?).getD (0, 0)) x.cl
      else s1
    let s3 := { s2 with bist := { s2.bist with first := (10 * x.cl + x.j) :: s2.bist.first } }
    match x.logic, x.takeover with
    | .rotated, some _ => (s3.setFld (F.FAB_CL_STAT.U_STATE x.cl) 0).putSlice x.cl none
    | .rotated, none => s3.putSlice x.cl (if x.logicEnd = some 1 then none else some (x.handBack (s3.tick + 1) differs))
    | _, _ => s3.putSlice x.cl none

/-- A count, the tick in which a hand-back disagrees, if it does, and a signature, which the spec gives no value for where slices abort without the engine telling
them. [DESIGN CHOICE 75] -/
def State.freeVerdict (s : State) : Nat × Option (Fin 3) × Wide :=
  let d := Config.unstated s.free 2 % 4
  (Config.unstated s.free 0 % 2 ^ 32, if h : d < 3 then some ⟨d, h⟩ else none, BitVec.ofNat 64 (Config.unstated s.free 1))

/-- The slices for which `p` holds abort with restore. [DESIGN CHOICE 75] -/
def State.abortSlices (s : State) (p : BistSlice → Bool) (counted : Bool) : State :=
  ((s.bist.slices.filter p).foldl (fun (t : State) x =>
    (t.abortSlice x counted t.freeVerdict.1 t.freeVerdict.2.1 t.freeVerdict.2.2).tookFree) s).tookFree

/-- A U-cell that works, or takes over or hands back, at the position of a cell which is now a routed-clock B-cell leaves it at once with the registers it holds (R105,
R118): a slice of the cell aborts without being counted, and a cell marked failed is then fenced. [DEDUCED 63] -/
def State.leaveRclk (s : State) (m : Nat) : State :=
  let k := coreSlot m (s.fld (F.FAB_CL_STAT.U_TARGET m))
  if s.fld (F.FAB_CL_STAT.U_STATE m) ≠ 0 ∧ s.isRclk (k + 64) then
    let s1 := if s.fld (F.FAB_CL_STAT.U_STATE m) = 2 then (s.setCell k (s.cell (2560 + m))).setCtx k (s.ctxOf (2560 + m)) else s
    ((s1.abortSlices (fun x => x.cl == m && x.logic == .rotated) false).putSlice m none).setFlds
      [(F.FAB_CL_STAT.U_STATE m, 0), (F.FAB_CL_STAT.U_TARGET m, 0)]
  else s

/-- The U-cell of cluster `m` stands in at once for a cell marked failed, where no region runs yet: at start-up and when a stripe gains power (R523, R606). [DEDUCED 63] -/
def State.standIn (s : State) (m : Nat) : State :=
  match s.standTarget m with
  | some i => s.loadUcell m i 2
  | none => s

/-- A load has assigned cluster `m`: the U-cell is to stand in for a cell of it that is marked failed, by the takeover of R508 (R518). -/
def State.wantStandIn (s : State) (m : Nat) : State :=
  if s.bist.standIns.any (fun e => e.1 == m) ∨ s.fld (F.BIST_CL.FAILED m) = 0 then s
  else { s with bist := { s.bist with standIns := s.bist.standIns ++ [(m, none)] } }

end Sys2Proof.Machine
end

