-- ==== Sys2Proof/Machine/Fatal.lean ====
section
/-! DEFINITION. Fatal reports: ERR_FATAL, FAULT, the holds and the start of the dump (R552, R553, R557, R562). -/

namespace Sys2Proof.Machine

/-- ERR_FATAL and ERR_FATAL_TICK latched by a fatal report (R552): a later report does not change them, and of two in one tick the lower code
counts (R562). -/
def State.latchFatal (s : State) (code source : Nat) : State :=
  let cur := s.fld F.ERR_FATAL.CODE
  if cur = 0 then (s.setFlds [(F.ERR_FATAL.CODE, code), (F.ERR_FATAL.SOURCE, source)]).setReg R.ERR_FATAL_TICK s.tick
  else if s.reg R.ERR_FATAL_TICK = s.tick ∧ code < cur then s.setFlds [(F.ERR_FATAL.CODE, code), (F.ERR_FATAL.SOURCE, source)]
  else s

/-- The holds that wait for a tick edge take effect at once, FCK being stopped (R552). -/
def State.holdsNow (s : State) : State :=
  (List.range 16).foldl (fun t n =>
    match (t.getPsq n).next with
    | some (.hold c) => t.commitHold n c
    | _ => t) s

/-- How the Starfix image of a dump comes about (R557, R562): an image that stands is waited for; with FCK stopped, or changing, there is none; else an armed capture is replaced by
the dump's own, with MODE = RESUME. [DEDUCED 88] -/
def State.dumpCapture (s : State) : State :=
  let set (t : State) (v : Nat) : State := { t with dump := { t.dump with sfx := v } }
  if 2 ≤ s.fld F.FAB_SFX_STAT.STATE then set s 1
  else if !s.fckOn ∨ s.bit F.TICK_STAT.FCK_BUSY then set s 2
  else
    let t := s.setSfx { s.fab.sfx with armed := some (s.tick + 16), cause := 3, halt := false, image := [] }
    set (t.setFlds [(F.FAB_SFX_STAT.STATE, 1), (F.FAB_SFX_CTRL.MODE, 0)]) 0

/-- What a fatal report starts beside the holds (R552): loads end, slices abort, a Nightfall test ends without a ledger (R562), the dump begins. -/
def State.faultWork (s : State) : State :=
  let s1 := (s.calFailAll.abortLoad false).abortSlices (fun _ => true) true
  let s2 := if s1.fld F.BIST_STAT.NF = 1 then s1.setFld F.BIST_STAT.NF 0 else s1
  s2.dumpCapture.setFld F.ERR_DUMP_STAT.BUSY 1

/-- The management core that a SOURCE names, none for another unit (R542). -/
def coreOf (source : Nat) : Option Nat := if source / 2 ^ 28 = 0xD then some (source % 2) else none

/-- A management core that reports its own fault (ERR_FW_FATAL) counts as faulted (R554). -/
def State.coreFault (s : State) (code source : Nat) : State :=
  match coreOf source with
  | some m => if code = C.ERR_FW_FATAL then { s with dump := { s.dump with cores := s.dump.cores ||| 2 ^ m } } else s
  | none => s

/-- A hold cause of the present tick replaced by a lower one after the sites and the constellation have taken it, FCK being stopped (R552, R562). -/
def State.lowerHolds (s : State) (old code : Nat) : State :=
  let s1 := (List.range 16).foldl (fun t n =>
    if (t.getPsq n).mode == .safeHold && t.reg (R.PSQ_HOLD_TICK n) == t.tick && t.fld (F.PSQ_HOLD_CAUSE.CODE n) == old then
      t.setFld (F.PSQ_HOLD_CAUSE.CODE n) code
    else t) s
  { s1 with csc := { s1.csc with holds := s1.csc.holds.map (fun h => if h.kind = 2 ∧ h.code = old then { h with code := code } else h) } }

/-- A further report of class F while the dump is due: of those of one tick the lowest code is the fatal one (R562). -/
def State.secondFatal (s : State) (code source : Nat) : State :=
  match s.dump.fatal with
  | some (old, before, active) =>
    if s.dump.stopAt = some (s.tick + 15) ∧ code < old then
      let s1 := ({ s with dump := { s.dump with fatal := some (code, before, active) } }).latchFatal code source
      if s1.devFault then s1.holdAll code else s1.lowerHolds old code
    else s
  | none => s

/-- A report of class F (R552, R553): fatal from READY to SAFE_HOLD, the end of the attempt in BOOT, unless that has ended already, only logged in TWILIGHT and FAULT. -/
def State.reportFatal (s : State) (code source detail : Nat) : State :=
  let s1 := (s.report code source detail).coreFault code source
  match s1.dev with
  | .off | .twilight => s1
  | .fault => if s1.fckOn then s1 else s1.secondFatal code source
  | .boot => if s1.sec.testHold then s1 else s1.declareFailure code (detail % 2 ^ 32)
  | .ready | .loaded =>
    if s1.devFault then s1.secondFatal code source
    else
      let before := s1.glbState
      let active := siteBits s1.siteActive
      let s2 := { s1 with devFault := true,
                          dump := { s1.dump with fatal := some (code, before, active), stopAt := some (s1.tick + 15) } }
      let s3 := ((s2.latchFatal code source).holdAll code).faultWork
      if s3.fckOn then s3
      else ({ s3.holdsNow with dev := .fault, devFault := false }).faultHold true

/-- A report of any class, raised by a unit or a condition: fatal handling where its class is F. -/
def State.reportAny (s : State) (code source detail : Nat) : State :=
  if s.codeClass code = .fatal then s.reportFatal code source detail else s.report code source detail

/-- A second trap in TRAP state: the sequencer issues no more, its site is held whatever its state, and the report is fatal (R207, R552). -/
def State.doubleFault (s : State) (n cause : Nat) : State :=
  let p := s.getPsq n
  let s1 := (s.setPsq n { p with faulted := true }).raiseHold n C.PSQ_DOUBLE_FAULT
  s1.reportFatal C.PSQ_DOUBLE_FAULT (srcSeq n) (p.pc.toNat + cause * 2 ^ 16)

end Sys2Proof.Machine
end

