-- ==== Sys2Proof/Machine/CscPkt.lean ====
section
/-! DEFINITION. Packets of the cascade and their way out (R465 to R468). -/

namespace Sys2Proof.Machine

/-- CRC32 as R198 sets it, over little-endian words. -/
def crcWords (ws : List Word) : Word := ws.foldl (fun r w => crcBits w 0x04C11DB7 32 r) 0xFFFFFFFF

/-- The bytes of a packet (R466): header, body, padding to a multiple of 20 bytes, and the CRC in the last 4. -/
def CscPkt.bytes (p : CscPkt) : List Byte :=
  let raw := leBytes 1 p.op.toNat ++ leBytes 1 p.src.toNat ++ leBytes 1 p.dst.toNat ++ leBytes 1 p.tag.toNat ++
    leBytes 4 p.body.length ++ leBytes 8 p.arg.toNat ++ p.body
  let n := (raw.length + 4 + 19) / 20 * 20
  let padded := raw ++ List.replicate (n - 4 - raw.length) 0
  padded ++ leBytes 4 (crcWords (bytesToWords padded)).toNat

/-- The packet that the bytes of a PKT block and its data blocks hold (R466), none when the CRC fails or BLEN does not fit. -/
def parsePacket (bs : List Byte) : Option CscPkt :=
  let n := bs.length
  let blen := ofLeBytes ((bs.drop 4).take 4)
  if n < 20 ∨ blen + 20 > n then none
  else if BitVec.ofNat 32 (ofLeBytes (bs.drop (n - 4))) ≠ crcWords (bytesToWords (bs.take (n - 4))) then none
  else some { op := bs.getD 0 0, src := bs.getD 1 0, dst := bs.getD 2 0, tag := bs.getD 3 0,
              arg := BitVec.ofNat 64 (ofLeBytes ((bs.drop 8).take 8)), body := (bs.drop 16).take blen }

end Sys2Proof.Machine
end

