-- ==== Sys2Proof/Machine/Mesh.lean ====
section
/-! DEFINITION. The mesh and its routes (R351, R354, R360 to R363), packets and their headers (R356), and how packets move and wait (R362, R365 to R371). -/

namespace Sys2Proof.Machine

/-- The mesh column and row of the router that hosts NI `ni` (R354). -/
def niAt (ni : Nat) : Nat × Nat :=
  if ni < 64 then (ni / 8, 0)
  else if ni < 128 then ((ni - 64) / 8, 7)
  else if ni < 136 then (2 + (ni - 128) / 2, 1)
  else if ni < 144 then (2 + (ni - 136) / 2, 6)
  else if ni < 148 then (2 + (ni - 144), 2)
  else if ni < 152 then (2 + (ni - 148), 5)
  else if ni = 152 then (1, 3)
  else if ni < 157 then [(3, 3), (4, 3), (3, 4), (4, 4)].getD (ni - 153) (3, 3)
  else if ni < 160 then (0, 0)
  else if ni < 168 then [(0, 1), (0, 2), (0, 5), (0, 6), (7, 1), (7, 2), (7, 5), (7, 6)].getD (ni - 160) (0, 1)
  else if ni = 168 then (0, 3)
  else if ni < 172 then (0, 4)
  else if ni < 174 ∨ ni = 176 then (7, 4)
  else (7, 3)

/-- The index of the router at column `c` and row `r` (R351). -/
def routerIdx (p : Nat × Nat) : Nat := 8 * p.1 + p.2

/-- The router one link on in direction `d`: 0 N, 1 E, 2 S, 3 W; none outside the mesh (R351). -/
def meshStep (p : Nat × Nat) (d : Nat) : Option (Nat × Nat) :=
  if d = 0 then (if p.2 = 0 then none else some (p.1, p.2 - 1))
  else if d = 1 then (if p.1 = 7 then none else some (p.1 + 1, p.2))
  else if d = 2 then (if p.2 = 7 then none else some (p.1, p.2 + 1))
  else (if p.1 = 0 then none else some (p.1 - 1, p.2))

/-- The directions of the links of a route word, none where its hop codes break R360. -/
def linkDirs : Nat → Nat → Nat → Option (List Nat)
  | 0, _, _ => some []
  | 1, d, hops => if hops = 3 then some [d] else none
  | n + 2, d, hops =>
    let code := hops % 4
    if code = 3 then none
    else
      let d' := if code = 0 then d else if code = 1 then (d + 3) % 4 else (d + 1) % 4
      (linkDirs (n + 1) d' (hops / 4)).map (d :: ·)

/-- The routers that a list of directions leads through, none where it leaves the mesh. -/
def walkMesh : (Nat × Nat) → List Nat → Option (List (Nat × Nat))
  | p, [] => some [p]
  | p, d :: ds => match meshStep p d with
    | some q => (walkMesh q ds).map (p :: ·)
    | none => none

/-- The directions of route word `w`. -/
def routeDirs (w : Wide) : Option (List Nat) :=
  let n := getBits w 32 5
  if n = 0 then (if getBits w 0 32 = 0 then some [] else none) else linkDirs n (getBits w 37 2) (getBits w 0 32)

/-- The routers of route word `w` from NI `src`. -/
def routePath (src : Nat) (w : Wide) : Option (List (Nat × Nat)) :=
  match routeDirs w with
  | some ds => walkMesh (niAt src) ds
  | none => none

/-- The phase breaks of a route: turns into W after travel in another direction (R362). -/
def phaseBreaks : List Nat → Nat
  | a :: b :: ds => (if b = 3 ∧ a ≠ 3 then 1 else 0) + phaseBreaks (b :: ds)
  | _ => 0

/-- VALID of a route word. -/
def routeValid (w : Wide) : Bool := getBits w 40 1 == 1

/-- Whether route word `w` from NI `src` to NI `dst` is legal (R362). -/
def routeLegal (src dst : Nat) (w : Wide) : Bool :=
  match routeDirs w, routePath src w with
  | some ds, some ps => decide (ds.length ≤ 16) && ps.getLast? == some (niAt dst) && decide (phaseBreaks ds ≤ 1)
  | _, _ => false

/-- The hop code at a router entered in direction `a` and left in direction `b` (R360). -/
def hopCode (a b : Nat) : Nat := if b = a then 0 else if b = (a + 3) % 4 then 1 else 2

/-- The hop codes of a list of directions, the last of them EJECT. -/
def hopCodes : List Nat → Nat
  | a :: b :: ds => hopCode a b + 4 * hopCodes (b :: ds)
  | [_] => 3
  | [] => 0

/-- The valid route word of a list of directions (R361). -/
def meshWord (ds : List Nat) : Wide :=
  BitVec.ofNat 64 (hopCodes ds + ds.length * 2 ^ 32 + ds.headD 0 * 2 ^ 37 + 2 ^ 40)

/-- The directions between two routers along the columns, and along the rows. -/
def alongX (a b : Nat × Nat) : List Nat := if a.1 ≤ b.1 then List.replicate (b.1 - a.1) 1 else List.replicate (a.1 - b.1) 3

/-- The directions between two routers along the rows. -/
def alongY (a b : Nat × Nat) : List Nat := if a.2 ≤ b.2 then List.replicate (b.2 - a.2) 2 else List.replicate (a.2 - b.2) 0

/-- The route word after power-on reset (R363): XY, or YX as the alternate, which has VALID = 0 where it equals the primary. -/
def defaultRoute (src dst : Nat) (alt : Bool) : Wide :=
  let a := niAt src
  let b := niAt dst
  let xy := alongX a b ++ alongY a b
  let yx := alongY a b ++ alongX a b
  if alt then (if xy = yx then meshWord yx - 2 ^ 40 else meshWord yx) else meshWord xy

/-- The default route word at key `k` of the route memory. -/
def routeDefaultAt (k : Nat) : Wide := defaultRoute (k / 512) (k / 2 % 256) (k % 2 == 1)

/-- The route word of NI `src` towards NI `dst` (R361). -/
def State.route (s : State) (src dst : Nat) (alt : Bool) : Wide :=
  mget routeDefaultAt (512 * src + 2 * dst + b2n alt) s.noc.routes

/-- `s` with the route word replaced; the reserved bits of a word are not stored. -/
def State.setRoute (s : State) (src dst : Nat) (alt : Bool) (w : Wide) : State :=
  let m := mset routeDefaultAt (512 * src + 2 * dst + b2n alt) (w &&& 0x17FFFFFFFFF) s.noc.routes
  { s with noc := { s.noc with routes := m } }

/-- Whether router `r` is withdrawn (R368). -/
def State.withdrawn (s : State) (r : Nat) : Bool := decide (r < 64) && bitOf (s.reg R.NOC_RTR_WITHDRAWN).toNat r

/-- Whether route word `w` from NI `src` crosses a withdrawn router. -/
def State.crossesWithdrawn (s : State) (src : Nat) (w : Wide) : Bool :=
  match routePath src w with
  | some ps => ps.any (fun p => s.withdrawn (routerIdx p))
  | none => true

/-- TYPE of a packet (R356). -/
def NocPkt.typ (p : NocPkt) : Nat := getBits p.header 44 4

/-- URG of a packet (R356, R366). -/
def NocPkt.urg (p : NocPkt) : Nat := getBits p.header 40 3

/-- VC of a packet (R356, R362). -/
def NocPkt.vc (p : NocPkt) : Nat := getBits p.header 43 1

/-- ALT of a packet: it was sent on the alternate route (R356). -/
def NocPkt.alt (p : NocPkt) : Bool := getBits p.header 39 1 == 1

/-- Whether a packet is a request: RD, WR, SNP_CLN or SNP_INV. -/
def NocPkt.isRequest (p : NocPkt) : Bool := p.typ == 1 || p.typ == 2 || p.typ == 6 || p.typ == 7

/-- Whether a packet is a NACK. -/
def NocPkt.isNack (p : NocPkt) : Bool := p.typ == 5

/-- Whether a packet has reached the NI that it is addressed to. -/
def NocPkt.arrived (p : NocPkt) : Bool := p.ahead.isEmpty && !p.lost

/-- The network that carries a packet (R352, R355): 0 REQ, 1 RSP, 2 SNP, 3 DAT. -/
def NocPkt.network (p : NocPkt) : Nat :=
  if p.typ = 1 then 0 else if p.typ = 2 ∨ p.typ = 3 then 3 else if p.typ = 6 ∨ p.typ = 7 then 2 else 1

/-- TYPE of the packet of a request. -/
def ReqKind.typ : ReqKind → Nat
  | .rd => 1
  | .wr => 2
  | .snpCln => 6
  | .snpInv => 7

/-- Whether a request writes. -/
def NocReq.write (q : NocReq) : Bool := q.kind == .wr

/-- Whether a request is a snoop. -/
def NocReq.snoop (q : NocReq) : Bool := q.kind == .snpCln || q.kind == .snpInv

/-- Whether a request is still without an answer. -/
def NocReq.unserved (q : NocReq) : Bool := q.pkt.isRequest

/-- The status that a request has been given at its target: bits [15:0] after the header of its CPL (R356). -/
def NocReq.served (q : NocReq) : Option Nat :=
  if q.pkt.typ = 3 ∨ q.pkt.typ = 4 ∨ q.pkt.typ = 8 then some (getBits q.pkt.word 0 16) else none

/-- Whether a request waits for its answer from the cascade. -/
def NocReq.onCascade (q : NocReq) : Bool := q.cascade.isSome && q.unserved

/-- The header of R356 for a packet on the route of word `w`. -/
def packetHeader (w : Wide) (alt : Bool) (urg typ src tag : Nat) : Wide :=
  BitVec.ofNat 64 (getBits w 0 39 + b2n alt * 2 ^ 39 + urg * 2 ^ 40 + typ * 2 ^ 44 + src * 2 ^ 48 + tag * 2 ^ 56)

/-- The 64 bits after the header of a request (R356). -/
def requestWord (addr len : Nat) : Wide := BitVec.ofNat 64 (addr + (len - 1) * 2 ^ 48)

/-- The routers of a path. -/
def pathRouters (ps : Option (List (Nat × Nat))) : List Nat := (ps.getD []).map routerIdx

/-- Whether a packet of TYPE `typ` and tag `tag` takes the second of the two local DAT ports of an MCH NI (R351): those of odd tags do. [DESIGN CHOICE 140] -/
def secondPort (ni typ tag : Nat) : Bool := decide (160 ≤ ni) && decide (ni < 168) && (typ == 2 || typ == 3) && tag % 2 == 1

/-- The input by which a packet enters its first router from NI `ni`: above 3 a local one; the X-cells of an edge router share one (R351). -/
def localInput (ni typ tag : Nat) : Nat :=
  if ni < 128 then 4 else if secondPort ni typ tag then 4 + (ni + 4) % 8 else 4 + ni % 8

/-- The local port of NI `ni` that a packet uses, in or out, as a number from 64 on: the X-cells of an edge router share one (R351). -/
def localPort (ni typ tag : Nat) : Nat :=
  64 + (if ni < 128 then ni / 8 else if secondPort ni typ tag then 177 + (ni - 160) else ni)

/-- A packet that NI `ni` injects for NI `dst` on the route of word `w`. -/
def newPacket (ni dst : Nat) (w : Wide) (alt : Bool) (urg typ src tag : Nat) (word : Wide) : NocPkt :=
  { header := packetHeader w alt urg typ src tag, word := word, inj := ni, here := none, port := 4 + ni % 8,
    ahead := pathRouters (routePath ni w) ++ [localPort dst typ tag], waited := 0, lost := false, poison := false }

/-- TAG of a packet (R356). -/
def NocPkt.tag (p : NocPkt) : Nat := getBits p.header 56 8

/-- The routers that a packet enters on its links, from the NI that injected it (R360). -/
def NocPkt.entered (p : NocPkt) : List Nat := (pathRouters (routePath p.inj p.header)).tail

/-- The input of router `r` by which a packet comes in from its neighbour `p` (R351). -/
def inputFrom (p r : Nat) : Nat := if p + 1 = r then 0 else if r + 8 = p then 1 else if r + 1 = p then 2 else 3

/-- Whether the step from router `h`, entered by input `i`, to router `r` is a turn into W after travel in another direction (R362). -/
def phaseBreak (h i r : Nat) : Bool := r + 8 == h && decide (i < 4) && i != 1

/-- A packet moves on into the next router ahead, and at last through the local port to its NI; the router that makes the phase break sets VC (R362). -/
def NocPkt.move (p : NocPkt) : NocPkt :=
  match p.ahead, p.here with
  | r :: rs, none => { p with here := some r, port := localInput p.inj p.typ p.tag, ahead := rs, waited := 0 }
  | r :: rs, some h => { p with here := some r, port := inputFrom h r, ahead := rs, waited := 0,
                                header := if phaseBreak h p.port r then putBits p.header 43 1 1 else p.header }
  | [], _ => p

/-- A waiting head grows older by `n` cycles: URG rises by 1, up to 7, for every `step` cycles (R366). -/
def NocPkt.age (p : NocPkt) (n step : Nat) : NocPkt :=
  { p with waited := p.waited + n,
           header := putBits p.header 40 3 (satAt 7 (p.urg + (p.waited + n) / step - p.waited / step)) }

/-- The output of a router, or the injection point, that a packet's head waits for: network, the router or local port that it leaves, and the router or local port ahead; none when
it has arrived or the router ahead accepts no head (R351, R352, R368). -/
def State.wants (s : State) (p : NocPkt) : Option (Nat × Nat × Nat) :=
  match p.ahead with
  | [] => none
  | r :: _ =>
    if p.lost || s.withdrawn r then none
    else some (p.network, match p.here with
      | some h => h
      | none => localPort p.inj p.typ p.tag, r)

/-- The key of an output in the record of grants. -/
def grantKey (o : Nat × Nat × Nat) : Nat := (o.1 * 256 + o.2.1) * 256 + o.2.2

/-- The rank of a head at output `o`: its URG, then its input's place in the round after the one granted last (R367). [DESIGN CHOICE 132] -/
def State.rank (s : State) (o : Nat × Nat × Nat) (p : NocPkt) : Nat :=
  p.urg * 16 + (11 - (p.port + 11 - mget (fun _ => 11) (grantKey o) s.noc.granted) % 12)

/-- The first of `best` and the listed requests whose head ranks highest at output `o`. -/
def State.winnerOf (s : State) (o : Nat × Nat × Nat) : NocReq → List NocReq → NocReq
  | best, [] => best
  | best, q :: qs => s.winnerOf o (if s.rank o best.pkt < s.rank o q.pkt then q else best) qs

/-- The request whose head output `o` grants, none when none wants it (R367). -/
def State.winner (s : State) (o : Nat × Nat × Nat) : Option NocReq :=
  match s.noc.reqs.filter (fun q => s.wants q.pkt == some o) with
  | [] => none
  | q :: qs => some (s.winnerOf o q qs)

/-- Whether a request's head moves in the coming cycle: the output that it waits for grants it. -/
def State.moves (s : State) (q : NocReq) : Bool :=
  match s.wants q.pkt with
  | some o => (s.winner o).any (fun w => w.ni == q.ni && w.tag == q.tag)
  | none => false

/-- One cycle of the mesh (R365, R367): every output and injection point grants one head. -/
def State.meshCycle (s : State) : State :=
  let go := s.noc.reqs.filter s.moves
  let granted := go.foldl (fun g q => match s.wants q.pkt with
    | some o => mset (fun _ => 11) (grantKey o) q.pkt.port g
    | none => g) s.noc.granted
  { s with noc := { s.noc with reqs := s.noc.reqs.map (fun q => if s.moves q then { q with pkt := q.pkt.move } else q), granted := granted } }

/-- The outstanding request of NI `ni` with tag `tag`. -/
def State.nocReq (s : State) (ni tag : Nat) : Option NocReq := s.noc.reqs.find? (fun q => q.ni == ni && q.tag == tag)

/-- `s` with the request of `q`'s NI and tag replaced. -/
def State.putReq (s : State) (q : NocReq) : State :=
  { s with noc := { s.noc with reqs := s.noc.reqs.map (fun r => if r.ni = q.ni ∧ r.tag = q.tag then q else r) } }

/-- `s` without the request of NI `ni` and tag `tag`. -/
def State.dropReq (s : State) (ni tag : Nat) : State :=
  { s with noc := { s.noc with reqs := s.noc.reqs.filter (fun r => !(r.ni == ni && r.tag == tag)) } }

/-- The route of a completion from NI `src` to NI `dst`: the primary, or a valid alternate where that is not valid. [DESIGN CHOICE 55] -/
def State.completionRoute (s : State) (src dst : Nat) : Option (Wide × Bool) :=
  let pri := s.route src dst false
  let alt := s.route src dst true
  if routeValid pri then some (pri, false) else if routeValid alt then some (alt, true) else none

/-- The target of `q` answers it (R355, R356, R366): RDATA of a read without error, SNP_RSP of a snoop, else a CPL with `status`, at the URG that the
request carried on arrival. Without a route it never arrives. -/
def State.complete (s : State) (q : NocReq) (status : Nat) (data : List Byte) : State :=
  let typ := if q.snoop then 8 else if q.kind = .rd ∧ status = 0 then 3 else 4
  s.putReq (match s.completionRoute q.dst q.ni with
    | some (w, alt) => { q with data := data, pkt := newPacket q.dst q.ni w alt q.arrUrg typ q.ni q.tag (BitVec.ofNat 64 status) }
    | none => { q with data := data, pkt := { newPacket q.dst q.ni 0 false q.arrUrg typ q.ni q.tag (BitVec.ofNat 64 status) with lost := true } })

/-- The lowest cascade tag that no outstanding request carries. -/
def State.freeCascadeTag (s : State) : Nat :=
  ((List.range 256).find? (fun t => s.noc.reqs.all (fun r => r.cascade != some t))).getD 0

/-- A pooled request that has reached its cascade NI leaves towards position `pos` (R468, R491). -/
def State.sendPooled (s : State) (q : NocReq) (pos : Nat) : State :=
  let t := s.freeCascadeTag
  let s1 := s.putReq { q with cascade := some t }
  s1.sendTo pos (s1.mkPkt (if q.write then 0x02 else 0x01) pos t (pooledDpa q.addr + (q.len - 1) * 2 ^ 40) (if q.write then q.data else []))

/-- A request has reached its target NI: it takes its place in the order of arrivals with the URG it carries; a poisoned one is answered at once (R359), a
snoop by its cache, and a pooled request goes out on the cascade. -/
def State.land (s : State) (q0 : NocReq) : State :=
  let q : NocReq := { q0 with stamp := some s.noc.stamps, arrUrg := q0.pkt.urg }
  let s1 : State := { s with noc := { s.noc with stamps := s.noc.stamps + 1 } }.putReq q
  if q.pkt.poison then s1.complete q C.NOC_LINK_ERR []
  else if q.snoop then s1.complete q 0 []
  else match dpaRange q.addr q.len with
    | some (.pooled p) => if s.ownPool p then s1 else s1.sendPooled q p
    | _ => s1

/-- The requests that have just reached their targets. -/
def State.landAll (s : State) : State :=
  (s.noc.reqs.filter (fun q => q.unserved && q.pkt.arrived && q.stamp.isNone)).foldl State.land s

/-- The mesh runs for at most `n` cycles, as long as a head can move. -/
def State.meshRun (s : State) : Nat → State
  | 0 => s
  | n + 1 => if s.noc.reqs.any s.moves then s.meshCycle.landAll.meshRun n else s

/-- The mesh runs until no head can move: 64 outstanding requests for each NI take at most 18 moves each, and their answers as many. [DESIGN CHOICE 55] -/
def State.settle (s : State) : State := s.landAll.meshRun (40 * s.noc.reqs.length)

/-- Every head that waits, on its way or in the NI queue of its target, has waited `n` cycles more (R366, R394). -/
def State.ageHeads (s : State) (n : Nat) : State :=
  let step := max 1 (s.fld F.NOC_CFG.AGE_STEP)
  { s with noc := { s.noc with reqs := s.noc.reqs.map (fun q =>
      if !q.pkt.lost && (!q.pkt.ahead.isEmpty || q.unserved) then { q with pkt := q.pkt.age n step } else q) } }

end Sys2Proof.Machine
end

