-- ==== Sys2Proof/Machine/CscLink.lean ====
section
/-! DEFINITION. Ports of the cascade that go down, lost neighbours and pooled requests (R465, R475, R487 to R495). -/

namespace Sys2Proof.Machine

/-- The requests on the cascade that `p` picks are completed towards their NIs with `status` and data (R491, R492). -/
def State.endCascade (s : State) (p : NocReq → Bool) (status : Nat) (data : List Byte) : State :=
  ((s.noc.reqs.filter (fun r => r.onCascade && p r)).foldl (fun t r => t.complete r status data) s).settle

/-- The position that a pooled DPA addresses (R490). -/
def pooledPos (a : Nat) : Nat := (a - 0x80000000000) / 2 ^ 38 % 32

/-- Positions are removed from the constellation as the pole knows it: every member of `ms` (R495). -/
def State.dropMembers (s : State) (f : CscMember → Bool) : State :=
  let gone := s.csc.members.filter f
  let s1 := gone.foldl (fun t m => match m.pos with
    | some q => (t.setFld F.CSC_MEMBERS.PRESENT (t.fld F.CSC_MEMBERS.PRESENT &&& (2 ^ 32 - 1 - 2 ^ q))).setReg (R.CSC_MEMBER q) 0
    | none => t) s
  { s1 with csc := { s1.csc with members := s1.csc.members.filter (fun m => !f m) } }

/-- The members that `f` names are gone (R495): a pole with an FCK change under way reports PENDING (R497). -/
def State.loseMembers (s : State) (f : CscMember → Bool) : State :=
  let s1 := if s.csc.fckset.isSome ∧ s.bit F.CSC_STAT.POLE ∧ s.csc.members.any f then s.setFld F.CSC_STAT.CSTATE 4 else s
  s1.dropMembers f

/-- The settings of vote groups 0 to 7 sent to every member (R484). -/
def State.sendVgrp (s : State) : State :=
  let body := (List.range 8).flatMap (fun g => leBytes 4 (s.reg (R.CSC_VGRP_CFG g)).toNat) ++
    (List.range 8).flatMap (fun g => leBytes 8 (s.reg (R.CSC_VGRP_START g)).toNat)
  s.sendTo 0xFD (s.mkPkt 0x16 0xFD 0 0 body)

/-- Whether the flights of the members that take part have all been measured, at the pole and by them (R479). A pole whose FCK has lost lock within an FCK change waits until it
locks (R50), and one that met another pole does not form (R470). -/
def State.flightsKnown (s : State) : Bool :=
  s.bit F.CSC_STAT.POLE && s.fld F.CSC_STAT.CSTATE == 2 && !s.csc.clash && (!s.bit F.TICK_STAT.FCK_BUSY || s.bit F.TICK_STAT.LOCK) &&
  s.csc.members.all (fun m => m.out || m.ready) &&
  s.downPorts.all (fun p => decide (1024 ≤ (s.cport p).seen) || s.csc.members.all (fun m => m.port != p || m.out))

/-- The pole fixes the flights once they are known (R479, R484, R498): members whose paths exceed 40 ticks stay out and are told the excess, the others get
FLIGHT and VGRP, and the constellation is FORMED. -/
def State.fixFlights (s : State) : State :=
  if !s.flightsKnown then s
  else
    let fuOf (p : Nat) : Nat := (s.cport p).dnArr - 4
    let bad (m : CscMember) : Bool := decide (40 < fuOf m.port) || decide (40 < m.down)
    let s0 : State := { s with csc := { s.csc with members := s.csc.members.map (fun m => { m with out := m.out || bad m }) } }
    let ins := s0.csc.members.filter (fun m => !m.out)
    let fu := (ins.map (fun m => fuOf m.port)).foldl max 0
    let fd := (ins.map (·.down)).foldl max 0
    let s1 := s0.csc.members.foldl (fun t m => match m.pos with
      | some q =>
        let f := if m.out then (max 41 (fuOf m.port), m.down) else (fu, fd)
        t.sendTo q (t.mkPkt 0x15 q 0 (f.1 % 256 + f.2 % 256 * 256) [])
      | none => t) s0
    let present := 1 + ((ins.filterMap (·.pos)).map (fun q => 2 ^ q)).sum
    let s2 := s1.setFlds [(F.TICK_VOTE_FLIGHT.FLIGHT_UP, fu), (F.TICK_VOTE_FLIGHT.FLIGHT_DOWN, fd), (F.CSC_STAT.CSTATE, 3), (F.TICK_STAT.FCK_BUSY, 0),
      (F.CSC_MEMBERS.PRESENT, present)]
    let s3 := if s2.csc.recal then ({ s2 with csc := { s2.csc with recal := false } }).setFld F.CSC_STAT.CMD_STATUS 0 else s2
    s3.sendVgrp

/-- The flights are measured anew on every port (R479, R493, R498). -/
def State.measureAnew (s : State) : State :=
  (List.range 8).foldl (fun t q => t.setCport q { t.cport q with seen := 0, worst := 0, dnArr := 0 }) s

/-- The calibration of the link on port `p` begins: 64 SYNC blocks from the next tick on (R476). -/
def State.startCal (s : State) (p : Nat) : State :=
  s.setCport p { s.cport p with cal := some (s.tick.toNat + 1), loops := [], worst := 0, seen := 0 }

/-- The pole calibrates the next branch of its round (R476, R498). -/
def State.calNext (s : State) : State :=
  match s.csc.walk with
  | p :: ps => ({ s with csc := { s.csc with walk := ps } }).startCal p
  | [] => s

/-- The neighbour on port `p` is no longer part of the constellation: the port is unused, and behind a downstream port the members of the branch
are gone. A member that loses its downstream member has no DN_ARR, sends in T + 3 again (R479), and reports it, so that the pole learns of it (R495). [DEDUCED 142] -/
def State.forgetPort (s0 : State) (p : Nat) : State :=
  let use := s0.fld (F.CSC_PORT_STAT.USE p)
  let s := (s0.setFlds [(F.CSC_PORT_STAT.USE p, 0), (F.CSC_PORT_STAT.PEER p, 0)]).setCport p
    { s0.cport p with joined := false, cal := none, fields := [], lostAt := none, seen := 0, worst := 0, dnArr := 0 }
  let s1 : State := { s with csc := { s.csc with walk := s.csc.walk.filter (fun q => q != p) } }
  if use ≠ 2 then s1
  else
    let s2 := s1.loseMembers (fun m => m.port == p)
    let s3 : State := { s2 with csc := { s2.csc with below := [] } }
    if s3.bit F.CSC_STAT.POLE then s3
    else
      let s4 := s3.setFlds [(F.CSC_VSCHED.DN_ARR, 0), (F.CSC_VSCHED.UP_SEND, 3)]
      let known := s4.fld F.CSC_STAT.CSTATE == 2 && s4.upPorts.all (fun q => decide (1024 ≤ (s4.cport q).seen))
      if s4.formed || known then s4.sendReport else s4

/-- The loss of the neighbour on port `p` is registered in the present tick (R488, R489): logged, a KIND ALL hold raised, and a device that loses its
upstream neighbour is cut off: its downstream member gets VV = 0 from the next tick on, also where a decision was on its way. A member whose link fails during a RECAL stays
PENDING (R498). -/
def State.loseNeighbour (s : State) (p : Nat) : State :=
  let use := s.fld (F.CSC_PORT_STAT.USE p)
  if use ≠ 1 ∧ use ≠ 2 then s
  else
    let s1 := (s.report C.CSC_MEMBER_LOST (s.srcPort p) (s.fld (F.CSC_PORT_STAT.PEER p))).raiseCscHold 2 0 C.CSC_MEMBER_LOST
    let s2 := s1.forgetPort p
    let s3 : State := { s2 with csc := { s2.csc with due := s2.csc.due.filter (fun e => !e.2.2.isVote) } }
    if use = 2 then s2
    else if s2.csc.recal then ({ s3 with csc := { s3.csc with up := none, recal := false } }).setFlds [(F.CSC_STAT.CSTATE, 4), (F.CSC_STAT.ALIGNED, 0)]
    else { s3 with csc := { s3.csc with cutAt := some s3.tick } }

/-- Port `p` goes DOWN (R465, R488, R492): logged, its packets and blocks lost, requests across it ended with CSC_POOL_ABSENT, its neighbour lost,
and a device in DISCOVER without another UP port enters ALONE (R475). A pole that was calibrating the link goes on with the next branch, and completes without the members that were behind
it (R498). -/
def State.portDown (s : State) (p : Nat) : State :=
  if !s.portUp p then s
  else
    let s1 := s.report C.CSC_LINK_DOWN (s.srcPort p) 0
    let s2 := s1.endCascade (fun r => s1.portTo (pooledPos r.addr) == some p) C.CSC_POOL_ABSENT []
    let s3 := s2.loseNeighbour p
    let s4 := (s3.setFlds [(F.CSC_PORT_STAT.LSTATE p, 3), (F.CSC_PORT_STAT.USE p, 0)]).setCport p CscPort.reset
    let s5 : State := { s4 with csc := { s4.csc with
      inbox := s4.csc.inbox.filter (fun e => e.1 != p),
      due := s4.csc.due.filter (fun e => e.2.1 != p),
      out := s4.csc.out.filter (fun e => e.1 != p) } }
    if s5.fld F.CSC_STAT.CSTATE = 1 ∧ (List.range 8).all (fun q => !s5.portUp q) then s5.enterAlone
    else if s5.bit F.CSC_STAT.POLE then (if (s.cport p).cal.isSome then s5.calNext else s5).fixFlights
    else s5

/-- The unique tick in the 64 that follow the present one, or it itself, whose low 6 bits are `tag` (R483, R487). -/
def State.tagAhead (s : State) (tag : Nat) : Nat :=
  s.tick.toNat + (tag + 64 - s.tick.toNat % 64) % 64

/-- The unique tick in the 64 up to the present one whose low 6 bits are `tag`. -/
def State.tagBehind (s : State) (tag : Nat) : Nat :=
  let back := (s.tick.toNat % 64 + 64 - tag) % 64
  s.tick.toNat - back

/-- The best role a device was given by its last FORM is that of a pole already, and the pole's members are all FORMED and idle as last
reported (R493, R495, R498). -/
def State.membersQuiet (s : State) : Bool :=
  s.csc.members.all (fun m => !m.out && (m.state ≤ 4 || 8 ≤ m.state)) && s.csc.members.all (fun m => m.pos.isSome)

/-- The calibration of the constellation starts at the pole with its first branch and goes on through the others (R476): every device counts as not aligned and not measured. -/
def State.calibrateAll (s : State) : State :=
  let s1 : State := { s with csc := { s.csc with members := s.csc.members.map (fun (m : CscMember) => { m with aligned := false, ready := false }) } }
  let s2 := s1.setFlds [(F.CSC_STAT.CSTATE, 2), (F.CSC_STAT.ALIGNED, 1)]
  match s2.downPorts with
  | p :: ps => ({ s2 with csc := { s2.csc with walk := ps } }).startCal p
  | [] => s2.setFlds [(F.CSC_STAT.CSTATE, 3), (F.TICK_STAT.FCK_BUSY, 0), (F.CSC_MEMBERS.PRESENT, 1)]

end Sys2Proof.Machine
end

