-- ==== Sys2Proof/Machine/TickExec.lean ====
section
/-! DEFINITION. The frame tick: FCK and its changes, slips, the tick edge (R44 to R50, R54 to R58, R493). -/

namespace Sys2Proof.Machine

/-- Whether a setting of FBDIV and POSTDIV is valid: FCK lies between 156.25 and 1,250 MHz (R21). -/
def fckValid (fb pd : Nat) : Bool :=
  decide (50 ≤ fb ∧ fb ≤ 100 ∧ 4 ≤ pd ∧ pd ≤ 32 ∧ 800 * fb ≤ 10000 * pd ∧ 10000 * pd ≤ 6400 * fb)

/-- The tick period in ps, rounded up (R21). -/
def periodPs (fb pd : Nat) : Nat := (10000 * pd + fb - 1) / fb

/-- The largest PMIN that an FCK change is checked against (R55, R493): on a pole it covers what its members reported. [DEDUCED 13] -/
def State.pminAll (s : State) : Nat := (s.csc.members.map (·.pmin)).foldl max (s.fld F.TICK_BUDGET_STAT.PMIN_PS)

/-- An FCK_APPLY refused with `code` (R54, R55, R57). -/
def State.refuseFck (s : State) (req : Requester) (code : Nat) : State :=
  let s1 := if s.bit F.TICK_STAT.FCK_BUSY then s else s.setFld F.TICK_STAT.APPLY_STATUS code
  if code = C.STATE_REFUSED then s1.logRefused req R.TICK_CTRL 0
  else s1.report code (srcRequester req) (if code = C.TICK_FCK_INVALID then (s1.reg R.TICK_FCK_CFG).toNat else 0)

/-- Whether FCK_APPLY is accepted by R54 and R493. -/
def State.fckApplyOk (s : State) (req : Requester) : Bool :=
  let alone := s.fld F.CSC_STAT.CSTATE == 0
  s.allows req .fckApply && !s.bit F.TICK_STAT.FCK_BUSY && (List.range 16).all (fun n => !s.siteActive n) &&
  (alone || !s.fckOn || (s.bit F.CSC_STAT.POLE && s.formed && s.membersQuiet))

/-- FCK_APPLY (R54 to R57, R493): checked; a device alone stops FCK at the edge that ends this tick, a pole names a stop tick to its
members. [DEDUCED 14] -/
def execFckApply (req : Requester) (s : State) : Host.Outcome State Fault Refusal :=
  let fb := s.fld F.TICK_FCK_CFG.FBDIV
  let pd := s.fld F.TICK_FCK_CFG.POSTDIV
  if !s.fckApplyOk req then .next (s.refuseFck req C.STATE_REFUSED)
  else if !fckValid fb pd then .next (s.refuseFck req C.TICK_FCK_INVALID)
  else if 10000 * pd < s.pminAll * fb then .next (s.refuseFck req C.TICK_BUDGET_EXCEEDED)
  else
    let s1 := (s.calFailAll.safeNow (List.range 256)).setFld F.TICK_STAT.FCK_BUSY 1
    if s.fckOn && s.bit F.CSC_STAT.POLE && s.formed then
      let stop := s.tick.toNat + 4096
      let s2 := s1.sendTo 0xFD (s1.mkPkt 0x17 0xFD 0 (fb + pd * 2 ^ 8 + stop % 2 ^ 48 * 2 ^ 16) [])
      .next { s2 with csc := { s2.csc with fckset := some (fb, pd, stop) } }
    else .next { s1 with fckNew := some (fb, pd), fckStop := s.fckOn }

/-- FCK has relocked: it restarts with the new setting and TICK_COUNT goes on (R56, R57); in a constellation the links are calibrated again, the pole first
(R493), and a member that restarted by itself rejoins (R54, R495). [DEDUCED 14] -/
def execFckChangeComplete (s : State) : Host.Outcome State Fault Refusal :=
  match s.fckNew with
  | none => .next s
  | some (fb, pd) =>
    if s.fckOn then .next s
    else
      let s1 : State := { s with fckOn := true, fckNew := none, fckSet := (fb, pd) }
      let s2 := s1.setFlds [(F.TICK_STAT.LOCK, 1), (F.TICK_BUDGET_STAT.PERIOD_PS, periodPs fb pd),
        (F.CLK_STAT.LOCK, s1.fld F.CLK_STAT.LOCK ||| 1)]
      match s2.csc.fckset with
      | some _ =>
        let s3 := ({ s2 with csc := { s2.csc with fckset := none } }).measureAnew
        if s3.bit F.CSC_STAT.POLE then .next (s3.setFld F.TICK_STAT.APPLY_STATUS 0).calibrateAll
        else .next (s3.setFlds [(F.TICK_STAT.FCK_BUSY, 0), (F.CSC_STAT.CSTATE, 2), (F.CSC_STAT.ALIGNED, 0)])
      | none =>
        let s3 := s2.setFlds [(F.TICK_STAT.FCK_BUSY, 0), (F.TICK_STAT.APPLY_STATUS, 0)]
        .next (if s3.fld F.CSC_STAT.CSTATE = 0 then s3 else s3.enterDiscover)

/-- A write of 1 to TICK_CTRL.CNT_CLR clears TICK_SLIP_CNT. -/
def execTickCntClr (_req : Requester) (s : State) : Host.Outcome State Fault Refusal := .next (s.setReg R.TICK_SLIP_CNT 0)

/-- A write to TICK_UIREP_n (R58): refused while the site is active, ignored outside 1 to 1,024. -/
def execTickUirepWrite (req : Requester) (site : Fin 16) (value : Word) (s : State) : Host.Outcome State Fault Refusal :=
  let r := value.toNat % 2048
  if s.siteActive site then .next (s.logRefused req (R.TICK_UIREP site) 0)
  else if r = 0 ∨ 1024 < r then .next s
  else .next (s.setFld (F.TICK_UIREP.REPEAT site) r)

/-- The slot of a cell unit. -/
def unitSlot : UnitId → Option Nat
  | .core col row => some (64 * row.val + col.val)
  | .ucell cl => some (2560 + cl.val)
  | .xcell x => some (2816 + x.val)
  | .seq _ => none

/-- The sites that a slip of a unit acts on (R46): for an X-cell those of its region and of the slices assigned to one. -/
def State.slipSites (s : State) : UnitId → List Nat
  | .core col row =>
    let g := s.posRegion (64 * (row.val + 1) + col.val)
    if g = 0 then [] else [s.rgnSite g]
  | .ucell cl => match s.workPos (2560 + cl.val) with
    | some p => if s.posRegion p = 0 then [] else [s.rgnSite (s.posRegion p)]
    | none => []
  | .xcell x => s.xSites x.val
  | .seq n => [n.val]

/-- TICK_SLIP_LAST of a slip of a unit with active context `c`. -/
def unitSlipLast (u : UnitId) (c : Nat) : Nat :=
  c * 2 ^ 25 + match u with
  | .core col row => (row.val + 1) * 2 ^ 8 + col.val
  | .ucell cl => 2 ^ 28 + cl.val / 32 * 2 ^ 8 + cl.val
  | .xcell x => 2 * 2 ^ 28 + posOfSlot (2816 + x.val) / 64 * 2 ^ 8 + x.val % 64
  | .seq n => 3 * 2 ^ 28 + n.val

/-- Whether a unit is a routed-clock B-cell, which is outside slip detection (R31, R118). -/
def State.unitRclk (s : State) : UnitId → Bool
  | .core col row => s.isRclk (64 * (row.val + 1) + col.val)
  | _ => false

/-- The registers of a cell that slips: what it registers, with 0, V = 0 and S = 1 on its outputs, which no later work of the tick changes (R44). -/
def State.slipCell (s : State) (k : Nat) : State :=
  let c := (s.cellNxt k).getD ((s.cell k).landReads)
  let d := if slotType k = .x then { c with q := conflictWord, q1 := conflictWord, xde := conflictWord, xxe := conflictWord,
                                            xdo := conflictWord, xxo := conflictWord }
    else { c with q := conflictWord, q1 := conflictWord }
  let t := s.setNxt k d
  { t with fab := { t.fab with slipped := insertSorted k t.fab.slipped } }

/-- A handover that a slip ends (R533): X slips in a takeover, U slips in a takeover, or U slips in a hand-back. X slipping in a hand-back is what the comparison of the two
cells finds (R44, R512). -/
def State.slipHandover (s : State) (u : UnitId) : State :=
  match u with
  | .core col row =>
    let cl := clusterOf col.val row.val
    match s.sliceIn cl with
    | some x =>
      if x.takeover.isSome && sliceCell x.j == localOf col.val row.val then
        let s1 := (s.putSlice cl none).setFld (F.FAB_CL_STAT.U_STATE cl) 0
        { s1 with bist := { s1.bist with first := (10 * cl + x.j) :: s1.bist.first } }
      else if x.back.isSome && sliceCell x.j == localOf col.val row.val then s.putSlice cl (some { x with differs := some s.tick })
      else s
    | none => s
  | .ucell cl =>
    match s.sliceIn cl.val with
    | some x =>
      if x.takeover.isSome then
        let s1 := (s.putSlice cl none).setFld (F.FAB_CL_STAT.U_STATE cl) 0
        { s1 with bist := { s1.bist with first := (10 * cl.val + 9) :: s1.bist.first } }
      else if x.back.isSome then s.putSlice cl (some { x with back := none, differs := none })
      else s
    | none =>
      if s.bist.standIns.any (fun e => e.1 == cl.val && e.2.isSome) then
        let s1 := s.setFld (F.FAB_CL_STAT.U_STATE cl) 0
        { s1 with bist := { s1.bist with first := (10 * cl.val + 9) :: s1.bist.first,
                                         standIns := s1.bist.standIns.map (fun e => if e.1 = cl.val then (e.1, none) else e) } }
      else s
  | _ => s

/-- The work of a unit has not completed by the coming tick edge (R44 to R46): its output, the log and counters, the hold of its sites, and
the capture that ON_SLIP asks for (R150). A routed-clock B-cell does not slip (R31). ON_SLIP stays as it is written, so a later slip asks again and is
refused while the engine is not idle; while only ON_SLIP waits, FAB_SFX_STAT.STATE reads 0. [DEDUCED 113] -/
def execTickSlip (unit : UnitId) (s : State) : Host.Outcome State Fault Refusal :=
  if !s.fckOn || s.unitRclk unit then .next s
  else
    let c := match unitSlot unit with
      | some k => (s.ctxOf k).active
      | none => match unit with
        | .seq n => s.fld (F.FAB_CTXSEL.ACTIVE n)
        | _ => 0
    let src := match unitSlot unit with
      | some k => srcSlot k
      | none => match unit with
        | .seq n => srcSeq n
        | _ => 0
    let sites := (s.slipSites unit).filter (fun n => s.siteActive n)
    let s1 := match unit, unitSlot unit with
      | .seq n, _ => { s with fab := { s.fab with slipped := insertSorted (seqUnit n) s.fab.slipped } }
      | _, some k => s.slipCell k
      | _, none => s
    let s2 := (((s1.addSat F.TICK_SLIP_CNT.SLIP_CNT 1).setReg R.TICK_SLIP_LAST (BitVec.ofNat 64 (unitSlipLast unit c))).setReg
      R.TICK_SLIP_TICK s.tick).setFld F.TICK_STAT.SLIP_SEEN 1
    let s3 := s2.report C.ERR_TICK_SLIP src c
    let s4 := sites.foldl (fun t n => t.setFld F.TICK_SLIP_SITES.SITES (t.fld F.TICK_SLIP_SITES.SITES ||| 2 ^ n)) s3
    let s5 := (s4.holdSites sites C.ERR_TICK_SLIP).slipHandover unit
    let s6 := if s5.bit F.FAB_SFX_CTRL.ON_SLIP then s5.sfxTrigger s5.tick.toNat 2 src false else s5
    .next { s6 with dump := { s6.dump with marks := s6.dump.marks ||| 1 } }

/-- The work of a unit completed in the last eighth of the tick (R49); a routed-clock B-cell is not watched (R31). -/
def execNearSlip (unit : UnitId) (s : State) : Host.Outcome State Fault Refusal :=
  if !s.fckOn || s.unitRclk unit then .next s
  else
    let s1 := s.addSat F.TICK_SLIP_CNT.NEAR_CNT 1
    .next { s1 with dump := { s1.dump with marks := s1.dump.marks ||| 2 } }

/-- The FCK PLL, where it is locked, loses lock (R50): part of a change while FCK_BUSY = 1, when only LOCK changes, or FCK is gated at the next edge and every active
site is held. [DEDUCED 114] -/
def State.fckUnlock (s : State) : State :=
  let s1 := s.setFlds [(F.TICK_STAT.LOCK, 0), (F.CLK_STAT.LOCK, s.fld F.CLK_STAT.LOCK / 2 * 2)]
  if !s.bit F.TICK_STAT.LOCK then s
  else if s.bit F.TICK_STAT.FCK_BUSY then s1
  else
    let s2 := (s1.setFlds [(F.TICK_STAT.UNLOCK_SEEN, 1), (F.CLK_STAT.UNLOCK_SEEN, s1.fld F.CLK_STAT.UNLOCK_SEEN ||| 1)]).report
      C.TICK_PLL_UNLOCK 0 0
    { s2.calFailAll.holdAll C.TICK_PLL_UNLOCK with fckStop := s2.fckOn }

/-- FCK_PLL_UNLOCK (R50). -/
def execFckPllUnlock (s : State) : Host.Outcome State Fault Refusal := .next s.fckUnlock

end Sys2Proof.Machine
end

