-- ==== Sys2Proof/Machine/LogExec.lean ====
section
/-! DEFINITION. The commands and events of the error log (R535 to R546, R552, R558). -/

namespace Sys2Proof.Machine

/-- ERROR_REPORT: a unit raises a report, which is on its way to the logger; one of class F is fatal where R552 says so (R535, R536). -/
def execErrorReport (code : Half) (source : Word) (detail : Wide) (s : State) : Host.Outcome State Fault Refusal :=
  .next (s.reportAny code.toNat source.toNat detail.toNat)

/-- LOGGER_TAKE_ENTRY: the logger takes the oldest entry of the intake and counts it (R535, R537, R538). -/
def execLoggerTakeEntry (s : State) : Host.Outcome State Fault Refusal := .next s.takeEntry

/-- SUMMARY_PERIOD: TICK_COUNT stands at a multiple of 2^(SUM_EXP + 20), and every pending kind gets its summary (R540). [DEDUCED 87] -/
def execSummaryPeriod (s : State) : Host.Outcome State Fault Refusal :=
  let e := s.fld F.ERR_CFG.SUM_EXP
  if e = 0 ∨ s.tick.toNat % 2 ^ (e + 20) ≠ 0 then .next s else .next s.summaries

/-- An ERR_CMD refused under R7. -/
def State.refuseErr (s : State) (req : Requester) (op : Nat) : State :=
  (s.setFld F.ERR_STAT.CMD_STATUS C.STATE_REFUSED).logRefused req R.ERR_CMD op

/-- ROLL: a summary of every pending kind (R540). -/
def execErrRoll (req : Requester) (s : State) : Host.Outcome State Fault Refusal :=
  if !s.allows req .errCmd then .next (s.refuseErr req 1)
  else .next (s.summaries.setFld F.ERR_STAT.CMD_STATUS 0)

/-- CLEAR: summaries, then every kind entry is freed and ERR_LOST cleared. -/
def execErrClear (req : Requester) (s : State) : Host.Outcome State Fault Refusal :=
  if !s.allows req .errCmd then .next (s.refuseErr req 2)
  else
    let s1 := s.summaries
    let s2 : State := { s1 with err := { s1.err with kinds := [], lost := 0 } }
    .next (s2.setFld F.ERR_STAT.CMD_STATUS 0)

/-- DUMP_ACK: the slots' VALID flags and ERR_FATAL are cleared (R558). -/
def execDumpAck (req : Requester) (s : State) : Host.Outcome State Fault Refusal :=
  if !s.allows req .errCmd then .next (s.refuseErr req 3)
  else
    .next ((s.setReg R.ERR_FATAL 0).setFlds [(F.ERR_DUMP_STAT.SLOT0_VALID, 0), (F.ERR_DUMP_STAT.SLOT1_VALID, 0), (F.ERR_STAT.CMD_STATUS, 0)])

/-- A write to ERR_RPTR: taken from the present RPTR up to WPTR, else ignored and logged (R545); the ring leaves its reserve when more than 64
entries are free. [DEDUCED 87] -/
def execErrRptrWrite (req : Requester) (value : Word) (s : State) : Host.Outcome State Fault Refusal :=
  if !s.allows req .errCmd then .next (s.logRefused req R.ERR_RPTR 0)
  else if (s.err.wptr - s.err.rptr).toNat < (value - s.err.rptr).toNat then .next (s.logRefused req R.ERR_RPTR 0)
  else
    let s1 : State := { s with err := { s.err with rptr := value } }
    .next (if 64 < s1.ringFree then s1.setFld F.ERR_STAT.RESERVE 0 else s1)

/-- The 131,072 bytes of the log ring. -/
def State.ringBytes (s : State) : List Byte :=
  (List.range 4096).flatMap (fun p => match mget (fun _ => (none : Option LogRecord)) p s.err.ring with
    | some r => r.bytes
    | none => List.replicate 32 0)

/-- LOG_MIRROR: firmware brings the mirror in window 1 up to date with the ring and its pointers, or its write fails (R545, R548). [DEDUCED 87] -/
def execLogMirror (status : Half) (s : State) : Host.Outcome State Fault Refusal :=
  let a := 0x3F90000000
  if !s.bit F.ERR_CFG.MIRROR then .next s
  else
    let c := memStatus s 169 a 0x20008 true status.toNat
    let s := s.eccSeen 169 a 0x20008 true status.toNat
    if c ≠ 0 then .next (s.report C.ERR_MIRROR_FAIL (srcNi 169) 0)
    else .next (s.unitWrite 169 a (s.ringBytes ++ leBytes 4 s.err.wptr.toNat ++ leBytes 4 s.err.rptr.toNat))

/-- FATAL_REPORT: a unit raises a report of class F (R552 to R554). -/
def execFatalReport (code : Half) (source : Word) (detail : Wide) (s : State) : Host.Outcome State Fault Refusal :=
  if s.codeClass code.toNat ≠ .fatal then .next s
  else .next (s.reportFatal code.toNat source.toNat detail.toNat)

end Sys2Proof.Machine
end

