-- ==== Sys2Proof/Machine/SiteExec.lean ====
section
/-! DEFINITION. The commands of PSQ_CMD and the tick in which a site begins to run (R23, R26, R141, R142, R161 to R168, R475, R484). -/

namespace Sys2Proof.Machine

/-- A command of site `n` is accepted in the present tick: its outcome, and the change that the coming edge makes. -/
def State.acceptCmd (s : State) (req : Requester) (n op : Nat) (x : SiteNext) : State :=
  (s.setPsq n { s.getPsq n with next := some x, cmdNow := some (req, op) }).cmdStatus n 0

/-- A command of site `n` refused with a code other than STATE_REFUSED, logged with the given SOURCE (R164, R217). [DEDUCED 29] -/
def State.rejectCmd (s : State) (n code src detail : Nat) : State := (s.cmdStatus n code).report code src detail

/-- Whether a command of site `n` may be judged at all: the matrix of R551 admits it, and neither a hold nor another command of the site falls
in this tick (R168). [DEDUCED 29, 73] -/
def State.cmdOpen (s : State) (req : Requester) (n : Nat) : Bool :=
  let p := s.getPsq n
  s.allows req .psqCmd && p.cmdNow.isNone && (match p.next with
    | some (.hold _) => false
    | _ => true)

/-- Whether site `n` votes (PSQ_VOTE_CFG.EN). -/
def State.voting (s : State) (n : Nat) : Bool := s.bit (F.PSQ_VOTE_CFG.EN n)

/-- The vote group of site `n`. -/
def State.voteGroup (s : State) (n : Nat) : Nat := s.fld (F.PSQ_VOTE_CFG.GROUP n)

/-- Whether the state of the site, its regions, the constellation and a load allow ARM, and no Nightfall test runs (R142, R164, R414, R475, R484). -/
def State.armOpen (s : State) (req : Requester) (n : Nat) : Bool :=
  let cs := s.fld F.CSC_STAT.CSTATE
  s.cmdOpen req n && s.siteCode n == 1 && (s.getPsq n).exec == .stop && !s.loadWrites n && s.fld F.BIST_STAT.NF != 1 &&
  (s.siteRegions n).all (fun g => s.rgnState g != 1 && !s.bit (F.FAB_RGN_DESC.FAILED g)) &&
  cs != 1 && cs != 2 && !(cs == 4 && s.voting n && decide (s.voteGroup n < 8))

/-- Whether every slice of site `n` agrees in its UI-repeat factor with an active site on the other slice of its X-cell (R26). [DESIGN CHOICE 147] -/
def State.pairsAgree (s : State) (n : Nat) : Bool :=
  (List.range 256).all (fun k =>
    let o := if k % 2 = 0 then k + 1 else k - 1
    let m := s.sliceSite o
    !s.sliceOf k n || !s.assigned o || m == n || !s.siteActive m || (s.getPsq m).rep == s.fld (F.TICK_UIREP.REPEAT n))

/-- The lanes to which queues of site `n` are tapped, with those queues. -/
def State.siteTaps (s : State) (n : Nat) : List (Nat × List Nat) :=
  let ks := (s.siteQueues n).filter (fun k => s.bit (F.FCQ_Q_CFG.TAP_EN k))
  (List.range 16).filterMap (fun l =>
    let qs := ks.filter (fun k => s.fld (F.FCQ_Q_CFG.TAP_LANE k) == l)
    if qs.isEmpty then none else some (l, qs))

/-- ARM of a site that no slice holds up: refused, or ARMED from the next tick on (R26, R43, R142, R164, R267, R272, R324, R484). [DEDUCED 30] -/
def State.armCmd (s : State) (req : Requester) (n : Nat) : State :=
  let src := srcSeq n
  if !s.armOpen req n then s.refuseCmd req n 1
  else if !s.pairsAgree n then s.rejectCmd n C.TICK_UIREP_MISMATCH src 0
  else if s.voting n && s.fld (F.TICK_UIREP.REPEAT n) != s.fld (F.CSC_VGRP_CFG.REPEAT (s.voteGroup n)) then
    s.rejectCmd n C.TICK_UIREP_MISMATCH src 0
  else match s.captureBad n with
    | some bad => s.rejectCmd n C.FCQ_CFG_INVALID bad 0
    | none =>
      if !s.creditsFit n then
        s.rejectCmd n C.FCQ_CREDIT_OVERCOMMIT (match s.siteSources n with
          | x :: _ => srcSource x
          | [] => 0) 0
      else match (s.siteTaps n).find? (fun e => !s.tapsOk e.1 e.2) with
        | none => s.acceptCmd req n 1 .arm
        | some (l, ks) => (s.report C.SLV_TAP_REFUSED (srcSolver l 0) 0).rejectCmd n C.FCQ_CFG_INVALID (srcQueue (ks.headD 0)) 0

/-- ARM: held while a slice tests an M-cell of the site (R520). -/
def execPsqArm (req : Requester) (n : Fin 16) (s : State) : Host.Outcome State Fault Refusal :=
  if (s.siteRegions n).any (fun g => (s.rgnClusters g).any s.chunkTested) then .next (s.holdRequest (.psqArm req n))
  else .next (s.armCmd req n)

/-- Whether a named start or resume tick lies too early (R166). [DEDUCED 31] -/
def State.startMissed (s : State) (n : Nat) : Bool := decide ((s.reg (R.PSQ_START_TICK n)).toNat < s.tick.toNat + 8)

/-- The tick from which START or RESUME makes the site run: t + 2, or the named tick. -/
def State.runTick (s : State) (n : Nat) (at_ : Bool) : Wide := if at_ then s.reg (R.PSQ_START_TICK n) else s.tick + 2

/-- START (R164, R166, R484). [DEDUCED 31] -/
def execPsqStart (req : Requester) (n : Fin 16) (at_ : Bool) (s : State) : Host.Outcome State Fault Refusal :=
  let k := n.val
  if !s.cmdOpen req k || s.siteCode k != 2 then .next (s.refuseCmd req k 2)
  else if at_ && s.startMissed k then .next (s.rejectCmd k C.PSQ_START_MISSED (srcSeq k) (s.getPsq k).pc.toNat)
  else if s.voting k && (!at_ || s.reg (R.PSQ_START_TICK k) != s.reg (R.CSC_VGRP_START (s.voteGroup k))) then
    .next (s.rejectCmd k C.TICK_UIREP_MISMATCH (srcSeq k) 0)
  else .next (s.acceptCmd req k 2 (.start (s.runTick k at_)))

/-- SITE_RUN_BEGINS: in its start or resume tick the site is RUNNING and its sequencer issues (R23, R164, R169); a resume ends the offer of the array copy
of a halt (R156). -/
def execSiteRunBegins (n : Fin 16) (s : State) : Host.Outcome State Fault Refusal :=
  let p := s.getPsq n
  if p.runAt == some s.tick && (p.mode == .armed || p.mode == .paused) && s.fckOn then
    .next ((s.setPsq n { p with mode := .running, exec := .frame, runAt := none }).iff (p.mode == .paused) (·.setFld F.FAB_SFX_STAT.ARRAYS_HELD 0))
  else .next s

/-- PAUSE: the last running tick is the present one (R164). -/
def execPsqPause (req : Requester) (n : Fin 16) (s : State) : Host.Outcome State Fault Refusal :=
  if !s.cmdOpen req n || s.siteCode n != 3 then .next (s.refuseCmd req n 3) else .next (s.acceptCmd req n 3 .pause)

/-- Whether a voting site's RESUME keeps to its group's frame phase (R484). -/
def State.resumePhaseOk (s : State) (n : Nat) : Bool :=
  let g := s.voteGroup n
  ((s.reg (R.PSQ_START_TICK n)).toNat - (s.reg (R.CSC_VGRP_START g)).toNat - (s.getPsq n).nRun : Int) %
    (s.fld (F.CSC_VGRP_CFG.REPEAT g) : Int) == 0

/-- RESUME: the site runs again with its held count (R164, R166, R484); it is refused while the array copy runs (R156). -/
def execPsqResume (req : Requester) (n : Fin 16) (at_ : Bool) (s : State) : Host.Outcome State Fault Refusal :=
  let k := n.val
  if !s.cmdOpen req k || s.siteCode k != 4 || s.bit F.FAB_SFX_STAT.UNLOAD_BUSY || (s.voting k && !at_) then .next (s.refuseCmd req k 4)
  else if at_ && s.startMissed k then .next (s.rejectCmd k C.PSQ_START_MISSED (srcSeq k) (s.getPsq k).pc.toNat)
  else if s.voting k && !s.resumePhaseOk k then .next (s.rejectCmd k C.TICK_UIREP_MISMATCH (srcSeq k) 0)
  else .next (s.acceptCmd req k 4 (.resume (s.runTick k at_)))

/-- STOP: the site is LOADED or IDLE from the next tick on (R164). -/
def execPsqStop (req : Requester) (n : Fin 16) (s : State) : Host.Outcome State Fault Refusal :=
  let c := s.siteCode n
  if !s.cmdOpen req n || c < 2 || 5 < c then .next (s.refuseCmd req n 5) else .next (s.acceptCmd req n 5 .stop)

/-- HOLD: its cause arises in the present tick (R164, R167). -/
def execPsqHold (req : Requester) (n : Fin 16) (s : State) : Host.Outcome State Fault Refusal :=
  if !s.cmdOpen req n || !s.siteActive n then .next (s.refuseCmd req n 6)
  else
    let s1 := (s.raiseHold n C.PSQ_HOST_HOLD).cmdStatus n 0
    .next (s1.setPsq n { s1.getPsq n with cmdNow := some (req, 6) })

/-- SERVICE: the service program starts at SVC_PC in tick t + 2 (R164, R211, R414); a REP left under way ends, and TRAP, IE, DEPTH and the current bank stay
as they are. [DEDUCED 119] -/
def execPsqService (req : Requester) (n : Fin 16) (s : State) : Host.Outcome State Fault Refusal :=
  let k := n.val
  let c := s.siteCode k
  let p := s.getPsq k
  if !s.cmdOpen req k || !(c == 0 || c == 1 || c == 5) || p.exec != .stop || p.next.isSome || s.loadWrites k ||
      s.fld F.BIST_STAT.NF == 1 then
    .next (s.refuseCmd req k 7)
  else
    .next ((s.setPsq k { p with exec := .svc, pc := BitVec.ofNat 16 (s.fld (F.PSQ_ENTRY.SVC_PC k)), priv := s.bit (F.PSQ_CFG.SVC_PRIV k),
                                svcAt := some (s.tick + 2), svcEnd := false, repLeft := 0, access := none, held := [], cmdNow := some (req, 7) }).cmdStatus k 0)

/-- SVC_END: the service program is to stop at its next boundary (R164). -/
def execPsqSvcEnd (req : Requester) (n : Fin 16) (s : State) : Host.Outcome State Fault Refusal :=
  let p := s.getPsq n
  if !s.cmdOpen req n || !(p.exec == .svc || p.exec == .wait) then .next (s.refuseCmd req n 8)
  else .next ((s.setPsq n { p with svcEnd := true, cmdNow := some (req, 8) }).cmdStatus n 0)

/-- SVC_STOP_AT_BOUNDARY: between two instructions or transfer elements the service program stops (R164). -/
def execSvcStopAtBoundary (n : Fin 16) (s : State) : Host.Outcome State Fault Refusal :=
  let p := s.getPsq n
  if p.svcEnd && (p.exec == .svc || p.exec == .wait) && p.access.isNone then
    .next (s.setPsq n { p with exec := .stop, svcEnd := false, svcAt := none })
  else .next s

end Sys2Proof.Machine
end

