-- ==== Sys2Proof/Machine/SeqRegs.lean ====
section
/-! DEFINITION. The registers of a sequencer's block: what they read, the writes that act, page fills, the window debug port (R172 to R174, R199,
R208, R213 to R216), and the generic register write that every block uses (R14, R15). -/

namespace Sys2Proof.Machine

/-- The state that an outcome leaves, the given one where there is no next state. -/
def outState (s : State) : Host.Outcome State Fault Refusal → State
  | .next t => t
  | _ => s

/-- A write of the bits that `mask` selects to the register at `off`, with no effect beyond its stored fields (R14, R15). -/
def State.writePlain (s : State) (off : Nat) (v mask : Wide) : State :=
  match regAt off with
  | some (r, false) => s.setReg off (writeRow r.fields (s.reg off) v mask)
  | _ => s

/-- Bit `p` of a list of page, source or bank flags as a number. -/
def flagBits (n : Nat) (f : Nat → Bool) : Nat := ((List.range n).map (fun i => if f i then 2 ^ i else 0)).sum

/-- FREE banks among 0 to 14 (R191). -/
def Psq.freeBanks (p : Psq) : Nat :=
  ((List.range 15).filter (fun b => (mget (fun _ => (none : Option FrameHdr)) b p.frames).isNone)).length

/-- What a register of sequencer `n` at block offset `o` reads where it shows live state instead of a stored value. -/
def State.psqView (s : State) (n o : Nat) : Option Nat :=
  let p := s.getPsq n
  if o = 0x04 then some (s.siteCode n + p.exec.code * 2 ^ 8 + b2n p.sealFlag * 2 ^ 11 + s.fld (F.PSQ_STAT.CMD_STATUS n) * 2 ^ 16)
  else if o = 0x40 then some (b2n p.sealFlag)
  else if o = 0x44 then some (p.pc.toNat + p.epc.toNat * 2 ^ 16)
  else if o = 0x48 then some p.ecause.toNat
  else if o = 0x4C then some (p.depth + p.freeBanks * 2 ^ 24 + p.cur * 2 ^ 28)
  else if o = 0x50 then some (p.wstore.length + s.fld (F.PSQ_WSTORE.SPILL_ERR n) * 2 ^ 10)
  else if o = 0x60 then some (flagBits 5 p.pending + s.fld (F.PSQ_IRQ.EN n) * 2 ^ 16)
  else none

/-- A fill of page `page` of sequencer `n` from 16 KiB unit `unit` is asked for (R173, R174): PSQ_PG_STATUS tells whether it starts. -/
def State.startFill (s : State) (n page unit : Nat) : State :=
  let p := s.getPsq n
  if p.pc.toNat / 4096 = page ∨ s.fld (pageFld n page) = 1 then
    (s.setFld (F.PSQ_PG_STATUS.STATUS n) C.PSQ_PAGE_BUSY).reportPsq n C.PSQ_PAGE_BUSY
  else
    ((s.setPsq n { p with fills := mset (fun _ => none) page (some unit) p.fills }).setFld (pageFld n page) 1).setFld
      (F.PSQ_PG_STATUS.STATUS n) 0

/-- The network interface of sequencer `n` (R354). [PRESUMED 58] -/
def psqNi (n : Nat) : Nat := 128 + n

/-- DETAIL of a sequencer's report with a network or memory code (R543). -/
def State.psqDetail (s : State) (n code : Nat) : Nat := (s.getPsq n).pc.toNat + code * 2 ^ 32

/-- The words of a page written from address `a` of the instruction memory on. -/
def putWords (a : Nat) : List Word → List (Nat × Word) → List (Nat × Word)
  | [], m => m
  | w :: ws, m => putWords (a + 1) ws (mset (fun _ => 0) a w m)

/-- PAGE_FILL_DONE: a fill under way ends (R173); a fill that a load has lapsed is no longer under way (R172). [DEDUCED 37] -/
def execPageFillDone (n : Fin 16) (page : Fin 16) (status : Half) (s : State) : Host.Outcome State Fault Refusal :=
  let k := n.val
  let p := s.getPsq k
  match mget (fun _ => (none : Option Nat)) page.val p.fills with
  | none => .next s
  | some unit =>
    let a := unit * 16384
    let c := memStatus s (psqNi k) a 16384 false status.toNat
    let s := s.eccSeen (psqNi k) a 16384 false status.toNat
    let q := ({ p with fills := mset (fun _ => none) page.val none p.fills }).pend 3 s.tick
    if c ≠ 0 then
      .next (((((s.accLog (psqNi k) a c).setPsq k q).setFld (pageFld k page) 3).setFld (F.PSQ_PG_STATUS.STATUS k) C.PSQ_PAGE_FILL_ERR).report
        C.PSQ_PAGE_FILL_ERR (srcSeq k) (s.psqDetail k c))
    else
      let (bs, s1) := s.readDpa a 16384
      .next ((s1.setPsq k { q with imem := putWords (4096 * page.val) (bytesToWords bs) q.imem }).setFld (pageFld k page) 2)

/-- PSQ_PG_CMD (R173, R174). -/
def execPsqPgCmd (_req : Requester) (n : Fin 16) (page : Fin 16) (srcUnit : BitVec 24) (s : State) : Host.Outcome State Fault Refusal :=
  .next (s.startFill n page srcUnit.toNat)

/-- PSQ_DOORBELL: the value is kept and source DOORBELL becomes pending (R199). -/
def execPsqDoorbell (_req : Requester) (n : Fin 16) (value : Word) (s : State) : Host.Outcome State Fault Refusal :=
  .next ((s.setReg (R.PSQ_DOORBELL n) (value.setWidth 64)).pendIrq n 0)

/-- PSQ_SEAL.SET: the sequencer is sealed (R213). -/
def execPsqSealSet (_req : Requester) (n : Fin 16) (s : State) : Host.Outcome State Fault Refusal :=
  .next (s.setPsq n { s.getPsq n with sealFlag := true })

/-- Register `r` of physical bank `b`. -/
def Psq.bankReg (p : Psq) (b r : Nat) : Word := mget (fun _ => 0) (16 * b + r) p.banks

/-- Register `r` of physical bank `b` replaced; g0 stays 0 (R177, R212). -/
def Psq.setBankReg (p : Psq) (b r : Nat) (v : Word) : Psq :=
  if r = 0 then p else { p with banks := mset (fun _ => 0) (16 * b + r) v p.banks }

/-- PSQ_WDBG_DATA: a read or write of the register that PSQ_WDBG_ADDR names (R214, R215). -/
def execPsqWdbgAccess (req : Requester) (n : Fin 16) (write : Option Word) (s : State) : Host.Outcome State Fault Refusal :=
  let k := n.val
  let p := s.getPsq k
  let b := s.fld (F.PSQ_WDBG_ADDR.BANK k)
  let r := s.fld (F.PSQ_WDBG_ADDR.REG k)
  let s0 := { s with rdata := if write.isNone then 0 else s.rdata }
  let open_ := p.exec == .stop || p.exec == .susp || p.exec == .fault
  if p.sealFlag || !open_ then
    .next ((s0.iff (!open_) (·.logRefused req (R.PSQ_WDBG_DATA k) 0)).iff p.sealFlag (·.reportPsq k C.PSQ_SEALED_ACCESS))
  else match write with
    | some v => .next (s.setPsq k (p.setBankReg b r v))
    | none => .next { s with rdata := (p.bankReg b r).setWidth 64 }

/-- The offset of a register that R216 protects. -/
def PsqCfgReg.off (n : Nat) : PsqCfgReg → Nat
  | .entry => R.PSQ_ENTRY n
  | .cfg => R.PSQ_CFG n
  | .wcfg => R.PSQ_WCFG n
  | .spillBase => R.PSQ_SPILL_BASE n
  | .spillLimit => R.PSQ_SPILL_LIMIT n
  | .daper => R.PSQ_DAPER n
  | .voteCfg => R.PSQ_VOTE_CFG n

/-- Whether block offset `o` is that of a register that R216 protects. -/
def cfgOffset (o : Nat) : Bool := [0x20, 0x24, 0x28, 0x30, 0x38, 0x3C, 0x7C].contains o

/-- A write to a configuration register at `off` of sequencer `n`, refused while a program may read it; one performed takes effect at the next ARM or SERVICE (R216). -/
def State.psqCfgWrite (s : State) (req : Requester) (n off : Nat) (v mask : Wide) : State :=
  let c := s.siteCode n
  let p := s.getPsq n
  if (c == 0 || c == 1 || c == 5) && (p.exec == .stop || p.exec == .fault) then (s.holdReg n off).writePlain off v mask
  else s.logRefused req off 0

/-- PSQ_CONFIG_WRITE (R216). -/
def execPsqConfigWrite (req : Requester) (n : Fin 16) (reg : PsqCfgReg) (value : Wide) (s : State) : Host.Outcome State Fault Refusal :=
  .next (s.psqCfgWrite req n (PsqCfgReg.off n reg) value (maskBits 0 64))

/-- A write to PSQ_MMASK_k_w: taken from the next tick on. [DEDUCED 37] -/
def State.maskWrite (s : State) (n k w : Nat) (v : Word) : State :=
  if s.fckOn then
    let p := s.getPsq n
    s.setPsq n { p with masks := mset (fun j => BitVec.ofNat 32 (s.reg (R.PSQ_MMASK n (j / 8) (j % 8))).toNat) (8 * k + w) v p.masks }
  else s.setReg (R.PSQ_MMASK n k w) (v.setWidth 64)

/-- A write to PSQ_CMD (R164); OP values other than 1 to 8 are ignored. -/
def State.psqCmdWrite (s : State) (req : Requester) (n : Fin 16) (v : Nat) : State :=
  let at_ := bitOf v 4
  outState s (match v % 16 with
    | 1 => execPsqArm req n s
    | 2 => execPsqStart req n at_ s
    | 3 => execPsqPause req n s
    | 4 => execPsqResume req n at_ s
    | 5 => execPsqStop req n s
    | 6 => execPsqHold req n s
    | 7 => execPsqService req n s
    | 8 => execPsqSvcEnd req n s
    | _ => .next s)

/-- A write to the register of sequencer `n` at block offset `o`, the bits that `mask` selects (R164, R173, R199, R213 to R216). [DEDUCED 34] -/
def State.psqBlockWrite (s : State) (req : Requester) (n : Fin 16) (o : Nat) (v mask : Wide) : State :=
  let k := n.val
  let off := 0x200000 + 0x1000 * k + o
  let w : Word := BitVec.ofNat 32 v.toNat
  if mask.toNat % 2 ^ 32 = 0 ∧ ¬ (o = 0x18 ∨ o = 0x30) then s
  else if o = 0 then s.psqCmdWrite req n v.toNat
  else if o = 0x40 then (if bitOf v.toNat 1 then outState s (execPsqSealSet req n s) else s)
  else if o = 0x64 then outState s (execPsqDoorbell req n w s)
  else if o = 0x70 then s.startFill k (v.toNat / 2 ^ 28 % 16) (v.toNat % 2 ^ 24)
  else if o = 0x204 then outState s (execPsqWdbgAccess req n (some w) s)
  else if cfgOffset o then s.psqCfgWrite req k off v mask
  else if 0x100 ≤ o ∧ o < 0x180 then s.maskWrite k ((o - 0x100) / 32) ((o - 0x100) / 4 % 8) w
  else s.writePlain off v mask

/-- What a register of sequencer `n` at block offset `o` reads without side effects; PSQ_WDBG_DATA reads 0 here (R561). -/
def State.psqPeek (s : State) (n o : Nat) : Wide :=
  match s.psqView n o with
  | some v => BitVec.ofNat 64 v
  | none => s.reg (0x200000 + 0x1000 * n + o)

end Sys2Proof.Machine
end

