-- ==== Sys2Proof/Machine/SeqOps.lean ====
section
/-! DEFINITION. How a sequencer issues an instruction: its fetch, traps, frames, interrupts, special registers and data accesses (R169 to R170,
R175 to R177, R179, R188 to R212, R624). -/

namespace Sys2Proof.Machine

/-- Field [hi:lo] of an instruction word, as a number. -/
def fieldOf (w : Word) (hi lo : Nat) : Nat := (w.toNat >>> lo) % 2 ^ (hi - lo + 1)

/-- The 16-bit immediate sign-extended (R177). -/
def simm (w : Word) : Word := (w.setWidth 16).signExtend 32

/-- The 16-bit immediate zero-extended (R177). -/
def zimm (w : Word) : Word := (w.setWidth 16).setWidth 32

/-- Register `r` of the current bank (R177). -/
def Psq.g (p : Psq) (r : Nat) : Word := p.bankReg p.cur r

/-- Register `r` of the current bank replaced. -/
def Psq.setG (p : Psq) (r : Nat) (v : Word) : Psq := p.setBankReg p.cur r v

/-- Vector code `k`. -/
def Psq.vcode (p : Psq) (k : Nat) : Word := mget (fun _ => 0) k p.vc

/-- Vector code `k` replaced. -/
def Psq.setVc (p : Psq) (k : Nat) (v : Word) : Psq := { p with vc := mset (fun _ => 0) k v p.vc }

/-- A vector word with V = 1 and S = 0 (R179). -/
def vectorWord (v : Word) : FWord := ⟨false, true, v⟩

/-- STATUS (R188). -/
def Psq.status (p : Psq) : Word := BitVec.ofNat 32 (b2n p.ie + 2 * b2n p.priv + 4 * b2n p.trap + 8 * b2n p.sealFlag)

/-- The fields that an instruction of opcode `op` uses of its bits [23:0], as a mask (R176, R178). -/
def usedBits (op : Nat) : Nat :=
  [0x000000, 0x0FFFFF, 0xEFFFFF, 0xFFFF00, 0xFFFFFF, 0xFFFFFF, 0xFFFFFF, 0xFFFFFF, 0xFFFFFF, 0xF0FFFF, 0x0FFFFF, 0x00FFFF, 0x000000,
   0x000001, 0xFF0000, 0xFEFFFF, 0xFEFFFF, 0x3EFFFF, 0xFFFFFF, 0xFFFFFF, 0xF00FFF, 0x0F0FFF, 0xFF8000, 0x0F80FF, 0x0FFFFF, 0xFF0000,
   0xFFFFFF, 0xFFFFFF, 0x0FFFFF, 0x0FFFFF, 0xFFFFFF].getD op 0

/-- Whether the special register exists (R188). -/
def sprKnown (r : Nat) : Bool := r ≤ 0x012 || (0x018 ≤ r && r ≤ 0x01F)

/-- Whether MTS may name the special register (R188). -/
def sprWritable (r : Nat) : Bool :=
  [0, 1, 2, 3, 4, 7, 8, 0xA, 0xB, 0xD].contains r || (0x018 ≤ r && r ≤ 0x01F)

/-- Whether the special register is marked P (R188). -/
def sprPriv (r : Nat) : Bool := [0, 1, 2, 3, 4, 7, 8, 0xA, 0xB].contains r

/-- Whether the opcode may follow a REP (R182). -/
def repAllowed (op : Nat) : Bool := op ≤ 7 || op == 0x0E || op == 0x12 || op == 0x13

/-- Whether a word is an invalid encoding (R176, R178, R180, R181, R188, R209). -/
def badEncoding (w : Word) : Bool :=
  let op := fieldOf w 31 27
  op == 0x1F || (w.toNat % 2 ^ 24) &&& (0xFFFFFF - usedBits op) != 0 ||
  (op == 0x03 && decide (0xE ≤ fieldOf w 11 8)) || (op == 0x08 && decide (0xB ≤ fieldOf w 19 16)) ||
  (op == 0x14 && !sprKnown (fieldOf w 11 0)) || (op == 0x15 && !sprWritable (fieldOf w 11 0)) ||
  ((op == 0x1C || op == 0x1D) && bitOf w.toNat 0) || (op == 0x1E && decide (3 < fieldOf w 23 16))

/-- The causes of R203. -/
abbrev T.WOVF : Nat := 1
/-- Cause WOVF_IRQ. -/
abbrev T.WOVF_IRQ : Nat := 2
/-- Cause WUNF. -/
abbrev T.WUNF : Nat := 3
/-- Cause ILLEGAL. -/
abbrev T.ILLEGAL : Nat := 4
/-- Cause CLASS. -/
abbrev T.CLASS : Nat := 5
/-- Cause PRIV. -/
abbrev T.PRIV : Nat := 6
/-- Cause SEALED. -/
abbrev T.SEALED : Nat := 7
/-- Cause PAGE. -/
abbrev T.PAGE : Nat := 8
/-- Cause MEMFAULT. -/
abbrev T.MEMFAULT : Nat := 9
/-- Cause ALIGN. -/
abbrev T.ALIGN : Nat := 10
/-- Cause SYSCALL. -/
abbrev T.SYSCALL : Nat := 11
/-- Cause SPILL. -/
abbrev T.SPILL : Nat := 12
/-- Cause VOTE. -/
abbrev T.VOTE : Nat := 13

/-- The sequencer goes on at `pc` in the next issue tick or at the next boundary: in a service program one tick later. -/
def Psq.goOn (p : Psq) (pc : Half) (t : Wide) : Psq :=
  { p with pc := pc, issuedAt := some t, svcAt := if p.exec = .svc then some (t + 1) else p.svcAt }

/-- A trap is entered (R204, R206): `epc` is the return address. [DEDUCED 33] -/
def Psq.enterTrap (p : Psq) (ivbase cause detail : Nat) (eval : Word) (epc : Half) (t : Wide) : Psq :=
  ({ p with epc := epc, ecause := BitVec.ofNat 32 (cause + detail * 2 ^ 16), eval := eval, tstatus := p.status, tlmstate := p.lmstate,
            tlmbase := p.lmbase, lmstate := 0, trap := true, priv := true, cur := 15, repLeft := 0,
            exec := if p.exec = ExecState.wait then ExecState.svc else p.exec } : Psq).goOn (BitVec.ofNat 16 (256 * ivbase + 0x80)) t

/-- Sequencer `n` meets a trap condition at its PC (R204, R206, R207): a trap, or a double fault while TRAP = 1. In a repetition the return address
lies behind the repeated instruction and EVAL counts the repetitions not performed. [DEDUCED 148] -/
def State.trapAt (s : State) (n cause : Nat) (eval : Word) (detail : Nat) : State :=
  let p := s.getPsq n
  if p.trap then s.doubleFault n cause
  else
    let rep := decide (0 < p.repLeft)
    let epc := if rep || cause == T.SYSCALL then p.pc + 1 else p.pc
    s.setPsq n (p.enterTrap (s.effFld n (F.PSQ_CFG.IVBASE n)) cause detail (if rep then BitVec.ofNat 32 (p.repLeft - 1) else eval) epc s.tick)

/-- The word that the coming edge puts on the vector entry positions of sequencer `n`. -/
def State.emitWord (s : State) (n : Nat) (v : Word) : State := s.setPsq n { s.getPsq n with vout := some (vectorWord v) }

/-- The interrupt that is due at the present boundary, with what its check found (R200, R201): the source chosen at the last edge, unless a REP is under
way. -/
def State.irqDue (s : State) (n : Nat) : Option (Nat × Option Nat) :=
  let p := s.getPsq n
  match p.irqCheck with
  | some (src, c) => if decide (0 < p.repLeft) || s.irqSource n 2 != some src then none else some (src, c)
  | none => none

/-- Whether sequencer `n` stands at an issue tick of its frame program or a boundary of its service program where it has not issued yet
(R162, R170). -/
def State.atBoundary (s : State) (n : Nat) : Bool :=
  let p := s.getPsq n
  s.fckOn && p.issuedAt != some s.tick && !p.faulted && p.access.isNone &&
  (match p.exec with
    | .frame => s.issueTick n 0
    | .svc => (match p.svcAt with
      | some a => decide (a.toNat ≤ s.tick.toNat)
      | none => true)
    | _ => false)

/-- Whether sequencer `n` issues the instruction at PC now: no interrupt comes first and SVC_END has not asked it to stop. -/
def State.issuesNow (s : State) (n : Nat) : Bool :=
  s.atBoundary n && (s.irqDue n).isNone && !(s.getPsq n).svcEnd

/-- The instruction word at the PC of sequencer `n`. -/
def Psq.fetch (p : Psq) : Word := mget (fun _ => 0) p.pc.toNat p.imem

/-- Whether page `pg` of sequencer `n` is VALID. -/
def State.pageValid (s : State) (n pg : Nat) : Bool := s.fld (pageFld n pg) == 2

/-- What an instruction does after the checks that all share: the state, and the cause, EVAL and DETAIL of a trap it meets. -/
inductive SeqResult where
  | done (s : State)
  | trap (cause : Nat) (eval : Word) (detail : Nat)

/-- Sequencer `n` issues the instruction at PC when its opcode is one that `mine` accepts (R169, R170, R175, R176, R179, R182, R624): the shared checks,
the emit, then `f`, which sees the emit made and the PC still at the instruction. In a service program only an emitting instruction, NOPV or EMIT, writes VWR
(R170, R190). A word of another opcode leaves the state unchanged. [DESIGN CHOICE 6; DEDUCED 122] -/
def State.issue (s : State) (n : Nat) (mine : Word → Bool) (f : State → Psq → Word → SeqResult) : State :=
  let p := s.getPsq n
  let w := p.fetch
  let op := fieldOf w 31 27
  let frame := p.exec == .frame
  let service := decide (0x1A ≤ op)
  if !s.issuesNow n then s
  else if !s.pageValid n (p.pc.toNat / 4096) then
    (if frame then s.emitWord n (p.vcode 0) else s).trapAt n T.PAGE (p.pc.setWidth 32) 0
  else if !mine w then s
  else
    let s1 := if frame then s.emitWord n (p.vcode (fieldOf w 26 24)) else s
    if badEncoding w || (decide (0 < p.repLeft) && !repAllowed op) then s1.trapAt n T.ILLEGAL w 0
    else if (frame && service) || (!frame && (0x0E ≤ op && op ≤ 0x11 )) then s1.trapAt n T.CLASS w 0
    else
      let s2 := if !frame && op == 0 then s1.emitWord n (p.vcode (fieldOf w 26 24)) else s1
      match f s2 (s2.getPsq n) w with
      | .done t => t
      | .trap c e d => s1.trapAt n c e d

/-- An instruction is done and the sequencer goes on at `pc`, or repeats under a REP (R182). -/
def State.seqNext (s : State) (n : Nat) (p : Psq) (pc : Half) : SeqResult :=
  if 0 < p.repLeft then
    .done (s.setPsq n ({ p with repLeft := p.repLeft - 1 }.goOn (if p.repLeft = 1 then p.pc + 1 else p.pc) s.tick))
  else .done (s.setPsq n (p.goOn pc s.tick))

/-- A tick-class instruction with the opcode `op` that only changes its sequencer, going on at the next address. -/
def State.simple (s : State) (n op : Nat) (f : Psq → Word → Psq) : State :=
  s.issue n (fun w => fieldOf w 31 27 == op) (fun t p w => t.seqNext n (f p w) (p.pc + 1))

/-- A context select of context `c` is issued for the site in the present tick (R36). -/
def State.select (s : State) (n c : Nat) : State :=
  { s with fab := { s.fab with selNow := mset (fun _ => none) n (some c) s.fab.selNow } }

/-- Whether the frame at depth `d` is in its bank (R191). -/
def Psq.resident (p : Psq) (d : Nat) : Bool :=
  match p.frameIn (d % 15) with
  | some h => h.depth == d
  | none => false

/-- A frame is opened at DEPTH + 1 with the given header fields; g1 to g7 are inherited when `inherit` (R192, R201). -/
def Psq.push (p : Psq) (kind : Nat) (retpc : Half) (status lmstate lmbase : Word) (inherit : Bool) : Psq :=
  let d := p.depth + 1
  let b := d % 15
  let q := (List.range 16).foldl (fun q r => q.setBankReg b r (if inherit && decide (r < 8) then p.g r else 0)) p
  { q with frames := mset (fun _ => none) b (some ⟨d, kind, retpc, status, lmstate, lmbase⟩) q.frames, depth := d, cur := b }

/-- The current frame is closed and execution continues in bank `b` (R193, R202). -/
def Psq.pop (p : Psq) (b : Nat) : Psq :=
  { p with frames := mset (fun _ => none) (p.depth % 15) none p.frames, depth := p.depth - 1, cur := b }

/-- The header of the frame that executes: the one at DEPTH, none in the trap window, which never holds a call frame (R191). -/
def Psq.curFrame (p : Psq) : Option FrameHdr := if p.cur = 15 then none else p.frameIn (p.depth % 15)

/-- The trap that keeps RET or RETX from returning to the frame at depth `d` (R193, R198, R202). -/
def Psq.returnFault (p : Psq) (d : Nat) : Option SeqResult :=
  if p.spillBad.contains d then some (.trap T.SPILL (BitVec.ofNat 32 d) 0)
  else if !p.resident d then some (.trap T.WUNF (BitVec.ofNat 32 d) 0)
  else none

/-- A special register read by MFS; TICKLO latches TICKHI (R188, R18). [DEDUCED 35] -/
def State.sprRead (s : State) (n r : Nat) : Word × State :=
  let p := s.getPsq n
  if 0x018 ≤ r then (p.vcode (r - 0x018), s)
  else if r = 0x00F then
    (BitVec.ofNat 32 s.tick.toNat, s.setPsq n { p with tickHi := some (BitVec.ofNat 32 (s.tick.toNat / 2 ^ 32)) })
  else if r = 0x010 then
    (p.tickHi.getD (BitVec.ofNat 32 (s.tick.toNat / 2 ^ 32)), s.setPsq n { p with tickHi := none })
  else (match r with
    | 0x000 => p.status
    | 0x001 => p.epc.setWidth 32
    | 0x002 => p.ecause
    | 0x003 => p.eval
    | 0x004 => p.tstatus
    | 0x005 => p.lmstate
    | 0x006 => p.lmbase
    | 0x007 => p.tlmstate
    | 0x008 => p.tlmbase
    | 0x009 => BitVec.ofNat 32 p.depth
    | 0x00A => BitVec.ofNat 32 p.winsel
    | 0x00B => BitVec.ofNat 32 (s.fld (F.PSQ_IRQ.EN n))
    | 0x00C => BitVec.ofNat 32 (flagBits 5 p.pending)
    | 0x00D => BitVec.ofNat 32 (b2n p.sfail)
    | 0x00E => (s.reg (R.PSQ_FRAMECNT n)).setWidth 32
    | 0x011 => BitVec.ofNat 32 ((s.reg (R.PSQ_SIG n)).toNat % 2 ^ 12)
    | _ => (s.reg (R.PSQ_DOORBELL n)).setWidth 32, s)

/-- A special register written by MTS (R188, R211). -/
def State.sprWrite (s : State) (n r : Nat) (v : Word) : State :=
  let p := s.getPsq n
  if 0x018 ≤ r then s.setPsq n (p.setVc (r - 0x018) v)
  else if r = 0x00B then s.setFld (F.PSQ_IRQ.EN n) (v.toNat % 32)
  else s.setPsq n (match r with
    | 0x000 => { p with ie := bitOf v.toNat 0, priv := p.priv && bitOf v.toNat 1 }
    | 0x001 => { p with epc := v.setWidth 16 }
    | 0x002 => { p with ecause := v &&& 0xFFFF000F }
    | 0x003 => { p with eval := v }
    | 0x004 => { p with tstatus := v &&& 0xF }
    | 0x007 => { p with tlmstate := v }
    | 0x008 => { p with tlmbase := v }
    | 0x00A => { p with winsel := v.toNat % 16 }
    | _ => { p with sfail := false })

/-- ALU FN on two operands (R180). -/
def aluFn (fn : Nat) (a b : Word) : Word :=
  let sh := b.toNat % 32
  match fn with
  | 0x0 => a + b
  | 0x1 => a - b
  | 0x2 => a &&& b
  | 0x3 => a ||| b
  | 0x4 => a ^^^ b
  | 0x5 => a <<< sh
  | 0x6 => a >>> sh
  | 0x7 => a.sshiftRight sh
  | 0x8 => BitVec.ofNat 32 (b2n (a.slt b))
  | 0x9 => BitVec.ofNat 32 (b2n (a.ult b))
  | 0xA => if a.ult b then a else b
  | 0xB => if a.ult b then b else a
  | 0xC => a * b
  | _ => BitVec.ofNat 32 (popNat 32 a.toNat)

/-- Whether BR's condition holds (R181). -/
def State.brHolds (s : State) (n cond : Nat) (a : Word) : Bool :=
  let p := s.getPsq n
  match cond with
  | 0x0 => true
  | 0x1 => a == 0
  | 0x2 => a != 0
  | 0x3 => a.slt 0
  | 0x4 => !a.slt 0
  | 0x5 => BitVec.slt 0 a
  | 0x6 => !BitVec.slt 0 a
  | 0x7 => p.sfail
  | 0x8 => !p.sfail
  | 0x9 => s.pageValid n (a.toNat % 16)
  | _ => decide (0 < p.freeBanks)

/-- What stands at an address of the sequencer's data space (R208). -/
inductive DataPlace where
  | scratch
  | block
  | memory
  | nothing
deriving DecidableEq, Repr

/-- The target of a data address (R208). -/
def dataPlace (a : Word) : DataPlace :=
  if a.toNat < 0x4000 then .scratch
  else if 0x10000 ≤ a.toNat ∧ a.toNat < 0x11000 then .block
  else if 0x80000000 ≤ a.toNat then .memory
  else .nothing

/-- The trap of a data access before any request is made (R203, R208, R211, R624): PRIV, then ALIGN, then MEMFAULT. -/
def dataFault (p : Psq) (w a : Word) : Option SeqResult :=
  if dataPlace a = .block ∧ p.priv = false then some (.trap T.PRIV w 0)
  else if a.toNat % 4 ≠ 0 then some (.trap T.ALIGN a 0)
  else if dataPlace a = .nothing then some (.trap T.MEMFAULT a 0)
  else none

/-- The DPA that a data address of sequencer `n` reaches (R208). -/
def State.dataDpa (s : State) (n : Nat) (a : Word) : Nat := s.effFld n (F.PSQ_DAPER.BASE n) * 2 ^ 30 + (a.toNat - 0x80000000)

/-- A word of the sequencer's own register block: the register or, for an offset in the upper half of a 64-bit one, its high half; 0 where
there is none (R208). -/
def State.blockRead (s : State) (n o : Nat) : Word :=
  match regAt (0x200000 + 0x1000 * n + o) with
  | some (_, false) => (s.psqPeek n o).setWidth 32
  | some (_, true) => BitVec.ofNat 32 ((s.psqPeek n (o - 4)).toNat / 2 ^ 32)
  | none => 0

/-- A load from the sequencer's own register block: PSQ_WDBG_DATA acts as it does for the host (R208, R215). -/
def State.blockLoad (s : State) (n : Fin 16) (o : Nat) : Word × State :=
  if o = 0x204 then
    let t := outState s (execPsqWdbgAccess .host n none s)
    (t.rdata.setWidth 32, { t with rdata := s.rdata })
  else (s.blockRead n o, s)

/-- A word stored to the sequencer's own register block acts as a write of the host does, but for the registers of R216, which gates writes of the host and
the management cores only (R208). [DEDUCED 34] -/
def State.blockStore (s : State) (n : Fin 16) (o : Nat) (v : Word) : State :=
  let put (o : Nat) (v mask : Wide) : State :=
    let off := 0x200000 + 0x1000 * n.val + o
    if cfgOffset o then (s.holdReg n off).writePlain off v mask else s.psqBlockWrite .host n o v mask
  match regAt (0x200000 + 0x1000 * n.val + o) with
  | some (_, false) => put o (v.setWidth 64) (maskBits 0 32)
  | some (_, true) => put (o - 4) (BitVec.ofNat 64 (v.toNat * 2 ^ 32)) (maskBits 32 32)
  | none => s

/-- LMSTATE (R188): REM and the PC of the transfer. -/
def lmState (pc : Half) (rem : Nat) : Word := BitVec.ofNat 32 (rem % 2 ^ 16 + pc.toNat * 2 ^ 16)

/-- A data access that has its value: register `r` takes it on a load, and the instruction ends or, in LDM and STM, moves to its next element
(R208, R209). -/
def State.accessDone (s : State) (n : Nat) (x : DataAccess) (v : Word) : State :=
  let p := s.getPsq n
  let q := { (if x.store then p else p.setG x.reg v) with access := none }
  if x.multi then
    let rem := q.lmstate.toNat % 2 ^ 16
    let left := if bitOf rem x.reg then rem - 2 ^ x.reg else rem
    let q1 := { q with lmstate := lmState q.pc left }
    s.setPsq n (q1.goOn (if left / 2 = 0 then q1.pc + 1 else q1.pc) s.tick)
  else s.setPsq n (q.goOn (q.pc + 1) s.tick)

/-- A service-class access to address `a` is made: scratch memory and the register block answer at once, attached memory later (R170, R208). -/
def State.startAccess (s : State) (n : Fin 16) (x : DataAccess) : State :=
  let p := s.getPsq n
  match dataPlace x.addr with
  | .scratch =>
    if x.store then
      (s.setPsq n { p with scratch := mset (fun _ => 0) (x.addr.toNat / 4) x.value p.scratch }).accessDone n x 0
    else s.accessDone n x (mget (fun _ => 0) (x.addr.toNat / 4) p.scratch)
  | .block =>
    if x.store then (s.accessDone n x 0).blockStore n (x.addr.toNat - 0x10000) x.value
    else
      let (v, t) := s.blockLoad n (x.addr.toNat - 0x10000)
      t.accessDone n x v
  | _ => s.setPsq n { p with access := some x, issuedAt := some s.tick }

/-- One element of LDM or STM, started or resumed from LMSTATE and LMBASE: the lowest of g1 to g15 whose bit remains (R209). -/
def State.multiStep (s : State) (n : Fin 16) (p : Psq) (w : Word) (store : Bool) : SeqResult :=
  let mask := w.toNat % 2 ^ 16
  let again := p.lmstate.toNat / 2 ^ 16 == p.pc.toNat && p.lmstate.toNat % 2 ^ 16 != 0
  let rem := if again then p.lmstate.toNat % 2 ^ 16 else mask
  let base := if again then p.lmbase else p.g (fieldOf w 19 16)
  let q := { p with lmstate := lmState p.pc rem, lmbase := base }
  match onesFrom 15 1 (rem / 2) with
  | [] => .done (s.setPsq n (q.goOn (p.pc + 1) s.tick))
  | k :: _ =>
    let a := base + BitVec.ofNat 32 (4 * popNat k mask)
    match dataFault q w a with
    | some (.trap c e d) => .done ((s.setPsq n q).trapAt n c e d)
    | _ => .done ((s.setPsq n q).startAccess n ⟨store, k, a, q.g k, true⟩)

end Sys2Proof.Machine
end

