-- ==== Sys2Proof/Machine/SeqExec.lean ====
section
/-! DEFINITION. The instructions of the pattern sequencers (R176 to R193, R200 to R202, R205, R208, R209, R212): a command makes one sequencer issue the
instruction at its PC when that is the command's. -/

namespace Sys2Proof.Machine

/-- NOPV: VC[VS] is emitted. -/
def execSeqNopv (n : Fin 16) (s : State) : Host.Outcome State Fault Refusal := .next (s.simple n 0x00 (fun p _ => p))

/-- EMIT: VC[VS] takes ga + imm, and the new value is emitted. -/
def execSeqEmit (n : Fin 16) (s : State) : Host.Outcome State Fault Refusal :=
  .next (s.simple n 0x01 (fun p w =>
    let v := p.g (fieldOf w 19 16) + simm w
    { p.setVc (fieldOf w 26 24) v with vout := some (vectorWord v) }))

/-- VSET: VC[k] takes ga + imm. -/
def execSeqVset (n : Fin 16) (s : State) : Host.Outcome State Fault Refusal :=
  .next (s.simple n 0x02 (fun p w => p.setVc (fieldOf w 23 21) (p.g (fieldOf w 19 16) + simm w)))

/-- ALU: gd takes ga FN gb (R180). -/
def execSeqAlu (n : Fin 16) (s : State) : Host.Outcome State Fault Refusal :=
  .next (s.simple n 0x03 (fun p w =>
    p.setG (fieldOf w 23 20) (aluFn (fieldOf w 11 8) (p.g (fieldOf w 19 16)) (p.g (fieldOf w 15 12)))))

/-- ADDI: gd takes ga + imm. -/
def execSeqAddi (n : Fin 16) (s : State) : Host.Outcome State Fault Refusal :=
  .next (s.simple n 0x04 (fun p w => p.setG (fieldOf w 23 20) (p.g (fieldOf w 19 16) + simm w)))

/-- ANDI: gd takes ga AND imm. -/
def execSeqAndi (n : Fin 16) (s : State) : Host.Outcome State Fault Refusal :=
  .next (s.simple n 0x05 (fun p w => p.setG (fieldOf w 23 20) (p.g (fieldOf w 19 16) &&& zimm w)))

/-- ORI: gd takes ga OR imm. -/
def execSeqOri (n : Fin 16) (s : State) : Host.Outcome State Fault Refusal :=
  .next (s.simple n 0x06 (fun p w => p.setG (fieldOf w 23 20) (p.g (fieldOf w 19 16) ||| zimm w)))

/-- LUI: gd takes imm in its upper half and ga[15:0] in its lower. -/
def execSeqLui (n : Fin 16) (s : State) : Host.Outcome State Fault Refusal :=
  .next (s.simple n 0x07 (fun p w =>
    p.setG (fieldOf w 23 20) ((zimm w <<< 16) ||| (p.g (fieldOf w 19 16) &&& 0xFFFF))))

/-- The address that a branch names. -/
def target (w : Word) : Half := w.setWidth 16

/-- Whether a word has opcode `op`. -/
def isOp (op : Nat) (w : Word) : Bool := fieldOf w 31 27 == op

/-- BR (R181). -/
def execSeqBr (n : Fin 16) (s : State) : Host.Outcome State Fault Refusal :=
  .next (s.issue n (isOp 0x08) (fun t p w =>
    t.seqNext n p (if t.brHolds n (fieldOf w 19 16) (p.g (fieldOf w 23 20)) then target w else p.pc + 1)))

/-- DJNZ: ga steps down and the branch is taken while it is not 0. -/
def execSeqDjnz (n : Fin 16) (s : State) : Host.Outcome State Fault Refusal :=
  .next (s.issue n (isOp 0x09) (fun t p w =>
    let v := p.g (fieldOf w 23 20) - 1
    t.seqNext n (p.setG (fieldOf w 23 20) v) (if v = 0 then p.pc + 1 else target w)))

/-- REP: the next instruction issues ga + imm times (R182). -/
def execSeqRep (n : Fin 16) (s : State) : Host.Outcome State Fault Refusal :=
  .next (s.issue n (isOp 0x0A) (fun t p w =>
    let c := (p.g (fieldOf w 19 16) + zimm w).toNat
    .done (t.setPsq n ({ p with repLeft := c }.goOn (if c = 0 then p.pc + 2 else p.pc + 1) t.tick))))

/-- CALL (R192, R196). -/
def execSeqCall (n : Fin 16) (s : State) : Host.Outcome State Fault Refusal :=
  .next (s.issue n (isOp 0x0B) (fun t p w =>
    match t.pushFault n with
    | some e => .trap T.WOVF (BitVec.ofNat 32 e) 0
    | none => t.seqNext n (p.push (if p.cur = 15 then 3 else 1) (p.pc + 1) 0 0 0 true) (target w)))

/-- RET (R193, R198): a KIND 1 frame returns to its caller's bank, a KIND 3 frame to the trap window. [DEDUCED 32] -/
def execSeqRet (n : Fin 16) (s : State) : Host.Outcome State Fault Refusal :=
  .next (s.issue n (isOp 0x0C) (fun t p w =>
    match p.curFrame with
    | none => .trap T.ILLEGAL w 0
    | some h =>
      if h.kind ≠ 1 ∧ h.kind ≠ 3 then .trap T.ILLEGAL w 0
      else
        let back := if h.kind = 3 then 15 else (p.depth - 1) % 15
        let q := (((p.pop back).setG 1 (p.g 1)).setG 2 (p.g 2)).setG 3 (p.g 3)
        match (if h.kind = 1 then p.returnFault (p.depth - 1) else none) with
        | some r => r
        | none => t.seqNext n q h.retpc))

/-- RETX with KIND 0: return from an interrupt (R202, R211). [DEDUCED 32] -/
def execSeqRetxInterrupt (n : Fin 16) (s : State) : Host.Outcome State Fault Refusal :=
  .next (s.issue n (fun w => isOp 0x0D w && !bitOf w.toNat 0) (fun t p w =>
    if !p.priv then .trap T.PRIV w 0
    else match p.curFrame with
      | none => .trap T.ILLEGAL w 0
      | some h =>
        if h.kind ≠ 2 then .trap T.ILLEGAL w 0
        else match p.returnFault (p.depth - 1) with
          | some r => r
          | none =>
            t.seqNext n { p.pop ((p.depth - 1) % 15) with
              ie := bitOf h.status.toNat 0, priv := bitOf h.status.toNat 1, lmstate := h.lmstate, lmbase := h.lmbase } h.retpc))

/-- RETX with KIND 1: return from the trap window (R205, R211). [DEDUCED 32] -/
def execSeqRetxTrap (n : Fin 16) (s : State) : Host.Outcome State Fault Refusal :=
  .next (s.issue n (fun w => isOp 0x0D w && bitOf w.toNat 0) (fun t p w =>
    if !p.priv then .trap T.PRIV w 0
    else if !p.trap || p.cur != 15 then .trap T.ILLEGAL w 0
    else
      t.seqNext n { p with ie := bitOf p.tstatus.toNat 0, priv := bitOf p.tstatus.toNat 1, trap := false, lmstate := p.tlmstate,
                           lmbase := p.tlmbase, cur := p.depth % 15 } p.epc))

/-- CTX: a context select of CTX or of ga[2:0] (R36). -/
def execSeqCtx (n : Fin 16) (s : State) : Host.Outcome State Fault Refusal :=
  .next (s.issue n (isOp 0x0E) (fun t p w =>
    let c := if bitOf w.toNat 19 then (p.g (fieldOf w 23 20)).toNat % 8 else fieldOf w 18 16
    (t.select n c).seqNext n p (p.pc + 1)))

/-- Whether MATCH and MWAIT find their condition on accumulator `k` (R184). -/
def Psq.accHolds (p : Psq) (k : Nat) (sense : Bool) : Bool := bitOf p.acc.toNat k != sense

/-- A decision that branches, with an optional context select (R184). -/
def State.decide_ (t : State) (n : Nat) (p : Psq) (w : Word) (cond : Bool) : SeqResult :=
  if cond then (if bitOf w.toNat 20 then t.select n (fieldOf w 19 17) else t).seqNext n p (target w) else t.seqNext n p (p.pc + 1)

/-- MATCH (R184). -/
def execSeqMatch (n : Fin 16) (s : State) : Host.Outcome State Fault Refusal :=
  .next (s.issue n (isOp 0x0F) (fun t p w => t.decide_ n p w (p.accHolds (fieldOf w 23 22) (bitOf w.toNat 21))))

/-- MWAIT (R185). -/
def execSeqMwait (n : Fin 16) (s : State) : Host.Outcome State Fault Refusal :=
  .next (s.issue n (isOp 0x10) (fun t p w =>
    if p.accHolds (fieldOf w 23 22) (bitOf w.toNat 21) then t.seqNext n p (p.pc + 1)
    else
      let v := p.g (fieldOf w 20 17) - 1
      t.seqNext n (p.setG (fieldOf w 20 17) v) (if v = 0 then target w else p.pc)))

/-- VMATCH: as MATCH on the vote decision of the site's group (R186). -/
def execSeqVmatch (n : Fin 16) (s : State) : Host.Outcome State Fault Refusal :=
  .next (s.issue n (isOp 0x11) (fun t p w =>
    if !t.effBit n (F.PSQ_VOTE_CFG.EN n) then .trap T.VOTE w 0 else t.decide_ n p w (p.vote != bitOf w.toNat 21)))

/-- The scratch address of LDS and STS. -/
def scratchAddr (p : Psq) (w : Word) : Word := (p.g (fieldOf w 19 16) + simm w) &&& 0x3FFF

/-- LDS: gd takes a scratch word. -/
def execSeqLds (n : Fin 16) (s : State) : Host.Outcome State Fault Refusal :=
  .next (s.issue n (isOp 0x12) (fun t p w =>
    let a := scratchAddr p w
    if a.toNat % 4 ≠ 0 then .trap T.ALIGN a 0
    else t.seqNext n (p.setG (fieldOf w 23 20) (mget (fun _ => 0) (a.toNat / 4) p.scratch)) (p.pc + 1)))

/-- STS: a scratch word takes gs. -/
def execSeqSts (n : Fin 16) (s : State) : Host.Outcome State Fault Refusal :=
  .next (s.issue n (isOp 0x13) (fun t p w =>
    let a := scratchAddr p w
    if a.toNat % 4 ≠ 0 then .trap T.ALIGN a 0
    else t.seqNext n { p with scratch := mset (fun _ => 0) (a.toNat / 4) (p.g (fieldOf w 23 20)) p.scratch } (p.pc + 1)))

/-- MFS: gd takes a special register (R188). -/
def execSeqMfs (n : Fin 16) (s : State) : Host.Outcome State Fault Refusal :=
  .next (s.issue n (isOp 0x14) (fun t _ w =>
    let (v, u) := t.sprRead n (fieldOf w 11 0)
    let q := u.getPsq n
    u.seqNext n (q.setG (fieldOf w 23 20) v) (q.pc + 1)))

/-- MTS: a special register takes ga (R188, R211, R214). -/
def execSeqMts (n : Fin 16) (s : State) : Host.Outcome State Fault Refusal :=
  .next (s.issue n (isOp 0x15) (fun t p w =>
    let r := fieldOf w 11 0
    if r = 0x00A ∧ p.sealFlag = true then .trap T.SEALED w 0
    else if sprPriv r && !p.priv then .trap T.PRIV w 0
    else
      let u := t.sprWrite n r (p.g (fieldOf w 19 16))
      u.seqNext n (u.getPsq n) (p.pc + 1)))

/-- XMOV: a move between the current bank and bank WINSEL.BANK (R211, R212, R214). -/
def execSeqXmov (n : Fin 16) (s : State) : Host.Outcome State Fault Refusal :=
  .next (s.issue n (isOp 0x16) (fun t p w =>
    let rd := fieldOf w 23 20
    let rs := fieldOf w 19 16
    if p.sealFlag then .trap T.SEALED w 0
    else if !p.priv then .trap T.PRIV w 0
    else t.seqNext n (if bitOf w.toNat 15 then p.setBankReg p.winsel rd (p.g rs) else p.setG rd (p.bankReg p.winsel rs)) (p.pc + 1)))

/-- CODE and the sender reach PSQ_SIG of sequencer `m`, whose source SIGNAL becomes pending; with HOST a host event is posted (R187, R579). -/
def State.signalSeq (s : State) (n m code : Nat) (host : Bool) : State :=
  let ovr := (s.getPsq m).pending 4 || s.bit (F.PSQ_SIG.OVR m)
  let s1 := (s.setReg (R.PSQ_SIG m) (BitVec.ofNat 64 (code + n * 2 ^ 8 + b2n ovr * 2 ^ 12))).pendIrq m 4
  if host then s1.postEvent 1 (m + n * 256) code (12 + m) else s1

/-- SIG (R187). -/
def execSeqSig (n : Fin 16) (s : State) : Host.Outcome State Fault Refusal :=
  .next (s.issue n (isOp 0x17) (fun t p w =>
    match t.seqNext n p (p.pc + 1) with
    | .done u => .done (u.signalSeq n (fieldOf w 19 16) (fieldOf w 7 0) (bitOf w.toNat 15))
    | r => r))

/-- SFX: a capture of tick (issue tick + ga + imm) is armed, or refused without stopping the sequencer (R150, R151); the sum is one of 64 bits, as TICK_COUNT
is. [DEDUCED 120] -/
def execSeqSfx (n : Fin 16) (s : State) : Host.Outcome State Fault Refusal :=
  .next (s.issue n (isOp 0x18) (fun t p w =>
    (t.sfxTrigger (t.tick + (p.g (fieldOf w 19 16)).setWidth 64 + (zimm w).setWidth 64).toNat 1 (srcSeq n) true).seqNext n p (p.pc + 1)))

/-- PGLD: a page fill from 16 KiB unit ga is asked for (R173, R174). -/
def execSeqPgld (n : Fin 16) (s : State) : Host.Outcome State Fault Refusal :=
  .next (s.issue n (isOp 0x19) (fun t p w =>
    let u := t.startFill n (fieldOf w 23 20) (p.g (fieldOf w 19 16)).toNat
    u.seqNext n (u.getPsq n) (p.pc + 1)))

/-- LD or ST of one word (R208). -/
def State.single (t : State) (n : Fin 16) (p : Psq) (w : Word) (store : Bool) : SeqResult :=
  let a := p.g (fieldOf w 19 16) + simm w
  match dataFault p w a with
  | some r => r
  | none => .done (t.startAccess n ⟨store, fieldOf w 23 20, a, p.g (fieldOf w 23 20), false⟩)

/-- LD: a load from the data address space begins (R208). -/
def execSeqLd (n : Fin 16) (s : State) : Host.Outcome State Fault Refusal :=
  .next (s.issue n (isOp 0x1A) (fun t p w => t.single n p w false))

/-- ST: a store to the data address space begins (R208). -/
def execSeqSt (n : Fin 16) (s : State) : Host.Outcome State Fault Refusal :=
  .next (s.issue n (isOp 0x1B) (fun t p w => t.single n p w true))

/-- LDM: the next register of MASK is loaded (R209). -/
def execSeqLdm (n : Fin 16) (s : State) : Host.Outcome State Fault Refusal :=
  .next (s.issue n (isOp 0x1C) (fun t p w => t.multiStep n p w false))

/-- STM: the next register of MASK is stored (R209). -/
def execSeqStm (n : Fin 16) (s : State) : Host.Outcome State Fault Refusal :=
  .next (s.issue n (isOp 0x1D) (fun t p w => t.multiStep n p w true))

/-- DATA_ACCESS_COMPLETE: the access under way ends at attached memory, or faults with the code that the network or memory gave (R170, R203, R208). -/
def execDataAccessComplete (n : Fin 16) (status : Half) (s : State) : Host.Outcome State Fault Refusal :=
  let p := s.getPsq n
  match p.access with
  | none => .next s
  | some x =>
    let d := s.dataDpa n x.addr
    let c := memStatus s (psqNi n) d 4 x.store status.toNat
    let s := s.eccSeen (psqNi n) d 4 x.store status.toNat
    if c ≠ 0 then .next (((s.accLog (psqNi n) d c).setPsq n { p with access := none }).trapAt n T.MEMFAULT x.addr c)
    else if x.store then .next ((s.unitWrite (psqNi n) d (leBytes 4 x.value.toNat)).accessDone n x 0)
    else
      let (bs, s1) := s.readDpa d 4
      .next (s1.accessDone n x (BitVec.ofNat 32 (ofLeBytes bs)))

/-- Whether a word is SYS with function `fn`. -/
def isSys (fn : Nat) (w : Word) : Bool := isOp 0x1E w && fieldOf w 23 16 == fn

/-- SYSC: the trap SYSCALL (R178). -/
def execSeqSysc (n : Fin 16) (s : State) : Host.Outcome State Fault Refusal :=
  .next (s.issue n (isSys 0) (fun _ _ w => .trap T.SYSCALL (zimm w) 0))

/-- WAITI: the service program waits until an interrupt is taken (R178). -/
def execSeqWaiti (n : Fin 16) (s : State) : Host.Outcome State Fault Refusal :=
  .next (s.issue n (isSys 1) (fun t p _ => .done (t.setPsq n { p.goOn (p.pc + 1) t.tick with exec := .wait })))

/-- FENCE: earlier stores are complete before it issues, since the one access of a program ends before its next instruction (R170, R178). -/
def execSeqFence (n : Fin 16) (s : State) : Host.Outcome State Fault Refusal :=
  .next (s.issue n (isSys 2) (fun t p _ => t.seqNext n p (p.pc + 1)))

/-- HALT: the service program stops (R178). -/
def execSeqHalt (n : Fin 16) (s : State) : Host.Outcome State Fault Refusal :=
  .next (s.issue n (isSys 3) (fun t p _ => .done (t.setPsq n { p.goOn (p.pc + 1) t.tick with exec := .stop })))

/-- ILLEGAL_OPCODE: opcode 0x1F, or SYS with a function above 3, traps with cause ILLEGAL (R178). -/
def execSeqIllegal (n : Fin 16) (s : State) : Host.Outcome State Fault Refusal :=
  .next (s.issue n (fun w => isOp 0x1F w || (isOp 0x1E w && decide (3 < fieldOf w 23 16))) (fun t p _ => t.seqNext n p (p.pc + 1)))

/-- INTERRUPT_ENTRY: the due interrupt opens its frame and the handler's first instruction issues in this tick, or the entry traps with WOVF_IRQ
(R199 to R201, R210). [DEDUCED 33] -/
def execInterruptEntry (n : Fin 16) (s : State) : Host.Outcome State Fault Refusal :=
  let p := s.getPsq n
  let here := s.atBoundary n || (p.exec == .wait && s.fckOn)
  match s.irqDue n with
  | none => .next s
  | some (src, check) =>
    if !here || p.svcEnd then .next s
    else match check with
      | some e =>
        let vs := if s.pageValid n (p.pc.toNat / 4096) then fieldOf p.fetch 26 24 else 0
        .next ((if p.exec = .frame then s.emitWord n (p.vcode vs) else s).trapAt n T.WOVF_IRQ (BitVec.ofNat 32 e) 0)
      | none =>
        .next (s.setPsq n { p.push 2 p.pc p.status p.lmstate p.lmbase false with
          ie := false, priv := s.effBit n (F.PSQ_CFG.IRQ_PRIV n), lmstate := 0, irq := mset (fun _ => none) src none p.irq,
          exec := if p.exec = .wait then .svc else p.exec,
          pc := BitVec.ofNat 16 (256 * s.effFld n (F.PSQ_CFG.IVBASE n) + 16 * src) })

/-- TIMER: in an issue tick FRAMECNT equals PSQ_TIMER and source TIMER becomes pending (R199). -/
def execPsqTimer (n : Fin 16) (s : State) : Host.Outcome State Fault Refusal :=
  if s.fckOn && s.issueTick n 0 && (s.reg (R.PSQ_FRAMECNT n)).setWidth 32 == ((s.reg (R.PSQ_TIMER n)).setWidth 32 : Word) then
    .next (s.pendIrq n 1)
  else .next s

end Sys2Proof.Machine
end

