-- ==== Sys2Proof/Machine/SpillExec.lean ====
section
/-! DEFINITION. The spill engine and the window store (R194 to R198). -/

namespace Sys2Proof.Machine

/-- SPILL_AHEAD and FILL_AHEAD as they act (R194). -/
def State.aheads (s : State) (n : Nat) : Nat × Nat :=
  let a := s.effFld n (F.PSQ_WCFG.SPILL_AHEAD n)
  let b := s.effFld n (F.PSQ_WCFG.FILL_AHEAD n)
  if 14 < a + b then (2, 2) else (a, b)

/-- Whether banks and window store of sequencer `n` are kept for inspection: its site is in SAFE_HOLD and no service program runs (R167). [DEDUCED 36] -/
def Psq.windowsKept (p : Psq) : Bool := p.mode == .safeHold && (p.exec == .stop || p.exec == .fault)

/-- Whether the spill engine of sequencer `n` may move a frame now: 4 ticks have passed since the last move (R194), and the banks are not kept for
inspection. [DEDUCED 36] -/
def State.spillReady (s : State) (n : Nat) : Bool :=
  let p := s.getPsq n
  s.fckOn && !p.windowsKept && (match p.movedAt with
    | some t => decide (t.toNat + 4 ≤ s.tick.toNat)
    | none => true)

/-- The RESIDENT frame of lowest depth: its bank and header (R194). -/
def Psq.lowestResident (p : Psq) : Option (Nat × FrameHdr) :=
  (List.range 15).foldl (fun best b => match p.frameIn b with
    | some h => if h.depth = p.depth then best else
        (match best with
        | some x => if h.depth < x.2.depth then some (b, h) else best
        | none => some (b, h))
    | none => best) none

/-- Whether a spill is to be made (R194, R195): too few FREE banks and room in the window store. -/
def State.spillDue (s : State) (n : Nat) : Bool :=
  let p := s.getPsq n
  decide (p.freeBanks < (s.aheads n).1) && p.lowestResident.isSome

/-- WINDOW_SPILL: a frame goes from its bank to the window store (R194, R195, R197). [DEDUCED 36] -/
def execWindowSpill (n : Fin 16) (s : State) : Host.Outcome State Fault Refusal :=
  let p := s.getPsq n
  match p.lowestResident with
  | some (b, h) =>
    if !s.spillReady n || !s.spillDue n || decide (512 ≤ p.wstore.length) then .next s
    else
      .next (s.setPsq n { p with frames := mset (fun _ => none) b none p.frames, movedAt := some s.tick,
                                 wstore := p.wstore ++ [⟨h, (List.range 16).map (p.bankReg b), false⟩] })
  | none => .next s

/-- A frame that fails its check or its transfer (R198): logged, SPILL_ERR set, its depth marked. -/
def State.spillError (s : State) (n code : Nat) (depths : List Nat) : State :=
  let s1 := (s.setFld (F.PSQ_WSTORE.SPILL_ERR n) 1).report C.PSQ_SPILL_ERR (srcSeq n) (s.psqDetail n code)
  let p := s1.getPsq n
  s1.setPsq n { p with spillBad := p.spillBad ++ depths.filter (fun d => !p.spillBad.contains d) }

/-- WINDOW_FILL: the highest frame of the window store goes back to its bank, unless its check fails (R194, R198). [DEDUCED 36] -/
def execWindowFill (n : Fin 16) (s : State) : Host.Outcome State Fault Refusal :=
  let p := s.getPsq n
  let (sa, fa) := s.aheads n
  let below := ((List.range 15).filter (fun b => match p.frameIn b with
    | some h => decide (h.depth < p.depth)
    | none => false)).length
  match p.wstore.getLast? with
  | none => .next s
  | some f =>
    let d := f.hdr.depth
    if !s.spillReady n || s.spillDue n || decide (fa ≤ below) || decide (p.freeBanks < sa + 1) || (p.frameIn (d % 15)).isSome ||
        p.spillBad.contains d then .next s
    else if f.bad then .next (s.spillError n 0 [d])
    else
      let q := (List.range 16).foldl (fun q r => q.setBankReg (d % 15) r (f.regs.getD r 0)) p
      .next (s.setPsq n { q with frames := mset (fun _ => none) (d % 15) (some f.hdr) q.frames, movedAt := some s.tick,
                                 wstore := q.wstore.dropLast })

/-- The first 92 bytes of a spilled frame, those that CHECK covers (R197). -/
def StoredFrame.body (f : StoredFrame) (n : Nat) : List Byte :=
  let irq := f.hdr.kind == 2
  (List.range 16).flatMap (fun r => leBytes 4 (if r = 0 then 0 else (f.regs.getD r 0).toNat)) ++
  leBytes 2 f.hdr.retpc.toNat ++ leBytes 1 f.hdr.kind ++ leBytes 1 n ++
  leBytes 4 (if irq then f.hdr.status.toNat else 0) ++ leBytes 4 (if irq then f.hdr.lmstate.toNat else 0) ++
  leBytes 4 (if irq then f.hdr.lmbase.toNat else 0) ++ leBytes 4 f.hdr.depth ++ leBytes 8 0

/-- The 128 bytes of a spilled frame (R197, R198). -/
def StoredFrame.bytes (f : StoredFrame) (n : Nat) : List Byte :=
  f.body n ++ leBytes 4 (crcWords (bytesToWords (f.body n))).toNat ++ leBytes 32 0

/-- The frame that 128 bytes read back for depth `d` hold; it is bad when CHECK, DEPTH or the sequencer number does not match (R198). -/
def storedFrame (n d : Nat) (bs : List Byte) : StoredFrame :=
  let at_ (o k : Nat) : Nat := ofLeBytes ((bs.drop o).take k)
  { hdr := ⟨d, at_ 0x42 1, BitVec.ofNat 16 (at_ 0x40 2), BitVec.ofNat 32 (at_ 0x44 4), BitVec.ofNat 32 (at_ 0x48 4),
      BitVec.ofNat 32 (at_ 0x4C 4)⟩,
    regs := (List.range 16).map (fun r => BitVec.ofNat 32 (at_ (4 * r) 4)),
    bad := BitVec.ofNat 32 (at_ 0x5C 4) != crcWords (bytesToWords (bs.take 0x5C)) || at_ 0x50 4 != d || at_ 0x43 1 != n }

/-- Where a frame of depth `d` lies in attached memory (R195). -/
def State.spillAddr (s : State) (n d : Nat) : Nat := s.effFld n (F.PSQ_SPILL_BASE.ADDR n) * 128 + 128 * d

/-- WSTORE_TO_MEMORY: the lowest frames of a store above STORE_HI go to attached memory; a failed write leaves them (R195, R198, R214). -/
def execWstoreToMemory (n : Fin 16) (status : Half) (s : State) : Host.Outcome State Fault Refusal :=
  let p := s.getPsq n
  let hi := s.effFld n (F.PSQ_WCFG.STORE_HI n)
  if p.sealFlag || p.windowsKept || decide (p.wstore.length ≤ hi) then .next s
  else
    let k := p.wstore.length - (hi - 32)
    let a := s.spillAddr n p.inMem
    let c := memStatus s (psqNi n) a (128 * k) true status.toNat
    if c ≠ 0 then .next ((s.accLog (psqNi n) a c).spillError n c [])
    else
      let s1 := s.unitWrite (psqNi n) a ((p.wstore.take k).flatMap (fun f => f.bytes n))
      .next (s1.setPsq n { p with wstore := p.wstore.drop k, inMem := p.inMem + k })

/-- WSTORE_FROM_MEMORY: a store below STORE_LO takes its next frames back from attached memory (R195, R198). -/
def execWstoreFromMemory (n : Fin 16) (status : Half) (s : State) : Host.Outcome State Fault Refusal :=
  let p := s.getPsq n
  let lo := s.effFld n (F.PSQ_WCFG.STORE_LO n)
  let k := min p.inMem (min (lo + 32) 512 - p.wstore.length)
  if p.windowsKept || decide (lo ≤ p.wstore.length) || k == 0 then .next s
  else
    let d0 := p.inMem - k
    let a := s.spillAddr n d0
    let ds := (List.range k).map (fun i => d0 + i)
    let c := memStatus s (psqNi n) a (128 * k) false status.toNat
    let s := s.eccSeen (psqNi n) a (128 * k) false status.toNat
    if c ≠ 0 then .next ((s.accLog (psqNi n) a c).spillError n c ds)
    else
      let (bs, s1) := s.readDpa a (128 * k)
      let fs := (List.range k).map (fun i => storedFrame n (d0 + i) ((bs.drop (128 * i)).take 128))
      .next (s1.setPsq n { p with wstore := fs ++ p.wstore, inMem := d0, spillBad := p.spillBad.filter (fun d => !ds.contains d) })

end Sys2Proof.Machine
end

