-- ==== Sys2Proof/Machine/PartnerOps.lean ====
section
/-! DEFINITION. The partner table and the loss of partners and bindings (R250 to R252, R586, R587). -/

namespace Sys2Proof.Machine

/-- Byte `b` of partner entry `e`. -/
def State.ptByte (s : State) (e b : Nat) : Nat := getBits (s.reg (R.AUX_PT e (b / 4))) (8 * (b % 4)) 8

/-- Byte `b` of partner entry `e` replaced. -/
def State.setPtByte (s : State) (e b v : Nat) : State :=
  let off := R.AUX_PT e (b / 4)
  s.setReg off (putBits (s.reg off) (8 * (b % 4)) 8 v)

/-- STATE of partner entry `e`: 0 EMPTY, 1 JOINING, 2 ONLINE, 3 GONE. -/
def State.ptState (s : State) (e : Nat) : Nat := s.ptByte e 8

/-- GEN of partner entry `e`. -/
def State.ptGen (s : State) (e : Nat) : Nat := s.ptByte e 9

/-- PID of partner entry `e`. -/
def State.ptPid (s : State) (e : Nat) : Nat := ((List.range 6).map (fun b => s.ptByte e b * 2 ^ (8 * b))).sum

/-- DETAIL of a partner's join or leave (R596). -/
def State.ptDetail (s : State) (e : Nat) : Nat := e + s.ptGen e * 2 ^ 8 + s.ptPid e * 2 ^ 16

/-- A PSL_BIND write of slice `k` accepted in the present tick is refused after all, because the partner it names is lost in this tick (R255): the register and
the binding are as before it. [DEDUCED 38] -/
def State.unbindNow (s : State) (k : Nat) : State :=
  match (s.slice k).bindRec with
  | some b =>
    if s.fckOn && b.tick == s.tick then
      (((s.setSlice k { s.slice k with bindRec := none }).setReg (R.PSL_BIND k) b.reg).setFlds
        [(F.PSL_STAT.BOUND k, b.bound), (F.PSL_STAT.STALE k, b.stale), (F.PSL_STAT.CMD_STATUS k, C.PSL_BIND_INVALID)]).report
        C.PSL_BIND_INVALID (srcSlice k) (s.pslDetail k)
    else s
  | none => s

/-- Slice `k` loses its binding in the present tick (R250 to R252): stale, logged, its calibration ended; an active site is held from the next
tick on. [DEDUCED 38] -/
def State.loseBinding (s0 : State) (k : Nat) : State :=
  let s := s0.setSlice k { s0.slice k with lostAt := some s0.tick }
  let s1 := if (s.slice k).cal then s.calEnd k C.PSL_PARTNER_LOST else s
  let s2 := ((s1.setFld (F.PSL_STAT.BOUND k) 0).setFld (F.PSL_STAT.STALE k) 1).report C.PSL_PARTNER_LOST (srcSlice k) (s.pslDetail k)
  if s2.sliceBusy k then { s2 with pslLost := s2.sliceSite k :: s2.pslLost } else s2

/-- The slices bound to partner `e`. -/
def State.boundTo (s : State) (e : Nat) : List Nat :=
  (List.range 256).filter (fun k => s.bit (F.PSL_STAT.BOUND k) && s.fld (F.PSL_BIND.PARTNER k) == e)

/-- Partner `e` is lost (R250, R255, R587): every slice bound to it loses its binding and the entry is GONE; an entry that is not ONLINE is unaffected. -/
def State.partnerLoss (s : State) (e : Nat) : State :=
  if s.ptState e ≠ 2 then s
  else
    let s0 := (s.boundTo e).foldl (fun t k => t.unbindNow k) s
    let s1 := (s0.boundTo e).foldl (fun t k => t.loseBinding k) s0
    let s2 := (s1.setPtByte e 8 3).report C.AUX_PARTNER_LEAVE 0 (s1.ptDetail e)
    s2.postEvent 5 e (s2.ptGen e) 2

end Sys2Proof.Machine
end

