-- ==== Sys2Proof/Machine/PslExec.lean ====
section
/-! DEFINITION. The commands and events of the pin slices (R232, R235 to R241, R249 to R254). -/

namespace Sys2Proof.Machine

/-- SLICE_COMPARE: in its compare tick a frame is compared with the comparators as sampled at the instants that the frame names, `h` and `l` (R233, R235 to
R237). [DESIGN CHOICE 126] -/
def execSliceCompare (sl : Fin 256) (h : Half) (l : Half) (s : State) : Host.Outcome State Fault Refusal :=
  let k := sl.val
  let x := s.slice k
  let st := s.sliceState k
  let cfg (f : Nat → Fld) : Bool := (f 0).of x.set.cfg == 1
  match x.frameAt s.tick with
  | none => .next s
  | some f =>
    let e := polWord (cfg F.PSL_CFG.SPOL) f.expect
    if !(st == 2 || st == 3 || st == 4) || x.now.compared || !e.v then .next s
    else
      let hh := if cfg F.PSL_CFG.CMPH_INV then ~~~ h else h
      let ll := if cfg F.PSL_CFG.CMPL_INV then ~~~ l else l
      let fw := failWord e.data hh ll
      let s1 := s.setSlice k { x with now := { x.now with compared := true, fail := fw } }
      let s2 := (s1.addSat (F.PSL_CNT_FRAMES.COUNT k) 1).addSat (F.PSL_CNT_FAILUI.COUNT k) (popNat 16 fw.toNat)
      let s3 := if cmpBad e.data hh ll then
          ((s2.addSat (F.PSL_CNT_MISC.CMPBAD k) 1).setFld (F.PSL_STAT.CMPBAD_SEEN k) 1).report C.PSL_CMP_INVALID (srcSlice k) (s.pslDetail k)
        else s2
      .next (if fw ≠ 0 ∧ s3.bit (F.PSL_FIRST_FAIL.VALID k) = false then
        (s3.setReg (R.PSL_FIRST_FAIL k) (BitVec.ofNat 64 (2 ^ 16 + fw.toNat))).setReg (R.PSL_FIRST_FAIL_TICK k) s.tick
      else s3)

/-- A command of slice `k` refused with `code` in CMD_STATUS and logged (R238, R249, R256). -/
def State.refusePsl (s : State) (req : Requester) (k code off detail : Nat) : State :=
  let s1 := s.setFld (F.PSL_STAT.CMD_STATUS k) code
  if code = C.STATE_REFUSED then s1.logRefused req off 0 else s1.report code (srcSlice k) detail

/-- CAL: calibration begins, with the settings as they stand and PSL_DSK_RX at 0, or is refused (R7, R232, R238, R240). [DEDUCED 73] -/
def execPslCal (req : Requester) (sl : Fin 256) (s : State) : Host.Outcome State Fault Refusal :=
  let k := sl.val
  if !s.present k then .next s
  else if !s.allows req .pslCal then .next (s.refusePsl req k C.STATE_REFUSED (R.PSL_CTRL k) 0)
  else if !s.quadReady k then .next (s.refusePsl req k C.PSL_QUAD_OFF (R.PSL_CTRL k) (s.pslDetail k))
  else if s.fld F.BIST_STAT.NF == 1 || s.sliceState k != 1 || !s.bit (F.PSL_STAT.BOUND k) || s.bit F.TICK_STAT.FCK_BUSY || s.sliceBusy k then
    .next (s.refusePsl req k C.STATE_REFUSED (R.PSL_CTRL k) 0)
  else
    let c := s.settings k
    .next (((s.setSlice k { s.slice k with cal := true, calAt := s.tick, calRx := c.rx, set := { c with rx := 0 } }).setReg (R.PSL_DSK_RX k) 0).setFld
      (F.PSL_STAT.CMD_STATUS k) 0)

/-- CAL_DONE: calibration ends with what it measured (R240, R241). -/
def execCalDone (sl : Fin 256) (outcome : CalOutcome) (s : State) : Host.Outcome State Fault Refusal :=
  let k := sl.val
  if !(s.slice k).cal then .next s
  else match outcome with
    | .noMarker => .next (s.calEnd k C.PSL_CAL_FAIL)
    | .measured rH rL =>
      let h := rH.toNat
      let l := rL.toNat
      let r := max h l
      let m := r + 64
      let u := m / 128
      if 1023 < r - min h l ∨ 64 < 3 + u / 16 then .next (s.calEnd k C.PSL_CAL_FAIL)
      else
        .next ((s.setFlds [(F.PSL_DSK_RX.CMPH k, r - h), (F.PSL_DSK_RX.CMPL k, r - l), (F.PSL_POS_STRB.FINE k, m % 128),
          (F.PSL_RXALIGN.K k, 3 + u / 16), (F.PSL_RXALIGN.RXOFS k, u % 16), (F.PSL_CAL_RESULT.RTRIP k, r)]).calEnd k 0)

/-- CNT_CLR: the slice's counters and its first fail are cleared (R237). -/
def execPslCntClr (_req : Requester) (sl : Fin 256) (s : State) : Host.Outcome State Fault Refusal :=
  let k := sl.val
  .next (((((s.setReg (R.PSL_CNT_FRAMES k) 0).setReg (R.PSL_CNT_FAILUI k) 0).setReg (R.PSL_CNT_MISC k) 0).setReg (R.PSL_FIRST_FAIL k) 0).setReg
    (R.PSL_FIRST_FAIL_TICK k) 0)

/-- The offset of a slice setting register. -/
def pslRegOff (k : Nat) : PslReg → Nat
  | .cfg => R.PSL_CFG k
  | .posLead => R.PSL_POS_LEAD k
  | .posTrail => R.PSL_POS_TRAIL k
  | .posDen => R.PSL_POS_DEN k
  | .posStrb => R.PSL_POS_STRB k
  | .dskTx => R.PSL_DSK_TX k
  | .dskRx => R.PSL_DSK_RX k
  | .rxalign => R.PSL_RXALIGN k
  | .eq => R.PSL_EQ k

/-- PSL_SETTING_WRITE: taken unless the slice's site is active (R232). -/
def execPslSettingWrite (req : Requester) (sl : Fin 256) (reg : PslReg) (value : Word) (s : State) : Host.Outcome State Fault Refusal :=
  let k := sl.val
  let off := pslRegOff k reg
  if !s.present k then .next s
  else if s.sliceBusy k then .next (s.logRefused req off 0)
  else if reg = .rxalign ∧ (value.toNat % 128 < 3 ∨ 64 < value.toNat % 128) then .next s
  else .next (s.writePlain off (value.setWidth 64) (maskBits 0 32))

/-- Whether a write to PSL_BIND of slice `k` names an unusable partner channel (R249). -/
def State.bindInvalid (s : State) (k : Nat) (v : Nat) : Bool :=
  let e := v / 2 ^ 8 % 64
  let ch := v % 256
  s.ptState e != 2 || v / 2 ^ 16 % 256 != s.ptGen e || decide (s.ptByte e 13 ≤ ch) ||
  (s.boundTo e).any (fun o => o != k && s.fld (F.PSL_BIND.CHANNEL o) == ch)

/-- PSL_BIND: the slice is bound or unbound, or the write is refused (R7, R249, R251), also when the slice has lost a binding to the same partner in this tick
(R255). [DEDUCED 38] -/
def execPslBind (req : Requester) (sl : Fin 256) (value : Word) (s : State) : Host.Outcome State Fault Refusal :=
  let k := sl.val
  let v := value.toNat
  let en := bitOf v 31
  let detail := v / 2 ^ 8 % 64 + v % 256 * 2 ^ 8
  let x := s.slice k
  let lost := s.fckOn && x.lostAt == some s.tick && s.fld (F.PSL_BIND.PARTNER k) == v / 2 ^ 8 % 64
  if !s.present k then .next s
  else if !s.allows req .pslCal || s.sliceBusy k then .next (s.refusePsl req k C.STATE_REFUSED (R.PSL_BIND k) 0)
  else if !s.quadReady k then .next (s.refusePsl req k C.PSL_QUAD_OFF (R.PSL_BIND k) detail)
  else if en && (lost || s.bindInvalid k v) then .next (s.refusePsl req k C.PSL_BIND_INVALID (R.PSL_BIND k) detail)
  else
    let s1 := s.setSlice k { x with bindRec := some ⟨s.tick, s.reg (R.PSL_BIND k), s.fld (F.PSL_STAT.BOUND k), s.fld (F.PSL_STAT.STALE k)⟩ }
    .next ((s1.writePlain (R.PSL_BIND k) (value.setWidth 64) (maskBits 0 32)).setFlds
      [(F.PSL_STAT.CMD_STATUS k, 0), (F.PSL_STAT.BOUND k, b2n en), (F.PSL_STAT.STALE k, 0)])

/-- The live LOS bits of slice `k` (R250). -/
def State.setLos (s : State) (k : Nat) (onH onL : Bool) : State :=
  s.setFlds [(F.PSL_STAT.LOS_H k, b2n onH), (F.PSL_STAT.LOS_L k, b2n onL), (⟨R.PSL_LOS (k / 32), k % 32, 1⟩, b2n (onH || onL))]

/-- LOS: the signal on CMPH or CMPL has been absent for two ticks; a bound slice with LOS_EN loses its binding, another logs PSL_RX_LOS
(R250, R252). -/
def execLos (sl : Fin 256) (onH : Bool) (onL : Bool) (s : State) : Host.Outcome State Fault Refusal :=
  let k := sl.val
  if !(s.quadReady k || s.pskLost k) || !(onH || onL) then .next s
  else
    let s1 := (s.setLos k (onH || s.bit (F.PSL_STAT.LOS_H k)) (onL || s.bit (F.PSL_STAT.LOS_L k))).setFld (F.PSL_STAT.LOS_SEEN k) 1
    let s2 := s1.unbindNow k
    .next (if s1.bit (F.PSL_STAT.BOUND k) && (F.PSL_CFG.LOS_EN k).of (s.slice k).set.cfg == 1 then
        (if s2.bit (F.PSL_STAT.BOUND k) then s2.loseBinding k else s2)
      else s1.report C.PSL_RX_LOS (srcSlice k) (s.pslDetail k))

/-- LOS_RECOVERY: signal has returned on the named lanes; a stale binding stays stale (R250, R251). [DEDUCED 40] -/
def execLosRecovery (sl : Fin 256) (onH : Bool) (onL : Bool) (s : State) : Host.Outcome State Fault Refusal :=
  let k := sl.val
  .next (s.setLos k (s.bit (F.PSL_STAT.LOS_H k) && !onH) (s.bit (F.PSL_STAT.LOS_L k) && !onL))

/-- PRESENCE_ABSENT: the presence input of partner `e` shows absence, from READY on (R250, R587, R593). [DEDUCED 42] -/
def execPresenceAbsent (partner : Fin 64) (s : State) : Host.Outcome State Fault Refusal :=
  let e := partner.val
  let g := s.ptByte e 14
  if !(s.dev == .ready || s.dev == .loaded || s.dev == .fault) || decide (24 ≤ g) || s.fld (F.AUX_GPIO_CFG.FUNC g) != 2 then .next s
  else .next (s.partnerLoss e)

/-- PSL_PARTNER_DROP: the partner is declared lost (R250). -/
def execPslPartnerDrop (_req : Requester) (partner : Fin 64) (s : State) : Host.Outcome State Fault Refusal := .next (s.partnerLoss partner)

/-- The slices of quadrant `q`. -/
def quadSlices (q : Nat) : List Nat := (List.range 64).map (fun i => 64 * q + i)

/-- Quadrant `q` is switched off: its slices are OFF (R242, R253). -/
def State.quadOff (s : State) (q : Nat) : State :=
  let s1 := s.setFlds [(F.PSL_QCTRL.PWR_EN q, 0), (F.PSL_QSTAT.READY q, 0), (F.PSL_QSTAT.PWR_GOOD q, 0),
    (⟨R.PWR_DOM_STAT, 12 + q, 1⟩, 0)]
  let s2 := (quadSlices q).foldl (fun t k => t.setSlice k { (t.slice k).safe with cal := false, frames := [] }) s1
  { s2 with pwr := { s2.pwr with quadUp := s2.pwr.quadUp.filter (· != q) } }

/-- PWR_EN_WRITE: a quadrant is powered, switched off, or the write refused (R253, R254). PWR_GOOD, which comes within 50 µs of the write, comes with
it, or, while PWR_DOM_CMD is switching another domain, when that switch ends (R602). [DEDUCED 73; DESIGN CHOICE 124] -/
def execPwrEnWrite (req : Requester) (q : Fin 4) (en : Bool) (s : State) : Host.Outcome State Fault Refusal :=
  let k := q.val
  if s.f128 && decide (2 ≤ k) then .next s
  else if !s.allows req .pwrEn || (!en && (s.fld F.BIST_STAT.NF == 1 || (quadSlices k).any (fun x => (s.slice x).cal || s.sliceBusy x))) then
    .next ((s.setFld (F.PSL_QSTAT.STATUS k) C.STATE_REFUSED).logRefused req (R.PSL_QCTRL k) 0)
  else
    let s1 := s.setFld (F.PSL_QSTAT.STATUS k) 0
    .next (if en then
        if s1.pwr.switching.isSome then s1.setFld (F.PSL_QCTRL.PWR_EN k) 1 else s1.setFlds [(F.PSL_QCTRL.PWR_EN k, 1), (F.PSL_QSTAT.PWR_GOOD k, 1)]
      else s1.quadOff k)

/-- The PLL of CLK_STAT that clocks quadrant `q`: 1 PSK-A, 2 PSK-B (R12, R600). -/
def pskOf (q : Nat) : Nat := 1 + q / 2

/-- QUADRANT_READY: a powered quadrant's serialisers have locked to PSK (R253). [DEDUCED 41] -/
def execQuadrantReady (q : Fin 4) (s : State) : Host.Outcome State Fault Refusal :=
  let k := q.val
  if s.bit (F.PSL_QSTAT.PWR_GOOD k) && !s.bit (F.PSL_QSTAT.READY k) && bitOf (s.fld F.CLK_STAT.LOCK) (pskOf k) then
    .next (({ s with pwr := { s.pwr with quadUp := insertSorted k s.pwr.quadUp } }).setFlds
      [(F.PSL_QSTAT.READY k, 1), (⟨R.PWR_DOM_STAT, 12 + k, 1⟩, 1)])
  else .next s

/-- QUADRANT_TIMEOUT: a quadrant has not become READY in time (R253). [DEDUCED 41] -/
def execQuadrantTimeout (q : Fin 4) (s : State) : Host.Outcome State Fault Refusal :=
  let k := q.val
  if s.bit (F.PSL_QCTRL.PWR_EN k) && !s.bit (F.PSL_QSTAT.READY k) && !s.pwr.quadUp.contains k then
    .next (((s.quadOff k).setFld (F.PSL_QSTAT.STATUS k) C.PWR_DOMAIN_TIMEOUT).report C.PWR_DOMAIN_TIMEOUT (srcDomain (12 + k)) 0)
  else .next s

end Sys2Proof.Machine
end

