-- ==== Sys2Proof/Machine/FcqExec.lean ====
section
/-! DEFINITION. The commands and events of the fail capture and queue block (R264 to R304). -/

namespace Sys2Proof.Machine

/-- FAIL_PACKET_HANDOVER: the oldest fail packet of X-cell `x` reaches its capture queue in tick T + 2 and is placed or refused (R266, R268 to R270). -/
def execFailPacketHandover (x : Fin 128) (s : State) : Host.Outcome State Fault Refusal :=
  match s.xPkt x with
  | [] => .next s
  | p :: ps =>
    let s1 := s.setXPkt x ps
    match p with
    | .fail t e o _ _ _ _ => .next (s1.handOver x t e o p)
    | _ => .next s1

/-- CREDIT_REFILL (R264, R265). -/
def execCreditRefill (x : Fin 128) (s : State) : Host.Outcome State Fault Refusal := .next (s.refill x)

/-- SATURATION_EXIT (R270). -/
def execSaturationExit (x : Fin 128) (s : State) : Host.Outcome State Fault Refusal :=
  .next (if s.satExitDue x then s.endEpisode x false else s)

/-- Steps 2 and 3 of a flush, once the drain has reached WPTR (R277): the open runs and a COUNT record per source, then, once no write is under way, the END
record, whose WTOTAL and counts are then settled. [DEDUCED 44] -/
def State.drainEnd (s : State) (k : Nat) : State :=
  if !(s.queue k).counted then
    let s1 := (s.closeRuns k).writeCounts k
    s1.setQueue k { s1.queue k with counted := true }
  else if (s.queue k).writes.isEmpty then
    let s1 := s.pushRecord k (s.endRecord k)
    s1.setQueue k { s1.queue k with ended := true }
  else s

/-- DRAIN_RECORD: the drain takes the packet at RPTR (R286 to R288), or goes on with the flush when none is left. -/
def execDrainRecord (k : Fin 64) (s : State) : Host.Outcome State Fault Refusal :=
  let q := s.queue k
  if q.st = .off ∨ q.st = .reset then .next s
  else match q.pktAt q.rptr with
    | some p =>
      let s1 := s.drainPkt k p
      .next ((s1.setQueue k ((s1.queue k).rAdvance p.items)).freeRead k)
    | none => .next (if q.st = .flush ∧ q.rptr = q.wptr ∧ q.inFlight = [] ∧ !q.ended then s.drainEnd k else s)

/-- RECORD_WRITE_DONE: the oldest record under way is placed in memory or not (R285, R290, R291); the header follows a COUNT record (R283). -/
def execRecordWriteDone (k : Fin 64) (status : Half) (s : State) : Host.Outcome State Fault Refusal :=
  let q := s.queue k
  match q.writes with
  | [] => .next s
  | bs :: rs =>
    let s1 := (s.setQueue k { q with writes := rs }).writeRecord k bs status.toNat
    .next (if recordKind (padded bs).2 = 4 then s1.writeHeader k else s1)

/-- COUNT_PERIOD: COUNT records in a tick that is a multiple of 2^(CP + 10), whatever an enabled queue does (R289). -/
def execCountPeriod (k : Fin 64) (s : State) : Host.Outcome State Fault Refusal :=
  let cp := s.fld (F.FCQ_Q_CFG.CP k)
  if cp ≠ 0 ∧ s.tick.toNat % 2 ^ (cp + 10) = 0 ∧ (s.queue k).st ≠ .off then .next (s.writeCounts k) else .next s

/-- Step 1 of a flush: every saturated source of the queue ends its episode (R277). -/
def State.flushBegin (s : State) (k : Nat) : State :=
  let s1 := s.setQueue k { s.queue k with st := .flush, leftAt := none, counted := false, ended := false }
  (s1.queueSources k).foldl (fun t x => if (t.source x).saturated then t.endEpisode x true else t) s1

/-- QUEUE_FLUSH_BEGIN: from tick q + 8 (R274, R276). -/
def execQueueFlushBegin (k : Fin 64) (s : State) : Host.Outcome State Fault Refusal :=
  match (s.queue k).leftAt with
  | some t => if (s.queue k).st = .run ∧ t.toNat + 8 ≤ s.tick.toNat then .next (s.flushBegin k) else .next s
  | none => .next s

/-- FLUSH_DONE: every record is written, and the tap, where it is enabled, has read everything (R277); the lanes that no queue taps any more
settle (R326). -/
def execFlushDone (k : Fin 64) (s : State) : Host.Outcome State Fault Refusal :=
  let q := s.queue k
  if q.st = .flush ∧ q.ended ∧ q.writes = [] ∧ q.inFlight = [] ∧ q.rptr = q.wptr ∧ (!s.bit (F.FCQ_Q_CFG.TAP_EN k) ∨ q.tptr = q.wptr) then
    let s1 := s.writeHeader k
    .next ((s1.setQueue k { s1.queue k with st := .ready }).setFld (F.FCQ_Q_STAT.SEEN k) (s1.fld (F.FCQ_Q_STAT.SEEN k) ||| 2)).settleLanes
  else .next s

/-- Bits [10:9] of the SOURCE of FCQ_PTR_MISMATCH (R542). -/
def ptrCode : PtrId → Nat
  | .wptr => 0
  | .rptr => 1
  | .tptr => 2

/-- The report of FCQ_PTR_MISMATCH: the pointer in SOURCE, both copies in DETAIL (R542, R543). -/
def State.reportPtr (s : State) (src : Nat) (ptr : PtrId) (c1 c2 : Word) : State :=
  s.report C.FCQ_PTR_MISMATCH (src + ptrCode ptr * 2 ^ 9) (c1.toNat * 2 ^ 32 + c2.toNat)

/-- A stream queue enters RESET, and the results that wait for it are dropped (R296, R297, R343). -/
def State.streamReset (s : State) (j : Nat) : State := (s.resetStream j).resultQueueGone j C.FCQ_PTR_MISMATCH

/-- A capture queue whose two copies of pointer `ptr` hold `c1` and `c2` (R295). -/
def CapQueue.withCopies (q : CapQueue) (ptr : PtrId) (c1 c2 : Nat) : CapQueue :=
  match ptr with
  | .wptr => { q with wptr := c1, wptr2 := c2 }
  | .rptr => { q with rptr := c1, rptr2 := c2 }
  | .tptr => { q with tptr := c1, tptr2 := c2 }

/-- A stream queue whose two copies of pointer `ptr` hold `c1` and `c2` (R295); it has no TPTR. -/
def StreamQueue.withCopies (q : StreamQueue) (ptr : PtrId) (c1 c2 : Nat) : StreamQueue :=
  match ptr with
  | .wptr => { q with wptr := c1, wptr2 := c2 }
  | .rptr => { q with rptr := c1, rptr2 := c2 }
  | .tptr => q

/-- Whether the two copies of every pointer of a capture queue agree (R295). -/
def CapQueue.copiesAgree (q : CapQueue) : Bool := q.wptr == q.wptr2 && q.rptr == q.rptr2 && q.tptr == q.tptr2

/-- Whether the two copies of every pointer of a stream queue agree (R295). -/
def StreamQueue.copiesAgree (q : StreamQueue) : Bool := q.wptr == q.wptr2 && q.rptr == q.rptr2

/-- FCQ_PTR_MISMATCH: the copies of a pointer hold `copy1` and `copy2`, and where the comparison finds that they disagree the queue enters RESET (R295, R296). -/
def execFcqPtrMismatch (q : QueueId) (ptr : PtrId) (copy1 : Word) (copy2 : Word) (s : State) : Host.Outcome State Fault Refusal :=
  if copy1 = copy2 then .next s
  else match q with
    | .capture k =>
      let v := (s.queue k).withCopies ptr copy1.toNat copy2.toNat
      if v.st = .off ∨ v.st = .reset ∨ v.copiesAgree then .next s
      else .next (((s.setQueue k v).resetQueue k (s.itemsHeld k)).reportPtr (srcQueue k) ptr copy1 copy2)
    | .stream j =>
      let v := (s.stream j).withCopies ptr copy1.toNat copy2.toNat
      if !s.bit (F.FCQ_SQ_CFG.EN j) ∨ v.reset ∨ v.copiesAgree then .next s
      else .next (((s.setStream j v).streamReset j).reportPtr (srcStream j) ptr copy1 copy2)

/-- QUEUE_RESET_DONE: a capture queue writes its reset marker and returns to the state it left, a flush from its first step (R274, R296, R303). -/
def execQueueResetDone (q : QueueId) (s : State) : Host.Outcome State Fault Refusal :=
  match q with
  | .capture k =>
    let v := s.queue k
    if v.st = .reset then
      let s1 := (s.setQueue k { v with st := v.back }).putPkt k (.reset v.resetAt v.discarded (s.queueSite k))
      .next (if v.back = .flush then s1.flushBegin k else s1).settleLanes
    else .next s
  | .stream j => .next (s.setStream j { s.stream j with reset := false })

/-- The offset of a register that R275 protects, and the queue whose state decides. -/
def State.fcqTarget (s : State) : FcqReg → Nat × Nat
  | .qCfg k => (R.FCQ_Q_CFG k, k)
  | .frBase k => (R.FCQ_FR_BASE k, k)
  | .frSize k => (R.FCQ_FR_SIZE k, k)
  | .frBmcfg k => (R.FCQ_FR_BMCFG k, k)
  | .frTbase k => (R.FCQ_FR_TBASE k, k)
  | .srcCfg x => (R.FCQ_SRC_CFG x, s.srcQueueOf x)
  | .srcCred x => (R.FCQ_SRC_CRED x, s.srcQueueOf x)

/-- A queue goes from OFF to READY when its EN reads 1, and back when it reads 0 (R274). -/
def State.queueEnable (s : State) (k : Nat) : State :=
  let q := s.queue k
  let en := s.bit (F.FCQ_Q_CFG.EN k)
  if q.st == .off && en then s.setQueue k { q with st := .ready }
  else if q.st == .ready && !en then s.setQueue k { q with st := .off }
  else s

/-- A write of the bits that `mask` selects to a register at `off` that the state of queue `k` protects (R275); `isCfg` where it is FCQ_Q_CFG. [DEDUCED 46] -/
def State.fcqWrite (s : State) (req : Requester) (off k : Nat) (isCfg : Bool) (v mask : Wide) : State :=
  let st := (s.queue k).st
  if st == .off || st == .ready then
    let s1 := s.writePlain off v mask
    if isCfg then s1.queueEnable k else s1
  else s.logRefused req off 0

/-- FCQ_CONFIG_WRITE (R275). -/
def execFcqConfigWrite (req : Requester) (reg : FcqReg) (value : Wide) (s : State) : Host.Outcome State Fault Refusal :=
  let t := s.fcqTarget reg
  .next (s.fcqWrite req t.1 t.2 (match reg with | .qCfg _ => true | _ => false) value (maskBits 0 64))

/-- A command to FCQ_Q_CMD of queue `k`: its effect and STATUS 0 when it is accepted, else STATE_REFUSED (R304, R551). -/
def State.queueCmd (s : State) (req : Requester) (k op : Nat) (ok : Bool) (act : State → State) : State :=
  if s.allows req .fcq && ok then (act s).setFld (F.FCQ_Q_CMDSTAT.STATUS k) 0
  else (s.setFld (F.FCQ_Q_CMDSTAT.STATUS k) C.STATE_REFUSED).logRefused req (R.FCQ_Q_CMD k) op

/-- Whether queue `k` is in RUN or READY. -/
def State.queueUsable (s : State) (k : Nat) : Bool := (s.queue k).st == .run || (s.queue k).st == .ready

/-- CKPT (R289). [DEDUCED 45] -/
def execCkpt (req : Requester) (k : Fin 64) (s : State) : Host.Outcome State Fault Refusal :=
  .next (s.queueCmd req k 1 (s.queueUsable k) (fun t => t.writeCounts k))

/-- Q_RESET: as R296, without a log (R304). [DEDUCED 45] -/
def execQReset (req : Requester) (k : Fin 64) (s : State) : Host.Outcome State Fault Refusal :=
  .next (s.queueCmd req k 2 ((s.queue k).st == .ready) (fun t => t.resetQueue k (t.itemsHeld k)))

/-- Q_DROP: the tap passes the rest of the packet that it has started to read (R281). [DEDUCED 45] -/
def execQDrop (req : Requester) (k : Fin 64) (s : State) : Host.Outcome State Fault Refusal :=
  .next (s.queueCmd req k 3 (s.bit (F.FCQ_Q_CFG.TAP_EN k)) (fun t => (t.setQueue k (t.queue k).tapDrop).freeRead k))

/-- Replay mark `m` of queue `k` set at WTOTAL; LOST stays as it is (R292, R303). -/
def State.setMark (s : State) (k m : Nat) : State :=
  (s.setFld (F.FCQ_FR_MARK.POS k m) (s.reg (R.FCQ_FR_WTOTAL k)).toNat).setFld (F.FCQ_FR_MARK.VALID k m) 1

/-- MARK_SET (R292). [DEDUCED 46] -/
def execMarkSet (req : Requester) (k : Fin 64) (m : Fin 4) (s : State) : Host.Outcome State Fault Refusal :=
  .next (s.queueCmd req k 4 (s.queueUsable k) (fun t => t.setMark k m))

/-- MARK_CLR (R292). -/
def execMarkClr (req : Requester) (k : Fin 64) (m : Fin 4) (s : State) : Host.Outcome State Fault Refusal :=
  .next (s.queueCmd req k 5 true (fun t => t.setFld (F.FCQ_FR_MARK.VALID k m) 0))

/-- A command to FCQ_SQ_CMD of stream queue `j`: refused by the matrix, ignored in OFF and RESET (R551). -/
def State.streamCmd (s : State) (req : Requester) (j op : Nat) (act : State → State) : State :=
  if !s.allows req .fcq then s.logRefused req (R.FCQ_SQ_CMD j) op
  else if s.bit (F.FCQ_SQ_CFG.EN j) && !(s.stream j).reset then act s else s

/-- The items after the one that ends a packet. -/
def afterPacket : List StreamItem → List StreamItem
  | [] => []
  | i :: is => if i.eop then is else afterPacket is

/-- The consumer of stream queue `j` goes on with `items`, of whose first packet it has read `n` items. -/
def State.streamLeft (s : State) (j : Nat) (items : List StreamItem) (n : Nat) : State :=
  let q := s.stream j
  (s.setStream j { q.rAdvance (q.items.length - items.length) with items := items, readIn := n }).crossings j

/-- Whether the packet at the read pointer of a stream queue is complete (R279): only the last packet of the queue can be incomplete. -/
def StreamQueue.headComplete (q : StreamQueue) : Bool := q.items.any (·.eop)

/-- Whether the item at the read pointer of stream queue `j` is readable (R279, R280): its packet is complete, or CT of its items are written. -/
def State.streamReadable (s : State) (j : Nat) : Bool :=
  let q := s.stream j
  let ct := s.fld (F.FCQ_SQ_CFG.CT j)
  s.bit (F.FCQ_SQ_CFG.EN j) && !q.reset && !q.items.isEmpty && (q.headComplete || (ct != 0 && decide (ct ≤ q.readIn + q.items.length)))

/-- SQ_DROP: the rest of the packet that is being read is discarded, what is not yet written of it as it arrives (R281). -/
def execSqDrop (req : Requester) (j : Fin 8) (s : State) : Host.Outcome State Fault Refusal :=
  .next (s.streamCmd req j 1 (fun t =>
    let q := t.stream j
    if q.readIn = 0 then t
    else
      let t1 := t.streamLeft j (afterPacket q.items) 0
      t1.setStream j { t1.stream j with dropping := q.dropping || !q.headComplete }))

/-- SQ_RESET (R296). -/
def execSqReset (req : Requester) (j : Fin 8) (s : State) : Host.Outcome State Fault Refusal :=
  .next (s.streamCmd req j 2 (fun t => t.streamReset j))

/-- SQ_WM_WRITE: watermarks with LO < HI ≤ 4,096 are taken, others refused (R299). [DEDUCED 46] -/
def execSqWmWrite (req : Requester) (j : Fin 8) (value : Word) (s : State) : Host.Outcome State Fault Refusal :=
  let hi := value.toNat / 2 ^ 16 % 2 ^ 13
  let lo := value.toNat % 2 ^ 13
  if lo < hi ∧ hi ≤ 4096 then .next ((s.setFlds [(F.FCQ_SQ_WM.HI j, hi), (F.FCQ_SQ_WM.LO j, lo)]).crossings j)
  else .next (s.logRefused req (R.FCQ_SQ_WM j) 0)

/-- Firmware writes `items` of its packet into stream queue `j`, the last of it where `last` (R257, R298, R299); those of a dropped packet are discarded as they
arrive (R281). -/
def State.streamWrite (s : State) (j : Nat) (items : List Word) (last : Bool) : State :=
  let q := s.stream j
  let q1 := { q.wAdvance items.length with filling := if last then 0 else q.filling + items.length, dropping := q.dropping && !last }
  if q.dropping then s.setStream j (q1.rAdvance items.length)
  else (s.setStream j { q1 with items := q.items ++ partItems (q.filling == 0) last items }).crossings j

/-- STREAM_PACKET_WRITE: firmware writes the next items of a packet, all of it or a part, when there is room for them, and waits otherwise (R298); a packet has at
most 1,024 items. [DESIGN CHOICE 127] -/
def execStreamPacketWrite (j : Fin 8) (part : PacketPart) (s : State) : Host.Outcome State Fault Refusal :=
  let n := part.items.length
  if !wfItems part.items then .refused .illFormed
  else .next (if s.streamRoom j n && decide ((s.stream j).filling + n ≤ 1024) then s.streamWrite j part.items part.last else s)

/-- The 64 bits of FCQ_SQ_POP for an item (R300). -/
def StreamItem.popBits (i : StreamItem) : Nat := i.data.toNat + 2 ^ 32 + b2n i.sop * 2 ^ 33 + b2n i.eop * 2 ^ 34

/-- SQ_POP: a read of the low half of FCQ_SQ_POP_j returns one item, or the idle item, and latches the high half (R280, R300). -/
def execSqPop (_req : Requester) (j : Fin 8) (s : State) : Host.Outcome State Fault Refusal :=
  let q := s.stream j
  let off := R.FCQ_SQ_POP j
  let answer (t : State) (v : Nat) : State :=
    { t with rdata := BitVec.ofNat 64 v, latch := mset (fun _ => none) off (some (BitVec.ofNat 32 (v / 2 ^ 32))) t.latch }
  if s.bit (F.FCQ_SQ_CFG.CONSUMER j) || !s.streamReadable j then .next (answer s 0)
  else match q.items with
    | [] => .next (answer s 0)
    | i :: is => .next (answer (s.streamLeft j is (if i.eop then 0 else q.readIn + 1)) i.popBits)

/-- A write to FCQ_SQ_CFG_j: EN = 0 empties the queue and holds it OFF, which drops the results that wait for it (R298, R343). -/
def State.sqCfgWrite (s : State) (j : Nat) (v mask : Wide) : State :=
  let s1 := s.writePlain (R.FCQ_SQ_CFG j) v mask
  if s1.bit (F.FCQ_SQ_CFG.EN j) then s1
  else ((s1.setStream j { (s1.stream j).emptied with reset := false }).crossings j).resultQueueGone j C.STATE_REFUSED

/-- The pin STREAM_FC[k] (R301): with EN = 0 its condition counts as deasserted, and POL inverts; FCQ_FC_CFG resets to 0, so the pin is low until it is
written. -/
def State.streamFc (s : State) (k : Nat) : Bool :=
  let cfg := getBits (s.reg R.FCQ_FC_CFG) (8 * k) 8
  let j := cfg % 8
  let cond := match cfg / 16 % 4 with
    | 0 => (s.stream j).high
    | 1 => s.streamReadable j
    | 2 => !(s.stream j).high
    | _ => false
  if s.dev = .off ∨ s.dev = .boot ∨ s.dev = .twilight then false else (bitOf cfg 7 && cond) != bitOf cfg 6

end Sys2Proof.Machine
end

