-- ==== Sys2Proof/Machine/SlvExec.lean ====
section
/-! DEFINITION. The commands and events of the Damson engine (R316 to R349). -/

namespace Sys2Proof.Machine

/-- The packet at TPTR of queue `k` that lane `l` taps, with the tap list's entry and the lane's map (R278, R316). -/
def State.tapPacket (s : State) (l k : Nat) : Option (CapPkt × TapEntry × LaneMap) :=
  let v := s.lane l
  if s.tapLive l k && (s.queue k).st != .reset then
    match (s.queue k).pktAt (s.queue k).tptr, v.taps.find? (fun e => e.queue == k), v.map with
    | some p, some e, some m => some (p, e, m)
    | _, _, _ => none
  else none

/-- TPTR of queue `k` moves past packet `p` (R278). -/
def State.tapAdvance (s : State) (k : Nat) (p : CapPkt) : State :=
  (s.setQueue k ((s.queue k).tAdvance p.items)).freeRead k

/-- COLLECT_PACKET: the collector of lane `l` maps and applies the fail packet that stands at the tap of queue `k` (R316). -/
def execCollectPacket (l : Fin 16) (k : Fin 64) (s : State) : Host.Outcome State Fault Refusal :=
  match s.tapPacket l k with
  | some (.fail t e o x f site ctx, en, m) =>
    .next ((s.collectFail l none m en t.toNat x e o f).tapAdvance k (.fail t e o x f site ctx))
  | _ => .next s

/-- COLLECT_MARKER: a marker packet at the tap marks the regions whose fails it shows lost (R317). -/
def execCollectMarker (l : Fin 16) (k : Fin 64) (s : State) : Host.Outcome State Fault Refusal :=
  match s.tapPacket l k with
  | some (.sat t1 n x c site t2 ui, en, m) =>
    .next ((s.collectSat l none m en x t1.toNat t2.toNat).tapAdvance k (.sat t1 n x c site t2 ui))
  | some (.reset t n site, _, _) => .next ((s.collectReset l none).tapAdvance k (.reset t n site))
  | _ => .next s

/-- Whether region `r` holds a unit. -/
def SlvRgn.holds (r : SlvRgn) : StoreUnit → Bool
  | .rowCells x => r.cells.any (fun c => cellR c == x.toNat)
  | .colCells x => r.cells.any (fun c => cellC c == x.toNat)
  | .mustRow x => r.mustRows.contains x.toNat
  | .mustCol x => r.mustCols.contains x.toNat

/-- Region `r` without a unit (R322): the cells that the unit holds, or its must line, are lost. -/
def SlvRgn.discard (r : SlvRgn) : StoreUnit → SlvRgn
  | .rowCells x => { r with cells := r.cells.filter (fun c => cellR c != x.toNat) }
  | .colCells x => { r with cells := r.cells.filter (fun c => cellC c != x.toNat) }
  | .mustRow x => { r with mustRows := r.mustRows.filter (fun c => c != x.toNat) }
  | .mustCol x => { r with mustCols := r.mustCols.filter (fun c => c != x.toNat) }

/-- SLV_STORE_ECC: a unit with an uncorrectable error is discarded (R322); a solve of its region goes on from phase 1 (R347). [DEDUCED 47] -/
def execSlvStoreEcc (g : Fin 4096) (unit : StoreUnit) (s : State) : Host.Outcome State Fault Refusal :=
  let r := s.srgn g
  if r.spilled || !r.holds unit then .next s
  else .next (((s.setSrgn g { r.discard unit with storeLoss := true }).setFld F.SLV_STAT.ECC_SEEN 1).report C.SLV_STORE_ECC
    (srcSolver r.desc.lane g) 0)

/-- A solver command (R328, R331): ignored while another is in progress, refused while the engine takes none, else carried out; its outcome is
written when it completes. [DEDUCED 48] -/
def State.slvCommand (s : State) (req : Requester) (op : Nat) (act : State → SlvOutcome × State) : State :=
  if s.bit F.SLV_CMD_STAT.BUSY then s.logRefused req R.SLV_CMD op
  else if !accepted .slv s.glbState || !s.bit F.SLV_CTRL.EN then
    (s.setFlds [(F.SLV_CMD_STAT.STATUS, C.STATE_REFUSED), (F.SLV_CMD_STAT.ACTED, 0)]).logRefused req R.SLV_CMD op
  else
    let (o, t) := act s
    let t1 := { t with slv := { t.slv with cmd := some o } }.setFld F.SLV_CMD_STAT.BUSY 1
    if o.status = C.STATE_REFUSED then t1.logRefused req R.SLV_CMD op else t1

/-- A command that ends with a code of the engine's own, logged with its lane and region (R350). -/
def State.slvFail (s : State) (code lane g : Nat) (detail : Option Nat) : SlvOutcome × State :=
  (⟨code, 0, detail⟩, s.report code (srcSolver lane g) 0)

/-- LANE_MAP: the map at SLV_CMD_ARG is read, checked and loaded into lane `l` (R314, R315, R328). [DEDUCED 48] -/
def State.loadMap (s : State) (l status : Nat) : SlvOutcome × State :=
  let v := s.lane l
  let a := (s.reg R.SLV_CMD_ARG).toNat
  let c := memStatus s (solverNi l) a 2368 false status
  let s := if v.collect then s else s.eccSeen (solverNi l) a 2368 false status
  if v.collect then (⟨C.STATE_REFUSED, 0, none⟩, s)
  else if c ≠ 0 then (⟨c, 0, none⟩, s.accLog (solverNi l) a c)
  else
    let (bs, s1) := s.readDpa a 2368
    match (if a % 64 = 0 then parseMap bs else none) with
    | none => s1.slvFail C.SLV_MAP_INVALID l 0 none
    | some m => (⟨0, 0, none⟩, ((s1.setLane l { v with map := some m, taps := [] }).clearLaneCounts l).setReg (R.SLV_LANE_MAP l)
        (s.reg R.SLV_CMD_ARG))

/-- LANE_MAP (R328). [DEDUCED 47] -/
def execLaneMap (req : Requester) (l : Fin 16) (status : Half) (s : State) : Host.Outcome State Fault Refusal :=
  .next (s.slvCommand req 1 (fun t => t.loadMap l status.toNat))

/-- LANE_RESET: a MAPPED lane returns to IDLE (R328). -/
def execLaneReset (req : Requester) (l : Fin 16) (s : State) : Host.Outcome State Fault Refusal :=
  .next (s.slvCommand req 2 (fun t =>
    let v := t.lane l
    if v.map.isSome && !v.collect then
      (⟨0, 0, none⟩, (t.setLane l { v with map := none, taps := [] }).setReg (R.SLV_LANE_MAP l) 0)
    else (⟨C.STATE_REFUSED, 0, none⟩, t)))

/-- The regions REGION to REGION + CNT, capped at 4,095 (R328). -/
def regionRange (g cnt : Nat) : List Nat := ((List.range (cnt + 1)).map (· + g)).filter (fun r => decide (r ≤ 4095))

/-- The address of the descriptor of region `g` (R312). [DEDUCED 50] -/
def State.descAddr (s : State) (g : Nat) : Nat := s.fld F.SLV_RDT_BASE.ADDR * 4096 + 64 * g

/-- The descriptor of region `g` as the engine reads it: the code of a read that fails, SLV_DESC_INVALID with its LANE where it is invalid, else the
descriptor (R312, R313, R350). -/
def State.readDesc (s : State) (g status : Nat) : Nat × RgnDesc :=
  let a := s.descAddr g
  let c := memStatus s (solverNi 0) a 64 false status
  if c ≠ 0 then (c, RgnDesc.zero)
  else match parseDesc (s.dpaBytes a 64) with
    | some d => (0, d)
    | none => (C.SLV_DESC_INVALID, { RgnDesc.zero with lane := fieldAt (s.dpaBytes a 64) 14 1 % 16 })

/-- What keeps region `g` from being opened: its state, or its descriptor. -/
def State.openBad (s : State) (status g : Nat) : Nat :=
  if (s.srgn g).st = .free then (s.readDesc g status).1 else C.STATE_REFUSED

/-- OPEN of the regions `gs`, all or none (R329). -/
def State.openRegions (s0 : State) (status : Nat) (gs : List Nat) : SlvOutcome × State :=
  let s := gs.foldl (fun t g => if (t.srgn g).st = .free then t.eccSeen (solverNi 0) (t.descAddr g) 64 false status else t) s0
  match gs.find? (fun g => s.openBad status g != 0) with
  | some g =>
    let code := s.openBad status g
    if code = C.SLV_DESC_INVALID then s.tookFree.slvFail code (s.readDesc g status).2.lane g (some g)
    else (⟨code, 0, some g⟩, s.tookFree.accLog (solverNi 0) (s.descAddr g) code)
  | none =>
    (⟨0, gs.length, none⟩, (gs.foldl (fun t g => t.setSrgn g { SlvRgn.reset with st := .opened, desc := (s.readDesc g status).2 }) s).tookFree)

/-- OPEN (R329). [DEDUCED 48] -/
def execSlvOpen (req : Requester) (g : Fin 4096) (cnt : Fin 4096) (status : Half) (s : State) : Host.Outcome State Fault Refusal :=
  .next (s.slvCommand req 3 (fun t => t.openRegions status.toNat (regionRange g cnt)))

/-- A command on every region of a range that is in a state it acts on (R330). -/
def State.rangeCmd (s : State) (gs : List Nat) (sel : SlvSt → Bool) (act : State → Nat → State) : SlvOutcome × State :=
  let hit := gs.filter (fun g => sel (s.srgn g).st)
  (⟨if hit = [] then C.STATE_REFUSED else 0, hit.length, none⟩, hit.foldl act s)

/-- CLOSE (R328, R332). -/
def execSlvClose (req : Requester) (g : Fin 4096) (cnt : Fin 4096) (s : State) : Host.Outcome State Fault Refusal :=
  .next (s.slvCommand req 4 (fun t => t.rangeCmd (regionRange g cnt) (· == .opened) State.closeRgn))

/-- SOLVE (R328, R333). -/
def execSlvSolve (req : Requester) (g : Fin 4096) (cnt : Fin 4096) (s : State) : Host.Outcome State Fault Refusal :=
  .next (s.slvCommand req 5 (fun t => t.rangeCmd (regionRange g cnt) (· == .closed) State.queueRgn))

/-- Whether a store re-solve with descriptor `d` may use what the store of region `r` holds (R344). -/
def SlvRgn.storeFits (r : SlvRgn) (d : RgnDesc) : Bool :=
  match r.prev with
  | none => false
  | some p =>
    r.kept && d.rowsM1 == p.rowsM1 && d.colsM1 == p.colsM1 && d.rgs == p.rgs && d.cgs == p.cgs && d.brs == p.brs && d.bcs == p.bcs &&
    decide (d.srAvail ≤ p.srAvail ∧ d.scAvail ≤ p.scAvail ∧ d.nbAvail ≤ p.nbAvail)

/-- Whether the records of queue `k` can be replayed (R345). -/
def State.replayForm (s : State) (k : Nat) : Bool :=
  s.fld (F.FCQ_Q_CFG.FORM k) == 3 || (s.fld (F.FCQ_Q_CFG.FORM k) == 1 && s.fld (F.FCQ_Q_CFG.FIRST_N k) == 0)

/-- A replay of region `g` with descriptor `d` on its lane begins, or is refused (R344, R345). [DEDUCED 49] -/
def State.replayBegin (s : State) (g : Nat) (d : RgnDesc) : SlvOutcome × State :=
  let r := s.srgn g
  let l := r.desc.lane
  let v := s.lane l
  let m := s.fld (F.SLV_LANE_CFG.MARK_NUM l)
  let ks := v.taps.map (·.queue)
  if ks.any (fun k => !s.replayForm k) then s.slvFail C.SLV_REPLAY_FORM l g none
  else match ks.find? (fun k => !s.bit (F.FCQ_FR_MARK.VALID k m)) with
    | some k => (⟨C.FCQ_MARK_LOST, 0, none⟩, s.report C.FCQ_MARK_LOST (srcQueue k) m)
    | none =>
      let srcs := v.taps.map (fun e => ⟨e, s.fld (F.FCQ_FR_MARK.POS e.queue m), (s.reg (R.FCQ_FR_WTOTAL e.queue)).toNat⟩)
      let r1 := { r with st := .replay, desc := d, cells := [], mustRows := [], mustCols := [], spilled := false, failBits := 0,
                         dropped := 0, inputLoss := false, storeLoss := false, early := false, kept := false, resolve := true,
                         replayed := true }
      (⟨0, 1, none⟩, (s.setSrgn g r1).setLane l { v with replays := v.replays ++ [⟨g, v.map, m, srcs, false⟩] })

/-- RESOLVE of region `g` (R344). -/
def State.resolveRgn (s0 : State) (g status : Nat) : SlvOutcome × State :=
  let s := s0.eccSeen (solverNi 0) (s0.descAddr g) 64 false status
  let r := s.srgn g
  let (c, d) := s.readDesc g status
  if c ≠ 0 ∧ c ≠ C.SLV_DESC_INVALID then (⟨c, 0, none⟩, s.accLog (solverNi 0) (s.descAddr g) c)
  else if c ≠ 0 ∨ d.lane ≠ r.desc.lane then s.slvFail C.SLV_DESC_INVALID r.desc.lane g none
  else if bitOf (s.reg R.SLV_CMD_ARG).toNat 0 then s.replayBegin g d
  else if r.storeFits d then (⟨0, 1, none⟩, (s.setSrgn g { r with desc := d, resolve := true, replayed := false }).queueRgn g)
  else s.slvFail C.SLV_STORE_STALE r.desc.lane g none

/-- RESOLVE (R328, R344). [DEDUCED 49] -/
def execSlvResolve (req : Requester) (g : Fin 4096) (cnt : Fin 4096) (status : Half) (s : State) : Host.Outcome State Fault Refusal :=
  .next (s.slvCommand req 6 (fun t =>
    if cnt.val ≠ 0 ∨ (t.srgn g).st ≠ .solved then (⟨C.STATE_REFUSED, 0, none⟩, t)
    else
      let r := t.resolveRgn g status.toNat
      (r.1, r.2.tookFree)))

/-- Region `g` is taken from its lane: out of the queue, its solve ended and its waiting result abandoned, or its replay ended; it becomes SOLVED
with its previous result when it had one, else CLOSED (R328, R343). [DEDUCED 49] -/
def State.abortRgn (s : State) (g : Nat) : State :=
  let r := s.srgn g
  let v := s.lane r.desc.lane
  let v1 := match r.st with
    | .queued => { v with queue := v.queue.filter (fun x => x != g) }
    | .solving => { v with solving := none, waiting := none }
    | .replay => { v with replays := v.replays.filter (fun x => x.region != g) }
    | _ => v
  (s.setLane r.desc.lane v1).setSrgn g { r with st := if r.cls = 0 then .closed else .solved, resolve := false, replayed := false }

/-- ABORT (R328). -/
def execSlvAbort (req : Requester) (g : Fin 4096) (cnt : Fin 4096) (s : State) : Host.Outcome State Fault Refusal :=
  .next (s.slvCommand req 7 (fun t => t.rangeCmd (regionRange g cnt) (fun x => x == .queued || x == .solving || x == .replay) State.abortRgn))

/-- Region `g` is released: its units freed, FREE (R328). -/
def State.releaseRgn (s : State) (g : Nat) : State :=
  let t := s.freeUnits g
  t.setSrgn g { t.srgn g with st := .free, kept := false }

/-- RELEASE (R328). -/
def execSlvRelease (req : Requester) (g : Fin 4096) (cnt : Fin 4096) (s : State) : Host.Outcome State Fault Refusal :=
  .next (s.slvCommand req 8 (fun t => t.rangeCmd (regionRange g cnt) (fun x => x == .opened || x == .closed || x == .solved) State.releaseRgn))

/-- SLV_CMD_COMPLETE: the command in progress writes its outcome (R328 to R330), which answers the host command that gave it (R577). -/
def execSlvCmdComplete (s : State) : Host.Outcome State Fault Refusal :=
  match s.slv.cmd with
  | none => .next s
  | some o =>
    let s1 := ({ s with slv := { s.slv with cmd := none } }.setFlds
      [(F.SLV_CMD_STAT.STATUS, o.status), (F.SLV_CMD_STAT.BUSY, 0), (F.SLV_CMD_STAT.ACTED, o.acted)]).answerCmds 6 (fun _ => some (o.status, o.acted))
    .next (match o.detail with
      | some g => s1.setFld F.SLV_CMD_DETAIL.REGION g
      | none => s1)

/-- SOLVE_BEGIN: an idle lane takes its oldest QUEUED region (R333). -/
def execSolveBegin (l : Fin 16) (s : State) : Host.Outcome State Fault Refusal :=
  let v := s.lane l
  match v.solving, v.queue with
  | none, g :: gs => .next ((s.setLane l { v with queue := gs, solving := some (g, s.tick) }).setSrgn g { s.srgn g with st := .solving })
  | _, _ => .next s

/-- SOLVE_COMPLETE: the solve ends with its result (R334 to R342), which is written to memory and goes to the stream queue (R340, R343). -/
def execSolveComplete (l : Fin 16) (status : Half) (s : State) : Host.Outcome State Fault Refusal :=
  let v := s.lane l
  match v.solving, v.waiting with
  | some (g, start), none =>
    let r := s.srgn g
    let a := solveRegion r.desc r.cells r.mustRows r.mustCols r.early (r.inputLoss || r.storeLoss)
    let bytes := s.slvRecord l g start a
    let s1 := if a.uncov.isNone then s.tookFree else s
    let s2 := if a.budget then s1.report C.SLV_BUDGET_EXHAUSTED (srcSolver l g) 0 else s1
    let addr := r.desc.resultAddr
    let c := memStatus s (solverNi l) addr bytes.length true status.toNat
    let s2 := if addr = 0 then s2 else s2.eccSeen (solverNi l) addr bytes.length true status.toNat
    let s3 := if addr = 0 then s2 else if c = 0 then s2.unitWrite (solverNi l) addr bytes else (s2.accLog (solverNi l) addr c).report C.SLV_RESULT_ERR (srcSolver l g) c
    if s.bit F.SLV_CFG.RSQ_EN then .next ((s3.setLane l { s3.lane l with waiting := some ⟨s.fld F.SLV_CFG.RSQ, g, a.cls, bytes⟩ }).tryResult l)
    else .next (s3.finishSolve l g a.cls)
  | _, _ => .next s

/-- RESULT_ENQUEUE: a waiting result finds room, or its queue is OFF or in RESET (R343). -/
def execResultEnqueue (l : Fin 16) (s : State) : Host.Outcome State Fault Refusal := .next (s.tryResult l)

/-- The status with which the records of the listed queues are read: the first code that a read ends with. -/
def State.replayStatus (s : State) (l status : Nat) (qs : List ReplaySrc) : Nat :=
  match (qs.filter (fun q => decide (q.start < q.fin))).map (fun q =>
      memStatus s (solverNi l) (s.frBase q.tap.queue + 0x1000) (s.frArea q.tap.queue) false status) with
  | [] => 0
  | cs => (cs.find? (fun c => c != 0)).getD 0

/-- Every listed queue's records applied to the region of replay `r`, with the map, t0 and r that it started with (R345). -/
def State.replayAll (s : State) (l : Nat) (r : SlvReplay) : State :=
  match r.map with
  | some m => r.srcs.foldl (fun t q => State.replayRecords l r.region m q.tap ((q.fin - q.start) / 16 + 1) q.start q.fin t) s
  | none => s

/-- REPLAY_COMPLETE: the records of the lane's oldest replay have been read; the region is queued, or returns to SOLVED when a read failed or a mark was lost
(R345, R347). -/
def execReplayComplete (l : Fin 16) (status : Half) (s : State) : Host.Outcome State Fault Refusal :=
  let v := s.lane l
  match v.replays with
  | [] => .next s
  | r :: rs =>
    let g := r.region
    let c := s.replayStatus l status.toNat r.srcs
    let s0 := r.srcs.foldl (fun t q => if q.start < q.fin then
      t.eccSeen (solverNi l) (t.frBase q.tap.queue + 0x1000) (t.frArea q.tap.queue) false status.toNat else t) s
    let s1 := s0.setLane l { v with replays := rs }
    if c = 0 ∧ !r.lost ∧ r.srcs.all (fun q => s.bit (F.FCQ_FR_MARK.VALID q.tap.queue r.mark)) = true then
      .next ((s1.replayAll l r).tookFree.queueRgn g)
    else
      let s2 := s1.setSrgn g { s1.srgn g with st := .solved, kept := false, resolve := false, replayed := false }
      .next (if c = 0 then s2 else s2.report C.SLV_REPLAY_ERR (srcSolver l g) c)

/-- SLV_CTRL_WRITE: EN may be cleared only while the engine holds nothing (R348). -/
def execSlvCtrlWrite (req : Requester) (en : Bool) (s : State) : Host.Outcome State Fault Refusal :=
  let idle := s.slv.lanes.all (fun e => e.2.map.isNone) && s.slv.rgns.all (fun e => e.2.st == .free)
  if en || idle then .next (s.setFld F.SLV_CTRL.EN (b2n en)) else .next (s.logRefused req R.SLV_CTRL 0)

/-- SLV_LANE_CFG_WRITE (R349). -/
def execSlvLaneCfgWrite (req : Requester) (l : Fin 16) (value : Word) (s : State) : Host.Outcome State Fault Refusal :=
  if (s.lane l).collect then .next (s.logRefused req (R.SLV_LANE_CFG l) 0)
  else .next (s.writePlain (R.SLV_LANE_CFG l) (value.setWidth 64) (maskBits 0 32))

end Sys2Proof.Machine
end

