-- ==== Sys2Proof/Machine/NocOps.lean ====
section
/-! DEFINITION. Requests and their routes (R357, R366, R371), the decoding of a channel-local address (R388), the error correction of a memory channel
(R383, R384) and the snoop filter (R391). -/

namespace Sys2Proof.Machine

/-- The request of NI `ni` and tag `tag` ends at its block with `status` and data (R355). -/
def State.nocResult (s : State) (ni tag status : Nat) (data : List Byte) : State :=
  { s with noc := { s.noc with results := mset (fun _ => ⟨0, []⟩) (256 * ni + tag) ⟨status, data⟩ s.noc.results } }

/-- DETAIL of a report about a request (R543): the DPA and the requesting NI. -/
def reqDetail (ni a : Nat) : Nat := a % 2 ^ 48 + ni * 2 ^ 48

/-- The base urgency of an NI's class (R366). -/
def baseUrgency (ni : Nat) : Nat :=
  if ni < 128 then 5
  else if ni < 144 then 3
  else if ni < 152 then 4
  else if ni = 152 then 2
  else if ni < 157 then 3
  else if 168 ≤ ni ∧ ni < 171 then 2
  else if ni = 174 ∨ ni = 175 then 3
  else 1

/-- Whether two byte ranges touch one 64-byte line. -/
def sameLine (a n b m : Nat) : Bool := decide (a / 64 ≤ (b + m - 1) / 64) && decide (b / 64 ≤ (a + n - 1) / 64)

/-- The route on which NI `ni` injects a request to NI `dst` (R371): the primary, or a valid alternate where the primary crosses a withdrawn router, or is not
valid, and the alternate crosses none; none where neither is valid. -/
def State.injectRoute (s : State) (ni dst : Nat) : Option (Wide × Bool) :=
  let pri := s.route ni dst false
  let alt := s.route ni dst true
  if routeValid alt && (s.crossesWithdrawn ni pri || !routeValid pri) && !s.crossesWithdrawn ni alt then some (alt, true)
  else if routeValid pri then some (pri, false)
  else if routeValid alt then some (alt, true)
  else none

/-- The packet of a request of NI `ni` on the route of word `w` (R356). -/
def requestPacket (ni dst tag addr len urg : Nat) (k : ReqKind) (w : Wide) (alt : Bool) : NocPkt :=
  newPacket ni dst w alt urg k.typ ni tag (requestWord addr len)

/-- A request as its NI takes it, with its packet. -/
def newReq (ni tag dst addr len : Nat) (k : ReqKind) (data : List Byte) (p : NocPkt) : NocReq :=
  { ni := ni, tag := tag, kind := k, addr := addr, len := len, dst := dst, data := data, pkt := p, resent := false, arrUrg := 0,
    stamp := none, snooped := [], snoopOf := none, cascade := none, dead := false }

/-- A request in the retry buffer of its NI, its packet before the mesh. -/
def State.addReq (s : State) (q : NocReq) : State := { s with noc := { s.noc with reqs := s.noc.reqs ++ [q] } }

/-- The parts of a channel-local address (R388). -/
structure LocalAddr where
  byte  : Nat
  sub   : Nat
  group : Nat
  burst : Nat
  bank  : Nat
  row   : Nat
deriving DecidableEq, Repr

/-- A channel-local address decoded (R388). -/
def localDecode (l : Nat) : LocalAddr :=
  { byte := l % 64, sub := l / 64 % 2, group := l / 128 % 8, burst := l / 1024 % 64, bank := l / 65536 % 4, row := l / 262144 % 131072 }

/-- What the decoder makes of a burst (R383): no error, symbols corrected with the component of the first, an uncorrectable error, or an error that
nothing shows. -/
inductive MemOutcome where
  | clean
  | corrected (n comp : Nat)
  | uncorrectable
  | undetected
deriving DecidableEq, Repr

/-- The positions in a codeword of the symbols in error, beat by beat (R383). -/
def symbolsIn (fs : List MemFault) : List Nat := (List.range 80).filter (fun i => fs.any (fun f => 5 * f.beat.val + f.comp.val == i))

/-- The erasure that acts on the burst at local address `l` of channel `c` (R383, R388). -/
def State.erasureAt (s : State) (c l : Nat) : Option Nat :=
  match mget (fun _ => (none : Option (Nat × Nat))) c s.noc.erase with
  | some (sub, comp) => if (localDecode l).sub = sub then some comp else none
  | none => none

/-- The decoding of the burst at local address `l` of channel `c` with the listed symbols in error (R383): an erased component is corrected whole and any
other error beside it, like more than 12 errors without an erasure, is detected or not as a free value says. [DEDUCED 28] -/
def State.burstOutcome (s : State) (c l : Nat) (fs : List MemFault) : MemOutcome :=
  let open_ := if Config.unstated s.free 383 % 2 = 0 then MemOutcome.uncorrectable else .undetected
  match s.erasureAt c l with
  | some e => if (symbolsIn fs).all (fun i => i % 5 == e) then .clean else open_
  | none =>
    match symbolsIn fs with
    | [] => .clean
    | i :: is => if is.length < 4 then .corrected (is.length + 1) (i % 5) else if is.length < 12 then .uncorrectable else open_

/-- One 64-byte line, line `i` counted from that of DPA `a`, of the access of `q` at attached DPA `a` (R384): the state, whether the line was uncorrectable, and
the bytes of it that a read delivers. A line that is not written whole is read first. [DEDUCED 28] -/
def State.serveLine (s : State) (q : NocReq) (a i : Nat) (fs : List MemFault) : State × Bool × List Byte :=
  let base := (a / 64 + i) * 64
  let lo := max a base
  let hi := min (a + q.len) (base + 64)
  let c := (dpaChannel s base).1
  let l := (dpaChannel s base).2
  let reads := !q.write || lo != base || hi != base + 64
  let new := (q.data.drop (lo - a)).take (hi - lo)
  let put (t : State) : State × Bool × List Byte := if q.write then (t.setDpaBytes lo new, false, []) else (t, false, t.dpaBytes lo (hi - lo))
  match s.burstOutcome c l fs with
  | .clean => put s
  | .corrected n comp => put (if reads then s.memCe c l q.ni n comp false else s)
  | .uncorrectable => if reads then ((s.memUe c l q.ni false).tookFree, true, []) else put s
  | .undetected =>
    if !reads then put s
    else
      let bs := s.openBytes 8192 64
      if q.write then ((((s.setDpaBytes base bs).setDpaBytes lo new)).tookFree, false, []) else (s.tookFree, false, bs.take (hi - lo))

/-- The lines `i` and above of the access, `n` of them: the state, whether one was uncorrectable, and the bytes read. -/
def State.serveLines (s : State) (q : NocReq) (a : Nat) (faults : List (Fin 5 × MemFault)) (i : Nat) : Nat → State × Bool × List Byte
  | 0 => (s, false, [])
  | n + 1 =>
    let r := s.serveLine q a i ((faults.filter (fun f => f.1.val == i)).map (·.2))
    let t := r.1.serveLines q a faults (i + 1) n
    (t.1, r.2.1 || t.2.1, r.2.2 ++ t.2.2)

/-- The lines of request `q` that the cache of a core other than the requester holds, as line and core (R391). -/
def State.heldLines (s : State) (q : NocReq) (a : Nat) : List (Nat × Nat) :=
  s.noc.filter.filter (fun e => decide (lineKey a ≤ e.1) && decide (e.1 ≤ lineKey (a + q.len - 1)) && 169 + e.2 != q.ni)

/-- The lowest tag of NI `ni` that no outstanding request carries. -/
def State.freeTag (s : State) (ni : Nat) : Nat :=
  ((List.range 256).find? (fun t => s.noc.reqs.all (fun r => !(r.ni == ni && r.tag == t)))).getD 0

/-- Whether request `q` waits for a snoop of it that is outstanding (R391). -/
def State.snooping (s : State) (q : NocReq) : Bool := s.noc.reqs.any (fun r => !r.dead && r.snoopOf == some (q.ni, q.tag))

/-- A sticky bit of NOC_STAT and a count of NOC_ERR_CNT. -/
def State.nocCount (s : State) (seen count : Fld) : State := (s.setFld seen 1).addSat count 1

/-- Whether the NI must wait before it takes a new request: 64 are outstanding, one has this tag, or one touches a line of it (R355, R357). -/
def State.nocWaits (s : State) (ni tag a n : Nat) : Bool :=
  let mine := s.noc.reqs.filter (fun r => r.ni == ni && !r.dead)
  decide (64 ≤ mine.length) || s.noc.reqs.any (fun r => r.ni == ni && r.tag == tag) || mine.any (fun r => sameLine r.addr r.len a n)

/-- A request fails because neither route reaches its destination (R371). -/
def State.unavailable (s : State) (ni tag a : Nat) : State :=
  ((s.nocResult ni tag C.ROUTE_UNAVAILABLE []).nocCount F.NOC_STAT.UNAVAIL_SEEN F.NOC_ERR_CNT.UNAVAIL).report C.ROUTE_UNAVAILABLE (srcNi ni)
    (reqDetail ni a)

/-- Channel `c` snoops core `e.2` for line `e.1` on behalf of request `q` (R391): an SNP_CLN for a read, an SNP_INV for a write, at the URG of the request, once the channel's NI can
take it (R355, R357). With the core's domain fenced, the proxy answers that no copy is held; with the channel's own fenced, the snoop ends with DOMAIN_OFF (R374). [DESIGN CHOICE 131] -/
def State.snoopLine (s : State) (c : Nat) (q : NocReq) (e : Nat × Nat) : State :=
  let ni := 160 + c
  let dst := 169 + e.2
  let k : ReqKind := if q.write then .snpInv else .snpCln
  let t := s.freeTag ni
  let q1 := { q with snooped := q.snooped ++ [e] }
  if s.nocWaits ni t (64 * e.1) 64 then s
  else if s.fenced 2 then { s with noc := { s.noc with filter := s.noc.filter.filter (fun x => x != e) } }
  else if s.fenced (niDomain ni) then (s.putReq q1).nocResult ni t C.DOMAIN_OFF []
  else
    match s.injectRoute ni dst with
    | none => (s.putReq q1).unavailable ni t (64 * e.1)
    | some (w, alt) =>
      (s.putReq q1).addReq { newReq ni t dst (64 * e.1) 64 k [] (requestPacket ni dst t (64 * e.1) 64 q.arrUrg k w alt) with
        snoopOf := some (q.ni, q.tag) }

/-- The snoops that request `q` at channel `c` still needs, one at a time for each line (R357, R391). -/
def State.snoopFor (s : State) (c : Nat) (q : NocReq) : State :=
  match s.attachedDpa q.addr q.len with
  | none => s
  | some a =>
    match (s.heldLines q a).find? (fun e => !q.snooped.contains e) with
    | some e => if s.snooping q then s else s.snoopLine c q e
    | none => s

/-- Whether a snoop of request `q` is outstanding or still to be sent (R391). -/
def State.waitsSnoop (s : State) (q : NocReq) (a : Nat) : Bool := s.snooping q || (s.heldLines q a).any (fun e => !q.snooped.contains e)

/-- The patrol read of the line at local address `l` of channel `c`, with the listed symbols in error: corrected in its turn, or left unchanged where it is uncorrectable (R383,
R385). -/
def State.scrubLine (s : State) (c l : Nat) (faults : List MemFault) : State :=
  match s.burstOutcome c l faults with
  | .corrected n comp => s.memCe c l 0 n comp true
  | .uncorrectable => (s.memUe c l 0 true).tookFree
  | .clean => s
  | .undetected => s.tookFree

/-- Whether request `q` at attached DPA `a` touches the line at local address `l` of channel `c`. -/
def State.touchesLocal (s : State) (c l : Nat) (q : NocReq) (a : Nat) : Bool :=
  (List.range ((a + q.len - 1) / 64 - a / 64 + 1)).any (fun i => dpaChannel s ((a / 64 + i) * 64) == (c, l / 64 * 64))

/-- The requests that have reached channel `c` and wait there, in their order of arrival, with their attached DPA. -/
def State.atChannel (s : State) (c : Nat) : List (NocReq × Nat) :=
  (s.noc.reqs.filter (fun q => q.unserved && q.stamp.isSome && q.cascade.isNone)).filterMap (fun q =>
    match s.attachedDpa q.addr q.len with
    | some a => if (dpaChannel s a).1 = c then some (q, a) else none
    | none => none)

/-- Whether request `x` goes before request `y` at a controller (R367): requests that touch one line in their order of arrival, others by URG and then arrival. -/
def goesFirst (x y : NocReq × Nat) : Bool :=
  if sameLine x.2 x.1.len y.2 y.1.len then decide (x.1.stamp.getD 0 < y.1.stamp.getD 0)
  else decide (y.1.pkt.urg < x.1.pkt.urg) || (x.1.pkt.urg == y.1.pkt.urg && decide (x.1.stamp.getD 0 < y.1.stamp.getD 0))

/-- The request that channel `c` serves next (R367, R391): of those that wait for no snoop and stand behind no earlier one on a line of theirs, the one of
the highest URG, the first to arrive among equals. -/
def State.nextAt (s : State) (c : Nat) : Option (NocReq × Nat) :=
  let all := s.atChannel c
  let free := all.filter (fun x => !s.waitsSnoop x.1 x.2 &&
    !all.any (fun y => sameLine x.2 x.1.len y.2 y.1.len && decide (y.1.stamp.getD 0 < x.1.stamp.getD 0)))
  free.find? (fun x => free.all (fun y => (y.1.ni == x.1.ni && y.1.tag == x.1.tag) || goesFirst x y))

end Sys2Proof.Machine
end

