-- ==== Sys2Proof/Machine/NocExec.lean ====
section
/-! DEFINITION. The commands and events of the on-chip network (R355 to R376, R394). -/

namespace Sys2Proof.Machine

/-- A flit of request `q` or of its completion failed its parity check at router `r` (R359). -/
def State.linkError (s : State) (q : NocReq) (r : Nat) : State :=
  (s.nocCount F.NOC_STAT.LINK_SEEN F.NOC_ERR_CNT.LINK).report C.NOC_LINK_ERR (srcRouter r) (reqDetail q.ni q.addr)

/-- Request `q` is injected, with a parity error on its way or without (R359): one in its header makes router `r` discard the packet, one in another flit
poisons it; a router that the packet does not enter finds none. -/
def State.inject (s : State) (q : NocReq) (link : LinkFault) : State :=
  match link with
  | .header r =>
    if q.pkt.entered.contains r.val then ((s.addReq { q with pkt := { q.pkt with lost := true } }).linkError q r).settle else (s.addReq q).settle
  | .body r => if q.pkt.entered.contains r.val then ((s.addReq { q with pkt := { q.pkt with poison := true } }).linkError q r).settle else (s.addReq q).settle
  | .none | .host _ => (s.addReq q).settle

/-- NOC_REQUEST: an NI takes a request of its block and injects it, or completes it at once where the address, its rights, a fence or the channel
allow no access, or no route is valid (R355 to R357, R359, R371, R374, R381, R386, R390). [DEDUCED 52] -/
def execNocRequest (ni : Fin 177) (tag : Byte) (body : RequestBody) (addr : BitVec 48) (len : Fin 257) (s : State) :
    Host.Outcome State Fault Refusal :=
  let a := addr.toNat
  let n := len.val
  let write := body.write
  if !wfRequest write n then .refused .illFormed
  else if s.nocWaits ni tag.toNat a n then .next s
  else
    let c := memCheck s ni a n write.isSome
    if c ≠ 0 then .next ((s.accLog ni a c).nocResult ni tag.toNat c [])
    else
      match dpaRange a n with
      | some r =>
        let dst := targetNi s a r
        let k : ReqKind := if write.isSome then .wr else .rd
        .next (match s.injectRoute ni dst with
          | some (w, alt) =>
            s.inject (newReq ni tag.toNat dst a n k (write.getD []) (requestPacket ni dst tag.toNat a n (baseUrgency ni) k w alt)) body.link
          | none => s.unavailable ni tag.toNat a)
      | none => .next s

/-- The memory controller serves request `q` at attached DPA `a` with the listed symbols in error and answers it (R355, R381, R384); a line that a
management core has read is held in its cache from then on (R391). [DEDUCED 28, 54; DESIGN CHOICE 131] -/
def State.serveMem (s : State) (q : NocReq) (a : Nat) (faults : List (Fin 5 × MemFault)) : State :=
  if !chansReady s a q.len then s.complete q C.MEM_CH_NOT_READY []
  else
    let n := (a + q.len - 1) / 64 - a / 64 + 1
    let r := s.serveLines q a faults 0 n
    if r.2.1 then r.1.complete q C.MEM_UE []
    else
      let t := r.1.complete q 0 r.2.2
      if q.kind = .rd ∧ (q.ni = 169 ∨ q.ni = 170) then
        let new := ((List.range n).map (fun i => (lineKey a + i, q.ni - 169))).filter (fun e => !t.noc.filter.contains e)
        { t with noc := { t.noc with filter := t.noc.filter ++ new } }
      else t

/-- The patrol reads of channel `c` that waited for an earlier request to their line, and no longer do, are made (R367, R393). -/
def State.scrubsDue (s : State) (c : Nat) : State :=
  let waits (t : State) (x : Nat × Nat × List MemFault × Nat) : Bool :=
    (t.atChannel c).any (fun y => t.touchesLocal c x.2.1 y.1 y.2 && decide (y.1.stamp.getD 0 < x.2.2.2))
  let due := s.noc.scrubs.filter (fun x => x.1 == c && !waits s x)
  due.foldl (fun t x => t.scrubLine c x.2.1 x.2.2.1) { s with noc := { s.noc with scrubs := s.noc.scrubs.filter (fun x => !due.contains x) } }

/-- MEM_ACCESS: `cycles` CD05 cycles pass for every waiting head, and channel `c` serves the next of the requests that have reached it, after the snoops that they
need are on their way (R366, R367, R384, R391); a patrol read behind it to the same line follows (R393). -/
def execMemAccess (c : Fin 8) (cycles : Half) (faults : List (Fin 5 × MemFault)) (s : State) : Host.Outcome State Fault Refusal :=
  let s0 := s.ageHeads cycles.toNat
  let s1 := (s0.atChannel c).foldl (fun t x => t.snoopFor c x.1) s0
  match s1.nextAt c with
  | none => .next s1.settle
  | some (q, a) => .next ((s1.serveMem q a faults).settle.scrubsDue c)

/-- A request to host memory that has reached NI 168 is answered by the host: a write is taken, a read returns free values; without the link, and with a completion of the host
other than a successful one, it ends with HIF_DMA_ERR (R355, R569). -/
def State.hostServe (s : State) (q : NocReq) (fault : LinkFault) : State :=
  let failed (t : State) : State := ((t.accLog q.ni q.addr C.HIF_DMA_ERR).complete q C.HIF_DMA_ERR []).settle
  if !(q.unserved && q.stamp.isSome && dpaRange q.addr q.len == some .hostMem) then s
  else if !s.hostReachable then failed s
  else match fault with
  | .host st => failed { s with noc := { s.noc with hostSt := st.val } }
  | _ =>
  if q.write then ((s.setDpaBytes q.addr q.data).complete q 0 []).settle
  else ((s.tookFree).complete q 0 (s.dpaBytes q.addr q.len)).settle

/-- Request `q` ends at its NI with `status` and data (R355); after its timeout nothing more comes of it (R358), and a snoop ends for the memory controller,
which holds an invalidated line for no cache (R391). -/
def State.endReq (s : State) (q : NocReq) (status : Nat) (data : List Byte) : State :=
  let s1 := s.dropReq q.ni q.tag
  if q.snoop then
    if q.kind = .snpInv then { s1 with noc := { s1.noc with filter := s1.noc.filter.filter (fun e => e != (lineKey q.addr, q.dst - 169)) } } else s1
  else if q.dead then s1 else s1.nocResult q.ni q.tag status data

/-- A completion of `q` reaches its NI, with a parity error on its way or without (R355, R359): a poisoned one ends the request with NOC_LINK_ERR, one whose header
fails is discarded, and either is logged with the router that found it. -/
def State.takeCompletion (s : State) (q : NocReq) (status : Nat) (link : LinkFault) : State :=
  let ends (t : State) : State := t.endReq q status (if status = 0 ∧ q.kind = .rd then q.data else [])
  match link with
  | .header r =>
    if q.pkt.entered.contains r.val then
      let s1 := s.linkError q r
      if q.dead then s1.dropReq q.ni q.tag else s1.putReq { q with pkt := { q.pkt with lost := true } }
    else ends s
  | .body r => if q.pkt.entered.contains r.val then (s.linkError q r).endReq q C.NOC_LINK_ERR [] else ends s
  | .none | .host _ => ends s

/-- NOC_COMPLETION: the completion reaches the requesting NI and ends the request (R355, R359); one that comes after the timeout is discarded (R358), and one
that stands before a withdrawn router has not arrived (R369). -/
def execNocCompletion (ni : Fin 177) (tag : Byte) (link : LinkFault) (s : State) : Host.Outcome State Fault Refusal :=
  match s.nocReq ni tag.toNat with
  | none => .next s
  | some q0 =>
    let s1 := s.hostServe q0 link
    match s1.nocReq ni tag.toNat with
    | none => .next s1
    | some q => .next (match q.served with
      | some c => if q.pkt.arrived then s1.takeCompletion q c link else s1
      | none => s1)

/-- NOC_TIMEOUT: no completion arrived in time; one that comes later is discarded (R358). -/
def execNocTimeout (ni : Fin 177) (tag : Byte) (s : State) : Host.Outcome State Fault Refusal :=
  match s.nocReq ni tag.toNat with
  | none => .next s
  | some q =>
    if q.dead then .next s
    else
      let s1 := s.nocCount F.NOC_STAT.TIMEOUT_SEEN F.NOC_ERR_CNT.TIMEOUT
      let s2 := if q.pkt.lost then s1.dropReq ni tag.toNat else s1.putReq { q with dead := true }
      .next (if q.snoop then s2 else s2.nocResult ni tag.toNat C.NOC_TIMEOUT [])

/-- The route of a NACK from router `r` to NI `ni` (R370): XY, or YX where only that one crosses no withdrawn router. -/
def State.nackRoute (s : State) (r ni : Nat) : Wide :=
  let a := (r / 8, r % 8)
  let b := niAt ni
  let free (ds : List Nat) : Bool := match walkMesh a ds with
    | some ps => ps.tail.all (fun p => !s.withdrawn (routerIdx p))
    | none => false
  let xy := alongX a b ++ alongY a b
  let yx := alongY a b ++ alongX a b
  if !free xy && free yx then meshWord yx else meshWord xy

/-- The NACK that router `r` sends for request `q`, with its SRC and TAG, at URG 7 (R366, R369, R370). -/
def State.nackPacket (s : State) (q : NocReq) (r : Nat) : NocPkt :=
  let w := s.nackRoute r q.ni
  { header := packetHeader w false 7 5 q.ni q.tag, word := 0, inj := q.ni, here := some r, port := 11,
    ahead := match routeDirs w with
      | some ds => (pathRouters (walkMesh (r / 8, r % 8) ds)).tail ++ [localPort q.ni 5 q.tag]
      | none => [],
    waited := 0, lost := false, poison := false }

/-- ROUTE_HOLD_EXPIRY: the head of a request has waited HOLD cycles at router `router` for the output into a withdrawn one: it is dropped and a NACK sent
(R369). -/
def execRouteHoldExpiry (ni : Fin 177) (tag : Byte) (router : Fin 64) (s : State) : Host.Outcome State Fault Refusal :=
  match s.nocReq ni tag.toNat with
  | none => .next s
  | some q =>
    match q.pkt.here, q.pkt.ahead with
    | some h, r :: _ =>
      if h = router.val && q.unserved && !q.pkt.lost && s.withdrawn r then
        .next ((s.nocCount F.NOC_STAT.NACK_SEEN F.NOC_ERR_CNT.NACK).putReq { q with pkt := s.nackPacket q h }).settle
      else .next s
    | _, _ => .next s

/-- Whether the proxy answers request `q` instead of its resend: a domain at an end of it is fenced (R374, R393). -/
def State.proxied (s : State) (q : NocReq) : Bool := s.fenced (niDomain q.dst) || s.fenced (niDomain q.ni)

/-- Whether a request of the same NI that was issued before `q` is NACKed and not yet resent (R357). -/
def State.earlierNack (s : State) (q : NocReq) : Bool :=
  (s.noc.reqs.takeWhile (fun r => !(r.ni == q.ni && r.tag == q.tag))).any (fun r => r.ni == q.ni && r.pkt.isNack)

/-- The NI of request `q` takes its NACK (R371, R374, R393): the proxy answers for a fenced domain, else the request goes once more, on the alternate route as it
stands now, or fails with ROUTE_UNAVAILABLE. -/
def State.takeNack (s : State) (q : NocReq) : State :=
  let alt := s.route q.ni q.dst true
  if q.dead then s.dropReq q.ni q.tag
  else if s.proxied q then s.endReq q C.DOMAIN_OFF []
  else if routeValid alt && !q.resent then
    (s.putReq { q with resent := true, stamp := none, pkt := requestPacket q.ni q.dst q.tag q.addr q.len (baseUrgency q.ni) q.kind alt true }).settle
  else (s.dropReq q.ni q.tag).unavailable q.ni q.tag q.addr

/-- NACK: it has reached the source NI, which resends its NACKed requests in the order of their issue (R357, R371). -/
def execNack (ni : Fin 177) (tag : Byte) (s : State) : Host.Outcome State Fault Refusal :=
  match s.nocReq ni tag.toNat with
  | none => .next s
  | some q => .next (if q.pkt.isNack && q.pkt.arrived && !s.earlierNack q then s.takeNack q else s)

/-- The number of withdrawn routers. -/
def State.withdrawnCount (s : State) : Nat := ((List.range 64).filter s.withdrawn).length

/-- Bit `i` of a 64-bit register set or cleared. -/
def State.setBitOf (s : State) (off i : Nat) (b : Bool) : State := s.setFld ⟨off, i, 1⟩ (b2n b)

/-- A NOC_RTR_CMD refused (R368, R372). -/
def State.refuseRouter (s : State) (req : Requester) (op : Nat) : State :=
  (s.setFld F.NOC_RTR_CMDSTAT.STATUS C.STATE_REFUSED).logRefused req R.NOC_RTR_CMD op

/-- BEGIN: a router is withdrawn, when at most one other is (R368). -/
def execNocBegin (req : Requester) (r : Fin 64) (s : State) : Host.Outcome State Fault Refusal :=
  if s.withdrawn r || decide (1 < s.withdrawnCount) then .next (s.refuseRouter req 1)
  else .next (((s.setFld F.NOC_RTR_CMDSTAT.STATUS 0).setBitOf R.NOC_RTR_WITHDRAWN r true).setBitOf R.NOC_RTR_DRAINED r false)

/-- Whether router `r` holds the head of a packet that still has a router ahead of it. -/
def State.routerHolds (s : State) (r : Nat) : Bool :=
  s.noc.reqs.any (fun q => q.pkt.here == some r && !q.pkt.ahead.isEmpty && !q.pkt.lost)

/-- ROUTER_DRAINED: a withdrawn router holds no flit (R368). -/
def execRouterDrained (r : Fin 64) (s : State) : Host.Outcome State Fault Refusal :=
  .next (if s.withdrawn r && !s.routerHolds r then s.setBitOf R.NOC_RTR_DRAINED r true else s)

/-- A router returns to service and the heads that wait for it move on (R367, R372). -/
def State.routerBack (s : State) (r : Nat) : State := ((s.setBitOf R.NOC_RTR_WITHDRAWN r false).setBitOf R.NOC_RTR_DRAINED r false).settle

/-- END (R372). [DEDUCED 57] -/
def execNocEnd (req : Requester) (r : Fin 64) (s : State) : Host.Outcome State Fault Refusal :=
  if s.withdrawn r then .next ((s.routerBack r).setFld F.NOC_RTR_CMDSTAT.STATUS 0) else .next (s.refuseRouter req 2)

/-- NOC_RECONF_TIMEOUT: a router withdrawn too long returns by itself (R372). -/
def execNocReconfTimeout (r : Fin 64) (s : State) : Host.Outcome State Fault Refusal :=
  if s.withdrawn r then
    .next (((s.routerBack r).setFld F.NOC_STAT.RECONF_TO_SEEN 1).report C.NOC_RECONF_TIMEOUT (srcRouter r) 0)
  else .next s

/-- The domains that can be fenced (R373). -/
def fenceable (d : Nat) : Bool := d == 1 || d == 2 || d == 4 || d == 11 || (decide (16 ≤ d) && decide (d ≤ 23))

/-- NOC_FENCE_CMD refused. -/
def State.refuseFence (s : State) (req : Requester) (op : Nat) : State :=
  (s.setFld F.NOC_FENCE_STAT.STATUS C.STATE_REFUSED).logRefused req R.NOC_FENCE_CMD op

/-- The fence of domain `d` begins (R374). -/
def State.fenceBegin (s : State) (d : Nat) : State := s.setFld F.NOC_FENCE_STAT.PENDING (s.fld F.NOC_FENCE_STAT.PENDING ||| 2 ^ d)

/-- NOC_FENCE (R373, R374). -/
def execNocFence (req : Requester) (d : Fin 32) (s : State) : Host.Outcome State Fault Refusal :=
  if !fenceable d || ((d.val = 4 ∨ d.val = 11) && (List.range 16).any s.siteActive) then .next (s.refuseFence req 1)
  else .next ((s.setFld F.NOC_FENCE_STAT.STATUS 0).fenceBegin d)

/-- Whether an outstanding request comes from an NI of domain `d` or goes to one (R375). -/
def State.domainBusy (s : State) (d : Nat) : Bool :=
  s.noc.reqs.any (fun q => !q.dead && (niDomain q.ni == d || niDomain q.dst == d))

/-- DOMAIN_FENCED: a domain whose fence is pending has no outstanding request left (R375). -/
def execDomainFenced (d : Fin 32) (s : State) : Host.Outcome State Fault Refusal :=
  let p := s.fld F.NOC_FENCE_STAT.PENDING
  if bitOf p d && !s.domainBusy d then
    .next (s.setFlds [(F.NOC_FENCE_STAT.PENDING, p - 2 ^ d.val), (F.NOC_FENCE_STAT.FENCED, s.fld F.NOC_FENCE_STAT.FENCED ||| 2 ^ d.val)])
  else .next s

/-- NOC_UNFENCE: the fence of a FENCED domain that is powered is removed (R376). -/
def execNocUnfence (req : Requester) (d : Fin 32) (s : State) : Host.Outcome State Fault Refusal :=
  let f := s.fld F.NOC_FENCE_STAT.FENCED
  if bitOf f d && bitOf (s.fld F.PWR_DOM_STAT.ON) d then
    .next (s.setFlds [(F.NOC_FENCE_STAT.STATUS, 0), (F.NOC_FENCE_STAT.FENCED, f - 2 ^ d.val)])
  else .next (s.refuseFence req 2)

/-- ROUTE_COMMIT: a management core writes a route-table entry; an illegal valid route, or a host's commit, is refused (R362, R364). [DEDUCED 57] -/
def execRouteCommit (req : Requester) (src : Byte) (dest : Byte) (s : State) : Host.Outcome State Fault Refusal :=
  let pri := s.reg R.NOC_RT_PRI
  let alt := s.reg R.NOC_RT_ALT
  let ok (w : Wide) : Bool := !routeValid w || routeLegal src.toNat dest.toNat w
  if req ≠ .firmware then .next ((s.setFld F.NOC_RT_STATUS.STATUS C.STATE_REFUSED).logRefused req R.NOC_RT_ADDR 0)
  else
    let s1 := s.setFlds [(F.NOC_RT_ADDR.DEST, dest.toNat), (F.NOC_RT_ADDR.SRC, src.toNat)]
    if 176 < src.toNat ∨ 176 < dest.toNat ∨ !(ok pri && ok alt) then
      .next ((s1.setFld F.NOC_RT_STATUS.STATUS C.NOC_ROUTE_INVALID).report C.NOC_ROUTE_INVALID (srcNi (src.toNat % 256)) 0)
    else .next (((s1.setRoute src.toNat dest.toNat false pri).setRoute src.toNat dest.toNat true alt).setFld F.NOC_RT_STATUS.STATUS 0)

/-- ROUTE_LOAD: an entry is loaded into NOC_RT_PRI and NOC_RT_ALT (R361). -/
def execRouteLoad (_req : Requester) (src : Byte) (dest : Byte) (s : State) : Host.Outcome State Fault Refusal :=
  let s1 := s.setFlds [(F.NOC_RT_ADDR.DEST, dest.toNat), (F.NOC_RT_ADDR.SRC, src.toNat)]
  .next ((s1.setReg R.NOC_RT_PRI (s.route src.toNat dest.toNat false)).setReg R.NOC_RT_ALT (s.route src.toNat dest.toNat true))

/-- NOC_TIMEOUT_WRITE: taken when REQ_US exceeds RECONF_US and that is not 0 (R394). -/
def execNocTimeoutWrite (req : Requester) (value : Word) (s : State) : Host.Outcome State Fault Refusal :=
  let reconf := value.toNat / 2 ^ 20
  let us := value.toNat % 2 ^ 20
  if reconf = 0 ∨ us ≤ reconf then .next (s.logRefused req R.NOC_TIMEOUT 0) else .next (s.setReg R.NOC_TIMEOUT (value.setWidth 64))

end Sys2Proof.Machine
end

