-- ==== Sys2Proof/Machine/MemcExec.lean ====
section
/-! DEFINITION. The commands and events of the memory channels and the BAR2 window (R379 to R385, R392, R395, R566). -/

namespace Sys2Proof.Machine

/-- The state of channel `c`: 0 OFF, 1 INIT, 2 READY, 3 SELF_REFRESH, 4 FAILED (R380). -/
def State.chanState (s : State) (c : Nat) : Nat := s.fld (F.MEMC_STAT.STATE c)

/-- The power domain of channel `c` (R354). -/
def chanDomain (c : Nat) : Nat := niDomain (160 + c)

/-- Stage 6 of a start attempt begins with the first thing that firmware does to a channel (R380, R436): PD16 and PD17 are powered, and a channel that was OFF is in INIT. [DEDUCED 66] -/
def State.trainStage (s : State) : State :=
  if s.dev ≠ .boot ∨ s.sec.testHold ∨ s.fld F.SEC_BOOT_STAT.STAGE ≠ 5 then s
  else
    let s1 := (s.powers [16, 17]).setFlds [(F.SEC_BOOT_STAT.STAGE, 6), (⟨R.NOC_FENCE_STAT, 16, 2⟩, 0)]
    (List.range 8).foldl (fun t c => if t.chanState c = 0 then t.setFld (F.MEMC_STAT.STATE c) 1 else t) s1

/-- A command of MEMC_CTRL or MEMC_MR: its effect when `ok`, else STATE_REFUSED in CMD_STATUS and a log entry. [DEDUCED 56] -/
def State.memcCmd (s0 : State) (req : Requester) (c off op : Nat) (may : State → Bool) (act : State → State) : State :=
  let s := s0.trainStage
  if may s then (act s).setFld (F.MEMC_STAT.CMD_STATUS c) 0
  else (s.setFld (F.MEMC_STAT.CMD_STATUS c) C.STATE_REFUSED).logRefused req off op

/-- INIT: initialisation of a powered channel begins, and its components lose their contents (R380). [DEDUCED 56] -/
def execMemcInit (req : Requester) (c : Fin 8) (s : State) : Host.Outcome State Fault Refusal :=
  .next (s.memcCmd req c (R.MEMC_CTRL c) 1 (fun t => bitOf (t.fld F.PWR_DOM_STAT.ON) (chanDomain c)) (fun t =>
    ({ t with mem := mkeep (fun k => k / 2 ^ 35 != c.val) t.mem }).setFlds [(F.MEMC_STAT.STATE c, 1), (F.MEMC_STAT.RETAINED c, 0)]))

/-- READY: firmware declares a channel in INIT ready (R380). -/
def execMemcReady (req : Requester) (c : Fin 8) (s : State) : Host.Outcome State Fault Refusal :=
  .next (s.memcCmd req c (R.MEMC_CTRL c) 2 (fun t => t.chanState c == 1) (fun t => t.setFld (F.MEMC_STAT.STATE c) 2))

/-- SR_ENTER: a READY channel enters self-refresh (R382). -/
def execMemcSrEnter (req : Requester) (c : Fin 8) (s : State) : Host.Outcome State Fault Refusal :=
  .next (s.memcCmd req c (R.MEMC_CTRL c) 3 (fun t => t.chanState c == 2) (fun t => t.setFld (F.MEMC_STAT.STATE c) 3))

/-- SR_EXIT: a channel leaves self-refresh with the retained results of its training, its contents unchanged (R382). -/
def execMemcSrExit (req : Requester) (c : Fin 8) (s : State) : Host.Outcome State Fault Refusal :=
  .next (s.memcCmd req c (R.MEMC_CTRL c) 4 (fun t => t.chanState c == 3) (fun t => t.setFld (F.MEMC_STAT.STATE c) 2))

/-- The erasure of channel `c` replaced, with MEMC_STAT.ERASED (R383). -/
def State.setErasure (s : State) (c : Nat) (e : Option (Nat × Nat)) : State :=
  { s with noc := { s.noc with erase := mset (fun _ => none) c e s.noc.erase } }.setFld (F.MEMC_STAT.ERASED c) (b2n e.isSome)

/-- ERASE: an erasure is set on a component of a subchannel; a component above 4 does not exist and the write is ignored (R383). -/
def execMemcErase (req : Requester) (c : Fin 8) (sub : Fin 2) (comp : Fin 8) (s : State) : Host.Outcome State Fault Refusal :=
  if 4 < comp.val then .next s
  else .next (s.memcCmd req c (R.MEMC_CTRL c) 5 (fun t => t.chanState c != 0) (fun t => t.setErasure c (some (sub.val, comp.val))))

/-- UNERASE (R383). -/
def execMemcUnerase (req : Requester) (c : Fin 8) (s : State) : Host.Outcome State Fault Refusal :=
  .next (s.memcCmd req c (R.MEMC_CTRL c) 6 (fun t => t.chanState c != 0) (fun t => t.setErasure c none))

/-- FAIL: firmware declares a channel FAILED, which is logged (R380). -/
def execMemcFail (req : Requester) (c : Fin 8) (s : State) : Host.Outcome State Fault Refusal :=
  .next (s.memcCmd req c (R.MEMC_CTRL c) 7 (fun t => t.chanState c != 0) (fun t =>
    (t.setFld (F.MEMC_STAT.STATE c) 4).report C.MEM_TRAIN_FAIL (srcChannel c) 0))

/-- MEMC_MR_GO: a mode-register command is issued, in INIT only and when none is in progress (R380). [DEDUCED 56] -/
def execMemcMrGo (req : Requester) (c : Fin 8) (value : Word) (s : State) : Host.Outcome State Fault Refusal :=
  .next (s.memcCmd req c (R.MEMC_MR c) 0 (fun t => t.chanState c == 1 && !t.bit (F.MEMC_MR.BUSY c)) (fun t =>
    (t.writePlain (R.MEMC_MR c) (value.setWidth 64) (maskBits 0 32)).setFld (F.MEMC_MR.BUSY c) 1))

/-- MEMC_MR_DONE: the command completes; a read leaves the component's answer in DATA (R380). -/
def execMemcMrDone (c : Fin 8) (data : Byte) (s : State) : Host.Outcome State Fault Refusal :=
  if !s.bit (F.MEMC_MR.BUSY c) then .next s
  else
    let s1 := s.setFld (F.MEMC_MR.BUSY c) 0
    .next (if s.bit (F.MEMC_MR.WR c) then s1 else s1.setFld (F.MEMC_MR.DATA c) data.toNat)

/-- PATROL_SCRUB: a line is read, with the listed symbols in error, and corrected in its turn; an uncorrectable one is left unchanged (R383, R385). Behind a request to the same line
that has arrived earlier it waits (R367, R393). -/
def execPatrolScrub (c : Fin 8) (laddr : BitVec 35) (faults : List MemFault) (s : State) : Host.Outcome State Fault Refusal :=
  if !s.bit (F.MEMC_SCRUB_CFG.EN c) || s.chanState c != 2 then .next s
  else if (s.atChannel c).any (fun y => s.touchesLocal c laddr.toNat y.1 y.2) then
    .next { s with noc := { s.noc with scrubs := s.noc.scrubs ++ [(c.val, laddr.toNat, faults, s.noc.stamps)] } }
  else .next (s.scrubLine c laddr.toNat faults)

/-- DRAM_TEMP_REPORT: above 85 °C the channel doubles its refresh rate, below 80 °C it returns to the single rate (R385). -/
def execDramTempReport (c : Fin 8) (celsius : Byte) (s : State) : Host.Outcome State Fault Refusal :=
  if 85 < celsius.toNat then .next (s.setFld (F.MEMC_STAT.HOT c) 1)
  else if celsius.toNat < 80 then .next (s.setFld (F.MEMC_STAT.HOT c) 0)
  else .next s

/-- MEMC_MAP_WRITE: refused while a channel is READY or in SELF_REFRESH, and with RATE above 4 (R395). -/
def execMemcMapWrite (req : Requester) (value : Word) (s : State) : Host.Outcome State Fault Refusal :=
  if (List.range 8).any (fun c => s.chanState c == 2 || s.chanState c == 3) || decide (4 < value.toNat / 16 % 8) then
    .next (s.logRefused req R.MEMC_MAP 0)
  else .next (s.writePlain R.MEMC_MAP (value.setWidth 64) (maskBits 0 32))

/-- MEMC_BAR2_BASE_WRITE (R392). -/
def execMemcBar2BaseWrite (req : Requester) (value : Word) (s : State) : Host.Outcome State Fault Refusal :=
  let b := value.toNat % 256
  if 192 < b then .next (s.logRefused req R.MEMC_BAR2_BASE 0) else .next (s.setFld F.MEMC_BAR2_BASE.BASE b)

/-- BAR2_ACCESS: a TLP at offset `off` of BAR2 becomes a request of NI 168; a request that ends with an error is logged under its code (R392, R566).
What it ends with is kept as the result of tag 0 of NI 168. A read that fails is completed as Completer Abort, or with poisoned data on MEM_UE; a write that fails is dropped. [DEDUCED 52] -/
def execBar2Access (off : BitVec 36) (write : Option (List Byte)) (len : Fin 4097) (status : Half) (s : State) :
    Host.Outcome State Fault Refusal :=
  let n := len.val
  let isW := write.isSome
  let data := write.getD []
  let a := s.fld F.MEMC_BAR2_BASE.BASE * 2 ^ 30 + off.toNat
  if !wfTlp off.toNat write n then .refused .illFormed
  else if !s.bit F.HIF_LINK.UP then .next s
  else
    let c := memStatus s 168 a n isW status.toNat
    let s := s.eccSeen 168 a n isW status.toNat
    if c ≠ 0 then .next (((s.report c (srcNi 168) (reqDetail 168 a)).nocResult 168 0 c []).hostCpl (!isW) (if c = C.MEM_UE then .poisoned else .ca))
    else if isW then .next ((s.unitWrite 168 a data).nocResult 168 0 0 [])
    else
      let (bs, s1) := s.readDpa a n
      .next ((s1.nocResult 168 0 0 bs).hostCpl true .success)

end Sys2Proof.Machine
end

