-- ==== Sys2Proof/Machine/CfgFrames.lean ====
section
/-! DEFINITION. Image headers and frames: their layouts, the checks of the configuration checker, and what each frame writes (R3, R84, R135,
R138, R140, R189, R397 to R407, R410, R411, R520). -/

namespace Sys2Proof.Machine

/-- The number in bytes `o` to `o + n - 1` of `b` (R17). -/
def numAt (b : List Byte) (o n : Nat) : Nat := ofLeBytes ((b.drop o).take n)

/-- The flash byte at address `a`: what this block wrote there, else what the flash device holds. -/
def State.flashAt (s : State) (a : Nat) : Byte := (mget (fun _ => (none : Option Byte)) a s.aux.flash).getD (Config.flashByte a)

/-- The `n` flash bytes from address `a`. -/
def State.flashBytes (s : State) (a n : Nat) : List Byte := (List.range n).map (fun i => s.flashAt (a + i))

/-- The header fields of an image (R398). -/
def parseHdr (b : List Byte) : CfgHdr :=
  { stepMin := numAt b 9 1, position := numAt b 12 1, kind := numAt b 13 1, keysel := numAt b 14 1, signer := numAt b 15 1,
    totalLen := numAt b 16 4, nchunk := numAt b 20 4, lastLen := numAt b 24 4, pmin := numAt b 28 2, regionSet := numAt b 32 8,
    nonce := (b.drop 40).take 8, buildId := numAt b 48 16 }

/-- MAGIC of an image. -/
def hdrMagic (b : List Byte) : Bool := b.take 4 == [0x55, 0x4D, 0x42, 0x53]

/-- Header check 1 of R410. [DEDUCED 59] -/
def hdrFormatOk (b : List Byte) (avail : Option Nat) : Bool :=
  let h := parseHdr b
  hdrMagic b && numAt b 4 2 == 1 && numAt b 6 2 == 0x100 && (h.kind == 1 || h.kind == 2) && numAt b 30 2 == 0 && numAt b 112 144 == 0 &&
  decide (h.keysel ≤ 2) && decide (h.signer ≤ 1) && decide (1 ≤ h.nchunk) && decide (h.nchunk ≤ 65535) && decide (16 ≤ h.lastLen) &&
  decide (h.lastLen ≤ 65536) && h.lastLen % 16 == 0 && h.totalLen == 256 + (h.nchunk - 1) * 65552 + h.lastLen + 16 + 96 &&
  (match avail with
   | some n => decide (h.totalLen ≤ n)
   | none => true) &&
  (if h.kind = 1 then h.regionSet == 0 else h.regionSet % 2 == 0)

/-- Whether the key that KEYSEL names is available (R412). -/
def State.keyAvailable (s : State) (keysel : Nat) : Bool :=
  !s.bit F.SEC_KEY_STAT.LOCKED &&
  (if keysel = 0 then s.fld F.SEC_KEY_STAT.KEY0 == 1 else if keysel = 1 then s.fld F.SEC_KEY_STAT.KEY1 == 1 else s.fld F.SEC_KEY_STAT.BBK == 1)

/-- The key store slot of the active owner key: the programmed, unrevoked slot with the higher number (R446). -/
def State.activeOwner (s : State) : Option Nat :=
  if s.fld F.SEC_FUSE_STAT.OWNER1 = 1 then some 4 else if s.fld F.SEC_FUSE_STAT.OWNER0 = 1 then some 3 else none

/-- The key kept in slot `k`: 0 and 1 fuse keys, 2 the battery-backed key, 3 and 4 owner public keys. -/
def State.keyOf (s : State) (k : Nat) : Nat := mget (fun _ => 0) k s.sec.keys

/-- OWNER_KEY_HASH of the active owner key (R401, R446). [DEDUCED 59] -/
def State.ownerHashOk (s : State) (hash : List Byte) : Bool :=
  match s.activeOwner with
  | some k => Config.sha384 (leBytes 96 (s.keyOf k)) == hash
  | none => false

/-- Checks 2 to 6 of R410: the code and DETAIL of the first that fails. [DEDUCED 59] -/
def State.headerFault (s : State) (h : CfgHdr) (hash : List Byte) (family part : Nat) : Option (Nat × Nat) :=
  if family ≠ s.fld F.GLB_ID.FAMILY ∨ part ≠ s.fld F.GLB_ID.PART ∨ (s.reg R.GLB_ID).toNat % 256 < h.stepMin ∨
      (h.position ≠ 0xFF ∧ h.position ≠ s.fld F.CSC_STAT.POSITION) then some (C.CFG_IDENTITY_MISMATCH, 0)
  else if !s.keyAvailable h.keysel then some (C.CFG_KEY_UNAVAILABLE, 0)
  else if h.signer = 1 ∧ !s.ownerHashOk hash then some (C.CFG_AUTH_FAIL, 3)
  else if (if h.kind = 1 then (List.range 16).any (fun n => decide (1 < s.siteCode n))
           else (onesFrom 64 0 h.regionSet).any (fun g => s.rgnState g != 0 && s.rgnState g != 2)) ∨ s.bit F.FAB_RGN_CMD_STAT.BUSY then
    some (C.STATE_REFUSED, 0)
  else if 10000 * s.fckSet.2 < h.pmin * s.fckSet.1 then some (C.TICK_BUDGET_EXCEEDED, 0)
  else none

/-- The cells in the slots `ks` as a load finds them once it has begun: registers, context stores, routing, arrays and streams hold nothing (R84,
R140: an EMPTY region has no configuration and EN = 0). [DEDUCED 20] -/
def State.clearSlots (s : State) (ks : List Nat) : State :=
  let own := ks.filter (fun k => decide (k < 2560) || decide (2816 ≤ k))
  let ps := own.map posOfSlot
  let ms := (own.filter (fun k => slotType k == .m)).map (fun k => clusterOf (k % 64) (k / 64))
  let xs := (own.filter (fun k => decide (2816 ≤ k))).map (fun k => k - 2816)
  let f := s.fab
  let s1 : State := { s with fab := { f with
    cells := mkeep (fun k => !ks.contains k) f.cells, nxt := mkeep (fun k => !ks.contains k) f.nxt,
    ctx := mkeep (fun k => !ks.contains k) f.ctx, store := mkeep (fun a => !ks.contains (a / 16)) f.store,
    shadow := mkeep (fun a => !ks.contains (a / 16)) f.shadow, shadowFl := mkeep (fun a => !ks.contains (a / 8)) f.shadowFl,
    rclkLvl := mkeep (fun k => !ks.contains k) f.rclkLvl,
    loadedFl := mkeep (fun a => !ks.contains (a / 8)) f.loadedFl, route := mkeep (fun a => !ps.contains (a / 24)) f.route,
    routeBad := mkeep (fun a => !ps.contains (a / 24)) f.routeBad, frozen := mkeep (fun a => !ps.contains (a / 20)) f.frozen,
    marr := mkeep (fun a => !ms.contains (a / 4352)) f.marr,
    xs := mmap (fun _ => XsBuf.zero) (fun x b => if xs.contains x then { XsBuf.zero with popAt := b.popAt } else b) f.xs } }
  xs.foldl (fun t x => t.setFlds [(F.FAB_XS_STAT.BUSY x, 0), (F.FAB_XS_STAT.DONE x, 0)]) s1

/-- The seal of every site that has become IDLE since `s0` ends (R213). -/
def State.unsealAll (s s0 : State) : State := (List.range 16).foldl (fun t n => t.unsealIdle s0 n) s

/-- Every region becomes EMPTY as at the start of a FULL load (R411, R526). [DEDUCED 60] -/
def State.emptyFabric (s : State) : State :=
  let s1 := ((List.range 64).filter (fun g => g != 0)).foldl (fun t g => t.setRgnState g 0) s
  let s2 := s1.clearSlots (List.range 2944)
  let s3 := (List.range 256).foldl (fun t k => t.setFld (F.PSL_SITE.EN k) 0) s2
  let s4 := (List.range 16).foldl (fun t n => (List.range 8).foldl (fun u k => u.setFld (F.PSQ_VENT.EN n k) 0) t) s3
  (({ s4 with cfg := { s4.cfg with pmins := [] } }).unsealAll s).updPmin

/-- The load in progress replaced by `f` of it. [DEDUCED 60] -/
def State.mapLoad (s : State) (f : CfgLoad → CfgLoad) : State := s.setLoad (s.cfg.load.map f)

/-- A load whose header has passed every check begins (R411). -/
def State.imageBegins (s : State) (h : CfgHdr) : State :=
  let s0 : State := { s with cfg := { s.cfg with waits := [] } }
  let s1 := (s0.setFld F.FAB_SFX_STAT.ARRAYS_HELD 0).setReg R.CFG_PROGRESS (BitVec.ofNat 64 (match s.cfg.load with
    | some l => max 256 l.image.length
    | none => 256))
  if h.kind = 1 then ((s1.emptyFabric.mapLoad (fun l => { l with hdr := some h, recv := 256 })).updPmin).setFld F.CFG_STAT.STATE 2
  else
    let gs := onesFrom 64 0 h.regionSet
    let s2 := gs.foldl (fun t g => t.setRgnState g 1) s1
    let s3 := s2.clearSlots (gs.flatMap s2.rgnSlots)
    let s4 : State := { s3 with cfg := { s3.cfg with pmins := s3.cfg.pmins.filter (fun e => !gs.contains e.1) } }
    ((s4.mapLoad (fun l => { l with hdr := some h, recv := 256, regions := gs })).updPmin).setFld F.CFG_STAT.STATE 2

/-- Whether a slice of cluster `c` runs a direct or chunk test, which a load waits for (R520). -/
def State.clusterTested (s : State) (c : Nat) : Bool :=
  s.bist.slices.any (fun x => x.cl == c && x.back.isNone && (x.logic.isDirect || (x.chunk != .none && !x.chunkEnd)))

/-- The clusters of which the beginning of a load with header `h` would clear a unit under a direct or chunk test (R84, R520). [DEDUCED 63] -/
def State.beginWaits (s : State) (h : CfgHdr) : List Nat :=
  (if h.kind = 1 then List.range 256 else (onesFrom 64 0 h.regionSet).flatMap s.rgnClusters).filter s.clusterTested

/-- The load engine waits for the slices of clusters `cs` (R520). -/
def State.waitFor (s : State) (cs : List Nat) : State := { s with cfg := { s.cfg with waits := cs } }

/-- The plaintext of an image with header `h`: its length (chapter 09, "Frames"). -/
def CfgHdr.plainLen (h : CfgHdr) : Nat := (h.nchunk - 1) * 65536 + h.lastLen

/-- Whether the header of the next frame is malformed or its type unknown (R403, R407). -/
def CfgLoad.headBad (l : CfgLoad) (h : CfgHdr) : Bool :=
  decide (16 ≤ l.plain.length) &&
  (let t := numAt l.plain 0 2
   let n := numAt l.plain 4 4
   numAt l.plain 2 2 != 0 || n % 8 != 0 || !(decide (1 ≤ t) && decide (t ≤ 9) || t == 15) || decide (h.plainLen < l.consumed + 16 + n))

/-- The next frame, once its chunks have all passed: TYPE, TARGET and payload (R413). -/
def CfgLoad.headFrame (l : CfgLoad) : Option (Nat × Nat × List Byte) :=
  let n := numAt l.plain 4 4
  if 16 + n ≤ l.plain.length ∧ 16 ≤ l.plain.length then some (numAt l.plain 0 2, numAt l.plain 8 8, (l.plain.drop 16).take n) else none

/-- Whether slot `k` may be a frame's target: a core cell or an X-cell (R405). -/
def slotTarget (k : Nat) : Bool := decide (k < 2560) || (decide (2816 ≤ k) && decide (k < 2944))

/-- The region of the cell in slot `k`. -/
def State.slotRegion (s : State) (k : Nat) : Nat := s.posRegion (posOfSlot k)

/-- The region numbers of a REGION_MAP payload that are named. -/
def mapNamed (b : List Byte) : List Nat := (List.range 64).filter (fun g => g != 0 && b.any (fun x => x.toNat == g))

/-- The region that byte `i` of a REGION_MAP payload replaces. -/
def State.mapEntry (s : State) (i : Nat) : Nat :=
  if i < 256 then s.fld (F.FAB_RGN_MAP.REGION i) else s.fld (F.FAB_RGN_XMAP.REGION (i - 256))

/-- The position that driver `j` of position `p` with select `sel` takes a word from, other than OUT0 and OUT1 (R128, R138). -/
def drvFrom (p j sel : Nat) : Option Nat :=
  let d := j / 4
  let t := j % 4
  if sel = 4 then posStep p (opposite d) (spanOf t)
  else if sel = 8 then posStep p (opposite ((d + 1) % 4)) (spanOf t)
  else if sel = 16 then posStep p (opposite ((d + 3) % 4)) (spanOf t)
  else if sel = 32 then posStep p (opposite d) (if t = 3 then 4 else 1)
  else none

/-- The region map that a REGION_MAP payload gives, in the registers (R404). -/
def State.withMap (s : State) (b : List Byte) : State :=
  let v (i : Nat) : Nat := (b.getD i 0).toNat
  (List.range 128).foldl (fun t x => t.setFld (F.FAB_RGN_XMAP.REGION x) (v (256 + x)))
    ((List.range 256).foldl (fun t i => t.setFld (F.FAB_RGN_MAP.REGION i) (v i)) s)

/-- Whether a routing word at position `p` takes a driver's word from another region (R138). -/
def State.drvForeign (s : State) (p w : Nat) : Bool :=
  (List.range 16).any (fun j => match drvFrom p j (drvSel w j) with
    | some q => s.posRegion q != s.posRegion p
    | none => false)

/-- The slots of the cells that change hands under the map of a REGION_MAP payload (R84). -/
def State.movedSlots (s : State) (b : List Byte) : List Nat :=
  ((List.range 384).filter (fun i => s.mapEntry i != (b.getD i 0).toNat)).flatMap
    (fun i => if i < 256 then (List.range 10).map (coreSlot i) ++ [2560 + i] else [xSlot (i - 256)])

/-- Whether a position of a region that load `l` is loading takes a driver's word from another region, by the routing words applied so far (R138, R407). -/
def State.routesForeign (s : State) (l : CfgLoad) : Bool :=
  (l.regions.flatMap s.rgnPositions).any (fun p => (List.range 8).any (fun c => s.drvForeign p (s.routeWord p c)))

/-- Whether an enabled vector entry names an A-cell or B-cell position in a region of site `n` (R189). -/
def State.ventOk (s : State) (n v : Nat) : Bool :=
  let row := v / 256 % 64
  let col := v % 256
  let k := 64 * row + col
  decide (row ≤ 39) && decide (col ≤ 63) && (slotType k == .a || slotType k == .b) && s.slotRegion k != 0 &&
  s.rgnSite (s.slotRegion k) == n

/-- Whether a slice that the payload of a SLICE_SITE frame enables has a site other than that of its X-cell's region (R407). -/
def State.sitesForeign (s : State) (b : List Byte) : Bool :=
  (List.range 256).any (fun k =>
    let g := s.fld (F.FAB_RGN_XMAP.REGION (k / 2))
    bitOf (b.getD k 0).toNat 4 && g != 0 && s.rgnSite g != (b.getD k 0).toNat % 16)

/-- Whether the payload of a PSQ_CONFIG frame of sequencer `n` enables a vector entry that R189 does not allow. -/
def State.ventsForeign (s : State) (n : Nat) (b : List Byte) : Bool :=
  (List.range 8).any (fun k => bitOf (numAt b (4 * k) 4) 15 && !s.ventOk n (numAt b (4 * k) 4))

/-- The check of R407 that SLICE_SITE and PSQ_CONFIG frames applied earlier in load `l` fail once the region map or the site of a region has changed. -/
def State.recheck (s : State) (l : CfgLoad) : Option Nat :=
  if l.siteMap.any s.sitesForeign then some C.FAB_REGION_INVALID
  else if l.psqCfg.any (fun c => s.ventsForeign c.1 c.2) then some C.PSQ_VENT_INVALID
  else none

/-- REGION_MAP checked (R404, R406), with what a PARTIAL image has applied before it. [DEDUCED 117] -/
def State.checkMap (s : State) (l : CfgLoad) (h : CfgHdr) (tgt : Nat) (b : List Byte) : Option Nat :=
  if tgt ≠ 0 ∨ b.length ≠ 384 ∨ b.any (fun x => decide (63 < x.toNat)) then some C.CFG_FORMAT
  else if h.kind = 2 ∧ ((s.withMap b).clearSlots (s.movedSlots b)).routesForeign l then some C.FAB_REGION_INVALID
  else match if h.kind = 2 then (s.withMap b).recheck l else none with
  | some c => some c
  | none =>
  if h.kind = 2 ∧ (List.range 384).any (fun i =>
      let new := (b.getD i 0).toNat
      let old := s.mapEntry i
      let ok (g : Nat) : Bool := g == 0 || l.regions.contains g
      new != old && !(ok new && ok old)) then some C.CFG_SCOPE
  else none

/-- REGION_DESC checked (R404, R406), with the frames that its SITE bears on and that stand before it. -/
def State.checkDesc (s : State) (l : CfgLoad) (_h : CfgHdr) (tgt : Nat) (b : List Byte) : Option Nat :=
  if tgt = 0 ∨ 63 < tgt ∨ b.length ≠ 16 ∨ 15 < numAt b 0 1 ∨ 3 < numAt b 1 1 ∨ numAt b 2 2 ≠ 0 ∨ numAt b 8 8 ≠ 0 then some C.CFG_FORMAT
  else match (s.setFld (F.FAB_RGN_DESC.SITE tgt) (numAt b 0 1)).recheck l with
    | some c => some c
    | none => if !l.regions.contains tgt then some C.CFG_SCOPE else none

/-- Whether a static word has a reserved bit set for its cell type (R77). -/
def staticInvalid (ty : CellType) (w : Nat) : Bool :=
  Nat.land w 0xFC0F != w || (ty != .b && Nat.land w 0xC != 0) || (ty != .x && Nat.land w 2 != 0)

/-- CELL_WORDS checked (R3, R72, R77, R404, R406, R407). -/
def State.checkCellWords (s : State) (l : CfgLoad) (_h : CfgHdr) (tgt : Nat) (b : List Byte) : Option Nat :=
  let k := tgt % 4096
  let first := tgt / 2 ^ 16 % 16
  let cnt := tgt / 2 ^ 24 % 16
  let ty := slotType k
  let ws := (List.range cnt).map (fun i => (first + i, numAt b (8 * i) 8))
  if Nat.land tgt 0x0F0F0FFF ≠ tgt ∨ !slotTarget k ∨ cnt = 0 ∨ 13 < first + cnt ∨ b.length ≠ 8 * cnt ∨ (9 < first + cnt ∧ ty ≠ .b) then
    some C.CFG_FORMAT
  else if ws.any (fun w => (decide (w.1 < 8) && fnInvalid ty (BitVec.ofNat 64 w.2)) || (w.1 == 8 && staticInvalid ty w.2)) then
    some C.FAB_OP_INVALID
  else if s.f128 ∧ 2880 ≤ k ∧ ws.any (fun w => decide (w.1 < 8) && w.2 / 2 ^ 56 == 0xC0 && w.2 / 2 ^ 38 % 4 != 0) then
    some C.CFG_IDENTITY_MISMATCH
  else if !l.regions.contains (s.slotRegion k) then some C.CFG_SCOPE
  else none

/-- The segment that driver `j` of position `p` selects as its source through STRAIGHT, TURN_L, TURN_R or STEP, where `word` gives each
position's routing word (R128, R135). -/
def segBefore (word : Nat → Nat) (pj : Nat × Nat) : Option (Nat × Nat) :=
  let p := pj.1
  let d := pj.2 / 4
  let t := pj.2 % 4
  let sel := drvSel (word p) pj.2
  let from_ (dir n typ : Nat) : Option (Nat × Nat) := (posStep p (opposite dir) n).map (fun r => (r, 4 * dir + typ))
  if (posStep p d (spanOf t)).isNone then none
  else if sel = 4 then from_ d (spanOf t) t
  else if sel = 8 then from_ ((d + 1) % 4) (spanOf t) t
  else if sel = 16 then from_ ((d + 3) % 4) (spanOf t) t
  else if sel = 32 then (if t = 3 then from_ d 4 2 else if t = 2 then from_ d 1 0 else none)
  else none

/-- Whether following the sources of segment `cur` leads back to segment `start`, over at most the given number of segments. -/
def loopsTo (word : Nat → Nat) (start : Nat × Nat) : Nat → Nat × Nat → Bool
  | 0, _ => false
  | n + 1, cur => match segBefore word cur with
    | none => false
    | some q => q == start || loopsTo word start n q

/-- Whether routing word `w` at position `p`, context `c`, closes a loop of routing alone (R135). -/
def State.closesLoop (s : State) (p c w : Nat) : Bool :=
  let word (q : Nat) : Nat := if q = p then w else s.routeWord q c
  (List.range 16).any (fun j => loopsTo word (p, j) routeFuel (p, j))

/-- ROUTE_WORDS checked (R130, R135, R138). -/
def State.checkRoutes (s : State) (l : CfgLoad) (_h : CfgHdr) (tgt : Nat) (b : List Byte) : Option Nat :=
  let k := tgt % 4096
  let first := tgt / 2 ^ 16 % 8
  let cnt := tgt / 2 ^ 20 % 16
  let p := posOfSlot k
  let ws := (List.range cnt).map (fun i => (first + i, numAt b (24 * i) 24))
  if Nat.land tgt 0xF70FFF ≠ tgt ∨ !slotTarget k ∨ cnt = 0 ∨ 8 < first + cnt ∨ b.length ≠ 24 * cnt ∨
      ws.any (fun w => w.2 / 2 ^ 176 != 0) then some C.CFG_FORMAT
  else if ws.any (fun w => (List.range 4).any (fun m => portSelBad p (portSel w.2 m)) ||
      (List.range 16).any (fun j => drvSelBad p j (drvSel w.2 j)) || s.closesLoop p w.1 w.2) then some C.ROUTE_CONFLICT
  else if ws.any (fun w => s.drvForeign p w.2) then some C.FAB_REGION_INVALID
  else if !l.regions.contains (s.slotRegion k) then some C.CFG_SCOPE
  else none

/-- MCELL_INIT checked. -/
def State.checkMcell (s : State) (l : CfgLoad) (_h : CfgHdr) (tgt : Nat) (b : List Byte) : Option Nat :=
  let k := tgt % 4096
  if Nat.land tgt 0x0FFF0FFF ≠ tgt ∨ 2560 ≤ k ∨ slotType k ≠ .m ∨ b.length = 0 ∨ 4096 < tgt / 2 ^ 16 + b.length / 4 then some C.CFG_FORMAT
  else if !l.regions.contains (s.slotRegion k) then some C.CFG_SCOPE
  else none

/-- Whether a sequencer frame of a load of this kind is in scope for site `n` (R406). -/
def State.seqScope (s : State) (h : CfgHdr) (n : Nat) : Bool := h.kind == 1 || !s.siteActive n

/-- PSQ_IMEM checked. -/
def State.checkImem (s : State) (_l : CfgLoad) (h : CfgHdr) (tgt : Nat) (b : List Byte) : Option Nat :=
  if Nat.land tgt 0xFFFF000F ≠ tgt ∨ b.length = 0 ∨ 0x10000 < tgt / 2 ^ 16 + b.length / 4 then some C.CFG_FORMAT
  else if !s.seqScope h (tgt % 16) then some C.CFG_SCOPE
  else none

/-- PSQ_CONFIG checked. -/
def State.checkPsqConfig (s : State) (_l : CfgLoad) (h : CfgHdr) (tgt : Nat) (b : List Byte) : Option Nat :=
  let vents := (List.range 8).map (fun k => numAt b (4 * k) 4)
  if 15 < tgt ∨ b.length ≠ 48 ∨ numAt b 40 8 ≠ 0 ∨ vents.any (fun v => Nat.land v 0xBFFF != v) ∨ 4096 ≤ numAt b 36 4 then some C.CFG_FORMAT
  else if s.ventsForeign tgt b then some C.PSQ_VENT_INVALID
  else if !s.seqScope h tgt then some C.CFG_SCOPE
  else none

/-- SLICE_SITE checked (R3, R406, R407). -/
def State.checkSliceSite (s : State) (l : CfgLoad) (h : CfgHdr) (tgt : Nat) (b : List Byte) : Option Nat :=
  let xr (k : Nat) : Nat := s.fld (F.FAB_RGN_XMAP.REGION (k / 2))
  let v (k : Nat) : Nat := (b.getD k 0).toNat
  if tgt ≠ 0 ∨ b.length ≠ 256 ∨ b.any (fun x => decide (31 < x.toNat)) then some C.CFG_FORMAT
  else if s.sitesForeign b then some C.FAB_REGION_INVALID
  else if s.f128 ∧ (List.range 256).any (fun k => decide (128 ≤ k) && bitOf (v k) 4) then some C.CFG_IDENTITY_MISMATCH
  else if h.kind = 2 ∧ (List.range 256).any (fun k => !l.regions.contains (xr k) && v k != (s.reg (R.PSL_SITE k)).toNat % 32) then
    some C.CFG_SCOPE
  else none

/-- INIT_STATE checked: of qword 0 only CY of an A-cell and V and S of a B-cell's W may be 1 (R404). -/
def State.checkInit (s : State) (l : CfgLoad) (_h : CfgHdr) (tgt : Nat) (b : List Byte) : Option Nat :=
  let ty := slotType tgt
  let ok : Nat := if ty = .a then 0x80 else if ty = .b then 0x180000 else 0
  if 4095 < tgt ∨ !slotTarget tgt ∨ b.length ≠ 64 ∨ Nat.land (numAt b 0 8) ok ≠ numAt b 0 8 then some C.CFG_FORMAT
  else if !l.regions.contains (s.slotRegion tgt) then some C.CFG_SCOPE
  else none

/-- END checked. -/
def State.checkEnd (_s : State) (_l : CfgLoad) (_h : CfgHdr) (tgt : Nat) (b : List Byte) : Option Nat :=
  if tgt ≠ 0 ∨ b.length ≠ 0 then some C.CFG_FORMAT else none

/-- REGION_MAP applied (R84, R141, R404, R411): the map, the regions that a FULL load is loading, cells that change hands cleared, and regions
no longer named EMPTY. -/
def State.applyMap (s : State) (h : CfgHdr) (_tgt : Nat) (b : List Byte) : State :=
  let named := mapNamed b
  let s3 := (s.withMap b).clearSlots (s.movedSlots b)
  let s4 := ((List.range 64).filter (fun g => g != 0)).foldl (fun t g =>
    let u := t.setFld (F.FAB_RGN_DESC.NCL g) (t.rgnClusters g).length
    if !named.contains g then
      let w := u.setRgnState g 0
      { w with cfg := { w.cfg with pmins := w.cfg.pmins.filter (fun e => e.1 != g) } }
    else if h.kind = 1 then
      (u.setFlds [(F.FAB_RGN_DESC.STATE g, 1), (F.FAB_RGN_DESC.SITE g, 0), (F.FAB_RGN_DESC.BPOL g, 0), (F.FAB_RGN_DESC.BVAL g, 0)]).setReg
        (R.FAB_RGN_BCONST g) 0
    else u) s3
  ((s4.mapLoad (fun l => { l with mapSeen := true, regions := if h.kind = 1 then named else l.regions.filter named.contains })).unsealAll s).updPmin

/-- REGION_DESC applied; a site that it leaves without a region is IDLE (R213). -/
def State.applyDesc (s : State) (_h : CfgHdr) (g : Nat) (b : List Byte) : State :=
  ((s.setFlds [(F.FAB_RGN_DESC.SITE g, numAt b 0 1), (F.FAB_RGN_DESC.BPOL g, numAt b 1 1 % 2), (F.FAB_RGN_DESC.BVAL g, numAt b 1 1 / 2 % 2)]).setReg
    (R.FAB_RGN_BCONST g) (BitVec.ofNat 64 (numAt b 4 4))).unsealAll s

/-- Whether a configuration write to context `c` of position `p` is refused because the cell that works there is live and `c` is its ACTIVE context, or its
PENDING one while PEND is 1 (R82, R83, R104, R131). -/
def State.liveWrite (s : State) (p c : Nat) : Bool :=
  let x := s.ctxOf (s.driver p)
  s.rgnState (s.posRegion p) == 3 && (s.activeCtx p == c || (x.pend && x.pending == c))

/-- A write that R82 refuses is reported; the word is unchanged. -/
def State.refuseLive (s : State) (p : Nat) : State := s.report C.FAB_CTX_LIVE_WRITE (srcSlot (s.driver p)) (s.activeCtx p)

/-- Word `w` of the context store of slot `k` written by a frame, its context's LOADED flag with it (R76), unless R82 refuses it. -/
def State.cfgStoreWrite (s : State) (k w : Nat) (v : Wide) : State :=
  if 8 ≤ w then s.setStoreWord k w v
  else if s.liveWrite (posOfSlot k) w then s.refuseLive (posOfSlot k)
  else (s.setStoreWord k w v).setLoadedFlag k w true

/-- CELL_WORDS applied (R76, R82, R404); a U-cell leaves a cell that this makes a routed-clock B-cell (R105, R118). -/
def State.applyCellWords (s : State) (_h : CfgHdr) (tgt : Nat) (b : List Byte) : State :=
  let k := tgt % 4096
  let s1 := (List.range (tgt / 2 ^ 24 % 16)).foldl (fun t i =>
    t.cfgStoreWrite k (tgt / 2 ^ 16 % 16 + i) (BitVec.ofNat 64 (numAt b (8 * i) 8))) s
  if k < 2560 then s1.leaveRclk (clusterOf (k % 64) (k / 64)) else s1

/-- ROUTE_WORDS applied (R129), each routing word unless R82 refuses it (R131). -/
def State.applyRoutes (s : State) (_h : CfgHdr) (tgt : Nat) (b : List Byte) : State :=
  let p := posOfSlot (tgt % 4096)
  let first := tgt / 2 ^ 16 % 8
  (List.range (tgt / 2 ^ 20 % 16)).foldl (fun t i =>
    if t.liveWrite p (first + i) then t.refuseLive p
    else (List.range 3).foldl (fun u j => u.setRouteThird p (first + i) j (BitVec.ofNat 64 (numAt b (24 * i + 8 * j) 8))) t) s

/-- MCELL_INIT applied: words as seen through FAB_MREP, with S = 0 and correct parity. -/
def State.applyMcell (s : State) (_h : CfgHdr) (tgt : Nat) (b : List Byte) : State :=
  let k := tgt % 4096
  let m := clusterOf (k % 64) (k / 64)
  (List.range (b.length / 4)).foldl (fun t i =>
    t.setMword m (t.physWord m (tgt / 2 ^ 16 + i)) (mkWord (BitVec.ofNat 32 (numAt b (4 * i) 4)) false)) s

/-- PSQ_IMEM applied: the sequencer stops, the words are written and the pages they lie in are not VALID until the commit (R172, R414). -/
def State.applyImem (s : State) (_h : CfgHdr) (tgt : Nat) (b : List Byte) : State :=
  let n := tgt % 16
  let a := tgt / 2 ^ 16
  let q := s.getPsq n
  let pages := (List.range 16).filter (fun p => decide (a / 4096 ≤ p) && decide (p ≤ (a + b.length / 4 - 1) / 4096))
  let s1 := s.setPsq n { q with imem := putWords a (bytesToWords b) q.imem, exec := .stop, access := none, svcAt := none, svcEnd := false }
  let s2 := pages.foldl (fun t p => t.setPage n p 0) s1
  s2.mapLoad (fun l => { l with pages := l.pages ++ (pages.map (fun p => (n, p))).filter (fun e => !l.pages.contains e) })

/-- PSQ_CONFIG applied: kept for the commit (R415). -/
def State.applyPsqConfig (s : State) (_h : CfgHdr) (n : Nat) (b : List Byte) : State :=
  let s1 := s.setPsq n { s.getPsq n with exec := .stop, access := none, svcAt := none, svcEnd := false }
  s1.mapLoad (fun l => { l with psqCfg := l.psqCfg.filter (fun e => e.1 != n) ++ [(n, b)] })

/-- SLICE_SITE applied: kept for the commit. -/
def State.applySliceSite (s : State) (_h : CfgHdr) (_tgt : Nat) (b : List Byte) : State := s.mapLoad (fun l => { l with siteMap := some b })

/-- The fabric word in qword `v` of a slot (R154). -/
def qwordWord (v : Nat) : FWord := ⟨bitOf v 33, bitOf v 32, BitVec.ofNat 32 v⟩

/-- The port pipeline in qword `v` of the slot of cluster `m`'s M-cell (R154); a read in flight loads the word at its address. [DEDUCED 64] -/
def State.pipeOf (s : State) (m v : Nat) : PortPipe :=
  { addr := v % 4096, mode := v / 4096 % 4, busy := bitOf v 14,
    word := if bitOf v 14 then portRead (s.mword m (s.physWord m (v % 4096))) true false else FWord.zero }

/-- INIT_STATE applied in the slot layout of R154, to the cell that owns the target's position, be it a stand-in (R84, R533). The synchroniser word of a B-cell is
taken whether or not its RCLK has been written yet. [DEDUCED 64] -/
def State.applyInit (s : State) (_h : CfgHdr) (k : Nat) (b : List Byte) : State :=
  let q (i : Nat) : Nat := numAt b (8 * i) 8
  let w (i : Nat) : FWord := qwordWord (q i)
  let d := s.driver (posOfSlot k)
  let c := s.cell d
  let ls : CellRegs := { c with q := w 1, l0 := w 2, l1 := w 3, l2 := w 4, l3 := w 5 }
  match slotType k with
  | .a | .u => s.setCell d { ls with acc := w 6, cy := bitOf (q 0) 7 }
  | .b => s.setCell d { ls with sync := w 6, w := BitVec.ofNat 64 (q 7), wv := bitOf (q 0) 19, ws := bitOf (q 0) 20 }
  | .m =>
    let m := clusterOf (k % 64) (k / 64)
    s.setCell k { c with q := w 1, q1 := w 2, pipe0 := s.pipeOf m (q 3), pipe1 := s.pipeOf m (q 4) }
  | .x =>
    let b := s.xsBuf (k - 2816)
    let rd := q 7 % 2 ^ 10
    let words := (List.range (min 1024 (q 7 / 2 ^ 20 % 2 ^ 11))).map (b.entry rd)
    (s.setCell k { c with q := w 1, q1 := w 2, xde := w 3, xxe := w 4, xdo := w 5, xxo := w 6 }).setXsBuf (k - 2816)
      { b with words := words, rd := rd, wr := q 7 / 2 ^ 10 % 2 ^ 10 }

/-- END applied (R405). -/
def State.applyEnd (s : State) (_h : CfgHdr) (_tgt : Nat) (_b : List Byte) : State := s.mapLoad (fun l => { l with ended := true })

/-- The clusters of which a frame would write a unit under a direct or chunk test (R520). [DEDUCED 63] -/
def State.frameWaits (s : State) (typ tgt : Nat) (b : List Byte) : List Nat :=
  let k := tgt % 4096
  (if typ = 1 then (List.range 256).filter (fun i => s.mapEntry i != (b.getD i 0).toNat)
   else if (typ = 3 ∨ typ = 4 ∨ typ = 5 ∨ typ = 9) ∧ k < 2560 then [clusterOf (k % 64) (k / 64)]
   else []).filter s.clusterTested

/-- The next frame of the load in progress is checked and applied when it is of type `typ` (R405, R407, R413); a malformed one or one of no known type fails
the load whichever type is looked for. A PARTIAL image's REGION_MAP is taken wherever it stands, and frames applied before it are checked again under the new map. [DEDUCED 117] -/
def State.frame (s : State) (typ : Nat) (check : State → CfgLoad → CfgHdr → Nat → List Byte → Option Nat)
    (apply : State → CfgHdr → Nat → List Byte → State) : State :=
  match s.cfg.load with
  | none => s
  | some l => match l.hdr with
    | none => s
    | some h =>
      if l.ended then s
      else if l.headBad h then s.loadFail C.CFG_FORMAT 0 (numAt l.plain 0 2) l.consumed true
      else match l.headFrame with
        | none => s
        | some (t, tgt, b) =>
          if t ≠ typ then s
          else if (h.kind = 1 ∧ l.frames = 0 ∧ typ ≠ 1) ∨ (typ = 1 ∧ l.mapSeen) then s.loadFail C.CFG_FORMAT 0 typ l.consumed true
          else match check s l h tgt b with
            | some code => s.loadFail code 0 typ l.consumed true
            | none =>
              if s.frameWaits typ tgt b ≠ [] then s.waitFor (s.frameWaits typ tgt b)
              else apply ((s.waitFor []).mapLoad (fun m =>
                { m with plain := m.plain.drop (16 + b.length), consumed := m.consumed + 16 + b.length, frames := m.frames + 1 })) h tgt b

end Sys2Proof.Machine
end

