-- ==== Sys2Proof/Machine/CfgExec.lean ====
section
/-! DEFINITION. The configuration block's commands and events: loads, chain streams and the configuration port (R408 to R431). -/

namespace Sys2Proof.Machine

/-- A LOAD (OP 1) or ABORT (OP 2) refused (R409, R551): its code stands in CFG_STAT.STATUS and is logged; a refusal under R7 with the requester, which for a command of
the configuration port is the host. -/
def State.cfgRefuse (s : State) (req : Option Requester) (op code : Nat) : State :=
  let s1 := s.cfgAnswers.setFld F.CFG_STAT.STATUS code
  if code = C.STATE_REFUSED then s1.logRefused (req.getD .host) R.CFG_CMD op
  else s1.report code (srcOptional req) (s.reg R.CFG_FAIL_INFO).toNat

/-- Why no load may begin now (R409, R526), if it may not. -/
def State.loadBarred (s : State) : Option Nat :=
  if !(s.dev == .ready || s.dev == .loaded) || s.devFault || s.bit F.FAB_SFX_STAT.UNLOAD_BUSY || s.fld F.BIST_STAT.NF == 1 then
    some C.STATE_REFUSED
  else if s.cfg.load.isSome || s.cfg.chain.isSome then some C.CFG_BUSY
  else none

/-- A LOAD of `len` bytes at `base` of source `src` (R408, R409, R419). [DEDUCED 62, 65] -/
def State.startLoad (s : State) (req : Requester) (src : Nat) (chain fallback : Bool) (base len : Nat) : State :=
  match s.loadBarred with
  | some c => s.cfgRefuse (some req) 1 c
  | none =>
    if 2 ≤ src ∨ len < 384 then s.cfgRefuse (some req) 1 C.CFG_FORMAT
    else s.cfgAnswers.beginLoad (some req) src (fallback && src == 1) false chain base (some len)

/-- CFG_LOAD: CFG_CMD with OP = LOAD. -/
def execCfgLoad (req : Requester) (src : Fin 8) (chain : Bool) (fallback : Bool) (s : State) : Host.Outcome State Fault Refusal :=
  .next (s.startLoad req src.val chain fallback (s.reg R.CFG_SRC_ADDR).toNat (s.fld F.CFG_SRC_LEN.BYTES))

/-- An ABORT, of CFG_CMD or of the port (R416): the load fails; a chain stream that this device reads ends with it, while one from upstream goes on
being forwarded. [DEDUCED 61] -/
def State.cfgAbort (s : State) (req : Option Requester) : State :=
  let own := match s.cfg.chain with
    | some c => c.src != 3
    | none => false
  if s.cfg.load.isNone && own then (s.cfgRecord req C.CFG_ABORTED 0 0 0).abortLoad true else s.abortLoad own

/-- CFG_ABORT: CFG_CMD with OP = ABORT (R416, R551). [DEDUCED 62] -/
def execCfgAbort (req : Requester) (s : State) : Host.Outcome State Fault Refusal :=
  if !s.allows req .cfgAbort then .next ((s.cfgAnswers.setFld F.CFG_STAT.STATUS C.STATE_REFUSED).logRefused req R.CFG_CMD 2)
  else .next (s.cfgAbort (some req))

/-- `n` bytes at offset `base` of a load's source: the status of the read, the bytes, and the state after it. `bs` are the bytes that the port
delivers and `status` what the network, the memory or the flash port brings. -/
def State.srcRead (s : State) (src base n status : Nat) (bs : List Byte) : Nat × List Byte × State :=
  if src = 0 then
    let c := memStatus s 172 base n false status
    let s := s.eccSeen 172 base n false status
    if c ≠ 0 then (c, [], s.accLog 172 base c) else (0, s.dpaBytes base n, s.tookFree)
  else if src = 1 then (status, s.flashBytes base n, s)
  else if src = 2 then (0, bs.take n, s)
  else (0, s.cfg.inbuf.take n, s)

/-- The chain stream ends (R420 to R423): the block waits for the next one, or discards what still arrives of this one when it ended early. -/
def State.endChain (s : State) (early : Bool) : State :=
  match s.cfg.chain with
  | none => s
  | some c =>
    let s1 := s.setFlds [(F.CFG_STAT.CHAIN, 0), (F.CFG_STAT.STATE, if s.cfg.load.isSome then s.fld F.CFG_STAT.STATE else 0)]
    { s1 with cfg := { s1.cfg with chain := none, inbuf := [], deaf := early && c.src == 3 } }

/-- Chain-stream bytes sent on DN_PORT in CHAIN packets (R420, R468): at most 5,080 in each. `fuel` bounds the packets. -/
def State.sendChain (s : State) : Nat → List Byte → State
  | 0, _ => s
  | n + 1, bs =>
    if bs = [] then s
    else (s.sendPkt (s.fld F.CFG_CHAIN.DN_PORT) (s.mkPkt 0x08 0xFE 0 0 (bs.take 5080))).sendChain n (bs.drop 5080)

/-- Bytes forwarded downstream, when DN_EN = 1 (R420, R421). -/
def State.forward (s : State) (bs : List Byte) : State := if s.bit F.CFG_CHAIN.DN_EN then s.sendChain bs.length bs else s

/-- Bytes of an upstream stream taken in (R420, R423): what is left of the present image, forwarded where it is to be, and the rest kept for the next
header; bytes of an image that this device loads join that load. -/
def State.chainIntake (s : State) (bs : List Byte) : State :=
  match s.cfg.chain with
  | none => s
  | some c =>
    let now := bs.take c.left
    let s1 := if c.fwd then s.forward now else s
    let own := s1.cfg.load.map (fun l => if l.chained then { l with image := l.image ++ now } else l)
    let got := match own with
      | some l => if l.chained && l.hdr.isSome then s1.setFld F.CFG_PROGRESS.BYTES l.image.length else s1
      | none => s1
    { got with cfg := { s1.cfg with load := own, chain := some { c with left := c.left - now.length }, inbuf := s1.cfg.inbuf ++ bs.drop c.left } }

/-- The header of the load in progress is checked and the load begins or ends (R410, R411, R427, R428). -/
def State.loadHeader (s : State) (l : CfgLoad) (b : List Byte) : State :=
  if !hdrFormatOk b l.avail then s.loadFail C.CFG_FORMAT 0 0 0 false
  else
    let h := parseHdr b
    let s1 := s.setFld F.CFG_STAT.KIND h.kind
    match s1.headerFault h ((b.drop 64).take 48) (numAt b 8 1) (numAt b 10 2) with
    | some e => s1.loadFail e.1 e.2 0 0 true
    | none =>
      if s1.beginWaits h ≠ [] then s.waitFor (s1.beginWaits h)
      else (s1.mapLoad (fun l => { l with image := if l.src = 3 then l.image else b.take 256 })).imageBegins h

/-- An image of a chain stream addressed to this device is refused and skipped (R409, R422, R423). -/
def State.skipImage (s : State) (c : CfgChain) (code : Nat) : State :=
  let s1 := (s.cfgRecord c.req code 0 0 0).setFld F.CFG_CHAIN_STAT.OWN_STATUS code
  if s1.cfg.load.isSome then s1 else s1.setFld F.CFG_STAT.STATE 5

/-- The stream goes on past the image with header `b`: where its next header begins, what is still to arrive of the present image, and the images
taken. -/
def State.advanceChain (s : State) (c : CfgChain) (b : List Byte) (fwd taken : Bool) : State :=
  let total := numAt b 16 4
  let c1 : CfgChain := { c with
    base := c.base + (if c.src ≤ 1 then total else 0), avail := c.avail.map (· - total),
    seen := if taken then numAt b 12 1 :: c.seen else c.seen, images := c.images + 1,
    left := if c.src = 3 then total - 256 else 0, fwd := fwd, total := total }
  if c.src = 3 then
    let rest := s.cfg.inbuf.drop 256
    ({ s with cfg := { s.cfg with chain := some c1, inbuf := [] } }).chainIntake rest
  else { s with cfg := { s.cfg with chain := some c1 } }

/-- Whether fewer than `n` bytes are left of a source whose size is known. -/
def shortOf (avail : Option Nat) (n : Nat) : Bool :=
  match avail with
  | some a => decide (a < n)
  | none => false

/-- The `n` bytes of an image of chain stream `c` that is forwarded (R420), with the status of their read: what the source holds of them, of those the port delivers the image's
own. `b` is its header. -/
def State.chainBody (s : State) (c : CfgChain) (n status : Nat) (bs b : List Byte) : Nat × List Byte × State :=
  let m := match c.avail with
    | some a => min a n
    | none => n
  if c.src = 3 then (0, b, s) else s.srcRead c.src c.base m status bs

/-- The next header of chain stream `c` (R420 to R423). `bs` are the bytes the port delivers: the header and, of an image to be forwarded, the rest. A stream that its source ends
within an image is truncated; a read of an image to be forwarded that fails ends the stream too (R418). -/
def State.chainHeader (s : State) (c : CfgChain) (status : Nat) (bs : List Byte) : State :=
  if shortOf c.avail 256 then (s.cfgRecord c.req C.CFG_TRUNCATED 0 0 (c.avail.getD 0)).endChain true
  else
    let (st, b, s0) := s.srcRead c.src c.base 256 status bs
    if st ≠ 0 then (s0.cfgRecord c.req C.CFG_SOURCE_ERR st 0 0).endChain true
    else if b.length < 256 ∨ b.take 4 = [0x55, 0x4D, 0x43, 0x45] then s
    else
      let total := numAt b 16 4
      if !hdrMagic b ∨ total < 384 then (s0.cfgRecord c.req C.CFG_FORMAT 0 0 0).endChain true
      else
        let pos := numAt b 12 1
        let own := pos == s.fld F.CSC_STAT.POSITION || pos == 0xFF
        let fwd := pos != s.fld F.CSC_STAT.POSITION
        let short := shortOf c.avail total
        if own ∧ s0.beginWaits (parseHdr b) ≠ [] then s.waitFor (s0.beginWaits (parseHdr b))
        else
        if fwd && c.src == 2 && decide (bs.length < min total (c.avail.getD total)) then s
        else
        let (stb, body, sb) := if fwd then s0.chainBody c total status bs b else (0, [], s0)
        let s1 := if !fwd then sb
          else if sb.bit F.CFG_CHAIN.DN_EN then (sb.addSat F.CFG_CHAIN_STAT.FORWARDED 1).forward body
          else sb.report C.CFG_FORWARD_DROP (srcOptional c.req) (sb.reg R.CFG_FAIL_INFO).toNat
        if stb ≠ 0 then (sb.cfgRecord c.req C.CFG_SOURCE_ERR stb 0 256).endChain true
        else if short && !own then (s1.cfgRecord c.req C.CFG_TRUNCATED 0 0 (c.avail.getD 0)).endChain true
        else
          let s2 := (s1.advanceChain c b fwd (own && !c.seen.contains pos)).setFld F.CFG_STAT.STATE
            (if s1.cfg.load.isSome then s1.fld F.CFG_STAT.STATE else 1)
          if !own then s2
          else if c.seen.contains pos || s2.cfg.load.isSome then s2.skipImage c C.CFG_BUSY
          else if !(s2.dev == .ready || s2.dev == .loaded) || s2.devFault || s2.bit F.FAB_SFX_STAT.UNLOAD_BUSY || s2.fld F.BIST_STAT.NF == 1 then
            s2.skipImage c C.STATE_REFUSED
          else
            let l : CfgLoad := ⟨c.req, c.src, c.fallback, c.golden, true, c.base, c.avail, none, 0, 0, [], 0, false,
              false, 0, [], none, [], [], if c.src = 3 then b ++ (s0.cfg.inbuf.drop 256).take (total - 256) else [], none⟩
            (s2.setLoad (some l)).loadHeader l b

/-- Whether the configuration port delivers image bytes: its LOAD command goes on and the port is enabled (R425). -/
def State.portDelivers (s : State) : Bool :=
  s.bit F.CFG_PORT_CTRL.EN && match s.cfg.port with
    | some (.load _) => true
    | _ => false

/-- CFG_HEADER: the next header of the load or chain stream in progress is received and checked (R410, R411, R420). `bytes` are those that the
configuration port delivers; a header from memory, flash or the cascade is read from there. -/
def execCfgHeader (bytes : List Byte) (status : Half) (s : State) : Host.Outcome State Fault Refusal :=
  match s.cfg.load, s.cfg.chain with
  | some l, c =>
    if l.hdr.isNone then
      if l.src = 2 ∧ (bytes.length < 256 ∨ !s.portDelivers) then .next s
      else
        let (st, b, s0) := s.srcRead l.src l.base 256 status.toNat bytes
        .next (if st ≠ 0 then s0.loadFail C.CFG_SOURCE_ERR st 0 0 false else s0.loadHeader l b)
    else match c with
      | some c => if l.chained || c.left != 0 || (c.src == 2 && !s.portDelivers) then .next s
        else .next (s.chainHeader c status.toNat bytes)
      | none => .next s
  | none, some c =>
    if c.left ≠ 0 ∨ (c.src = 2 ∧ !s.portDelivers) then .next s else .next (s.chainHeader c status.toNat bytes)
  | none, none => .next s

/-- `n` bytes of the image of load `l` from image offset `ofs` on, with the status of the read and the state after it; none while they have not come. `bs` are
those that the port delivers while its LOAD command goes on (R422, R425). -/
def State.imagePart (s : State) (l : CfgLoad) (ofs n status : Nat) (bs : List Byte) : Option (Nat × List Byte × State) :=
  if l.src = 3 then (if l.image.length < ofs + n then none else some (0, (l.image.drop ofs).take n, s))
  else if l.src = 2 then (if !s.portDelivers ∨ bs.length ≠ n then none else some (0, bs, s))
  else some (s.srcRead l.src (l.base + ofs) n status bs)

/-- The 96-bit IV of chunk `c` (R399): NONCE, and `c` as a big-endian number of 4 bytes. -/
def chunkIv (h : CfgHdr) (c : Nat) : List Byte := h.nonce ++ (leBytes 4 c).reverse

/-- The ciphertext decrypted under `key` and `iv` (R399): AES-GCM adds its key stream to it. [DEDUCED 11] -/
def gcmDecrypt (key : Nat) (iv cipher : List Byte) : List Byte := cipher.mapIdx (fun i b => b ^^^ Config.gcmStream key iv i)

/-- CHUNK_AUTHENTICATE: the next chunk is decrypted under the key of KEYSEL and its tag, which covers the header, is checked (R399, R412, R413, R418). -/
def execChunkAuthenticate (cipher : List Byte) (tag : List Byte) (status : Half) (s : State) : Host.Outcome State Fault Refusal :=
  if !wfChunk cipher tag then .refused .illFormed
  else match s.cfg.load with
  | some l => match l.hdr with
    | some h =>
      let c := l.chunks
      let size := if c + 1 = h.nchunk then h.lastLen else 65536
      let ofs := 256 + c * 65552
      if h.nchunk ≤ c then .next s
      else match s.imagePart l ofs (size + 16) status.toNat (cipher ++ tag) with
      | none => .next s
      | some (st, bs, s0) =>
        let key := s0.keyOf h.keysel
        let cipher := bs.take size
        if !s.keyAvailable h.keysel then .next (s.loadFail C.CFG_KEY_UNAVAILABLE 0 0 ofs true)
        else if st ≠ 0 then .next (s0.loadFail C.CFG_SOURCE_ERR st 0 ofs true)
        else if Config.gcmTag key (chunkIv h c) (l.image.take 256) cipher ≠ bs.drop size then .next (s0.loadFail C.CFG_AUTH_FAIL 1 0 ofs true)
        else
          let text := gcmDecrypt key (chunkIv h c) cipher
          let s1 := s0.mapLoad (fun l => { l with chunks := c + 1, recv := ofs + size + 16, plain := l.plain ++ text,
                                                  image := if l.src = 3 then l.image else l.image ++ bs })
          .next (s1.setFlds [(F.CFG_PROGRESS.CHUNKS, c + 1), (F.CFG_PROGRESS.BYTES, max l.image.length (ofs + size + 16)),
                             (F.CFG_STAT.STATE, if c + 1 = h.nchunk then 3 else 2)])
    | none => .next s
  | none => .next s

/-- REGION_MAP frame. -/
def execRegionMap (s : State) : Host.Outcome State Fault Refusal := .next (s.frame 1 State.checkMap State.applyMap)

/-- REGION_DESC frame. -/
def execRegionDesc (s : State) : Host.Outcome State Fault Refusal := .next (s.frame 2 State.checkDesc State.applyDesc)

/-- CELL_WORDS frame. -/
def execCellWords (s : State) : Host.Outcome State Fault Refusal := .next (s.frame 3 State.checkCellWords State.applyCellWords)

/-- ROUTE_WORDS frame. -/
def execRouteWords (s : State) : Host.Outcome State Fault Refusal := .next (s.frame 4 State.checkRoutes State.applyRoutes)

/-- MCELL_INIT frame. -/
def execMcellInit (s : State) : Host.Outcome State Fault Refusal := .next (s.frame 5 State.checkMcell State.applyMcell)

/-- PSQ_IMEM frame. -/
def execPsqImem (s : State) : Host.Outcome State Fault Refusal := .next (s.frame 6 State.checkImem State.applyImem)

/-- PSQ_CONFIG frame. -/
def execPsqConfig (s : State) : Host.Outcome State Fault Refusal := .next (s.frame 7 State.checkPsqConfig State.applyPsqConfig)

/-- SLICE_SITE frame. -/
def execSliceSite (s : State) : Host.Outcome State Fault Refusal := .next (s.frame 8 State.checkSliceSite State.applySliceSite)

/-- INIT_STATE frame. -/
def execInitState (s : State) : Host.Outcome State Fault Refusal := .next (s.frame 9 State.checkInit State.applyInit)

/-- END frame. -/
def execFrameEnd (s : State) : Host.Outcome State Fault Refusal := .next (s.frame 15 State.checkEnd State.applyEnd)

/-- The load in progress commits (R415, R427, R449); a failed cell of a cluster that it assigns is to be stood in for (R518). [DEDUCED 63] -/
def State.commitLoad (s : State) (l : CfgLoad) (h : CfgHdr) (digest : List Byte) : State :=
  let s0 := ((List.range 256).filter (fun m => l.regions.contains (s.fld (F.FAB_RGN_MAP.REGION m)))).foldl (fun t m => (t.leaveRclk m).wantStandIn m) s
  let s1 := l.regions.foldl (fun t g => t.setFlds [(F.FAB_RGN_DESC.STATE g, 2), (F.FAB_RGN_DESC.FAILED g, 0)]) s0
  let s2 := match l.siteMap with
    | some b => (List.range 256).foldl (fun t k => t.setReg (R.PSL_SITE k) (BitVec.ofNat 64 ((b.getD k 0).toNat % 32))) s1
    | none => s1
  let s3 := l.psqCfg.foldl (fun (t : State) c =>
    let u : State := (List.range 8).foldl (fun (v : State) k => v.setReg (R.PSQ_VENT c.1 k) (BitVec.ofNat 64 (numAt c.2 (4 * k) 4))) t
    (u.setReg (R.PSQ_ENTRY c.1) (BitVec.ofNat 64 (numAt c.2 32 4))).setReg (R.PSQ_CFG c.1) (BitVec.ofNat 64 (numAt c.2 36 4))) s2
  let s4 := (l.pages.map (·.1)).dedup.foldl (fun t n =>
    (List.range 16).foldl (fun u p => u.setPage n p (if l.pages.contains (n, p) then 2 else 0)) t) s3
  let s5 := if h.kind = 1 then
      (List.range 4).foldl (fun t i => t.setReg (R.CFG_BUILD_ID i) (BitVec.ofNat 64 (h.buildId / 2 ^ (32 * i) % 2 ^ 32))) s4
    else s4
  let gs := if l.regions = [] then [0] else l.regions
  let s6 : State := { s5 with
    dev := if s5.dev = .ready then .loaded else s5.dev,
    cfg := { s5.cfg with load := none, committed := some (s5.tick, l.regions), pmins := s5.cfg.pmins.filter (fun e => !gs.contains e.1) ++ gs.map (fun g => (g, h.pmin)) } }
  let s7 := ((s6.updPmin.setFlds [(F.CFG_STAT.STATUS, 0), (F.CFG_STAT.GOLDEN, b2n l.golden), (F.CFG_PROGRESS.BYTES, h.totalLen)]).ownStatus
    l 0).attest 4 h.keysel 0 h.buildId digest
  let s8 := s7.setFld F.CFG_STAT.STATE (if s7.cfg.chain.isSome then 1 else 0)
  if l.golden then s8.report C.CFG_GOLDEN_USED (srcOptional l.req) (s8.reg R.CFG_FAIL_INFO).toNat else s8

/-- The public key that SIGNER names (R401): the Ferkiska configuration key, or the enrolled owner key. -/
def State.signerKey (s : State) (signer : Nat) : List Byte :=
  if signer = 0 then Config.configKey
  else match s.activeOwner with
    | some k => leBytes 96 (s.keyOf k)
    | none => []

/-- Whether the signature `sig` of the image of load `l` agrees with the key of SIGNER over every byte before it (R401). -/
def State.signatureOk (s : State) (l : CfgLoad) (h : CfgHdr) (sig : List Byte) : Bool :=
  Config.ecdsaOk (s.signerKey h.signer) (l.image.take (h.totalLen - 96)) sig

/-- A load whose signature has passed commits (R415). -/
def State.commitDue (s : State) : State :=
  match s.cfg.load with
  | some l => match l.hdr, l.commit with
    | some h, some d => s.commitLoad l h d
    | _, _ => s
  | none => s

/-- SIGNATURE_CHECK: the signature of an image whose chunks and frames are done is checked once its last byte has come; the load fails, or commits at the coming tick edge, at
once while FCK is stopped (R401, R402, R405, R415, R418). The SHA-384 of the signed bytes goes into the attestation log (R449). -/
def execSignatureCheck (bytes : List Byte) (status : Half) (s : State) : Host.Outcome State Fault Refusal :=
  if !wfSignature bytes then .refused .illFormed
  else match s.cfg.load with
  | some l => match l.hdr with
    | some h =>
      if l.chunks < h.nchunk ∨ l.commit.isSome ∨ (!l.ended ∧ (l.headBad h ∨ l.headFrame.isSome)) then .next s
      else if !l.ended ∨ l.plain.any (· != 0) then .next (s.loadFail C.CFG_FORMAT 0 0 l.consumed true)
      else match s.imagePart l (h.totalLen - 96) 96 status.toNat bytes with
      | none => .next s
      | some (st, sig, s0) =>
        if st ≠ 0 then .next (s0.loadFail C.CFG_SOURCE_ERR st 0 (h.totalLen - 96) true)
        else if !s0.signatureOk l h sig then .next (s0.loadFail C.CFG_AUTH_FAIL 2 0 (h.totalLen - 96) true)
        else
          let s1 := (s0.mapLoad (fun l => { l with commit := some (Config.sha384 (l.image.take (h.totalLen - 96))) })).setFld F.CFG_STAT.STATE 4
          .next (if s1.fckOn then s1 else s1.commitDue)
    | none => .next s
  | none => .next s

/-- Whether bytes of the image of load `l` are still to come (R418). -/
def CfgLoad.waits (l : CfgLoad) : Bool :=
  l.commit.isNone && match l.hdr with
    | some h => l.src != 3 || decide (l.image.length < h.totalLen)
    | none => true

/-- Whether chain stream `c` stands within an image, or within a header, of which bytes are still to come. -/
def State.chainWaits (s : State) (c : CfgChain) : Bool := c.src != 3 || c.left != 0 || s.cfg.inbuf != []

/-- The load in progress stalls (R418): it fails, and the chain stream that it belongs to ends with it, unless the golden stream has been begun (R427). -/
def State.loadStalls (s : State) (l : CfgLoad) : State :=
  let s1 := (s.loadFail C.CFG_TRUNCATED 0 0 (s.received l) l.hdr.isSome).tookFree
  if l.chained && s1.cfg.load.isNone && (s1.cfg.chain.map (·.golden)) == (s.cfg.chain.map (·.golden)) then s1.endChain false else s1

/-- A chain stream stalls outside an image that this device loads (R418, R423): the bytes received of that image stand in OFFSET. -/
def State.chainStalls (s : State) (c : CfgChain) : State :=
  (s.cfgRecord c.req C.CFG_TRUNCATED 0 0 (if c.left ≠ 0 then c.total - c.left else s.cfg.inbuf.length)).endChain false

/-- FCK_EDGE: an edge of FCK (R27, R52), at which a load whose signature has passed commits (R415); none comes while FCK is stopped. -/
def execFckEdge (s : State) : Host.Outcome State Fault Refusal := if s.fckOn then .next s.siteAnswers.fckEdge.commitDue else .next s

/-- CFG_STALL_TIMEOUT: STALL_US have passed since the last byte of an image that is still to come (R418, R423, R425). Where a load and a chain stream that it does not belong
to both wait, which of them has stalled is free. [DEDUCED 61] -/
def execCfgStallTimeout (s : State) : Host.Outcome State Fault Refusal :=
  let chain := s.cfg.chain.filter s.chainWaits
  match s.cfg.load.filter CfgLoad.waits, chain with
  | some l, some c =>
    if l.chained ∨ Config.unstated s.free 423 % 2 = 0 then .next (s.tookFree.loadStalls l) else .next (s.tookFree.chainStalls c)
  | some l, none => .next (s.loadStalls l)
  | none, some c => if s.cfg.load.any (·.chained) then .next s else .next (s.chainStalls c)
  | none, none => if s.cfg.load.isNone ∧ s.cfg.chain.isNone then .next { s with cfg := { s.cfg with deaf := false } } else .next s

/-- END_OF_CHAIN: the end-of-chain record is received and forwarded like an image; the device is ready for the next stream (R419, R421). [DEDUCED 61] -/
def execEndOfChain (bytes : List Byte) (status : Half) (s : State) : Host.Outcome State Fault Refusal :=
  match s.cfg.chain with
  | none => .next s
  | some c =>
    if s.cfg.load.any (·.chained) then .next s
    else if c.left ≠ 0 ∨ (c.src = 2 ∧ !s.portDelivers) ∨ shortOf c.avail 16 then .next s
    else
      let (st, b, s0) := s.srcRead c.src c.base 16 status.toNat bytes
      if st ≠ 0 then .next ((s0.cfgRecord c.req C.CFG_SOURCE_ERR st 0 0).endChain true)
      else if b.length < 16 ∨ b.take 4 ≠ [0x55, 0x4D, 0x43, 0x45] then .next s
      else
        let rest := s0.cfg.inbuf.drop 16
        let s1 := (s0.forward b).endChain false
        if c.src = 3 ∧ rest ≠ [] then
          let s2 := s1.beginLoad none 3 false false true 0 none
          .next { s2 with cfg := { s2.cfg with inbuf := rest } }
        else .next s1

/-- CFG_CHAIN_WRITE (R431). -/
def execCfgChainWrite (req : Requester) (value : Word) (s : State) : Host.Outcome State Fault Refusal :=
  if s.bit F.CFG_STAT.CHAIN then .next (s.logRefused req R.CFG_CHAIN 0)
  else .next (s.writePlain R.CFG_CHAIN (value.setWidth 64) (maskBits 0 32))

/-- Whether the configuration port takes a command (R425): it is enabled and no LOAD command's bytes are still to come; CFG_CS_N may have stayed low since the command
before. -/
def State.portReady (s : State) : Bool :=
  s.bit F.CFG_PORT_CTRL.EN && match s.cfg.port with
    | some (.load _) => !(s.cfg.load.any (·.src == 2) || s.cfg.chain.any (·.src == 2))
    | _ => true

/-- PORT_LOAD: the port's LOAD command (R408, R409, R425). [DEDUCED 62] -/
def execPortLoad (chain : Bool) (len : Word) (s : State) : Host.Outcome State Fault Refusal :=
  if !s.portReady then .next s
  else
    let s1 : State := { s with cfg := { s.cfg with port := some (.load len.toNat) } }
    match s.loadBarred with
    | some c => .next (s1.cfgRefuse none 1 c)
    | none => .next (s1.cfgAnswers.beginLoad none 2 false false chain 0 (some len.toNat))

/-- Whether slice `x` has the unit in slot `k` under a direct or chunk test (R520). -/
def BistSlice.tests (x : BistSlice) (k : Nat) : Bool :=
  x.back.isNone &&
  ((x.logic == .direct && coreSlot x.cl (sliceCell x.j) == k) || (x.logic == .ucell && 2560 + x.cl == k) ||
   (x.chunk != .none && !x.chunkEnd && mSlot x.cl == k))

/-- A direct or chunk test of the unit that FAB_RB_ADDR names aborts at once, before it is read back for `req` (R159, R520). [DEDUCED 26] -/
def State.rbAbort (s : State) (req : Requester) : State :=
  let hit (x : BistSlice) : Bool := x.tests (s.fld F.FAB_RB_ADDR.SLOT)
  if s.rbServed req && s.bist.slices.any hit then s.abortSlices hit true else s

/-- `n` words read back from FAB_RB_ADDR on (R157, R158, R426). -/
def State.portWords (s : State) : Nat → List Word × State
  | 0 => ([], s)
  | n + 1 =>
    let s1 := (s.rbAbort .host).rbDataRead .host
    let r := s1.portWords n
    (s1.rdata.setWidth 32 :: r.1, r.2)

/-- READBACK: the port's READBACK command returns `count` words from `addr` on, or zeros while RB_EN = 0 (R426) and where the matrix of R551 refuses it. -/
def execReadback (addr : Word) (count : Word) (s : State) : Host.Outcome State Fault Refusal :=
  if !s.portReady then .next s
  else if !s.allows .host .readBack then
    .next ({ s with cfg := { s.cfg with port := some (.words (List.replicate count.toNat 0)) } }.logRefused .host R.FAB_RB_DATA 0)
  else if !s.bit F.CFG_PORT_CTRL.RB_EN then
    .next { s with cfg := { s.cfg with port := some (.words (List.replicate count.toNat 0)) } }
  else
    let keep := s.reg R.FAB_RB_ADDR
    let r := (s.writePlain R.FAB_RB_ADDR (addr.setWidth 64) (maskBits 0 32)).portWords count.toNat
    let s1 := r.2.setReg R.FAB_RB_ADDR keep
    .next { s1 with rdata := s.rdata, cfg := { s1.cfg with port := some (.words r.1) } }

/-- PORT_STATUS: the port's STATUS command returns CFG_STAT (R425). -/
def execPortStatus (s : State) : Host.Outcome State Fault Refusal :=
  if !s.portReady then .next s
  else .next { s with cfg := { s.cfg with port := some (.words [(s.reg R.CFG_STAT).setWidth 32]) } }

/-- PORT_ABORT: the port's ABORT command (R416, R425, R551). [DEDUCED 62] -/
def execPortAbort (s : State) : Host.Outcome State Fault Refusal :=
  if !s.portReady then .next s
  else
    let s1 : State := { s with cfg := { s.cfg with port := some .other } }
    if !s.allows .host .cfgAbort then .next (s1.cfgRefuse none 2 C.STATE_REFUSED) else .next (s1.cfgAbort none)

/-- CFG_CS_N_RAISE: raising CFG_CS_N ends the port's command (R425). -/
def execCfgCsNRaise (s : State) : Host.Outcome State Fault Refusal := .next { s with cfg := { s.cfg with port := none } }

end Sys2Proof.Machine
end

