-- ==== Sys2Proof/Machine/CscExec.lean ====
section
/-! DEFINITION. The constellation block's commands and events: links, packets, votes, holds, formation and calibration (R459 to R499). -/

namespace Sys2Proof.Machine

/-- CRC-8 with polynomial x^8 + x^2 + x + 1 over the `n` low bits of `v`, most significant first, from `r` (R461). -/
def crc8 (v : Nat) : Nat → Nat → Nat
  | 0, r => r
  | n + 1, r =>
    let r' := r * 2 % 256
    crc8 v n (if (r / 128 == 1) != bitOf v n then Nat.xor r' 0x07 else r')

/-- The control block types of R461. -/
def ctypes : List Nat := [0x00, 0x1E, 0x2D, 0x33, 0x4B, 0x55, 0x66, 0x78, 0x87]

/-- The body of a control block on the link (R461): CTYPE, FIELD and CHK. -/
def ctlBody (t : Byte) (field : BitVec 24) : BitVec 40 :=
  let v := t.toNat * 2 ^ 24 + field.toNat
  BitVec.ofNat 40 (v * 256 + crc8 v 32 0)

/-- A received control block whose CHK is good and whose CTYPE is `t` (R461): its FIELD. -/
def ctlField (t : Nat) (body : BitVec 40) : Option Nat :=
  let b := body.toNat
  if crc8 (b / 256) 32 0 = b % 256 ∧ b / 2 ^ 32 = t then some (b / 256 % 2 ^ 24) else none

/-- A control block received on port `p` that is none of type `t`: discarded and counted when its CHK fails or its CTYPE is not listed (R461). [DEDUCED 81] -/
def State.badCtl (s : State) (p : Nat) (body : BitVec 40) : State :=
  let b := body.toNat
  if crc8 (b / 256) 32 0 ≠ b % 256 ∨ !ctypes.contains (b / 2 ^ 32) then s.addSat (F.CSC_PORT_ERR.RESEND p) 1 else s

/-- A control block of type `t` on port `p`, acted on by `f` of its FIELD. -/
def State.onCtl (s : State) (p t : Nat) (body : BitVec 40) (f : Nat → State) : State :=
  match ctlField t body with
  | some v => f v
  | none => s.badCtl p body

/-- CASCADE_LINK_UP: every lane of a port in training has block lock and is deskewed (R465). -/
def execCascadeLinkUp (p : Fin 8) (s : State) : Host.Outcome State Fault Refusal :=
  let k := p.val
  let st := s.fld (F.CSC_PORT_STAT.LSTATE k)
  if !bitOf (s.fld F.CSC_CFG.PORT_EN) k || !bitOf (s.fld F.PWR_DOM_STAT.ON) 19 || (s.cport k).lanes != 15 || st == 2 then .next s
  else .next ((s.setFld (F.CSC_PORT_STAT.LSTATE k) 2).setCport k { CscPort.reset with lanes := 15 })

/-- CASCADE_LINK_DOWN: a lane has lost block lock (R465, R488, R492). -/
def execCascadeLinkDown (p : Fin 8) (s : State) : Host.Outcome State Fault Refusal := .next (s.portDown p)

/-- ALIGN: the lane that its block names is deskewed (R461, R465). -/
def execAlign (p : Fin 8) (body : BitVec 40) (s : State) : Host.Outcome State Fault Refusal :=
  .next (s.onCtl p 0x1E body (fun v => s.setCport p { s.cport p with lanes := Nat.lor (s.cport p).lanes (2 ^ (v % 4)) }))

/-- SYNC: its arrival is timestamped and answered with an ECHO that carries TA, the time until the ECHO's block starts (R476). -/
def execSync (p : Fin 8) (body : BitVec 40) (ta : BitVec 24) (s : State) : Host.Outcome State Fault Refusal :=
  .next (s.onCtl p 0x2D body (fun _ => if s.portUp p then s.sendNow p (.ctl 0x33 ta) else s))

/-- Numbers in ascending order. -/
def sortNat : List Nat → List Nat
  | [] => []
  | x :: xs =>
    let rec ins (a : Nat) : List Nat → List Nat
      | [] => [a]
      | b :: bs => if a ≤ b then a :: b :: bs else b :: ins a bs
    ins x (sortNat xs)

/-- The one-way delay of 64 loops: the median of L ÷ 2, the mean of the two middle loops halved (R476). [PRESUMED 77] -/
def medianHalf (ls : List Nat) : Nat :=
  let s := sortNat ls
  let n := s.length
  (s.getD ((n - 1) / 2) 0 + s.getD (n / 2) 0) / 4

/-- TICKSET for the neighbour on port `p`: the TICK_COUNT of the marked SYNC and the delay (R476, R478). -/
def State.sendTickset (s : State) (p n d : Nat) : State :=
  (s.setFld (F.CSC_PORT_DELAY.D p) d).sendPkt p (s.mkPkt 0x14 0xFE 0 n (leBytes 4 d))

/-- ECHO: the loop of one SYNC closes (R476, R478). `n` is the TICK_COUNT of the SYNC it answers and `elapsed` the time from that SYNC's start to the
ECHO's arrival, in 1/64 tick. After 64 loops of a calibration the delay is known and the pole goes on to its next branch. -/
def execEcho (p : Fin 8) (body : BitVec 40) (n : Wide) (elapsed : Word) (s : State) : Host.Outcome State Fault Refusal :=
  .next (s.onCtl p 0x33 body (fun ta =>
    let k := p.val
    let c := s.cport k
    let l := elapsed.toNat - ta
    if !s.portUp k then s
    else if c.cal.isSome then
      let ls := c.loops ++ [l]
      if ls.length < 64 then s.setCport k { c with loops := ls }
      else
        let s1 := (s.setCport k { c with cal := none, loops := [] }).sendTickset k n.toNat (medianHalf ls)
        if s1.bit F.CSC_STAT.POLE then s1.calNext else s1
    else if s.formed && s.fld (F.CSC_PORT_STAT.USE k) == 2 then s.sendTickset k n.toNat (l / 2)
    else s))

/-- The OPs of R468. -/
def packetOps : List Nat := [0x01, 0x02, 0x03, 0x08, 0x10, 0x11, 0x12, 0x13, 0x14, 0x15, 0x16, 0x17, 0x18, 0x19, 0x1A]

/-- The answer of the pole to a request for a position that no member has (R492, R500): a pooled request ends with CSC_POOL_ABSENT and a remote access with
CSC_REMOTE_ERR. [DEDUCED 143] -/
def State.answerAbsent (s : State) (k : CscPkt) : State :=
  let d := k.src.toNat
  let op := k.op.toNat
  if op = 0x01 ∨ op = 0x02 then s.sendTo d (s.mkPkt 0x03 d k.tag.toNat C.CSC_POOL_ABSENT [])
  else if op = 0x18 ∨ op = 0x19 then s.sendTo d (s.mkPkt 0x1A d k.tag.toNat (C.CSC_REMOTE_ERR * 2 ^ 32) [])
  else s

/-- A packet received whole on port `p` is delivered to this device, forwarded, or both (R468). -/
def State.routePkt (s : State) (p : Nat) (k : CscPkt) : State :=
  let dst := k.dst.toNat
  let deliver (t : State) : State := { t with csc := { t.csc with inbox := t.csc.inbox ++ [(p, k)] } }
  if !packetOps.contains k.op.toNat then s.addSat (F.CSC_PORT_ERR.RESEND p) 1
  else if dst = 0xFE then deliver s
  else if dst = 0xFD then (s.formedPorts.filter (fun q => q != p)).foldl (fun t q => t.sendPkt q k) (deliver s)
  else if dst = s.fld F.CSC_STAT.POSITION ∧ s.ownSrc ≠ 0xFF then deliver s
  else match s.portTo dst with
    | some q => s.sendPkt q k
    | none => s.answerAbsent k

/-- PKT: a packet arrives whole, checked by SEQ and CRC, acknowledged and routed (R466 to R468). While a resend is awaited, only the resent packet itself is answered
again. [DEDUCED 81] -/
def execPkt (p : Fin 8) (seq : Fin 1024) (bytes : List Byte) (s : State) : Host.Outcome State Fault Refusal :=
  let k := p.val
  let c := s.cport k
  if !wfPacket bytes then .refused .illFormed
  else if !s.portUp k then .next s
  else
    let ahead := (seq.val + 1024 - c.rxSeq) % 1024
    match parsePacket bytes with
    | some pk =>
      if ahead = 0 then
        .next (((s.setCport k { c with rxSeq := (c.rxSeq + 1) % 1024, naked := false }).sendNow k
          (.ctl 0x55 (BitVec.ofNat 24 seq.val))).routePkt k pk)
      else if 512 ≤ ahead then
        .next ((s.addSat (F.CSC_PORT_ERR.RESEND k) 1).sendNow k (.ctl 0x55 (BitVec.ofNat 24 ((c.rxSeq + 1023) % 1024))))
      else
        let s1 := s.addSat (F.CSC_PORT_ERR.RESEND k) 1
        .next (if c.naked then s1 else (s1.setCport k { c with naked := true }).sendNow k (.ctl 0x66 (BitVec.ofNat 24 c.rxSeq)))
    | none =>
      let s1 := s.addSat (F.CSC_PORT_ERR.RESEND k) 1
      .next (if c.naked && ahead != 0 then s1
        else (s1.setCport k { c with naked := true }).sendNow k (.ctl 0x66 (BitVec.ofNat 24 c.rxSeq)))

/-- The packets of port `p` up to SEQ `v` are acknowledged; others that waited for room among the 64 on the link go out (R467). -/
def State.ackTo (s : State) (p v : Nat) : State :=
  let c := s.cport p
  match c.unacked.findIdx? (fun e => e.1 == v) with
  | none => s
  | some i =>
    let rest := c.unacked.drop (i + 1)
    let fresh := (rest.take 64).drop (64 - (i + 1))
    fresh.foldl (fun t e => t.sendNow p (.pkt e.1 e.2.2)) (s.setCport p { c with unacked := rest })

/-- ACK (R467). -/
def execAck (p : Fin 8) (body : BitVec 40) (s : State) : Host.Outcome State Fault Refusal :=
  .next (s.onCtl p 0x55 body (fun v => s.ackTo p (v % 1024)))

/-- NAK: the packets from the SEQ named are sent again; one sent again 8 times takes the port DOWN (R467). -/
def execNak (p : Fin 8) (body : BitVec 40) (s : State) : Host.Outcome State Fault Refusal :=
  .next (s.onCtl p 0x66 body (fun f =>
    let k := p.val
    let v := f % 1024
    let s1 := s.ackTo k ((v + 1023) % 1024)
    let c := s1.cport k
    match c.unacked.findIdx? (fun e => e.1 == v) with
    | none => s1
    | some i =>
      let again := (c.unacked.take 64).drop i
      if again.any (fun e => decide (8 ≤ e.2.1 + 1)) then (s1.addSat (F.CSC_PORT_ERR.RESEND k) again.length).portDown k
      else
        let s2 := s1.setCport k { c with unacked := c.unacked.take i ++ again.map (fun e => (e.1, e.2.1 + 1, e.2.2)) ++ c.unacked.drop 64 }
        again.foldl (fun t e => t.sendNow k (.pkt e.1 e.2.2)) (s2.addSat (F.CSC_PORT_ERR.RESEND k) again.length)))

/-- PACKET_ACK_TIMEOUT: 20 µs without an ACK while packets are outstanding (R467). -/
def execPacketAckTimeout (p : Fin 8) (s : State) : Host.Outcome State Fault Refusal :=
  if (s.cport p).unacked.isEmpty then .next s else .next (s.portDown p)

/-- HOLD_BLOCK: a hold raised elsewhere, not seen before, is kept until its effective tick and relayed in the next tick (R487). The block does not carry the
originating code, which stays open. [DESIGN CHOICE 80] -/
def execHoldBlock (p : Fin 8) (body : BitVec 40) (s : State) : Host.Outcome State Fault Refusal :=
  .next (s.onCtl p 0x78 body (fun v =>
    let kind := v / 2 ^ 22
    let grp := v / 256 % 256
    let origin := v % 32
    let eff : Wide := BitVec.ofNat 64 (s.tagAhead (v / 2 ^ 16 % 64))
    if !s.formed || !s.formedPorts.contains p.val || s.csc.holds.any (fun h => h.eff == eff && h.origin == origin) then s
    else
      let h : CscHold := ⟨kind, BitVec.ofNat 16 grp, origin, Config.unstated s.free 487 % 65536, eff⟩
      let s1 := ({ s with csc := { s.csc with holds := s.csc.holds ++ [h] } }).tookFree
      s1.sendAt (s.tick.toNat + 1) (s.formedPorts.filter (fun q => q != p.val)) (.ctl 0x78 (BitVec.ofNat 24 v))))

/-- DOWN: the device at a position leaves in order (R488, R495): a loss while a site is active or a chain stream is in progress, else the neighbour is removed; a device left without its
upstream neighbour re-forms, and the departure of one further down is passed up to the pole. [DEDUCED 79] -/
def execDown (p : Fin 8) (body : BitVec 40) (s : State) : Host.Outcome State Fault Refusal :=
  .next (s.onCtl p 0x87 body (fun v =>
    let k := p.val
    let pos := v % 32
    let use := s.fld (F.CSC_PORT_STAT.USE k)
    let neighbour := s.fld (F.CSC_PORT_STAT.PEER k) == pos
    if use ≠ 1 ∧ use ≠ 2 then s
    else if (List.range 16).any s.siteActive || s.cfg.chain.isSome then s.loseNeighbour k
    else
      let relay (t : State) : State := t.upPorts.foldl (fun r q => r.sendNow q (.ctl 0x87 (BitVec.ofNat 24 pos))) t
      let s1 := if neighbour then s.forgetPort k else s.loseMembers (fun m => m.pos == some pos)
      if use = 1 then s1.enterDiscover
      else if s1.bit F.CSC_STAT.POLE then s1
      else relay { s1 with csc := { s1.csc with below := s1.csc.below.filter (fun q => q != pos) } }))

/-- Bytes 0 to 15 of a body as a DEVICE_ID. -/
def idAt (b : List Byte) (o : Nat) : Nat := numAt b o 16

/-- A latest arrival in 1/64 tick with the guard of 1/4 tick, in whole ticks (R479). -/
def wholeTicks (worst : Nat) : Nat := (worst + 16 + 63) / 64

/-- A vote field or decision that arrived `phase` 1/64 ticks into the present tick is one of the 1,024 over which port `p` measures (R479); `base` is the tick
from whose start it counts. A member that has measured all it must sets UP_SEND and reports; the pole fixes the flights. -/
def State.measure (s : State) (p base phase : Nat) : State :=
  let c := s.cport p
  if 1024 ≤ c.seen then s
  else
    let w := max c.worst ((s.tick.toNat - base) * 64 + phase)
    let s1 := s.setCport p { c with worst := w, seen := c.seen + 1 }
    if c.seen + 1 < 1024 then s1
    else
      let up := s1.fld (F.CSC_PORT_STAT.USE p) == 1
      let s2 := s1.setCport p { s1.cport p with dnArr := if up then wholeTicks w - 1 else wholeTicks w }
      let s3 := if up || s2.bit F.CSC_STAT.POLE then s2
        else s2.setFlds [(F.CSC_VSCHED.DN_ARR, wholeTicks w), (F.CSC_VSCHED.UP_SEND, max 3 (wholeTicks w + 2))]
      if s3.bit F.CSC_STAT.POLE then s3.fixFlights
      else if s3.formedPorts.all (fun q => decide (1024 ≤ (s3.cport q).seen)) then s3.sendReport
      else s3

/-- The TAG that a field of port `p` carries when it is due in the present tick (R479, R482, R483): T of the downstream member's votes, T + 12 + F of a decision. -/
def State.dueTag (s : State) (p use : Nat) : Nat :=
  let d := (s.cport p).dnArr % 64
  (s.tick.toNat % 64 + (if use = 1 then 4 + s.fld F.TICK_VOTE_FLIGHT.FLIGHT_DOWN else 0) + 64 - d) % 64

/-- The field due from the neighbour on port `p` in the present tick is lost (R485): logged, a hold raised, and in the second tick running the neighbour is lost (R488). -/
def State.voteLost (s : State) (k : Nat) : State :=
  if !s.formed || !s.formedPorts.contains k || (s.cport k).lostAt == some s.tick then s
  else
    let twice := match (s.cport k).lostAt with
      | some t => t + 1 == s.tick
      | none => false
    let s1 := ((s.setCport k { s.cport k with lostAt := some s.tick }).report C.CSC_VOTE_LOST (s.srcPort k) 0xFF).raiseCscHold 1 0xFF
      C.CSC_VOTE_LOST
    if twice then s1.loseNeighbour k else s1

/-- VOTE_FIELD_RECEIVED: a field of port `p` is deserialised in the present tick (R463, R479, R482, R483, R489). While FORMED one with another TAG than the one due is lost
(R485). -/
def execVoteFieldReceived (p : Fin 8) (field : BitVec 24) (phase : Fin 64) (s : State) : Host.Outcome State Fault Refusal :=
  let k := p.val
  let s1 := if voteFixes field = 0 then s else s.addSat (F.CSC_PORT_ERR.VCORR k) (voteFixes field)
  match voteDecode field with
  | none => .next s1
  | some (vv, tag, grp) =>
    let use := s1.fld (F.CSC_PORT_STAT.USE k)
    if !vv || !s1.portUp k || (use != 1 && use != 2) then .next s1
    else if s1.formed && tag != s1.dueTag k use then .next (s1.voteLost k)
    else if use = 2 then
      let t := s1.tagBehind tag
      let c := s1.cport k
      let s2 := s1.setCport k { c with fields := c.fields.filter (fun e => decide (s1.tick.toNat < e.1 + 192)) ++ [(t, grp)] }
      .next (if s2.fld F.CSC_STAT.CSTATE = 2 then s2.measure k t phase.val else s2)
    else
      let d := s1.tagAhead tag
      let s2 := if s1.csc.cutAt.isSome then s1 else s1.sendAt (s1.tick.toNat + 1) s1.downPorts (.vote (voteField true tag grp))
      let base := s2.tagBehind ((tag + 64 * 5 - 5 - s2.fld F.TICK_VOTE_FLIGHT.FLIGHT_DOWN) % 64)
      .next (if s2.formed then { s2 with csc := { s2.csc with decs := s2.csc.decs ++ [(d - 12 - s2.flight, grp)] } }
        else if s2.fld F.CSC_STAT.CSTATE = 2 ∧ s2.bit F.CSC_STAT.ALIGNED then s2.measure k base phase.val
        else s2)

/-- VOTE_FIELD_LOST: a field due from the neighbour on port `p` in the present tick did not arrive valid (R485, R488). -/
def execVoteFieldLost (p : Fin 8) (s : State) : Host.Outcome State Fault Refusal :=
  .next (s.voteLost p)

/-- HOLD_EFFECTIVE: holds act in their effective tick EFF (R487): every site they match is held, and the last of them is recorded. -/
def execHoldEffective (s : State) : Host.Outcome State Fault Refusal :=
  let now := s.csc.holds.filter (fun h => h.eff == s.tick)
  let act (t : State) (h : CscHold) : State :=
    let sites := (List.range 16).filter (fun n => t.siteActive n &&
      (h.kind == 2 || (t.effBit n (F.PSQ_VOTE_CFG.EN n) && bitOf h.grp.toNat (t.effFld n (F.PSQ_VOTE_CFG.GROUP n)))))
    ((t.holdSites sites C.CSC_REMOTE_HOLD).setFlds [(F.CSC_HOLD_LAST.CODE, h.code), (F.CSC_HOLD_LAST.KIND, h.kind),
      (F.CSC_HOLD_LAST.ORIGIN, h.origin), (F.CSC_HOLD_LAST.GRP, h.grp.toNat % 256)]).setReg R.CSC_HOLD_TICK h.eff
  let s1 := now.foldl act s
  .next { s1 with csc := { s1.csc with holds := s1.csc.holds.filter (fun h => decide (s.tick.toNat < h.eff.toNat)) } }

/-- The oldest packet delivered to this device, when its OP is `op`: its port, the packet, and the state without it. -/
def State.takePkt (s : State) (op : Nat) : Option (Nat × CscPkt × State) :=
  match s.csc.inbox with
  | (p, k) :: rest => if k.op.toNat = op then some (p, k, { s with csc := { s.csc with inbox := rest } }) else none
  | [] => none

/-- The cascade NI of port `p` (R491). -/
def cascadeNi (p : Nat) : Nat := if p < 4 then 174 else 175

/-- The status of a pooled request at its target as one of the NI of the port that it came through (R491); a device that is not FORMED is no target (R492). -/
def State.poolStatus (s : State) (p a n : Nat) (write : Bool) (status : Half) : Nat :=
  if s.formed then memStatus s (cascadeNi p) a n write status.toNat else C.CSC_POOL_ABSENT

/-- MEM_RD: a pooled read served at this target as one of its own cascade NI (R468, R491). `status` is what the network or the memory brings. -/
def execMemRd (status : Half) (s : State) : Host.Outcome State Fault Refusal :=
  match s.takePkt 0x01 with
  | none => .next s
  | some (p, k, s1) =>
    let ni := cascadeNi p
    let a := k.arg.toNat % 2 ^ 38
    let n := k.arg.toNat / 2 ^ 40 % 256 + 1
    let c := s1.poolStatus p a n false status
    let s1 := if s1.formed then s1.eccSeen ni a n false status.toNat else s1
    let d := k.src.toNat
    if c ≠ 0 then .next (let t := s1.accLog ni a c; t.sendTo d (t.mkPkt 0x03 d k.tag.toNat c []))
    else
      let (bs, s2) := s1.readDpa a n
      .next (s2.sendTo d (s2.mkPkt 0x03 d k.tag.toNat 0 bs))

/-- MEM_WR: a pooled write served at this target (R468, R491). -/
def execMemWr (status : Half) (s : State) : Host.Outcome State Fault Refusal :=
  match s.takePkt 0x02 with
  | none => .next s
  | some (p, k, s1) =>
    let ni := cascadeNi p
    let a := k.arg.toNat % 2 ^ 38
    let n := k.arg.toNat / 2 ^ 40 % 256 + 1
    let c := s1.poolStatus p a n true status
    let s1 := if s1.formed then s1.eccSeen ni a n true status.toNat else s1
    let s2 := if c = 0 then s1.unitWrite ni a (k.body.take n) else s1.accLog ni a c
    .next (s2.sendTo k.src.toNat (s2.mkPkt 0x03 k.src.toNat k.tag.toNat c []))

/-- MEM_CPL: the answer to a pooled request of this device (R468, R491). -/
def execMemCpl (s : State) : Host.Outcome State Fault Refusal :=
  match s.takePkt 0x03 with
  | none => .next s
  | some (_, k, s1) => .next (s1.endCascade (fun r => r.cascade == some k.tag.toNat) (k.arg.toNat % 65536) k.body)

/-- CHAIN: chain-stream bytes from the neighbour (R419, R420, R423): on UP_PORT while UP_EN = 1 they are taken in, and begin a stream where none is in
progress; otherwise they are discarded. A stream that this device reads itself goes first. -/
def execChain (s : State) : Host.Outcome State Fault Refusal :=
  match s.takePkt 0x08 with
  | none => .next s
  | some (p, k, s1) =>
    if !s1.bit F.CFG_CHAIN.UP_EN || s1.fld F.CFG_CHAIN.UP_PORT != p || s1.cfg.deaf then .next s1
    else match s1.cfg.chain with
      | some c => if c.src = 3 then .next (s1.chainIntake k.body) else .next s
      | none =>
        if s1.cfg.load.isSome then
          let s2 := s1.setFlds [(F.CFG_STAT.CHAIN, 1), (F.CFG_CHAIN_STAT.FORWARDED, 0), (F.CFG_CHAIN_STAT.LOADED, 0)]
          .next (({ s2 with cfg := { s2.cfg with chain := some ⟨none, 3, false, false, 0, none, [], 0, 0, false, 0⟩ } }).chainIntake k.body)
        else .next ((s1.cfgAnswers.beginLoad none 3 false false true 0 none).chainIntake k.body)

/-- Whether candidate `a` ranks above `b`: POLE above AUTO, then the lower DEVICE_ID (R470). -/
def candBetter (a b : Nat × Nat) : Bool := decide (b.1 < a.1) || (a.1 == b.1 && decide (a.2 < b.2))

/-- The pole's free slot for one more device: there are 32 positions (R471). -/
def State.roomLeft (s : State) : Bool := decide (s.csc.members.length < 31)

/-- Whether the neighbour on port `p` can be offered admission: it is known and has not joined (R471). -/
def State.offerable (s : State) (p : Nat) : Bool :=
  s.portUp p && (s.cport p).peer.isSome && !(s.cport p).joined && s.fld (F.CSC_PORT_STAT.USE p) == 0

/-- ASSIGN for the neighbour on port `p` (R471): none from a pole whose 32 positions are taken, and none after a conflict of poles (R470). [DEDUCED 78] -/
def State.sendAssign (s : State) (p : Nat) : State :=
  match (s.cport p).peer with
  | some (id, _) =>
    if s.offerable p && !s.csc.clash && (!s.bit F.CSC_STAT.POLE || s.roomLeft) then
      s.sendPkt p (s.mkPkt 0x11 0xFE 0 s.csc.epoch (leBytes 16 id))
    else s
  | none => s

/-- The port that a member without a downstream member offers: its lowest UP port whose neighbour has not joined (R471). -/
def State.offerPort (s : State) : Option Nat :=
  if s.downPorts.isEmpty then (List.range 8).find? (fun q => s.offerable q) else none

/-- HELLO: the neighbour's best candidate and itself (R470, R471, R495): a better candidate is adopted, two assigned poles stop forming, and a quiet device that has
joined offers the neighbour admission. A neighbour that sends with a position has joined elsewhere. -/
def execHello (s : State) : Host.Outcome State Fault Refusal :=
  match s.takePkt 0x10 with
  | none => .next s
  | some (p, k, s0) =>
    let c := s0.cport p
    let joined := s0.fld (F.CSC_PORT_STAT.USE p) == 2 || k.src != 0xFF
    let s1 := s0.setCport p { c with peer := some (idAt k.body 0, numAt k.body 16 1), joined := joined }
    let s2 := if k.src = 0xFF then s1 else s1.setFld (F.CSC_PORT_STAT.PEER p) (k.src.toNat % 32)
    let heard := (roleRank (numAt k.body 36 1), idAt k.body 20)
    let rival := (heard.1 == 2 && heard.2 != s2.deviceId) || (numAt k.body 16 1 == 1 && idAt k.body 0 != s2.deviceId)
    let st := s2.fld F.CSC_STAT.CSTATE
    if st = 0 ∨ s2.csc.clash then .next s2
    else if s2.csc.role = 1 ∧ rival then
      .next (({ s2 with csc := { s2.csc with clash := true } }).report C.CSC_POLE_CONFLICT (s2.srcPort p) (s2.fld (F.CSC_PORT_STAT.PEER p)))
    else if st = 1 then
      let adopt := heard.1 != 0 && (match s2.csc.cand with
        | some b => candBetter heard b
        | none => true)
      let s3 : State := if adopt then { s2 with csc := { s2.csc with cand := some heard } } else s2
      .next (if s3.bit F.CSC_STAT.POLE then s3.sendAssign p else s3)
    else if st = 2 ∨ st = 3 then
      let offers := if s2.bit F.CSC_STAT.POLE then s2.membersQuiet else s2.offerPort == some p
      .next (if offers && s2.cscQuiet && s2.cfg.chain.isNone then s2.sendAssign p else s2)
    else .next s2

/-- POLE_ELECTED: the device has remained its own candidate for 200 µs (R470, R471, R473). -/
def execPoleElected (s : State) : Host.Outcome State Fault Refusal :=
  let own := roleRank s.csc.role != 0 && s.csc.cand == some (roleRank s.csc.role, s.deviceId)
  if s.fld F.CSC_STAT.CSTATE ≠ 1 ∨ !own ∨ s.csc.clash ∨ s.bit F.CSC_STAT.POLE ∨ s.csc.up.isSome ∨
      (List.range 8).all (fun p => !s.portUp p) then .next s
  else
    let s1 := s.setFlds [(F.CSC_STAT.POLE, 1), (F.CSC_STAT.POSITION, 0), (F.CSC_STAT.ALIGNED, 1), (F.CFG_CHAIN.POSITION, 0),
      (F.CFG_CHAIN.UP_EN, 0), (F.CFG_CHAIN.DN_EN, 0)]
    let s2 : State := { s1 with csc := { s1.csc with epoch := s1.csc.epoch + 1 } }
    .next ((List.range 8).foldl (fun t p => t.sendAssign p) s2)

/-- ASSIGN: the device is admitted through the port it arrives on, reports, and offers its lowest UP port whose neighbour has not joined (R471, R472, R475). A
joined device enters CALIBRATE on an ASSIGN of a new epoch and passes it on: one that names no device calibrates every link again (R498); one that names a device is that
device's admission, which leaves the phases of the others as they are (R495). One that is not quiet stays PENDING until it is (R475). [DEDUCED 78] -/
def execAssign (s : State) : Host.Outcome State Fault Refusal :=
  match s.takePkt 0x11 with
  | none => .next s
  | some (p, k, s1) =>
    let epoch := k.arg.toNat
    if s1.csc.up = some p then
      if epoch = s1.csc.epoch ∨ s1.fld F.CSC_STAT.CSTATE = 4 then .next s1
      else if !s1.cscQuiet then .next (({ s1 with csc := { s1.csc with waits := true } }).setFld F.CSC_STAT.CSTATE 4)
      else
        let whole := idAt k.body 0 == 0
        let s2 := s1.measureAnew
        let s3 := ({ s2 with csc := { s2.csc with epoch := epoch, recal := whole } }).setFlds [(F.CSC_STAT.CSTATE, 2),
          (F.CSC_STAT.ALIGNED, if whole then 0 else s2.fld F.CSC_STAT.ALIGNED)]
        .next (s3.downPorts.foldl (fun t q => t.sendPkt q k) s3)
    else if s1.csc.up.isSome ∨ s1.bit F.CSC_STAT.POLE ∨ idAt k.body 0 ≠ s1.deviceId ∨ s1.csc.role = 3 ∨ s1.csc.clash then .next s1
    else if !(s1.fld F.CSC_STAT.CSTATE = 1 ∨ s1.fld F.CSC_STAT.CSTATE = 4) then .next s1
    else if !s1.cscQuiet then .next (({ s1 with csc := { s1.csc with waits := true } }).setFld F.CSC_STAT.CSTATE 4)
    else
      let s2 := ({ s1 with csc := { s1.csc with up := some p, epoch := epoch, waits := false } }).setFlds [(F.CSC_PORT_STAT.USE p, 1), (F.CSC_STAT.CSTATE, 2),
        (F.CSC_STAT.ALIGNED, 0)]
      let s3 := s2.sendReport
      .next (match s3.offerPort with
        | some q => s3.sendAssign q
        | none => s3)

/-- The branch order of members: ascending pole port, then ascending depth (R472). -/
def memberOrder (a b : CscMember) : Bool := decide (a.port < b.port) || (a.port == b.port && decide (a.depth ≤ b.depth))

/-- A member put into branch order. -/
def insertMember (m : CscMember) : List CscMember → List CscMember
  | [] => [m]
  | x :: xs => if memberOrder m x then m :: x :: xs else x :: insertMember m xs

/-- Positions for the members `ms` that have none, in branch order (R472), where `taken` are given already: first the requests that can be granted, then the
lowest free positions. -/
def givePositions (ms : List CscMember) (taken : List Nat) : List CscMember :=
  let r := ms.foldl (fun (acc : List CscMember × List Nat) m =>
    if m.pos.isNone && m.posReq != 0 && !acc.2.contains m.posReq then (acc.1 ++ [{ m with pos := some m.posReq }], m.posReq :: acc.2)
    else (acc.1 ++ [m], acc.2)) ([], taken)
  let free (t : List Nat) : Option Nat := (List.range 32).find? (fun q => q != 0 && !t.contains q)
  (r.1.foldl (fun (acc : List CscMember × List Nat) m =>
    if m.pos.isSome then (acc.1 ++ [m], acc.2)
    else match free acc.2 with
      | some q => (acc.1 ++ [{ m with pos := some q }], q :: acc.2)
      | none => (acc.1 ++ [m], acc.2)) ([], r.2)).1

/-- The pole assigns positions to its members that have none and tells them (R472, R473). -/
def State.assignPositions (s : State) : State :=
  let old := s.csc.members.filterMap (·.pos)
  let ms := givePositions s.csc.members old
  let fresh := ms.filter (fun m => m.pos.isSome && !old.any (fun q => m.pos == some q))
  let s1 : State := { s with csc := { s.csc with members := ms } }
  fresh.foldl (fun t m => match m.pos with
    | some q =>
      let u := (t.sendPkt m.port (t.mkPkt 0x13 0xFE 0 q [])).setFlds [(F.CSC_MEMBER.BRANCH q, m.port), (F.CSC_MEMBER.DEPTH q, m.depth),
        (F.CSC_MEMBER.STATE q, m.state)]
      if m.depth = 1 then u.setFld (F.CSC_PORT_STAT.PEER m.port) q else u
    | none => t) s1

/-- Every device enters CALIBRATE for a new round, which ASSIGN of a new epoch tells the members: with the DEVICE_ID of a device to be admitted (R495), or 0 where every link is
calibrated again (R498). [DEDUCED 78] -/
def State.newEpoch (s : State) (id : Nat) : State :=
  let s2 := ({ s with csc := { s.csc with epoch := s.csc.epoch + 1 } }).measureAnew
  s2.downPorts.foldl (fun t q => t.sendPkt q (t.mkPkt 0x11 0xFE 0 t.csc.epoch (leBytes 16 id))) s2

/-- The link of a device that joined on port `p` is calibrated (R476): at the pole after those whose calibration is under way. -/
def State.calibrateNew (s : State) (p : Nat) : State :=
  if (List.range 8).any (fun q => (s.cport q).cal.isSome) then { s with csc := { s.csc with walk := s.csc.walk ++ [p] } } else s.startCal p

/-- A new member of a constellation that has its positions is admitted (R495): it gets a position, its own link alone is calibrated, and the flights are measured again. The
others keep their positions, phases and TICK_COUNT. [DEDUCED 78] -/
def State.takeIn (s : State) (m : CscMember) : State :=
  let s1 := (s.newEpoch m.id).setFld F.CSC_STAT.CSTATE 2
  let s2 : State := { s1 with csc := { s1.csc with members := s1.csc.members.map (fun x => { x with ready := false }) } }
  let s3 := s2.assignPositions
  if m.depth = 1 then s3.calibrateNew m.port else s3

/-- A REPORT that arrives first on port `p` from the neighbour itself: the neighbour has joined as downstream member (R471). A member that has its position already writes its
downstream port (R473), and one that is aligned calibrates the link (R476). -/
def State.joinBelow (s : State) (p : Nat) : State :=
  let s1 := (s.setCport p { s.cport p with joined := true, seen := 0, worst := 0 }).setFld (F.CSC_PORT_STAT.USE p) 2
  if s1.bit F.CSC_STAT.POLE then s1
  else
    let s2 := if s1.fld F.CSC_STAT.POSITION = 0 then s1 else s1.setFlds [(F.CFG_CHAIN.DN_PORT, p), (F.CFG_CHAIN.DN_EN, 1)]
    if s2.bit F.CSC_STAT.ALIGNED then s2.startCal p else s2

/-- A member's later REPORT at the pole: the first of a round tells that the member is aligned (R476), the next its flights (R479). One whose flights are known and that has no
DN_ARR has no downstream member, so members behind it are gone (R495). [DEDUCED 142] -/
def State.memberReports (s : State) (m : CscMember) (arg : Nat) : State :=
  let m' : CscMember := { m with state := arg % 16, pmin := arg / 2 ^ 16 % 65536, down := arg / 2 ^ 32 % 256, dnArr := arg / 2 ^ 40 % 256,
                                 aligned := true, ready := m.ready || m.aligned }
  let s1 : State := { s with csc := { s.csc with members := s.csc.members.map (fun x => if x.id = m.id then m' else x) } }
  let s2 := match m'.pos with
    | some q => s1.setFld (F.CSC_MEMBER.STATE q) m'.state
    | none => s1
  let s3 := if m'.ready && m'.dnArr == 0 then s2.loseMembers (fun x => x.port == m.port && decide (m.depth < x.depth)) else s2
  s3.fixFlights

/-- REPORT: a member passes it up with its depth increased; the pole records the member, admits a new one, and fixes the flights when they are known (R472,
R476, R479, R495). A second neighbour of a member, and a device beyond the 32nd, get no position (R471). [DEDUCED 78] -/
def execReport (s : State) : Host.Outcome State Fault Refusal :=
  match s.takePkt 0x12 with
  | none => .next s
  | some (p, k, s0) =>
    let id := idAt k.body 0
    let depth := numAt k.body 17 1
    let arg := k.arg.toNat
    let fresh := depth == 1 && s0.fld (F.CSC_PORT_STAT.USE p) != 2
    if !s0.bit F.CSC_STAT.POLE then
      if fresh && !s0.downPorts.isEmpty then .next s0
      else
        let s1 := if fresh then s0.joinBelow p else s0
        match s1.csc.up with
        | some q => .next (s1.sendPkt q { k with body := k.body.take 17 ++ leBytes 1 (depth + 1) ++ k.body.drop 18 })
        | none => .next s1
    else
      match s0.csc.members.find? (fun m => m.id == id) with
      | some m => .next ((if fresh then s0.joinBelow p else s0).memberReports m arg)
      | none =>
        if !s0.roomLeft then .next s0
        else
          let s1 := if fresh then s0.joinBelow p else s0
          let m : CscMember := { id := id, port := p, depth := depth, posReq := numAt k.body 16 1 % 32, pos := none, pmin := arg / 2 ^ 16 % 65536,
                                 dnArr := 0, down := 0, state := arg % 16, aligned := false, ready := false, out := false }
          let s2 : State := { s1 with csc := { s1.csc with members := insertMember m s1.csc.members } }
          .next (if s2.fld F.CSC_STAT.CSTATE = 1 then s2 else s2.takeIn m)

/-- POSITION: the first device of a branch without a position takes it and writes CFG_CHAIN; others pass it on (R472, R473). -/
def execPosition (s : State) : Host.Outcome State Fault Refusal :=
  match s.takePkt 0x13 with
  | none => .next s
  | some (_, k, s1) =>
    let pos := k.arg.toNat % 32
    if s1.fld F.CSC_STAT.POSITION ≠ 0 ∨ s1.bit F.CSC_STAT.POLE then
      let fresh := s1.csc.below.isEmpty
      let s2 : State := { s1 with csc := { s1.csc with below := s1.csc.below ++ [pos] } }
      .next (s2.downPorts.foldl (fun t q =>
        let u := t.sendPkt q k
        if fresh then u.setFld (F.CSC_PORT_STAT.PEER q) pos else u) s2)
    else
      let s2 := s1.setFlds [(F.CSC_STAT.POSITION, pos), (F.CFG_CHAIN.POSITION, pos), (F.CFG_CHAIN.UP_PORT, s1.csc.up.getD 0),
        (F.CFG_CHAIN.UP_EN, 1), (F.CFG_CHAIN.DN_PORT, (s1.downPorts.head?).getD 0), (F.CFG_CHAIN.DN_EN, b2n (!s1.downPorts.isEmpty))]
      .next (if s2.csc.posReq ≠ 0 ∧ s2.csc.posReq ≠ pos then s2.report C.CSC_POS_CONFLICT (s2.srcPort (s2.csc.up.getD 0)) pos else s2)

/-- The absolute value of a signed byte. -/
def absByte (b : Byte) : Nat := if b.toNat < 128 then b.toNat else 256 - b.toNat

/-- TICKSET: within a calibration the member sets its FCK phase and TICK_COUNT, is aligned, reports, and calibrates the member below it (R53, R476); while FORMED
its phase is trimmed by `err`, the error found, in 1/64 tick (R478). `elapsed` counts the ticks since the edge of count n. -/
def execTickset (elapsed : Word) (err : Byte) (s : State) : Host.Outcome State Fault Refusal :=
  match s.takePkt 0x14 with
  | none => .next s
  | some (p, k, s1) =>
    if s1.csc.up ≠ some p then .next s1
    else if s1.formed then
      let e := absByte err
      let s2 := s1.setFld F.CSC_ALIGN.ERR err.toNat
      let s3 := if 2 < e then s2.addSat F.CSC_ALIGN.WARN_CNT 1 else s2
      .next (if 8 < e then (s3.report C.CSC_ALIGN_LOST (s3.srcPort p) (s3.fld F.CSC_STAT.POSITION)).raiseCscHold 2 0 C.CSC_ALIGN_LOST else s3)
    else if s1.fld F.CSC_STAT.CSTATE = 2 then
      let s2 := ({ s1 with tick := k.arg + elapsed.setWidth 64 }).setFld F.CSC_STAT.ALIGNED 1
      .next (s2.downPorts.foldl (fun t q => t.startCal q) s2.sendReport)
    else .next s1

/-- FLIGHT: Fu and Fd, with which the device is FORMED; flights beyond 40 ticks tell it that it stays PENDING (R479). [DEDUCED 79] -/
def execFlight (s : State) : Host.Outcome State Fault Refusal :=
  match s.takePkt 0x15 with
  | none => .next s
  | some (p, k, s1) =>
    let fu := k.arg.toNat % 256
    let fd := k.arg.toNat / 256 % 256
    if 40 < fu ∨ 40 < fd then
      .next ((s1.setFld F.CSC_STAT.CSTATE 4).report C.CSC_FLIGHT_RANGE (s1.srcPort p) (s1.fld F.CSC_STAT.POSITION))
    else
      .next (({ s1 with csc := { s1.csc with recal := false, told := false } }).setFlds [(F.TICK_VOTE_FLIGHT.FLIGHT_UP, fu), (F.TICK_VOTE_FLIGHT.FLIGHT_DOWN, fd),
        (F.CSC_STAT.CSTATE, if s1.bit F.CSC_STAT.ALIGNED then 3 else s1.fld F.CSC_STAT.CSTATE)])

/-- VGRP: the pole's settings of vote groups 0 to 7 (R484). -/
def execVgrp (s : State) : Host.Outcome State Fault Refusal :=
  match s.takePkt 0x16 with
  | none => .next s
  | some (_, k, s1) =>
    .next ((List.range 8).foldl (fun t g =>
      ((t.setFlds [(F.CSC_VGRP_CFG.RULE g, numAt k.body (4 * g) 4 / 2 ^ 31), (F.CSC_VGRP_CFG.REPEAT g, numAt k.body (4 * g) 4)])).setReg
        (R.CSC_VGRP_START g) (BitVec.ofNat 64 (numAt k.body (32 + 8 * g) 8))) s1)

/-- The tick at or after the present one whose low 48 bits are `v`. -/
def State.tick48 (s : State) (v : Nat) : Nat := s.tick.toNat + (v + 2 ^ 48 - s.tick.toNat % 2 ^ 48) % 2 ^ 48

/-- FCKSET: an FCK change of the constellation is to take effect at its stop tick (R493). [DEDUCED 84] -/
def execFckset (s : State) : Host.Outcome State Fault Refusal :=
  match s.takePkt 0x17 with
  | none => .next s
  | some (_, k, s1) =>
    let a := k.arg.toNat
    if !s1.formed then .next s1
    else
      let s2 := s1.calFailAll.safeNow (List.range 256)
      .next (({ s2 with csc := { s2.csc with fckset := some (a % 128, a / 256 % 64, s1.tick48 (a / 2 ^ 16)) } }).setFld F.TICK_STAT.FCK_BUSY 1)

/-- FCK_STOP_TICK_REACHED: FCK stops at the edge that ends the stop tick and the PLL relocks with the new setting (R56, R493); on a pole that lost a member the change
stops and PENDING is reported (R497). [DEDUCED 14] -/
def execFckStopTickReached (s : State) : Host.Outcome State Fault Refusal :=
  match s.csc.fckset with
  | none => .next s
  | some (fb, pd, stop) =>
    if s.tick.toNat < stop ∨ s.fckNew.isSome then .next s
    else if s.fld F.CSC_STAT.CSTATE ≠ 3 then
      .next (({ s with csc := { s.csc with fckset := none } }).setFld F.TICK_STAT.FCK_BUSY 0)
    else .next { s.calFailAll with fckNew := some (fb, pd), fckStop := s.fckOn }

/-- HELLO_TIMER: HELLO on every UP port during discovery, and on ports that are no link of the constellation otherwise (R470, R471). A device that met another pole goes on sending,
so that both learn of it. -/
def execHelloTimer (s : State) : Host.Outcome State Fault Refusal :=
  let st := s.fld F.CSC_STAT.CSTATE
  let cand := s.csc.cand.getD (0, 0)
  let candRole := if cand.1 = 2 then 1 else if cand.1 = 1 then 0 else 2
  let body (p : Nat) : List Byte := leBytes 16 s.deviceId ++ leBytes 1 s.csc.role ++ leBytes 1 s.csc.posReq ++ leBytes 1 p ++ leBytes 1 0 ++
    leBytes 16 cand.2 ++ leBytes 1 candRole ++ leBytes 3 0
  if st = 0 then .next s
  else .next (((List.range 8).filter (fun p => s.portUp p && (st == 1 || st == 4 || s.fld (F.CSC_PORT_STAT.USE p) == 0 ||
    s.fld (F.CSC_PORT_STAT.USE p) == 3))).foldl (fun t p => t.sendPkt p (t.mkPkt 0x10 0xFE 0 0 (body p))) s)

/-- A joined device whose time to join or to be calibrated has passed (R471, R498): without a position it stays PENDING with CSC_TOPOLOGY, not aligned in a RECAL with
CSC_LINK_DOWN; a downstream neighbour that was given no position is on a spare port; and its ports that lead to no member are spare. [DEDUCED 79] -/
def State.endJoining (s : State) : State :=
  let leave (code : Nat) : State :=
    let up := s.csc.up.getD 0
    (({ s with csc := { s.csc with up := none, recal := false } }).setFlds [(F.CSC_STAT.CSTATE, 4), (F.CSC_PORT_STAT.USE up, 0)]).report code (s.srcPort up)
      (s.fld F.CSC_STAT.POSITION)
  if s.fld F.CSC_STAT.POSITION = 0 then leave C.CSC_TOPOLOGY
  else if s.csc.recal && !s.bit F.CSC_STAT.ALIGNED then leave C.CSC_LINK_DOWN
  else (List.range 8).foldl (fun u p =>
    let use := u.fld (F.CSC_PORT_STAT.USE p)
    if u.portUp p && (use == 0 || (use == 2 && s.csc.below.isEmpty)) then u.setFld (F.CSC_PORT_STAT.USE p) 3 else u) s

/-- FORM_TIMEOUT: the time for devices to join has passed (R471, R472, R475, R496): without an UP port the device enters ALONE; the pole assigns positions and the constellation is
calibrated (R476), or a RECAL completes without the members that could not be calibrated (R498); a device that knows of a pole and was not admitted stays PENDING. [DEDUCED 79] -/
def execFormTimeout (s : State) : Host.Outcome State Fault Refusal :=
  let st := s.fld F.CSC_STAT.CSTATE
  let spare (t : State) : State := (List.range 8).foldl (fun u p =>
    if u.portUp p && u.fld (F.CSC_PORT_STAT.USE p) == 0 then u.setFld (F.CSC_PORT_STAT.USE p) 3 else u) t
  if (st = 1 ∨ st = 4) ∧ (List.range 8).all (fun p => !s.portUp p) then .next s.enterAlone
  else if st = 1 ∧ s.bit F.CSC_STAT.POLE then .next (spare s).assignPositions.calibrateAll
  else if st = 2 ∧ s.bit F.CSC_STAT.POLE then .next (if s.csc.recal then s.loseMembers (fun m => !m.ready && !m.out) else s).fixFlights
  else if st = 2 then .next s.endJoining
  else if st = 1 ∧ !s.csc.clash ∧ s.csc.cand.isSome ∧ s.csc.cand ≠ some (roleRank s.csc.role, s.deviceId) then
    .next ((s.setFld F.CSC_STAT.CSTATE 4).report C.CSC_TOPOLOGY (srcCascade (((List.range 8).find? s.portUp).getD 0) 0) 0)
  else .next s

/-- ALIGN_TRACKING: a FORMED upstream device repeats one SYNC on a downstream link, 65,536 ticks after the last (R478). [DESIGN CHOICE 80] -/
def execAlignTracking (p : Fin 8) (s : State) : Host.Outcome State Fault Refusal :=
  let k := p.val
  if !s.formed || s.fld (F.CSC_PORT_STAT.USE k) != 2 || !s.portUp k || decide (s.tick.toNat < (s.cport k).lastSync + 65536) then .next s
  else .next ((s.setCport k { s.cport k with lastSync := s.tick.toNat }).sendNow k (.ctl 0x2D (BitVec.ofNat 24 (s.tick.toNat % 2 ^ 18 * 64 + Config.unstated s.free k % 64)))).tookFree

/-- A command of CSC_CMD refused under R7: STATE_REFUSED in CMD_STATUS and in the log. -/
def State.refuseCsc (s : State) (req : Requester) (op : Nat) : State :=
  (s.setFld F.CSC_STAT.CMD_STATUS C.STATE_REFUSED).logRefused req R.CSC_CMD op

/-- FORM: discovery begins with the values of CSC_CFG as they stand (R469, R475). -/
def execForm (req : Requester) (s : State) : Host.Outcome State Fault Refusal :=
  if !s.allows req .cscForm || s.fld F.BIST_STAT.NF == 1 then .next (s.refuseCsc req 1)
  else
    let s1 : State := { s with csc := { s.csc with role := s.fld F.CSC_CFG.ROLE, posReq := s.fld F.CSC_CFG.POS_REQ, clash := false } }
    let s2 := s1.setFld F.CSC_STAT.CMD_STATUS 0
    .next (if s2.csc.role = 3 then s2.enterAlone else s2.enterDiscover)

/-- LEAVE: the device sends DOWN on every formed port and enters ALONE (R494). -/
def execLeave (req : Requester) (s : State) : Host.Outcome State Fault Refusal :=
  if !s.allows req .cscLeave || (List.range 16).any s.siteActive then .next (s.refuseCsc req 2)
  else
    let down : CscBlock := .ctl 0x87 (BitVec.ofNat 24 (s.fld F.CSC_STAT.POSITION))
    .next ((s.formedPorts.foldl (fun t p => t.sendNow p down) s).enterAlone.setFld F.CSC_STAT.CMD_STATUS 0)

/-- RECAL: the pole has every link of a quiet, FORMED constellation calibrated again (R498). [DEDUCED 83] -/
def execRecal (req : Requester) (s : State) : Host.Outcome State Fault Refusal :=
  if !s.bit F.CSC_STAT.POLE || !s.formed || !s.membersQuiet || (List.range 16).any s.siteActive || s.cfg.chain.isSome then
    .next (s.refuseCsc req 3)
  else
    let s1 := (s.newEpoch 0).calibrateAll
    if s.downPorts.isEmpty then .next (s1.setFld F.CSC_STAT.CMD_STATUS 0) else .next { s1 with csc := { s1.csc with recal := true } }

/-- CSC_VGRP_WRITE: a write to a vote-group register (R484, R499); the pole's groups 0 to 7 are copied to its members. -/
def execCscVgrpWrite (req : Requester) (g : Fin 16) (start : Bool) (value : Wide) (s : State) : Host.Outcome State Fault Refusal :=
  let k := g.val
  let off := if start then R.CSC_VGRP_START k else R.CSC_VGRP_CFG k
  let member := s.fld F.CSC_STAT.CSTATE != 0 && !s.bit F.CSC_STAT.POLE && s.csc.up.isSome
  if (List.range 16).any (fun n => s.siteActive n && s.effFld n (F.PSQ_VOTE_CFG.GROUP n) == k) then .next (s.logRefused req off 0)
  else if member && decide (k < 8) then .next s
  else
    let s1 := s.writePlain off value (maskBits 0 (if start then 64 else 32))
    .next (if k < 8 ∧ s1.bit F.CSC_STAT.POLE ∧ s1.formed then s1.sendVgrp else s1)

end Sys2Proof.Machine
end

