-- ==== Sys2Proof/Machine/BistExec.lean ====
section
/-! DEFINITION. The self-test engine: slices and passes, the Nightfall test, its ledger, and the repair fuses (chapter 12 of spec/). -/

namespace Sys2Proof.Machine

/-- Whether the port `m0`/`m1` at bit `lo` of an M-cell's function word is off in every context that is loaded (R100). -/
def State.portOff (s : State) (m lo : Nat) : Bool :=
  (List.range 8).all (fun c => !s.loadedFlag (coreSlot m 4) c || getBits (s.storeWord (coreSlot m 4) c) lo 2 == 0)

/-- Whether the M-cell of cluster `m` may be tested in place while its site runs (R100). -/
def State.mEligible (s : State) (m : Nat) : Bool := s.portOff m 38 || s.portOff m 36

/-- Whether the logic part of slice `j` of cluster `cl` is skipped (R505). -/
def State.logicSkipped (s : State) (cl j : Nat) : Bool :=
  let u := s.fld (F.FAB_CL_STAT.U_STATE cl)
  let off := !bitOf (s.fld F.PWR_DOM_STAT.ON) (4 + cl / 32)
  if j = 9 then off || u == 2
  else
    off || s.isRclk (coreSlot cl (sliceCell j) + 64) || bitOf (s.fld (F.BIST_CL.FAILED cl)) (sliceCell j) ||
    (s.fld (F.FAB_RGN_MAP.REGION cl) != 0 && (u == 2 || s.bit (F.FAB_CL_STAT.U_FAILED cl)))

/-- Whether the chunk part of a slice of cluster `cl` is skipped (R505). -/
def State.chunkSkipped (s : State) (cl : Nat) : Bool :=
  let g := s.fld (F.FAB_RGN_MAP.REGION cl)
  !bitOf (s.fld F.PWR_DOM_STAT.ON) (4 + cl / 32) || (g != 0 && s.siteActive (s.rgnSite g) && !s.mEligible cl)

/-- The parts that slice `j` of cluster `cl` runs now (R502, R504, R505). -/
def State.sliceParts (s : State) (cl j : Nat) : LogicPart × ChunkPart :=
  (if s.logicSkipped cl j then .none else if j = 9 then .ucell else if s.fld (F.FAB_RGN_MAP.REGION cl) = 0 then .direct else .rotated,
   if j = 9 ∨ s.chunkSkipped cl then .none else if j = 8 then .spares else .chunk)

/-- Whether a request that waits for a slice touches a slice of cluster `cl` with a direct or a chunk test (R520, R521): a load, an UNLOAD, or a request held. [DEDUCED 27] -/
def State.wanted (s : State) (cl : Nat) (direct chunk : Bool) : Bool :=
  ((direct || chunk) && (s.cfg.load.isSome || s.cfg.chain.isSome) && s.cfg.waits.contains cl) ||
  (chunk && (s.bit F.FAB_SFX_STAT.UNLOAD_BUSY || s.bist.held.any (fun i => match i with
    | .psqArm _ n => (s.siteRegions n).contains (s.fld (F.FAB_RGN_MAP.REGION cl))
    | .fabMrepWrite _ m _ _ => m.val == cl
    | _ => false)))

/-- The slice (10 × cluster + j) that the engine takes next in stripe `st` (R506, R510, R521): one that was moved ahead, else the lowest that this
pass has not seen to, in a cluster with no slice running and none being taken over, and of no unit that a waiting request touches. [DESIGN CHOICE 74] -/
def State.nextSlice (s : State) (st : Nat) : Option Nat :=
  let idle (k : Nat) : Bool := (s.sliceIn (k / 10)).isNone && !s.bist.standIns.any (fun e => e.1 == k / 10 && e.2.isSome) &&
    !(let ps := s.sliceParts (k / 10) (k % 10)
      s.wanted (k / 10) ps.1.isDirect (ps.2 != .none))
  match s.bist.first.find? (fun k => k / 320 == st && idle k) with
  | some k => some k
  | none => ((List.range 320).map (· + 320 * st)).find? (fun k => idle k && !s.bist.done.contains k)

/-- Whether in-service testing runs (R503). -/
def State.inService (s : State) : Bool :=
  s.bit F.BIST_CFG.EN && decide (3 ≤ s.glbState) && decide (s.glbState ≤ 8) && s.fld F.BIST_STAT.NF != 1

/-- The most slices that one stripe runs at once (R506). -/
def State.stripeMax (s : State) : Nat :=
  let n := s.fld F.BIST_CFG.STRIPE_MAX
  if 1 ≤ n ∧ n ≤ 8 then n else 8

/-- BIST_SLICE_START: the engine takes the next slice of its stripe; skipped parts are counted, and a slice of none but skipped parts takes no slot (R504 to
R508). `differs` tells in which of the three ticks of a takeover the comparison disagrees, if it does (R510). [DESIGN CHOICE 74] -/
def execBistSliceStart (cl : Fin 256) (j : Fin 10) (differs : Option (Fin 3)) (s : State) : Host.Outcome State Fault Refusal :=
  let st := cl.val / 32
  let k := 10 * cl.val + j.val
  let parts := s.sliceParts cl.val j.val
  if !s.inService || s.nextSlice st != some k || decide (64 ≤ s.bist.slices.length) ||
      decide (s.stripeMax ≤ (s.bist.slices.filter (fun x => x.cl / 32 == st)).length) ||
      (parts.1 == .rotated && (!s.fckOn || s.freezePends cl.val)) then .next s
  else
    let skipped := b2n (parts.1 == .none) + b2n (parts.2 == .none && j.val != 9)
    let s1 : State := { s with bist := { s.bist with first := s.bist.first.filter (· != k) } }
    let s2 := if skipped = 0 then s1 else (s1.addSat F.BIST_EVT_CNT.SKIPPED skipped).setFld (F.BIST_CL.SKIP_SEEN cl.val) 1
    if parts.1 = .none ∧ parts.2 = .none then
      .next { s2 with bist := { s2.bist with done := insertSorted k s2.bist.done } }.passCheck
    else
      let rot := parts.1 == .rotated
      let h := s.tick + 1
      let x : BistSlice := { cl := cl.val, j := j.val, logic := parts.1, chunk := parts.2, takeover := if rot then some h else none, back := none,
                             differs := if rot then differs.map (fun d => h + BitVec.ofNat 64 d.val) else none, retest := false }
      .next { s2 with bist := { s2.bist with slices := s2.bist.slices ++ [x] } }

/-- The verdict of a part (R517): 0 PASS, 1 FAIL, 2 INCOMPLETE. -/
def partVerdict (e : PartEnd) (full : Nat) : Nat := if !e.ok then 1 else if e.count.toNat < full then 2 else 0

/-- The spare rows of cluster `m` that passed their last test (R515), as a mask. -/
def State.sparesOk (s : State) (m : Nat) : Nat := mget (fun _ => 0) m s.bist.sparesOk

/-- The spare rows in `ks` of cluster `m` have been tested; those in `ok` passed. -/
def State.sparesTested (s : State) (m : Nat) (ks ok : List Nat) : State :=
  let v := List.sum ((List.range 16).map (fun k => if ks.contains k then (if ok.contains k then 2 ^ k else 0) else b2n (bitOf (s.sparesOk m) k) * 2 ^ k))
  { s with bist := { s.bist with sparesOk := mset (fun _ => 0) m v s.bist.sparesOk } }

/-- The spare row that takes over a failing row: the lowest that is neither in use nor bad and passed its last test (R515). -/
def State.freeSpare (s : State) (m : Nat) : Option Nat :=
  (List.range 16).find? (fun k => !s.bit (F.FAB_MREP.EN m k) && !bitOf (s.fld (F.BIST_CL.SPARE_BAD m)) k && bitOf (s.sparesOk m) k)

/-- Spare row `k` of cluster `m` is marked bad. -/
def State.markSpare (s : State) (m k : Nat) : State := s.setFld (F.BIST_CL.SPARE_BAD m) (s.fld (F.BIST_CL.SPARE_BAD m) ||| 2 ^ k)

/-- Failing row `r` of the M-cell of cluster `m` is repaired, or found to have no spare (R515). [DESIGN CHOICE 74] -/
def State.repairRow (s : State) (m r : Nat) : State :=
  let old := (List.range 16).find? (fun k => s.bit (F.FAB_MREP.EN m k) && s.fld (F.FAB_MREP.ROW m k) == r)
  match s.freeSpare m with
  | none => (s.setFld (F.BIST_CL.NOSPARE m) 1).reportPart C.BIST_MCELL_NOSPARE (3, r / 32) m
  | some k =>
    let words := (List.range 16).map (fun i => s.mword m (s.physWord m (16 * r + i)))
    let s1 := (words.zip (List.range 16)).foldl (fun t w => t.setMword m (4096 + 16 * k + w.2) w.1) s
    let s2 := match old with
      | some o => (s1.setFld (F.FAB_MREP.EN m o) 0).markSpare m o
      | none => s1
    (s2.setFld (F.FAB_MREP.EN m k) 1).setFld (F.FAB_MREP.ROW m k) r

/-- Cell `i` of cluster `m` is marked failed. -/
def State.markCell (s : State) (m i : Nat) : State := s.setFld (F.BIST_CL.FAILED m) (s.fld (F.BIST_CL.FAILED m) ||| 2 ^ i)

/-- A FAIL or INCOMPLETE verdict is recorded, counted and logged (R518); `code` is what a FAIL logs. -/
def State.judged (s : State) (id : Nat × Nat) (unit verdict code : Nat) (e : PartEnd) : State :=
  if verdict = 0 then s
  else
    let s1 := s.recordPart id unit verdict false e.count.toNat e.sig
    if verdict = 1 then s1.reportPart code id unit
    else (s1.addSat F.BIST_EVT_CNT.INCOMPLETE 1).reportPart C.BIST_INCOMPLETE id unit

/-- The verdict of the logic part of a slice (R518), the hand-back apart. -/
def State.logicVerdict (s : State) (x : BistSlice) (e : PartEnd) : State :=
  let v := partVerdict e 16384
  match x.logicId with
  | none => s
  | some id =>
    let s1 := s.judged id x.cl v C.BIST_UNIT_FAIL e
    if v ≠ 1 then s1
    else if x.logic = .ucell then s1.setFld (F.FAB_CL_STAT.U_FAILED x.cl) 1
    else s1.markCell x.cl (sliceCell x.j)

/-- The spare rows that the chunk part of slice 8 tests (R516). -/
def State.idleSpares (s : State) (m : Nat) : List Nat := (List.range 16).filter (fun k => !s.bit (F.FAB_MREP.EN m k))

/-- The spare rows in use that the test of chunk `j` tests as part of it (R514), with the main rows they hold. -/
def State.chunkSpares (s : State) (m j : Nat) : List (Nat × Nat) :=
  ((List.range 16).filter (fun k => s.bit (F.FAB_MREP.EN m k) && s.fld (F.FAB_MREP.ROW m k) / 32 == j)).map (fun k => (k, s.fld (F.FAB_MREP.ROW m k)))

/-- The verdict of the chunk part of a slice (R515, R516, R518); the spare rows that it tested are known to have passed or not. -/
def State.chunkVerdict (s : State) (x : BistSlice) (e : PartEnd) (rows spares : List Nat) : State :=
  match x.chunkId with
  | none => s
  | some id =>
    if x.chunk = .spares then
      let v := partVerdict e (160 * (s.idleSpares x.cl).length)
      let bad := if v = 1 then (s.idleSpares x.cl).filter spares.contains else []
      let s1 := (s.judged id x.cl v C.BIST_UNIT_FAIL e).sparesTested x.cl (s.idleSpares x.cl)
        (if v = 2 then [] else (s.idleSpares x.cl).filter (fun k => !bad.contains k))
      bad.foldl (fun t k => t.markSpare x.cl k) s1
    else
      let v := partVerdict e 5120
      let used := s.chunkSpares x.cl x.j
      let s1 := (s.judged id x.cl v C.BIST_UNIT_FAIL e).sparesTested x.cl (used.map (·.1))
        (if v = 2 then [] else (used.filter (fun u => v == 0 || !rows.contains u.2)).map (·.1))
      if v = 1 then (((List.range 32).map (· + 32 * x.j)).filter rows.contains).foldl (fun t r => t.repairRow x.cl r) s1 else s1

/-- Whether a slice with a chunk part runs in cluster `m`; what it holds is held until the slice ends (R520). -/
def State.chunkSliced (s : State) (m : Nat) : Bool := s.bist.slices.any (fun x => x.cl == m && x.chunk != .none)

/-- Whether a request that the engine holds still touches a running slice (R520). -/
def State.stillHeld (s : State) (i : Instr) : Bool :=
  match i with
  | .psqArm _ n => (s.siteRegions n).any (fun g => (s.rgnClusters g).any s.chunkSliced)
  | .fabMrepWrite _ cl _ _ => s.chunkSliced cl.val
  | _ => false

/-- A held request is served (R520). [DEDUCED 27] -/
def State.serveHeld (s : State) (i : Instr) : State :=
  match i with
  | .psqArm req n => s.armCmd req n
  | .fabMrepWrite req cl k value => s.mrepWrite req cl.val k.val value
  | _ => s

/-- The requests that no slice holds any more are served in their order of arrival (R520, R533). -/
def State.serveAll (s : State) : State :=
  s.bist.held.foldl (fun t i => if t.stillHeld i then { t with bist := { t.bist with held := t.bist.held ++ [i] } } else t.serveHeld i)
    { s with bist := { s.bist with held := [] } }

/-- What follows the end of slice `x` (R511, R512, R518): the hand-back of a rotated cell, unless it failed, else the slice is over. -/
def State.endSlice (s : State) (x : BistSlice) (failed : Bool) (differs : Option (Fin 3)) : State :=
  if x.logic = .rotated ∧ !failed then s.putSlice x.cl (some (x.handBack (s.tick + 1) differs))
  else ((s.putSlice x.cl none).sliceDone x).passCheck

/-- BIST_SLICE_END: a part of the slice that runs in cluster `cl`, or both, end with their verdicts, which act at once; the slice is over when no part runs on (R504,
R511, R512, R515 to R518). `rows` and `spares` are the rows that failed, `differs` the tick of a hand-back in which the comparison disagrees. [DESIGN CHOICE 74] -/
def execBistSliceEnd (cl : Fin 256) (logic chunk : PartEnd) (rows : List (Fin 256)) (spares : List (Fin 16)) (differs : Option (Fin 3))
    (s : State) : Host.Outcome State Fault Refusal :=
  match s.sliceIn cl.val with
  | some x =>
    if x.takeover.isSome ∨ x.back.isSome then .next s
    else
      let s1 := if logic.runs then s else s.logicVerdict x logic
      let s2 := if chunk.runs then s1 else s1.chunkVerdict x chunk (rows.map (·.val)) (spares.map (·.val))
      let y : BistSlice := { x with logicEnd := if x.logicId.isSome && !logic.runs then some (partVerdict logic 16384) else x.logicEnd,
                                    chunkEnd := x.chunkEnd || (x.chunk != .none && !chunk.runs) }
      if y.logicId.isSome || y.chunkId.isSome then .next (s2.putSlice cl.val (some y))
      else .next (s2.endSlice y (y.logicEnd == some 1) differs).serveAll
  | none => .next s

/-- Whether a request held, an UNLOAD or a load that waits touches slice `x` (R520). -/
def State.sliceWanted (s : State) (x : BistSlice) : Bool := s.wanted x.cl x.logic.isDirect (x.chunk != .none)

/-- BIST_SLICE_ABORT: the slice of cluster `cl` has held a request for 2 µs; it restores what it saved and the request is served (R520, R521). -/
def execBistSliceAbort (cl : Fin 256) (how : AbortEnd) (sig : Wide) (s : State) : Host.Outcome State Fault Refusal :=
  match s.sliceIn cl.val with
  | some x =>
    if s.sliceWanted x && x.back.isNone then .next (s.abortSlice x true how.count.toNat how.differs sig).serveAll else .next s
  | none => .next s

/-- FAB_RB_DATA_READ: a test of the unit aborts, then one word is read back (R157 to R159, R520). [DEDUCED 26] -/
def execFabRbDataRead (req : Requester) (s : State) : Host.Outcome State Fault Refusal := .next ((s.rbAbort req).rbDataRead req)

/-- NIGHTFALL: refused, or accepted: slices abort, every region becomes EMPTY and the device is READY; what the slices held is then answered as during the test (R525,
R526). A running test, in which the device is READY, begins anew. [DEDUCED 73] -/
def execNightfall (req : Requester) (s : State) : Host.Outcome State Fault Refusal :=
  if !accepted .nightfall s.glbState then
    .next ((s.setFld F.BIST_STAT.CMD_STATUS C.STATE_REFUSED).logRefused req R.BIST_CMD 1)
  else
    let s1 := ((s.abortLoad false).abortSlices (fun _ => true) false).emptyFabric
    let s2 : State := { s1 with dev := .ready, bist := { s1.bist with keyCut := false } }
    .next (s2.setFlds [(F.BIST_STAT.CMD_STATUS, 0), (F.BIST_STAT.NF, 1)]).serveAll

/-- The verdict of a Nightfall group (R517, R526): 0 PASS, 1 FAIL, 2 INCOMPLETE. -/
def groupVerdictOf (g : GroupEnd) : Nat := if g.fails ≠ [] then 1 else if g.complete then 0 else 2

/-- The RESULTS byte of four groups, in the order TCK, XCL, PSL, KEY (R527). -/
def groupResults (gs : List GroupEnd) : Nat := ((gs.zip (List.range 4)).map (fun e => groupVerdictOf e.1 * 4 ^ e.2)).sum

/-- FIRST_FAIL of a ledger (R527): the first unit that failed, in the order of the groups. -/
def firstFail (gs : List GroupEnd) : Nat :=
  match (gs.zip (List.range 4)).filterMap (fun e => e.1.fails.head?.map (fun u => u.toNat + e.2 * 2 ^ 16)) with
  | f :: _ => f
  | [] => 0xFFFFFFFF

/-- The verdict of group `i` is recorded and logged (R518, R523, R526). -/
def State.groupVerdict (s : State) (i : Nat) (g : GroupEnd) : State :=
  s.judged (5 + i, 0) ((g.fails.headD 0).toNat % 256) (groupVerdictOf g) C.BIST_NIGHTFALL_FAIL { count := g.count, ok := g.fails.isEmpty, sig := g.sig }

/-- The words of bytes in order, little-endian. -/
def wordsOf (bs : List Byte) (n : Nat) : List Word := (List.range n).map (fun i => BitVec.ofNat 32 (ofLeBytes ((bs.drop (4 * i)).take 4)))

/-- CHECK of a ledger (R527): CRC32 over its first 15 words. -/
def ledgerCheck (bs : List Byte) : Word := crcWords (wordsOf bs 15)

/-- A ledger (R527). [DEDUCED 71] -/
def State.ledger (s : State) (seq results skips flags : Nat) (tick : Wide) (first failed : Nat) : List Byte :=
  let b := [0x55, 0x4D, 0x4E, 0x4C] ++ leBytes 2 1 ++ leBytes 2 0x8840 ++ leBytes 16 s.deviceId ++ leBytes 4 seq ++ leBytes 1 results ++
    leBytes 1 skips ++ leBytes 1 flags ++ leBytes 1 0 ++ leBytes 8 tick.toNat ++ leBytes 4 first ++ leBytes 4 failed ++ leBytes 12 0
  b ++ leBytes 4 (ledgerCheck b).toNat

/-- Whether a copy of a ledger is valid: MAGIC, FORMAT, PART and CHECK are good (R528). -/
def ledgerValid (bs : List Byte) : Bool :=
  bs.take 8 == [0x55, 0x4D, 0x4E, 0x4C] ++ leBytes 2 1 ++ leBytes 2 0x8840 && ofLeBytes ((bs.drop 60).take 4) == (ledgerCheck bs).toNat

/-- SEQ of a ledger. -/
def ledgerSeq (bs : List Byte) : Nat := ofLeBytes ((bs.drop 24).take 4)

/-- The AON copy of the ledger. -/
def State.aonLedger (s : State) : List Byte := (List.range 16).flatMap (fun w => leBytes 4 (s.reg (R.BIST_LEDGER w)).toNat)

/-- The flash address of the sector `i` (0 or 1) of the ledger (R528). -/
def State.ledgerAt (s : State) (i : Nat) : Nat := (s.fld F.BIST_LEDGER_CFG.ADDR + i) * 4096

/-- The sector that holds the flash copy read: the valid copy with the higher SEQ (R528). -/
def State.flashCopy (s : State) : Option Nat :=
  let a := s.flashBytes (s.ledgerAt 0) 64
  let b := s.flashBytes (s.ledgerAt 1) 64
  if ledgerValid a && (!ledgerValid b || decide (ledgerSeq b ≤ ledgerSeq a)) then some 0 else if ledgerValid b then some 1 else none

/-- The bytes `bs` written into flash at `a`, and the rest of their 4 KiB sector erased. [DEDUCED 72] -/
def State.writeSector (s : State) (a : Nat) (bs : List Byte) : State :=
  let flash := msetAll (fun _ => none) (fun i => some (bs.getD (i - a) 0xFF)) ((List.range 4096).map (· + a)) s.aux.flash
  { s with aux := { s.aux with flash := flash } }

/-- A flash copy of the ledger is written into the sector that does not hold the copy with the higher SEQ (R528). [DEDUCED 72] -/
def State.writeFlashLedger (s : State) (bs : List Byte) : State :=
  s.writeSector (s.ledgerAt (match s.flashCopy with
    | some 0 => 1
    | _ => 0)) bs

/-- The highest SEQ of the valid copies, and SKIPS of that copy. -/
def State.ledgerLast (s : State) : Nat × Nat :=
  let copies := s.aonLedger :: (match s.flashCopy with
    | some i => [s.flashBytes (s.ledgerAt i) 64]
    | none => [])
  (copies.filter ledgerValid).foldl (fun m b => if m.1 ≤ ledgerSeq b then (ledgerSeq b, (b.getD 29 0).toNat) else m) (0, 0)

/-- NIGHTFALL_COMPLETE: the four groups have ended, step 5 in tick `ended`; the ledger is written and the test is DONE (R526 to R528). A tamper event
in step 5 has made KEY INCOMPLETE (R533). -/
def execNightfallComplete (tck xcl psl key : GroupEnd) (ended : Wide) (s : State) : Host.Outcome State Fault Refusal :=
  if s.fld F.BIST_STAT.NF ≠ 1 then .next s
  else
    let gs := [tck, xcl, psl, if s.bist.keyCut then { key with fails := [], complete := false } else key]
    let s1 := (gs.zip (List.range 4)).foldl (fun t e => t.groupVerdict e.2 e.1) s
    let last := s1.ledgerLast
    let skips := if s1.bit F.BIST_NF_STAT.SKIPPED then last.2 else 0
    let bs := s1.ledger (last.1 + 1) (groupResults gs) skips 0 ended (firstFail gs) ((gs.map (fun g => g.fails.length)).sum)
    let s2 := ((wordsOf bs 16).zip (List.range 16)).foldl (fun t w => t.setReg (R.BIST_LEDGER w.2) (w.1.setWidth 64)) (s1.writeFlashLedger bs)
    .next (s2.setFlds [(F.BIST_STAT.NF, 2), (F.BIST_NF_STAT.RESULTS, groupResults gs)])

/-- STATE of repair record `i`. -/
def State.recState (s : State) (i : Nat) : Nat := s.fld (F.BIST_FUSE_REC.STATE i)

/-- Repair record `i` (R529). -/
def State.recWord (s : State) (i : Nat) : Nat := s.fld (F.BIST_FUSE_REC.RECORD i)

/-- The valid repair records. -/
def State.validRecs (s : State) : List Nat := ((List.range 64).filter (fun i => s.recState i == 1)).map s.recWord

/-- KIND, UNIT, SUB and ROW of a repair record (R529). -/
def recFields (r : Nat) : Nat × Nat × Nat × Nat := (r / 2 ^ 28 % 16, r / 2 ^ 20 % 256, r / 2 ^ 16 % 16, r / 2 ^ 8 % 256)

/-- The fuses of repair record `i`. -/
def State.fuseOf (s : State) (i : Nat) : RepairFuse := (mget (fun _ => (none : Option RepairFuse)) i s.bist.fuses).getD ⟨0, 0, 0⟩

/-- The fuses of repair record `i` set. -/
def State.setFuse (s : State) (i : Nat) (f : RepairFuse) : State :=
  { s with bist := { s.bist with fuses := mset (fun _ => (none : Option RepairFuse)) i (some f) s.bist.fuses } }

/-- Repair record `i` as its fuses give it and as BIST_FUSE_REC shows it. -/
def State.setRec (s : State) (i st rec : Nat) (f : RepairFuse) : State :=
  (s.setFuse i f).setFlds [(F.BIST_FUSE_REC.STATE i, st), (F.BIST_FUSE_REC.RECORD i, rec)]

/-- STATE and RECORD that the fuses of a record read as (R529, R531): the VOID bit by majority of its three fuses, the data by its SECDED code. -/
def RepairFuse.sense (f : RepairFuse) : Nat × Word :=
  let void := decide (2 ≤ popNat 3 f.voids.toNat)
  if f.data = 0 ∧ f.code = 0 then (if void then 2 else 0, 0)
  else match (if f.code = Config.secded f.data then some f.data else Config.secdedFix f.data f.code) with
    | some d => (if void then 2 else 1, d)
    | none => (3, f.data)

/-- Whether a record may be blown beside the valid records `rs`, with `slices` slices present (R530). [DEDUCED 73] -/
def recordOk (rs : List Nat) (slices r : Nat) : Bool :=
  let f := recFields r
  let same (p : Nat × Nat × Nat × Nat → Bool) : Bool := rs.any (fun x => (recFields x).1 == f.1 && (recFields x).2.1 == f.2.1 && p (recFields x))
  r % 256 == 0 &&
  (if f.1 = 1 then f.2.2.2 == 0 && f.2.2.1 != 4 && !same (fun _ => true)
   else if f.1 = 2 then !same (fun x => x.2.2.1 == f.2.2.1 || x.2.2.2 == f.2.2.2)
   else if f.1 = 3 then f.2.2.1 == 0 && f.2.2.2 == 0 && decide (f.2.1 < slices)
   else if f.1 = 4 then f.2.2.1 == 0 && f.2.2.2 == 0 && decide (f.2.1 ≤ 127)
   else false)

/-- A fuse command is refused with `code` in BIST_FUSE_STAT.STATUS (R530). -/
def State.refuseFuse (s : State) (req : Requester) (op code : Nat) : State :=
  let s1 := s.setFld F.BIST_FUSE_STAT.STATUS code
  if code = C.STATE_REFUSED then s1.logRefused req R.BIST_FUSE_CMD op
  else s1.report code (srcRequester req) (s.reg R.BIST_LAST).toNat

/-- STATE of repair record `i` once the fuse commands that wait have been carried out: each as if it succeeds. -/
def State.recAhead (s : State) (i : Nat) : Nat := ((s.bist.blow.filter (fun b => b.2.1 == i)).getLast?.map (·.1)).getD (s.recState i)

/-- The repair records that are valid once the fuse commands that wait have been carried out. -/
def State.recsAhead (s : State) : List Nat :=
  ((List.range 64).filter (fun i => s.recAhead i == 1)).map (fun i => ((s.bist.blow.find? (fun b => b.2.1 == i)).map (fun b => b.2.2.toNat)).getD (s.recWord i))

/-- A fuse command is taken, and begun when none is in progress, unless the device's state or the number of blow events forbids it (R530). [DEDUCED 73] -/
def State.fuseCommand (s : State) (req : Requester) (op : Nat) (target : Option (Nat × Word)) : State :=
  if s.glbState != 3 || s.fld F.BIST_STAT.NF == 1 then s.refuseFuse req op C.STATE_REFUSED
  else if 64 ≤ s.fld F.BIST_FUSE_STAT.USED + s.bist.blow.length then s.refuseFuse req op C.BIST_FUSE_BUDGET
  else match target with
    | none => s.refuseFuse req op C.BIST_FUSE_INVALID
    | some (i, r) => ({ s with bist := { s.bist with blow := s.bist.blow ++ [(op, i, r)] } } : State).setFld F.BIST_FUSE_STAT.BUSY 1

/-- BLOW: BIST_FUSE_DATA into the lowest blank record (R530). -/
def execBlow (req : Requester) (s : State) : Host.Outcome State Fault Refusal :=
  let r := s.fld F.BIST_FUSE_DATA.RECORD
  let blank := (List.range 64).find? (fun i => s.recAhead i == 0)
  .next (s.fuseCommand req 1 (match blank with
    | some i => if recordOk s.recsAhead s.sliceCount r then some (i, BitVec.ofNat 32 r) else none
    | none => none))

/-- VOID of record `index` (R530). -/
def execVoid (req : Requester) (index : Fin 64) (s : State) : Host.Outcome State Fault Refusal :=
  .next (s.fuseCommand req 2 (if s.recAhead index.val = 1 then
    some (index.val, ((s.bist.blow.find? (fun b => b.2.1 == index.val)).map (·.2.2)).getD (BitVec.ofNat 32 (s.recWord index.val))) else none))

/-- What a blow that fails its verification leaves in the fuses it was blowing: a BLOW the data and code, a VOID the VOID bit. [DEDUCED 76] -/
def State.spoiltFuse (s : State) (op i : Nat) : RepairFuse :=
  if op = 1 then { s.fuseOf i with data := BitVec.ofNat 32 (Config.unstated s.free 531), code := BitVec.ofNat 7 (Config.unstated s.free 532) }
  else { s.fuseOf i with voids := BitVec.ofNat 3 (Config.unstated s.free 533) }

/-- FUSE_BLOW_DONE: the blow in progress has been verified, or has failed, and the next command begins (R531). [DEDUCED 76] -/
def execFuseBlowDone (ok : Bool) (s : State) : Host.Outcome State Fault Refusal :=
  match s.bist.blow with
  | [] => .next s
  | (op, i, r) :: rest =>
    let s1 := ({ s with bist := { s.bist with blow := rest } }.setFld F.BIST_FUSE_STAT.BUSY (b2n (rest != []))).addSat F.BIST_FUSE_STAT.USED 1
    if ok then
      let f : RepairFuse := if op = 1 then { data := r, code := Config.secded r, voids := (s.fuseOf i).voids } else { s.fuseOf i with voids := 7 }
      .next ((s1.setRec i op r.toNat f).setFld F.BIST_FUSE_STAT.STATUS 0)
    else
      let f := s.spoiltFuse op i
      .next ((((s1.setRec i 3 (if op = 1 then f.data.toNat else r.toNat) f).setFld F.BIST_FUSE_STAT.STATUS C.BIST_FUSE_BLOW_FAIL).report
        C.BIST_FUSE_BLOW_FAIL 0 (s.reg R.BIST_LAST).toNat)).tookFree

end Sys2Proof.Machine
end

