-- ==== Sys2Proof/Machine/BootExec.lean ====
section
/-! DEFINITION. Start attempts: power-up and resets, firmware images, the start-up self-test and READY (R253, R380, R382, R429, R433 to R441, R444,
R522, R523, R528, R531, R532, R545, R606). -/

namespace Sys2Proof.Machine

/-- Bit `b` of a row of 32-bit registers from `r` on is set. -/
def State.setRowBit (s : State) (r : Nat → Nat) (b : Nat) : State :=
  s.setReg (r (b / 32)) (s.reg (r (b / 32)) ||| BitVec.ofNat 64 (2 ^ (b % 32)))

/-- The state field of key slot 0 or 1 or of owner slot 0 or 1 (numbers 0 to 3). -/
def slotFld (k : Nat) : Fld :=
  if k = 0 then F.SEC_KEY_STAT.KEY0 else if k = 1 then F.SEC_KEY_STAT.KEY1 else if k = 2 then F.SEC_FUSE_STAT.OWNER0 else F.SEC_FUSE_STAT.OWNER1

/-- The fuses as a power-on reset senses them (R444, R531, R532): a slot or record that is uncorrectable reads state 3, a critical field ends the attempt, and valid MROW, SLICE_BAD and XCELL_BAD
records take effect. The repair records are read from their fuses; one in state 3 stays so. [DEDUCED 67] -/
def State.senseFuses (s : State) (f : FuseSense) : State :=
  let s0 : State := { s with sec := { s.sec with fuseBad := f.critical || s.sec.fuseCut } }
  let s1 := f.slots.foldl (fun t k => t.setFld (slotFld k.val) 3) s0
  let s2 := s1.bist.fuses.foldl (fun t e => match e.2 with
    | some r => if t.recState e.1 = 3 then t else t.setFlds [(F.BIST_FUSE_REC.STATE e.1, r.sense.1), (F.BIST_FUSE_REC.RECORD e.1, r.sense.2.toNat)]
    | none => t) s1
  let s3 := f.recs.foldl (fun t i => t.setFld (F.BIST_FUSE_REC.STATE i.val) 3) s2
  let bad := (List.range 64).filter (fun i => s3.recState i == 3 && (s1.recState i != 3 || f.recs.any (fun r => r.val == i)))
  let s4 := bad.foldl (fun t _ => t.report C.BIST_FUSE_ECC 0 (t.reg R.BIST_LAST).toNat) s3
  s4.validRecs.foldl (fun t r =>
    let x := recFields r
    if x.1 = 2 then t.setFlds [(F.FAB_MREP.EN x.2.1 x.2.2.1, 1), (F.FAB_MREP.ROW x.2.1 x.2.2.1, x.2.2.2)]
    else if x.1 = 3 then t.setRowBit R.BIST_PSL_FAIL x.2.1
    else if x.1 = 4 then t.setRowBit R.BIST_XCL_FAIL x.2.1
    else t) s4

/-- The header faults of a firmware or module image (R437, R438, R447): `typ` and `signer` are what it must be, `area` the bytes of management SRAM it may
fill. -/
def State.fwBadHeader (s : State) (h : List Byte) (typ signer area : Nat) : Bool :=
  h.take 4 != [0x55, 0x4D, 0x46, 0x57] || numAt h 4 2 != 1 || numAt h 6 2 != 0x80 || numAt h 8 1 != 0x5A || numAt h 10 2 != 0x8840 ||
  numAt h 12 1 != typ || numAt h 13 1 != signer || decide (1 < numAt h 14 1) || decide (64 < numAt h 15 1) || numAt h 16 4 % 16 != 0 ||
  decide (numAt h 16 4 ≤ numAt h 24 4) || decide (area < numAt h 20 4 + numAt h 16 4) || decide (1048576 < 224 + numAt h 16 4) ||
  (signer == 0 && (((h.drop 48).take 48).any (· != 0))) || ((h.drop 96).take 32).any (· != 0) ||
  decide ((s.reg R.GLB_ID).toNat % 256 < numAt h 9 1)

/-- The flash address of a firmware slot (R437). -/
def fwBase (slotB : Bool) : Nat := if slotB then 0xF00000 else 0

/-- Whether the signature of a firmware or module image agrees with the public key `key` over its header and body (R437). [DEDUCED 11] -/
def fwSigned (key img : List Byte) : Bool :=
  let n := 128 + numAt img 16 4
  Config.ecdsaOk key (img.take n) ((img.drop n).take 96)

/-- The code with which a firmware image fails R438, none when it is accepted. -/
def State.fwCode (s : State) (h : List Byte) : Option Nat :=
  if s.fwBadHeader h 0 0 (4 * 2 ^ 20) then some C.BOOT_FW_FORMAT
  else if !fwSigned Config.firmwareKey h then some C.BOOT_FW_AUTH_FAIL
  else if numAt h 15 1 < s.fld F.SEC_FUSE_STAT.SVN then some C.BOOT_ROLLBACK
  else none

/-- The image in a flash slot: its header, and the body and signature that the header gives (R437). -/
def State.slotImage (s : State) (slotB : Bool) : List Byte :=
  s.flashBytes (fwBase slotB) (min (224 + numAt (s.flashBytes (fwBase slotB) 128) 16 4) 1048576)

/-- The code with which the image of a flash slot fails (R438). -/
def State.slotCode (s : State) (slotB : Bool) (r : FwRead) : Option Nat :=
  match r with
  | .failed => some C.BOOT_FLASH_ERR
  | .read => s.fwCode (s.slotImage slotB)

/-- The body of an image as it is placed in management SRAM (R437). -/
def sramImage (img : List Byte) : SramImage := ⟨numAt img 20 4, numAt img 24 4, (img.drop 128).take (numAt img 16 4)⟩

/-- A firmware image with header `h` is accepted from `slot` and measured (R438, R448): stage 5 is reached. -/
def State.acceptFw (s : State) (slot : Nat) (h digest : List Byte) : State :=
  let svn := numAt h 15 1
  let s1 : State := { s with sec := { s.sec with slot := slot, fwBad := none, svnUp := if numAt h 14 1 = 1 then some svn else none, fw := some (sramImage h) } }
  (s1.attest 2 0 svn (numAt h 32 16) digest).setFld F.SEC_BOOT_STAT.STAGE 5

/-- The check of the two slots in an attempt that has not accepted an image (R438): stages 2 and 3 have powered their domains, and the host port answers (R436, R568). [DEDUCED 66] -/
def State.imageCheck (s0 : State) (a b : FwRead) : State :=
  let s1 : State := { s0 with hif := { s0.hif with retry := false } }
  if s1.dev ≠ .boot ∨ s1.sec.slot ≠ 0xFF ∨ s1.sec.fwBad.isSome then s1
  else
    let s := s1.romStart.powers [1, 2, 3, 18, 22, 23]
    let accept (slotB : Bool) : State :=
      let img := s.slotImage slotB
      s.acceptFw (b2n slotB) img (Config.sha384 (img.take (128 + numAt img 16 4)))
    match s.slotCode false a with
    | none => accept false
    | some ca =>
      match s.slotCode true b with
      | none => accept true
      | some cb =>
        ({ s with sec := { s.sec with slot := 1, fwBad := some (cb, ca) } }).setFld F.SEC_BOOT_STAT.STAGE (if cb = C.BOOT_FLASH_ERR then 3 else 4)

/-- A tamper event with main power on (R452): counted, logged, measured; fatal when SEC_TAMPER_CFG says so. -/
def State.tamperEvent (s : State) : State :=
  let s1 := ((s.addSat F.SEC_TAMPER_STAT.COUNT 1).setFld F.SEC_TAMPER_STAT.TAMPERED 1).attest 7 0 0 0 []
  s1.reportAny C.SEC_TAMPER 0 0

/-- The battery-backed key is cleared and reads state `st` (R445, R451, R456). -/
def State.clearBbk (s : State) (st : Nat) : State :=
  { s with sec := { s.sec with keys := mset (fun _ => 0) 2 0 s.sec.keys, bbKcv := none } }.setFld F.SEC_KEY_STAT.BBK st

/-- Whether the battery-backed store holds a key that its KCV matches (R445); `kcvOk` tells whether VBAT has kept both. -/
def State.bbHolds (s : State) (kcvOk : Bool) : Bool := kcvOk && s.sec.bbKcv == some (Config.kcv (s.keyOf 2))

/-- POWER_UP: PD00 gains power (R433): every domain is reset and an attempt begins with FAILS 0; what the battery-backed store kept is checked (R445, R452, R453),
and the ROM checks the firmware (R438). [DEDUCED 66] -/
def execPowerUp (kcvOk vbatLost : Bool) (sense : FuseSense) (a b : FwRead) (s : State) : Host.Outcome State Fault Refusal :=
  if s.dev ≠ .off then .next s
  else
    let events := s.sec.vbatEvents
    let s1 := ((s.powerOnCleared 0).senseFuses sense).beginAttempt 0
    let s2 := if vbatLost then (s1.clearBbk 0).setFld F.SEC_TAMPER_STAT.VBAT_LOST 1
      else if s1.bbHolds kcvOk then s1 else s1.clearBbk 0
    let s3 := (List.range (satAt 0xFFFF events)).foldl (fun t _ => t.tamperEvent) { s2 with sec := { s2.sec with vbatEvents := 0 } }
    .next (s3.imageCheck a b)

/-- PD00_POWER_LOSS: the device is OFF (R550); a fuse blow that is cut off leaves its field in state 3, and lock or SVN fuses uncorrectable (R444, R457). `mboxBlow` tells that
security fuses were being blown: by the mailbox command in progress, else up to the SVN of the firmware (R438). [DEDUCED 67] -/
def execPd00PowerLoss (mboxBlow : Bool) (s : State) : Host.Outcome State Fault Refusal :=
  if s.dev = .off then .next s
  else
    let s1 := s.cutBlow
    let cut (t : State) : State := { t with sec := { t.sec with fuseCut := true } }
    let s2 := match s1.sec.mbox with
      | some m =>
        if !mboxBlow then s1
        else if m.op = 6 then s1.setFld F.SEC_FUSE_STAT.OWNER0 3
        else if m.op = 7 then s1.setFld F.SEC_FUSE_STAT.OWNER1 3
        else if (m.op = 8 ∨ m.op = 9) ∧ m.arg < 2 then s1.setFld (slotFld m.arg) 3
        else if m.op = 10 then cut s1
        else s1
      | none => if mboxBlow && s1.dev != DevPhase.boot && s1.sec.svnUp.isSome then cut s1 else s1
    let s3 := s2.powerOnCleared 0
    .next { s3.setFlds [(F.PWR_DOM_STAT.ON, 0), (F.BIST_FUSE_STAT.BUSY, 0)] with dev := .off }

/-- POR_N_RELEASE: a power-on reset with PD00 powered (R433). While the instruction register holds a test-mode instruction after an entry, the attempt waits (R456). [DEDUCED 70] -/
def execPorNRelease (sense : FuseSense) (s : State) : Host.Outcome State Fault Refusal :=
  if s.dev = .off then .next s
  else
    let s1 := (s.powerOnCleared 1).senseFuses sense
    .next (if s1.sec.testHold then { s1 with sec := { s1.sec with cause := 1 } } else s1.beginAttempt 1)

/-- WRST_N_RELEASE: a warm reset (R433); while a test-mode entry holds the reset, that goes on. [DEDUCED 70] -/
def execWrstNRelease (s : State) : Host.Outcome State Fault Refusal :=
  if s.dev = .off ∨ s.sec.testHold then .next s else .next (s.warmReset 2)

/-- BOOT_WDT_EXPIRED: the attempt has not reached READY in WDT_MS (R434, R435). -/
def execBootWdtExpired (s : State) : Host.Outcome State Fault Refusal :=
  if s.dev = .boot ∧ !s.sec.testHold ∧ s.bit F.SEC_BOOT_CFG.WDT_EN then .next (s.warmReset 3) else .next s

/-- FIRMWARE_FAILURE_RESET: the attempt is declared failed with `code` at `stage` (R434); when both slots have failed their check, with their codes
(R438). [DEDUCED 66] -/
def execFirmwareFailureReset (code : Half) (stage : Fin 8) (detail : Word) (slotB : Bool) (s : State) : Host.Outcome State Fault Refusal :=
  if s.dev ≠ .boot ∨ s.sec.testHold then .next s
  else match s.sec.fwBad with
    | some (cb, ca) => .next (s.declareFailure cb ca)
    | none =>
      if code = 0 then .next s
      else
        let s1 : State := if s.sec.slot = 0xFF ∧ 4 ≤ stage.val then { s with sec := { s.sec with slot := b2n (slotB || stage.val == 4) } } else s
        .next ((s1.setFld F.SEC_BOOT_STAT.STAGE stage.val).declareFailure code.toNat detail.toNat)

/-- The mask of the domains that stage 7 powers: every one, without the quadrants that the variant lacks. -/
def State.allDomains (s : State) : Nat := if s.f128 then 2 ^ 24 - 1 - 2 ^ 14 - 2 ^ 15 else 2 ^ 24 - 1

/-- Stage 7 before the self-test (R253, R436): the remaining domains and the quadrants powered, FCK running, every PLL locked but the one of clock domain CD04 on a UMT8840-F128-C (R2), the solver and in-service testing enabled. [DEDUCED 56] -/
def State.bringUp (s : State) : State :=
  let s2 : State := { s with fckOn := true }
  let quads := (List.range 4).filter (fun q => !s.f128 || decide (q < 2))
  let s3 := quads.foldl (fun t q => t.setFlds [(F.PSL_QCTRL.PWR_EN q, 1), (F.PSL_QSTAT.PWR_GOOD q, 1), (F.PSL_QSTAT.READY q, 1)])
    { s2 with pwr := { s2.pwr with quadUp := quads } }
  s3.setFlds [(F.PWR_DOM_STAT.ON, s.allDomains), (F.NOC_FENCE_STAT.FENCED, 0), (F.CLK_STAT.LOCK, if s.f128 then 0x3FB else 0x3FF), (F.TICK_STAT.LOCK, 1),
    (F.TICK_BUDGET_STAT.PERIOD_PS, periodPs s.fckSet.1 s.fckSet.2), (F.PWR_RAIL_STAT.IN_RANGE, 15), (F.SLV_CTRL.EN, 1), (F.BIST_CFG.EN, 1),
    (F.SEC_BOOT_STAT.STAGE, 7)]

/-- Whether a ledger lets this start skip the groups (R528): not after a Nightfall test that a reset or a loss of power has cut off (R533). -/
def State.ledgerUsable (s : State) (b : List Byte) : Bool :=
  !s.bist.nfCut && ledgerValid b && ofLeBytes ((b.drop 8).take 16) == s.deviceId && numAt b 30 1 % 2 == 0 && numAt b 28 1 == 0 &&
  decide (numAt b 29 1 < s.fld F.BIST_LEDGER_CFG.SKIP_MAX) && !s.bit F.SEC_TAMPER_STAT.TESTMODE_SEEN && s.fld F.SEC_TAMPER_STAT.COUNT == 0

/-- The ledger that a start reads, and whether it comes from flash: the AON copy, else the flash copy (R528). [DEDUCED 71] -/
def State.startLedger (s : State) : Option (List Byte × Bool) :=
  if ledgerValid s.aonLedger then some (s.aonLedger, false)
  else match s.flashCopy with
    | some i => some (s.flashBytes (s.ledgerAt i) 64, true)
    | none => none

/-- A start uses ledger `b` (R528): the groups are skipped, and a consumed copy is written into flash. -/
def State.useLedger (s : State) (b : List Byte) : State :=
  let c := s.ledger (numAt b 24 4 + 1) (numAt b 28 1) (numAt b 29 1 + 1) 1 (BitVec.ofNat 64 (numAt b 32 8)) (numAt b 40 4) (numAt b 44 4)
  (s.writeFlashLedger c).setFld F.BIST_NF_STAT.SKIPPED 1

/-- A group without the units of the valid repair records of kind `kind`, which are not tested at start-up (R532). -/
def State.spareUnits (s : State) (kind : Nat) (g : GroupEnd) : GroupEnd :=
  { g with fails := g.fails.filter (fun k => !s.validRecs.any (fun r => (recFields r).1 == kind && (recFields r).2.1 == k.toNat % 256)) }

/-- The four groups as a start runs them (R523): failed slices and X-cells are marked, and a failed key store loses the battery-backed key. [DEDUCED 71] -/
def State.startGroups (s0 : State) (t0 : SelfTest) : State :=
  let s : State := { s0 with bist := { s0.bist with nfCut := false } }
  let t : SelfTest := { t0 with xcl := s.spareUnits 4 t0.xcl, psl := s.spareUnits 3 t0.psl }
  let gs := [t.tck, t.xcl, t.psl, t.key]
  let s1 := (gs.zip (List.range 4)).foldl (fun u e => u.groupVerdict e.2 e.1) s
  let s2 := t.xcl.fails.foldl (fun u k => u.setRowBit R.BIST_XCL_FAIL (k.toNat % 128)) s1
  let s3 := t.psl.fails.foldl (fun u k => u.setRowBit R.BIST_PSL_FAIL (k.toNat % 256)) s2
  let s4 := if t.key.fails ≠ [] then s3.clearBbk 3 else s3
  s4.setFld F.BIST_NF_STAT.RESULTS (groupResults gs)

/-- CELL fuse records make the U-cell stand in for good (R522, R532); a record whose local index is that of no cell has no effect. -/
def State.fuseCells (s : State) : State :=
  s.validRecs.foldl (fun t r =>
    let x := recFields r
    if x.1 = 1 ∧ x.2.2.1 ≤ 9 ∧ !t.isRclk (coreSlot x.2.1 x.2.2.1 + 64) then t.setFlds [(F.FAB_CL_STAT.U_STATE x.2.1, 2), (F.FAB_CL_STAT.U_TARGET x.2.1, x.2.2.1)] else t) s

/-- One slice of the start-up pass that did not pass wholly (R522, R523). -/
def State.startPart (s : State) (p : StartPart) : State :=
  let ps := s.sliceParts p.cl.val p.j.val
  let x : BistSlice := { cl := p.cl.val, j := p.j.val, logic := ps.1, chunk := ps.2, takeover := none, back := none, differs := none, retest := false }
  (s.logicVerdict x p.logic).chunkVerdict x p.chunk (p.rows.map (·.val)) (p.spares.map (·.val))

/-- The parts of the start-up pass that are skipped are counted (R505). -/
def State.countSkips (s : State) : State :=
  (List.range 2560).foldl (fun t k =>
    let ps := s.sliceParts (k / 10) (k % 10)
    let n := b2n (ps.1 == .none) + b2n (ps.2 == .none && k % 10 != 9)
    if n = 0 then t else (t.addSat F.BIST_EVT_CNT.SKIPPED n).setFld (F.BIST_CL.SKIP_SEEN (k / 10)) 1) s

/-- The spare rows not in use that the start-up pass finds good: those of the clusters whose slice 8 passed (R515, R516). A repair of the same pass can take them.
 -/
def State.startSpares (s : State) (t : SelfTest) : State :=
  ((List.range 256).filter (fun m => !t.parts.any (fun p => p.cl.val == m && p.j.val == 8))).foldl
    (fun u m => u.sparesTested m (u.idleSpares m) (u.idleSpares m)) s

/-- The start-up self-test up to its groups (R522, R523): fuse records, then one pass, in which every substitution is found again. [DEDUCED 71] -/
def State.startPass (s : State) (t : SelfTest) : State :=
  let s1 := s.fuseCells.countSkips.startSpares t
  let s2 := t.parts.foldl (fun u p => u.startPart p) s1
  let s3 := (List.range 256).foldl (fun u m => u.standIn m) s2
  (s3.setFld F.BIST_PASS_CNT.PASSES (s3.fld F.BIST_PASS_CNT.PASSES + 1)).setReg R.BIST_PASS_TICK s3.tick

/-- A record as its 32 bytes hold it (R541). -/
def recordOf (b : List Byte) : LogRecord :=
  ⟨BitVec.ofNat 64 (numAt b 0 8), BitVec.ofNat 16 (numAt b 8 2), BitVec.ofNat 8 (numAt b 11 1), BitVec.ofNat 32 (numAt b 12 4),
   BitVec.ofNat 64 (numAt b 16 8), BitVec.ofNat 32 (numAt b 24 4), BitVec.ofNat 32 (numAt b 28 4), 0⟩

/-- A record restored from the mirror enters the ring with PRIOR set (R545). -/
def State.priorRecord (s : State) (r : LogRecord) : State :=
  let e := s.err
  let r1 : LogRecord := { r with flags := r.flags ||| 0x10, seq := e.wptr }
  ({ s with err := { e with ring := mset (fun _ => none) (e.wptr.toNat % 4096) (some r1) e.ring, wptr := e.wptr + 1 } }).elogEvent.reserveCheck

/-- Stage 8 copies the unread records of the mirror in window 1, where MCH1 kept its contents through the reset (R545). [DEDUCED 68] -/
def State.restoreMirror (s : State) : State :=
  let a := 0x3F90000000
  if !s.bit (F.MEMC_STAT.RETAINED 1) then s
  else
    let wp := s.dpaNat (a + 0x20000) 4
    let rp := s.dpaNat (a + 0x20004) 4
    let n := min ((wp + 2 ^ 32 - rp) % 2 ^ 32) 4032
    let rs := (List.range n).map (fun i => recordOf (s.dpaBytes (a + 32 * ((rp + i) % 4096)) 32))
    rs.foldl (fun t r => t.priorRecord r) s

/-- The boot records written since the last READY, oldest first (R436): CODE and DETAIL, from the entry before NEXT backwards. -/
def State.newBootRecs (s : State) : Nat → Nat → List (Nat × Nat)
  | 0, _ => []
  | n + 1, e =>
    let w1 := (s.reg (R.SEC_BOOT_REC e 1)).toNat
    if (s.reg (R.SEC_BOOT_REC e 0)).toNat = 0 ∨ w1 % 2 ^ 24 = 8 * 2 ^ 16 then []
    else s.newBootRecs n ((e + 7) % 8) ++ [(w1 % 2 ^ 16, (s.reg (R.SEC_BOOT_REC e 2)).toNat)]

/-- Stage 8 (R429, R434, R436, R438, R545, R546, R556): the log takes what went before, the attempt succeeds, the SVN fuses are blown and the automatic load
begins. [DEDUCED 68] -/
def State.reachReady (s : State) : State :=
  let s1 := s.restoreMirror
  let s2 := (s1.newBootRecs 8 ((s1.fld F.SEC_BOOT_STAT.NEXT + 7) % 8)).foldl (fun t r => t.bootRecordLog r.1 r.2) s1
  let s3 := (List.range 8).foldl (fun t c => t.setFld (F.MEMC_STAT.RETAINED c) 0) s2
  let s4 := (s3.bootRecord 0 8 0 0).setFlds [(F.SEC_BOOT_STAT.FAILS, 0), (F.SEC_BOOT_STAT.STAGE, 8)]
  let s5 := match s4.sec.svnUp with
    | some v => s4.setFld F.SEC_FUSE_STAT.SVN (max v (s4.fld F.SEC_FUSE_STAT.SVN))
    | none => s4
  let s6 := if s5.dump.failLog then
      ({ s5 with dump := { s5.dump with failLog := false } }).report C.ERR_DUMP_FAIL 0 0
    else s5
  let s7 : State := { s6 with dev := .ready, sec := { s6.sec with mbox := none } }.setFld F.SEC_MBOX_STAT.BUSY 0
  if s7.bit F.CFG_AUTOLOAD.EN && s7.loadBarred.isNone then
    s7.beginLoad (some .firmware) 1 (s7.bit F.CFG_AUTOLOAD.FALLBACK) false (s7.bit F.CFG_AUTOLOAD.CHAIN) (s7.fld F.CFG_FLASH_PRI.ADDR * 4096) none
  else s7

/-- Firmware writes CFG_CHAIN, with what the spec does not say, and gives FORM at stage 7 unless the device stays alone (R469). [DESIGN CHOICE 144] -/
def State.bootForm (s : State) : State :=
  let s1 : State := { s with csc := { s.csc with role := s.fld F.CSC_CFG.ROLE, posReq := s.fld F.CSC_CFG.POS_REQ, clash := false } }
  if s1.csc.role = 3 then s1.enterAlone
  else
    let w := Config.unstated s1.free 469
    (s1.tookFree.setFlds [(F.CFG_CHAIN.UP_EN, w % 2), (F.CFG_CHAIN.UP_PORT, w / 2 % 8), (F.CFG_CHAIN.DN_EN, w / 16 % 2),
      (F.CFG_CHAIN.DN_PORT, w / 32 % 8)]).enterDiscover

/-- The mask of the channels that firmware has declared FAILED (R380). -/
def State.failedChannels (s : State) : Nat := ((List.range 8).map (fun c => if s.chanState c = 4 then 2 ^ c else 0)).sum

/-- BOOT_READY: the attempt runs through its stages (R436). `a` and `b` are what the firmware slots bring where no image has been accepted yet, and `test`
what the start-up self-test finds. A channel declared FAILED (R380, R436) or the tick distribution group (R523) can end the attempt, the latter with the groups after it not
run; a channel that is not READY yet stops the device from leaving BOOT at stage 6 (R380). [DEDUCED 56, 66, 71] -/
def execBootReady (a b : FwRead) (test : SelfTest) (s : State) : Host.Outcome State Fault Refusal :=
  if s.dev ≠ .boot ∨ s.sec.testHold ∨ s.sec.fwBad.isSome then .next s
  else
    let s0 := s.imageCheck a b
    let s1 := s0.trainStage
    if s0.sec.fwBad.isSome then .next s0
    else if s1.failedChannels ≠ 0 then
      .next (s1.declareFailure C.MEM_TRAIN_FAIL s1.failedChannels)
    else if (List.range 8).any (fun c => s1.chanState c != 2) then .next s1
    else
      let s2 := s1.bringUp.startPass test
      let led := s2.startLedger
      let s2 := s2.setFld F.BIST_NF_STAT.FROM_FLASH (b2n (led.any (·.2)))
      match led.filter (fun l => s2.ledgerUsable l.1) with
      | some l => .next (s2.useLedger l.1).bootForm.reachReady
      | none =>
        if groupVerdictOf test.tck ≠ 0 then
          .next (s2.declareFailure C.BIST_STARTUP_FAIL (groupVerdictOf test.tck + 0xFC))
        else .next (s2.startGroups test).bootForm.reachReady

end Sys2Proof.Machine
end

