-- ==== Sys2Proof/Machine/SecExec.lean ====
section
/-! DEFINITION. The security mailbox, owner keys and modules, attestation, tamper and test-mode entry (R442 to R457). -/

namespace Sys2Proof.Machine

/-- Whether mailbox command `op` with `arg` is accepted in the present device state (R442, R452). -/
def State.mboxOpen (s : State) (op arg : Nat) : Bool :=
  let st := s.glbState
  (if op = 4 ∨ op = 5 then st == 2
   else if op = 6 ∨ op = 7 ∨ op = 9 ∨ op = 10 then st == 3
   else if op = 8 then st == 3 || (st == 4 && arg == 2)
   else if op = 11 then st == 3 || st == 4
   else decide (2 ≤ st)) &&
  !((op == 1 || op == 3) && s.bit F.SEC_KEY_STAT.LOCKED) && !(op == 8 && arg == 2 && s.sec.tamperLow)

/-- The input bytes that mailbox command `op` needs (R437, R442). -/
def mboxInput (op : Nat) : Nat := if op = 1 ∨ op = 8 then 32 else if op = 4 ∨ op = 11 then 224 else if op = 6 ∨ op = 7 then 192 else 0

/-- Whether mailbox command `op` is malformed (R442): an unknown OP, a bad ARG, a LEN too small, or data outside host memory in TWILIGHT. -/
def State.mboxBad (s : State) (op arg len addr : Nat) : Bool :=
  op == 0 || decide (12 < op) || (op == 8 && decide (2 < arg)) || (op == 9 && decide (1 < arg)) || (op == 10 && decide (7 < arg)) ||
  decide (len < mboxInput op) || (s.glbState == 2 && op != 5 && op != 12 && dpaRangeAt addr != some .hostMem)

/-- A mailbox command is refused with `code` in STATUS (R442). -/
def State.mboxRefuse (s : State) (req : Requester) (op code : Nat) : State :=
  let s1 := s.setFld F.SEC_MBOX_STAT.STATUS code
  if code = C.STATE_REFUSED then s1.logRefused req R.SEC_MBOX_CMD op else s1.report code (srcRequester req) 0

/-- A write to SEC_MBOX_CMD with GO = 1 (R442): ignored while BUSY, refused, or accepted; a quote covers what stands now (R450). -/
def State.mboxCommand (s : State) (req : Requester) (op arg : Nat) : State :=
  if s.bit F.SEC_MBOX_STAT.BUSY then s.logRefused req R.SEC_MBOX_CMD op
  else
    let s1 := s.setFlds [(F.SEC_MBOX_CMD.OP, op), (F.SEC_MBOX_CMD.ARG, arg)]
    let addr := s.fld F.SEC_MBOX_ADDR.ADDR * 64
    let len := s.fld F.SEC_MBOX_LEN.BYTES
    if !s.mboxOpen op arg then s1.mboxRefuse req op C.STATE_REFUSED
    else if s.mboxBad op arg len addr then s1.mboxRefuse req op C.SEC_MBOX_INVALID
    else if op = 5 then (s1.setFld F.SEC_BOOT_STAT.FAILS 0).warmReset 5
    else
      let flags := b2n (s.fld F.SEC_TAMPER_STAT.COUNT != 0) + 2 * b2n (s.bit F.SEC_TAMPER_STAT.TESTMODE_SEEN) + 4 * b2n s.sec.hostFw
      let m : MboxCmd := ⟨op, arg, addr, len, s.sec.log.length, s.fld F.SEC_LOG_STAT.OVERFLOW, s.sec.chain, s.tick, flags, srcRequester req, false⟩
      ({ s1 with sec := { s1.sec with mbox := some m } }).setFld F.SEC_MBOX_STAT.BUSY 1

/-- QUOTE. -/
def execQuote (req : Requester) (s : State) : Host.Outcome State Fault Refusal := .next (s.mboxCommand req 1 0)

/-- READ_LOG. -/
def execReadLog (req : Requester) (s : State) : Host.Outcome State Fault Refusal := .next (s.mboxCommand req 2 0)

/-- READ_IDKEY. -/
def execReadIdkey (req : Requester) (s : State) : Host.Outcome State Fault Refusal := .next (s.mboxCommand req 3 0)

/-- BOOT_HOST. -/
def execBootHost (req : Requester) (s : State) : Host.Outcome State Fault Refusal := .next (s.mboxCommand req 4 0)

/-- RETRY: FAILS becomes 0 and the device takes a warm reset of CAUSE 5 (R440, R442). [DEDUCED 69] -/
def execRetry (req : Requester) (s : State) : Host.Outcome State Fault Refusal := .next (s.mboxCommand req 5 0)

/-- ENROL_OWNER. -/
def execEnrolOwner (req : Requester) (s : State) : Host.Outcome State Fault Refusal := .next (s.mboxCommand req 6 0)

/-- ROTATE_OWNER. -/
def execRotateOwner (req : Requester) (s : State) : Host.Outcome State Fault Refusal := .next (s.mboxCommand req 7 0)

/-- PROVISION_KEY of slot `arg`. -/
def execProvisionKey (req : Requester) (arg : Byte) (s : State) : Host.Outcome State Fault Refusal := .next (s.mboxCommand req 8 arg.toNat)

/-- REVOKE_KEY of fuse slot `arg`. -/
def execRevokeKey (req : Requester) (arg : Byte) (s : State) : Host.Outcome State Fault Refusal := .next (s.mboxCommand req 9 arg.toNat)

/-- LOCK of the fuses that `arg` names. -/
def execLock (req : Requester) (arg : Byte) (s : State) : Host.Outcome State Fault Refusal := .next (s.mboxCommand req 10 arg.toNat)

/-- LOAD_MODULE. -/
def execLoadModule (req : Requester) (s : State) : Host.Outcome State Fault Refusal := .next (s.mboxCommand req 11 0)

/-- ZEROIZE. -/
def execZeroize (req : Requester) (s : State) : Host.Outcome State Fault Refusal := .next (s.mboxCommand req 12 0)

/-- The command in progress ends with `code` and `len` bytes written (R442). -/
def State.mboxEnd (s : State) (code len : Nat) : State :=
  ({ s with sec := { s.sec with mbox := none } }).setFlds
    [(F.SEC_MBOX_STAT.BUSY, 0), (F.SEC_MBOX_STAT.STATUS, code), (F.SEC_MBOX_LEN.BYTES, len)]

/-- The command in progress fails with a code of the security block, which is logged (R458). -/
def State.mboxFail (s : State) (m : MboxCmd) (code : Nat) : State := (s.report code m.source 0).mboxEnd code 0

/-- The key in slot `k` of the store is replaced. -/
def State.setKey (s : State) (k v : Nat) : State := { s with sec := { s.sec with keys := mset (fun _ => 0) k v s.sec.keys } }

/-- The group order of brainpoolP384r1 (RFC 5639). [PRESUMED 134] -/
def groupOrder : Nat := 0x8CB91E82A3386D280F5D6F7E50E641DF152F7109ED5456B31F166E6CAC0425A7CF3AB6AF6B7FC3103B883202E9046565

/-- The identity private key (R448): 1 + (SHA-384(UDS ‖ DEVICE_ID) mod (n − 1)). [PRESUMED 134] -/
def State.identityKey (s : State) : Nat :=
  1 + ofLeBytes (Config.sha384 (leBytes 32 s.sec.uds ++ leBytes 16 s.deviceId)).reverse % (groupOrder - 1)

/-- The quote that a command accepted earlier asks for (R450). [DEDUCED 69] -/
def State.quoteBytes (s : State) (m : MboxCmd) (nonce : List Byte) : List Byte :=
  let body := leBytes 2 1 ++ leBytes 2 0x8840 ++ leBytes 4 m.entries ++ leBytes 4 m.overflow ++ leBytes 4 m.flags ++ leBytes 16 s.deviceId ++
    leBytes 8 m.tick.toNat ++ (nonce ++ List.replicate 32 0).take 32 ++ (m.chain ++ List.replicate 48 0).take 48 ++ List.replicate 40 0
  body ++ leBytes 96 (Config.idSign s.identityKey body).toNat

/-- The network interface that the data of a mailbox command goes through: the security block's, and in TWILIGHT, where the boot ROM on MC0 serves the mailbox (R439), that core's. [DEDUCED 139] -/
def State.mboxNi (s : State) : Nat := if s.dev = .twilight then 169 else 171

/-- A command that writes `bs` at `a` completes, or fails with the code of the network or memory. -/
def State.mboxWrite (s : State) (a : Nat) (bs : List Byte) (status : Nat) : State :=
  let ni := s.mboxNi
  let c := if bs.isEmpty then 0 else memStatus s ni a bs.length true status
  let s := if bs.isEmpty then s else s.eccSeen ni a bs.length true status
  if c ≠ 0 then (s.accLog ni a c).mboxEnd c 0 else (s.unitWrite ni a bs).mboxEnd 0 bs.length

/-- Whether the signature of the enrolment block for owner slot `k` agrees over DEVICE_ID, Q and the slot byte (R446): with Q's own private key for slot 0, with
that of the key in slot 0 for slot 1. [DEDUCED 11] -/
def State.enrolSigned (s : State) (k : Nat) (block : List Byte) : Bool :=
  let q := block.take 96
  Config.ecdsaOk (if k = 0 then q else leBytes 96 (s.keyOf 3)) (leBytes 16 s.deviceId ++ q ++ leBytes 1 k) ((block.drop 96).take 96)

/-- Enrolment or rotation (R446): slot `k` (0 or 1) takes the key, the slot before it is revoked, and the log measures it. -/
def State.mboxOwner (s : State) (m : MboxCmd) (k : Nat) (block : List Byte) (blowOk : Bool) : State :=
  let q := block.take 96
  let ok := s.enrolSigned k block
  let may := if k = 0 then !s.bit F.SEC_FUSE_STAT.ENROL_LOCK && s.fld F.SEC_FUSE_STAT.OWNER0 == 0
    else s.fld F.SEC_FUSE_STAT.OWNER0 == 1 && s.fld F.SEC_FUSE_STAT.OWNER1 == 0
  if !may || !ok then s.mboxFail m C.SEC_ENROL_FAIL
  else if !blowOk then (s.setFld (slotFld (2 + k)) 3).mboxFail m C.SEC_ENROL_FAIL
  else
    let s1 := (s.setFld (slotFld (2 + k)) 1).setKey (3 + k) (ofLeBytes q)
    let s2 := if k = 1 then s1.setFld F.SEC_FUSE_STAT.OWNER0 2 else s1
    (s2.attest 5 0 k 0 (Config.sha384 q)).mboxEnd 0 0

/-- PROVISION_KEY (R445, R457): the key is stored and its KCV written at ADDR + 32. -/
def State.mboxProvision (s : State) (m : MboxCmd) (key : List Byte) (blowOk : Bool) (status : Nat) : State :=
  let v := ofLeBytes key
  let kcv := (Config.kcv v).toNat
  let put (t : State) : State :=
    ((t.setKey m.arg v).attest 6 0 m.arg kcv []).mboxWrite (m.addr + 32) (leBytes 4 kcv) status
  if m.arg = 2 then
    if m.spoiled then s.mboxFail m C.SEC_KEY_PROV_FAIL
    else put ({ s with sec := { s.sec with bbKcv := some (Config.kcv v) } }.setFld F.SEC_KEY_STAT.BBK 1)
  else if s.bit F.SEC_FUSE_STAT.PROV_LOCK ∨ s.fld (slotFld m.arg) ≠ 0 then s.mboxFail m C.SEC_KEY_PROV_FAIL
  else if !blowOk then (s.setFld (slotFld m.arg) 3).mboxFail m C.SEC_KEY_PROV_FAIL
  else put (s.setFld (slotFld m.arg) 1)

/-- REVOKE_KEY: fuse slot ARG is revoked (R442). [DEDUCED 69] -/
def State.mboxRevoke (s : State) (m : MboxCmd) (blowOk : Bool) : State :=
  if !blowOk then (s.setFld (slotFld m.arg) 3).mboxFail m C.SEC_KEY_PROV_FAIL
  else ((s.setFld (slotFld m.arg) 2).attest 6 0 m.arg (Config.kcv (s.keyOf m.arg)).toNat []).mboxEnd 0 0

/-- LOCK: the lock fuses that ARG names are blown (R442). [DEDUCED 69] -/
def State.mboxLock (s : State) (m : MboxCmd) (blowOk : Bool) : State :=
  if !blowOk then s.mboxFail m C.SEC_KEY_PROV_FAIL
  else
    let set (t : State) (b : Nat) (f : Fld) : State := if bitOf m.arg b then t.setFld f 1 else t
    (set (set (set s 0 F.SEC_FUSE_STAT.PROV_LOCK) 1 F.SEC_FUSE_STAT.JTAG_LOCK) 2 F.SEC_FUSE_STAT.ENROL_LOCK).mboxEnd 0 0

/-- LOAD_MODULE (R447): the module is refused, or measured, placed in management SRAM and started on MC1 at ENTRY. -/
def State.mboxModule (s : State) (m : MboxCmd) (img : List Byte) : State :=
  let body := numAt img 16 4
  if s.fwBadHeader img 1 1 (512 * 1024) || decide (m.len < 224 + body) || !s.ownerHashOk ((img.drop 48).take 48) || !fwSigned (s.signerKey 1) img then
    s.mboxFail m C.SEC_MODULE_AUTH_FAIL
  else
    let s1 := s.attest 3 1 (numAt img 15 1) (numAt img 32 16) (Config.sha384 (img.take (128 + body)))
    ({ s1 with sec := { s1.sec with module_ := some (sramImage img) } }).mboxEnd 0 0

/-- BOOT_HOST (R440): the image fails R438, or an attempt of CAUSE 9 begins at stage 5 without a reset; the command then takes the time of stages 5 to 8 (R442). [DEDUCED 69] -/
def State.mboxBootHost (s : State) (m : MboxCmd) (img : List Byte) : State :=
  match (if m.len < 224 + numAt img 16 4 then some C.BOOT_FW_FORMAT else s.fwCode img) with
  | some c => s.mboxEnd c 0
  | none =>
    let s1 := s.setFlds [(F.SEC_MBOX_STAT.STATUS, 0), (F.SEC_MBOX_LEN.BYTES, 0)]
    let s2 : State := { s1 with dev := .boot, sec := { s1.sec with seq := s1.sec.seq + 1, cause := 9, hostFw := true } }
    s2.acceptFw 2 img (Config.sha384 (img.take (128 + numAt img 16 4)))

/-- SEC_MBOX_COMPLETE: the command in progress completes (R442). `status` and `wstatus` are what the network and memory bring for its input and for what it
writes, `blowOk` whether a blow verifies (R444). [DEDUCED 69] -/
def execSecMboxComplete (status wstatus : Half) (blowOk : Bool) (s0 : State) : Host.Outcome State Fault Refusal :=
  match s0.sec.mbox.filter (fun _ => s0.dev != .boot) with
  | none => .next s0
  | some m =>
    let ni := s0.mboxNi
    let n := if m.op = 4 ∨ m.op = 11 then m.len else mboxInput m.op
    let c := if n = 0 then 0 else memStatus s0 ni m.addr n false status.toNat
    let s0 := if n = 0 then s0 else s0.eccSeen ni m.addr n false status.toNat
    if c ≠ 0 then .next ((s0.accLog ni m.addr c).mboxEnd c 0)
    else
      let (bs, s) := s0.readDpa m.addr n
      let wst := wstatus.toNat
      .next (
        if m.op = 1 then s.mboxWrite (m.addr + 64) (s.quoteBytes m bs) wst
        else if m.op = 2 then s.mboxWrite m.addr ((s.sec.log.take (m.len / 96)).flatten) wst
        else if m.op = 3 then s.mboxWrite m.addr (leBytes 96 (Config.idKey s.identityKey).toNat) wst
        else if m.op = 4 then s.mboxBootHost m bs
        else if m.op = 6 then s.mboxOwner m 0 bs blowOk
        else if m.op = 7 then s.mboxOwner m 1 bs blowOk
        else if m.op = 8 then s.mboxProvision m bs blowOk wst
        else if m.op = 9 then s.mboxRevoke m blowOk
        else if m.op = 10 then s.mboxLock m blowOk
        else if m.op = 11 then s.mboxModule m bs
        else (s.clearBbk 3).mboxEnd 0 0)

/-- TAMPER: TAMPER_N acts (R451, R452, R457); `pin` tells whether the pin stays low. While it has stayed low, the command is the pin's release. In step 5 of a Nightfall test it
makes KEY INCOMPLETE (R533). [DEDUCED 70] -/
def execTamper (pin : TamperPin) (s : State) : Host.Outcome State Fault Refusal :=
  if s.sec.tamperLow then .next { s with sec := { s.sec with tamperLow := pin.low } }
  else
    let s1 := ({ s with sec := { s.sec with tamperLow := pin.low },
                        bist := { s.bist with keyCut := s.bist.keyCut || (pin.keyStep && s.fld F.BIST_STAT.NF == 1) } }).clearBbk 2
    if s1.dev = .off then .next { s1 with sec := { s1.sec with vbatEvents := s1.sec.vbatEvents + 1 } }
    else
      let spoil (m : MboxCmd) : MboxCmd := if m.op = 8 ∧ m.arg = 2 then { m with spoiled := true } else m
      .next ({ s1 with sec := { s1.sec with mbox := s1.sec.mbox.map spoil } }).tamperEvent

/-- The boundary-scan instructions (R591). -/
def boundaryScan (ir : Byte) : Bool := [0x00, 0x01, 0x02, 0x03, 0x05, 0x06, 0x08, 0x09, 0xFF].contains ir

/-- The identification code (R591). -/
def idcodeValue : Nat := 0x5884005F

/-- What the instruction register captures, and a scan of it shifts out (R591). -/
def irCapture : Byte := 0x01

/-- What a boundary-scan instruction makes the pins do (R591). -/
def pinDrive (ir : Byte) : PinDrive :=
  if ir = 0x00 ∨ ir = 0x05 then .boundary else if ir = 0x06 then .highz else if ir = 0x08 then .pulse else if ir = 0x09 then .train else .system

/-- A boundary-scan instruction takes effect: IDCODE captures the code, BYPASS, CLAMP and HIGHZ the bypass bit, and the others the levels of the pins, which the command does not
give. [DEDUCED 100] -/
def State.selectIr (s : State) (ir : Byte) : State :=
  let bits := if ir = 0x01 then (List.range 32).map (bitOf idcodeValue)
    else if [0x05, 0x06, 0xFF].contains ir then [false]
    else (List.range s.jtag.boundary.length).map (fun i => bitOf (Config.unstated s.free 591) i)
  ({ s with jtag := { s.jtag with ir := ir, irOut := irCapture, drive := pinDrive ir, captured := bits } }).tookFree

/-- A fuse blow of a mailbox command that a test-mode entry lets complete (R456, R457): its fuses change, nothing else is written. -/
def State.mboxBlown (s : State) (m : MboxCmd) (ok : Bool) : State :=
  let st := if ok then 1 else 3
  if m.op = 6 then s.setFld F.SEC_FUSE_STAT.OWNER0 st
  else if m.op = 7 then
    let s1 := s.setFld F.SEC_FUSE_STAT.OWNER1 st
    if ok then s1.setFld F.SEC_FUSE_STAT.OWNER0 2 else s1
  else if m.op = 8 ∧ m.arg < 2 then s.setFld (slotFld m.arg) st
  else if m.op = 9 then s.setFld (slotFld m.arg) (if ok then 2 else 3)
  else if m.op = 10 ∧ ok then s.mboxLock m true
  else s

/-- The key that a blow of PROVISION_KEY, ENROL_OWNER or ROTATE_OWNER puts into its fuses. -/
def State.blownKey (s : State) (m : MboxCmd) : State :=
  if m.op = 6 ∨ m.op = 7 then s.setKey (m.op - 3) (s.dpaNat m.addr 96)
  else if m.op = 8 ∧ m.arg < 2 then s.setKey m.arg (s.dpaNat m.addr 32)
  else s

/-- TEST_MODE_ENTRY: a test-mode instruction is loaded in Update-IR (R455, R456). With JTAG_LOCK = 1 it selects the bypass register and nothing else.
Otherwise a blow in progress completes, the device takes a warm reset of CAUSE 7, secrets are cleared and the reset is held. `mboxBlow` tells that the mailbox
command in progress was blowing fuses, `blowOk` how a blow ends. [DEDUCED 70] -/
def execTestModeEntry (ir : Byte) (blowOk mboxBlow : Bool) (s : State) : Host.Outcome State Fault Refusal :=
  if boundaryScan ir ∨ s.dev = .off then .next s
  else
    let s1 : State := { s with jtag := { s.jtag with ir := ir, irOut := irCapture, drive := .system, captured := [false] } }
    if s1.bit F.SEC_FUSE_STAT.JTAG_LOCK ∨ s1.sec.testHold then .next s1
    else
      match execFuseBlowDone blowOk s1 with
      | .next s2 =>
        let s3 := match s2.sec.mbox with
          | some m => if mboxBlow then (s2.mboxBlown m blowOk).blownKey m else s2
          | none => s2
        let s4 := if s3.dev = .boot then s3.attemptFails C.BOOT_INTERRUPTED (s3.fld F.SEC_BOOT_STAT.STAGE) 0 false else s3
        let s5 := (s4.warmCleared.clearBbk 3).setFlds [(F.SEC_KEY_STAT.LOCKED, 1), (F.SEC_TAMPER_STAT.TESTMODE_SEEN, 1)]
        .next { s5 with dev := .boot, sec := { s5.sec with testHold := true, testRec := true, cause := 7 } }
      | o => o

/-- The attempt that a test-mode entry has held back begins, the instruction register holding a boundary-scan instruction (R456). -/
def State.leaveTestMode (s : State) : State :=
  if s.sec.testHold then ({ s with sec := { s.sec with testHold := false } }).beginAttempt s.sec.cause else s

/-- TEST_MODE_EXIT: TRST_N is asserted, or a boundary-scan instruction is loaded (R456, R591). [DEDUCED 70] -/
def execTestModeExit (trst : Bool) (ir : Byte) (s : State) : Host.Outcome State Fault Refusal :=
  if trst then .next ({ s with jtag := JtagState.reset }).leaveTestMode
  else if boundaryScan ir then .next (s.selectIr ir).leaveTestMode
  else .next s

end Sys2Proof.Machine
end

