-- ==== Sys2Proof/Machine/JtagExec.lean ====
section
/-! DEFINITION. The boundary-scan instructions of the TAP (R456, R591). What a data register is shifted is outside the block; its capture and its effect on
the pins are here. -/

namespace Sys2Proof.Machine

/-- A boundary-scan instruction `ir` is loaded in Update-IR: what it makes the pins do and what its data register captures. The TAP is without effect only while
the block has no power. A test-mode entry ends with it (R456). [DEDUCED 100] -/
def State.loadIr (s : State) (ir : Byte) (drive : PinDrive) (captured : List Bool) : State :=
  if s.dev = .off then s
  else ({ s with jtag := { s.jtag with ir := ir, irOut := irCapture, drive := drive, captured := captured } }).leaveTestMode

/-- BYPASS (R591). -/
def execBypass (s : State) : Host.Outcome State Fault Refusal := .next (s.loadIr 0xFF .system [false])

/-- IDCODE (R591): 32 bits, least significant first. -/
def execIdcode (s : State) : Host.Outcome State Fault Refusal :=
  .next (s.loadIr 0x01 .system ((List.range 32).map (bitOf idcodeValue)))

/-- SAMPLE (R591): the boundary register captures the pins while the system drives them. -/
def execSample (pins : List Bool) (s : State) : Host.Outcome State Fault Refusal := .next (s.loadIr 0x02 .system pins)

/-- PRELOAD (R591): the boundary register holds `data` for a later EXTEST or CLAMP. -/
def execPreload (data : List Bool) (s : State) : Host.Outcome State Fault Refusal :=
  if s.dev = .off then .next s
  else .next (({ s with jtag := { s.jtag with boundary := data } }).loadIr 0x03 .system s.jtag.captured)

/-- EXTEST (R591). [DEDUCED 100] -/
def execExtest (pins : List Bool) (s : State) : Host.Outcome State Fault Refusal := .next (s.loadIr 0x00 .boundary pins)

/-- CLAMP (R591). -/
def execClamp (s : State) : Host.Outcome State Fault Refusal := .next (s.loadIr 0x05 .boundary [false])

/-- HIGHZ (R591). -/
def execHighz (s : State) : Host.Outcome State Fault Refusal := .next (s.loadIr 0x06 .highz [false])

/-- EXTEST_PULSE (R591, IEEE 1149.6). -/
def execExtestPulse (pins : List Bool) (s : State) : Host.Outcome State Fault Refusal := .next (s.loadIr 0x08 .pulse pins)

/-- EXTEST_TRAIN (R591, IEEE 1149.6). -/
def execExtestTrain (pins : List Bool) (s : State) : Host.Outcome State Fault Refusal := .next (s.loadIr 0x09 .train pins)

end Sys2Proof.Machine
end

