-- ==== Sys2Proof/Machine/BarView.lean ====
section
/-! DEFINITION. What BAR0 reads without side effects: stored registers, registers that show live state, the windows on the log, the Starfix
image and MSI-X, and the register image of a dump (R18, R545, R561, R563, R565). -/

namespace Sys2Proof.Machine

/-- The live parts of the GLB, TICK and PWR registers, of AUX inputs and of the log's registers. The rail monitors, the GPIO inputs and the VCCIO0 level
are outside the block: each read finds what they are then. [DESIGN CHOICE 10] -/
def State.viewMisc (s : State) (off : Nat) : Option Nat :=
  if off = R.GLB_INFO then some s.sliceCount
  else if off = 0x8 then some (s.glbState + siteBits s.siteActive * 2 ^ 16)
  else if off = R.TICK_COUNT then some s.tick.toNat
  else if off = R.BIST_STAT then some ((s.reg off).toNat / 2 ^ 7 * 2 ^ 7 + s.bist.slices.length % 2 ^ 7)
  else if off = R.ERR_STAT then some ((s.reg off).toNat / 2 ^ 11 * 2 ^ 11 + s.err.kinds.length % 2 ^ 11)
  else if off = R.ERR_WPTR then some s.err.wptr.toNat
  else if off = R.ERR_RPTR then some s.err.rptr.toNat
  else if off = R.ERR_LOST then some s.err.lost
  else if off = R.PWR_RAIL_STAT then some ((s.reg off).toNat / 16 * 16 + Config.unstated s.free 608 % 16)
  else if off = R.AUX_GPIO_IN then some (Config.unstated s.free 593 % 2 ^ 24)
  else if off = R.AUX_XSPI_STAT then some ((s.reg off).toNat / 2 * 2 + Config.unstated s.free 592 % 2)
  else none

/-- The live parts of the fabric's registers: RCLK and LOADED of a cluster, LEVEL of a stream buffer; FAB_RB_DATA reads 0 here (R561). -/
def State.viewFab (s : State) (off : Nat) : Option Nat :=
  if 0x81000 ≤ off ∧ off < 0x81400 then
    let n := (off - 0x81000) / 4
    let stored := (s.reg off).toNat
    let rclk := [3, 5, 7].any (fun i => s.isRclk (posOfSlot (coreSlot n i)))
    let loaded := s.rgnState (s.fld (F.FAB_RGN_MAP.REGION n)) != 0
    some (stored / 32 * 32 + 16 * b2n rclk + b2n loaded)
  else if 0x88000 ≤ off ∧ off < 0x89000 ∧ off % 32 = 16 then
    some ((s.reg off).toNat % 2 ^ 16 + (s.xsBuf ((off - 0x88000) / 32)).words.length * 2 ^ 16)
  else if off = 0x80064 then some 0
  else none

/-- The live part of PSL_STAT: STATE and SAFE_WHY (R242, R244); the registers of an absent slice or quadrant read 0 (R2). -/
def State.viewPsl (s : State) (off : Nat) : Option Nat :=
  if off < 0x140000 then
    let k := (off - 0x100000) / 0x400
    if !s.present k then some 0
    else if off % 0x400 = 4 then some ((s.reg off).toNat / 64 * 64 + s.sliceState k + s.safeWhy k * 8)
    else none
  else if s.f128 && (off == R.PSL_QCTRL 2 || off == R.PSL_QCTRL 3 || off == R.PSL_QSTAT 2 || off == R.PSL_QSTAT 3 ||
      (R.PSL_LOS 4 ≤ off && off ≤ R.PSL_LOS 7)) then some 0
  else none

/-- FCQ_SRC_STAT: SATURATED, PEND, CAUSE and CR (R264). -/
def Source.status (v : Source) : Nat :=
  b2n v.saturated * 2 ^ 31 + b2n (decide (256 ≤ v.acc)) * 2 ^ 30 + v.cause % 256 * 2 ^ 16 + v.cr % 2 ^ 11

/-- The live registers of sources, capture queues and stream queues; a read of FCQ_SQ_POP without side effects returns 0 (R561). -/
def State.viewFcq (s : State) (off : Nat) : Option Nat :=
  let o := off % 0x100
  if 0x301000 ≤ off ∧ off < 0x303000 then
    (if off % 64 = 8 then some (s.source ((off - 0x301000) / 64)).status else none)
  else if 0x304000 ≤ off ∧ off < 0x308000 then
    let k := (off - 0x304000) / 0x100
    if o = 8 then some (s.queueStatus k)
    else if o = 0x10 then some (s.queue k).wptr
    else if o = 0x14 then some (s.queue k).rptr
    else if o = 0x18 then some (s.queue k).tptr
    else none
  else if 0x308000 ≤ off ∧ off < 0x308800 then
    let j := (off - 0x308000) / 0x100
    if o = 8 then some (s.streamStatus j)
    else if o = 0x14 then some (s.stream j).wptr
    else if o = 0x18 then some (s.stream j).rptr
    else if o = 0x20 then some 0
    else none
  else none

/-- SLV_LANE_STAT: STATE 0 IDLE, 1 MAPPED, 2 COLLECT; SOLVING, REPLAY, the live taps and the region worked on (R323). -/
def State.laneStatus (s : State) (l : Nat) : Nat :=
  let v := s.lane l
  let rgn := match v.solving, v.replays with
    | some (g, _), _ => g
    | none, r :: _ => r.region
    | none, [] => 0
  (if v.collect then 2 else if v.map.isSome then 1 else 0) + 4 * b2n v.solving.isSome + 8 * b2n (!v.replays.isEmpty) +
  (s.liveTaps l).length % 8 * 16 + rgn * 2 ^ 16

/-- SLV_LANE_TAPS: the tap list, 8 bits an entry (R324). -/
def SlvLane.tapBits (v : SlvLane) : Nat :=
  ((List.range 4).map (fun i => match v.taps[i]? with
    | some e => (e.queue % 64 + 128) * 2 ^ (8 * i)
    | none => 0)).sum

/-- The code of a repair region's state (R327). -/
def SlvSt.code : SlvSt → Nat
  | .free => 0
  | .opened => 1
  | .closed => 2
  | .queued => 3
  | .solving => 4
  | .solved => 5
  | .replay => 6

/-- SLV_RGN_STATE (R327). -/
def SlvRgn.status (r : SlvRgn) : Nat :=
  r.st.code + r.cls % 4 * 8 + b2n (r.inputLoss || r.storeLoss) * 32 + b2n r.early * 64 + b2n r.kept * 128 + r.desc.lane % 16 * 2 ^ 8 + r.seq % 256 * 2 ^ 24

/-- The live registers of the Damson engine. -/
def State.viewSlv (s : State) (off : Nat) : Option Nat :=
  if off = R.SLV_STAT then
    some ((s.reg off).toNat / 2 ^ 17 * 2 ^ 17 + b2n (s.slv.rgns.any (fun e => e.2.spilled)) * 2 ^ 16 +
      (s.slv.rgns.filter (fun e => e.2.st == .queued)).length % 2 ^ 13)
  else if off = R.SLV_STORE_USE then some s.storeUnits
  else if 0x381000 ≤ off ∧ off < 0x381400 ∧ off % 64 = 4 then some (s.laneStatus ((off - 0x381000) / 64))
  else if 0x381000 ≤ off ∧ off < 0x381400 ∧ off % 64 = 8 then some (s.lane ((off - 0x381000) / 64)).tapBits
  else if 0x388000 ≤ off ∧ off < 0x38C000 then some (s.srgn ((off - 0x388000) / 4)).status
  else none

/-- LSTATE of an enabled port in a powered PD19 reads TRAIN where its link is not up and no other state is stored (R465). -/
def State.viewCsc (s : State) (off : Nat) : Option Nat :=
  if 0x500200 ≤ off ∧ off < 0x500280 ∧ off % 16 = 0 then
    let v := (s.reg off).toNat
    let p := (off - 0x500200) / 16
    if v % 8 = 0 ∧ bitOf (s.fld F.CSC_CFG.PORT_EN) p ∧ bitOf (s.fld F.PWR_DOM_STAT.ON) 19 then some (v + 1) else none
  else none

/-- The live value of the register at `off`, none where the stored value is what it reads. -/
def State.view (s : State) (off : Nat) : Option Nat :=
  if 0x80000 ≤ off ∧ off < 0x100000 then s.viewFab off
  else if 0x100000 ≤ off ∧ off < 0x200000 then s.viewPsl off
  else if 0x200000 ≤ off ∧ off < 0x210000 then s.psqView ((off - 0x200000) / 0x1000) (off % 0x1000)
  else if 0x300000 ≤ off ∧ off < 0x380000 then s.viewFcq off
  else if 0x380000 ≤ off ∧ off < 0x400000 then s.viewSlv off
  else if 0x500000 ≤ off ∧ off < 0x580000 then s.viewCsc off
  else s.viewMisc off

/-- The value that the register at `off` reads without side effects. -/
def State.regValue (s : State) (off : Nat) : Wide :=
  match s.view off with
  | some v => BitVec.ofNat 64 v
  | none => s.reg off

/-- The dword at BAR0 offset `a` as a register, 0 where no register lies (R565). -/
def State.regDword (s : State) (a : Nat) : Nat :=
  match regAt a with
  | some (_, false) => (s.regValue a).toNat % 2 ^ 32
  | some (_, true) => (s.regValue (a - 4)).toNat / 2 ^ 32
  | none => if isPhy a then (s.reg a).toNat % 2 ^ 32 else 0

/-- Dword `i` of a list of bytes. -/
def dwordOf (bs : List Byte) (i : Nat) : Nat := ofLeBytes ((bs.drop (4 * i)).take 4)

/-- The dword at BAR0 offset `a` in the window on the Starfix image, which can be read in state 3 only, in the log ring's, in the kind table's,
or in the MSI-X table and PBA (R153, R544, R545, R563). -/
def State.windowDword (s : State) (a : Nat) : Nat :=
  if 0xC0000 ≤ a ∧ a < 0xF0000 then
    (if s.fld F.FAB_SFX_STAT.STATE = 3 then
      (mget (fun _ => (0 : Wide)) ((a - 0xC0000) / 8) s.fab.sfx.image).toNat / 2 ^ (8 * (a % 8)) % 2 ^ 32
    else 0)
  else if 0x610000 ≤ a ∧ a < 0x630000 then
    (match mget (fun _ => (none : Option LogRecord)) ((a - 0x610000) / 32) s.err.ring with
    | some r => dwordOf r.bytes (a % 32 / 4)
    | none => 0)
  else if 0x630000 ≤ a ∧ a < 0x638000 then
    (match s.err.kinds[(a - 0x630000) / 32]? with
    | some k => dwordOf k.bytes (a % 32 / 4)
    | none => 0)
  else if 0x708000 ≤ a ∧ a < 0x709000 then
    (mget (fun k => if k % 4 = 3 then (1 : Word) else 0) ((a - 0x708000) / 4) s.msix.table).toNat
  else if 0x709000 ≤ a ∧ a < 0x709020 then
    flagBits 32 (fun i => mget (fun _ => false) (8 * (a - 0x709000) + i) s.msix.pba)
  else 0

/-- Whether BAR0 offset `a` lies in one of the windows. -/
def inWindow (a : Nat) : Bool :=
  (decide (0xC0000 ≤ a) && decide (a < 0xF0000)) || (decide (0x610000 ≤ a) && decide (a < 0x638000)) ||
  (decide (0x708000 ≤ a) && decide (a < 0x709020))

/-- The dword at BAR0 offset `a` without side effects. -/
def State.barDword (s : State) (a : Nat) : Nat :=
  if 0x800000 ≤ a then 0 else if inWindow a then s.windowDword a else s.regDword a

/-- The dword at BAR0 offset `a` in the register image of a dump: the windows on the Starfix image and on the log read 0 (R561). -/
def State.imageDword (s : State) (a : Nat) : Nat :=
  if inWindow a && decide (a < 0x700000) then 0 else s.barDword a

end Sys2Proof.Machine
end

