-- ==== Sys2Proof/Machine/DumpExec.lean ====
section
/-! DEFINITION. The dump image and its completion (R554 to R561). -/

namespace Sys2Proof.Machine

/-- `bs` cut or filled with zeros to `n` bytes. -/
def padTo (n : Nat) (bs : List Byte) : List Byte := (bs ++ List.replicate n 0).take n

/-- The 16 bytes of a tick record (R559). -/
def TickRec.bytes (r : TickRec) : List Byte :=
  leBytes 4 r.tick ++ leBytes 2 r.running ++ leBytes 2 r.issued ++ leBytes 2 r.ors ++ leBytes 2 r.selects ++ leBytes 2 r.held ++
  leBytes 1 r.flags ++ leBytes 1 0

/-- The 1,024 tick records from tick T − 1,008 on (R559), T + 15 being the tick after which the trace is frozen; a tick that did not take place has no stated record. [DEDUCED 88] -/
def State.tickBytes (s : State) : List Byte :=
  let first := (s.dump.stopAt.getD 0).toNat + 2 ^ 32 - 1023
  (List.range 1024).flatMap (fun i =>
    match s.dump.trace.find? (fun r => r.tick % 2 ^ 32 == (first + i) % 2 ^ 32) with
    | some r => r.bytes
    | none => s.openBytes (0x10000 + 16 * i) 16)

/-- The section of management core `m` (R559): its registers are the firmware's, which the spec does not give. [DEDUCED 88] -/
def State.coreBytes (s : State) (m : Nat) : List Byte :=
  padTo 4096 (s.openBytes (0x20000 + 0x1000 * m) 196 ++ leBytes 4 (b2n (bitOf s.dump.cores m)))

/-- Bank states of a sequencer, 2 bits per bank: 0 FREE, 1 RESIDENT, 2 CURRENT (R560). -/
def Psq.bankStates (p : Psq) : Nat :=
  ((List.range 15).map (fun b => (if b = p.cur then 2 else if (p.frameIn b).isSome then 1 else 0) * 4 ^ b)).sum

/-- The section of sequencer `n` (R560): banks, frames and scratch memory of a sealed sequencer are 0 (R214). -/
def State.seqBytes (s : State) (n : Nat) : List Byte :=
  let p := s.getPsq n
  let regs := (List.range 32).flatMap (fun r => leBytes 4 (if sprKnown r then (s.sprRead n r).1.toNat else 0)) ++
    leBytes 4 (s.psqPeek n 0x44).toNat ++ leBytes 4 (s.psqPeek n 4).toNat ++ leBytes 4 p.bankStates ++
    leBytes 4 (s.psqPeek n 0x50).toNat ++ leBytes 4 (b2n p.sealFlag)
  let banks := (List.range 256).flatMap (fun i => leBytes 4 (p.bankReg (i / 16) (i % 16)).toNat)
  let frames := p.wstore.flatMap (fun f => f.bytes n)
  let scratch := (List.range 4096).flatMap (fun i => leBytes 4 (mget (fun _ => (0 : Word)) i p.scratch).toNat)
  padTo 0x18000 (padTo 0x400 regs ++ (if p.sealFlag then [] else padTo 0xC00 banks ++ padTo 0x10000 frames ++ scratch))

/-- STARFIX of the header: an image that did not become ready counts as failed (R557). -/
def State.dumpStarfix (s : State) : Nat := if s.dump.sfx = 2 then 2 else if s.fld F.FAB_SFX_STAT.STATE = 3 then s.dump.sfx else 3

/-- The bytes of the Starfix section, 0 where no image is included. [DEDUCED 88] -/
def State.sfxBytes (s : State) : List Byte :=
  if 2 ≤ s.dumpStarfix then List.replicate 0x30000 0
  else (List.range 0x6000).flatMap (fun i => leBytes 8 (mget (fun _ => (0 : Wide)) i s.fab.sfx.image).toNat)

/-- What follows the header (R559). -/
def State.dumpBody (s : State) : List Byte :=
  s.tickBytes ++
  padTo 0x1000 ((List.range 72).flatMap (fun i => (s.sfxQueue i).flatMap (leBytes 8))) ++
  s.coreBytes 0 ++ s.coreBytes 1 ++
  (List.range 16).flatMap s.seqBytes ++
  padTo 0x8000 [] ++
  s.ringBytes ++
  padTo 0x8000 (s.err.kinds.flatMap KindEntry.bytes) ++
  padTo 0x8000 [] ++
  padTo 0x40000 s.sfxBytes ++
  (List.range 0x200000).flatMap (fun i => leBytes 4 (s.imageDword (4 * i)))

/-- The 72 bytes of the header that CHECK covers: `seq` the dump's number, `dest` its destination, `before` and `active` as they were when
the error was raised; CODE, SOURCE and tick are those of ERR_FATAL. -/
def State.dumpHead (s : State) (seq dest before active : Nat) : List Byte :=
  leBytes 4 0x50444D55 ++ leBytes 2 1 ++ leBytes 2 0x8840 ++
  (List.range 4).flatMap (fun i => leBytes 4 (s.reg (R.SEC_DEVICE_ID i)).toNat) ++
  leBytes 4 seq ++ leBytes 2 (s.fld F.ERR_FATAL.CODE) ++ leBytes 1 dest ++ leBytes 1 s.dumpStarfix ++ leBytes 8 (s.reg R.ERR_FATAL_TICK).toNat ++
  leBytes 4 (s.fld F.ERR_FATAL.SOURCE) ++ leBytes 1 before ++ leBytes 1 0 ++ leBytes 2 active ++ leBytes 4 s.err.wptr.toNat ++
  leBytes 4 s.err.lost ++ leBytes 8 s.tick.toNat ++ leBytes 4 0xA00000 ++ leBytes 4 (if 2 ≤ s.dumpStarfix then 0xBF else 0xFF)

/-- The dump image (R559). [DEDUCED 88] -/
def State.dumpImage (s : State) (seq dest before active : Nat) : List Byte :=
  let h := s.dumpHead seq dest before active
  padTo 0x1000 (h ++ leBytes 4 (crcWords (bytesToWords h)).toNat) ++ s.dumpBody

/-- Where a dump of 10 MiB goes: the slot of R555 or, where that cannot be written and the fall-back is allowed, host memory; 3 where no destination
succeeds. With it, whether the dump was diverted, and its address. -/
def State.dumpDest (s : State) (ni slotStatus hostStatus : Nat) : Nat × Bool × Nat :=
  let slot := if s.bit F.ERR_DUMP_STAT.SLOT0_VALID then 1 else 0
  let a := 0x3F80000000 + slot * 0x8000000
  let h := s.fld F.ERR_DUMP_HOST.ADDR * 4096
  if memStatus s ni a 0xA00000 true slotStatus = 0 then (slot, false, a)
  else if s.bit F.ERR_CFG.HOST_DUMP && s.bit F.ERR_DUMP_HOST.EN then
    (if memStatus s ni h 0xA00000 true hostStatus = 0 then (2, true, h) else (3, true, h))
  else (3, false, a)

/-- The network interface of the core that writes the dump: MC0, or MC1 when MC0 has faulted (R554). -/
def State.dumpNi (s : State) : Nat := if bitOf s.dump.cores 0 then 170 else 169

/-- DUMP_COMPLETE: summaries are written, the dump is in its destination with its header last, ERR_DUMP_STAT is written and the fatal event raised (R540,
R552, R555, R556). With both cores faulted no dump is written (R554). [DEDUCED 89] -/
def execDumpComplete (slotStatus : Half) (hostStatus : Half) (s : State) : Host.Outcome State Fault Refusal :=
  match s.dump.fatal with
  | none => .next s
  | some (code, before, active) =>
    if s.dev ≠ .fault ∨ s.dump.cores % 4 = 3 then .next s
    else
      let s1 := s.summaries
      let ni := s1.dumpNi
      let (dest, diverted, a) := s1.dumpDest ni slotStatus.toNat hostStatus.toNat
      let s2 := if diverted then s1.report C.ERR_DUMP_DIVERTED (srcCore (ni - 169)) 0 else s1
      let idle (t : State) : State := { t with dump := { t.dump with fatal := none } }
      if dest = 3 then
        let st := if diverted then hostStatus.toNat else slotStatus.toNat
        let s3 := ((s2.eccSeen ni a 0xA00000 true st).accLog ni a (memStatus s2 ni a 0xA00000 true st)).setFlds
          [(F.ERR_DUMP_STAT.DEST, 3), (F.ERR_DUMP_STAT.STATUS, C.ERR_DUMP_FAIL), (F.ERR_DUMP_STAT.BUSY, 0)]
        .next (idle { s3 with dump := { s3.dump with failLog := true } })
      else
        let seq := satAt 255 (s2.fld F.ERR_DUMP_STAT.SEQ + 1)
        let s3 := (s2.unitWrite ni a (s2.dumpImage seq dest before active)).tookFree.setFlds
          [(F.ERR_DUMP_STAT.STATUS, 0), (F.ERR_DUMP_STAT.SEQ, seq), (F.ERR_DUMP_STAT.DEST, dest), (F.ERR_DUMP_STAT.BUSY, 0)]
        let s4 := if dest = 0 then s3.setFld F.ERR_DUMP_STAT.SLOT0_VALID 1
          else if dest = 1 then s3.setFld F.ERR_DUMP_STAT.SLOT1_VALID 1 else s3
        .next ((idle s4).postEvent 4 code (s4.fld F.ERR_FATAL.SOURCE) 0)

/-- Whether the device stands in FAULT with its dump complete (R556, R558, R571). [DEDUCED 89] -/
def State.dumpDone (s : State) : Bool :=
  s.dev == .fault && s.dump.fatal.isNone && s.fld F.ERR_DUMP_STAT.DEST != 3 && !s.bit F.ERR_DUMP_STAT.BUSY

/-- DUMP_AUTO_RESET: 1 ms after the dump, with AUTO_RESET = 1 (R558). -/
def execDumpAutoReset (s : State) : Host.Outcome State Fault Refusal :=
  if s.dumpDone && s.bit F.ERR_CFG.AUTO_RESET then .next (s.warmReset 8) else .next s

end Sys2Proof.Machine
end

