-- ==== Sys2Proof/Machine/HifExec.lean ====
section
/-! DEFINITION. The PCIe link and its resets, command and completion queues, events and stream upload (R563 to R583, R594, R595). The commands REG_WR and
REG_RD are with the register accesses. -/

namespace Sys2Proof.Machine

/-- `s` with the register at `off` at its reset value. -/
def State.resetReg (s : State) (off : Nat) : State := s.setReg off (resetVal off)

/-- The HIF queue state: the registers of HIF_CMQ, HIF_CPQ, HIF_EVQ and HIF_UPL (R567). -/
def queueRegs : List Nat :=
  [R.HIF_EVQ_BASE, R.HIF_EVQ_CTRL, R.HIF_EVQ_PTR] ++
  (List.range 8).flatMap (fun q => [R.HIF_CMQ_BASE q, R.HIF_CPQ_BASE q, R.HIF_CMQ_CTRL q, R.HIF_CMQ_PTR q, R.HIF_CPQ_PTR q,
    R.HIF_UPL_BASE q, R.HIF_UPL_CTRL q, R.HIF_UPL_PTR q])

/-- Requests to host memory that are outstanding end with HIF_DMA_ERR (R567). [DEDUCED 92] -/
def State.hostLost (s : State) : State :=
  ((s.noc.reqs.filter (fun r => r.unserved && r.stamp.isSome && dpaRange r.addr r.len == some .hostMem)).foldl (fun t r =>
    (t.accLog r.ni r.addr C.HIF_DMA_ERR).complete r C.HIF_DMA_ERR []) s).settle

/-- The sites that a loss of the link holds (R567). -/
def State.holdOnLink (s : State) : State :=
  if s.bit F.HIF_CFG.HOLD_ON_LINK then s.holdSites ((List.range 16).filter s.siteActive) C.HIF_LINK_DOWN else s

/-- The dword at byte offset `4 * i` of the endpoint's configuration space, none while configuration requests are answered with Retry Status (R568): the identification of
R564, Bus Master Enable of R569, the two 64-bit BARs, and capabilities for power management (D0 and D3hot), MSI-X (256 vectors, the table at 0x708000 and the PBA at 0x709000 of BAR0)
and AER, laid out as PCI-SIG Base 5.0 has them (R563); where the capabilities stand is the model's. No row of the opcode table reads it. [DESIGN CHOICE 133] -/
def State.configDword (s : State) (i : Nat) : Option Word :=
  let c := s.hif.space
  if s.hif.retry then none
  else if i = 0 then some (c.deviceId ++ c.vendorId)
  else if i = 1 then some (BitVec.ofNat 32 (4 * b2n s.msix.busMaster + 0x100000))
  else if i = 2 then some (c.classCode ++ c.revision)
  else if i = 4 then some (BitVec.ofNat 32 (c.bar0.toNat / 2 ^ 26 * 2 ^ 26 + 4))
  else if i = 5 then some (BitVec.ofNat 32 (c.bar0.toNat / 2 ^ 32))
  else if i = 6 then some 0xC
  else if i = 7 then some (BitVec.ofNat 32 (c.bar2.toNat / 2 ^ 36 * 16))
  else if i = 13 then some 0x40
  else if i = 16 then some 0x00035001
  else if i = 17 then some (BitVec.ofNat 32 (3 * b2n c.d3hot))
  else if i = 20 then some (BitVec.ofNat 32 (0x00FF0011 + 2 ^ 30 * b2n s.msix.fmask + 2 ^ 31 * b2n s.msix.enabled))
  else if i = 21 then some 0x00708000
  else if i = 22 then some 0x00709000
  else if i = 64 then some 0x00020001
  else if i = 65 then some c.aer
  else some 0

/-- PERST#, a Hot Reset or a link-down (R567): the PCIe core, the configuration space and the HIF queue state are reset; commands go on and lose their
completions (R594). [DEDUCED 92] -/
def State.linkReset (s : State) (seen : Fld) : State :=
  let s1 := s.setFlds [(F.HIF_LINK.UP, 0), (F.HIF_LINK.NARROW, 0), (F.HIF_LINK.WIDTH, 0), (F.HIF_LINK.SPEED, 0), (seen, 1)]
  let s2 := (queueRegs.foldl State.resetReg s1).hostLost
  ({ s2 with msix := { Msix.reset with sent := s2.msix.sent },
             hif := { s2.hif with cmds := s2.hif.cmds.map (fun c => { c with lost := true }), uplSeq := [], space := ConfigSpace.reset } } : State).holdOnLink

/-- PERST (R567): it also takes a link that is up down. [DEDUCED 92] -/
def execPerst (s : State) : Host.Outcome State Fault Refusal :=
  let s1 := if s.bit F.HIF_LINK.UP then s.report C.HIF_LINK_DOWN (srcNi 168) 1 else s
  .next (s1.linkReset F.HIF_LINK.HOTRST_SEEN)

/-- HOT_RESET (R567): it arrives over a link that is up. -/
def execHotReset (s : State) : Host.Outcome State Fault Refusal :=
  if s.bit F.HIF_LINK.UP then .next ((s.report C.HIF_LINK_DOWN (srcNi 168) 1).linkReset F.HIF_LINK.HOTRST_SEEN) else .next s

/-- A link that is up goes down (R567). -/
def State.linkFalls (s : State) : State :=
  if s.bit F.HIF_LINK.UP then (s.report C.HIF_LINK_DOWN (srcNi 168) 0).linkReset F.HIF_LINK.DOWN_SEEN else s

/-- LINK_DOWN (R567). -/
def execLinkDown (s : State) : Host.Outcome State Fault Refusal := .next s.linkFalls

/-- The link is up in a start attempt, which has then reached stage 2 (R436, R568). -/
def State.linkStage (s : State) : State :=
  if s.dev == .boot && !s.sec.testHold && s.sec.fwBad.isNone && decide (s.fld F.SEC_BOOT_STAT.STAGE < 2) then
    let t : State := { s with hif := { s.hif with retry := false } }
    (t.powers [3, 18]).setFld F.SEC_BOOT_STAT.STAGE 2
  else s

/-- PCIE_LINK_UP: the link is in L0 (R563, R569); vectors that wait are sent once MSI-X is enabled (R581), and a start attempt is then in stage 2 at least (R436). -/
def execPcieLinkUp (speed : Fin 5) (width : Fin 5) (msixOn : Bool) (busMaster : Bool) (s : State) : Host.Outcome State Fault Refusal :=
  if s.dev = .off then .next s
  else
    let s1 := s.setFlds [(F.HIF_LINK.UP, 1), (F.HIF_LINK.SPEED, speed.val + 1), (F.HIF_LINK.WIDTH, 2 ^ width.val),
      (F.HIF_LINK.NARROW, b2n (decide (width.val < 2)))]
    let s2 := ({ s1 with msix := { s1.msix with enabled := msixOn, busMaster := busMaster } }).flushVectors
    .next s2.linkStage

/-- AER_UNCORRECTABLE (R563, R595): the error stands in the AER status register and is logged. -/
def execAerUncorrectable (status : Word) (s : State) : Host.Outcome State Fault Refusal :=
  .next (({ s with hif := { s.hif with space := { s.hif.space with aer := s.hif.space.aer ||| status } } } : State).report C.HIF_AER_UNCORR (srcNi 168) status.toNat)

/-- Flash byte `a` programmed with `b` (R590): an erased byte holds `b` afterwards; what programming makes of another byte the spec does not say. [DESIGN CHOICE 12] -/
def State.programByte (s : State) (a : Nat) (b : Byte) : State :=
  let v := if s.flashAt a = 0xFF then b else BitVec.ofNat 8 (Config.unstated s.free a)
  { s with aux := { s.aux with flash := mset (fun _ => none) a (some v) s.aux.flash } }

/-- The bytes `bs` programmed from flash address `a` on. -/
def State.programBytes (s : State) (a : Nat) : List Byte → State
  | [] => s
  | b :: bs => (s.programByte a b).programBytes (a + 1) bs

/-- The page program of a PROGRAM in progress completes before a host warm reset takes effect (R594): which page of the command that is, the spec
does not say, nor does it name a page between two of them. [DESIGN CHOICE 12; DEDUCED 93] -/
def State.finishPage (s : State) : State :=
  match s.aux.xspi with
  | some x =>
    let i := 256 * (Config.unstated s.free (2 ^ 40) % (x.len / 256 + 1))
    if x.op = 2 ∧ i < x.len then (s.programBytes (x.addr + i) (s.dpaBytes (x.buf + i) 256)).tookFree else s.tookFree
  | none => s

/-- A host warm reset (R568). [DEDUCED 93] -/
def State.hostWarmReset (s : State) : State :=
  if s.dev = .off ∨ s.sec.testHold then s
  else
    let s1 := s.finishPage
    ({ s1 with hif := { s1.hif with retry := true } }).warmReset 6

/-- FLR (R567, R568). [DEDUCED 92] -/
def execFlr (s : State) : Host.Outcome State Fault Refusal := .next s.hostWarmReset

/-- HIF_RESET_WRITE: acts with KEY = 0xC3 and GO = 1 (R568). -/
def execHifResetWrite (_req : Requester) (value : Word) (s : State) : Host.Outcome State Fault Refusal :=
  .next (if value.toNat / 2 ^ 24 = 0xC3 ∧ bitOf value.toNat 0 then s.hostWarmReset else s)

/-- CMQ_ENABLE (R571): EN = 1 zeroes the pointers and puts the queue in RUN, save from ERROR, which only EN = 0 leaves (R575); EN = 0 stops it. [DEDUCED 91] -/
def execCmqEnable (_req : Requester) (q : Fin 8) (value : Word) (s : State) : Host.Outcome State Fault Refusal :=
  let s1 := s.writePlain (R.HIF_CMQ_CTRL q) (value.setWidth 64) (maskBits 0 32)
  if !bitOf value.toNat 31 then .next (s1.setFld (F.HIF_CMQ_CTRL.STATE q) 0)
  else if s.fld (F.HIF_CMQ_CTRL.STATE q) = 2 then .next s1
  else .next (((s1.setFld (F.HIF_CMQ_CTRL.STATE q) 1).setReg (R.HIF_CMQ_PTR q) 0).setReg (R.HIF_CPQ_PTR q) 0)

/-- The entries of the rings of queue `q`. -/
def State.ringSize (s : State) (q : Nat) : Nat := 2 ^ s.fld (F.HIF_CMQ_CTRL.SIZE_EXP q)

/-- Queue `q` enters ERROR by a pointer write that overruns a ring (R575). -/
def State.queueError (s : State) (q value : Nat) (cpq : Bool) : State :=
  ((s.setFld (F.HIF_CMQ_CTRL.STATE q) 2).report C.HIF_CQ_OVERFLOW (srcNi 168) (value + q * 2 ^ 16 + b2n cpq * 2 ^ 20)).signal 3

/-- CMQ_DOORBELL (R575). [DEDUCED 91] -/
def execCmqDoorbell (_req : Requester) (q : Fin 8) (value : Half) (s : State) : Host.Outcome State Fault Refusal :=
  if s.ringSize q < ringUsed value.toNat (s.fld (F.HIF_CMQ_PTR.HEAD q)) then .next (s.queueError q value.toNat false)
  else .next (s.setFld (F.HIF_CMQ_PTR.TAIL q) value.toNat)

/-- CPQ_HEAD_WRITE (R575): a write that passes TAIL is an overrun. [DEDUCED 91] -/
def execCpqHeadWrite (_req : Requester) (q : Fin 8) (value : Half) (s : State) : Host.Outcome State Fault Refusal :=
  let head := s.fld (F.HIF_CPQ_PTR.HEAD q)
  if ringUsed (s.fld (F.HIF_CPQ_PTR.TAIL q)) head < ringUsed value.toNat head then .next (s.queueError q value.toNat true)
  else .next (s.setFld (F.HIF_CPQ_PTR.HEAD q) value.toNat)

/-- A field of `n` bytes at offset `o` of a command entry (R572). -/
def HifCmd.field (c : HifCmd) (o n : Nat) : Nat := fieldAt c.entry o n

/-- CID of a command. -/
def HifCmd.cid (c : HifCmd) : Nat := c.field 2 2

/-- Whether every byte of the entry from offset `o` on is 0. -/
def HifCmd.restZero (c : HifCmd) (o : Nat) : Bool := allZero (c.entry.drop o)

/-- Whether the fields that every command has, and the operands of its OP, keep to R572 and R576. [DEDUCED 95] -/
def HifCmd.wellFormed (c : HifCmd) : Bool :=
  let f := c.field
  decide (f 1 1 < 4) && f 4 4 == 0 &&
  (match f 0 1 with
  | 0 => c.restZero 8
  | 1 => decide (1 ≤ f 8 1 ∧ f 8 1 ≤ 6) && f 9 7 == 0 && c.restZero (16 + 8 * f 8 1) &&
      (List.range (f 8 1)).all (fun k => f (16 + 8 * k) 4 % 4 == 0 && decide (f (16 + 8 * k) 4 < 2 ^ 26))
  | 2 => decide (f 12 1 < 2) && f 8 4 % (if f 12 1 = 1 then 8 else 4) == 0 && decide (f 8 4 < 2 ^ 26) && c.restZero 13
  | 3 => f 8 8 % 64 == 0 && f 16 8 % 64 == 0 && f 24 4 % 64 == 0 && decide (64 ≤ f 24 4 ∧ f 24 4 ≤ 2 ^ 30) && c.restZero 28
  | 4 => decide (f 20 1 < 8) && c.restZero 21
  | 5 => decide (1 ≤ f 8 1 ∧ f 8 1 ≤ 8) && decide (f 9 1 < 2) && f 10 2 != 0 && f 12 4 == 0 && c.restZero 24
  | 6 => decide (1 ≤ f 16 4 / 2 ^ 28 ∧ f 16 4 / 2 ^ 28 ≤ 8) && c.restZero 20
  | _ => true)

/-- The commands of queue `q` started and not completed. -/
def State.started (s : State) (q : Nat) : List HifCmd := s.hif.cmds.filter (fun c => c.q == q && !c.lost)

/-- Whether the firmware serves commands now (R571). [DEDUCED 89] -/
def State.hostServed (s : State) : Bool := s.dev == .ready || s.dev == .loaded || s.dumpDone

/-- CMD_START: the next command of queue `q` starts when ordering, fences and room for its completion allow (R571, R574); an unknown OP and a malformed entry
are found at once (R576). [DEDUCED 90] -/
def execCmdStart (q : Fin 8) (status : Half) (s : State) : Host.Outcome State Fault Refusal :=
  let head := s.fld (F.HIF_CMQ_PTR.HEAD q)
  let size := s.ringSize q
  let used := ringUsed (s.fld (F.HIF_CPQ_PTR.TAIL q)) (s.fld (F.HIF_CPQ_PTR.HEAD q))
  if !s.hostServed || s.fld (F.HIF_CMQ_CTRL.STATE q) != 1 || head == s.fld (F.HIF_CMQ_PTR.TAIL q) ||
      decide (size ≤ used + (s.started q).length) then .next s
  else
    let a := s.fld (F.HIF_CMQ_BASE.ADDR q) * 4096 + 64 * (head % size)
    let code := memStatus s 169 a 64 false status.toNat
    let s := s.eccSeen 169 a 64 false status.toNat
    if code ≠ 0 then .next (s.accLog 169 a code)
    else
      let (bs, s1) := s.readDpa a 64
      let c : HifCmd := ⟨q.val, bs, (head + 1) % 65536, false, none, false⟩
      if bitOf (c.field 1 1) 0 && !(s.started q).isEmpty then .next s
      else
        let bad := if 6 < c.field 0 1 then some C.HIF_CMD_UNKNOWN else if c.wellFormed then none else some C.HIF_CMD_MALFORMED
        let c1 := match bad with
          | some b => { c with acted := true, answer := some (b, Config.unstated s1.free 576 % 2 ^ 64) }
          | none => c
        let s2 : State := { s1.setFld (F.HIF_CMQ_PTR.HEAD q) c.head with hif := { s1.hif with cmds := s1.hif.cmds ++ [c1] } }
        .next (match bad with
          | some b => (s2.report b (srcNi 168) (c.cid + q.val * 2 ^ 16)).tookFree
          | none => s2)

/-- The oldest command of queue `q` with this OP that is started and not carried out. -/
def State.nextCmd (s : State) (q op : Nat) : Option HifCmd :=
  s.hif.cmds.find? (fun c => c.q == q && !c.acted && c.field 0 1 == op)

/-- The list with its first element that equals `c` replaced, or removed. -/
def replaceCmd (c : HifCmd) (d : Option HifCmd) : List HifCmd → List HifCmd
  | [] => []
  | x :: xs => if x = c then (match d with
      | some y => y :: xs
      | none => xs) else x :: replaceCmd c d xs

/-- The oldest command of queue `q` and OP `op` is carried out by `act`, which answers STATUS and RESULT where they are known already; a command whose completion
is lost ends with its effect (R594). -/
def State.carryOut (s : State) (q op : Nat) (act : HifCmd → State → Option (Nat × Nat) × State) : State :=
  match s.nextCmd q op with
  | none => s
  | some c =>
    let (a, t) := act c s
    let d := if c.lost then none else some { c with acted := true, answer := a }
    { t with hif := { t.hif with cmds := replaceCmd c d t.hif.cmds } }

/-- CMD_NOP (R576). -/
def execCmdNop (q : Fin 8) (s : State) : Host.Outcome State Fault Refusal := .next (s.carryOut q 0 (fun _ t => (some (0, 0), t)))

/-- Whether COPY may access the line at DPA `a`: the rights of NI 168, and host memory (R577). -/
def copyAllowed (write : Bool) (a : Nat) : Bool :=
  match dpaRangeAt a with
  | some .hostMem | none => true
  | some r => dpaAllowed 168 r write

/-- Whether every one of `n` lines from DPA `a` on is within COPY's rights. -/
def copyRights (write : Bool) (a : Nat) : Nat → Bool
  | 0 => true
  | n + 1 => copyAllowed write a && copyRights write (a + 64) n

/-- The first of `n` lines from `src` on that the management DMA engine cannot copy to `dst`: how far it stands from the start, its DPA, and the code (R577). [DEDUCED 94] -/
def State.copyStop (s : State) (src dst at_ : Nat) : Nat → Option (Nat × Nat × Nat)
  | 0 => none
  | n + 1 =>
    let r := memCheck s 169 (src + at_) 64 false
    let w := memCheck s 169 (dst + at_) 64 true
    if r ≠ 0 then some (at_, src + at_, r) else if w ≠ 0 then some (at_, dst + at_, w) else s.copyStop src dst (at_ + 64) n

/-- CMD_COPY (R577): bytes up to the failure are copied; `done` is where an outcome that only the network, memory or host brings stops it. A copy onto itself gives bytes that the spec
does not state. [DEDUCED 94] -/
def execCmdCopy (q : Fin 8) (status : Half) (done : Word) (s : State) : Host.Outcome State Fault Refusal :=
  .next (s.carryOut q 3 (fun c t =>
    let src := c.field 8 8
    let dst := c.field 16 8
    let n := c.field 24 4
    if !(copyRights false src (n / 64) && copyRights true dst (n / 64)) then
      (some (C.NOC_ADDR_PROTECTED, 0), t.accLog 169 (if copyRights false src (n / 64) then dst else src) C.NOC_ADDR_PROTECTED)
    else
      let hits (a : Nat) : Bool := decide (status.toNat < 8) && status != 0 && dpaRangeAt a == some .hostMem
      let brought := if hits src || hits dst then C.HIF_DMA_ERR else if status.toNat = C.MEM_CE then 0 else status.toNat
      let (m, a, code) := match t.copyStop src dst 0 (n / 64) with
        | some (at_, x, k) => if brought ≠ 0 ∧ done.toNat < at_ then (done.toNat, src + done.toNat, brought) else (at_, x, k)
        | none => if brought ≠ 0 then (min n done.toNat, src + min n done.toNat, brought) else (n, src, 0)
      let t0 : State := { t with noc := { t.noc with hostSt := if status.toNat < 8 then status.toNat else 0 } }
      let bs := if src < dst + n ∧ dst < src + n then t.openBytes 0x40000 m else t.dpaBytes src m
      (some (code, m), ((t0.unitWrite 169 dst bs).tookFree).accLog 169 a code)))

/-- CMD_CFG_LOAD (R577): the load is started as the host's; refused, it completes at once. -/
def execCmdCfgLoad (q : Fin 8) (s : State) : Host.Outcome State Fault Refusal :=
  .next (s.carryOut q 4 (fun c t =>
    let f := c.field 20 1
    let t1 := (t.setReg R.CFG_SRC_ADDR (BitVec.ofNat 64 (c.field 8 8))).setFld F.CFG_SRC_LEN.BYTES (c.field 16 4)
    let t2 := t1.startLoad .host (b2n (bitOf f 2)) (bitOf f 0) (bitOf f 1) (c.field 8 8) (c.field 16 4)
    let busy (u : State) : Bool := u.cfg.load.isSome || u.cfg.chain.isSome
    (if busy t || !busy t2 then some (t2.fld F.CFG_STAT.STATUS, (t2.reg R.CFG_FAIL_INFO).toNat) else none, t2)))

/-- CMD_SITE_CMD (R578): every masked site's command is registered in the present tick. Its answer is known at the end of that tick, when no hold can refuse it any more (R594), or when
a command that a self-test slice holds has been served (R520). [DEDUCED 95] -/
def execCmdSiteCmd (q : Fin 8) (s : State) : Host.Outcome State Fault Refusal :=
  .next (s.carryOut q 5 (fun c t =>
    let at_ := c.field 9 1
    let word := c.field 8 1 + 16 * at_
    let sites := maskSites (c.field 10 2)
    let t1 := sites.foldl (fun u n =>
      let u1 := if at_ = 1 then u.setReg (R.PSQ_START_TICK n) (BitVec.ofNat 64 (c.field 16 8)) else u
      u1.psqCmdWrite .host n word) t
    (none, t1)))

/-- A write of `v` to SLV_CMD (R328), the reads its command makes ending with `status`; an OP that the table does not list is ignored. [DEDUCED 95] -/
def State.slvCmdWrite (s : State) (req : Requester) (v : Nat) (status : Half) : State :=
  let g := Fin.ofNat 4096 v
  let cnt := Fin.ofNat 4096 (v / 2 ^ 12)
  let l := Fin.ofNat 16 (v / 2 ^ 24)
  outState s (match v / 2 ^ 28 % 16 with
    | 1 => execLaneMap req l status s
    | 2 => execLaneReset req l s
    | 3 => execSlvOpen req g cnt status s
    | 4 => execSlvClose req g cnt s
    | 5 => execSlvSolve req g cnt s
    | 6 => execSlvResolve req g cnt status s
    | 7 => execSlvAbort req g cnt s
    | 8 => execSlvRelease req g cnt s
    | _ => .next s)

/-- CMD_SLV_CMD (R577): issued as the host's; a refused one completes at once. [DEDUCED 95] -/
def execCmdSlvCmd (q : Fin 8) (status : Half) (s : State) : Host.Outcome State Fault Refusal :=
  .next (s.carryOut q 6 (fun c t =>
    let t1 := (t.setReg R.SLV_CMD_ARG (BitVec.ofNat 64 (c.field 8 8))).slvCmdWrite .host (c.field 16 4) status
    (if t.bit F.SLV_CMD_STAT.BUSY || !t1.bit F.SLV_CMD_STAT.BUSY then some (C.STATE_REFUSED, 0) else none, t1)))

/-- STATUS and RESULT of a command that has been carried out, none while its work goes on (R576, R577). -/
def State.cmdAnswer (s : State) (c : HifCmd) : Option (Nat × Nat) :=
  match c.answer with
  | some a => some a
  | none =>
    if !c.acted then none
    else if c.field 0 1 = 4 then
      (if s.cfg.load.isSome || s.cfg.chain.isSome then none else some (s.fld F.CFG_STAT.STATUS, (s.reg R.CFG_FAIL_INFO).toNat))
    else if c.field 0 1 = 5 then (if s.fckOn then none else some (s.siteAnswer c))
    else none

/-- The 16 bytes of a completion entry (R573). -/
def HifCmd.completion (c : HifCmd) (status result : Nat) (phase : Bool) : List Byte :=
  leBytes 2 c.cid ++ leBytes 2 status ++ leBytes 2 c.head ++ leBytes 1 c.q ++ leBytes 1 (b2n phase) ++ leBytes 8 result

/-- CMD_COMPLETE (R573, R574): the completion is written and its vector signalled; while its write fails, it is not written. [DEDUCED 90] -/
def execCmdComplete (q : Fin 8) (cid : Half) (status : Half) (s : State) : Host.Outcome State Fault Refusal :=
  match (s.started q).find? (fun c => c.cid == cid.toNat && (s.cmdAnswer c).isSome) with
  | none => .next s
  | some c =>
    let (st, res) := (s.cmdAnswer c).getD (0, 0)
    let size := s.ringSize q
    let tail := s.fld (F.HIF_CPQ_PTR.TAIL q)
    let a := s.fld (F.HIF_CPQ_BASE.ADDR q) * 4096 + 16 * (tail % size)
    let code := memStatus s 169 a 16 true status.toNat
    let s := s.eccSeen 169 a 16 true status.toNat
    if code ≠ 0 then .next (s.accLog 169 a code)
    else
      let s1 := (s.unitWrite 169 a (c.completion st res (tail / size % 2 == 0))).setFld (F.HIF_CPQ_PTR.TAIL q) ((tail + 1) % 65536)
      let s2 : State := { s1 with hif := { s1.hif with cmds := replaceCmd c none s1.hif.cmds } }
      .next (if bitOf (c.field 1 1) 1 ∨ st ≠ 0 then s2.signal (4 + q.val) else s2)

/-- ELOG_EVENT_WINDOW: the window ends; a record written in it causes one event, which opens the next window (R580). -/
def execElogEventWindow (s : State) : Host.Outcome State Fault Refusal :=
  if !s.hif.window then .next s
  else
    let s1 : State := { s with hif := { s.hif with window := false, late := false } }
    .next (if s.hif.late then s1.elogEvent else s1)

/-- EVQ_ENABLE: EN = 1 zeroes both pointers (R579). -/
def execEvqEnable (_req : Requester) (value : Word) (s : State) : Host.Outcome State Fault Refusal :=
  let s1 := s.writePlain R.HIF_EVQ_CTRL (value.setWidth 64) (maskBits 0 32)
  .next (if bitOf value.toNat 31 then s1.setReg R.HIF_EVQ_PTR 0 else s1)

/-- SEQ of the next packet of upload engine `j`. -/
def State.uplNext (s : State) (j : Nat) : Nat := mget (fun _ => 0) j s.hif.uplSeq

/-- UPLOAD_ENABLE: EN = 1 zeroes WPTR and RPTR and numbers packets anew; after EN = 0 it restarts an engine that has stopped (R582, R583). [DEDUCED 96] -/
def execUploadEnable (_req : Requester) (j : Fin 8) (value : Word) (s : State) : Host.Outcome State Fault Refusal :=
  let was := s.bit (F.HIF_UPL_CTRL.EN j)
  let s1 := s.writePlain (R.HIF_UPL_CTRL j) (value.setWidth 64) (maskBits 0 32)
  if !bitOf value.toNat 31 then .next s1
  else
    let s2 := s1.setReg (R.HIF_UPL_PTR j) 0
    let s3 := if was then s2 else s2.setFld (F.HIF_UPL_CTRL.STOPPED j) 0
    .next { s3 with hif := { s3.hif with uplSeq := mset (fun _ => 0) j.val 0 s3.hif.uplSeq } }

/-- The items of the packet at the front of a stream queue. -/
def frontPacket : List StreamItem → List StreamItem
  | [] => []
  | i :: is => if i.eop then [i] else i :: frontPacket is

/-- The 8-byte header of an upload packet (R582). -/
def uploadHeader (items j : Nat) (seq : List Byte) : List Byte := leBytes 2 items ++ leBytes 1 j ++ leBytes 1 0 ++ seq

/-- UPLOAD_PACKET (R582, R583): a packet with room in the ring is written, after padding where it would run past the ring end; a failed write stops
the engine. [DEDUCED 96] -/
def execUploadPacket (j : Fin 8) (status : Half) (irq : Bool) (s : State) : Host.Outcome State Fault Refusal :=
  let q := s.stream j
  let items := frontPacket q.items
  let size := 2 ^ s.fld (F.HIF_UPL_CTRL.SIZE_EXP j)
  let wptr := s.fld (F.HIF_UPL_PTR.WPTR j)
  let used := (wptr + 2 ^ 32 - s.fld (F.HIF_UPL_PTR.RPTR j)) % 2 ^ 32
  let len := 8 + (4 * items.length + 7) / 8 * 8
  let pad := if size < wptr % size + len then size - wptr % size else 0
  if s.dev = .off ∨ !q.headComplete ∨ !s.bit (F.FCQ_SQ_CFG.EN j) ∨ !s.bit (F.FCQ_SQ_CFG.CONSUMER j) ∨ q.reset = true ∨
      !s.bit (F.HIF_UPL_CTRL.EN j) ∨ s.bit (F.HIF_UPL_CTRL.STOPPED j) ∨ size < used + pad + len then .next s
  else
    let base := s.fld (F.HIF_UPL_BASE.ADDR j) * 4096
    let a := base + (wptr + pad) % size
    let cp := if pad = 0 then 0 else memStatus s 152 (base + wptr % size) 8 true status.toNat
    let code := if cp ≠ 0 then cp else memStatus s 152 a len true status.toNat
    let s1 := (s.eccSeen 152 a len true status.toNat).streamLeft j (afterPacket q.items) 0
    let s2 : State := { s1 with hif := { s1.hif with uplSeq := mset (fun _ => 0) j.val ((s.uplNext j + 1) % 2 ^ 32) s1.hif.uplSeq } }
    if code ≠ 0 then
      let s3 := (s2.setFld (F.HIF_UPL_CTRL.STOPPED j) 1).accLog 152 a code
      .next (if code = C.HIF_DMA_ERR then s3 else s3.report C.HIF_DMA_ERR (srcNi 168) (a * 2 ^ 16))
    else
      let s3 := if pad = 0 then s2 else (s2.unitWrite 152 (base + wptr % size) (uploadHeader 0xFFFF j (s2.openBytes 582 4))).tookFree
      let body := padTo (len - 8) (items.flatMap (fun i => leBytes 4 i.data.toNat))
      let s4 := (s3.unitWrite 152 a (uploadHeader items.length j (leBytes 4 (s.uplNext j)) ++ body)).setFld (F.HIF_UPL_PTR.WPTR j)
        ((wptr + pad + len) % 2 ^ 32)
      .next (if irq then s4.signal (44 + j.val) else s4)

end Sys2Proof.Machine
end

