-- ==== Sys2Proof/Machine/AuxExec.lean ====
section
/-! DEFINITION. I3C partner discovery and transfers, and the xSPI flash port (R584 to R590, R594, R596). -/

namespace Sys2Proof.Machine

/-- Byte `i` of a partner's descriptor (R585). -/
def descByte (desc : BitVec 128) (i : Nat) : Nat := desc.toNat / 2 ^ (8 * i) % 256

/-- Whether a descriptor has the MAGIC and FORMAT of R585 and a KIND of 1 or 2. -/
def descValid (desc : BitVec 128) : Bool :=
  descByte desc 0 == 0x55 && descByte desc 1 == 0x50 && descByte desc 2 == 1 && (descByte desc 3 == 1 || descByte desc 3 == 2)

/-- DETAIL of AUX_I3C_ERR: entry or 0x3F, dynamic address, CCC or 0 (R596). -/
def i3cDetail (entry addr ccc : Nat) : Nat := entry + addr * 2 ^ 8 + ccc * 2 ^ 16

/-- The entry that a joining target takes: a GONE entry with its PID, else the lowest EMPTY one (R586). -/
def State.joinEntry (s : State) (pid : Nat) : Option Nat :=
  match (List.range 64).find? (fun e => s.ptState e == 3 && s.ptPid e == pid) with
  | some e => some e
  | none => (List.range 64).find? (fun e => s.ptState e == 0)

/-- PRES of a partner in board slot `slot`: the lowest GPIO that watches the slot, or 0xFF (R586). -/
def State.presenceGpio (s : State) (slot : Nat) : Nat :=
  ((List.range 24).find? (fun g => s.fld (F.AUX_GPIO_CFG.FUNC g) == 2 && s.fld (F.AUX_GPIO_CFG.SLOT g) == slot)).getD 0xFF

/-- Bytes of partner entry `e` written from byte 0 on. -/
def State.setPtBytes (s : State) (e : Nat) (bs : List Nat) : State :=
  (List.range bs.length).foldl (fun t i => t.setPtByte e i (bs.getD i 0)) s

/-- GEN of an entry that is taken again (R586). -/
def nextGen (g : Nat) : Nat := if g = 255 then 1 else g + 1

/-- The dynamic addresses that R584 has: 0x08 to 0x77, without those in that range that the I3C specification reserves. [PRESUMED 141] -/
def dynamicAddr (a : Nat) : Bool := decide (8 ≤ a) && decide (a ≤ 0x77) && !([0x3E, 0x5E, 0x6E, 0x76].contains a)

/-- A target joins (R585, R586, R594): an online entry with the same PID is lost first. Firmware gives each target of a bus an address of its own. [DEDUCED 99] -/
def State.joinNow (s : State) (x : JoinReq) : State :=
  let b := b2n x.bus
  let p := x.pid.toNat
    let s1 := match (List.range 64).find? (fun e => s.ptState e == 2 && s.ptPid e == p) with
      | some e => s.partnerLoss e
      | none => s
    let desc := x.desc
    match s1.joinEntry p, x.addr with
    | some e, some ad =>
      let a := ad.toNat
      let taken := (List.range 64).any (fun i => s1.ptState i == 2 && s1.ptByte i 11 == b && s1.ptByte i 10 == a)
      if !dynamicAddr a ∨ taken = true then s
      else if !descValid desc then (s1.report C.AUX_I3C_ERR 0 (i3cDetail 0x3F a 0))
      else
        let pidBytes := (List.range 6).map (fun i => p / 2 ^ (8 * i) % 256)
        let s2 := s1.setPtBytes e (pidBytes ++ [x.bcr.toNat, x.dcr.toNat, 2, nextGen (s1.ptGen e), a, b, descByte desc 3, descByte desc 4,
          s1.presenceGpio (descByte desc 5), 0])
        let s3 := s2.report C.AUX_PARTNER_JOIN 0 (s2.ptDetail e)
        (s3.postEvent 5 (e + 0x100) (s3.ptGen e) 2)
    | _, _ => (s1.report C.AUX_I3C_ADDR_EXHAUSTED 0 (p * 2 ^ 16))

/-- HOT_JOIN (R586, R588): a join waits for the transfer in progress. -/
def execHotJoin (bus : Bool) (pid : BitVec 48) (bcr : Byte) (dcr : Byte) (desc : BitVec 128) (addr : Option Byte) (s : State) :
    Host.Outcome State Fault Refusal :=
  if s.dev = .off ∨ s.dev = .twilight ∨ !bitOf (s.fld F.AUX_I3C_CFG.BUS_EN) (b2n bus) then .next s
  else if s.bit F.AUX_I3C_XFER.BUSY then .next { s with aux := { s.aux with joins := s.aux.joins ++ [⟨bus, pid, bcr, dcr, desc, addr⟩] } }
  else .next (s.joinNow ⟨bus, pid, bcr, dcr, desc, addr⟩)

/-- The joins that waited for a transfer take place in their order (R588). -/
def State.joinAll (s : State) : State := s.aux.joins.foldl State.joinNow { s with aux := { s.aux with joins := [] } }

/-- One partner's poll (R587): the third failure in a row drops it. [DEDUCED 98] -/
def State.pollOne (s : State) (failed : Bool) (e : Nat) : State :=
  if s.ptState e ≠ 2 then s
  else if !failed then s.setPtByte e 15 0
  else
    let n := s.ptByte e 15 + 1
    let s1 := s.setPtByte e 15 n
    if n < 3 then s1 else s1.partnerLoss e

/-- PARTNER_POLL (R587). -/
def execPartnerPoll (fails : BitVec 64) (s : State) : Host.Outcome State Fault Refusal :=
  .next ((List.range 64).foldl (fun t e => t.pollOne (bitOf fails.toNat e) e) s)

/-- AUX_I3C_XFER: a write stores the transfer and, with GO = 1, starts it; one to a partner that is not ONLINE, with a length outside 1 to 32, or while
another is in progress, is refused (R588). [DEDUCED 98] -/
def execAuxI3cXfer (req : Requester) (value : Word) (s : State) : Host.Outcome State Fault Refusal :=
  let go := bitOf value.toNat 31
  if s.bit F.AUX_I3C_XFER.BUSY then .next (if go then s.logRefused req R.AUX_I3C_XFER 0 else s)
  else
    let s1 := s.writePlain R.AUX_I3C_XFER (value.setWidth 64) (maskBits 0 32)
    let len := s1.fld F.AUX_I3C_XFER.LEN
    if !go then .next s1
    else if s1.ptState (s1.fld F.AUX_I3C_XFER.INDEX) ≠ 2 ∨ len = 0 ∨ 32 < len then
      .next ((s1.setFld F.AUX_I3C_XSTAT.STATUS C.STATE_REFUSED).logRefused req R.AUX_I3C_XFER 0)
    else .next (s1.setFld F.AUX_I3C_XFER.BUSY 1)

/-- I3C_XFER_DONE: a read's bytes stand in AUX_I3C_DATA; a NACK or bus error ends the transfer with AUX_I3C_ERR; joins that waited follow (R588). -/
def execI3cXferDone (ok : Bool) (data : BitVec 256) (s : State) : Host.Outcome State Fault Refusal :=
  if !s.bit F.AUX_I3C_XFER.BUSY then .next s
  else
    let s1 := s.setFld F.AUX_I3C_XFER.BUSY 0
    let e := s.fld F.AUX_I3C_XFER.INDEX
    if !ok then
      .next (((s1.setFld F.AUX_I3C_XSTAT.STATUS C.AUX_I3C_ERR).report C.AUX_I3C_ERR 0 (i3cDetail e (s.ptByte e 10) 0)).joinAll)
    else
      let put (t : State) (i : Nat) : State := t.setFld ⟨R.AUX_I3C_DATA (i / 4), 8 * (i % 4), 8⟩ (data.toNat / 2 ^ (8 * i) % 256)
      let s2 := if s.bit F.AUX_I3C_XFER.DIR then (List.range (s.fld F.AUX_I3C_XFER.LEN)).foldl put s1 else s1
      .next (s2.setFld F.AUX_I3C_XSTAT.STATUS 0).joinAll

/-- The unit to which ADDR and LEN of a flash command are aligned (R590). [DEDUCED 98] -/
def xspiUnit (op : Nat) : Nat := if op = 2 then 256 else if op = 3 then 4096 else if op = 4 then 65536 else 1

/-- A flash command with GO = 1 (R590): it starts, or is refused while another is in progress, misaligned or longer than 16 MiB. [DEDUCED 98] -/
def State.xspiStart (s : State) (req : Requester) (op : Nat) : State :=
  if s.bit F.AUX_XSPI_CMD.BUSY then s.logRefused req R.AUX_XSPI_CMD op
  else
    let s1 := s.setFld F.AUX_XSPI_CMD.OP op
    let a := s.fld F.AUX_XSPI_ARGS.ADDR
    let n := s.fld F.AUX_XSPI_ARGS.LEN
    if a % xspiUnit op ≠ 0 ∨ n % xspiUnit op ≠ 0 ∨ 0x1000000 < n then
      (s1.setFld F.AUX_XSPI_STAT.STATUS C.STATE_REFUSED).logRefused req R.AUX_XSPI_CMD op
    else
      let s2 := s1.setFld F.AUX_XSPI_CMD.BUSY 1
      { s2 with aux := { s2.aux with xspi := some ⟨op, a, n, s.fld F.AUX_XSPI_BUF.ADDR * 64⟩ } }

/-- READ (R590). -/
def execXspiRead (req : Requester) (s : State) : Host.Outcome State Fault Refusal := .next (s.xspiStart req 1)

/-- PROGRAM (R590). -/
def execXspiProgram (req : Requester) (s : State) : Host.Outcome State Fault Refusal := .next (s.xspiStart req 2)

/-- ERASE_4K (R590). -/
def execXspiErase4k (req : Requester) (s : State) : Host.Outcome State Fault Refusal := .next (s.xspiStart req 3)

/-- ERASE_64K (R590). -/
def execXspiErase64k (req : Requester) (s : State) : Host.Outcome State Fault Refusal := .next (s.xspiStart req 4)

/-- Flash bytes from `a` on replaced. -/
def State.setFlash (s : State) (a : Nat) (bs : List Byte) : State :=
  { s with aux := { s.aux with
    flash := msetAll (fun _ => none) (fun i => some (bs.getD (i - a) 0)) ((List.range bs.length).map (· + a)) s.aux.flash } }

/-- The network interface of the flash port (R354). -/
def xspiNi : Nat := 173

/-- The code with which a flash command's accesses to its buffer end: READ writes it, PROGRAM reads it, the erases make none. -/
def State.xspiMem (s : State) (x : XspiCmd) (status : Nat) : Nat :=
  if x.op = 1 ∨ (x.op = 2 ∧ x.len ≠ 0) then memStatus s xspiNi x.buf x.len (x.op == 1) status else 0

/-- XSPI_CMD_DONE (R590): what a failing command leaves in the bytes it was to change, the spec does not say. [DESIGN CHOICE 12] -/
def execXspiCmdDone (status : Half) (flashFail : Option Byte) (s : State) : Host.Outcome State Fault Refusal :=
  match s.aux.xspi with
  | none => .next s
  | some x =>
    let c := s.xspiMem x status.toNat
    let s := if x.op = 1 ∨ (x.op = 2 ∧ x.len ≠ 0) then s.eccSeen xspiNi x.buf x.len (x.op == 1) status.toNat else s
    let s0 : State := { s with aux := { s.aux with xspi := none } }
    let s1 := s0.setFld F.AUX_XSPI_CMD.BUSY 0
    match flashFail with
    | some f =>
      let s2 := (s1.setFld F.AUX_XSPI_STAT.STATUS C.AUX_XSPI_ERR).report C.AUX_XSPI_ERR 0 (x.op + f.toNat * 2 ^ 8 + x.addr * 2 ^ 32)
      .next (if x.op = 1 then (if c = 0 then (s2.unitWrite xspiNi x.buf (s.openBytes 0 x.len)).tookFree else s2)
        else (s2.setFlash x.addr (s.openBytes 0 x.len)).tookFree)
    | none =>
      if c ≠ 0 then .next ((s1.setFld F.AUX_XSPI_STAT.STATUS c).accLog xspiNi x.buf c)
      else
        let s2 := if x.op = 1 then s1.unitWrite xspiNi x.buf (s.flashBytes x.addr x.len)
          else if x.op = 2 then (s1.programBytes x.addr (s.dpaBytes x.buf x.len)).tookFree
          else s1.setFlash x.addr (List.replicate x.len 0xFF)
        .next (s2.setFld F.AUX_XSPI_STAT.STATUS 0)

end Sys2Proof.Machine
end

