-- ==== Sys2Proof/Machine/PwrExec.lean ====
section
/-! DEFINITION. Power domains, clocks, rails and temperature (R597 to R606, R611, R613, R620, R621). -/

namespace Sys2Proof.Machine

/-- The domains that PWR_DOM_CMD switches (R601). -/
def commandDomain (d : Nat) : Bool := (decide (4 ≤ d) && decide (d ≤ 11)) || d == 19 || d == 20 || d == 21

/-- The domains that own network interfaces (R354). -/
def ownsNis (d : Nat) : Bool := d == 4 || d == 11 || d == 19 || d == 20 || d == 21

/-- Whether region `g` is none or EMPTY. -/
def State.rgnVacant (s : State) (g : Nat) : Bool := s.rgnState g == 0

/-- Whether the condition of R601 for switching domain `d` off holds; PD04 and PD11 also need what their fence needs (R373). -/
def State.mayPowerOff (s : State) (d : Nat) : Bool :=
  if d = 19 then s.fld F.CSC_STAT.CSTATE == 0
  else if d = 20 then !s.bit F.SLV_CTRL.EN
  else if d = 21 then (List.range 16).all (fun n => s.siteCode n == 0) && s.cfg.load.isNone
  else
    let edge := if d = 4 then List.range 64 else if d = 11 then (List.range 64).map (· + 64) else []
    (List.range 32).all (fun i => s.rgnVacant (s.fld (F.FAB_RGN_MAP.REGION (32 * (d - 4) + i)))) &&
    edge.all (fun x => s.rgnVacant (s.xRegion x)) &&
    (!(d == 4 || d == 11) || (List.range 16).all (fun n => !s.siteActive n))

/-- PWR_DOM_CMD refused (R602). -/
def State.refusePwr (s : State) (req : Requester) (op : Nat) : State :=
  (s.setFld F.PWR_DOM_CMDSTAT.STATUS C.STATE_REFUSED).logRefused req R.PWR_DOM_CMD op

/-- Whether PWR_DOM_CMD may switch domain `d` now (R602). -/
def State.pwrAllowed (s : State) (d : Nat) : Bool :=
  commandDomain d && s.fld F.BIST_STAT.NF != 1 && (s.dev == .ready || s.dev == .loaded)

/-- A switch begins (R603, R604). -/
def State.switchBegins (s : State) (d : Nat) (on : Bool) : State :=
  ({ s with pwr := { s.pwr with switching := some (d, on) } }).setFlds [(F.PWR_DOM_CMDSTAT.STATUS, 0), (F.PWR_DOM_CMDSTAT.BUSY, 1)]

/-- PWR_ON (R602, R604): a domain that is on has nothing to switch. [DEDUCED 101] -/
def execPwrOn (req : Requester) (d : Fin 32) (s : State) : Host.Outcome State Fault Refusal :=
  if s.bit F.PWR_DOM_CMDSTAT.BUSY then .next (s.logRefused req R.PWR_DOM_CMD 1)
  else if !s.pwrAllowed d then .next (s.refusePwr req 1)
  else if bitOf (s.fld F.PWR_DOM_STAT.ON) d then .next (s.setFld F.PWR_DOM_CMDSTAT.STATUS 0)
  else .next (s.switchBegins d true)

/-- PWR_OFF (R601 to R603): slices of the stripe abort uncounted and the domain's fence begins. [DEDUCED 101] -/
def execPwrOff (req : Requester) (d : Fin 32) (s : State) : Host.Outcome State Fault Refusal :=
  if s.bit F.PWR_DOM_CMDSTAT.BUSY then .next (s.logRefused req R.PWR_DOM_CMD 2)
  else if !s.pwrAllowed d || !s.mayPowerOff d then .next (s.refusePwr req 2)
  else if !bitOf (s.fld F.PWR_DOM_STAT.ON) d then .next (s.setFld F.PWR_DOM_CMDSTAT.STATUS 0)
  else
    let s1 := s.switchBegins d false
    let s2 := if d.val ≤ 11 then s1.abortSlices (fun x => x.cl / 32 == d.val - 4) false else s1
    .next (if ownsNis d then s2.fenceBegin d else s2)

/-- The slots of stripe `i`: core cells and U-cells of its clusters, and the X-cells of an edge that it has. -/
def stripeSlots (i : Nat) : List Nat :=
  (List.range 320).map (· + 320 * i) ++ (List.range 32).map (· + 2560 + 32 * i) ++
  (if i = 0 then (List.range 64).map xSlot else if i = 7 then (List.range 64).map (fun x => xSlot (x + 64)) else [])

/-- What a domain loses when it is switched off: the cells, context stores and arrays of a stripe (R606), the links of the cascade ports (R494), the sequencers' own state but for SEALED, which
only the events of R213 clear. [DEDUCED 101] -/
def State.domainLoses (s : State) (d : Nat) : State :=
  if d ≤ 11 then
    let s1 := s.clearSlots (stripeSlots (d - 4))
    (List.range 32).foldl (fun t i => t.setFlds [(F.FAB_CL_STAT.U_STATE (32 * (d - 4) + i), 0), (F.FAB_CL_STAT.U_TARGET (32 * (d - 4) + i), 0)]) s1
  else if d = 19 then (List.range 8).foldl (fun t p => ((t.portDown p).setFld (F.CSC_PORT_STAT.LSTATE p) 0).setCport p CscPort.reset) s
  else if d = 21 then { s with psq := mmap (fun _ => Psq.reset) (fun _ p => { Psq.reset with sealFlag := p.sealFlag }) s.psq }
  else s

/-- The switch in progress ends, BUSY clears, and the quadrants whose PWR_EN was written meanwhile are powered: one domain is switched at a time (R602). [DEDUCED 101] -/
def State.switchEnds (s : State) : State :=
  let s1 := ({ s with pwr := { s.pwr with switching := none } } : State).setFld F.PWR_DOM_CMDSTAT.BUSY 0
  ((List.range 4).filter (fun q => s.bit (F.PSL_QCTRL.PWR_EN q))).foldl (fun t q => t.setFld (F.PSL_QSTAT.PWR_GOOD q) 1) s1

/-- DOMAIN_SWITCH_DONE (R603, R604, R606): an OFF ends once the domain is fenced; at power-on U-cells stand in for cells marked FAILED before the domain's bit
is set. -/
def execDomainSwitchDone (s : State) : Host.Outcome State Fault Refusal :=
  match s.pwr.switching with
  | none => .next s
  | some (d, on) =>
    let bit : Fld := ⟨R.PWR_DOM_STAT, d, 1⟩
    let fenced := bitOf (s.fld F.NOC_FENCE_STAT.FENCED) d
    let s1 := s.switchEnds
    if on then
      let s2 := s1.setFlds [(bit, 1), (⟨R.NOC_FENCE_STAT, d, 1⟩, 0)]
      .next (if d ≤ 11 then (List.range 32).foldl (fun t i => t.standIn (32 * (d - 4) + i)) s2 else s2)
    else if ownsNis d && !fenced then .next s
    else .next ((s1.domainLoses d).setFld bit 0)

/-- PWR_DOMAIN_TIMEOUT: a failed OFF unfences the domain and leaves it powered, a failed ON leaves it off (R605). -/
def execPwrDomainTimeout (s : State) : Host.Outcome State Fault Refusal :=
  match s.pwr.switching with
  | none => .next s
  | some (d, on) =>
    let s1 := (s.switchEnds.setFld F.PWR_DOM_CMDSTAT.STATUS C.PWR_DOMAIN_TIMEOUT).report C.PWR_DOMAIN_TIMEOUT (srcDomain d) 0
    .next (if on then s1 else s1.setFlds [(⟨R.NOC_FENCE_STAT, d, 1⟩, 0), (⟨R.NOC_FENCE_STAT, 24 + d, 1⟩, 0)])

/-- REF_LOST: the FCK PLL then loses lock (R599, R50). -/
def execRefLost (s : State) : Host.Outcome State Fault Refusal :=
  if s.dev = .off then .next s else .next (s.setFld F.CLK_STAT.REF_LOST 1).fckUnlock

/-- What the loss of a PSK PLL does to the quadrants it clocks (R600): READY clears, calibrations fail, the sites that own a slice are held. [DEDUCED 41] -/
def State.pskUnlock (s : State) (qs : List Nat) : State :=
  let ready := qs.filter (fun q => s.bit (F.PSL_QSTAT.READY q))
  let ks := ready.flatMap quadSlices
  let s1 := (ks.filter (fun k => (s.slice k).cal)).foldl (fun t k => t.calEnd k C.PSL_CAL_FAIL) s
  let s2 := ready.foldl (fun t q => t.setFld (F.PSL_QSTAT.READY q) 0) s1
  (s2.safeNow ks).holdSites ((List.range 16).filter (fun n => s.siteActive n && ks.any (fun k => s.sliceOf k n))) C.CLK_PLL_UNLOCK

/-- CLK_PLL_UNLOCK (R600). The clocks of the NOC, MC, SOLV, MEMC and AUX domains stop until relock, which only delays their work. [DEDUCED 102] -/
def execClkPllUnlock (pll : Fin 10) (s : State) : Host.Outcome State Fault Refusal :=
  let lock := s.fld F.CLK_STAT.LOCK
  if pll.val = 0 ∨ !bitOf lock pll then .next s
  else
    let s1 := (s.setFlds [(F.CLK_STAT.LOCK, lock - 2 ^ pll.val), (F.CLK_STAT.UNLOCK_SEEN, s.fld F.CLK_STAT.UNLOCK_SEEN ||| 2 ^ pll.val)]).report
      C.CLK_PLL_UNLOCK 0 pll.val
    .next (if pll.val = 1 then s1.pskUnlock [0, 1]
      else if pll.val = 2 then s1.pskUnlock [2, 3]
      else if pll.val = 7 then s1.linkFalls
      else if pll.val = 8 then (List.range 8).foldl (fun t p => t.portDown p) s1
      else s1)

/-- PLL_RELOCK: the PLL's bit is set and READY of its quadrants returns (R600); FCK stays stopped when its PLL regains lock, but within an FCK change, which a pole that
has the flights of its members completes with the lock (R50); PSK-B of a
UMT8840-F128-C is never started (R2). [DEDUCED 102] -/
def execPllRelock (pll : Fin 10) (s : State) : Host.Outcome State Fault Refusal :=
  let lock := s.fld F.CLK_STAT.LOCK
  if s.dev = .off ∨ bitOf lock pll ∨ (s.f128 ∧ pll.val = 2) then .next s
  else
    let s1 := s.setFld F.CLK_STAT.LOCK (lock + 2 ^ pll.val)
    let back (qs : List Nat) : State :=
      qs.foldl (fun t q => if t.pwr.quadUp.contains q then t.setFld (F.PSL_QSTAT.READY q) 1 else t) s1
    .next (if pll.val = 0 then (s1.setFld F.TICK_STAT.LOCK 1).fixFlights
      else if pll.val = 1 then back [0, 1]
      else if pll.val = 2 then back [2, 3]
      else s1)

/-- PWR_RAIL_FAULT: the monitors check in READY to SAFE_HOLD (R611). [DEDUCED 102] -/
def execPwrRailFault (rail : Fin 4) (s : State) : Host.Outcome State Fault Refusal :=
  if s.dev == .ready || s.dev == .loaded then
    .next ((s.setFld F.PWR_RAIL_STAT.FAULT (s.fld F.PWR_RAIL_STAT.FAULT ||| 2 ^ rail.val)).reportFatal C.PWR_RAIL_FAULT 0 rail.val)
  else .next s

/-- A temperature as a number of 1/16 °C. -/
def degrees (t : Half) : Int := t.toInt

/-- A reading of sensor `k` is shown in PWR_TEMP, with the highest since MAX was last read. [DEDUCED 103] -/
def State.tempRead (s : State) (k : Nat) (t : Half) : State :=
  let old : Half := BitVec.ofNat 16 (s.fld (F.PWR_TEMP.MAX k))
  s.setFlds [(F.PWR_TEMP.TEMP k, t.toNat), (F.PWR_TEMP.MAX k, (if degrees old < degrees t then t else old).toNat)]

/-- The warning threshold, °C: values outside 60 to 105 act as 105. -/
def State.warnAt (s : State) : Int :=
  let w := s.fld F.PWR_THERM_CFG.WARN
  if 60 ≤ w ∧ w ≤ 105 then w else 105

/-- PWR_THERMAL_WARN: logged once until every sensor has fallen below WARN − HYST (R613). -/
def execPwrThermalWarn (sensor : Fin 8) (temp : Half) (s : State) : Host.Outcome State Fault Refusal :=
  if s.dev = .off ∨ degrees temp < 16 * s.warnAt then .next s
  else
    let s1 := s.tempRead sensor temp
    if s1.pwr.warned then .next s1
    else .next (({ s1 with pwr := { s1.pwr with warned := true } } : State).report C.PWR_THERMAL_WARN 0 sensor.val)

/-- THERMAL_WARN_REARM (R613). -/
def execThermalWarnRearm (temps : BitVec 128) (s : State) : Host.Outcome State Fault Refusal :=
  let t (k : Nat) : Half := BitVec.ofNat 16 (temps.toNat / 2 ^ (16 * k))
  if s.dev = .off ∨ (List.range 8).any (fun k => decide (16 * (s.warnAt - s.fld F.PWR_THERM_CFG.HYST) ≤ degrees (t k))) then .next s
  else
    let s1 := (List.range 8).foldl (fun u k => u.tempRead k (t k)) s
    .next { s1 with pwr := { s1.pwr with warned := false } }

/-- PWR_THERMAL_TRIP: 110 °C for 1 ms (R613). -/
def execPwrThermalTrip (sensor : Fin 8) (temp : Half) (s : State) : Host.Outcome State Fault Refusal :=
  if s.dev = .off ∨ degrees temp < 16 * 110 then .next s
  else .next ((s.tempRead sensor temp).reportFatal C.PWR_THERMAL_TRIP 0 sensor.val)

/-- THERMTRIP: 125 °C; hardware asserts THERMTRIP_N until POR_N, every powered slice enters SAFE and FCK stops (R613). [DEDUCED 102] -/
def execThermtrip (sensor : Fin 8) (temp : Half) (s : State) : Host.Outcome State Fault Refusal :=
  if s.dev = .off ∨ degrees temp < 16 * 125 then .next s
  else
    let s2 := (s.tempRead sensor temp).calFailAll.safeNow (List.range 256)
    .next { s2 with pwr := { s2.pwr with thermtrip := true }, fckOn := false, fckStop := false }

end Sys2Proof.Machine
end

