-- ==== Sys2Proof/Machine/Bar0.lean ====
section
/-! DEFINITION. Register accesses in BAR0: what each register does when it is written or read (R14, R15, R18, R565), by the meanings of the commands that the
writes are. -/

namespace Sys2Proof.Machine

/-- The meanings below answer a next state; `t.then f` is the one they leave. -/
def State.after (s : State) (f : State → Host.Outcome State Fault Refusal) : State := outState s (f s)

/-- Bits `hi` to `lo` of a written value. -/
def bitsOf (v hi lo : Nat) : Nat := v / 2 ^ lo % 2 ^ (hi - lo + 1)

/-- Element `(off - base) / stride` of an index range of `n`. -/
def idx (n : Nat) [NeZero n] (off base stride : Nat) : Fin n := Fin.ofNat n ((off - base) / stride)

/-- TICK: TICK_CTRL and TICK_UIREP_n. -/
def State.writeTick (s : State) (req : Requester) (off : Nat) (v mask : Wide) : State :=
  let n := v.toNat
  if off = R.TICK_CTRL then (s.iff (bitOf n 1) (·.after (execTickCntClr req))).iff (bitOf n 0) (·.after (execFckApply req))
  else if 0x40100 ≤ off then s.after (execTickUirepWrite req (idx 16 off 0x40100 4) (BitVec.ofNat 32 n))
  else s.writePlain off v mask

/-- FAB_XS_CTRL_x (R120): a write that is refused, or whose START is malformed, is ignored as a whole; where both bits of an accepted write are 1,
ABORT acts last. [DEDUCED 23] -/
def State.writeXsCtrl (s : State) (req : Requester) (x : Fin 128) (n : Nat) : State :=
  let loop := bitOf n 1
  if bitOf n 0 then
    (s.after (execXsStart req x loop)).iff (bitOf n 2 && !s.xsRefused x && !s.xsMalformed x) (·.after (execXsAbort req x loop))
  else if bitOf n 2 then s.after (execXsAbort req x loop)
  else s.setFld (F.FAB_XS_CTRL.LOOP x) (b2n loop)

/-- FAB: context selects, M-cell row repair, stream control, region commands, Starfix. [DEDUCED 23] -/
def State.writeFab (s : State) (req : Requester) (off : Nat) (v mask : Wide) : State :=
  let n := v.toNat
  if 0x80100 ≤ off ∧ off < 0x80140 then s.after (execFabCtxselWrite req (idx 16 off 0x80100 4) (BitVec.ofNat 32 n))
  else if 0x84000 ≤ off ∧ off < 0x88000 then
    s.after (execFabMrepWrite req (idx 256 off 0x84000 64) (Fin.ofNat 16 (off % 64 / 4)) (BitVec.ofNat 32 n))
  else if 0x88000 ≤ off ∧ off < 0x89000 ∧ off % 32 = 0xC then s.writeXsCtrl req (idx 128 off 0x88000 32) n
  else if off = R.FAB_RGN_CMD then
    (match bitsOf n 9 8 with
    | 1 => s.after (execFreeze req (Fin.ofNat 64 n))
    | 2 => s.after (execThaw req (Fin.ofNat 64 n))
    | _ => s)
  else if off = R.FAB_SFX_CTRL then
    let s1 := s.writePlain off v mask
    let s2 := s1.iff (bitOf n 0) (·.after (execStarfixArm req))
    let s3 := s2.iff (bitOf n 3) (·.after (execStarfixCancel req))
    let s4 := s3.iff (bitOf n 4) (·.after (execStarfixRelease req))
    s4.iff (bitOf n 5) (·.after (execStarfixUnload req))
  else s.writePlain off v mask

/-- The setting register at offset `o` of a slice's block (R232). -/
def pslRegAt (o : Nat) : Option PslReg :=
  match o with
  | 0x10 => some .cfg
  | 0x14 => some .posLead
  | 0x18 => some .posTrail
  | 0x1C => some .posDen
  | 0x20 => some .posStrb
  | 0x24 => some .dskTx
  | 0x28 => some .dskRx
  | 0x2C => some .rxalign
  | 0x30 => some .eq
  | _ => none

/-- PSL: a slice's registers, quadrant power, partner drop; registers of absent slices ignore writes (R2). -/
def State.writePsl (s : State) (req : Requester) (off : Nat) (v mask : Wide) : State :=
  let n := v.toNat
  let w : Word := BitVec.ofNat 32 n
  if off < 0x140000 then
    let k := idx 256 off 0x100000 0x400
    let o := off % 0x400
    if !s.present k then s
    else if o = 0 then (s.iff (bitOf n 1) (·.after (execPslCntClr req k))).iff (bitOf n 0) (·.after (execPslCal req k))
    else if o = 0xC then s.after (execPslBind req k w)
    else match pslRegAt o with
      | some r => s.after (execPslSettingWrite req k r w)
      | none => s.writePlain off v mask
  else if off < 0x140010 then s.after (execPwrEnWrite req (idx 4 off 0x140000 4) (bitOf n 0))
  else if off = R.PSL_PARTNER_DROP then s.iff (bitOf n 8) (·.after (execPslPartnerDrop req (Fin.ofNat 64 n)))
  else s.writePlain off v mask

/-- FCQ_Q_CMD_k (R304); other OPs are ignored. -/
def State.writeQCmd (s : State) (req : Requester) (k : Fin 64) (n : Nat) : State :=
  let m := Fin.ofNat 4 (n / 2 ^ 8)
  match n % 16 with
  | 1 => s.after (execCkpt req k)
  | 2 => s.after (execQReset req k)
  | 3 => s.after (execQDrop req k)
  | 4 => s.after (execMarkSet req k m)
  | 5 => s.after (execMarkClr req k m)
  | _ => s

/-- FCQ: sources, capture queues, stream queues. -/
def State.writeFcq (s : State) (req : Requester) (off : Nat) (v mask : Wide) : State :=
  let n := v.toNat
  let o := off % 0x100
  if 0x301000 ≤ off ∧ off < 0x303000 then
    (if off % 64 < 8 then s.fcqWrite req off (s.srcQueueOf ((off - 0x301000) / 64)) false v mask else s.writePlain off v mask)
  else if 0x304000 ≤ off ∧ off < 0x308000 then
    let k := idx 64 off 0x304000 0x100
    if o = 0 then s.fcqWrite req off k true v mask
    else if o = 4 then s.writeQCmd req k n
    else if 0x20 ≤ o then s.fcqWrite req off k false v mask
    else s.writePlain off v mask
  else if 0x308000 ≤ off ∧ off < 0x308800 then
    let j := idx 8 off 0x308000 0x100
    if o = 0 then s.sqCfgWrite j v mask
    else if o = 4 then s.after (execSqWmWrite req j (BitVec.ofNat 32 n))
    else if o = 0x10 then
      (match n % 16 with
      | 1 => s.after (execSqDrop req j)
      | 2 => s.after (execSqReset req j)
      | _ => s)
    else s.writePlain off v mask
  else s.writePlain off v mask

/-- SLV: the engine's enable, lane settings and commands. -/
def State.writeSlv (s : State) (req : Requester) (off : Nat) (v mask : Wide) : State :=
  let n := v.toNat
  if off = R.SLV_CTRL then s.after (execSlvCtrlWrite req (bitOf n 0))
  else if off = R.SLV_CMD then s.slvCmdWrite req n 0
  else if 0x381000 ≤ off ∧ off < 0x381400 ∧ off % 64 = 0 then s.after (execSlvLaneCfgWrite req (idx 16 off 0x381000 64) (BitVec.ofNat 32 n))
  else s.writePlain off v mask

/-- NOC: router and fence commands, the route port, the timeouts (R364, R394). -/
def State.writeNoc (s : State) (req : Requester) (off : Nat) (v mask : Wide) : State :=
  let n := v.toNat
  if off = R.NOC_TIMEOUT then s.after (execNocTimeoutWrite req (BitVec.ofNat 32 n))
  else if off = R.NOC_RTR_CMD then
    (match bitsOf n 9 8 with
    | 1 => s.after (execNocBegin req (Fin.ofNat 64 n))
    | 2 => s.after (execNocEnd req (Fin.ofNat 64 n))
    | _ => s)
  else if off = R.NOC_FENCE_CMD then
    (match bitsOf n 9 8 with
    | 1 => s.after (execNocFence req (Fin.ofNat 32 n))
    | 2 => s.after (execNocUnfence req (Fin.ofNat 32 n))
    | _ => s)
  else if off = R.NOC_RT_ADDR then
    let src : Byte := BitVec.ofNat 8 n
    let dest : Byte := BitVec.ofNat 8 (n / 2 ^ 8)
    if bitOf n 31 then s.after (execRouteCommit req src dest) else s.after (execRouteLoad req src dest)
  else if off = R.NOC_RT_PRI ∨ off = R.NOC_RT_ALT then
    (if req = .firmware then s.writePlain off v mask else s.logRefused req off 0)
  else s.writePlain off v mask

/-- MEMC: channel commands, mode registers, the map, the BAR2 window, the PHY result registers (R380, R392, R395). -/
def State.writeMemc (s : State) (req : Requester) (off : Nat) (v mask : Wide) : State :=
  let n := v.toNat
  let w : Word := BitVec.ofNat 32 n
  let c := idx 8 off 0x480000 0x2000
  if off = R.MEMC_MAP then s.after (execMemcMapWrite req w)
  else if off = R.MEMC_BAR2_BASE then s.after (execMemcBar2BaseWrite req w)
  else if off % 0x2000 = 0 then
    (match n % 16 with
    | 1 => s.after (execMemcInit req c)
    | 2 => s.after (execMemcReady req c)
    | 3 => s.after (execMemcSrEnter req c)
    | 4 => s.after (execMemcSrExit req c)
    | 5 => s.after (execMemcErase req c (Fin.ofNat 2 (n / 2 ^ 8)) (Fin.ofNat 8 (n / 2 ^ 9)))
    | 6 => s.after (execMemcUnerase req c)
    | 7 => s.after (execMemcFail req c)
    | _ => s)
  else if off % 0x2000 = 8 ∧ bitOf n 31 then s.after (execMemcMrGo req c w)
  else s.writePlain off v mask

/-- CFG: CFG_CMD and CFG_CHAIN. -/
def State.writeCfg (s : State) (req : Requester) (off : Nat) (v mask : Wide) : State :=
  let n := v.toNat
  if off = R.CFG_CMD then
    (match n % 16 with
    | 1 => s.after (execCfgLoad req (Fin.ofNat 8 (n / 2 ^ 4)) (bitOf n 8) (bitOf n 9))
    | 2 => s.after (execCfgAbort req)
    | _ => s)
  else if off = R.CFG_CHAIN then s.after (execCfgChainWrite req (BitVec.ofNat 32 n))
  else s.writePlain off v mask

/-- The ports that CSC_CFG.PORT_EN does not enable are down and off. [DEDUCED 79] -/
def State.portsEnabled (s : State) : State :=
  (List.range 8).foldl (fun t p =>
    if bitOf (t.fld F.CSC_CFG.PORT_EN) p then t else (t.portDown p).setFld (F.CSC_PORT_STAT.LSTATE p) 0) s

/-- Whether a remote device's write to `off` is refused (R500). -/
def remoteBarred (off : Nat) : Bool :=
  (decide (0x10000 ≤ off) && decide (off < 0x20000)) || off == R.CSC_CFG || off == R.CSC_CMD

/-- BIST, ERR and PWR: their command registers. -/
def State.writeBistErrPwr (s : State) (req : Requester) (off : Nat) (v mask : Wide) : State :=
  let n := v.toNat
  if off = R.BIST_CMD then s.iff (n % 16 == 1) (·.after (execNightfall req))
  else if off = R.BIST_FUSE_CMD then
    (if !bitOf n 31 then s
    else match n % 4 with
      | 1 => s.after (execBlow req)
      | 2 => s.after (execVoid req (Fin.ofNat 64 (n / 2 ^ 8)))
      | _ => s)
  else if off = R.ERR_CMD then
    (match n % 16 with
    | 1 => s.after (execErrRoll req)
    | 2 => s.after (execErrClear req)
    | 3 => s.after (execDumpAck req)
    | _ => s)
  else if off = R.ERR_RPTR then s.after (execErrRptrWrite req (BitVec.ofNat 32 n))
  else if off = R.PWR_DOM_CMD then
    (match bitsOf n 9 8 with
    | 1 => s.after (execPwrOn req (Fin.ofNat 32 n))
    | 2 => s.after (execPwrOff req (Fin.ofNat 32 n))
    | _ => s)
  else s.writePlain off v mask

/-- HIF: resets, queues, events, upload. -/
def State.writeHif (s : State) (req : Requester) (off : Nat) (v mask : Wide) : State :=
  let n := v.toNat
  let w : Word := BitVec.ofNat 32 n
  if off = R.HIF_RESET then s.after (execHifResetWrite req w)
  else if off = R.HIF_EVQ_CTRL then s.after (execEvqEnable req w)
  else if 0x701000 ≤ off ∧ off < 0x701200 then
    let q := idx 8 off 0x701000 64
    let o := off % 64
    if o = 0x10 then s.after (execCmqEnable req q w)
    else if o = 0x14 then s.after (execCmqDoorbell req q (BitVec.ofNat 16 n))
    else if o = 0x18 then s.after (execCpqHeadWrite req q (BitVec.ofNat 16 n))
    else s.writePlain off v mask
  else if 0x702000 ≤ off ∧ off < 0x702100 ∧ off % 32 = 8 then s.after (execUploadEnable req (idx 8 off 0x702000 32) w)
  else s.writePlain off v mask

/-- AUX: I3C transfers and flash commands; an OP that the table of AUX_XSPI_CMD does not list starts nothing. -/
def State.writeAux (s : State) (req : Requester) (off : Nat) (v mask : Wide) : State :=
  let n := v.toNat
  if off = R.AUX_I3C_XFER then s.after (execAuxI3cXfer req (BitVec.ofNat 32 n))
  else if off = R.AUX_XSPI_CMD then
    (if !bitOf n 31 then (if s.bit F.AUX_XSPI_CMD.BUSY then s else s.writePlain off v mask)
    else match n % 16 with
      | 1 => s.after (execXspiRead req)
      | 2 => s.after (execXspiProgram req)
      | 3 => s.after (execXspiErase4k req)
      | 4 => s.after (execXspiErase64k req)
      | _ => s)
  else s.writePlain off v mask

/-- The constellation's registers without REMOTE, which is with the remote accesses. -/
def State.writeCsc (s : State) (req : Requester) (off : Nat) (v mask : Wide) : State :=
  let n := v.toNat
  if off = R.CSC_CMD then
    (match n % 16 with
    | 1 => s.after (execForm req)
    | 2 => s.after (execLeave req)
    | 3 => s.after (execRecal req)
    | _ => s)
  else if off = R.CSC_CFG then (s.writePlain off v mask).portsEnabled
  else if 0x500400 ≤ off ∧ off < 0x500440 then s.after (execCscVgrpWrite req (idx 16 off 0x500400 4) false v)
  else if 0x500440 ≤ off ∧ off < 0x5004C0 then
    s.after (execCscVgrpWrite req (idx 16 off 0x500440 8) true ((v &&& mask) ||| (s.reg off &&& ~~~ mask)))
  else s.writePlain off v mask

/-- A write of the bits of `v` that `mask` selects to the register at `off`. -/
def State.writeReg (s : State) (req : Requester) (off : Nat) (v mask : Wide) : State :=
  if off < 0x10000 then s.writePlain off v mask
  else if off < 0x20000 then
    (if off = R.SEC_MBOX_CMD ∧ bitOf v.toNat 31 then s.mboxCommand req (v.toNat % 256) (v.toNat / 256 % 256)
    else if (off = R.SEC_MBOX_CMD ∨ off = R.SEC_MBOX_ADDR ∨ off = R.SEC_MBOX_LEN) ∧ s.bit F.SEC_MBOX_STAT.BUSY then s.logRefused req off 0
    else s.writePlain off v mask)
  else if off < 0x40000 then s.writeCfg req off v mask
  else if off < 0x80000 then s.writeTick req off v mask
  else if off < 0x100000 then s.writeFab req off v mask
  else if off < 0x200000 then s.writePsl req off v mask
  else if off < 0x300000 then s.psqBlockWrite req (idx 16 off 0x200000 0x1000) (off % 0x1000) v mask
  else if off < 0x380000 then s.writeFcq req off v mask
  else if off < 0x400000 then s.writeSlv req off v mask
  else if off < 0x480000 then s.writeNoc req off v mask
  else if off < 0x500000 then s.writeMemc req off v mask
  else if off < 0x580000 then s.writeCsc req off v mask
  else if off < 0x700000 then s.writeBistErrPwr req off v mask
  else if off < 0x780000 then s.writeHif req off v mask
  else s.writeAux req off v mask

/-- A write of one dword at BAR0 offset `a`. [DEDUCED 97] -/
def State.writeDword (s : State) (req : Requester) (a : Nat) (w : Word) : State :=
  if 0x708000 ≤ a ∧ a < 0x709000 then
    let i := (a - 0x708000) / 4
    let t := mset (fun k => if k % 4 = 3 then (1 : Word) else 0) i (if i % 4 = 3 then w &&& 1 else w) s.msix.table
    ({ s with msix := { s.msix with table := t } }).flushVectors
  else if 0x800000 ≤ a ∨ inWindow a = true then s
  else match regAt a with
    | some (_, false) => s.writeReg req a (w.setWidth 64) (maskBits 0 32)
    | some (_, true) => s.writeReg req (a - 4) (BitVec.ofNat 64 (w.toNat * 2 ^ 32)) (maskBits 32 32)
    | none => if isPhy a && req == .firmware then s.setReg a (w.setWidth 64) else s

/-- A write of a 4-byte or 8-byte value at BAR0 offset `a`: one write of a 64-bit register, else of each dword, the lower first; a misaligned
write covers no dword or crosses 8 bytes and is without effect (R18, R565). [DEDUCED 104] -/
def State.barWrite (s : State) (req : Requester) (a : Nat) (wide : Bool) (v : Wide) : State :=
  if s.dev = .off then s
  else if wide then
    (if a % 8 ≠ 0 then s
    else match regAt a with
      | some (r, false) =>
        if r.wide && decide (a < 0x800000) then s.writeReg req a v (maskBits 0 64)
        else (s.writeDword req a (v.setWidth 32)).writeDword req (a + 4) (BitVec.ofNat 32 (v.toNat / 2 ^ 32))
      | _ => (s.writeDword req a (v.setWidth 32)).writeDword req (a + 4) (BitVec.ofNat 32 (v.toNat / 2 ^ 32)))
  else if a % 4 ≠ 0 then s
  else s.writeDword req a (v.setWidth 32)

/-- The RC fields among the bits that `mask` selects are cleared by a read of the register at `off` (R14). [DEDUCED 104] -/
def State.cleared (s : State) (off : Nat) (mask : Wide) : State :=
  match regAt off with
  | some (r, false) => s.setReg off (readClear r.fields (s.reg off) mask)
  | _ => s

/-- The high half that a read of the low half latched (R18). -/
def State.setLatch (s : State) (off : Nat) (v : Option Word) : State := { s with latch := mset (fun _ => none) off v s.latch }

/-- A read of one dword at BAR0 offset `a`: its value and what it changes (R14, R18, R157, R215, R280). -/
def State.readDword (s : State) (req : Requester) (a : Nat) : Nat × State :=
  let via (f : State → Host.Outcome State Fault Refusal) : Nat × State := ((s.after f).rdata.toNat % 2 ^ 32, s.after f)
  if a = R.FAB_RB_DATA then via (execFabRbDataRead req)
  else if 0x200000 ≤ a ∧ a < 0x210000 ∧ a % 0x1000 = 0x204 then via (execPsqWdbgAccess req (idx 16 a 0x200000 0x1000) none)
  else if 0x308000 ≤ a ∧ a < 0x308800 ∧ a % 0x100 = 0x20 then via (execSqPop req (idx 8 a 0x308000 0x100))
  else if 0x800000 ≤ a ∨ inWindow a = true then (s.barDword a, s)
  else match regAt a with
    | some (r, false) =>
      let v := (s.regValue a).toNat
      (v % 2 ^ 32, (s.cleared a (maskBits 0 32)).iff r.wide (·.setLatch a (some (BitVec.ofNat 32 (v / 2 ^ 32)))))
    | some (_, true) =>
      match mget (fun _ => (none : Option Word)) (a - 4) s.latch with
      | some w => (w.toNat, (s.cleared (a - 4) (maskBits 32 32)).setLatch (a - 4) none)
      | none => ((s.regValue (a - 4)).toNat / 2 ^ 32, s.cleared (a - 4) (maskBits 32 32))
    | none => (s.regDword a, s)

/-- A read of 4 or 8 bytes at BAR0 offset `a`; a read of part of a dword returns the whole dwords, and one that crosses 8 bytes is not
served (R565). [DEDUCED 104, 105] -/
def State.barRead (s : State) (req : Requester) (a : Nat) (wide : Bool) : State :=
  if s.dev = .off then s
  else
    let pair (b : Nat) : State :=
      match regAt b with
      | some (r, false) =>
        if r.wide && b % 0x100 != 0x20 then { s.cleared b (maskBits 0 64) with rdata := s.regValue b }
        else
          let (lo, s1) := s.readDword req b
          let (hi, s2) := s1.readDword req (b + 4)
          { s2 with rdata := BitVec.ofNat 64 (lo + hi * 2 ^ 32) }
      | _ =>
        let (lo, s1) := s.readDword req b
        let (hi, s2) := s1.readDword req (b + 4)
        { s2 with rdata := BitVec.ofNat 64 (lo + hi * 2 ^ 32) }
    if wide then (if a % 8 ≠ 0 then s else (pair a).tookFree)
    else if a % 4 = 0 then
      let (v, s1) := s.readDword req a
      ({ s1 with rdata := BitVec.ofNat 64 v }).tookFree
    else if a % 8 < 4 then (pair (a / 8 * 8)).tookFree
    else s

end Sys2Proof.Machine
end

