-- ==== Sys2Proof/Machine/RegExec.lean ====
section
/-! DEFINITION. The register accesses of the host, of host commands and of remote devices (R14, R18, R468, R500, R576). -/

namespace Sys2Proof.Machine

/-- The requester that stands for the remote device at position `p` (R542). -/
def remoteReq (p : Nat) : Requester := .remote (Fin.ofNat 32 p)

/-- A remote access ends: BUSY clears and STATUS is written; a failure is logged with the port towards the target and its position (R500, R501). -/
def State.remoteEnds (s : State) (status : Nat) : State :=
  let pos := s.fld F.CSC_RMT_ADDR.POSITION
  let s1 : State := { s with csc := { s.csc with rmt := none } }
  let s2 := s1.setFlds [(F.CSC_RMT_STAT.STATUS, status), (F.CSC_RMT_STAT.BUSY, 0)]
  if status = 0 then s2 else s2.report C.CSC_REMOTE_ERR (srcCascade ((s.portTo pos).getD 0) pos) 0

/-- Whether position `pos` is known not to be a FORMED member (R492, R500). [DEDUCED 82] -/
def State.notMember (s : State) (pos : Nat) : Bool :=
  !s.formed || (s.bit F.CSC_STAT.POLE && !bitOf (s.fld F.CSC_MEMBERS.PRESENT) pos)

/-- A 32-bit access to this device's BAR0 on behalf of the device at position `pos`, its STATUS and data (R500); `rdata` stays as it was. [DEDUCED 82] -/
def State.remoteAccess (s : State) (pos off : Nat) (write : Option Word) : Nat × Nat × State :=
  match write with
  | some w => if remoteBarred off then (C.CSC_REMOTE_ERR, 0, s) else (0, 0, s.barWrite (remoteReq pos) off false (w.setWidth 64))
  | none =>
    let t := s.barRead (remoteReq pos) off false
    (0, t.rdata.toNat % 2 ^ 32, { t with rdata := s.rdata })

/-- REMOTE (R500): one access, made here when POSITION is the device's own, else by a packet. [DEDUCED 82] -/
def execRemote (req : Requester) (s : State) : Host.Outcome State Fault Refusal :=
  let pos := s.fld F.CSC_RMT_ADDR.POSITION
  let off := s.fld F.CSC_RMT_ADDR.OFFSET
  let wr := s.bit F.CSC_RMT_ADDR.WR
  let data := s.fld F.CSC_RMT_DATA.DATA
  let own := s.fld F.CSC_STAT.POSITION
  if !s.allows req .cscRemote || s.bit F.CSC_RMT_STAT.BUSY then .next (s.refuseCsc req 4)
  else
    let s1 := s.setFld F.CSC_STAT.CMD_STATUS 0
    if wr && remoteBarred off then .next (s1.remoteEnds C.CSC_REMOTE_ERR)
    else if pos = own then
      let (st, v, s2) := s1.remoteAccess own off (if wr then some (BitVec.ofNat 32 data) else none)
      let s3 := if wr then s2 else s2.setFld F.CSC_RMT_DATA.DATA v
      .next (s3.remoteEnds st)
    else if s1.notMember pos then .next (s1.remoteEnds C.CSC_REMOTE_ERR)
    else
      let tag := s1.csc.rmtTag
      let s2 : State := { s1 with csc := { s1.csc with rmt := some tag, rmtTag := (tag + 1) % 256 } }
      let s3 := s2.setFlds [(F.CSC_RMT_STAT.BUSY, 1), (F.CSC_RMT_STAT.STATUS, 0)]
      .next (s3.sendTo pos (s3.mkPkt (if wr then 0x19 else 0x18) pos tag (off + (if wr then data * 2 ^ 32 else 0)) []))

/-- An access of a remote device at `pos` to this device, which is a target while it is FORMED (R500). -/
def State.remoteServed (s : State) (pos off : Nat) (write : Option Word) : Nat × Nat × State :=
  if s.formed then s.remoteAccess pos off write else (C.CSC_REMOTE_ERR, 0, s)

/-- REG_RD: a remote device reads a register here (R468, R500). [DEDUCED 82] -/
def execRegRd (s : State) : Host.Outcome State Fault Refusal :=
  match s.takePkt 0x18 with
  | none => .next s
  | some (_, k, s1) =>
    let d := k.src.toNat
    let (st, v, s2) := s1.remoteServed d (k.arg.toNat % 2 ^ 26) none
    .next (s2.sendTo d (s2.mkPkt 0x1A d k.tag.toNat (v + st * 2 ^ 32) []))

/-- REG_WR: a remote device writes a register here (R468, R500). [DEDUCED 82] -/
def execRegWr (s : State) : Host.Outcome State Fault Refusal :=
  match s.takePkt 0x19 with
  | none => .next s
  | some (_, k, s1) =>
    let d := k.src.toNat
    let (st, _, s2) := s1.remoteServed d (k.arg.toNat % 2 ^ 26) (some (BitVec.ofNat 32 (k.arg.toNat / 2 ^ 32)))
    .next (s2.sendTo d (s2.mkPkt 0x1A d k.tag.toNat (st * 2 ^ 32) []))

/-- REG_RSP: the answer to this device's remote access; an answer to no access under way changes nothing more (R468, R500). -/
def execRegRsp (s : State) : Host.Outcome State Fault Refusal :=
  match s.takePkt 0x1A with
  | none => .next s
  | some (_, k, s1) =>
    if s1.csc.rmt ≠ some k.tag.toNat then .next s1
    else
      let st := k.arg.toNat / 2 ^ 32 % 65536
      let s2 := if !s1.bit F.CSC_RMT_ADDR.WR ∧ st = 0 then s1.setFld F.CSC_RMT_DATA.DATA (k.arg.toNat % 2 ^ 32) else s1
      .next (s2.remoteEnds st)

/-- REMOTE_TIMEOUT: no answer within 100 µs (R500). -/
def execRemoteTimeout (s : State) : Host.Outcome State Fault Refusal :=
  match s.csc.rmt with
  | none => .next s
  | some _ => .next (s.remoteEnds C.CSC_REMOTE_ERR)

/-- A write in BAR0 with every command that it can be: CSC_CMD with OP = 4 is REMOTE (R498, R500). -/
def State.fullWrite (s : State) (req : Requester) (a : Nat) (wide : Bool) (v : Wide) : State :=
  let remote := if wide then a + 4 == R.CSC_CMD && v.toNat / 2 ^ 32 % 16 == 4 else a == R.CSC_CMD && v.toNat % 16 == 4
  let s1 := s.barWrite req a wide v
  if remote && s.dev != .off && (!wide || a % 8 == 0) then s1.after (execRemote req) else s1

/-- REGISTER_WRITE (R14, R565): one whose byte enables do not cover a whole dword is ignored. -/
def execRegWrite (req : Requester) (off : BitVec 26) (size : WriteSize) (value : Wide) (s : State) : Host.Outcome State Fault Refusal :=
  match size with
  | .dword => .next (s.fullWrite req off.toNat false value)
  | .qword => .next (s.fullWrite req off.toNat true value)
  | .part => .next s

/-- REGISTER_READ: the value is in `rdata` (R14, R18, R565); a request of the host that crosses an 8-byte boundary is completed as Unsupported Request. -/
def execRegRead (req : Requester) (off : BitVec 26) (wide : Bool) (s : State) : Host.Outcome State Fault Refusal :=
  let a := off.toNat % 8
  .next (((s.barRead req off.toNat wide).hostCpl (req == .host && s.dev != .off) (if wide && a != 0 || decide (4 < a) then .ur else .success)))

/-- CMD_REG_WR: up to six writes in order, each as a host write (R576). -/
def execCmdRegWr (q : Fin 8) (s : State) : Host.Outcome State Fault Refusal :=
  .next (s.carryOut q 1 (fun c t =>
    (some (0, 0), (List.range (c.field 8 1)).foldl (fun u k =>
      u.fullWrite .host (c.field (16 + 8 * k) 4) false (BitVec.ofNat 64 (c.field (20 + 8 * k) 4))) t)))

/-- CMD_REG_RD: one read as a host read (R576); `rdata` stays as it was. -/
def execCmdRegRd (q : Fin 8) (s : State) : Host.Outcome State Fault Refusal :=
  .next (s.carryOut q 2 (fun c t =>
    let wide := bitOf (c.field 12 1) 0
    let t1 := t.barRead .host (c.field 8 4) wide
    (some (0, t1.rdata.toNat % (if wide then 2 ^ 64 else 2 ^ 32)), { t1 with rdata := t.rdata })))

end Sys2Proof.Machine
end

