-- ==== Sys2Proof/Machine/Dispatch.lean ====
section
/-! DEFINITION. The meaning of every command: one arm per constructor of `Instr`, each one call of that command's own meaning. -/

namespace Sys2Proof.Machine

/-- The effect of command `i` on everything but the queue. [DESIGN CHOICE 109] -/
def exec (i : Instr) (s : State) : Host.Outcome State Fault Refusal :=
  match i with
  | .regWrite req off size value => Sys2Proof.Machine.execRegWrite req off size value s
  | .fckApply req => Sys2Proof.Machine.execFckApply req s
  | .fckChangeComplete => Sys2Proof.Machine.execFckChangeComplete s
  | .tickCntClr req => Sys2Proof.Machine.execTickCntClr req s
  | .tickUirepWrite req site value => Sys2Proof.Machine.execTickUirepWrite req site value s
  | .tickSlip unit => Sys2Proof.Machine.execTickSlip unit s
  | .nearSlip unit => Sys2Proof.Machine.execNearSlip unit s
  | .fckPllUnlock => Sys2Proof.Machine.execFckPllUnlock s
  | .contextSwitch site => Sys2Proof.Machine.execContextSwitch site s
  | .fabStoreParity pos third => Sys2Proof.Machine.execFabStoreParity pos third s
  | .cellNop slot => Sys2Proof.Machine.execCellNop slot s
  | .cellMov slot => Sys2Proof.Machine.execCellMov slot s
  | .cellAdd slot => Sys2Proof.Machine.execCellAdd slot s
  | .cellAddc slot => Sys2Proof.Machine.execCellAddc slot s
  | .cellSub slot => Sys2Proof.Machine.execCellSub slot s
  | .cellSubb slot => Sys2Proof.Machine.execCellSubb slot s
  | .cellMin slot => Sys2Proof.Machine.execCellMin slot s
  | .cellMax slot => Sys2Proof.Machine.execCellMax slot s
  | .cellCmp slot => Sys2Proof.Machine.execCellCmp slot s
  | .cellSel slot => Sys2Proof.Machine.execCellSel slot s
  | .cellAnd slot => Sys2Proof.Machine.execCellAnd slot s
  | .cellOr slot => Sys2Proof.Machine.execCellOr slot s
  | .cellXor slot => Sys2Proof.Machine.execCellXor slot s
  | .cellAndn slot => Sys2Proof.Machine.execCellAndn slot s
  | .cellShl slot => Sys2Proof.Machine.execCellShl slot s
  | .cellShr slot => Sys2Proof.Machine.execCellShr slot s
  | .cellSra slot => Sys2Proof.Machine.execCellSra slot s
  | .cellRol slot => Sys2Proof.Machine.execCellRol slot s
  | .cellMul slot => Sys2Proof.Machine.execCellMul slot s
  | .cellMac slot => Sys2Proof.Machine.execCellMac slot s
  | .cellMacl slot => Sys2Proof.Machine.execCellMacl slot s
  | .cellAccr slot => Sys2Proof.Machine.execCellAccr slot s
  | .cellCntm slot => Sys2Proof.Machine.execCellCntm slot s
  | .cellCnte slot => Sys2Proof.Machine.execCellCnte slot s
  | .cellBfm slot => Sys2Proof.Machine.execCellBfm slot s
  | .cellGray slot => Sys2Proof.Machine.execCellGray slot s
  | .cellXtap slot => Sys2Proof.Machine.execCellXtap slot s
  | .cellBrev slot => Sys2Proof.Machine.execCellBrev slot s
  | .cellWld slot => Sys2Proof.Machine.execCellWld slot s
  | .cellWand slot => Sys2Proof.Machine.execCellWand slot s
  | .cellWor slot => Sys2Proof.Machine.execCellWor slot s
  | .cellWxor slot => Sys2Proof.Machine.execCellWxor slot s
  | .cellWandn slot => Sys2Proof.Machine.execCellWandn slot s
  | .cellWnot slot => Sys2Proof.Machine.execCellWnot slot s
  | .cellWrol slot => Sys2Proof.Machine.execCellWrol slot s
  | .cellWshl slot => Sys2Proof.Machine.execCellWshl slot s
  | .cellWshr slot => Sys2Proof.Machine.execCellWshr slot s
  | .cellWbfly slot => Sys2Proof.Machine.execCellWbfly slot s
  | .cellLfsr slot => Sys2Proof.Machine.execCellLfsr slot s
  | .cellCrc32 slot => Sys2Proof.Machine.execCellCrc32 slot s
  | .cellPopc slot => Sys2Proof.Machine.execCellPopc slot s
  | .cellPar slot => Sys2Proof.Machine.execCellPar slot s
  | .cellClz slot => Sys2Proof.Machine.execCellClz slot s
  | .cellLutn slot => Sys2Proof.Machine.execCellLutn slot s
  | .cellLutw slot => Sys2Proof.Machine.execCellLutw slot s
  | .cellWlutn slot => Sys2Proof.Machine.execCellWlutn slot s
  | .cellMem cl => Sys2Proof.Machine.execCellMem cl s
  | .cellXio x => Sys2Proof.Machine.execCellXio x s
  | .streamPop x => Sys2Proof.Machine.execStreamPop x s
  | .xsStart req x loop => Sys2Proof.Machine.execXsStart req x loop s
  | .xsAbort req x loop => Sys2Proof.Machine.execXsAbort req x loop s
  | .xsFillResponse x words status => Sys2Proof.Machine.execXsFillResponse x words status s
  | .fabCtxselWrite req site value => Sys2Proof.Machine.execFabCtxselWrite req site value s
  | .fabMrepWrite req cl k value => Sys2Proof.Machine.execFabMrepWrite req cl k value s
  | .freeze req g => Sys2Proof.Machine.execFreeze req g s
  | .freezeTakesEffect => Sys2Proof.Machine.execFreezeTakesEffect s
  | .thaw req g => Sys2Proof.Machine.execThaw req g s
  | .thawTakesEffect => Sys2Proof.Machine.execThawTakesEffect s
  | .starfixArm req => Sys2Proof.Machine.execStarfixArm req s
  | .starfixCancel req => Sys2Proof.Machine.execStarfixCancel req s
  | .starfixCapture => Sys2Proof.Machine.execStarfixCapture s
  | .starfixDrainDone => Sys2Proof.Machine.execStarfixDrainDone s
  | .starfixRelease req => Sys2Proof.Machine.execStarfixRelease req s
  | .starfixUnload req => Sys2Proof.Machine.execStarfixUnload req s
  | .starfixUnloadDone => Sys2Proof.Machine.execStarfixUnloadDone s
  | .fabRbDataRead req => Sys2Proof.Machine.execFabRbDataRead req s
  | .psqArm req n => Sys2Proof.Machine.execPsqArm req n s
  | .psqStart req n at_ => Sys2Proof.Machine.execPsqStart req n at_ s
  | .siteRunBegins n => Sys2Proof.Machine.execSiteRunBegins n s
  | .psqPause req n => Sys2Proof.Machine.execPsqPause req n s
  | .psqResume req n at_ => Sys2Proof.Machine.execPsqResume req n at_ s
  | .psqStop req n => Sys2Proof.Machine.execPsqStop req n s
  | .psqHold req n => Sys2Proof.Machine.execPsqHold req n s
  | .psqService req n => Sys2Proof.Machine.execPsqService req n s
  | .psqSvcEnd req n => Sys2Proof.Machine.execPsqSvcEnd req n s
  | .svcStopAtBoundary n => Sys2Proof.Machine.execSvcStopAtBoundary n s
  | .seqNopv n => Sys2Proof.Machine.execSeqNopv n s
  | .seqEmit n => Sys2Proof.Machine.execSeqEmit n s
  | .seqVset n => Sys2Proof.Machine.execSeqVset n s
  | .seqAlu n => Sys2Proof.Machine.execSeqAlu n s
  | .seqAddi n => Sys2Proof.Machine.execSeqAddi n s
  | .seqAndi n => Sys2Proof.Machine.execSeqAndi n s
  | .seqOri n => Sys2Proof.Machine.execSeqOri n s
  | .seqLui n => Sys2Proof.Machine.execSeqLui n s
  | .seqBr n => Sys2Proof.Machine.execSeqBr n s
  | .seqDjnz n => Sys2Proof.Machine.execSeqDjnz n s
  | .seqRep n => Sys2Proof.Machine.execSeqRep n s
  | .seqCall n => Sys2Proof.Machine.execSeqCall n s
  | .seqRet n => Sys2Proof.Machine.execSeqRet n s
  | .seqRetxInterrupt n => Sys2Proof.Machine.execSeqRetxInterrupt n s
  | .seqRetxTrap n => Sys2Proof.Machine.execSeqRetxTrap n s
  | .seqCtx n => Sys2Proof.Machine.execSeqCtx n s
  | .seqMatch n => Sys2Proof.Machine.execSeqMatch n s
  | .seqMwait n => Sys2Proof.Machine.execSeqMwait n s
  | .seqVmatch n => Sys2Proof.Machine.execSeqVmatch n s
  | .seqLds n => Sys2Proof.Machine.execSeqLds n s
  | .seqSts n => Sys2Proof.Machine.execSeqSts n s
  | .seqMfs n => Sys2Proof.Machine.execSeqMfs n s
  | .seqMts n => Sys2Proof.Machine.execSeqMts n s
  | .seqXmov n => Sys2Proof.Machine.execSeqXmov n s
  | .seqSig n => Sys2Proof.Machine.execSeqSig n s
  | .seqSfx n => Sys2Proof.Machine.execSeqSfx n s
  | .seqPgld n => Sys2Proof.Machine.execSeqPgld n s
  | .seqLd n => Sys2Proof.Machine.execSeqLd n s
  | .seqSt n => Sys2Proof.Machine.execSeqSt n s
  | .seqLdm n => Sys2Proof.Machine.execSeqLdm n s
  | .seqStm n => Sys2Proof.Machine.execSeqStm n s
  | .dataAccessComplete n status => Sys2Proof.Machine.execDataAccessComplete n status s
  | .seqSysc n => Sys2Proof.Machine.execSeqSysc n s
  | .seqWaiti n => Sys2Proof.Machine.execSeqWaiti n s
  | .seqFence n => Sys2Proof.Machine.execSeqFence n s
  | .seqHalt n => Sys2Proof.Machine.execSeqHalt n s
  | .seqIllegal n => Sys2Proof.Machine.execSeqIllegal n s
  | .interruptEntry n => Sys2Proof.Machine.execInterruptEntry n s
  | .psqDoorbell req n value => Sys2Proof.Machine.execPsqDoorbell req n value s
  | .psqTimer n => Sys2Proof.Machine.execPsqTimer n s
  | .psqPgCmd req n page srcUnit => Sys2Proof.Machine.execPsqPgCmd req n page srcUnit s
  | .pageFillDone n page status => Sys2Proof.Machine.execPageFillDone n page status s
  | .windowSpill n => Sys2Proof.Machine.execWindowSpill n s
  | .windowFill n => Sys2Proof.Machine.execWindowFill n s
  | .wstoreToMemory n status => Sys2Proof.Machine.execWstoreToMemory n status s
  | .wstoreFromMemory n status => Sys2Proof.Machine.execWstoreFromMemory n status s
  | .psqSealSet req n => Sys2Proof.Machine.execPsqSealSet req n s
  | .psqWdbgAccess req n write => Sys2Proof.Machine.execPsqWdbgAccess req n write s
  | .psqConfigWrite req n reg value => Sys2Proof.Machine.execPsqConfigWrite req n reg value s
  | .sliceCompare sl h l => Sys2Proof.Machine.execSliceCompare sl h l s
  | .pslCal req sl => Sys2Proof.Machine.execPslCal req sl s
  | .calDone sl outcome => Sys2Proof.Machine.execCalDone sl outcome s
  | .pslCntClr req sl => Sys2Proof.Machine.execPslCntClr req sl s
  | .pslSettingWrite req sl reg value => Sys2Proof.Machine.execPslSettingWrite req sl reg value s
  | .pslBind req sl value => Sys2Proof.Machine.execPslBind req sl value s
  | .los sl onH onL => Sys2Proof.Machine.execLos sl onH onL s
  | .presenceAbsent partner => Sys2Proof.Machine.execPresenceAbsent partner s
  | .pslPartnerDrop req partner => Sys2Proof.Machine.execPslPartnerDrop req partner s
  | .pwrEnWrite req q en => Sys2Proof.Machine.execPwrEnWrite req q en s
  | .quadrantReady q => Sys2Proof.Machine.execQuadrantReady q s
  | .quadrantTimeout q => Sys2Proof.Machine.execQuadrantTimeout q s
  | .failPacketHandover x => Sys2Proof.Machine.execFailPacketHandover x s
  | .creditRefill x => Sys2Proof.Machine.execCreditRefill x s
  | .saturationExit x => Sys2Proof.Machine.execSaturationExit x s
  | .drainRecord k => Sys2Proof.Machine.execDrainRecord k s
  | .recordWriteDone k status => Sys2Proof.Machine.execRecordWriteDone k status s
  | .countPeriod k => Sys2Proof.Machine.execCountPeriod k s
  | .queueFlushBegin k => Sys2Proof.Machine.execQueueFlushBegin k s
  | .flushDone k => Sys2Proof.Machine.execFlushDone k s
  | .fcqPtrMismatch q ptr copy1 copy2 => Sys2Proof.Machine.execFcqPtrMismatch q ptr copy1 copy2 s
  | .queueResetDone q => Sys2Proof.Machine.execQueueResetDone q s
  | .fcqConfigWrite req reg value => Sys2Proof.Machine.execFcqConfigWrite req reg value s
  | .ckpt req k => Sys2Proof.Machine.execCkpt req k s
  | .qReset req k => Sys2Proof.Machine.execQReset req k s
  | .qDrop req k => Sys2Proof.Machine.execQDrop req k s
  | .markSet req k m => Sys2Proof.Machine.execMarkSet req k m s
  | .markClr req k m => Sys2Proof.Machine.execMarkClr req k m s
  | .sqDrop req j => Sys2Proof.Machine.execSqDrop req j s
  | .sqReset req j => Sys2Proof.Machine.execSqReset req j s
  | .sqWmWrite req j value => Sys2Proof.Machine.execSqWmWrite req j value s
  | .streamPacketWrite j part => Sys2Proof.Machine.execStreamPacketWrite j part s
  | .sqPop req j => Sys2Proof.Machine.execSqPop req j s
  | .collectPacket l k => Sys2Proof.Machine.execCollectPacket l k s
  | .collectMarker l k => Sys2Proof.Machine.execCollectMarker l k s
  | .slvStoreEcc g unit => Sys2Proof.Machine.execSlvStoreEcc g unit s
  | .laneMap req l status => Sys2Proof.Machine.execLaneMap req l status s
  | .laneReset req l => Sys2Proof.Machine.execLaneReset req l s
  | .slvOpen req g cnt status => Sys2Proof.Machine.execSlvOpen req g cnt status s
  | .slvClose req g cnt => Sys2Proof.Machine.execSlvClose req g cnt s
  | .slvSolve req g cnt => Sys2Proof.Machine.execSlvSolve req g cnt s
  | .slvResolve req g cnt status => Sys2Proof.Machine.execSlvResolve req g cnt status s
  | .slvAbort req g cnt => Sys2Proof.Machine.execSlvAbort req g cnt s
  | .slvRelease req g cnt => Sys2Proof.Machine.execSlvRelease req g cnt s
  | .slvCmdComplete => Sys2Proof.Machine.execSlvCmdComplete s
  | .solveBegin l => Sys2Proof.Machine.execSolveBegin l s
  | .solveComplete l status => Sys2Proof.Machine.execSolveComplete l status s
  | .resultEnqueue l => Sys2Proof.Machine.execResultEnqueue l s
  | .replayComplete l status => Sys2Proof.Machine.execReplayComplete l status s
  | .slvCtrlWrite req en => Sys2Proof.Machine.execSlvCtrlWrite req en s
  | .slvLaneCfgWrite req l value => Sys2Proof.Machine.execSlvLaneCfgWrite req l value s
  | .nocRequest ni tag body addr len => Sys2Proof.Machine.execNocRequest ni tag body addr len s
  | .memAccess c cycles faults => Sys2Proof.Machine.execMemAccess c cycles faults s
  | .nocCompletion ni tag link => Sys2Proof.Machine.execNocCompletion ni tag link s
  | .nocTimeout ni tag => Sys2Proof.Machine.execNocTimeout ni tag s
  | .routeHoldExpiry ni tag router => Sys2Proof.Machine.execRouteHoldExpiry ni tag router s
  | .nack ni tag => Sys2Proof.Machine.execNack ni tag s
  | .nocBegin req r => Sys2Proof.Machine.execNocBegin req r s
  | .routerDrained r => Sys2Proof.Machine.execRouterDrained r s
  | .nocEnd req r => Sys2Proof.Machine.execNocEnd req r s
  | .nocReconfTimeout r => Sys2Proof.Machine.execNocReconfTimeout r s
  | .nocFence req d => Sys2Proof.Machine.execNocFence req d s
  | .domainFenced d => Sys2Proof.Machine.execDomainFenced d s
  | .nocUnfence req d => Sys2Proof.Machine.execNocUnfence req d s
  | .routeCommit req src dest => Sys2Proof.Machine.execRouteCommit req src dest s
  | .routeLoad req src dest => Sys2Proof.Machine.execRouteLoad req src dest s
  | .nocTimeoutWrite req value => Sys2Proof.Machine.execNocTimeoutWrite req value s
  | .memcInit req c => Sys2Proof.Machine.execMemcInit req c s
  | .memcReady req c => Sys2Proof.Machine.execMemcReady req c s
  | .memcSrEnter req c => Sys2Proof.Machine.execMemcSrEnter req c s
  | .memcSrExit req c => Sys2Proof.Machine.execMemcSrExit req c s
  | .memcErase req c sub comp => Sys2Proof.Machine.execMemcErase req c sub comp s
  | .memcUnerase req c => Sys2Proof.Machine.execMemcUnerase req c s
  | .memcFail req c => Sys2Proof.Machine.execMemcFail req c s
  | .memcMrGo req c value => Sys2Proof.Machine.execMemcMrGo req c value s
  | .patrolScrub c laddr faults => Sys2Proof.Machine.execPatrolScrub c laddr faults s
  | .dramTempReport c celsius => Sys2Proof.Machine.execDramTempReport c celsius s
  | .memcMapWrite req value => Sys2Proof.Machine.execMemcMapWrite req value s
  | .memcBar2BaseWrite req value => Sys2Proof.Machine.execMemcBar2BaseWrite req value s
  | .bar2Access off write len status => Sys2Proof.Machine.execBar2Access off write len status s
  | .cfgLoad req src chain fallback => Sys2Proof.Machine.execCfgLoad req src chain fallback s
  | .cfgAbort req => Sys2Proof.Machine.execCfgAbort req s
  | .cfgHeader bytes status => Sys2Proof.Machine.execCfgHeader bytes status s
  | .chunkAuthenticate cipher tag status => Sys2Proof.Machine.execChunkAuthenticate cipher tag status s
  | .regionMap => Sys2Proof.Machine.execRegionMap s
  | .regionDesc => Sys2Proof.Machine.execRegionDesc s
  | .cellWords => Sys2Proof.Machine.execCellWords s
  | .routeWords => Sys2Proof.Machine.execRouteWords s
  | .mcellInit => Sys2Proof.Machine.execMcellInit s
  | .psqImem => Sys2Proof.Machine.execPsqImem s
  | .psqConfig => Sys2Proof.Machine.execPsqConfig s
  | .sliceSite => Sys2Proof.Machine.execSliceSite s
  | .initState => Sys2Proof.Machine.execInitState s
  | .frameEnd => Sys2Proof.Machine.execFrameEnd s
  | .signatureCheck bytes status => Sys2Proof.Machine.execSignatureCheck bytes status s
  | .cfgStallTimeout => Sys2Proof.Machine.execCfgStallTimeout s
  | .endOfChain bytes status => Sys2Proof.Machine.execEndOfChain bytes status s
  | .cfgChainWrite req value => Sys2Proof.Machine.execCfgChainWrite req value s
  | .portLoad chain len => Sys2Proof.Machine.execPortLoad chain len s
  | .readback addr count => Sys2Proof.Machine.execReadback addr count s
  | .portStatus => Sys2Proof.Machine.execPortStatus s
  | .portAbort => Sys2Proof.Machine.execPortAbort s
  | .powerUp kcvOk vbatLost sense a b => Sys2Proof.Machine.execPowerUp kcvOk vbatLost sense a b s
  | .pd00PowerLoss mboxBlow => Sys2Proof.Machine.execPd00PowerLoss mboxBlow s
  | .porNRelease sense => Sys2Proof.Machine.execPorNRelease sense s
  | .wrstNRelease => Sys2Proof.Machine.execWrstNRelease s
  | .bootWdtExpired => Sys2Proof.Machine.execBootWdtExpired s
  | .firmwareFailureReset code stage detail slotB => Sys2Proof.Machine.execFirmwareFailureReset code stage detail slotB s
  | .bootReady a b test => Sys2Proof.Machine.execBootReady a b test s
  | .quote req => Sys2Proof.Machine.execQuote req s
  | .readLog req => Sys2Proof.Machine.execReadLog req s
  | .readIdkey req => Sys2Proof.Machine.execReadIdkey req s
  | .bootHost req => Sys2Proof.Machine.execBootHost req s
  | .retry req => Sys2Proof.Machine.execRetry req s
  | .enrolOwner req => Sys2Proof.Machine.execEnrolOwner req s
  | .rotateOwner req => Sys2Proof.Machine.execRotateOwner req s
  | .provisionKey req arg => Sys2Proof.Machine.execProvisionKey req arg s
  | .revokeKey req arg => Sys2Proof.Machine.execRevokeKey req arg s
  | .lock req arg => Sys2Proof.Machine.execLock req arg s
  | .loadModule req => Sys2Proof.Machine.execLoadModule req s
  | .zeroize req => Sys2Proof.Machine.execZeroize req s
  | .secMboxComplete status wstatus blowOk => Sys2Proof.Machine.execSecMboxComplete status wstatus blowOk s
  | .tamper low => Sys2Proof.Machine.execTamper low s
  | .testModeEntry ir blowOk mboxBlow => Sys2Proof.Machine.execTestModeEntry ir blowOk mboxBlow s
  | .testModeExit trst ir => Sys2Proof.Machine.execTestModeExit trst ir s
  | .bypass => Sys2Proof.Machine.execBypass s
  | .idcode => Sys2Proof.Machine.execIdcode s
  | .sample pins => Sys2Proof.Machine.execSample pins s
  | .preload data => Sys2Proof.Machine.execPreload data s
  | .extest pins => Sys2Proof.Machine.execExtest pins s
  | .clamp => Sys2Proof.Machine.execClamp s
  | .highz => Sys2Proof.Machine.execHighz s
  | .extestPulse pins => Sys2Proof.Machine.execExtestPulse pins s
  | .extestTrain pins => Sys2Proof.Machine.execExtestTrain pins s
  | .cascadeLinkUp p => Sys2Proof.Machine.execCascadeLinkUp p s
  | .cascadeLinkDown p => Sys2Proof.Machine.execCascadeLinkDown p s
  | .align p body => Sys2Proof.Machine.execAlign p body s
  | .sync p body ta => Sys2Proof.Machine.execSync p body ta s
  | .echo p body n elapsed => Sys2Proof.Machine.execEcho p body n elapsed s
  | .pkt p seq bytes => Sys2Proof.Machine.execPkt p seq bytes s
  | .ack p body => Sys2Proof.Machine.execAck p body s
  | .nak p body => Sys2Proof.Machine.execNak p body s
  | .packetAckTimeout p => Sys2Proof.Machine.execPacketAckTimeout p s
  | .holdBlock p body => Sys2Proof.Machine.execHoldBlock p body s
  | .down p body => Sys2Proof.Machine.execDown p body s
  | .voteFieldReceived p field phase => Sys2Proof.Machine.execVoteFieldReceived p field phase s
  | .voteFieldLost p => Sys2Proof.Machine.execVoteFieldLost p s
  | .holdEffective => Sys2Proof.Machine.execHoldEffective s
  | .memRd status => Sys2Proof.Machine.execMemRd status s
  | .memWr status => Sys2Proof.Machine.execMemWr status s
  | .memCpl => Sys2Proof.Machine.execMemCpl s
  | .chain => Sys2Proof.Machine.execChain s
  | .hello => Sys2Proof.Machine.execHello s
  | .assign => Sys2Proof.Machine.execAssign s
  | .report => Sys2Proof.Machine.execReport s
  | .position => Sys2Proof.Machine.execPosition s
  | .tickset elapsed err => Sys2Proof.Machine.execTickset elapsed err s
  | .flight => Sys2Proof.Machine.execFlight s
  | .vgrp => Sys2Proof.Machine.execVgrp s
  | .fckset => Sys2Proof.Machine.execFckset s
  | .fckStopTickReached => Sys2Proof.Machine.execFckStopTickReached s
  | .regRd => Sys2Proof.Machine.execRegRd s
  | .regWr => Sys2Proof.Machine.execRegWr s
  | .regRsp => Sys2Proof.Machine.execRegRsp s
  | .helloTimer => Sys2Proof.Machine.execHelloTimer s
  | .poleElected => Sys2Proof.Machine.execPoleElected s
  | .formTimeout => Sys2Proof.Machine.execFormTimeout s
  | .alignTracking p => Sys2Proof.Machine.execAlignTracking p s
  | .form req => Sys2Proof.Machine.execForm req s
  | .leave req => Sys2Proof.Machine.execLeave req s
  | .recal req => Sys2Proof.Machine.execRecal req s
  | .remote req => Sys2Proof.Machine.execRemote req s
  | .remoteTimeout => Sys2Proof.Machine.execRemoteTimeout s
  | .cscVgrpWrite req g start value => Sys2Proof.Machine.execCscVgrpWrite req g start value s
  | .bistSliceStart cl j differs => Sys2Proof.Machine.execBistSliceStart cl j differs s
  | .bistSliceEnd cl logic chunk rows spares differs => Sys2Proof.Machine.execBistSliceEnd cl logic chunk rows spares differs s
  | .bistSliceAbort cl count sig => Sys2Proof.Machine.execBistSliceAbort cl count sig s
  | .nightfall req => Sys2Proof.Machine.execNightfall req s
  | .nightfallComplete tck xcl psl key ended => Sys2Proof.Machine.execNightfallComplete tck xcl psl key ended s
  | .blow req => Sys2Proof.Machine.execBlow req s
  | .void req index => Sys2Proof.Machine.execVoid req index s
  | .fuseBlowDone ok => Sys2Proof.Machine.execFuseBlowDone ok s
  | .errorReport code source detail => Sys2Proof.Machine.execErrorReport code source detail s
  | .loggerTakeEntry => Sys2Proof.Machine.execLoggerTakeEntry s
  | .summaryPeriod => Sys2Proof.Machine.execSummaryPeriod s
  | .errRoll req => Sys2Proof.Machine.execErrRoll req s
  | .errClear req => Sys2Proof.Machine.execErrClear req s
  | .dumpAck req => Sys2Proof.Machine.execDumpAck req s
  | .errRptrWrite req value => Sys2Proof.Machine.execErrRptrWrite req value s
  | .logMirror status => Sys2Proof.Machine.execLogMirror status s
  | .fatalReport code source detail => Sys2Proof.Machine.execFatalReport code source detail s
  | .dumpComplete slotStatus hostStatus => Sys2Proof.Machine.execDumpComplete slotStatus hostStatus s
  | .dumpAutoReset => Sys2Proof.Machine.execDumpAutoReset s
  | .perst => Sys2Proof.Machine.execPerst s
  | .hotReset => Sys2Proof.Machine.execHotReset s
  | .linkDown => Sys2Proof.Machine.execLinkDown s
  | .flr => Sys2Proof.Machine.execFlr s
  | .hifResetWrite req value => Sys2Proof.Machine.execHifResetWrite req value s
  | .cmqEnable req q value => Sys2Proof.Machine.execCmqEnable req q value s
  | .cmqDoorbell req q value => Sys2Proof.Machine.execCmqDoorbell req q value s
  | .cpqHeadWrite req q value => Sys2Proof.Machine.execCpqHeadWrite req q value s
  | .cmdStart q status => Sys2Proof.Machine.execCmdStart q status s
  | .cmdNop q => Sys2Proof.Machine.execCmdNop q s
  | .cmdRegWr q => Sys2Proof.Machine.execCmdRegWr q s
  | .cmdRegRd q => Sys2Proof.Machine.execCmdRegRd q s
  | .cmdCopy q status done => Sys2Proof.Machine.execCmdCopy q status done s
  | .cmdCfgLoad q => Sys2Proof.Machine.execCmdCfgLoad q s
  | .cmdSiteCmd q => Sys2Proof.Machine.execCmdSiteCmd q s
  | .cmdSlvCmd q status => Sys2Proof.Machine.execCmdSlvCmd q status s
  | .cmdComplete q cid status => Sys2Proof.Machine.execCmdComplete q cid status s
  | .elogEventWindow => Sys2Proof.Machine.execElogEventWindow s
  | .evqEnable req value => Sys2Proof.Machine.execEvqEnable req value s
  | .uploadEnable req j value => Sys2Proof.Machine.execUploadEnable req j value s
  | .uploadPacket j status irq => Sys2Proof.Machine.execUploadPacket j status irq s
  | .hotJoin bus pid bcr dcr desc addr => Sys2Proof.Machine.execHotJoin bus pid bcr dcr desc addr s
  | .partnerPoll fails => Sys2Proof.Machine.execPartnerPoll fails s
  | .auxI3cXfer req value => Sys2Proof.Machine.execAuxI3cXfer req value s
  | .i3cXferDone ok data => Sys2Proof.Machine.execI3cXferDone ok data s
  | .xspiRead req => Sys2Proof.Machine.execXspiRead req s
  | .xspiProgram req => Sys2Proof.Machine.execXspiProgram req s
  | .xspiErase4k req => Sys2Proof.Machine.execXspiErase4k req s
  | .xspiErase64k req => Sys2Proof.Machine.execXspiErase64k req s
  | .xspiCmdDone status flashFail => Sys2Proof.Machine.execXspiCmdDone status flashFail s
  | .pwrOn req d => Sys2Proof.Machine.execPwrOn req d s
  | .pwrOff req d => Sys2Proof.Machine.execPwrOff req d s
  | .domainSwitchDone => Sys2Proof.Machine.execDomainSwitchDone s
  | .pwrDomainTimeout => Sys2Proof.Machine.execPwrDomainTimeout s
  | .refLost => Sys2Proof.Machine.execRefLost s
  | .clkPllUnlock pll => Sys2Proof.Machine.execClkPllUnlock pll s
  | .pllRelock pll => Sys2Proof.Machine.execPllRelock pll s
  | .pwrRailFault rail => Sys2Proof.Machine.execPwrRailFault rail s
  | .pwrThermalWarn sensor temp => Sys2Proof.Machine.execPwrThermalWarn sensor temp s
  | .pwrThermalTrip sensor temp => Sys2Proof.Machine.execPwrThermalTrip sensor temp s
  | .thermtrip sensor temp => Sys2Proof.Machine.execThermtrip sensor temp s
  | .fckEdge => Sys2Proof.Machine.execFckEdge s
  | .regRead req off wide => Sys2Proof.Machine.execRegRead req off wide s
  | .rclkSyncTransfer slot => Sys2Proof.Machine.execRclkSyncTransfer slot s
  | .pcieLinkUp speed width msixOn busMaster => Sys2Proof.Machine.execPcieLinkUp speed width msixOn busMaster s
  | .aerUncorrectable status => Sys2Proof.Machine.execAerUncorrectable status s
  | .memcMrDone c data => Sys2Proof.Machine.execMemcMrDone c data s
  | .losRecovery sl onH onL => Sys2Proof.Machine.execLosRecovery sl onH onL s
  | .cfgCsNRaise => Sys2Proof.Machine.execCfgCsNRaise s
  | .thermalWarnRearm temps => Sys2Proof.Machine.execThermalWarnRearm temps s

end Sys2Proof.Machine
end

