-- ==== Sys2Proof/Laws/Maps.lean ====
section
/-! SUPPORT. The laws of the canonical maps: a read after a write at the same key gives the value written, a write leaves every other key alone, and
writing keeps the canonical form. -/

namespace Sys2Proof.Machine

variable {α : Type}

/-- Below every listed key a canonical map reads as an unlisted key does. -/
theorem mget_of_mabove (d : Nat → α) (k : Nat) : ∀ m : List (Nat × α), mabove k m = true → mget d k m = d k
  | [], _ => rfl
  | (j, _) :: m, h => by
    simp only [mabove, Bool.and_eq_true, decide_eq_true_eq] at h
    have hj : ¬ j = k := by omega
    simp [mget, hj, mget_of_mabove d k m h.2]

theorem mabove_trans {j k : Nat} (h : j ≤ k) : ∀ m : List (Nat × α), mabove k m = true → mabove j m = true
  | [], _ => rfl
  | (i, _) :: m, hm => by
    simp only [mabove, Bool.and_eq_true, decide_eq_true_eq] at hm ⊢
    exact ⟨by omega, mabove_trans h m hm.2⟩

variable [DecidableEq α]

theorem mabove_mset (d : Nat → α) {j k : Nat} (v : α) (h : j < k) :
    ∀ m : List (Nat × α), mabove j m = true → mabove j (mset d k v m) = true
  | [], _ => by by_cases hv : v = d k <;> simp [mset, hv, mabove, h]
  | (i, w) :: m, hm => by
    simp only [mabove, Bool.and_eq_true, decide_eq_true_eq] at hm
    unfold mset
    split
    · split
      · exact hm.2
      · simp [mabove, h, hm.2]
    · split
      · split <;> simp [mabove, h, hm.1, hm.2]
      · simp [mabove, hm.1, mabove_mset d v h m hm.2]

/-- A write leaves every other key alone. -/
theorem mget_mset_ne (d : Nat → α) {j k : Nat} (v : α) (h : j ≠ k) :
    ∀ m : List (Nat × α), mget d j (mset d k v m) = mget d j m
  | [] => by
    have : ¬ k = j := fun e => h e.symm
    by_cases hv : v = d k <;> simp [mset, hv, mget, this]
  | (i, w) :: m => by
    have hk : ¬ k = j := fun e => h e.symm
    unfold mset
    split
    · subst_vars
      split <;> simp [mget, hk]
    · split
      · split <;> simp [mget, hk]
      · by_cases hi : i = j
        · simp [mget, hi]
        · simp [mget, hi, mget_mset_ne d v h m]

/-- A read after a write of a canonical map gives the value written. -/
theorem mget_mset_same (d : Nat → α) (k : Nat) (v : α) :
    ∀ m : List (Nat × α), mwf d m = true → mget d k (mset d k v m) = v
  | [], _ => by by_cases hv : v = d k <;> simp [mset, hv, mget]
  | (i, w) :: m, hm => by
    simp only [mwf, Bool.and_eq_true, decide_eq_true_eq] at hm
    unfold mset
    split
    · subst_vars
      split
      · subst_vars; exact mget_of_mabove d _ m hm.1.1
      · simp [mget]
    · next hi =>
      split
      · next hlt =>
        split
        · subst_vars
          simp [mget, hi, mget_of_mabove d k m (mabove_trans (by omega) m hm.1.1)]
        · simp [mget]
      · simp [mget, hi, mget_mset_same d k v m hm.2]

/-- Writing keeps the canonical form. -/
theorem mwf_mset (d : Nat → α) (k : Nat) (v : α) : ∀ m : List (Nat × α), mwf d m = true → mwf d (mset d k v m) = true
  | [], _ => by by_cases hv : v = d k <;> simp [mset, hv, mwf, mabove]
  | (i, w) :: m, hm => by
    have hm' := hm
    simp only [mwf, Bool.and_eq_true, decide_eq_true_eq] at hm
    unfold mset
    split
    · subst_vars
      split
      · exact hm.2
      · next hv => simp [mwf, hm.1.1, hm.2, hv]
    · next hi =>
      split
      · next hlt =>
        split
        · exact hm'
        · next hv =>
          simp [mwf, mabove, hv, hlt, hm.1.1, hm.1.2, hm.2, mabove_trans (Nat.le_of_lt hlt) m hm.1.1]
      · next hlt =>
        simp [mwf, hm.1.2, mabove_mset d v (show i < k by omega) m hm.1.1, mwf_mset d k v m hm.2]

omit [DecidableEq α] in
theorem mabove_mkeep (p : Nat → Bool) (k : Nat) : ∀ m : List (Nat × α), mabove k m = true → mabove k (mkeep p m) = true
  | [], _ => rfl
  | (i, w) :: m, h => by
    simp only [mabove, Bool.and_eq_true, decide_eq_true_eq] at h
    unfold mkeep
    split
    · simp [mabove, h.1, mabove_mkeep p k m h.2]
    · exact mabove_mkeep p k m h.2

/-- Dropping keys keeps the canonical form. -/
theorem mwf_mkeep (d : Nat → α) (p : Nat → Bool) : ∀ m : List (Nat × α), mwf d m = true → mwf d (mkeep p m) = true
  | [], _ => rfl
  | (i, w) :: m, hm => by
    simp only [mwf, Bool.and_eq_true, decide_eq_true_eq] at hm
    unfold mkeep
    split
    · simp [mwf, mabove_mkeep p i m hm.1.1, hm.1.2, mwf_mkeep d p m hm.2]
    · exact mwf_mkeep d p m hm.2

omit [DecidableEq α] in
/-- Dropping keys leaves the keys kept alone, in any map. -/
theorem mget_mkeep (d : Nat → α) (p : Nat → Bool) {k : Nat} (h : p k = true) :
    ∀ m : List (Nat × α), mget d k (mkeep p m) = mget d k m
  | [] => rfl
  | (i, w) :: m => by
    unfold mkeep
    split
    · simp [mget, mget_mkeep d p h m]
    · next hp =>
      have : ¬ i = k := fun e => hp (e ▸ h)
      simp [mget, this, mget_mkeep d p h m]

end Sys2Proof.Machine
end

