-- ==== Sys2Proof/Laws/State.lean ====
section
/-! SUPPORT. What each named update of the state leaves unchanged: one lemma per update and field, true by unfolding. -/

namespace Sys2Proof.Machine

variable (s : State)

@[simp] theorem State.setReg_pending (off : Nat) (v : Wide) : (s.setReg off v).pending = s.pending := rfl
@[simp] theorem State.setReg_free (off : Nat) (v : Wide) : (s.setReg off v).free = s.free := rfl
@[simp] theorem State.setReg_f128 (off : Nat) (v : Wide) : (s.setReg off v).f128 = s.f128 := rfl
@[simp] theorem State.setReg_dev (off : Nat) (v : Wide) : (s.setReg off v).dev = s.dev := rfl
@[simp] theorem State.setReg_devFault (off : Nat) (v : Wide) : (s.setReg off v).devFault = s.devFault := rfl
@[simp] theorem State.setReg_tick (off : Nat) (v : Wide) : (s.setReg off v).tick = s.tick := rfl
@[simp] theorem State.setReg_fckOn (off : Nat) (v : Wide) : (s.setReg off v).fckOn = s.fckOn := rfl
@[simp] theorem State.setReg_fckStop (off : Nat) (v : Wide) : (s.setReg off v).fckStop = s.fckStop := rfl
@[simp] theorem State.setReg_fckSet (off : Nat) (v : Wide) : (s.setReg off v).fckSet = s.fckSet := rfl
@[simp] theorem State.setReg_fckNew (off : Nat) (v : Wide) : (s.setReg off v).fckNew = s.fckNew := rfl
@[simp] theorem State.setReg_latch (off : Nat) (v : Wide) : (s.setReg off v).latch = s.latch := rfl
@[simp] theorem State.setReg_mem (off : Nat) (v : Wide) : (s.setReg off v).mem = s.mem := rfl
@[simp] theorem State.setReg_hmem (off : Nat) (v : Wide) : (s.setReg off v).hmem = s.hmem := rfl
@[simp] theorem State.setReg_msix (off : Nat) (v : Wide) : (s.setReg off v).msix = s.msix := rfl
@[simp] theorem State.setReg_err (off : Nat) (v : Wide) : (s.setReg off v).err = s.err := rfl
@[simp] theorem State.setReg_fab (off : Nat) (v : Wide) : (s.setReg off v).fab = s.fab := rfl
@[simp] theorem State.setReg_psq (off : Nat) (v : Wide) : (s.setReg off v).psq = s.psq := rfl
@[simp] theorem State.setReg_slices (off : Nat) (v : Wide) : (s.setReg off v).slices = s.slices := rfl
@[simp] theorem State.setReg_pslLost (off : Nat) (v : Wide) : (s.setReg off v).pslLost = s.pslLost := rfl
@[simp] theorem State.setReg_sources (off : Nat) (v : Wide) : (s.setReg off v).sources = s.sources := rfl
@[simp] theorem State.setReg_queues (off : Nat) (v : Wide) : (s.setReg off v).queues = s.queues := rfl
@[simp] theorem State.setReg_streams (off : Nat) (v : Wide) : (s.setReg off v).streams = s.streams := rfl
@[simp] theorem State.setReg_xPkts (off : Nat) (v : Wide) : (s.setReg off v).xPkts = s.xPkts := rfl
@[simp] theorem State.setReg_slv (off : Nat) (v : Wide) : (s.setReg off v).slv = s.slv := rfl
@[simp] theorem State.setReg_csc (off : Nat) (v : Wide) : (s.setReg off v).csc = s.csc := rfl
@[simp] theorem State.setReg_bist (off : Nat) (v : Wide) : (s.setReg off v).bist = s.bist := rfl
@[simp] theorem State.setReg_sec (off : Nat) (v : Wide) : (s.setReg off v).sec = s.sec := rfl
@[simp] theorem State.setReg_dump (off : Nat) (v : Wide) : (s.setReg off v).dump = s.dump := rfl
@[simp] theorem State.setReg_noc (off : Nat) (v : Wide) : (s.setReg off v).noc = s.noc := rfl
@[simp] theorem State.setReg_cfg (off : Nat) (v : Wide) : (s.setReg off v).cfg = s.cfg := rfl
@[simp] theorem State.setReg_hif (off : Nat) (v : Wide) : (s.setReg off v).hif = s.hif := rfl
@[simp] theorem State.setReg_jtag (off : Nat) (v : Wide) : (s.setReg off v).jtag = s.jtag := rfl
@[simp] theorem State.setReg_aux (off : Nat) (v : Wide) : (s.setReg off v).aux = s.aux := rfl
@[simp] theorem State.setReg_pwr (off : Nat) (v : Wide) : (s.setReg off v).pwr = s.pwr := rfl
@[simp] theorem State.setReg_rdata (off : Nat) (v : Wide) : (s.setReg off v).rdata = s.rdata := rfl

@[simp] theorem State.setFld_pending (f : Fld) (x : Nat) : (s.setFld f x).pending = s.pending := rfl
@[simp] theorem State.setFld_free (f : Fld) (x : Nat) : (s.setFld f x).free = s.free := rfl
@[simp] theorem State.setFld_f128 (f : Fld) (x : Nat) : (s.setFld f x).f128 = s.f128 := rfl
@[simp] theorem State.setFld_dev (f : Fld) (x : Nat) : (s.setFld f x).dev = s.dev := rfl
@[simp] theorem State.setFld_devFault (f : Fld) (x : Nat) : (s.setFld f x).devFault = s.devFault := rfl
@[simp] theorem State.setFld_tick (f : Fld) (x : Nat) : (s.setFld f x).tick = s.tick := rfl
@[simp] theorem State.setFld_fckOn (f : Fld) (x : Nat) : (s.setFld f x).fckOn = s.fckOn := rfl
@[simp] theorem State.setFld_fckStop (f : Fld) (x : Nat) : (s.setFld f x).fckStop = s.fckStop := rfl
@[simp] theorem State.setFld_fckSet (f : Fld) (x : Nat) : (s.setFld f x).fckSet = s.fckSet := rfl
@[simp] theorem State.setFld_fckNew (f : Fld) (x : Nat) : (s.setFld f x).fckNew = s.fckNew := rfl
@[simp] theorem State.setFld_latch (f : Fld) (x : Nat) : (s.setFld f x).latch = s.latch := rfl
@[simp] theorem State.setFld_mem (f : Fld) (x : Nat) : (s.setFld f x).mem = s.mem := rfl
@[simp] theorem State.setFld_hmem (f : Fld) (x : Nat) : (s.setFld f x).hmem = s.hmem := rfl
@[simp] theorem State.setFld_msix (f : Fld) (x : Nat) : (s.setFld f x).msix = s.msix := rfl
@[simp] theorem State.setFld_err (f : Fld) (x : Nat) : (s.setFld f x).err = s.err := rfl
@[simp] theorem State.setFld_fab (f : Fld) (x : Nat) : (s.setFld f x).fab = s.fab := rfl
@[simp] theorem State.setFld_psq (f : Fld) (x : Nat) : (s.setFld f x).psq = s.psq := rfl
@[simp] theorem State.setFld_slices (f : Fld) (x : Nat) : (s.setFld f x).slices = s.slices := rfl
@[simp] theorem State.setFld_pslLost (f : Fld) (x : Nat) : (s.setFld f x).pslLost = s.pslLost := rfl
@[simp] theorem State.setFld_sources (f : Fld) (x : Nat) : (s.setFld f x).sources = s.sources := rfl
@[simp] theorem State.setFld_queues (f : Fld) (x : Nat) : (s.setFld f x).queues = s.queues := rfl
@[simp] theorem State.setFld_streams (f : Fld) (x : Nat) : (s.setFld f x).streams = s.streams := rfl
@[simp] theorem State.setFld_xPkts (f : Fld) (x : Nat) : (s.setFld f x).xPkts = s.xPkts := rfl
@[simp] theorem State.setFld_slv (f : Fld) (x : Nat) : (s.setFld f x).slv = s.slv := rfl
@[simp] theorem State.setFld_csc (f : Fld) (x : Nat) : (s.setFld f x).csc = s.csc := rfl
@[simp] theorem State.setFld_bist (f : Fld) (x : Nat) : (s.setFld f x).bist = s.bist := rfl
@[simp] theorem State.setFld_sec (f : Fld) (x : Nat) : (s.setFld f x).sec = s.sec := rfl
@[simp] theorem State.setFld_dump (f : Fld) (x : Nat) : (s.setFld f x).dump = s.dump := rfl
@[simp] theorem State.setFld_noc (f : Fld) (x : Nat) : (s.setFld f x).noc = s.noc := rfl
@[simp] theorem State.setFld_cfg (f : Fld) (x : Nat) : (s.setFld f x).cfg = s.cfg := rfl
@[simp] theorem State.setFld_hif (f : Fld) (x : Nat) : (s.setFld f x).hif = s.hif := rfl
@[simp] theorem State.setFld_jtag (f : Fld) (x : Nat) : (s.setFld f x).jtag = s.jtag := rfl
@[simp] theorem State.setFld_aux (f : Fld) (x : Nat) : (s.setFld f x).aux = s.aux := rfl
@[simp] theorem State.setFld_pwr (f : Fld) (x : Nat) : (s.setFld f x).pwr = s.pwr := rfl
@[simp] theorem State.setFld_rdata (f : Fld) (x : Nat) : (s.setFld f x).rdata = s.rdata := rfl

@[simp] theorem State.addSat_pending (f : Fld) (n : Nat) : (s.addSat f n).pending = s.pending := rfl
@[simp] theorem State.addSat_free (f : Fld) (n : Nat) : (s.addSat f n).free = s.free := rfl
@[simp] theorem State.addSat_f128 (f : Fld) (n : Nat) : (s.addSat f n).f128 = s.f128 := rfl
@[simp] theorem State.addSat_dev (f : Fld) (n : Nat) : (s.addSat f n).dev = s.dev := rfl
@[simp] theorem State.addSat_devFault (f : Fld) (n : Nat) : (s.addSat f n).devFault = s.devFault := rfl
@[simp] theorem State.addSat_tick (f : Fld) (n : Nat) : (s.addSat f n).tick = s.tick := rfl
@[simp] theorem State.addSat_fckOn (f : Fld) (n : Nat) : (s.addSat f n).fckOn = s.fckOn := rfl
@[simp] theorem State.addSat_fckStop (f : Fld) (n : Nat) : (s.addSat f n).fckStop = s.fckStop := rfl
@[simp] theorem State.addSat_fckSet (f : Fld) (n : Nat) : (s.addSat f n).fckSet = s.fckSet := rfl
@[simp] theorem State.addSat_fckNew (f : Fld) (n : Nat) : (s.addSat f n).fckNew = s.fckNew := rfl
@[simp] theorem State.addSat_latch (f : Fld) (n : Nat) : (s.addSat f n).latch = s.latch := rfl
@[simp] theorem State.addSat_mem (f : Fld) (n : Nat) : (s.addSat f n).mem = s.mem := rfl
@[simp] theorem State.addSat_hmem (f : Fld) (n : Nat) : (s.addSat f n).hmem = s.hmem := rfl
@[simp] theorem State.addSat_msix (f : Fld) (n : Nat) : (s.addSat f n).msix = s.msix := rfl
@[simp] theorem State.addSat_err (f : Fld) (n : Nat) : (s.addSat f n).err = s.err := rfl
@[simp] theorem State.addSat_fab (f : Fld) (n : Nat) : (s.addSat f n).fab = s.fab := rfl
@[simp] theorem State.addSat_psq (f : Fld) (n : Nat) : (s.addSat f n).psq = s.psq := rfl
@[simp] theorem State.addSat_slices (f : Fld) (n : Nat) : (s.addSat f n).slices = s.slices := rfl
@[simp] theorem State.addSat_pslLost (f : Fld) (n : Nat) : (s.addSat f n).pslLost = s.pslLost := rfl
@[simp] theorem State.addSat_sources (f : Fld) (n : Nat) : (s.addSat f n).sources = s.sources := rfl
@[simp] theorem State.addSat_queues (f : Fld) (n : Nat) : (s.addSat f n).queues = s.queues := rfl
@[simp] theorem State.addSat_streams (f : Fld) (n : Nat) : (s.addSat f n).streams = s.streams := rfl
@[simp] theorem State.addSat_xPkts (f : Fld) (n : Nat) : (s.addSat f n).xPkts = s.xPkts := rfl
@[simp] theorem State.addSat_slv (f : Fld) (n : Nat) : (s.addSat f n).slv = s.slv := rfl
@[simp] theorem State.addSat_csc (f : Fld) (n : Nat) : (s.addSat f n).csc = s.csc := rfl
@[simp] theorem State.addSat_bist (f : Fld) (n : Nat) : (s.addSat f n).bist = s.bist := rfl
@[simp] theorem State.addSat_sec (f : Fld) (n : Nat) : (s.addSat f n).sec = s.sec := rfl
@[simp] theorem State.addSat_dump (f : Fld) (n : Nat) : (s.addSat f n).dump = s.dump := rfl
@[simp] theorem State.addSat_noc (f : Fld) (n : Nat) : (s.addSat f n).noc = s.noc := rfl
@[simp] theorem State.addSat_cfg (f : Fld) (n : Nat) : (s.addSat f n).cfg = s.cfg := rfl
@[simp] theorem State.addSat_hif (f : Fld) (n : Nat) : (s.addSat f n).hif = s.hif := rfl
@[simp] theorem State.addSat_jtag (f : Fld) (n : Nat) : (s.addSat f n).jtag = s.jtag := rfl
@[simp] theorem State.addSat_aux (f : Fld) (n : Nat) : (s.addSat f n).aux = s.aux := rfl
@[simp] theorem State.addSat_pwr (f : Fld) (n : Nat) : (s.addSat f n).pwr = s.pwr := rfl
@[simp] theorem State.addSat_rdata (f : Fld) (n : Nat) : (s.addSat f n).rdata = s.rdata := rfl

@[simp] theorem State.tookFree_pending : (s.tookFree).pending = s.pending := rfl
@[simp] theorem State.tookFree_f128 : (s.tookFree).f128 = s.f128 := rfl
@[simp] theorem State.tookFree_dev : (s.tookFree).dev = s.dev := rfl
@[simp] theorem State.tookFree_devFault : (s.tookFree).devFault = s.devFault := rfl
@[simp] theorem State.tookFree_tick : (s.tookFree).tick = s.tick := rfl
@[simp] theorem State.tookFree_fckOn : (s.tookFree).fckOn = s.fckOn := rfl
@[simp] theorem State.tookFree_fckStop : (s.tookFree).fckStop = s.fckStop := rfl
@[simp] theorem State.tookFree_fckSet : (s.tookFree).fckSet = s.fckSet := rfl
@[simp] theorem State.tookFree_fckNew : (s.tookFree).fckNew = s.fckNew := rfl
@[simp] theorem State.tookFree_regs : (s.tookFree).regs = s.regs := rfl
@[simp] theorem State.tookFree_latch : (s.tookFree).latch = s.latch := rfl
@[simp] theorem State.tookFree_mem : (s.tookFree).mem = s.mem := rfl
@[simp] theorem State.tookFree_hmem : (s.tookFree).hmem = s.hmem := rfl
@[simp] theorem State.tookFree_msix : (s.tookFree).msix = s.msix := rfl
@[simp] theorem State.tookFree_err : (s.tookFree).err = s.err := rfl
@[simp] theorem State.tookFree_fab : (s.tookFree).fab = s.fab := rfl
@[simp] theorem State.tookFree_psq : (s.tookFree).psq = s.psq := rfl
@[simp] theorem State.tookFree_slices : (s.tookFree).slices = s.slices := rfl
@[simp] theorem State.tookFree_pslLost : (s.tookFree).pslLost = s.pslLost := rfl
@[simp] theorem State.tookFree_sources : (s.tookFree).sources = s.sources := rfl
@[simp] theorem State.tookFree_queues : (s.tookFree).queues = s.queues := rfl
@[simp] theorem State.tookFree_streams : (s.tookFree).streams = s.streams := rfl
@[simp] theorem State.tookFree_xPkts : (s.tookFree).xPkts = s.xPkts := rfl
@[simp] theorem State.tookFree_slv : (s.tookFree).slv = s.slv := rfl
@[simp] theorem State.tookFree_csc : (s.tookFree).csc = s.csc := rfl
@[simp] theorem State.tookFree_bist : (s.tookFree).bist = s.bist := rfl
@[simp] theorem State.tookFree_sec : (s.tookFree).sec = s.sec := rfl
@[simp] theorem State.tookFree_dump : (s.tookFree).dump = s.dump := rfl
@[simp] theorem State.tookFree_noc : (s.tookFree).noc = s.noc := rfl
@[simp] theorem State.tookFree_cfg : (s.tookFree).cfg = s.cfg := rfl
@[simp] theorem State.tookFree_hif : (s.tookFree).hif = s.hif := rfl
@[simp] theorem State.tookFree_jtag : (s.tookFree).jtag = s.jtag := rfl
@[simp] theorem State.tookFree_aux : (s.tookFree).aux = s.aux := rfl
@[simp] theorem State.tookFree_pwr : (s.tookFree).pwr = s.pwr := rfl
@[simp] theorem State.tookFree_rdata : (s.tookFree).rdata = s.rdata := rfl

@[simp] theorem State.setPsq_pending (n : Nat) (p : Psq) : (s.setPsq n p).pending = s.pending := rfl
@[simp] theorem State.setPsq_free (n : Nat) (p : Psq) : (s.setPsq n p).free = s.free := rfl
@[simp] theorem State.setPsq_f128 (n : Nat) (p : Psq) : (s.setPsq n p).f128 = s.f128 := rfl
@[simp] theorem State.setPsq_dev (n : Nat) (p : Psq) : (s.setPsq n p).dev = s.dev := rfl
@[simp] theorem State.setPsq_devFault (n : Nat) (p : Psq) : (s.setPsq n p).devFault = s.devFault := rfl
@[simp] theorem State.setPsq_tick (n : Nat) (p : Psq) : (s.setPsq n p).tick = s.tick := rfl
@[simp] theorem State.setPsq_fckOn (n : Nat) (p : Psq) : (s.setPsq n p).fckOn = s.fckOn := rfl
@[simp] theorem State.setPsq_fckStop (n : Nat) (p : Psq) : (s.setPsq n p).fckStop = s.fckStop := rfl
@[simp] theorem State.setPsq_fckSet (n : Nat) (p : Psq) : (s.setPsq n p).fckSet = s.fckSet := rfl
@[simp] theorem State.setPsq_fckNew (n : Nat) (p : Psq) : (s.setPsq n p).fckNew = s.fckNew := rfl
@[simp] theorem State.setPsq_regs (n : Nat) (p : Psq) : (s.setPsq n p).regs = s.regs := rfl
@[simp] theorem State.setPsq_latch (n : Nat) (p : Psq) : (s.setPsq n p).latch = s.latch := rfl
@[simp] theorem State.setPsq_mem (n : Nat) (p : Psq) : (s.setPsq n p).mem = s.mem := rfl
@[simp] theorem State.setPsq_hmem (n : Nat) (p : Psq) : (s.setPsq n p).hmem = s.hmem := rfl
@[simp] theorem State.setPsq_msix (n : Nat) (p : Psq) : (s.setPsq n p).msix = s.msix := rfl
@[simp] theorem State.setPsq_err (n : Nat) (p : Psq) : (s.setPsq n p).err = s.err := rfl
@[simp] theorem State.setPsq_fab (n : Nat) (p : Psq) : (s.setPsq n p).fab = s.fab := rfl
@[simp] theorem State.setPsq_slices (n : Nat) (p : Psq) : (s.setPsq n p).slices = s.slices := rfl
@[simp] theorem State.setPsq_pslLost (n : Nat) (p : Psq) : (s.setPsq n p).pslLost = s.pslLost := rfl
@[simp] theorem State.setPsq_sources (n : Nat) (p : Psq) : (s.setPsq n p).sources = s.sources := rfl
@[simp] theorem State.setPsq_queues (n : Nat) (p : Psq) : (s.setPsq n p).queues = s.queues := rfl
@[simp] theorem State.setPsq_streams (n : Nat) (p : Psq) : (s.setPsq n p).streams = s.streams := rfl
@[simp] theorem State.setPsq_xPkts (n : Nat) (p : Psq) : (s.setPsq n p).xPkts = s.xPkts := rfl
@[simp] theorem State.setPsq_slv (n : Nat) (p : Psq) : (s.setPsq n p).slv = s.slv := rfl
@[simp] theorem State.setPsq_csc (n : Nat) (p : Psq) : (s.setPsq n p).csc = s.csc := rfl
@[simp] theorem State.setPsq_bist (n : Nat) (p : Psq) : (s.setPsq n p).bist = s.bist := rfl
@[simp] theorem State.setPsq_sec (n : Nat) (p : Psq) : (s.setPsq n p).sec = s.sec := rfl
@[simp] theorem State.setPsq_dump (n : Nat) (p : Psq) : (s.setPsq n p).dump = s.dump := rfl
@[simp] theorem State.setPsq_noc (n : Nat) (p : Psq) : (s.setPsq n p).noc = s.noc := rfl
@[simp] theorem State.setPsq_cfg (n : Nat) (p : Psq) : (s.setPsq n p).cfg = s.cfg := rfl
@[simp] theorem State.setPsq_hif (n : Nat) (p : Psq) : (s.setPsq n p).hif = s.hif := rfl
@[simp] theorem State.setPsq_jtag (n : Nat) (p : Psq) : (s.setPsq n p).jtag = s.jtag := rfl
@[simp] theorem State.setPsq_aux (n : Nat) (p : Psq) : (s.setPsq n p).aux = s.aux := rfl
@[simp] theorem State.setPsq_pwr (n : Nat) (p : Psq) : (s.setPsq n p).pwr = s.pwr := rfl
@[simp] theorem State.setPsq_rdata (n : Nat) (p : Psq) : (s.setPsq n p).rdata = s.rdata := rfl

@[simp] theorem State.setSlice_pending (k : Nat) (x : Slice) : (s.setSlice k x).pending = s.pending := rfl
@[simp] theorem State.setSlice_free (k : Nat) (x : Slice) : (s.setSlice k x).free = s.free := rfl
@[simp] theorem State.setSlice_f128 (k : Nat) (x : Slice) : (s.setSlice k x).f128 = s.f128 := rfl
@[simp] theorem State.setSlice_dev (k : Nat) (x : Slice) : (s.setSlice k x).dev = s.dev := rfl
@[simp] theorem State.setSlice_devFault (k : Nat) (x : Slice) : (s.setSlice k x).devFault = s.devFault := rfl
@[simp] theorem State.setSlice_tick (k : Nat) (x : Slice) : (s.setSlice k x).tick = s.tick := rfl
@[simp] theorem State.setSlice_fckOn (k : Nat) (x : Slice) : (s.setSlice k x).fckOn = s.fckOn := rfl
@[simp] theorem State.setSlice_fckStop (k : Nat) (x : Slice) : (s.setSlice k x).fckStop = s.fckStop := rfl
@[simp] theorem State.setSlice_fckSet (k : Nat) (x : Slice) : (s.setSlice k x).fckSet = s.fckSet := rfl
@[simp] theorem State.setSlice_fckNew (k : Nat) (x : Slice) : (s.setSlice k x).fckNew = s.fckNew := rfl
@[simp] theorem State.setSlice_regs (k : Nat) (x : Slice) : (s.setSlice k x).regs = s.regs := rfl
@[simp] theorem State.setSlice_latch (k : Nat) (x : Slice) : (s.setSlice k x).latch = s.latch := rfl
@[simp] theorem State.setSlice_mem (k : Nat) (x : Slice) : (s.setSlice k x).mem = s.mem := rfl
@[simp] theorem State.setSlice_hmem (k : Nat) (x : Slice) : (s.setSlice k x).hmem = s.hmem := rfl
@[simp] theorem State.setSlice_msix (k : Nat) (x : Slice) : (s.setSlice k x).msix = s.msix := rfl
@[simp] theorem State.setSlice_err (k : Nat) (x : Slice) : (s.setSlice k x).err = s.err := rfl
@[simp] theorem State.setSlice_fab (k : Nat) (x : Slice) : (s.setSlice k x).fab = s.fab := rfl
@[simp] theorem State.setSlice_psq (k : Nat) (x : Slice) : (s.setSlice k x).psq = s.psq := rfl
@[simp] theorem State.setSlice_pslLost (k : Nat) (x : Slice) : (s.setSlice k x).pslLost = s.pslLost := rfl
@[simp] theorem State.setSlice_sources (k : Nat) (x : Slice) : (s.setSlice k x).sources = s.sources := rfl
@[simp] theorem State.setSlice_queues (k : Nat) (x : Slice) : (s.setSlice k x).queues = s.queues := rfl
@[simp] theorem State.setSlice_streams (k : Nat) (x : Slice) : (s.setSlice k x).streams = s.streams := rfl
@[simp] theorem State.setSlice_xPkts (k : Nat) (x : Slice) : (s.setSlice k x).xPkts = s.xPkts := rfl
@[simp] theorem State.setSlice_slv (k : Nat) (x : Slice) : (s.setSlice k x).slv = s.slv := rfl
@[simp] theorem State.setSlice_csc (k : Nat) (x : Slice) : (s.setSlice k x).csc = s.csc := rfl
@[simp] theorem State.setSlice_bist (k : Nat) (x : Slice) : (s.setSlice k x).bist = s.bist := rfl
@[simp] theorem State.setSlice_sec (k : Nat) (x : Slice) : (s.setSlice k x).sec = s.sec := rfl
@[simp] theorem State.setSlice_dump (k : Nat) (x : Slice) : (s.setSlice k x).dump = s.dump := rfl
@[simp] theorem State.setSlice_noc (k : Nat) (x : Slice) : (s.setSlice k x).noc = s.noc := rfl
@[simp] theorem State.setSlice_cfg (k : Nat) (x : Slice) : (s.setSlice k x).cfg = s.cfg := rfl
@[simp] theorem State.setSlice_hif (k : Nat) (x : Slice) : (s.setSlice k x).hif = s.hif := rfl
@[simp] theorem State.setSlice_jtag (k : Nat) (x : Slice) : (s.setSlice k x).jtag = s.jtag := rfl
@[simp] theorem State.setSlice_aux (k : Nat) (x : Slice) : (s.setSlice k x).aux = s.aux := rfl
@[simp] theorem State.setSlice_pwr (k : Nat) (x : Slice) : (s.setSlice k x).pwr = s.pwr := rfl
@[simp] theorem State.setSlice_rdata (k : Nat) (x : Slice) : (s.setSlice k x).rdata = s.rdata := rfl

@[simp] theorem State.setSource_pending (x : Nat) (v : Source) : (s.setSource x v).pending = s.pending := rfl
@[simp] theorem State.setSource_free (x : Nat) (v : Source) : (s.setSource x v).free = s.free := rfl
@[simp] theorem State.setSource_f128 (x : Nat) (v : Source) : (s.setSource x v).f128 = s.f128 := rfl
@[simp] theorem State.setSource_dev (x : Nat) (v : Source) : (s.setSource x v).dev = s.dev := rfl
@[simp] theorem State.setSource_devFault (x : Nat) (v : Source) : (s.setSource x v).devFault = s.devFault := rfl
@[simp] theorem State.setSource_tick (x : Nat) (v : Source) : (s.setSource x v).tick = s.tick := rfl
@[simp] theorem State.setSource_fckOn (x : Nat) (v : Source) : (s.setSource x v).fckOn = s.fckOn := rfl
@[simp] theorem State.setSource_fckStop (x : Nat) (v : Source) : (s.setSource x v).fckStop = s.fckStop := rfl
@[simp] theorem State.setSource_fckSet (x : Nat) (v : Source) : (s.setSource x v).fckSet = s.fckSet := rfl
@[simp] theorem State.setSource_fckNew (x : Nat) (v : Source) : (s.setSource x v).fckNew = s.fckNew := rfl
@[simp] theorem State.setSource_regs (x : Nat) (v : Source) : (s.setSource x v).regs = s.regs := rfl
@[simp] theorem State.setSource_latch (x : Nat) (v : Source) : (s.setSource x v).latch = s.latch := rfl
@[simp] theorem State.setSource_mem (x : Nat) (v : Source) : (s.setSource x v).mem = s.mem := rfl
@[simp] theorem State.setSource_hmem (x : Nat) (v : Source) : (s.setSource x v).hmem = s.hmem := rfl
@[simp] theorem State.setSource_msix (x : Nat) (v : Source) : (s.setSource x v).msix = s.msix := rfl
@[simp] theorem State.setSource_err (x : Nat) (v : Source) : (s.setSource x v).err = s.err := rfl
@[simp] theorem State.setSource_fab (x : Nat) (v : Source) : (s.setSource x v).fab = s.fab := rfl
@[simp] theorem State.setSource_psq (x : Nat) (v : Source) : (s.setSource x v).psq = s.psq := rfl
@[simp] theorem State.setSource_slices (x : Nat) (v : Source) : (s.setSource x v).slices = s.slices := rfl
@[simp] theorem State.setSource_pslLost (x : Nat) (v : Source) : (s.setSource x v).pslLost = s.pslLost := rfl
@[simp] theorem State.setSource_queues (x : Nat) (v : Source) : (s.setSource x v).queues = s.queues := rfl
@[simp] theorem State.setSource_streams (x : Nat) (v : Source) : (s.setSource x v).streams = s.streams := rfl
@[simp] theorem State.setSource_xPkts (x : Nat) (v : Source) : (s.setSource x v).xPkts = s.xPkts := rfl
@[simp] theorem State.setSource_slv (x : Nat) (v : Source) : (s.setSource x v).slv = s.slv := rfl
@[simp] theorem State.setSource_csc (x : Nat) (v : Source) : (s.setSource x v).csc = s.csc := rfl
@[simp] theorem State.setSource_bist (x : Nat) (v : Source) : (s.setSource x v).bist = s.bist := rfl
@[simp] theorem State.setSource_sec (x : Nat) (v : Source) : (s.setSource x v).sec = s.sec := rfl
@[simp] theorem State.setSource_dump (x : Nat) (v : Source) : (s.setSource x v).dump = s.dump := rfl
@[simp] theorem State.setSource_noc (x : Nat) (v : Source) : (s.setSource x v).noc = s.noc := rfl
@[simp] theorem State.setSource_cfg (x : Nat) (v : Source) : (s.setSource x v).cfg = s.cfg := rfl
@[simp] theorem State.setSource_hif (x : Nat) (v : Source) : (s.setSource x v).hif = s.hif := rfl
@[simp] theorem State.setSource_jtag (x : Nat) (v : Source) : (s.setSource x v).jtag = s.jtag := rfl
@[simp] theorem State.setSource_aux (x : Nat) (v : Source) : (s.setSource x v).aux = s.aux := rfl
@[simp] theorem State.setSource_pwr (x : Nat) (v : Source) : (s.setSource x v).pwr = s.pwr := rfl
@[simp] theorem State.setSource_rdata (x : Nat) (v : Source) : (s.setSource x v).rdata = s.rdata := rfl

@[simp] theorem State.setQueue_pending (k : Nat) (q : CapQueue) : (s.setQueue k q).pending = s.pending := rfl
@[simp] theorem State.setQueue_free (k : Nat) (q : CapQueue) : (s.setQueue k q).free = s.free := rfl
@[simp] theorem State.setQueue_f128 (k : Nat) (q : CapQueue) : (s.setQueue k q).f128 = s.f128 := rfl
@[simp] theorem State.setQueue_dev (k : Nat) (q : CapQueue) : (s.setQueue k q).dev = s.dev := rfl
@[simp] theorem State.setQueue_devFault (k : Nat) (q : CapQueue) : (s.setQueue k q).devFault = s.devFault := rfl
@[simp] theorem State.setQueue_tick (k : Nat) (q : CapQueue) : (s.setQueue k q).tick = s.tick := rfl
@[simp] theorem State.setQueue_fckOn (k : Nat) (q : CapQueue) : (s.setQueue k q).fckOn = s.fckOn := rfl
@[simp] theorem State.setQueue_fckStop (k : Nat) (q : CapQueue) : (s.setQueue k q).fckStop = s.fckStop := rfl
@[simp] theorem State.setQueue_fckSet (k : Nat) (q : CapQueue) : (s.setQueue k q).fckSet = s.fckSet := rfl
@[simp] theorem State.setQueue_fckNew (k : Nat) (q : CapQueue) : (s.setQueue k q).fckNew = s.fckNew := rfl
@[simp] theorem State.setQueue_regs (k : Nat) (q : CapQueue) : (s.setQueue k q).regs = s.regs := rfl
@[simp] theorem State.setQueue_latch (k : Nat) (q : CapQueue) : (s.setQueue k q).latch = s.latch := rfl
@[simp] theorem State.setQueue_mem (k : Nat) (q : CapQueue) : (s.setQueue k q).mem = s.mem := rfl
@[simp] theorem State.setQueue_hmem (k : Nat) (q : CapQueue) : (s.setQueue k q).hmem = s.hmem := rfl
@[simp] theorem State.setQueue_msix (k : Nat) (q : CapQueue) : (s.setQueue k q).msix = s.msix := rfl
@[simp] theorem State.setQueue_err (k : Nat) (q : CapQueue) : (s.setQueue k q).err = s.err := rfl
@[simp] theorem State.setQueue_fab (k : Nat) (q : CapQueue) : (s.setQueue k q).fab = s.fab := rfl
@[simp] theorem State.setQueue_psq (k : Nat) (q : CapQueue) : (s.setQueue k q).psq = s.psq := rfl
@[simp] theorem State.setQueue_slices (k : Nat) (q : CapQueue) : (s.setQueue k q).slices = s.slices := rfl
@[simp] theorem State.setQueue_pslLost (k : Nat) (q : CapQueue) : (s.setQueue k q).pslLost = s.pslLost := rfl
@[simp] theorem State.setQueue_sources (k : Nat) (q : CapQueue) : (s.setQueue k q).sources = s.sources := rfl
@[simp] theorem State.setQueue_streams (k : Nat) (q : CapQueue) : (s.setQueue k q).streams = s.streams := rfl
@[simp] theorem State.setQueue_xPkts (k : Nat) (q : CapQueue) : (s.setQueue k q).xPkts = s.xPkts := rfl
@[simp] theorem State.setQueue_slv (k : Nat) (q : CapQueue) : (s.setQueue k q).slv = s.slv := rfl
@[simp] theorem State.setQueue_csc (k : Nat) (q : CapQueue) : (s.setQueue k q).csc = s.csc := rfl
@[simp] theorem State.setQueue_bist (k : Nat) (q : CapQueue) : (s.setQueue k q).bist = s.bist := rfl
@[simp] theorem State.setQueue_sec (k : Nat) (q : CapQueue) : (s.setQueue k q).sec = s.sec := rfl
@[simp] theorem State.setQueue_dump (k : Nat) (q : CapQueue) : (s.setQueue k q).dump = s.dump := rfl
@[simp] theorem State.setQueue_noc (k : Nat) (q : CapQueue) : (s.setQueue k q).noc = s.noc := rfl
@[simp] theorem State.setQueue_cfg (k : Nat) (q : CapQueue) : (s.setQueue k q).cfg = s.cfg := rfl
@[simp] theorem State.setQueue_hif (k : Nat) (q : CapQueue) : (s.setQueue k q).hif = s.hif := rfl
@[simp] theorem State.setQueue_jtag (k : Nat) (q : CapQueue) : (s.setQueue k q).jtag = s.jtag := rfl
@[simp] theorem State.setQueue_aux (k : Nat) (q : CapQueue) : (s.setQueue k q).aux = s.aux := rfl
@[simp] theorem State.setQueue_pwr (k : Nat) (q : CapQueue) : (s.setQueue k q).pwr = s.pwr := rfl
@[simp] theorem State.setQueue_rdata (k : Nat) (q : CapQueue) : (s.setQueue k q).rdata = s.rdata := rfl

@[simp] theorem State.setStream_pending (j : Nat) (q : StreamQueue) : (s.setStream j q).pending = s.pending := rfl
@[simp] theorem State.setStream_free (j : Nat) (q : StreamQueue) : (s.setStream j q).free = s.free := rfl
@[simp] theorem State.setStream_f128 (j : Nat) (q : StreamQueue) : (s.setStream j q).f128 = s.f128 := rfl
@[simp] theorem State.setStream_dev (j : Nat) (q : StreamQueue) : (s.setStream j q).dev = s.dev := rfl
@[simp] theorem State.setStream_devFault (j : Nat) (q : StreamQueue) : (s.setStream j q).devFault = s.devFault := rfl
@[simp] theorem State.setStream_tick (j : Nat) (q : StreamQueue) : (s.setStream j q).tick = s.tick := rfl
@[simp] theorem State.setStream_fckOn (j : Nat) (q : StreamQueue) : (s.setStream j q).fckOn = s.fckOn := rfl
@[simp] theorem State.setStream_fckStop (j : Nat) (q : StreamQueue) : (s.setStream j q).fckStop = s.fckStop := rfl
@[simp] theorem State.setStream_fckSet (j : Nat) (q : StreamQueue) : (s.setStream j q).fckSet = s.fckSet := rfl
@[simp] theorem State.setStream_fckNew (j : Nat) (q : StreamQueue) : (s.setStream j q).fckNew = s.fckNew := rfl
@[simp] theorem State.setStream_regs (j : Nat) (q : StreamQueue) : (s.setStream j q).regs = s.regs := rfl
@[simp] theorem State.setStream_latch (j : Nat) (q : StreamQueue) : (s.setStream j q).latch = s.latch := rfl
@[simp] theorem State.setStream_mem (j : Nat) (q : StreamQueue) : (s.setStream j q).mem = s.mem := rfl
@[simp] theorem State.setStream_hmem (j : Nat) (q : StreamQueue) : (s.setStream j q).hmem = s.hmem := rfl
@[simp] theorem State.setStream_msix (j : Nat) (q : StreamQueue) : (s.setStream j q).msix = s.msix := rfl
@[simp] theorem State.setStream_err (j : Nat) (q : StreamQueue) : (s.setStream j q).err = s.err := rfl
@[simp] theorem State.setStream_fab (j : Nat) (q : StreamQueue) : (s.setStream j q).fab = s.fab := rfl
@[simp] theorem State.setStream_psq (j : Nat) (q : StreamQueue) : (s.setStream j q).psq = s.psq := rfl
@[simp] theorem State.setStream_slices (j : Nat) (q : StreamQueue) : (s.setStream j q).slices = s.slices := rfl
@[simp] theorem State.setStream_pslLost (j : Nat) (q : StreamQueue) : (s.setStream j q).pslLost = s.pslLost := rfl
@[simp] theorem State.setStream_sources (j : Nat) (q : StreamQueue) : (s.setStream j q).sources = s.sources := rfl
@[simp] theorem State.setStream_queues (j : Nat) (q : StreamQueue) : (s.setStream j q).queues = s.queues := rfl
@[simp] theorem State.setStream_xPkts (j : Nat) (q : StreamQueue) : (s.setStream j q).xPkts = s.xPkts := rfl
@[simp] theorem State.setStream_slv (j : Nat) (q : StreamQueue) : (s.setStream j q).slv = s.slv := rfl
@[simp] theorem State.setStream_csc (j : Nat) (q : StreamQueue) : (s.setStream j q).csc = s.csc := rfl
@[simp] theorem State.setStream_bist (j : Nat) (q : StreamQueue) : (s.setStream j q).bist = s.bist := rfl
@[simp] theorem State.setStream_sec (j : Nat) (q : StreamQueue) : (s.setStream j q).sec = s.sec := rfl
@[simp] theorem State.setStream_dump (j : Nat) (q : StreamQueue) : (s.setStream j q).dump = s.dump := rfl
@[simp] theorem State.setStream_noc (j : Nat) (q : StreamQueue) : (s.setStream j q).noc = s.noc := rfl
@[simp] theorem State.setStream_cfg (j : Nat) (q : StreamQueue) : (s.setStream j q).cfg = s.cfg := rfl
@[simp] theorem State.setStream_hif (j : Nat) (q : StreamQueue) : (s.setStream j q).hif = s.hif := rfl
@[simp] theorem State.setStream_jtag (j : Nat) (q : StreamQueue) : (s.setStream j q).jtag = s.jtag := rfl
@[simp] theorem State.setStream_aux (j : Nat) (q : StreamQueue) : (s.setStream j q).aux = s.aux := rfl
@[simp] theorem State.setStream_pwr (j : Nat) (q : StreamQueue) : (s.setStream j q).pwr = s.pwr := rfl
@[simp] theorem State.setStream_rdata (j : Nat) (q : StreamQueue) : (s.setStream j q).rdata = s.rdata := rfl

@[simp] theorem State.setXPkt_pending (x : Nat) (l : List CapPkt) : (s.setXPkt x l).pending = s.pending := rfl
@[simp] theorem State.setXPkt_free (x : Nat) (l : List CapPkt) : (s.setXPkt x l).free = s.free := rfl
@[simp] theorem State.setXPkt_f128 (x : Nat) (l : List CapPkt) : (s.setXPkt x l).f128 = s.f128 := rfl
@[simp] theorem State.setXPkt_dev (x : Nat) (l : List CapPkt) : (s.setXPkt x l).dev = s.dev := rfl
@[simp] theorem State.setXPkt_devFault (x : Nat) (l : List CapPkt) : (s.setXPkt x l).devFault = s.devFault := rfl
@[simp] theorem State.setXPkt_tick (x : Nat) (l : List CapPkt) : (s.setXPkt x l).tick = s.tick := rfl
@[simp] theorem State.setXPkt_fckOn (x : Nat) (l : List CapPkt) : (s.setXPkt x l).fckOn = s.fckOn := rfl
@[simp] theorem State.setXPkt_fckStop (x : Nat) (l : List CapPkt) : (s.setXPkt x l).fckStop = s.fckStop := rfl
@[simp] theorem State.setXPkt_fckSet (x : Nat) (l : List CapPkt) : (s.setXPkt x l).fckSet = s.fckSet := rfl
@[simp] theorem State.setXPkt_fckNew (x : Nat) (l : List CapPkt) : (s.setXPkt x l).fckNew = s.fckNew := rfl
@[simp] theorem State.setXPkt_regs (x : Nat) (l : List CapPkt) : (s.setXPkt x l).regs = s.regs := rfl
@[simp] theorem State.setXPkt_latch (x : Nat) (l : List CapPkt) : (s.setXPkt x l).latch = s.latch := rfl
@[simp] theorem State.setXPkt_mem (x : Nat) (l : List CapPkt) : (s.setXPkt x l).mem = s.mem := rfl
@[simp] theorem State.setXPkt_hmem (x : Nat) (l : List CapPkt) : (s.setXPkt x l).hmem = s.hmem := rfl
@[simp] theorem State.setXPkt_msix (x : Nat) (l : List CapPkt) : (s.setXPkt x l).msix = s.msix := rfl
@[simp] theorem State.setXPkt_err (x : Nat) (l : List CapPkt) : (s.setXPkt x l).err = s.err := rfl
@[simp] theorem State.setXPkt_fab (x : Nat) (l : List CapPkt) : (s.setXPkt x l).fab = s.fab := rfl
@[simp] theorem State.setXPkt_psq (x : Nat) (l : List CapPkt) : (s.setXPkt x l).psq = s.psq := rfl
@[simp] theorem State.setXPkt_slices (x : Nat) (l : List CapPkt) : (s.setXPkt x l).slices = s.slices := rfl
@[simp] theorem State.setXPkt_pslLost (x : Nat) (l : List CapPkt) : (s.setXPkt x l).pslLost = s.pslLost := rfl
@[simp] theorem State.setXPkt_sources (x : Nat) (l : List CapPkt) : (s.setXPkt x l).sources = s.sources := rfl
@[simp] theorem State.setXPkt_queues (x : Nat) (l : List CapPkt) : (s.setXPkt x l).queues = s.queues := rfl
@[simp] theorem State.setXPkt_streams (x : Nat) (l : List CapPkt) : (s.setXPkt x l).streams = s.streams := rfl
@[simp] theorem State.setXPkt_slv (x : Nat) (l : List CapPkt) : (s.setXPkt x l).slv = s.slv := rfl
@[simp] theorem State.setXPkt_csc (x : Nat) (l : List CapPkt) : (s.setXPkt x l).csc = s.csc := rfl
@[simp] theorem State.setXPkt_bist (x : Nat) (l : List CapPkt) : (s.setXPkt x l).bist = s.bist := rfl
@[simp] theorem State.setXPkt_sec (x : Nat) (l : List CapPkt) : (s.setXPkt x l).sec = s.sec := rfl
@[simp] theorem State.setXPkt_dump (x : Nat) (l : List CapPkt) : (s.setXPkt x l).dump = s.dump := rfl
@[simp] theorem State.setXPkt_noc (x : Nat) (l : List CapPkt) : (s.setXPkt x l).noc = s.noc := rfl
@[simp] theorem State.setXPkt_cfg (x : Nat) (l : List CapPkt) : (s.setXPkt x l).cfg = s.cfg := rfl
@[simp] theorem State.setXPkt_hif (x : Nat) (l : List CapPkt) : (s.setXPkt x l).hif = s.hif := rfl
@[simp] theorem State.setXPkt_jtag (x : Nat) (l : List CapPkt) : (s.setXPkt x l).jtag = s.jtag := rfl
@[simp] theorem State.setXPkt_aux (x : Nat) (l : List CapPkt) : (s.setXPkt x l).aux = s.aux := rfl
@[simp] theorem State.setXPkt_pwr (x : Nat) (l : List CapPkt) : (s.setXPkt x l).pwr = s.pwr := rfl
@[simp] theorem State.setXPkt_rdata (x : Nat) (l : List CapPkt) : (s.setXPkt x l).rdata = s.rdata := rfl

@[simp] theorem State.setCell_pending (k : Nat) (c : CellRegs) : (s.setCell k c).pending = s.pending := rfl
@[simp] theorem State.setCell_free (k : Nat) (c : CellRegs) : (s.setCell k c).free = s.free := rfl
@[simp] theorem State.setCell_f128 (k : Nat) (c : CellRegs) : (s.setCell k c).f128 = s.f128 := rfl
@[simp] theorem State.setCell_dev (k : Nat) (c : CellRegs) : (s.setCell k c).dev = s.dev := rfl
@[simp] theorem State.setCell_devFault (k : Nat) (c : CellRegs) : (s.setCell k c).devFault = s.devFault := rfl
@[simp] theorem State.setCell_tick (k : Nat) (c : CellRegs) : (s.setCell k c).tick = s.tick := rfl
@[simp] theorem State.setCell_fckOn (k : Nat) (c : CellRegs) : (s.setCell k c).fckOn = s.fckOn := rfl
@[simp] theorem State.setCell_fckStop (k : Nat) (c : CellRegs) : (s.setCell k c).fckStop = s.fckStop := rfl
@[simp] theorem State.setCell_fckSet (k : Nat) (c : CellRegs) : (s.setCell k c).fckSet = s.fckSet := rfl
@[simp] theorem State.setCell_fckNew (k : Nat) (c : CellRegs) : (s.setCell k c).fckNew = s.fckNew := rfl
@[simp] theorem State.setCell_regs (k : Nat) (c : CellRegs) : (s.setCell k c).regs = s.regs := rfl
@[simp] theorem State.setCell_latch (k : Nat) (c : CellRegs) : (s.setCell k c).latch = s.latch := rfl
@[simp] theorem State.setCell_mem (k : Nat) (c : CellRegs) : (s.setCell k c).mem = s.mem := rfl
@[simp] theorem State.setCell_hmem (k : Nat) (c : CellRegs) : (s.setCell k c).hmem = s.hmem := rfl
@[simp] theorem State.setCell_msix (k : Nat) (c : CellRegs) : (s.setCell k c).msix = s.msix := rfl
@[simp] theorem State.setCell_err (k : Nat) (c : CellRegs) : (s.setCell k c).err = s.err := rfl
@[simp] theorem State.setCell_psq (k : Nat) (c : CellRegs) : (s.setCell k c).psq = s.psq := rfl
@[simp] theorem State.setCell_slices (k : Nat) (c : CellRegs) : (s.setCell k c).slices = s.slices := rfl
@[simp] theorem State.setCell_pslLost (k : Nat) (c : CellRegs) : (s.setCell k c).pslLost = s.pslLost := rfl
@[simp] theorem State.setCell_sources (k : Nat) (c : CellRegs) : (s.setCell k c).sources = s.sources := rfl
@[simp] theorem State.setCell_queues (k : Nat) (c : CellRegs) : (s.setCell k c).queues = s.queues := rfl
@[simp] theorem State.setCell_streams (k : Nat) (c : CellRegs) : (s.setCell k c).streams = s.streams := rfl
@[simp] theorem State.setCell_xPkts (k : Nat) (c : CellRegs) : (s.setCell k c).xPkts = s.xPkts := rfl
@[simp] theorem State.setCell_slv (k : Nat) (c : CellRegs) : (s.setCell k c).slv = s.slv := rfl
@[simp] theorem State.setCell_csc (k : Nat) (c : CellRegs) : (s.setCell k c).csc = s.csc := rfl
@[simp] theorem State.setCell_bist (k : Nat) (c : CellRegs) : (s.setCell k c).bist = s.bist := rfl
@[simp] theorem State.setCell_sec (k : Nat) (c : CellRegs) : (s.setCell k c).sec = s.sec := rfl
@[simp] theorem State.setCell_dump (k : Nat) (c : CellRegs) : (s.setCell k c).dump = s.dump := rfl
@[simp] theorem State.setCell_noc (k : Nat) (c : CellRegs) : (s.setCell k c).noc = s.noc := rfl
@[simp] theorem State.setCell_cfg (k : Nat) (c : CellRegs) : (s.setCell k c).cfg = s.cfg := rfl
@[simp] theorem State.setCell_hif (k : Nat) (c : CellRegs) : (s.setCell k c).hif = s.hif := rfl
@[simp] theorem State.setCell_jtag (k : Nat) (c : CellRegs) : (s.setCell k c).jtag = s.jtag := rfl
@[simp] theorem State.setCell_aux (k : Nat) (c : CellRegs) : (s.setCell k c).aux = s.aux := rfl
@[simp] theorem State.setCell_pwr (k : Nat) (c : CellRegs) : (s.setCell k c).pwr = s.pwr := rfl
@[simp] theorem State.setCell_rdata (k : Nat) (c : CellRegs) : (s.setCell k c).rdata = s.rdata := rfl

@[simp] theorem State.setNxt_pending (k : Nat) (c : CellRegs) : (s.setNxt k c).pending = s.pending := rfl
@[simp] theorem State.setNxt_free (k : Nat) (c : CellRegs) : (s.setNxt k c).free = s.free := rfl
@[simp] theorem State.setNxt_f128 (k : Nat) (c : CellRegs) : (s.setNxt k c).f128 = s.f128 := rfl
@[simp] theorem State.setNxt_dev (k : Nat) (c : CellRegs) : (s.setNxt k c).dev = s.dev := rfl
@[simp] theorem State.setNxt_devFault (k : Nat) (c : CellRegs) : (s.setNxt k c).devFault = s.devFault := rfl
@[simp] theorem State.setNxt_tick (k : Nat) (c : CellRegs) : (s.setNxt k c).tick = s.tick := rfl
@[simp] theorem State.setNxt_fckOn (k : Nat) (c : CellRegs) : (s.setNxt k c).fckOn = s.fckOn := rfl
@[simp] theorem State.setNxt_fckStop (k : Nat) (c : CellRegs) : (s.setNxt k c).fckStop = s.fckStop := rfl
@[simp] theorem State.setNxt_fckSet (k : Nat) (c : CellRegs) : (s.setNxt k c).fckSet = s.fckSet := rfl
@[simp] theorem State.setNxt_fckNew (k : Nat) (c : CellRegs) : (s.setNxt k c).fckNew = s.fckNew := rfl
@[simp] theorem State.setNxt_regs (k : Nat) (c : CellRegs) : (s.setNxt k c).regs = s.regs := rfl
@[simp] theorem State.setNxt_latch (k : Nat) (c : CellRegs) : (s.setNxt k c).latch = s.latch := rfl
@[simp] theorem State.setNxt_mem (k : Nat) (c : CellRegs) : (s.setNxt k c).mem = s.mem := rfl
@[simp] theorem State.setNxt_hmem (k : Nat) (c : CellRegs) : (s.setNxt k c).hmem = s.hmem := rfl
@[simp] theorem State.setNxt_msix (k : Nat) (c : CellRegs) : (s.setNxt k c).msix = s.msix := rfl
@[simp] theorem State.setNxt_err (k : Nat) (c : CellRegs) : (s.setNxt k c).err = s.err := rfl
@[simp] theorem State.setNxt_psq (k : Nat) (c : CellRegs) : (s.setNxt k c).psq = s.psq := rfl
@[simp] theorem State.setNxt_slices (k : Nat) (c : CellRegs) : (s.setNxt k c).slices = s.slices := rfl
@[simp] theorem State.setNxt_pslLost (k : Nat) (c : CellRegs) : (s.setNxt k c).pslLost = s.pslLost := rfl
@[simp] theorem State.setNxt_sources (k : Nat) (c : CellRegs) : (s.setNxt k c).sources = s.sources := rfl
@[simp] theorem State.setNxt_queues (k : Nat) (c : CellRegs) : (s.setNxt k c).queues = s.queues := rfl
@[simp] theorem State.setNxt_streams (k : Nat) (c : CellRegs) : (s.setNxt k c).streams = s.streams := rfl
@[simp] theorem State.setNxt_xPkts (k : Nat) (c : CellRegs) : (s.setNxt k c).xPkts = s.xPkts := rfl
@[simp] theorem State.setNxt_slv (k : Nat) (c : CellRegs) : (s.setNxt k c).slv = s.slv := rfl
@[simp] theorem State.setNxt_csc (k : Nat) (c : CellRegs) : (s.setNxt k c).csc = s.csc := rfl
@[simp] theorem State.setNxt_bist (k : Nat) (c : CellRegs) : (s.setNxt k c).bist = s.bist := rfl
@[simp] theorem State.setNxt_sec (k : Nat) (c : CellRegs) : (s.setNxt k c).sec = s.sec := rfl
@[simp] theorem State.setNxt_dump (k : Nat) (c : CellRegs) : (s.setNxt k c).dump = s.dump := rfl
@[simp] theorem State.setNxt_noc (k : Nat) (c : CellRegs) : (s.setNxt k c).noc = s.noc := rfl
@[simp] theorem State.setNxt_cfg (k : Nat) (c : CellRegs) : (s.setNxt k c).cfg = s.cfg := rfl
@[simp] theorem State.setNxt_hif (k : Nat) (c : CellRegs) : (s.setNxt k c).hif = s.hif := rfl
@[simp] theorem State.setNxt_jtag (k : Nat) (c : CellRegs) : (s.setNxt k c).jtag = s.jtag := rfl
@[simp] theorem State.setNxt_aux (k : Nat) (c : CellRegs) : (s.setNxt k c).aux = s.aux := rfl
@[simp] theorem State.setNxt_pwr (k : Nat) (c : CellRegs) : (s.setNxt k c).pwr = s.pwr := rfl
@[simp] theorem State.setNxt_rdata (k : Nat) (c : CellRegs) : (s.setNxt k c).rdata = s.rdata := rfl

@[simp] theorem State.setCtx_pending (k : Nat) (c : CtxRegs) : (s.setCtx k c).pending = s.pending := rfl
@[simp] theorem State.setCtx_free (k : Nat) (c : CtxRegs) : (s.setCtx k c).free = s.free := rfl
@[simp] theorem State.setCtx_f128 (k : Nat) (c : CtxRegs) : (s.setCtx k c).f128 = s.f128 := rfl
@[simp] theorem State.setCtx_dev (k : Nat) (c : CtxRegs) : (s.setCtx k c).dev = s.dev := rfl
@[simp] theorem State.setCtx_devFault (k : Nat) (c : CtxRegs) : (s.setCtx k c).devFault = s.devFault := rfl
@[simp] theorem State.setCtx_tick (k : Nat) (c : CtxRegs) : (s.setCtx k c).tick = s.tick := rfl
@[simp] theorem State.setCtx_fckOn (k : Nat) (c : CtxRegs) : (s.setCtx k c).fckOn = s.fckOn := rfl
@[simp] theorem State.setCtx_fckStop (k : Nat) (c : CtxRegs) : (s.setCtx k c).fckStop = s.fckStop := rfl
@[simp] theorem State.setCtx_fckSet (k : Nat) (c : CtxRegs) : (s.setCtx k c).fckSet = s.fckSet := rfl
@[simp] theorem State.setCtx_fckNew (k : Nat) (c : CtxRegs) : (s.setCtx k c).fckNew = s.fckNew := rfl
@[simp] theorem State.setCtx_regs (k : Nat) (c : CtxRegs) : (s.setCtx k c).regs = s.regs := rfl
@[simp] theorem State.setCtx_latch (k : Nat) (c : CtxRegs) : (s.setCtx k c).latch = s.latch := rfl
@[simp] theorem State.setCtx_mem (k : Nat) (c : CtxRegs) : (s.setCtx k c).mem = s.mem := rfl
@[simp] theorem State.setCtx_hmem (k : Nat) (c : CtxRegs) : (s.setCtx k c).hmem = s.hmem := rfl
@[simp] theorem State.setCtx_msix (k : Nat) (c : CtxRegs) : (s.setCtx k c).msix = s.msix := rfl
@[simp] theorem State.setCtx_err (k : Nat) (c : CtxRegs) : (s.setCtx k c).err = s.err := rfl
@[simp] theorem State.setCtx_psq (k : Nat) (c : CtxRegs) : (s.setCtx k c).psq = s.psq := rfl
@[simp] theorem State.setCtx_slices (k : Nat) (c : CtxRegs) : (s.setCtx k c).slices = s.slices := rfl
@[simp] theorem State.setCtx_pslLost (k : Nat) (c : CtxRegs) : (s.setCtx k c).pslLost = s.pslLost := rfl
@[simp] theorem State.setCtx_sources (k : Nat) (c : CtxRegs) : (s.setCtx k c).sources = s.sources := rfl
@[simp] theorem State.setCtx_queues (k : Nat) (c : CtxRegs) : (s.setCtx k c).queues = s.queues := rfl
@[simp] theorem State.setCtx_streams (k : Nat) (c : CtxRegs) : (s.setCtx k c).streams = s.streams := rfl
@[simp] theorem State.setCtx_xPkts (k : Nat) (c : CtxRegs) : (s.setCtx k c).xPkts = s.xPkts := rfl
@[simp] theorem State.setCtx_slv (k : Nat) (c : CtxRegs) : (s.setCtx k c).slv = s.slv := rfl
@[simp] theorem State.setCtx_csc (k : Nat) (c : CtxRegs) : (s.setCtx k c).csc = s.csc := rfl
@[simp] theorem State.setCtx_bist (k : Nat) (c : CtxRegs) : (s.setCtx k c).bist = s.bist := rfl
@[simp] theorem State.setCtx_sec (k : Nat) (c : CtxRegs) : (s.setCtx k c).sec = s.sec := rfl
@[simp] theorem State.setCtx_dump (k : Nat) (c : CtxRegs) : (s.setCtx k c).dump = s.dump := rfl
@[simp] theorem State.setCtx_noc (k : Nat) (c : CtxRegs) : (s.setCtx k c).noc = s.noc := rfl
@[simp] theorem State.setCtx_cfg (k : Nat) (c : CtxRegs) : (s.setCtx k c).cfg = s.cfg := rfl
@[simp] theorem State.setCtx_hif (k : Nat) (c : CtxRegs) : (s.setCtx k c).hif = s.hif := rfl
@[simp] theorem State.setCtx_jtag (k : Nat) (c : CtxRegs) : (s.setCtx k c).jtag = s.jtag := rfl
@[simp] theorem State.setCtx_aux (k : Nat) (c : CtxRegs) : (s.setCtx k c).aux = s.aux := rfl
@[simp] theorem State.setCtx_pwr (k : Nat) (c : CtxRegs) : (s.setCtx k c).pwr = s.pwr := rfl
@[simp] theorem State.setCtx_rdata (k : Nat) (c : CtxRegs) : (s.setCtx k c).rdata = s.rdata := rfl

@[simp] theorem State.setStoreWord_pending (k w : Nat) (v : Wide) : (s.setStoreWord k w v).pending = s.pending := rfl
@[simp] theorem State.setStoreWord_free (k w : Nat) (v : Wide) : (s.setStoreWord k w v).free = s.free := rfl
@[simp] theorem State.setStoreWord_f128 (k w : Nat) (v : Wide) : (s.setStoreWord k w v).f128 = s.f128 := rfl
@[simp] theorem State.setStoreWord_dev (k w : Nat) (v : Wide) : (s.setStoreWord k w v).dev = s.dev := rfl
@[simp] theorem State.setStoreWord_devFault (k w : Nat) (v : Wide) : (s.setStoreWord k w v).devFault = s.devFault := rfl
@[simp] theorem State.setStoreWord_tick (k w : Nat) (v : Wide) : (s.setStoreWord k w v).tick = s.tick := rfl
@[simp] theorem State.setStoreWord_fckOn (k w : Nat) (v : Wide) : (s.setStoreWord k w v).fckOn = s.fckOn := rfl
@[simp] theorem State.setStoreWord_fckStop (k w : Nat) (v : Wide) : (s.setStoreWord k w v).fckStop = s.fckStop := rfl
@[simp] theorem State.setStoreWord_fckSet (k w : Nat) (v : Wide) : (s.setStoreWord k w v).fckSet = s.fckSet := rfl
@[simp] theorem State.setStoreWord_fckNew (k w : Nat) (v : Wide) : (s.setStoreWord k w v).fckNew = s.fckNew := rfl
@[simp] theorem State.setStoreWord_regs (k w : Nat) (v : Wide) : (s.setStoreWord k w v).regs = s.regs := rfl
@[simp] theorem State.setStoreWord_latch (k w : Nat) (v : Wide) : (s.setStoreWord k w v).latch = s.latch := rfl
@[simp] theorem State.setStoreWord_mem (k w : Nat) (v : Wide) : (s.setStoreWord k w v).mem = s.mem := rfl
@[simp] theorem State.setStoreWord_hmem (k w : Nat) (v : Wide) : (s.setStoreWord k w v).hmem = s.hmem := rfl
@[simp] theorem State.setStoreWord_msix (k w : Nat) (v : Wide) : (s.setStoreWord k w v).msix = s.msix := rfl
@[simp] theorem State.setStoreWord_err (k w : Nat) (v : Wide) : (s.setStoreWord k w v).err = s.err := rfl
@[simp] theorem State.setStoreWord_psq (k w : Nat) (v : Wide) : (s.setStoreWord k w v).psq = s.psq := rfl
@[simp] theorem State.setStoreWord_slices (k w : Nat) (v : Wide) : (s.setStoreWord k w v).slices = s.slices := rfl
@[simp] theorem State.setStoreWord_pslLost (k w : Nat) (v : Wide) : (s.setStoreWord k w v).pslLost = s.pslLost := rfl
@[simp] theorem State.setStoreWord_sources (k w : Nat) (v : Wide) : (s.setStoreWord k w v).sources = s.sources := rfl
@[simp] theorem State.setStoreWord_queues (k w : Nat) (v : Wide) : (s.setStoreWord k w v).queues = s.queues := rfl
@[simp] theorem State.setStoreWord_streams (k w : Nat) (v : Wide) : (s.setStoreWord k w v).streams = s.streams := rfl
@[simp] theorem State.setStoreWord_xPkts (k w : Nat) (v : Wide) : (s.setStoreWord k w v).xPkts = s.xPkts := rfl
@[simp] theorem State.setStoreWord_slv (k w : Nat) (v : Wide) : (s.setStoreWord k w v).slv = s.slv := rfl
@[simp] theorem State.setStoreWord_csc (k w : Nat) (v : Wide) : (s.setStoreWord k w v).csc = s.csc := rfl
@[simp] theorem State.setStoreWord_bist (k w : Nat) (v : Wide) : (s.setStoreWord k w v).bist = s.bist := rfl
@[simp] theorem State.setStoreWord_sec (k w : Nat) (v : Wide) : (s.setStoreWord k w v).sec = s.sec := rfl
@[simp] theorem State.setStoreWord_dump (k w : Nat) (v : Wide) : (s.setStoreWord k w v).dump = s.dump := rfl
@[simp] theorem State.setStoreWord_noc (k w : Nat) (v : Wide) : (s.setStoreWord k w v).noc = s.noc := rfl
@[simp] theorem State.setStoreWord_cfg (k w : Nat) (v : Wide) : (s.setStoreWord k w v).cfg = s.cfg := rfl
@[simp] theorem State.setStoreWord_hif (k w : Nat) (v : Wide) : (s.setStoreWord k w v).hif = s.hif := rfl
@[simp] theorem State.setStoreWord_jtag (k w : Nat) (v : Wide) : (s.setStoreWord k w v).jtag = s.jtag := rfl
@[simp] theorem State.setStoreWord_aux (k w : Nat) (v : Wide) : (s.setStoreWord k w v).aux = s.aux := rfl
@[simp] theorem State.setStoreWord_pwr (k w : Nat) (v : Wide) : (s.setStoreWord k w v).pwr = s.pwr := rfl
@[simp] theorem State.setStoreWord_rdata (k w : Nat) (v : Wide) : (s.setStoreWord k w v).rdata = s.rdata := rfl

@[simp] theorem State.setLoadedFlag_pending (k c : Nat) (b : Bool) : (s.setLoadedFlag k c b).pending = s.pending := rfl
@[simp] theorem State.setLoadedFlag_free (k c : Nat) (b : Bool) : (s.setLoadedFlag k c b).free = s.free := rfl
@[simp] theorem State.setLoadedFlag_f128 (k c : Nat) (b : Bool) : (s.setLoadedFlag k c b).f128 = s.f128 := rfl
@[simp] theorem State.setLoadedFlag_dev (k c : Nat) (b : Bool) : (s.setLoadedFlag k c b).dev = s.dev := rfl
@[simp] theorem State.setLoadedFlag_devFault (k c : Nat) (b : Bool) : (s.setLoadedFlag k c b).devFault = s.devFault := rfl
@[simp] theorem State.setLoadedFlag_tick (k c : Nat) (b : Bool) : (s.setLoadedFlag k c b).tick = s.tick := rfl
@[simp] theorem State.setLoadedFlag_fckOn (k c : Nat) (b : Bool) : (s.setLoadedFlag k c b).fckOn = s.fckOn := rfl
@[simp] theorem State.setLoadedFlag_fckStop (k c : Nat) (b : Bool) : (s.setLoadedFlag k c b).fckStop = s.fckStop := rfl
@[simp] theorem State.setLoadedFlag_fckSet (k c : Nat) (b : Bool) : (s.setLoadedFlag k c b).fckSet = s.fckSet := rfl
@[simp] theorem State.setLoadedFlag_fckNew (k c : Nat) (b : Bool) : (s.setLoadedFlag k c b).fckNew = s.fckNew := rfl
@[simp] theorem State.setLoadedFlag_regs (k c : Nat) (b : Bool) : (s.setLoadedFlag k c b).regs = s.regs := rfl
@[simp] theorem State.setLoadedFlag_latch (k c : Nat) (b : Bool) : (s.setLoadedFlag k c b).latch = s.latch := rfl
@[simp] theorem State.setLoadedFlag_mem (k c : Nat) (b : Bool) : (s.setLoadedFlag k c b).mem = s.mem := rfl
@[simp] theorem State.setLoadedFlag_hmem (k c : Nat) (b : Bool) : (s.setLoadedFlag k c b).hmem = s.hmem := rfl
@[simp] theorem State.setLoadedFlag_msix (k c : Nat) (b : Bool) : (s.setLoadedFlag k c b).msix = s.msix := rfl
@[simp] theorem State.setLoadedFlag_err (k c : Nat) (b : Bool) : (s.setLoadedFlag k c b).err = s.err := rfl
@[simp] theorem State.setLoadedFlag_psq (k c : Nat) (b : Bool) : (s.setLoadedFlag k c b).psq = s.psq := rfl
@[simp] theorem State.setLoadedFlag_slices (k c : Nat) (b : Bool) : (s.setLoadedFlag k c b).slices = s.slices := rfl
@[simp] theorem State.setLoadedFlag_pslLost (k c : Nat) (b : Bool) : (s.setLoadedFlag k c b).pslLost = s.pslLost := rfl
@[simp] theorem State.setLoadedFlag_sources (k c : Nat) (b : Bool) : (s.setLoadedFlag k c b).sources = s.sources := rfl
@[simp] theorem State.setLoadedFlag_queues (k c : Nat) (b : Bool) : (s.setLoadedFlag k c b).queues = s.queues := rfl
@[simp] theorem State.setLoadedFlag_streams (k c : Nat) (b : Bool) : (s.setLoadedFlag k c b).streams = s.streams := rfl
@[simp] theorem State.setLoadedFlag_xPkts (k c : Nat) (b : Bool) : (s.setLoadedFlag k c b).xPkts = s.xPkts := rfl
@[simp] theorem State.setLoadedFlag_slv (k c : Nat) (b : Bool) : (s.setLoadedFlag k c b).slv = s.slv := rfl
@[simp] theorem State.setLoadedFlag_csc (k c : Nat) (b : Bool) : (s.setLoadedFlag k c b).csc = s.csc := rfl
@[simp] theorem State.setLoadedFlag_bist (k c : Nat) (b : Bool) : (s.setLoadedFlag k c b).bist = s.bist := rfl
@[simp] theorem State.setLoadedFlag_sec (k c : Nat) (b : Bool) : (s.setLoadedFlag k c b).sec = s.sec := rfl
@[simp] theorem State.setLoadedFlag_dump (k c : Nat) (b : Bool) : (s.setLoadedFlag k c b).dump = s.dump := rfl
@[simp] theorem State.setLoadedFlag_noc (k c : Nat) (b : Bool) : (s.setLoadedFlag k c b).noc = s.noc := rfl
@[simp] theorem State.setLoadedFlag_cfg (k c : Nat) (b : Bool) : (s.setLoadedFlag k c b).cfg = s.cfg := rfl
@[simp] theorem State.setLoadedFlag_hif (k c : Nat) (b : Bool) : (s.setLoadedFlag k c b).hif = s.hif := rfl
@[simp] theorem State.setLoadedFlag_jtag (k c : Nat) (b : Bool) : (s.setLoadedFlag k c b).jtag = s.jtag := rfl
@[simp] theorem State.setLoadedFlag_aux (k c : Nat) (b : Bool) : (s.setLoadedFlag k c b).aux = s.aux := rfl
@[simp] theorem State.setLoadedFlag_pwr (k c : Nat) (b : Bool) : (s.setLoadedFlag k c b).pwr = s.pwr := rfl
@[simp] theorem State.setLoadedFlag_rdata (k c : Nat) (b : Bool) : (s.setLoadedFlag k c b).rdata = s.rdata := rfl

@[simp] theorem State.setRouteThird_pending (p c t : Nat) (v : Wide) : (s.setRouteThird p c t v).pending = s.pending := rfl
@[simp] theorem State.setRouteThird_free (p c t : Nat) (v : Wide) : (s.setRouteThird p c t v).free = s.free := rfl
@[simp] theorem State.setRouteThird_f128 (p c t : Nat) (v : Wide) : (s.setRouteThird p c t v).f128 = s.f128 := rfl
@[simp] theorem State.setRouteThird_dev (p c t : Nat) (v : Wide) : (s.setRouteThird p c t v).dev = s.dev := rfl
@[simp] theorem State.setRouteThird_devFault (p c t : Nat) (v : Wide) : (s.setRouteThird p c t v).devFault = s.devFault := rfl
@[simp] theorem State.setRouteThird_tick (p c t : Nat) (v : Wide) : (s.setRouteThird p c t v).tick = s.tick := rfl
@[simp] theorem State.setRouteThird_fckOn (p c t : Nat) (v : Wide) : (s.setRouteThird p c t v).fckOn = s.fckOn := rfl
@[simp] theorem State.setRouteThird_fckStop (p c t : Nat) (v : Wide) : (s.setRouteThird p c t v).fckStop = s.fckStop := rfl
@[simp] theorem State.setRouteThird_fckSet (p c t : Nat) (v : Wide) : (s.setRouteThird p c t v).fckSet = s.fckSet := rfl
@[simp] theorem State.setRouteThird_fckNew (p c t : Nat) (v : Wide) : (s.setRouteThird p c t v).fckNew = s.fckNew := rfl
@[simp] theorem State.setRouteThird_regs (p c t : Nat) (v : Wide) : (s.setRouteThird p c t v).regs = s.regs := rfl
@[simp] theorem State.setRouteThird_latch (p c t : Nat) (v : Wide) : (s.setRouteThird p c t v).latch = s.latch := rfl
@[simp] theorem State.setRouteThird_mem (p c t : Nat) (v : Wide) : (s.setRouteThird p c t v).mem = s.mem := rfl
@[simp] theorem State.setRouteThird_hmem (p c t : Nat) (v : Wide) : (s.setRouteThird p c t v).hmem = s.hmem := rfl
@[simp] theorem State.setRouteThird_msix (p c t : Nat) (v : Wide) : (s.setRouteThird p c t v).msix = s.msix := rfl
@[simp] theorem State.setRouteThird_err (p c t : Nat) (v : Wide) : (s.setRouteThird p c t v).err = s.err := rfl
@[simp] theorem State.setRouteThird_psq (p c t : Nat) (v : Wide) : (s.setRouteThird p c t v).psq = s.psq := rfl
@[simp] theorem State.setRouteThird_slices (p c t : Nat) (v : Wide) : (s.setRouteThird p c t v).slices = s.slices := rfl
@[simp] theorem State.setRouteThird_pslLost (p c t : Nat) (v : Wide) : (s.setRouteThird p c t v).pslLost = s.pslLost := rfl
@[simp] theorem State.setRouteThird_sources (p c t : Nat) (v : Wide) : (s.setRouteThird p c t v).sources = s.sources := rfl
@[simp] theorem State.setRouteThird_queues (p c t : Nat) (v : Wide) : (s.setRouteThird p c t v).queues = s.queues := rfl
@[simp] theorem State.setRouteThird_streams (p c t : Nat) (v : Wide) : (s.setRouteThird p c t v).streams = s.streams := rfl
@[simp] theorem State.setRouteThird_xPkts (p c t : Nat) (v : Wide) : (s.setRouteThird p c t v).xPkts = s.xPkts := rfl
@[simp] theorem State.setRouteThird_slv (p c t : Nat) (v : Wide) : (s.setRouteThird p c t v).slv = s.slv := rfl
@[simp] theorem State.setRouteThird_csc (p c t : Nat) (v : Wide) : (s.setRouteThird p c t v).csc = s.csc := rfl
@[simp] theorem State.setRouteThird_bist (p c t : Nat) (v : Wide) : (s.setRouteThird p c t v).bist = s.bist := rfl
@[simp] theorem State.setRouteThird_sec (p c t : Nat) (v : Wide) : (s.setRouteThird p c t v).sec = s.sec := rfl
@[simp] theorem State.setRouteThird_dump (p c t : Nat) (v : Wide) : (s.setRouteThird p c t v).dump = s.dump := rfl
@[simp] theorem State.setRouteThird_noc (p c t : Nat) (v : Wide) : (s.setRouteThird p c t v).noc = s.noc := rfl
@[simp] theorem State.setRouteThird_cfg (p c t : Nat) (v : Wide) : (s.setRouteThird p c t v).cfg = s.cfg := rfl
@[simp] theorem State.setRouteThird_hif (p c t : Nat) (v : Wide) : (s.setRouteThird p c t v).hif = s.hif := rfl
@[simp] theorem State.setRouteThird_jtag (p c t : Nat) (v : Wide) : (s.setRouteThird p c t v).jtag = s.jtag := rfl
@[simp] theorem State.setRouteThird_aux (p c t : Nat) (v : Wide) : (s.setRouteThird p c t v).aux = s.aux := rfl
@[simp] theorem State.setRouteThird_pwr (p c t : Nat) (v : Wide) : (s.setRouteThird p c t v).pwr = s.pwr := rfl
@[simp] theorem State.setRouteThird_rdata (p c t : Nat) (v : Wide) : (s.setRouteThird p c t v).rdata = s.rdata := rfl

@[simp] theorem State.setMword_pending (m a : Nat) (v : MWord) : (s.setMword m a v).pending = s.pending := rfl
@[simp] theorem State.setMword_free (m a : Nat) (v : MWord) : (s.setMword m a v).free = s.free := rfl
@[simp] theorem State.setMword_f128 (m a : Nat) (v : MWord) : (s.setMword m a v).f128 = s.f128 := rfl
@[simp] theorem State.setMword_dev (m a : Nat) (v : MWord) : (s.setMword m a v).dev = s.dev := rfl
@[simp] theorem State.setMword_devFault (m a : Nat) (v : MWord) : (s.setMword m a v).devFault = s.devFault := rfl
@[simp] theorem State.setMword_tick (m a : Nat) (v : MWord) : (s.setMword m a v).tick = s.tick := rfl
@[simp] theorem State.setMword_fckOn (m a : Nat) (v : MWord) : (s.setMword m a v).fckOn = s.fckOn := rfl
@[simp] theorem State.setMword_fckStop (m a : Nat) (v : MWord) : (s.setMword m a v).fckStop = s.fckStop := rfl
@[simp] theorem State.setMword_fckSet (m a : Nat) (v : MWord) : (s.setMword m a v).fckSet = s.fckSet := rfl
@[simp] theorem State.setMword_fckNew (m a : Nat) (v : MWord) : (s.setMword m a v).fckNew = s.fckNew := rfl
@[simp] theorem State.setMword_regs (m a : Nat) (v : MWord) : (s.setMword m a v).regs = s.regs := rfl
@[simp] theorem State.setMword_latch (m a : Nat) (v : MWord) : (s.setMword m a v).latch = s.latch := rfl
@[simp] theorem State.setMword_mem (m a : Nat) (v : MWord) : (s.setMword m a v).mem = s.mem := rfl
@[simp] theorem State.setMword_hmem (m a : Nat) (v : MWord) : (s.setMword m a v).hmem = s.hmem := rfl
@[simp] theorem State.setMword_msix (m a : Nat) (v : MWord) : (s.setMword m a v).msix = s.msix := rfl
@[simp] theorem State.setMword_err (m a : Nat) (v : MWord) : (s.setMword m a v).err = s.err := rfl
@[simp] theorem State.setMword_psq (m a : Nat) (v : MWord) : (s.setMword m a v).psq = s.psq := rfl
@[simp] theorem State.setMword_slices (m a : Nat) (v : MWord) : (s.setMword m a v).slices = s.slices := rfl
@[simp] theorem State.setMword_pslLost (m a : Nat) (v : MWord) : (s.setMword m a v).pslLost = s.pslLost := rfl
@[simp] theorem State.setMword_sources (m a : Nat) (v : MWord) : (s.setMword m a v).sources = s.sources := rfl
@[simp] theorem State.setMword_queues (m a : Nat) (v : MWord) : (s.setMword m a v).queues = s.queues := rfl
@[simp] theorem State.setMword_streams (m a : Nat) (v : MWord) : (s.setMword m a v).streams = s.streams := rfl
@[simp] theorem State.setMword_xPkts (m a : Nat) (v : MWord) : (s.setMword m a v).xPkts = s.xPkts := rfl
@[simp] theorem State.setMword_slv (m a : Nat) (v : MWord) : (s.setMword m a v).slv = s.slv := rfl
@[simp] theorem State.setMword_csc (m a : Nat) (v : MWord) : (s.setMword m a v).csc = s.csc := rfl
@[simp] theorem State.setMword_bist (m a : Nat) (v : MWord) : (s.setMword m a v).bist = s.bist := rfl
@[simp] theorem State.setMword_sec (m a : Nat) (v : MWord) : (s.setMword m a v).sec = s.sec := rfl
@[simp] theorem State.setMword_dump (m a : Nat) (v : MWord) : (s.setMword m a v).dump = s.dump := rfl
@[simp] theorem State.setMword_noc (m a : Nat) (v : MWord) : (s.setMword m a v).noc = s.noc := rfl
@[simp] theorem State.setMword_cfg (m a : Nat) (v : MWord) : (s.setMword m a v).cfg = s.cfg := rfl
@[simp] theorem State.setMword_hif (m a : Nat) (v : MWord) : (s.setMword m a v).hif = s.hif := rfl
@[simp] theorem State.setMword_jtag (m a : Nat) (v : MWord) : (s.setMword m a v).jtag = s.jtag := rfl
@[simp] theorem State.setMword_aux (m a : Nat) (v : MWord) : (s.setMword m a v).aux = s.aux := rfl
@[simp] theorem State.setMword_pwr (m a : Nat) (v : MWord) : (s.setMword m a v).pwr = s.pwr := rfl
@[simp] theorem State.setMword_rdata (m a : Nat) (v : MWord) : (s.setMword m a v).rdata = s.rdata := rfl

@[simp] theorem State.setXsBuf_pending (x : Nat) (b : XsBuf) : (s.setXsBuf x b).pending = s.pending := rfl
@[simp] theorem State.setXsBuf_free (x : Nat) (b : XsBuf) : (s.setXsBuf x b).free = s.free := rfl
@[simp] theorem State.setXsBuf_f128 (x : Nat) (b : XsBuf) : (s.setXsBuf x b).f128 = s.f128 := rfl
@[simp] theorem State.setXsBuf_dev (x : Nat) (b : XsBuf) : (s.setXsBuf x b).dev = s.dev := rfl
@[simp] theorem State.setXsBuf_devFault (x : Nat) (b : XsBuf) : (s.setXsBuf x b).devFault = s.devFault := rfl
@[simp] theorem State.setXsBuf_tick (x : Nat) (b : XsBuf) : (s.setXsBuf x b).tick = s.tick := rfl
@[simp] theorem State.setXsBuf_fckOn (x : Nat) (b : XsBuf) : (s.setXsBuf x b).fckOn = s.fckOn := rfl
@[simp] theorem State.setXsBuf_fckStop (x : Nat) (b : XsBuf) : (s.setXsBuf x b).fckStop = s.fckStop := rfl
@[simp] theorem State.setXsBuf_fckSet (x : Nat) (b : XsBuf) : (s.setXsBuf x b).fckSet = s.fckSet := rfl
@[simp] theorem State.setXsBuf_fckNew (x : Nat) (b : XsBuf) : (s.setXsBuf x b).fckNew = s.fckNew := rfl
@[simp] theorem State.setXsBuf_regs (x : Nat) (b : XsBuf) : (s.setXsBuf x b).regs = s.regs := rfl
@[simp] theorem State.setXsBuf_latch (x : Nat) (b : XsBuf) : (s.setXsBuf x b).latch = s.latch := rfl
@[simp] theorem State.setXsBuf_mem (x : Nat) (b : XsBuf) : (s.setXsBuf x b).mem = s.mem := rfl
@[simp] theorem State.setXsBuf_hmem (x : Nat) (b : XsBuf) : (s.setXsBuf x b).hmem = s.hmem := rfl
@[simp] theorem State.setXsBuf_msix (x : Nat) (b : XsBuf) : (s.setXsBuf x b).msix = s.msix := rfl
@[simp] theorem State.setXsBuf_err (x : Nat) (b : XsBuf) : (s.setXsBuf x b).err = s.err := rfl
@[simp] theorem State.setXsBuf_psq (x : Nat) (b : XsBuf) : (s.setXsBuf x b).psq = s.psq := rfl
@[simp] theorem State.setXsBuf_slices (x : Nat) (b : XsBuf) : (s.setXsBuf x b).slices = s.slices := rfl
@[simp] theorem State.setXsBuf_pslLost (x : Nat) (b : XsBuf) : (s.setXsBuf x b).pslLost = s.pslLost := rfl
@[simp] theorem State.setXsBuf_sources (x : Nat) (b : XsBuf) : (s.setXsBuf x b).sources = s.sources := rfl
@[simp] theorem State.setXsBuf_queues (x : Nat) (b : XsBuf) : (s.setXsBuf x b).queues = s.queues := rfl
@[simp] theorem State.setXsBuf_streams (x : Nat) (b : XsBuf) : (s.setXsBuf x b).streams = s.streams := rfl
@[simp] theorem State.setXsBuf_xPkts (x : Nat) (b : XsBuf) : (s.setXsBuf x b).xPkts = s.xPkts := rfl
@[simp] theorem State.setXsBuf_slv (x : Nat) (b : XsBuf) : (s.setXsBuf x b).slv = s.slv := rfl
@[simp] theorem State.setXsBuf_csc (x : Nat) (b : XsBuf) : (s.setXsBuf x b).csc = s.csc := rfl
@[simp] theorem State.setXsBuf_bist (x : Nat) (b : XsBuf) : (s.setXsBuf x b).bist = s.bist := rfl
@[simp] theorem State.setXsBuf_sec (x : Nat) (b : XsBuf) : (s.setXsBuf x b).sec = s.sec := rfl
@[simp] theorem State.setXsBuf_dump (x : Nat) (b : XsBuf) : (s.setXsBuf x b).dump = s.dump := rfl
@[simp] theorem State.setXsBuf_noc (x : Nat) (b : XsBuf) : (s.setXsBuf x b).noc = s.noc := rfl
@[simp] theorem State.setXsBuf_cfg (x : Nat) (b : XsBuf) : (s.setXsBuf x b).cfg = s.cfg := rfl
@[simp] theorem State.setXsBuf_hif (x : Nat) (b : XsBuf) : (s.setXsBuf x b).hif = s.hif := rfl
@[simp] theorem State.setXsBuf_jtag (x : Nat) (b : XsBuf) : (s.setXsBuf x b).jtag = s.jtag := rfl
@[simp] theorem State.setXsBuf_aux (x : Nat) (b : XsBuf) : (s.setXsBuf x b).aux = s.aux := rfl
@[simp] theorem State.setXsBuf_pwr (x : Nat) (b : XsBuf) : (s.setXsBuf x b).pwr = s.pwr := rfl
@[simp] theorem State.setXsBuf_rdata (x : Nat) (b : XsBuf) : (s.setXsBuf x b).rdata = s.rdata := rfl

@[simp] theorem State.setSelWaiting_pending (n : Nat) (c : Option Nat) : (s.setSelWaiting n c).pending = s.pending := rfl
@[simp] theorem State.setSelWaiting_free (n : Nat) (c : Option Nat) : (s.setSelWaiting n c).free = s.free := rfl
@[simp] theorem State.setSelWaiting_f128 (n : Nat) (c : Option Nat) : (s.setSelWaiting n c).f128 = s.f128 := rfl
@[simp] theorem State.setSelWaiting_dev (n : Nat) (c : Option Nat) : (s.setSelWaiting n c).dev = s.dev := rfl
@[simp] theorem State.setSelWaiting_devFault (n : Nat) (c : Option Nat) : (s.setSelWaiting n c).devFault = s.devFault := rfl
@[simp] theorem State.setSelWaiting_tick (n : Nat) (c : Option Nat) : (s.setSelWaiting n c).tick = s.tick := rfl
@[simp] theorem State.setSelWaiting_fckOn (n : Nat) (c : Option Nat) : (s.setSelWaiting n c).fckOn = s.fckOn := rfl
@[simp] theorem State.setSelWaiting_fckStop (n : Nat) (c : Option Nat) : (s.setSelWaiting n c).fckStop = s.fckStop := rfl
@[simp] theorem State.setSelWaiting_fckSet (n : Nat) (c : Option Nat) : (s.setSelWaiting n c).fckSet = s.fckSet := rfl
@[simp] theorem State.setSelWaiting_fckNew (n : Nat) (c : Option Nat) : (s.setSelWaiting n c).fckNew = s.fckNew := rfl
@[simp] theorem State.setSelWaiting_regs (n : Nat) (c : Option Nat) : (s.setSelWaiting n c).regs = s.regs := rfl
@[simp] theorem State.setSelWaiting_latch (n : Nat) (c : Option Nat) : (s.setSelWaiting n c).latch = s.latch := rfl
@[simp] theorem State.setSelWaiting_mem (n : Nat) (c : Option Nat) : (s.setSelWaiting n c).mem = s.mem := rfl
@[simp] theorem State.setSelWaiting_hmem (n : Nat) (c : Option Nat) : (s.setSelWaiting n c).hmem = s.hmem := rfl
@[simp] theorem State.setSelWaiting_msix (n : Nat) (c : Option Nat) : (s.setSelWaiting n c).msix = s.msix := rfl
@[simp] theorem State.setSelWaiting_err (n : Nat) (c : Option Nat) : (s.setSelWaiting n c).err = s.err := rfl
@[simp] theorem State.setSelWaiting_psq (n : Nat) (c : Option Nat) : (s.setSelWaiting n c).psq = s.psq := rfl
@[simp] theorem State.setSelWaiting_slices (n : Nat) (c : Option Nat) : (s.setSelWaiting n c).slices = s.slices := rfl
@[simp] theorem State.setSelWaiting_pslLost (n : Nat) (c : Option Nat) : (s.setSelWaiting n c).pslLost = s.pslLost := rfl
@[simp] theorem State.setSelWaiting_sources (n : Nat) (c : Option Nat) : (s.setSelWaiting n c).sources = s.sources := rfl
@[simp] theorem State.setSelWaiting_queues (n : Nat) (c : Option Nat) : (s.setSelWaiting n c).queues = s.queues := rfl
@[simp] theorem State.setSelWaiting_streams (n : Nat) (c : Option Nat) : (s.setSelWaiting n c).streams = s.streams := rfl
@[simp] theorem State.setSelWaiting_xPkts (n : Nat) (c : Option Nat) : (s.setSelWaiting n c).xPkts = s.xPkts := rfl
@[simp] theorem State.setSelWaiting_slv (n : Nat) (c : Option Nat) : (s.setSelWaiting n c).slv = s.slv := rfl
@[simp] theorem State.setSelWaiting_csc (n : Nat) (c : Option Nat) : (s.setSelWaiting n c).csc = s.csc := rfl
@[simp] theorem State.setSelWaiting_bist (n : Nat) (c : Option Nat) : (s.setSelWaiting n c).bist = s.bist := rfl
@[simp] theorem State.setSelWaiting_sec (n : Nat) (c : Option Nat) : (s.setSelWaiting n c).sec = s.sec := rfl
@[simp] theorem State.setSelWaiting_dump (n : Nat) (c : Option Nat) : (s.setSelWaiting n c).dump = s.dump := rfl
@[simp] theorem State.setSelWaiting_noc (n : Nat) (c : Option Nat) : (s.setSelWaiting n c).noc = s.noc := rfl
@[simp] theorem State.setSelWaiting_cfg (n : Nat) (c : Option Nat) : (s.setSelWaiting n c).cfg = s.cfg := rfl
@[simp] theorem State.setSelWaiting_hif (n : Nat) (c : Option Nat) : (s.setSelWaiting n c).hif = s.hif := rfl
@[simp] theorem State.setSelWaiting_jtag (n : Nat) (c : Option Nat) : (s.setSelWaiting n c).jtag = s.jtag := rfl
@[simp] theorem State.setSelWaiting_aux (n : Nat) (c : Option Nat) : (s.setSelWaiting n c).aux = s.aux := rfl
@[simp] theorem State.setSelWaiting_pwr (n : Nat) (c : Option Nat) : (s.setSelWaiting n c).pwr = s.pwr := rfl
@[simp] theorem State.setSelWaiting_rdata (n : Nat) (c : Option Nat) : (s.setSelWaiting n c).rdata = s.rdata := rfl

@[simp] theorem State.setRclkLvl_pending (k : Nat) (b : Bool) : (s.setRclkLvl k b).pending = s.pending := rfl
@[simp] theorem State.setRclkLvl_free (k : Nat) (b : Bool) : (s.setRclkLvl k b).free = s.free := rfl
@[simp] theorem State.setRclkLvl_f128 (k : Nat) (b : Bool) : (s.setRclkLvl k b).f128 = s.f128 := rfl
@[simp] theorem State.setRclkLvl_dev (k : Nat) (b : Bool) : (s.setRclkLvl k b).dev = s.dev := rfl
@[simp] theorem State.setRclkLvl_devFault (k : Nat) (b : Bool) : (s.setRclkLvl k b).devFault = s.devFault := rfl
@[simp] theorem State.setRclkLvl_tick (k : Nat) (b : Bool) : (s.setRclkLvl k b).tick = s.tick := rfl
@[simp] theorem State.setRclkLvl_fckOn (k : Nat) (b : Bool) : (s.setRclkLvl k b).fckOn = s.fckOn := rfl
@[simp] theorem State.setRclkLvl_fckStop (k : Nat) (b : Bool) : (s.setRclkLvl k b).fckStop = s.fckStop := rfl
@[simp] theorem State.setRclkLvl_fckSet (k : Nat) (b : Bool) : (s.setRclkLvl k b).fckSet = s.fckSet := rfl
@[simp] theorem State.setRclkLvl_fckNew (k : Nat) (b : Bool) : (s.setRclkLvl k b).fckNew = s.fckNew := rfl
@[simp] theorem State.setRclkLvl_regs (k : Nat) (b : Bool) : (s.setRclkLvl k b).regs = s.regs := rfl
@[simp] theorem State.setRclkLvl_latch (k : Nat) (b : Bool) : (s.setRclkLvl k b).latch = s.latch := rfl
@[simp] theorem State.setRclkLvl_mem (k : Nat) (b : Bool) : (s.setRclkLvl k b).mem = s.mem := rfl
@[simp] theorem State.setRclkLvl_hmem (k : Nat) (b : Bool) : (s.setRclkLvl k b).hmem = s.hmem := rfl
@[simp] theorem State.setRclkLvl_msix (k : Nat) (b : Bool) : (s.setRclkLvl k b).msix = s.msix := rfl
@[simp] theorem State.setRclkLvl_err (k : Nat) (b : Bool) : (s.setRclkLvl k b).err = s.err := rfl
@[simp] theorem State.setRclkLvl_psq (k : Nat) (b : Bool) : (s.setRclkLvl k b).psq = s.psq := rfl
@[simp] theorem State.setRclkLvl_slices (k : Nat) (b : Bool) : (s.setRclkLvl k b).slices = s.slices := rfl
@[simp] theorem State.setRclkLvl_pslLost (k : Nat) (b : Bool) : (s.setRclkLvl k b).pslLost = s.pslLost := rfl
@[simp] theorem State.setRclkLvl_sources (k : Nat) (b : Bool) : (s.setRclkLvl k b).sources = s.sources := rfl
@[simp] theorem State.setRclkLvl_queues (k : Nat) (b : Bool) : (s.setRclkLvl k b).queues = s.queues := rfl
@[simp] theorem State.setRclkLvl_streams (k : Nat) (b : Bool) : (s.setRclkLvl k b).streams = s.streams := rfl
@[simp] theorem State.setRclkLvl_xPkts (k : Nat) (b : Bool) : (s.setRclkLvl k b).xPkts = s.xPkts := rfl
@[simp] theorem State.setRclkLvl_slv (k : Nat) (b : Bool) : (s.setRclkLvl k b).slv = s.slv := rfl
@[simp] theorem State.setRclkLvl_csc (k : Nat) (b : Bool) : (s.setRclkLvl k b).csc = s.csc := rfl
@[simp] theorem State.setRclkLvl_bist (k : Nat) (b : Bool) : (s.setRclkLvl k b).bist = s.bist := rfl
@[simp] theorem State.setRclkLvl_sec (k : Nat) (b : Bool) : (s.setRclkLvl k b).sec = s.sec := rfl
@[simp] theorem State.setRclkLvl_dump (k : Nat) (b : Bool) : (s.setRclkLvl k b).dump = s.dump := rfl
@[simp] theorem State.setRclkLvl_noc (k : Nat) (b : Bool) : (s.setRclkLvl k b).noc = s.noc := rfl
@[simp] theorem State.setRclkLvl_cfg (k : Nat) (b : Bool) : (s.setRclkLvl k b).cfg = s.cfg := rfl
@[simp] theorem State.setRclkLvl_hif (k : Nat) (b : Bool) : (s.setRclkLvl k b).hif = s.hif := rfl
@[simp] theorem State.setRclkLvl_jtag (k : Nat) (b : Bool) : (s.setRclkLvl k b).jtag = s.jtag := rfl
@[simp] theorem State.setRclkLvl_aux (k : Nat) (b : Bool) : (s.setRclkLvl k b).aux = s.aux := rfl
@[simp] theorem State.setRclkLvl_pwr (k : Nat) (b : Bool) : (s.setRclkLvl k b).pwr = s.pwr := rfl
@[simp] theorem State.setRclkLvl_rdata (k : Nat) (b : Bool) : (s.setRclkLvl k b).rdata = s.rdata := rfl

@[simp] theorem State.setRoute_pending (src dst : Nat) (alt : Bool) (w : Wide) : (s.setRoute src dst alt w).pending = s.pending := rfl
@[simp] theorem State.setRoute_free (src dst : Nat) (alt : Bool) (w : Wide) : (s.setRoute src dst alt w).free = s.free := rfl
@[simp] theorem State.setRoute_f128 (src dst : Nat) (alt : Bool) (w : Wide) : (s.setRoute src dst alt w).f128 = s.f128 := rfl
@[simp] theorem State.setRoute_dev (src dst : Nat) (alt : Bool) (w : Wide) : (s.setRoute src dst alt w).dev = s.dev := rfl
@[simp] theorem State.setRoute_devFault (src dst : Nat) (alt : Bool) (w : Wide) : (s.setRoute src dst alt w).devFault = s.devFault := rfl
@[simp] theorem State.setRoute_tick (src dst : Nat) (alt : Bool) (w : Wide) : (s.setRoute src dst alt w).tick = s.tick := rfl
@[simp] theorem State.setRoute_fckOn (src dst : Nat) (alt : Bool) (w : Wide) : (s.setRoute src dst alt w).fckOn = s.fckOn := rfl
@[simp] theorem State.setRoute_fckStop (src dst : Nat) (alt : Bool) (w : Wide) : (s.setRoute src dst alt w).fckStop = s.fckStop := rfl
@[simp] theorem State.setRoute_fckSet (src dst : Nat) (alt : Bool) (w : Wide) : (s.setRoute src dst alt w).fckSet = s.fckSet := rfl
@[simp] theorem State.setRoute_fckNew (src dst : Nat) (alt : Bool) (w : Wide) : (s.setRoute src dst alt w).fckNew = s.fckNew := rfl
@[simp] theorem State.setRoute_regs (src dst : Nat) (alt : Bool) (w : Wide) : (s.setRoute src dst alt w).regs = s.regs := rfl
@[simp] theorem State.setRoute_latch (src dst : Nat) (alt : Bool) (w : Wide) : (s.setRoute src dst alt w).latch = s.latch := rfl
@[simp] theorem State.setRoute_mem (src dst : Nat) (alt : Bool) (w : Wide) : (s.setRoute src dst alt w).mem = s.mem := rfl
@[simp] theorem State.setRoute_hmem (src dst : Nat) (alt : Bool) (w : Wide) : (s.setRoute src dst alt w).hmem = s.hmem := rfl
@[simp] theorem State.setRoute_msix (src dst : Nat) (alt : Bool) (w : Wide) : (s.setRoute src dst alt w).msix = s.msix := rfl
@[simp] theorem State.setRoute_err (src dst : Nat) (alt : Bool) (w : Wide) : (s.setRoute src dst alt w).err = s.err := rfl
@[simp] theorem State.setRoute_fab (src dst : Nat) (alt : Bool) (w : Wide) : (s.setRoute src dst alt w).fab = s.fab := rfl
@[simp] theorem State.setRoute_psq (src dst : Nat) (alt : Bool) (w : Wide) : (s.setRoute src dst alt w).psq = s.psq := rfl
@[simp] theorem State.setRoute_slices (src dst : Nat) (alt : Bool) (w : Wide) : (s.setRoute src dst alt w).slices = s.slices := rfl
@[simp] theorem State.setRoute_pslLost (src dst : Nat) (alt : Bool) (w : Wide) : (s.setRoute src dst alt w).pslLost = s.pslLost := rfl
@[simp] theorem State.setRoute_sources (src dst : Nat) (alt : Bool) (w : Wide) : (s.setRoute src dst alt w).sources = s.sources := rfl
@[simp] theorem State.setRoute_queues (src dst : Nat) (alt : Bool) (w : Wide) : (s.setRoute src dst alt w).queues = s.queues := rfl
@[simp] theorem State.setRoute_streams (src dst : Nat) (alt : Bool) (w : Wide) : (s.setRoute src dst alt w).streams = s.streams := rfl
@[simp] theorem State.setRoute_xPkts (src dst : Nat) (alt : Bool) (w : Wide) : (s.setRoute src dst alt w).xPkts = s.xPkts := rfl
@[simp] theorem State.setRoute_slv (src dst : Nat) (alt : Bool) (w : Wide) : (s.setRoute src dst alt w).slv = s.slv := rfl
@[simp] theorem State.setRoute_csc (src dst : Nat) (alt : Bool) (w : Wide) : (s.setRoute src dst alt w).csc = s.csc := rfl
@[simp] theorem State.setRoute_bist (src dst : Nat) (alt : Bool) (w : Wide) : (s.setRoute src dst alt w).bist = s.bist := rfl
@[simp] theorem State.setRoute_sec (src dst : Nat) (alt : Bool) (w : Wide) : (s.setRoute src dst alt w).sec = s.sec := rfl
@[simp] theorem State.setRoute_dump (src dst : Nat) (alt : Bool) (w : Wide) : (s.setRoute src dst alt w).dump = s.dump := rfl
@[simp] theorem State.setRoute_cfg (src dst : Nat) (alt : Bool) (w : Wide) : (s.setRoute src dst alt w).cfg = s.cfg := rfl
@[simp] theorem State.setRoute_hif (src dst : Nat) (alt : Bool) (w : Wide) : (s.setRoute src dst alt w).hif = s.hif := rfl
@[simp] theorem State.setRoute_jtag (src dst : Nat) (alt : Bool) (w : Wide) : (s.setRoute src dst alt w).jtag = s.jtag := rfl
@[simp] theorem State.setRoute_aux (src dst : Nat) (alt : Bool) (w : Wide) : (s.setRoute src dst alt w).aux = s.aux := rfl
@[simp] theorem State.setRoute_pwr (src dst : Nat) (alt : Bool) (w : Wide) : (s.setRoute src dst alt w).pwr = s.pwr := rfl
@[simp] theorem State.setRoute_rdata (src dst : Nat) (alt : Bool) (w : Wide) : (s.setRoute src dst alt w).rdata = s.rdata := rfl

@[simp] theorem State.addReq_pending (q : NocReq) : (s.addReq q).pending = s.pending := rfl
@[simp] theorem State.addReq_free (q : NocReq) : (s.addReq q).free = s.free := rfl
@[simp] theorem State.addReq_f128 (q : NocReq) : (s.addReq q).f128 = s.f128 := rfl
@[simp] theorem State.addReq_dev (q : NocReq) : (s.addReq q).dev = s.dev := rfl
@[simp] theorem State.addReq_devFault (q : NocReq) : (s.addReq q).devFault = s.devFault := rfl
@[simp] theorem State.addReq_tick (q : NocReq) : (s.addReq q).tick = s.tick := rfl
@[simp] theorem State.addReq_fckOn (q : NocReq) : (s.addReq q).fckOn = s.fckOn := rfl
@[simp] theorem State.addReq_fckStop (q : NocReq) : (s.addReq q).fckStop = s.fckStop := rfl
@[simp] theorem State.addReq_fckSet (q : NocReq) : (s.addReq q).fckSet = s.fckSet := rfl
@[simp] theorem State.addReq_fckNew (q : NocReq) : (s.addReq q).fckNew = s.fckNew := rfl
@[simp] theorem State.addReq_regs (q : NocReq) : (s.addReq q).regs = s.regs := rfl
@[simp] theorem State.addReq_latch (q : NocReq) : (s.addReq q).latch = s.latch := rfl
@[simp] theorem State.addReq_mem (q : NocReq) : (s.addReq q).mem = s.mem := rfl
@[simp] theorem State.addReq_hmem (q : NocReq) : (s.addReq q).hmem = s.hmem := rfl
@[simp] theorem State.addReq_msix (q : NocReq) : (s.addReq q).msix = s.msix := rfl
@[simp] theorem State.addReq_err (q : NocReq) : (s.addReq q).err = s.err := rfl
@[simp] theorem State.addReq_fab (q : NocReq) : (s.addReq q).fab = s.fab := rfl
@[simp] theorem State.addReq_psq (q : NocReq) : (s.addReq q).psq = s.psq := rfl
@[simp] theorem State.addReq_slices (q : NocReq) : (s.addReq q).slices = s.slices := rfl
@[simp] theorem State.addReq_pslLost (q : NocReq) : (s.addReq q).pslLost = s.pslLost := rfl
@[simp] theorem State.addReq_sources (q : NocReq) : (s.addReq q).sources = s.sources := rfl
@[simp] theorem State.addReq_queues (q : NocReq) : (s.addReq q).queues = s.queues := rfl
@[simp] theorem State.addReq_streams (q : NocReq) : (s.addReq q).streams = s.streams := rfl
@[simp] theorem State.addReq_xPkts (q : NocReq) : (s.addReq q).xPkts = s.xPkts := rfl
@[simp] theorem State.addReq_slv (q : NocReq) : (s.addReq q).slv = s.slv := rfl
@[simp] theorem State.addReq_csc (q : NocReq) : (s.addReq q).csc = s.csc := rfl
@[simp] theorem State.addReq_bist (q : NocReq) : (s.addReq q).bist = s.bist := rfl
@[simp] theorem State.addReq_sec (q : NocReq) : (s.addReq q).sec = s.sec := rfl
@[simp] theorem State.addReq_dump (q : NocReq) : (s.addReq q).dump = s.dump := rfl
@[simp] theorem State.addReq_cfg (q : NocReq) : (s.addReq q).cfg = s.cfg := rfl
@[simp] theorem State.addReq_hif (q : NocReq) : (s.addReq q).hif = s.hif := rfl
@[simp] theorem State.addReq_jtag (q : NocReq) : (s.addReq q).jtag = s.jtag := rfl
@[simp] theorem State.addReq_aux (q : NocReq) : (s.addReq q).aux = s.aux := rfl
@[simp] theorem State.addReq_pwr (q : NocReq) : (s.addReq q).pwr = s.pwr := rfl
@[simp] theorem State.addReq_rdata (q : NocReq) : (s.addReq q).rdata = s.rdata := rfl

@[simp] theorem State.putReq_pending (q : NocReq) : (s.putReq q).pending = s.pending := rfl
@[simp] theorem State.putReq_free (q : NocReq) : (s.putReq q).free = s.free := rfl
@[simp] theorem State.putReq_f128 (q : NocReq) : (s.putReq q).f128 = s.f128 := rfl
@[simp] theorem State.putReq_dev (q : NocReq) : (s.putReq q).dev = s.dev := rfl
@[simp] theorem State.putReq_devFault (q : NocReq) : (s.putReq q).devFault = s.devFault := rfl
@[simp] theorem State.putReq_tick (q : NocReq) : (s.putReq q).tick = s.tick := rfl
@[simp] theorem State.putReq_fckOn (q : NocReq) : (s.putReq q).fckOn = s.fckOn := rfl
@[simp] theorem State.putReq_fckStop (q : NocReq) : (s.putReq q).fckStop = s.fckStop := rfl
@[simp] theorem State.putReq_fckSet (q : NocReq) : (s.putReq q).fckSet = s.fckSet := rfl
@[simp] theorem State.putReq_fckNew (q : NocReq) : (s.putReq q).fckNew = s.fckNew := rfl
@[simp] theorem State.putReq_regs (q : NocReq) : (s.putReq q).regs = s.regs := rfl
@[simp] theorem State.putReq_latch (q : NocReq) : (s.putReq q).latch = s.latch := rfl
@[simp] theorem State.putReq_mem (q : NocReq) : (s.putReq q).mem = s.mem := rfl
@[simp] theorem State.putReq_hmem (q : NocReq) : (s.putReq q).hmem = s.hmem := rfl
@[simp] theorem State.putReq_msix (q : NocReq) : (s.putReq q).msix = s.msix := rfl
@[simp] theorem State.putReq_err (q : NocReq) : (s.putReq q).err = s.err := rfl
@[simp] theorem State.putReq_fab (q : NocReq) : (s.putReq q).fab = s.fab := rfl
@[simp] theorem State.putReq_psq (q : NocReq) : (s.putReq q).psq = s.psq := rfl
@[simp] theorem State.putReq_slices (q : NocReq) : (s.putReq q).slices = s.slices := rfl
@[simp] theorem State.putReq_pslLost (q : NocReq) : (s.putReq q).pslLost = s.pslLost := rfl
@[simp] theorem State.putReq_sources (q : NocReq) : (s.putReq q).sources = s.sources := rfl
@[simp] theorem State.putReq_queues (q : NocReq) : (s.putReq q).queues = s.queues := rfl
@[simp] theorem State.putReq_streams (q : NocReq) : (s.putReq q).streams = s.streams := rfl
@[simp] theorem State.putReq_xPkts (q : NocReq) : (s.putReq q).xPkts = s.xPkts := rfl
@[simp] theorem State.putReq_slv (q : NocReq) : (s.putReq q).slv = s.slv := rfl
@[simp] theorem State.putReq_csc (q : NocReq) : (s.putReq q).csc = s.csc := rfl
@[simp] theorem State.putReq_bist (q : NocReq) : (s.putReq q).bist = s.bist := rfl
@[simp] theorem State.putReq_sec (q : NocReq) : (s.putReq q).sec = s.sec := rfl
@[simp] theorem State.putReq_dump (q : NocReq) : (s.putReq q).dump = s.dump := rfl
@[simp] theorem State.putReq_cfg (q : NocReq) : (s.putReq q).cfg = s.cfg := rfl
@[simp] theorem State.putReq_hif (q : NocReq) : (s.putReq q).hif = s.hif := rfl
@[simp] theorem State.putReq_jtag (q : NocReq) : (s.putReq q).jtag = s.jtag := rfl
@[simp] theorem State.putReq_aux (q : NocReq) : (s.putReq q).aux = s.aux := rfl
@[simp] theorem State.putReq_pwr (q : NocReq) : (s.putReq q).pwr = s.pwr := rfl
@[simp] theorem State.putReq_rdata (q : NocReq) : (s.putReq q).rdata = s.rdata := rfl

@[simp] theorem State.dropReq_pending (ni tag : Nat) : (s.dropReq ni tag).pending = s.pending := rfl
@[simp] theorem State.dropReq_free (ni tag : Nat) : (s.dropReq ni tag).free = s.free := rfl
@[simp] theorem State.dropReq_f128 (ni tag : Nat) : (s.dropReq ni tag).f128 = s.f128 := rfl
@[simp] theorem State.dropReq_dev (ni tag : Nat) : (s.dropReq ni tag).dev = s.dev := rfl
@[simp] theorem State.dropReq_devFault (ni tag : Nat) : (s.dropReq ni tag).devFault = s.devFault := rfl
@[simp] theorem State.dropReq_tick (ni tag : Nat) : (s.dropReq ni tag).tick = s.tick := rfl
@[simp] theorem State.dropReq_fckOn (ni tag : Nat) : (s.dropReq ni tag).fckOn = s.fckOn := rfl
@[simp] theorem State.dropReq_fckStop (ni tag : Nat) : (s.dropReq ni tag).fckStop = s.fckStop := rfl
@[simp] theorem State.dropReq_fckSet (ni tag : Nat) : (s.dropReq ni tag).fckSet = s.fckSet := rfl
@[simp] theorem State.dropReq_fckNew (ni tag : Nat) : (s.dropReq ni tag).fckNew = s.fckNew := rfl
@[simp] theorem State.dropReq_regs (ni tag : Nat) : (s.dropReq ni tag).regs = s.regs := rfl
@[simp] theorem State.dropReq_latch (ni tag : Nat) : (s.dropReq ni tag).latch = s.latch := rfl
@[simp] theorem State.dropReq_mem (ni tag : Nat) : (s.dropReq ni tag).mem = s.mem := rfl
@[simp] theorem State.dropReq_hmem (ni tag : Nat) : (s.dropReq ni tag).hmem = s.hmem := rfl
@[simp] theorem State.dropReq_msix (ni tag : Nat) : (s.dropReq ni tag).msix = s.msix := rfl
@[simp] theorem State.dropReq_err (ni tag : Nat) : (s.dropReq ni tag).err = s.err := rfl
@[simp] theorem State.dropReq_fab (ni tag : Nat) : (s.dropReq ni tag).fab = s.fab := rfl
@[simp] theorem State.dropReq_psq (ni tag : Nat) : (s.dropReq ni tag).psq = s.psq := rfl
@[simp] theorem State.dropReq_slices (ni tag : Nat) : (s.dropReq ni tag).slices = s.slices := rfl
@[simp] theorem State.dropReq_pslLost (ni tag : Nat) : (s.dropReq ni tag).pslLost = s.pslLost := rfl
@[simp] theorem State.dropReq_sources (ni tag : Nat) : (s.dropReq ni tag).sources = s.sources := rfl
@[simp] theorem State.dropReq_queues (ni tag : Nat) : (s.dropReq ni tag).queues = s.queues := rfl
@[simp] theorem State.dropReq_streams (ni tag : Nat) : (s.dropReq ni tag).streams = s.streams := rfl
@[simp] theorem State.dropReq_xPkts (ni tag : Nat) : (s.dropReq ni tag).xPkts = s.xPkts := rfl
@[simp] theorem State.dropReq_slv (ni tag : Nat) : (s.dropReq ni tag).slv = s.slv := rfl
@[simp] theorem State.dropReq_csc (ni tag : Nat) : (s.dropReq ni tag).csc = s.csc := rfl
@[simp] theorem State.dropReq_bist (ni tag : Nat) : (s.dropReq ni tag).bist = s.bist := rfl
@[simp] theorem State.dropReq_sec (ni tag : Nat) : (s.dropReq ni tag).sec = s.sec := rfl
@[simp] theorem State.dropReq_dump (ni tag : Nat) : (s.dropReq ni tag).dump = s.dump := rfl
@[simp] theorem State.dropReq_cfg (ni tag : Nat) : (s.dropReq ni tag).cfg = s.cfg := rfl
@[simp] theorem State.dropReq_hif (ni tag : Nat) : (s.dropReq ni tag).hif = s.hif := rfl
@[simp] theorem State.dropReq_jtag (ni tag : Nat) : (s.dropReq ni tag).jtag = s.jtag := rfl
@[simp] theorem State.dropReq_aux (ni tag : Nat) : (s.dropReq ni tag).aux = s.aux := rfl
@[simp] theorem State.dropReq_pwr (ni tag : Nat) : (s.dropReq ni tag).pwr = s.pwr := rfl
@[simp] theorem State.dropReq_rdata (ni tag : Nat) : (s.dropReq ni tag).rdata = s.rdata := rfl

@[simp] theorem State.setLane_pending (l : Nat) (v : SlvLane) : (s.setLane l v).pending = s.pending := rfl
@[simp] theorem State.setLane_free (l : Nat) (v : SlvLane) : (s.setLane l v).free = s.free := rfl
@[simp] theorem State.setLane_f128 (l : Nat) (v : SlvLane) : (s.setLane l v).f128 = s.f128 := rfl
@[simp] theorem State.setLane_dev (l : Nat) (v : SlvLane) : (s.setLane l v).dev = s.dev := rfl
@[simp] theorem State.setLane_devFault (l : Nat) (v : SlvLane) : (s.setLane l v).devFault = s.devFault := rfl
@[simp] theorem State.setLane_tick (l : Nat) (v : SlvLane) : (s.setLane l v).tick = s.tick := rfl
@[simp] theorem State.setLane_fckOn (l : Nat) (v : SlvLane) : (s.setLane l v).fckOn = s.fckOn := rfl
@[simp] theorem State.setLane_fckStop (l : Nat) (v : SlvLane) : (s.setLane l v).fckStop = s.fckStop := rfl
@[simp] theorem State.setLane_fckSet (l : Nat) (v : SlvLane) : (s.setLane l v).fckSet = s.fckSet := rfl
@[simp] theorem State.setLane_fckNew (l : Nat) (v : SlvLane) : (s.setLane l v).fckNew = s.fckNew := rfl
@[simp] theorem State.setLane_regs (l : Nat) (v : SlvLane) : (s.setLane l v).regs = s.regs := rfl
@[simp] theorem State.setLane_latch (l : Nat) (v : SlvLane) : (s.setLane l v).latch = s.latch := rfl
@[simp] theorem State.setLane_mem (l : Nat) (v : SlvLane) : (s.setLane l v).mem = s.mem := rfl
@[simp] theorem State.setLane_hmem (l : Nat) (v : SlvLane) : (s.setLane l v).hmem = s.hmem := rfl
@[simp] theorem State.setLane_msix (l : Nat) (v : SlvLane) : (s.setLane l v).msix = s.msix := rfl
@[simp] theorem State.setLane_err (l : Nat) (v : SlvLane) : (s.setLane l v).err = s.err := rfl
@[simp] theorem State.setLane_fab (l : Nat) (v : SlvLane) : (s.setLane l v).fab = s.fab := rfl
@[simp] theorem State.setLane_psq (l : Nat) (v : SlvLane) : (s.setLane l v).psq = s.psq := rfl
@[simp] theorem State.setLane_slices (l : Nat) (v : SlvLane) : (s.setLane l v).slices = s.slices := rfl
@[simp] theorem State.setLane_pslLost (l : Nat) (v : SlvLane) : (s.setLane l v).pslLost = s.pslLost := rfl
@[simp] theorem State.setLane_sources (l : Nat) (v : SlvLane) : (s.setLane l v).sources = s.sources := rfl
@[simp] theorem State.setLane_queues (l : Nat) (v : SlvLane) : (s.setLane l v).queues = s.queues := rfl
@[simp] theorem State.setLane_streams (l : Nat) (v : SlvLane) : (s.setLane l v).streams = s.streams := rfl
@[simp] theorem State.setLane_xPkts (l : Nat) (v : SlvLane) : (s.setLane l v).xPkts = s.xPkts := rfl
@[simp] theorem State.setLane_csc (l : Nat) (v : SlvLane) : (s.setLane l v).csc = s.csc := rfl
@[simp] theorem State.setLane_bist (l : Nat) (v : SlvLane) : (s.setLane l v).bist = s.bist := rfl
@[simp] theorem State.setLane_sec (l : Nat) (v : SlvLane) : (s.setLane l v).sec = s.sec := rfl
@[simp] theorem State.setLane_dump (l : Nat) (v : SlvLane) : (s.setLane l v).dump = s.dump := rfl
@[simp] theorem State.setLane_noc (l : Nat) (v : SlvLane) : (s.setLane l v).noc = s.noc := rfl
@[simp] theorem State.setLane_cfg (l : Nat) (v : SlvLane) : (s.setLane l v).cfg = s.cfg := rfl
@[simp] theorem State.setLane_hif (l : Nat) (v : SlvLane) : (s.setLane l v).hif = s.hif := rfl
@[simp] theorem State.setLane_jtag (l : Nat) (v : SlvLane) : (s.setLane l v).jtag = s.jtag := rfl
@[simp] theorem State.setLane_aux (l : Nat) (v : SlvLane) : (s.setLane l v).aux = s.aux := rfl
@[simp] theorem State.setLane_pwr (l : Nat) (v : SlvLane) : (s.setLane l v).pwr = s.pwr := rfl
@[simp] theorem State.setLane_rdata (l : Nat) (v : SlvLane) : (s.setLane l v).rdata = s.rdata := rfl

@[simp] theorem State.setSrgn_pending (g : Nat) (v : SlvRgn) : (s.setSrgn g v).pending = s.pending := rfl
@[simp] theorem State.setSrgn_free (g : Nat) (v : SlvRgn) : (s.setSrgn g v).free = s.free := rfl
@[simp] theorem State.setSrgn_f128 (g : Nat) (v : SlvRgn) : (s.setSrgn g v).f128 = s.f128 := rfl
@[simp] theorem State.setSrgn_dev (g : Nat) (v : SlvRgn) : (s.setSrgn g v).dev = s.dev := rfl
@[simp] theorem State.setSrgn_devFault (g : Nat) (v : SlvRgn) : (s.setSrgn g v).devFault = s.devFault := rfl
@[simp] theorem State.setSrgn_tick (g : Nat) (v : SlvRgn) : (s.setSrgn g v).tick = s.tick := rfl
@[simp] theorem State.setSrgn_fckOn (g : Nat) (v : SlvRgn) : (s.setSrgn g v).fckOn = s.fckOn := rfl
@[simp] theorem State.setSrgn_fckStop (g : Nat) (v : SlvRgn) : (s.setSrgn g v).fckStop = s.fckStop := rfl
@[simp] theorem State.setSrgn_fckSet (g : Nat) (v : SlvRgn) : (s.setSrgn g v).fckSet = s.fckSet := rfl
@[simp] theorem State.setSrgn_fckNew (g : Nat) (v : SlvRgn) : (s.setSrgn g v).fckNew = s.fckNew := rfl
@[simp] theorem State.setSrgn_regs (g : Nat) (v : SlvRgn) : (s.setSrgn g v).regs = s.regs := rfl
@[simp] theorem State.setSrgn_latch (g : Nat) (v : SlvRgn) : (s.setSrgn g v).latch = s.latch := rfl
@[simp] theorem State.setSrgn_mem (g : Nat) (v : SlvRgn) : (s.setSrgn g v).mem = s.mem := rfl
@[simp] theorem State.setSrgn_hmem (g : Nat) (v : SlvRgn) : (s.setSrgn g v).hmem = s.hmem := rfl
@[simp] theorem State.setSrgn_msix (g : Nat) (v : SlvRgn) : (s.setSrgn g v).msix = s.msix := rfl
@[simp] theorem State.setSrgn_err (g : Nat) (v : SlvRgn) : (s.setSrgn g v).err = s.err := rfl
@[simp] theorem State.setSrgn_fab (g : Nat) (v : SlvRgn) : (s.setSrgn g v).fab = s.fab := rfl
@[simp] theorem State.setSrgn_psq (g : Nat) (v : SlvRgn) : (s.setSrgn g v).psq = s.psq := rfl
@[simp] theorem State.setSrgn_slices (g : Nat) (v : SlvRgn) : (s.setSrgn g v).slices = s.slices := rfl
@[simp] theorem State.setSrgn_pslLost (g : Nat) (v : SlvRgn) : (s.setSrgn g v).pslLost = s.pslLost := rfl
@[simp] theorem State.setSrgn_sources (g : Nat) (v : SlvRgn) : (s.setSrgn g v).sources = s.sources := rfl
@[simp] theorem State.setSrgn_queues (g : Nat) (v : SlvRgn) : (s.setSrgn g v).queues = s.queues := rfl
@[simp] theorem State.setSrgn_streams (g : Nat) (v : SlvRgn) : (s.setSrgn g v).streams = s.streams := rfl
@[simp] theorem State.setSrgn_xPkts (g : Nat) (v : SlvRgn) : (s.setSrgn g v).xPkts = s.xPkts := rfl
@[simp] theorem State.setSrgn_csc (g : Nat) (v : SlvRgn) : (s.setSrgn g v).csc = s.csc := rfl
@[simp] theorem State.setSrgn_bist (g : Nat) (v : SlvRgn) : (s.setSrgn g v).bist = s.bist := rfl
@[simp] theorem State.setSrgn_sec (g : Nat) (v : SlvRgn) : (s.setSrgn g v).sec = s.sec := rfl
@[simp] theorem State.setSrgn_dump (g : Nat) (v : SlvRgn) : (s.setSrgn g v).dump = s.dump := rfl
@[simp] theorem State.setSrgn_noc (g : Nat) (v : SlvRgn) : (s.setSrgn g v).noc = s.noc := rfl
@[simp] theorem State.setSrgn_cfg (g : Nat) (v : SlvRgn) : (s.setSrgn g v).cfg = s.cfg := rfl
@[simp] theorem State.setSrgn_hif (g : Nat) (v : SlvRgn) : (s.setSrgn g v).hif = s.hif := rfl
@[simp] theorem State.setSrgn_jtag (g : Nat) (v : SlvRgn) : (s.setSrgn g v).jtag = s.jtag := rfl
@[simp] theorem State.setSrgn_aux (g : Nat) (v : SlvRgn) : (s.setSrgn g v).aux = s.aux := rfl
@[simp] theorem State.setSrgn_pwr (g : Nat) (v : SlvRgn) : (s.setSrgn g v).pwr = s.pwr := rfl
@[simp] theorem State.setSrgn_rdata (g : Nat) (v : SlvRgn) : (s.setSrgn g v).rdata = s.rdata := rfl

@[simp] theorem State.setCport_pending (p : Nat) (v : CscPort) : (s.setCport p v).pending = s.pending := rfl
@[simp] theorem State.setCport_free (p : Nat) (v : CscPort) : (s.setCport p v).free = s.free := rfl
@[simp] theorem State.setCport_f128 (p : Nat) (v : CscPort) : (s.setCport p v).f128 = s.f128 := rfl
@[simp] theorem State.setCport_dev (p : Nat) (v : CscPort) : (s.setCport p v).dev = s.dev := rfl
@[simp] theorem State.setCport_devFault (p : Nat) (v : CscPort) : (s.setCport p v).devFault = s.devFault := rfl
@[simp] theorem State.setCport_tick (p : Nat) (v : CscPort) : (s.setCport p v).tick = s.tick := rfl
@[simp] theorem State.setCport_fckOn (p : Nat) (v : CscPort) : (s.setCport p v).fckOn = s.fckOn := rfl
@[simp] theorem State.setCport_fckStop (p : Nat) (v : CscPort) : (s.setCport p v).fckStop = s.fckStop := rfl
@[simp] theorem State.setCport_fckSet (p : Nat) (v : CscPort) : (s.setCport p v).fckSet = s.fckSet := rfl
@[simp] theorem State.setCport_fckNew (p : Nat) (v : CscPort) : (s.setCport p v).fckNew = s.fckNew := rfl
@[simp] theorem State.setCport_regs (p : Nat) (v : CscPort) : (s.setCport p v).regs = s.regs := rfl
@[simp] theorem State.setCport_latch (p : Nat) (v : CscPort) : (s.setCport p v).latch = s.latch := rfl
@[simp] theorem State.setCport_mem (p : Nat) (v : CscPort) : (s.setCport p v).mem = s.mem := rfl
@[simp] theorem State.setCport_hmem (p : Nat) (v : CscPort) : (s.setCport p v).hmem = s.hmem := rfl
@[simp] theorem State.setCport_msix (p : Nat) (v : CscPort) : (s.setCport p v).msix = s.msix := rfl
@[simp] theorem State.setCport_err (p : Nat) (v : CscPort) : (s.setCport p v).err = s.err := rfl
@[simp] theorem State.setCport_fab (p : Nat) (v : CscPort) : (s.setCport p v).fab = s.fab := rfl
@[simp] theorem State.setCport_psq (p : Nat) (v : CscPort) : (s.setCport p v).psq = s.psq := rfl
@[simp] theorem State.setCport_slices (p : Nat) (v : CscPort) : (s.setCport p v).slices = s.slices := rfl
@[simp] theorem State.setCport_pslLost (p : Nat) (v : CscPort) : (s.setCport p v).pslLost = s.pslLost := rfl
@[simp] theorem State.setCport_sources (p : Nat) (v : CscPort) : (s.setCport p v).sources = s.sources := rfl
@[simp] theorem State.setCport_queues (p : Nat) (v : CscPort) : (s.setCport p v).queues = s.queues := rfl
@[simp] theorem State.setCport_streams (p : Nat) (v : CscPort) : (s.setCport p v).streams = s.streams := rfl
@[simp] theorem State.setCport_xPkts (p : Nat) (v : CscPort) : (s.setCport p v).xPkts = s.xPkts := rfl
@[simp] theorem State.setCport_slv (p : Nat) (v : CscPort) : (s.setCport p v).slv = s.slv := rfl
@[simp] theorem State.setCport_bist (p : Nat) (v : CscPort) : (s.setCport p v).bist = s.bist := rfl
@[simp] theorem State.setCport_sec (p : Nat) (v : CscPort) : (s.setCport p v).sec = s.sec := rfl
@[simp] theorem State.setCport_dump (p : Nat) (v : CscPort) : (s.setCport p v).dump = s.dump := rfl
@[simp] theorem State.setCport_noc (p : Nat) (v : CscPort) : (s.setCport p v).noc = s.noc := rfl
@[simp] theorem State.setCport_cfg (p : Nat) (v : CscPort) : (s.setCport p v).cfg = s.cfg := rfl
@[simp] theorem State.setCport_hif (p : Nat) (v : CscPort) : (s.setCport p v).hif = s.hif := rfl
@[simp] theorem State.setCport_jtag (p : Nat) (v : CscPort) : (s.setCport p v).jtag = s.jtag := rfl
@[simp] theorem State.setCport_aux (p : Nat) (v : CscPort) : (s.setCport p v).aux = s.aux := rfl
@[simp] theorem State.setCport_pwr (p : Nat) (v : CscPort) : (s.setCport p v).pwr = s.pwr := rfl
@[simp] theorem State.setCport_rdata (p : Nat) (v : CscPort) : (s.setCport p v).rdata = s.rdata := rfl

@[simp] theorem State.setMemByte_pending (a : Nat) (b : Byte) : (s.setMemByte a b).pending = s.pending := rfl
@[simp] theorem State.setMemByte_free (a : Nat) (b : Byte) : (s.setMemByte a b).free = s.free := rfl
@[simp] theorem State.setMemByte_f128 (a : Nat) (b : Byte) : (s.setMemByte a b).f128 = s.f128 := rfl
@[simp] theorem State.setMemByte_dev (a : Nat) (b : Byte) : (s.setMemByte a b).dev = s.dev := rfl
@[simp] theorem State.setMemByte_devFault (a : Nat) (b : Byte) : (s.setMemByte a b).devFault = s.devFault := rfl
@[simp] theorem State.setMemByte_tick (a : Nat) (b : Byte) : (s.setMemByte a b).tick = s.tick := rfl
@[simp] theorem State.setMemByte_fckOn (a : Nat) (b : Byte) : (s.setMemByte a b).fckOn = s.fckOn := rfl
@[simp] theorem State.setMemByte_fckStop (a : Nat) (b : Byte) : (s.setMemByte a b).fckStop = s.fckStop := rfl
@[simp] theorem State.setMemByte_fckSet (a : Nat) (b : Byte) : (s.setMemByte a b).fckSet = s.fckSet := rfl
@[simp] theorem State.setMemByte_fckNew (a : Nat) (b : Byte) : (s.setMemByte a b).fckNew = s.fckNew := rfl
@[simp] theorem State.setMemByte_regs (a : Nat) (b : Byte) : (s.setMemByte a b).regs = s.regs := rfl
@[simp] theorem State.setMemByte_latch (a : Nat) (b : Byte) : (s.setMemByte a b).latch = s.latch := rfl
@[simp] theorem State.setMemByte_hmem (a : Nat) (b : Byte) : (s.setMemByte a b).hmem = s.hmem := rfl
@[simp] theorem State.setMemByte_msix (a : Nat) (b : Byte) : (s.setMemByte a b).msix = s.msix := rfl
@[simp] theorem State.setMemByte_err (a : Nat) (b : Byte) : (s.setMemByte a b).err = s.err := rfl
@[simp] theorem State.setMemByte_fab (a : Nat) (b : Byte) : (s.setMemByte a b).fab = s.fab := rfl
@[simp] theorem State.setMemByte_psq (a : Nat) (b : Byte) : (s.setMemByte a b).psq = s.psq := rfl
@[simp] theorem State.setMemByte_slices (a : Nat) (b : Byte) : (s.setMemByte a b).slices = s.slices := rfl
@[simp] theorem State.setMemByte_pslLost (a : Nat) (b : Byte) : (s.setMemByte a b).pslLost = s.pslLost := rfl
@[simp] theorem State.setMemByte_sources (a : Nat) (b : Byte) : (s.setMemByte a b).sources = s.sources := rfl
@[simp] theorem State.setMemByte_queues (a : Nat) (b : Byte) : (s.setMemByte a b).queues = s.queues := rfl
@[simp] theorem State.setMemByte_streams (a : Nat) (b : Byte) : (s.setMemByte a b).streams = s.streams := rfl
@[simp] theorem State.setMemByte_xPkts (a : Nat) (b : Byte) : (s.setMemByte a b).xPkts = s.xPkts := rfl
@[simp] theorem State.setMemByte_slv (a : Nat) (b : Byte) : (s.setMemByte a b).slv = s.slv := rfl
@[simp] theorem State.setMemByte_csc (a : Nat) (b : Byte) : (s.setMemByte a b).csc = s.csc := rfl
@[simp] theorem State.setMemByte_bist (a : Nat) (b : Byte) : (s.setMemByte a b).bist = s.bist := rfl
@[simp] theorem State.setMemByte_sec (a : Nat) (b : Byte) : (s.setMemByte a b).sec = s.sec := rfl
@[simp] theorem State.setMemByte_dump (a : Nat) (b : Byte) : (s.setMemByte a b).dump = s.dump := rfl
@[simp] theorem State.setMemByte_noc (a : Nat) (b : Byte) : (s.setMemByte a b).noc = s.noc := rfl
@[simp] theorem State.setMemByte_cfg (a : Nat) (b : Byte) : (s.setMemByte a b).cfg = s.cfg := rfl
@[simp] theorem State.setMemByte_hif (a : Nat) (b : Byte) : (s.setMemByte a b).hif = s.hif := rfl
@[simp] theorem State.setMemByte_jtag (a : Nat) (b : Byte) : (s.setMemByte a b).jtag = s.jtag := rfl
@[simp] theorem State.setMemByte_aux (a : Nat) (b : Byte) : (s.setMemByte a b).aux = s.aux := rfl
@[simp] theorem State.setMemByte_pwr (a : Nat) (b : Byte) : (s.setMemByte a b).pwr = s.pwr := rfl
@[simp] theorem State.setMemByte_rdata (a : Nat) (b : Byte) : (s.setMemByte a b).rdata = s.rdata := rfl

end Sys2Proof.Machine
end

