-- ==== Sys2Proof/Laws/Regs.lean ====
section
/-! SUPPORT. Registers and their fields: what a field reads after a field is written. -/

namespace Sys2Proof.Machine

/-- The registers are in canonical form. -/
abbrev State.regsWf (s : State) : Prop := mwf resetVal s.regs = true

theorem State.regsWf_setReg {s : State} (off : Nat) (v : Wide) (h : s.regsWf) : (s.setReg off v).regsWf :=
  mwf_mset resetVal off v s.regs h

theorem State.regsWf_setFld {s : State} (f : Fld) (x : Nat) (h : s.regsWf) : (s.setFld f x).regsWf :=
  State.regsWf_setReg _ _ h

theorem State.reg_setReg {s : State} (off : Nat) (v : Wide) (h : s.regsWf) : (s.setReg off v).reg off = v :=
  mget_mset_same resetVal off v s.regs h

theorem State.reg_setReg_ne (s : State) {off o : Nat} (v : Wide) (h : o ≠ off) : (s.setReg off v).reg o = s.reg o :=
  mget_mset_ne resetVal v h s.regs

theorem State.reg_setFld_ne (s : State) {f : Fld} {o : Nat} (x : Nat) (h : o ≠ f.off) : (s.setFld f x).reg o = s.reg o :=
  State.reg_setReg_ne s _ h

theorem testBit_maskBits (lo w i : Nat) (h : lo + w ≤ 64) : (maskBits lo w).getLsbD i = (decide (lo ≤ i) && decide (i < lo + w)) := by
  simp only [maskBits, BitVec.getLsbD_shiftLeft, BitVec.getLsbD_ofNat, Nat.testBit_two_pow_sub_one]
  by_cases hi : i < 64 <;> by_cases hl : lo ≤ i <;> by_cases hw : i < lo + w <;>
    first
    | omega
    | simp [hi, hl, hw, show ¬ i < lo by omega, show i - lo < 64 by omega, show i - lo < w by omega]
    | simp [hi, hl, hw, show ¬ i < lo by omega, show ¬ i - lo < w by omega]
    | simp [hi, hl, hw, show i < lo by omega]

theorem testBit_getBits (v : Wide) (lo w i : Nat) : (getBits v lo w).testBit i = (decide (i < w) && v.getLsbD (lo + i)) := by
  simp [getBits, Nat.testBit_mod_two_pow, Nat.testBit_shiftRight, BitVec.getLsbD]

theorem getLsbD_putBits (v : Wide) (lo w x i : Nat) (h : lo + w ≤ 64) :
    (putBits v lo w x).getLsbD i = if lo ≤ i ∧ i < lo + w then x.testBit (i - lo) else v.getLsbD i := by
  simp only [putBits, BitVec.getLsbD_or, BitVec.getLsbD_and, BitVec.getLsbD_not, testBit_maskBits lo w i h, BitVec.getLsbD_shiftLeft,
    BitVec.getLsbD_ofNat, Nat.testBit_mod_two_pow]
  by_cases hi : i < 64
  · by_cases hl : lo ≤ i <;> by_cases hw : i < lo + w
    · simp only [hi, hl, hw, show ¬ i < lo by omega, show i - lo < 64 by omega, show i - lo < w by omega]; simp
    · simp only [hi, hl, hw, show ¬ i < lo by omega, show i - lo < 64 by omega, show ¬ i - lo < w by omega]; simp
    · simp only [hi, hl, hw, show i < lo by omega]; simp
    · omega
  · have h2 : ¬ (lo ≤ i ∧ i < lo + w) := by omega
    simp [BitVec.getLsbD_of_ge v i (by omega), hi, h2]

/-- A field reads the low bits of what was put into it. -/
theorem getBits_putBits (v : Wide) (lo w x : Nat) (h : lo + w ≤ 64) : getBits (putBits v lo w x) lo w = x % 2 ^ w := by
  apply Nat.eq_of_testBit_eq
  intro i
  rw [testBit_getBits, getLsbD_putBits v lo w x (lo + i) h, Nat.testBit_mod_two_pow]
  by_cases hi : i < w <;> simp [hi]

/-- A field apart from the one written keeps its value. -/
theorem getBits_putBits_ne (v : Wide) (lo w x lo' w' : Nat) (h : lo + w ≤ 64) (hd : lo' + w' ≤ lo ∨ lo + w ≤ lo') :
    getBits (putBits v lo w x) lo' w' = getBits v lo' w' := by
  apply Nat.eq_of_testBit_eq
  intro i
  rw [testBit_getBits, testBit_getBits, getLsbD_putBits v lo w x (lo' + i) h]
  by_cases hi : i < w'
  · have : ¬ (lo ≤ lo' + i ∧ lo' + i < lo + w) := by omega
    simp [this]
  · simp [hi]

/-- A field just written reads the value written, cut to its width. -/
theorem State.fld_setFld {s : State} (f : Fld) (x : Nat) (h : s.regsWf) (hf : f.lo + f.w ≤ 64) : (s.setFld f x).fld f = x % 2 ^ f.w := by
  simp only [State.fld, State.setFld]
  rw [State.reg_setReg _ _ h, getBits_putBits _ _ _ _ hf]

/-- A field of another register, or apart in the same register, keeps its value. -/
theorem State.fld_setFld_ne {s : State} (f g : Fld) (x : Nat) (h : s.regsWf) (hf : f.lo + f.w ≤ 64)
    (hd : g.off ≠ f.off ∨ g.lo + g.w ≤ f.lo ∨ f.lo + f.w ≤ g.lo) : (s.setFld f x).fld g = s.fld g := by
  by_cases ho : g.off = f.off
  · simp only [State.fld, State.setFld, ho]
    rw [State.reg_setReg _ _ h, getBits_putBits_ne _ _ _ _ _ _ hf (hd.resolve_left (fun c => c ho))]
  · simp only [State.fld]
    rw [State.reg_setFld_ne _ _ ho]

/-- A field of another register keeps its value, in any state. -/
theorem State.fld_setFld_off (s : State) (f g : Fld) (x : Nat) (hd : g.off ≠ f.off) : (s.setFld f x).fld g = s.fld g := by
  simp only [State.fld]
  rw [State.reg_setFld_ne _ _ hd]

theorem State.getPsq_setPsq_ne (s : State) {n m : Nat} (p : Psq) (h : m ≠ n) : (s.setPsq n p).getPsq m = s.getPsq m :=
  mget_mset_ne _ p h s.psq

theorem State.getPsq_setPsq {s : State} (n : Nat) (p : Psq) (h : mwf (fun _ => Psq.reset) s.psq = true) : (s.setPsq n p).getPsq n = p :=
  mget_mset_same _ n p s.psq h

end Sys2Proof.Machine
end

