-- ==== Sys2Proof/Certificates/Slice0/Obligations.lean ====
section
/-! DEFINITION. The statements about the UMT-8840 for the provers, and the terms that they are stated in. -/

namespace Sys2Proof.Claims

open Machine

/-- `t` is `s` but for the registers at the BAR0 offsets listed. -/
def onlyRegs (s t : State) (offs : List Nat) : Prop := t = { s with regs := t.regs } ∧ ∀ o, o ∉ offs → t.reg o = s.reg o

/-- `t` is `s` but for the registers at the offsets listed and the error log's intake. -/
def onlyRegsLog (s t : State) (offs : List Nat) : Prop :=
  t = { s with regs := t.regs, err := t.err } ∧ ∀ o, o ∉ offs → t.reg o = s.reg o

/-- A report of `code` with `source` and `detail`, raised once in the present tick of `s` (R535). -/
def reportOf (s : State) (code source detail : Nat) : ErrReport :=
  ⟨BitVec.ofNat 16 code, BitVec.ofNat 32 source, BitVec.ofNat 64 detail, s.tick, s.tick, 1, s.reportMore code source⟩

/-- The error log of `t` is that of `s` after one report. -/
def logs (s t : State) (code source detail : Nat) : Prop := t.err = s.err.enter (reportOf s code source detail)

/-- What the network keeps in `s`, with the host's completion status of `t`: all that an access that is not a write may leave there (R569). -/
abbrev hostNoc (s t : State) : NocState := { s.noc with hostSt := t.noc.hostSt }

/-- What `t` holds in memory, and of what the network keeps, is what `s` would after NI `ni` wrote `bs` at DPA `a` in one command: the bytes, and the snoop filter
without the lines that the write took away (R391). A write to host memory also leaves the host's completion status (R569). -/
def wroteAt (s t : State) (ni a : Nat) (bs : List Byte) : Prop :=
  t.mem = (s.unitWrite ni a bs).mem ∧ t.hmem = (s.unitWrite ni a bs).hmem ∧
  t.noc = { (s.unitWrite ni a bs).noc with hostSt := t.noc.hostSt } ∧ (dpaRange a bs.length ≠ some .hostMem → t.noc.hostSt = s.noc.hostSt)

/-- The canonical forms of a sequencer's register banks, frame headers and pending interrupt sources. -/
abbrev psqWf (p : Psq) : Prop :=
  mwf (fun _ => 0) p.banks = true ∧ mwf (fun _ => none) p.frames = true ∧ mwf (fun _ => none) p.irq = true

/-- The regions, sequencers and pages that a load names exist. -/
abbrev loadInRange (l : CfgLoad) : Prop :=
  (∀ g ∈ l.regions, g < 64) ∧ (∀ c ∈ l.psqCfg, c.1 < 16) ∧ ∀ p ∈ l.pages, p.1 < 16 ∧ p.2 < 16

/-- The canonical forms that reading back what was written rests on: attached memory, host memory as this block wrote it, the registers, the pin slices,
the sequencers, the repair regions and the load in progress. -/
abbrev canonical (s : State) : Prop :=
  mwf memDefault s.mem = true ∧ mwf memDefault s.hmem = true ∧ s.regsWf ∧ mwf (fun _ => Slice.reset) s.slices = true ∧
  mwf (fun _ => Psq.reset) s.psq = true ∧ mwf (fun _ => SlvRgn.reset) s.slv.rgns = true ∧
  (∀ n, psqWf (s.getPsq n)) ∧ ∀ l, s.cfg.load = some l → loadInRange l

end Sys2Proof.Claims

open Sys2Proof Sys2Proof.Machine Sys2Proof.Claims

/-- One step takes the command at the front of the queue and answers what `exec` answers for it on the state with the queue's rest. -/
def Obligations.StepRunsTheFrontCommand : Prop :=
  ∀ (s : State) (c : Instr) (rest : List Instr), step { s with pending := c :: rest } = exec c { s with pending := rest }

/-- The block idles on an empty queue (the model's choice, notes/assumptions/3.md). -/
def Obligations.EmptyQueueIdles : Prop := ∀ s : State, s.pending = [] → step s = .next s

/-- Attached memory, the record of host memory, the registers, the pin slices, the sequencers and the repair regions keep their canonical form through every step. -/
def Obligations.EveryStepKeepsTheCanonicalForms : Prop :=
  ∀ s t : State, canonical s → step s = .next t → canonical t

/-- The state after reset: BOOT with FCK stopped and TICK_COUNT 0, no command waiting, every register at the reset value of its field table, attached
memory with nothing written; and it is canonical.
It also rests on choices of the model: log entries 4, 121, 145. -/
def Obligations.ResetStateIsCanonical : Prop :=
  canonical State.reset ∧ State.reset.pending = [] ∧ State.reset.dev = .boot ∧ State.reset.tick = 0 ∧ State.reset.fckOn = false ∧
  State.reset.mem = [] ∧ (∀ o, State.reset.reg o = resetVal o) ∧ State.reset.glbState = 1 ∧ State.reset.err.wptr = 0 ∧
  (∀ n, State.reset.siteActive n = false)

/-- No command touches the queue of waiting commands. -/
def Obligations.CommandsLeaveTheQueueAlone : Prop :=
  ∀ (c : Instr) (s t : State), exec c s = .next t → t.pending = s.pending

/-- A command whose operands are well formed always answers a next state, in every state; and a command
whose operands are not well formed is refused by that name.
It also rests on choices of the model: log entry 7. -/
def Obligations.WellFormedCommandsAlwaysComplete : Prop :=
  ∀ (c : Instr) (s : State),
    (c.wf = true → ∃ t, exec c s = .next t) ∧ (c.wf = false → exec c s = .refused .illFormed)

/-- TICK_CTRL.CNT_CLR clears TICK_SLIP_CNT; a TICK_UIREP write stores a factor of 1 to 1,024 while its site is not active, is ignored outside
that range and is refused with STATE_REFUSED while the site is active; and the arm that comes next takes the stored factor up (R58). -/
def Obligations.TickCounterAndRepeatWrites : Prop :=
  (∀ (req : Requester) (s : State), s.regsWf →
    ∃ t, exec (.tickCntClr req) s = .next t ∧ t.reg R.TICK_SLIP_CNT = 0 ∧ onlyRegs s t [R.TICK_SLIP_CNT]) ∧
  (∀ (req : Requester) (n : Fin 16) (v : Word) (s : State), s.regsWf → s.siteActive n = false → 1 ≤ v.toNat % 2048 → v.toNat % 2048 ≤ 1024 →
    ∃ t, exec (.tickUirepWrite req n v) s = .next t ∧ t.fld (F.TICK_UIREP.REPEAT n) = v.toNat % 2048 ∧ onlyRegs s t [R.TICK_UIREP n]) ∧
  (∀ (req : Requester) (n : Fin 16) (v : Word) (s : State), s.siteActive n = false → (v.toNat % 2048 = 0 ∨ 1024 < v.toNat % 2048) →
    exec (.tickUirepWrite req n v) s = .next s) ∧
  (∀ (req : Requester) (n : Fin 16) (v : Word) (s : State), s.siteActive n = true →
    ∃ t, exec (.tickUirepWrite req n v) s = .next t ∧ logs s t C.STATE_REFUSED (srcRequester req) (R.TICK_UIREP n) ∧ onlyRegsLog s t []) ∧
  (∀ (n : Fin 16) (s : State), ((s.commitArm n).getPsq n).rep = s.fld (F.TICK_UIREP.REPEAT n) ∧ ((s.commitArm n).getPsq n).mode = .armed)

/-- FCK changes start, complete and fail; slips, a loss of lock and the tick edge do what R44 to R56 say.
It also rests on choices of the model: log entries 14, 114. -/
def Obligations.FckChangesSlipsAndTickEdge : Prop :=
  (∀ (req : Requester) (s : State), s.allows req .fckApply = true → s.bit F.TICK_STAT.FCK_BUSY = false →
      (∀ n < 16, s.siteActive n = false) → s.fld F.CSC_STAT.CSTATE = 0 → s.bit F.CSC_STAT.POLE = false →
      (10000 * s.fld F.TICK_FCK_CFG.POSTDIV < s.pminAll * s.fld F.TICK_FCK_CFG.FBDIV →
        50 ≤ s.fld F.TICK_FCK_CFG.FBDIV → s.fld F.TICK_FCK_CFG.FBDIV ≤ 100 → 4 ≤ s.fld F.TICK_FCK_CFG.POSTDIV →
        s.fld F.TICK_FCK_CFG.POSTDIV ≤ 32 → 800 * s.fld F.TICK_FCK_CFG.FBDIV ≤ 10000 * s.fld F.TICK_FCK_CFG.POSTDIV →
        10000 * s.fld F.TICK_FCK_CFG.POSTDIV ≤ 6400 * s.fld F.TICK_FCK_CFG.FBDIV → s.regsWf →
        ∃ t, exec (.fckApply req) s = .next t ∧ t.fld F.TICK_STAT.APPLY_STATUS = C.TICK_BUDGET_EXCEEDED ∧
          logs s t C.TICK_BUDGET_EXCEEDED (srcRequester req) 0 ∧ onlyRegsLog s t [R.TICK_STAT]) ∧
      (s.fld F.TICK_FCK_CFG.FBDIV < 50 → s.regsWf →
        ∃ t, exec (.fckApply req) s = .next t ∧ t.fld F.TICK_STAT.APPLY_STATUS = C.TICK_FCK_INVALID ∧
          logs s t C.TICK_FCK_INVALID (srcRequester req) (s.reg R.TICK_FCK_CFG).toNat ∧ onlyRegsLog s t [R.TICK_STAT]) ∧
      (s.pminAll * s.fld F.TICK_FCK_CFG.FBDIV ≤ 10000 * s.fld F.TICK_FCK_CFG.POSTDIV →
        50 ≤ s.fld F.TICK_FCK_CFG.FBDIV → s.fld F.TICK_FCK_CFG.FBDIV ≤ 100 → 4 ≤ s.fld F.TICK_FCK_CFG.POSTDIV →
        s.fld F.TICK_FCK_CFG.POSTDIV ≤ 32 → 800 * s.fld F.TICK_FCK_CFG.FBDIV ≤ 10000 * s.fld F.TICK_FCK_CFG.POSTDIV →
        10000 * s.fld F.TICK_FCK_CFG.POSTDIV ≤ 6400 * s.fld F.TICK_FCK_CFG.FBDIV →
        exec (.fckApply req) s = .next { ((s.calFailAll.safeNow (List.range 256)).setFld F.TICK_STAT.FCK_BUSY 1) with
          fckNew := some (s.fld F.TICK_FCK_CFG.FBDIV, s.fld F.TICK_FCK_CFG.POSTDIV), fckStop := s.fckOn })) ∧
  (∀ (req : Requester) (s : State) (n : Nat), n < 16 → s.siteActive n = true → s.bit F.TICK_STAT.FCK_BUSY = false → s.regsWf →
    ∃ t, exec (.fckApply req) s = .next t ∧ t.fld F.TICK_STAT.APPLY_STATUS = C.STATE_REFUSED ∧
      logs s t C.STATE_REFUSED (srcRequester req) R.TICK_CTRL ∧ onlyRegsLog s t [R.TICK_STAT]) ∧
  (∀ (s : State) (fb pd : Nat), s.regsWf → s.fckNew = some (fb, pd) → s.fckOn = false → s.csc.fckset = none → s.fld F.CSC_STAT.CSTATE = 0 →
    ∃ t, exec .fckChangeComplete s = .next t ∧ t.fckOn = true ∧ t.fckNew = none ∧ t.fckSet = (fb, pd) ∧
      t.fld F.TICK_STAT.FCK_BUSY = 0 ∧ t.fld F.TICK_STAT.LOCK = 1 ∧ t.fld F.TICK_STAT.APPLY_STATUS = 0 ∧
      t.fld F.TICK_BUDGET_STAT.PERIOD_PS = ((10000 * pd + fb - 1) / fb) % 2 ^ F.TICK_BUDGET_STAT.PERIOD_PS.w ∧
      t = { s with regs := t.regs, fckOn := true, fckNew := none, fckSet := (fb, pd) } ∧
      ∀ o, o ∉ [R.TICK_STAT, R.TICK_BUDGET_STAT, R.CLK_STAT] → t.reg o = s.reg o) ∧
  (∀ (n : Fin 16) (s : State), s.fckOn = true →
    ∃ t, exec (.tickSlip (.seq n)) s = .next t ∧ t.dump.marks % 2 = 1 ∧ t.tick = s.tick ∧ t.mem = s.mem ∧
      (s.regsWf → t.fld F.TICK_STAT.SLIP_SEEN = 1 ∧ t.reg R.TICK_SLIP_TICK = s.tick ∧
        t.fld F.TICK_SLIP_CNT.SLIP_CNT = min (s.fld F.TICK_SLIP_CNT.SLIP_CNT + 1) 65535)) ∧
  (∀ (u : UnitId) (s : State), s.fckOn = false → exec (.tickSlip u) s = .next s ∧ exec (.nearSlip u) s = .next s ∧ exec .fckEdge s = .next s) ∧
  (∀ (u : UnitId) (s : State), s.unitRclk u = true → exec (.tickSlip u) s = .next s ∧ exec (.nearSlip u) s = .next s) ∧
  (∀ (u : UnitId) (s : State), s.regsWf → s.fckOn = true → s.unitRclk u = false →
    ∃ t, exec (.nearSlip u) s = .next t ∧ t.fld F.TICK_SLIP_CNT.NEAR_CNT = min (s.fld F.TICK_SLIP_CNT.NEAR_CNT + 1) 65535 ∧
      (∀ o, o ≠ R.TICK_SLIP_CNT → t.reg o = s.reg o) ∧ t = { s with regs := t.regs, dump := t.dump }) ∧
  (∀ s : State, s.bit F.TICK_STAT.LOCK = false → exec .fckPllUnlock s = .next s) ∧
  (∀ s : State, s.bit F.TICK_STAT.LOCK = true → s.bit F.TICK_STAT.FCK_BUSY = false →
    ∃ t, exec .fckPllUnlock s = .next t ∧ t.fckStop = s.fckOn ∧ t.fckOn = s.fckOn ∧ t.tick = s.tick ∧ t.mem = s.mem) ∧
  (∀ s : State, s.regsWf → s.bit F.TICK_STAT.FCK_BUSY = true →
    ∃ t, exec .fckPllUnlock s = .next t ∧ t.fld F.TICK_STAT.LOCK = 0 ∧ onlyRegs s t [R.TICK_STAT, R.CLK_STAT]) ∧
  (∀ s : State, s.fckOn = true →
    ∃ t, exec .fckEdge s = .next t ∧ t.tick = s.tick + 1 ∧ t.fckOn = !s.fckStop ∧ t.fckStop = false)

namespace Sys2Proof.Claims

/-- The cell in slot `k` works at position `p`, its region is live, the present tick is an issue tick of its PHASE, it has not issued in it, and
its active context holds the valid function word `fn` with opcode `o`. -/
abbrev issues (s : State) (k p : Nat) (fn : Wide) (o : Nat) : Prop :=
  s.workPos k = some p ∧ fn = s.workWord p (s.activeCtx p) ∧ s.cellEn p = true ∧ s.cellFenced k = false ∧ s.isRclk p = false ∧
  s.cellNxt k = none ∧ s.posIssues p = true ∧ s.ctxGood p (s.activeCtx p) = true ∧ getBits fn 56 8 = o

/-- Operands a, b and c of the cell in slot `k` at position `p` (R69). -/
def opA (s : State) (k p : Nat) (fn : Wide) : FWord := s.operand p (slotType k) (s.cell k) (getBits fn 0 32) (getBits fn 52 4)
def opB (s : State) (k p : Nat) (fn : Wide) : FWord := s.operand p (slotType k) (s.cell k) (getBits fn 0 32) (getBits fn 48 4)
def opC (s : State) (k p : Nat) (fn : Wide) : FWord := s.operand p (slotType k) (s.cell k) (getBits fn 0 32) (getBits fn 44 4)

/-- The registers `c` with `w` in Q, and in the L register that the function word names when its LD bit is 1 (R71). -/
def loadQ (c : CellRegs) (fn : Wide) (w : FWord) : CellRegs :=
  if getBits fn 43 1 = 1 then { c with q := w }.setL (getBits fn 41 2) w else { c with q := w }

/-- Opcode `o` of constructor `c` gives `f MOD IMM a b` of two valid operands, and changes nothing but Q and L. -/
def binaryOp (c : Fin 2944 → Instr) (o : Nat) (f : Nat → Nat → Word → Word → Word) : Prop :=
  ∀ (s : State) (k : Fin 2944) (p : Nat) (fn : Wide), issues s k p fn o → (opA s k p fn).v = true → (opB s k p fn).v = true →
    exec (c k) s = .next (s.setNxt k (loadQ (s.cell k) fn
      ⟨(opA s k p fn).s || (opB s k p fn).s, true, f (getBits fn 36 4) (getBits fn 0 32) (opA s k p fn).data (opB s k p fn).data⟩))

/-- Opcode `o` gives `f MOD IMM a` of one valid operand. -/
def unaryOp (c : Fin 2944 → Instr) (o : Nat) (f : Nat → Nat → Word → Word) : Prop :=
  ∀ (s : State) (k : Fin 2944) (p : Nat) (fn : Wide), issues s k p fn o → (opA s k p fn).v = true →
    exec (c k) s = .next (s.setNxt k (loadQ (s.cell k) fn
      ⟨(opA s k p fn).s, true, f (getBits fn 36 4) (getBits fn 0 32) (opA s k p fn).data⟩))

/-- Opcode `o` gives the low 32 bits of `f CY a b` as Q, and CY is `g CY a b`. -/
def carryOp (c : Fin 2944 → Instr) (o : Nat) (f : Nat → Word → Word → Word) (g : Nat → Nat → Nat → Bool) : Prop :=
  ∀ (s : State) (k : Fin 2944) (p : Nat) (fn : Wide), issues s k p fn o → (opA s k p fn).v = true → (opB s k p fn).v = true →
    exec (c k) s = .next (s.setNxt k (loadQ
      { s.cell k with cy := g (b2n (s.cell k).cy) (opA s k p fn).data.toNat (opB s k p fn).data.toNat } fn
      ⟨(opA s k p fn).s || (opB s k p fn).s, true, f (b2n (s.cell k).cy) (opA s k p fn).data (opB s k p fn).data⟩))

/-- Opcode `o` changes W to `f IMM W X a`, where X is b above a; it consumes W when `usesW`, b when `usesB` and a when `usesA`; Q takes the half
of W that bit 39 selects (R89). -/
def wideOp (c : Fin 2944 → Instr) (o : Nat) (usesA usesB usesW : Bool) (f : Nat → Wide → Wide → Word → Wide) : Prop :=
  ∀ (s : State) (k : Fin 2944) (p : Nat) (fn : Wide), issues s k p fn o →
    (usesA = true → (opA s k p fn).v = true) → (usesB = true → (opB s k p fn).v = true) → (usesW = true → (s.cell k).wv = true) →
    let st := (usesA && (opA s k p fn).s) || (usesB && (opB s k p fn).s) || (usesW && (s.cell k).ws)
    let w := f (getBits fn 0 32) (s.cell k).w ((opB s k p fn).data ++ (opA s k p fn).data) (opA s k p fn).data
    exec (c k) s = .next (s.setNxt k (loadQ { s.cell k with w := w, wv := true, ws := st } fn
      ⟨st, true, if getBits fn 39 1 = 1 then w.extractLsb' 32 32 else w.extractLsb' 0 32⟩))

/-- An operation that consumes a and b leaves ACC, CY and W alone when one of them has V = 0; with the hold bit 40 it also keeps Q and L, else Q
takes the tags with V = 0 (R64, R65). -/
def holdsOnInvalid (c : Fin 2944 → Instr) (o : Nat) : Prop :=
  ∀ (s : State) (k : Fin 2944) (p : Nat) (fn : Wide), issues s k p fn o → ((opA s k p fn).v = false ∨ (opB s k p fn).v = false) →
    ∃ r : CellRegs, exec (c k) s = .next (s.setNxt k r) ∧ r.acc = (s.cell k).acc ∧ r.cy = (s.cell k).cy ∧ r.w = (s.cell k).w ∧
      r.wv = (s.cell k).wv ∧ r.ws = (s.cell k).ws ∧ (getBits fn 40 1 = 1 → r = s.cell k) ∧ (getBits fn 40 1 = 0 → r.q.v = false)

/-- The signed or unsigned product of the low halves of two words. -/
def lowProduct (sg : Bool) (a b : Word) : Int :=
  if sg then (a.extractLsb' 0 16).toInt * (b.extractLsb' 0 16).toInt else ((a.extractLsb' 0 16).toNat * (b.extractLsb' 0 16).toNat : Nat)

/-- `x` held within the signed or unsigned 32-bit range when `sat`. -/
def clampSum (sg sat : Bool) (x : Int) : Int :=
  if !sat then x else if sg then max (-2147483648) (min 2147483647 x) else max 0 (min 4294967295 x)

end Sys2Proof.Claims

/-- Fabric cells of logic, order, selection, carry chains, bit fields and counters write the result of their function from valid operands. -/
def Obligations.LogicOrderCarryAndCounterCells : Prop :=
  (unaryOp .cellMov 0x01 (fun _ _ a => a) ∧
  binaryOp .cellMin 0x06 (fun m _ a b => if m.testBit 0 then (if a.slt b then a else b) else if a.ult b then a else b) ∧
  binaryOp .cellMax 0x07 (fun m _ a b => if m.testBit 0 then (if a.slt b then b else a) else if a.ult b then b else a) ∧
  binaryOp .cellCmp 0x08 (fun m _ a b =>
    if (m = 0 ∧ a = b) ∨ (m = 1 ∧ a ≠ b) ∨ (m = 2 ∧ a.toNat < b.toNat) ∨ (m = 3 ∧ b.toNat ≤ a.toNat) ∨ (m = 4 ∧ a.toInt < b.toInt) ∨
      (m = 5 ∧ b.toInt ≤ a.toInt) ∨ (m = 6 ∧ a &&& b ≠ 0) ∨ (m = 7 ∧ a &&& b = 0) then 1 else 0) ∧
  binaryOp .cellAnd 0x0A (fun _ _ a b => a &&& b) ∧ binaryOp .cellOr 0x0B (fun _ _ a b => a ||| b) ∧
  binaryOp .cellXor 0x0C (fun _ _ a b => a ^^^ b) ∧ binaryOp .cellAndn 0x0D (fun _ _ a b => a &&& ~~~b) ∧
  binaryOp .cellShl 0x10 (fun _ _ a b => a <<< (b.extractLsb' 0 5).toNat) ∧ binaryOp .cellShr 0x11 (fun _ _ a b => a >>> (b.extractLsb' 0 5).toNat) ∧
  binaryOp .cellSra 0x12 (fun _ _ a b => a.sshiftRight (b.extractLsb' 0 5).toNat) ∧
  binaryOp .cellRol 0x13 (fun _ _ a b => a.rotateLeft (b.extractLsb' 0 5).toNat) ∧
  binaryOp .cellMul 0x18 (fun m _ a b => BitVec.ofInt 32 (lowProduct (m.testBit 0) a b)) ∧
  unaryOp .cellBrev 0x27 (fun _ i a => a.reverse >>> (31 - i % 32)) ∧
  unaryOp .cellGray 0x25 (fun m _ a =>
    let x1 := a ^^^ (a >>> 1)
    let x2 := x1 ^^^ (x1 >>> 2)
    let x3 := x2 ^^^ (x2 >>> 4)
    let x4 := x3 ^^^ (x3 >>> 8)
    if m.testBit 0 then x4 ^^^ (x4 >>> 16) else x1) ∧
  binaryOp .cellXtap 0x26 (fun _ i a b => a ^^^ ((BitVec.ofNat 32 (parityNat 32 (a &&& b).toNat)) <<< (i % 32)))) ∧
  (carryOp .cellAdd 0x02 (fun _ a b => a + b) (fun _ a b => decide (2 ^ 32 ≤ a + b)) ∧
  carryOp .cellAddc 0x03 (fun cy a b => a + b + BitVec.ofNat 32 cy) (fun cy a b => decide (2 ^ 32 ≤ a + b + cy)) ∧
  carryOp .cellSub 0x04 (fun _ a b => a - b) (fun _ a b => decide (a < b)) ∧
  carryOp .cellSubb 0x05 (fun cy a b => a - b - BitVec.ofNat 32 cy) (fun cy a b => decide (a < b + cy)) ∧
  (∀ (s : State) (k : Fin 2944) (p : Nat) (fn : Wide), issues s k p fn 0x09 → (opA s k p fn).v = true → (opB s k p fn).v = true →
    (opC s k p fn).v = true →
    exec (.cellSel k) s = .next (s.setNxt k (loadQ (s.cell k) fn
      ⟨(opA s k p fn).s || (opB s k p fn).s || (opC s k p fn).s, true,
        if (opC s k p fn).data.getLsbD 0 then (opB s k p fn).data else (opA s k p fn).data⟩))) ∧
  (∀ (s : State) (k : Fin 2944) (p : Nat) (fn : Wide), issues s k p fn 0x24 → (opA s k p fn).v = true → (opB s k p fn).v = true →
    ∃ r : Word, exec (.cellBfm k) s = .next (s.setNxt k (loadQ (s.cell k) fn ⟨(opA s k p fn).s || (opB s k p fn).s, true, r⟩)) ∧
      ∀ j < 32, r.getLsbD j = if getBits fn 5 5 ≤ j ∧ j ≤ getBits fn 5 5 + getBits fn 10 5
        then (opA s k p fn).data.getLsbD (j - getBits fn 5 5 + getBits fn 0 5) else (opB s k p fn).data.getLsbD j) ∧
  (∀ (s : State) (k : Fin 2944) (p : Nat) (fn : Wide), issues s k p fn 0x20 → (opA s k p fn).v = true → (opB s k p fn).v = true →
    (s.cell k).q.v = true →
    let t := (s.cell k).q.data.toNat + (opA s k p fn).data.toNat
    let b := (opB s k p fn).data.toNat
    exec (.cellCntm k) s = .next (s.setNxt k (loadQ
      { s.cell k with cy := if b = 0 then decide (2 ^ 32 ≤ t) else decide (b ≤ t) } fn
      ⟨(opA s k p fn).s || (opB s k p fn).s || (s.cell k).q.s, true, BitVec.ofNat 32 (if b ≠ 0 ∧ b ≤ t then t - b else t)⟩))) ∧
  (∀ (s : State) (k : Fin 2944) (p : Nat) (fn : Wide), issues s k p fn 0x21 → (opA s k p fn).v = true → (opB s k p fn).v = true →
    (opC s k p fn).v = true → (s.cell k).q.v = true →
    let t := (s.cell k).q.data.toNat + (opA s k p fn).data.toNat
    let b := (opB s k p fn).data.toNat
    let st := (opA s k p fn).s || (opB s k p fn).s || (opC s k p fn).s || (s.cell k).q.s
    exec (.cellCnte k) s = .next (s.setNxt k (if (opC s k p fn).data.getLsbD 0 then loadQ
        { s.cell k with cy := if b = 0 then decide (2 ^ 32 ≤ t) else decide (b ≤ t) } fn
        ⟨st, true, BitVec.ofNat 32 (if b ≠ 0 ∧ b ≤ t then t - b else t)⟩
      else loadQ { s.cell k with cy := false } fn ⟨st, true, (s.cell k).q.data⟩))))


/-- Multiply-accumulate cells and the cells with a wide register.
It also rests on choices of the model: log entry 110. -/
def Obligations.AccumulatorAndWideCells : Prop :=
  (∀ (s : State) (k : Fin 2944) (p : Nat) (fn : Wide), issues s k p fn 0x19 → (opA s k p fn).v = true → (opB s k p fn).v = true →
    (s.cell k).acc.v = true →
    let sg := (getBits fn 36 4).testBit 0
    let acc : Int := if sg then (s.cell k).acc.data.toInt else (s.cell k).acc.data.toNat
    let r := BitVec.ofInt 32 (clampSum sg ((getBits fn 36 4).testBit 1) (acc + lowProduct sg (opA s k p fn).data (opB s k p fn).data))
    let st := (opA s k p fn).s || (opB s k p fn).s || (s.cell k).acc.s
    exec (.cellMac k) s = .next (s.setNxt k (loadQ { s.cell k with acc := ⟨st, true, r⟩ } fn ⟨st, true, r⟩))) ∧
  (∀ (s : State) (k : Fin 2944) (p : Nat) (fn : Wide), issues s k p fn 0x1A → (opA s k p fn).v = true → (opB s k p fn).v = true →
    let r := BitVec.ofInt 32 (lowProduct ((getBits fn 36 4).testBit 0) (opA s k p fn).data (opB s k p fn).data)
    let st := (opA s k p fn).s || (opB s k p fn).s
    exec (.cellMacl k) s = .next (s.setNxt k (loadQ { s.cell k with acc := ⟨st, true, r⟩ } fn ⟨st, true, r⟩))) ∧
  (∀ (s : State) (k : Fin 2944) (p : Nat) (fn : Wide), issues s k p fn 0x1B → (s.cell k).acc.v = true →
    exec (.cellAccr k) s = .next (s.setNxt k (loadQ (s.cell k) fn (s.cell k).acc))) ∧
  (wideOp .cellWld 0x40 true true false (fun _ _ x _ => x) ∧
  wideOp .cellWand 0x41 true true true (fun _ w x _ => w &&& x) ∧ wideOp .cellWor 0x42 true true true (fun _ w x _ => w ||| x) ∧
  wideOp .cellWxor 0x43 true true true (fun _ w x _ => w ^^^ x) ∧ wideOp .cellWandn 0x44 true true true (fun _ w x _ => w &&& ~~~x) ∧
  wideOp .cellWnot 0x45 false false true (fun _ w _ _ => ~~~w) ∧
  wideOp .cellWrol 0x46 true false true (fun _ w _ a => w.rotateLeft (a.extractLsb' 0 6).toNat) ∧
  wideOp .cellWshl 0x47 true false true (fun _ w _ a => w <<< (a.extractLsb' 0 6).toNat) ∧
  wideOp .cellWshr 0x48 true false true (fun _ w _ a => w >>> (a.extractLsb' 0 6).toNat) ∧
  wideOp .cellWbfly 0x49 true true true (fun i w x _ => bflyBits (i % 8) x w 64) ∧
  wideOp .cellLfsr 0x4A true true true (fun i w x _ => lfsrSteps x w (i % 16 + 1)) ∧
  wideOp .cellCrc32 0x4B true true true (fun _ w x a => w.extractLsb' 32 32 ++ crcBits a (x.extractLsb' 32 32) 32 (w.extractLsb' 0 32)) ∧
  (∀ (s : State) (k : Fin 2944) (p : Nat) (fn : Wide), issues s k p fn 0x56 → (s.cell k).wv = true →
    let w := BitVec.ofNat 64 (lutNibbles (s.lutEntry p) 16 (s.cell k).w.toNat)
    exec (.cellWlutn k) s = .next (s.setNxt k (loadQ { s.cell k with w := w } fn
      ⟨(s.cell k).ws, true, if getBits fn 39 1 = 1 then w.extractLsb' 32 32 else w.extractLsb' 0 32⟩))) ∧
  binaryOp .cellPopc 0x50 (fun _ _ a b => BitVec.ofNat 32 (popNat 32 a.toNat + popNat 32 b.toNat)) ∧
  binaryOp .cellPar 0x51 (fun _ _ a b => BitVec.ofNat 32 ((popNat 32 a.toNat + popNat 32 b.toNat) % 2)) ∧
  binaryOp .cellClz 0x52 (fun _ _ a b =>
    BitVec.ofNat 32 (if b = 0 then (if a = 0 then 64 else 63 - Nat.log2 a.toNat) else 31 - Nat.log2 b.toNat)) ∧
  (∀ (s : State) (k : Fin 2944) (p : Nat) (fn : Wide), issues s k p fn 0x54 → (opA s k p fn).v = true →
    exec (.cellLutn k) s = .next (s.setNxt k (loadQ (s.cell k) fn
      ⟨(opA s k p fn).s, true, BitVec.ofNat 32 (lutNibbles (s.lutEntry p) 8 (opA s k p fn).data.toNat)⟩))) ∧
  (∀ (s : State) (k : Fin 2944) (p : Nat) (fn : Wide), issues s k p fn 0x55 → (opA s k p fn).v = true →
    exec (.cellLutw k) s = .next (s.setNxt k (loadQ (s.cell k) fn
      ⟨(opA s k p fn).s, true, BitVec.ofNat 32 (s.lutEntry p ((opA s k p fn).data.toNat % 16))⟩))))


/-- Operations on a word with V = 0 change nothing of the cell but its Q, and not that when the hold bit is 1 (R64, R65). -/
def Obligations.InvalidOperandsHoldTheCell : Prop :=
  holdsOnInvalid .cellAdd 0x02 ∧ holdsOnInvalid .cellAddc 0x03 ∧ holdsOnInvalid .cellSub 0x04 ∧ holdsOnInvalid .cellSubb 0x05 ∧
  holdsOnInvalid .cellMin 0x06 ∧ holdsOnInvalid .cellMax 0x07 ∧ holdsOnInvalid .cellCmp 0x08 ∧ holdsOnInvalid .cellSel 0x09 ∧
  holdsOnInvalid .cellMul 0x18 ∧ holdsOnInvalid .cellMac 0x19 ∧ holdsOnInvalid .cellMacl 0x1A ∧ holdsOnInvalid .cellCntm 0x20 ∧
  holdsOnInvalid .cellCnte 0x21 ∧ holdsOnInvalid .cellWld 0x40 ∧ holdsOnInvalid .cellWxor 0x43 ∧ holdsOnInvalid .cellCrc32 0x4B ∧
  holdsOnInvalid .cellPopc 0x50

/-- Routed-clock cells and their synchronisers, NOP, memory cells and X-cells.
It also rests on choices of the model: log entry 19. -/
def Obligations.RoutedMemoryAndPinCells : Prop :=
  (∀ (s : State) (k : Fin 2944) (p : Nat) (fn : Wide), s.workPos k = some p → s.isRclk p = true → fn = s.workWord p 0 → s.cellEn p = true →
    s.cellFenced k = false → s.ctxGood p 0 = true → getBits fn 56 8 = 0x43 → s.rclkEdge k p = true →
    (s.cell k).syncPend = false → (opA s k p fn).v = true → (opB s k p fn).v = true → (s.cell k).wv = true →
    ∃ r, exec (.cellWxor k) s = .next ((s.setRclkLvl k (s.rclkLevel p)).setCell k r) ∧
      r.w = (s.cell k).w ^^^ ((opB s k p fn).data ++ (opA s k p fn).data) ∧ r.syncPend = true ∧ r.syncAt = s.tick ∧ r.sync = (s.cell k).sync) ∧
  (∀ (s : State) (k : Fin 2944) (p : Nat), s.workPos k = some p → s.isRclk p = true → s.rclkEdge k p = false →
    exec (.cellWxor k) s = .next s ∧ exec (.cellMov k) s = .next s) ∧
  (∀ (s : State) (k : Fin 2560), s.isRclk (k + 64) = true → (s.cell k).syncPend = true →
    (s.cell k).syncAt.toNat + 2 ≤ s.tick.toNat → s.tick.toNat ≤ (s.cell k).syncAt.toNat + 4 →
    exec (.rclkSyncTransfer k) s = .next (s.setCell k { s.cell k with sync := (s.cell k).q, syncPend := false })) ∧
  (∀ (s : State) (k : Fin 2944) (p : Nat) (fn : Wide), issues s k p fn 0x00 → slotType k ≠ .x →
    ∃ r, exec (.cellNop k) s = .next (s.setNxt k r) ∧ r.acc = (s.cell k).acc ∧ r.cy = (s.cell k).cy ∧ r.w = (s.cell k).w ∧
      r.l0 = (s.cell k).l0 ∧ r.l1 = (s.cell k).l1 ∧ r.l2 = (s.cell k).l2 ∧ r.l3 = (s.cell k).l3 ∧
      ((s.cell k).pipe0.busy = false → r.q = (s.cell k).q) ∧ ((s.cell k).pipe1.busy = false → r.q1 = (s.cell k).q1)) ∧
  (∀ (s : State) (k : Fin 2944) (p : Nat) (fn : Wide), issues s k p fn 0x00 → slotType k = .x →
    exec (.cellNop k) s = .next (s.setNxt k
      { s.cell k with xde := FWord.zero, xxe := FWord.zero, xdo := FWord.zero, xxo := FWord.zero })) ∧
  (∀ (s : State) (m : Fin 256) (p : Nat) (fn : Wide) (ad : FWord), issues s (mSlot m) p fn 0x80 → getBits fn 38 2 = 1 → getBits fn 36 2 = 0 →
    s.operand p .m (s.cell (mSlot m)) 0 (getBits fn 52 4) = ad → ad.v = true → ad.s = false →
    let a := (ad.data.toNat + getBits fn 0 12) % 4096
    let w := s.mword m (s.physWord m a)
    w.s = false → w.bad = false →
    ∃ r, exec (.cellMem m) s = .next (s.setNxt (mSlot m) r) ∧ r.pipe0 = ⟨a, 1, true, ⟨false, true, w.data⟩⟩ ∧ r.pipe1.busy = false) ∧
  (∀ (s : State) (m : Fin 256) (p : Nat) (fn : Wide) (ad d : FWord), issues s (mSlot m) p fn 0x80 → getBits fn 38 2 = 2 → getBits fn 36 2 = 0 →
    s.operand p .m (s.cell (mSlot m)) 0 (getBits fn 52 4) = ad → ad.v = true → ad.s = false →
    s.operand p .m (s.cell (mSlot m)) 0 (getBits fn 48 4) = d → d.v = true →
    let a := (ad.data.toNat + getBits fn 0 12) % 4096
    ∃ r w, exec (.cellMem m) s = .next ((s.setNxt (mSlot m) r).setMword m (s.physWord m a) w) ∧ w.data = d.data ∧ w.s = d.s ∧ w.bad = false ∧
      r.pipe0.busy = false) ∧
  (∀ (s : State) (x : Fin 128) (p : Nat) (fn : Wide), issues s (xSlot x) p fn 0xC0 → getBits fn 39 1 = 1 → getBits fn 38 1 = 0 →
    exec (.cellXio x) s = .next (s.setNxt (xSlot x) { s.cell (xSlot x) with
      xde := s.operand p .x (s.cell (xSlot x)) 0 (getBits fn 52 4), xxe := s.operand p .x (s.cell (xSlot x)) 0 (getBits fn 48 4),
      xdo := FWord.zero, xxo := FWord.zero })) ∧
  (∀ (s : State) (x : Fin 128) (r : CellRegs) (w : Word) (ws : List Word),
    let p := posOfSlot (xSlot x)
    let fn := s.workWord p (s.activeCtx p)
    s.cellNxt (xSlot x) = some r → s.ctxGood p (s.activeCtx p) = true → getBits fn 37 1 = 1 → xSlot x ∉ s.fab.slipped →
    (s.xsBuf x).popAt ≠ some s.tick → getBits (s.staticWord p) 1 1 = 1 → (s.xsBuf x).words = w :: ws →
    exec (.streamPop x) s = .next ((s.setXsBuf x { s.xsBuf x with words := ws, rd := ((s.xsBuf x).rd + 1) % 1024, popAt := some s.tick }).setNxt
      (xSlot x) { r with q1 := ⟨false, true, w⟩ }))

namespace Sys2Proof.Claims

/-- The registers of `t` are those of `s` but at the offsets listed. -/
def regsBut (s t : State) (offs : List Nat) : Prop := ∀ o, o ∉ offs → t.reg o = s.reg o

end Sys2Proof.Claims

/-- Context selects take effect, parity faults of routing words are recorded, and stream buffers start, abort, fill and are refused (R79 to R83, R110, R112,
R120, R133).
It also rests on choices of the model: log entries 22, 115. -/
def Obligations.ContextsAndStreamBuffers : Prop :=
  (∀ (n : Fin 16) (s : State), s.regsWf → s.bit (F.FAB_CTXSEL.PEND n) = true → (s.getPsq n).rep = 1 →
    (mget (fun _ => (0 : Wide)) n s.fab.selSince).toNat + 2 ≤ s.tick.toNat →
    ∃ t, exec (.contextSwitch n) s = .next t ∧ t.fld (F.FAB_CTXSEL.ACTIVE n) = s.fld (F.FAB_CTXSEL.PENDING n) ∧
      (s.selWaiting n = none → t.bit (F.FAB_CTXSEL.PEND n) = false) ∧
      (∀ c < 8, s.selWaiting n = some c → t.bit (F.FAB_CTXSEL.PEND n) = true ∧ t.fld (F.FAB_CTXSEL.PENDING n) = c ∧ t.selWaiting n = none) ∧
      t.tick = s.tick ∧ t.mem = s.mem) ∧
  (∀ (n : Fin 16) (s : State), s.bit (F.FAB_CTXSEL.PEND n) = false → exec (.contextSwitch n) s = .next s) ∧
  (∀ (p : Fin 2688) (i : Fin 3) (s : State), s.routeFault p (s.activeCtx p) i = false →
    ∃ t, exec (.fabStoreParity p i) s = .next t ∧ t.routeFault p (s.activeCtx p) i = true ∧ t.fab.cells = s.fab.cells ∧ t.mem = s.mem) ∧
  (∀ (p : Fin 2688) (i : Fin 3) (s : State), s.routeFault p (s.activeCtx p) i = true → exec (.fabStoreParity p i) s = .next s) ∧
  (∀ (req : Requester) (x : Fin 128) (loop : Bool) (s : State), s.regsWf → s.xsRefused x = false → 0 < s.fld (F.FAB_XS_LEN.WORDS x) →
    s.fld (F.FAB_XS_LEN.WORDS x) % 16 = 0 →
    ∃ t, exec (.xsStart req x loop) s = .next t ∧ t.bit (F.FAB_XS_STAT.BUSY x) = true ∧ t.bit (F.FAB_XS_STAT.DONE x) = false ∧
      t.bit (F.FAB_XS_CTRL.LOOP x) = loop ∧ t.bit F.FAB_SFX_STAT.ARRAYS_HELD = false ∧
      t = { s with regs := t.regs, fab := (s.setXsBuf x { XsBuf.zero with popAt := (s.xsBuf x).popAt }).fab } ∧
      regsBut s t [R.FAB_XS_CTRL x, R.FAB_XS_STAT x, R.FAB_SFX_STAT]) ∧
  (∀ (req : Requester) (x : Fin 128) (loop : Bool) (s : State), s.regsWf → s.xsRefused x = false →
    ∃ t, exec (.xsAbort req x loop) s = .next t ∧ t.bit (F.FAB_XS_STAT.BUSY x) = false ∧ t.bit (F.FAB_XS_STAT.DONE x) = false ∧
      t.bit (F.FAB_XS_CTRL.LOOP x) = loop ∧ t = { s with regs := t.regs, fab := (s.setXsBuf x { XsBuf.zero with popAt := (s.xsBuf x).popAt }).fab } ∧
      regsBut s t [R.FAB_XS_CTRL x, R.FAB_XS_STAT x, R.FAB_SFX_STAT]) ∧
  (∀ (req : Requester) (x : Fin 128) (loop : Bool) (s : State), s.xsRefused x = true →
    ∃ t, exec (.xsStart req x loop) s = .next t ∧ exec (.xsAbort req x loop) s = .next t ∧
      logs s t C.STATE_REFUSED (srcRequester req) (R.FAB_XS_CTRL x) ∧ onlyRegsLog s t []) ∧
  (∀ (x : Fin 128) (n : Fin 65) (s : State), s.bit (F.FAB_XS_STAT.BUSY x) = true → 1 ≤ n.val → (s.xsBuf x).words.length + n ≤ 1024 →
    (s.xsBuf x).fetched + n < s.fld (F.FAB_XS_LEN.WORDS x) →
    memCheck s x (s.fld (F.FAB_XS_ADDR.ADDR x) * 64 + 4 * (s.xsBuf x).fetched) (4 * n) false = 0 →
    exec (.xsFillResponse x n 0) s = .next (s.tookFree.setXsBuf x { s.xsBuf x with
      words := (s.xsBuf x).words ++ bytesToWords (s.dpaBytes (s.fld (F.FAB_XS_ADDR.ADDR x) * 64 + 4 * (s.xsBuf x).fetched) (4 * n)),
      ring := ((bytesToWords (s.dpaBytes (s.fld (F.FAB_XS_ADDR.ADDR x) * 64 + 4 * (s.xsBuf x).fetched) (4 * n))).zip (List.range n)).foldl
        (fun m e => mset (fun _ => (0 : Word)) (((s.xsBuf x).wr + e.2) % 1024) e.1 m) (s.xsBuf x).ring,
      wr := ((s.xsBuf x).wr + n) % 1024, fetched := (s.xsBuf x).fetched + n }))


/-- Writes of FAB_CTXSEL and of a spare-row entry of an M-cell, refused by the state of the site or region, and the read-back of the fabric's state (R99, R119,
R157 to R159). -/
def Obligations.FabricSettingsAndReadBack : Prop :=
  (∀ (req : Requester) (n : Fin 16) (v : Word) (s : State), s.regsWf → s.siteActive n = false →
    ∃ t, exec (.fabCtxselWrite req n v) s = .next t ∧ t.fld (F.FAB_CTXSEL.INIT n) = v.toNat / 65536 % 8 ∧ onlyRegs s t [R.FAB_CTXSEL n]) ∧
  (∀ (req : Requester) (n : Fin 16) (v : Word) (s : State), s.siteActive n = true →
    ∃ t, exec (.fabCtxselWrite req n v) s = .next t ∧ logs s t C.STATE_REFUSED (srcRequester req) (R.FAB_CTXSEL n) ∧ onlyRegsLog s t []) ∧
  (∀ (req : Requester) (m : Fin 256) (k : Fin 16) (v : Word) (s : State), s.regsWf → s.chunkTested m = false →
    (s.rgnState (s.fld (F.FAB_RGN_MAP.REGION m)) = 0 ∨ s.rgnState (s.fld (F.FAB_RGN_MAP.REGION m)) = 2) →
    ∃ t, exec (.fabMrepWrite req m k v) s = .next t ∧ t.fld (F.FAB_MREP.ROW m k) = v.toNat % 256 ∧
      t.fld (F.FAB_MREP.EN m k) = v.toNat / 256 % 2 ∧ onlyRegs s t [R.FAB_MREP m k]) ∧
  (∀ (req : Requester) (m : Fin 256) (k : Fin 16) (v : Word) (s : State), s.chunkTested m = false →
    (s.rgnState (s.fld (F.FAB_RGN_MAP.REGION m)) = 1 ∨ s.rgnState (s.fld (F.FAB_RGN_MAP.REGION m)) = 3) →
    ∃ t, exec (.fabMrepWrite req m k v) s = .next t ∧ logs s t C.STATE_REFUSED (srcRequester req) (R.FAB_MREP m k) ∧ onlyRegsLog s t []) ∧
  (∀ (req : Requester) (s : State), s.regsWf → s.bist.slices = [] → s.bist.held = [] → s.allows req .readBack = true → s.readBackOk = true →
    ∃ t, exec (.fabRbDataRead req) s = .next t ∧
      t.rdata = BitVec.ofNat 64 (s.readBack (s.fld F.FAB_RB_ADDR.SPACE) (s.fld F.FAB_RB_ADDR.SLOT) (s.fld F.FAB_RB_ADDR.WORD)) ∧
      t.fld F.FAB_RB_ADDR.WORD = (s.fld F.FAB_RB_ADDR.WORD + 1) % 2 ^ F.FAB_RB_ADDR.WORD.w ∧ t = { s with regs := t.regs, rdata := t.rdata } ∧
      regsBut s t [R.FAB_RB_ADDR]) ∧
  (∀ (req : Requester) (s : State), s.bist.slices = [] → s.bist.held = [] → s.allows req .readBack = true → s.readBackOk = false →
    ∃ t, exec (.fabRbDataRead req) s = .next t ∧ t.rdata = 0 ∧ logs s t C.READBACK_NOT_STOPPED (srcRequester req) 0 ∧
      t = { s with err := t.err, rdata := 0 }) ∧
  (∀ (req : Requester) (s : State), s.bist.slices = [] → s.bist.held = [] → s.allows req .readBack = false →
    ∃ t, exec (.fabRbDataRead req) s = .next t ∧ t.rdata = 0 ∧ logs s t C.STATE_REFUSED (srcRequester req) R.FAB_RB_DATA ∧
      t = { s with err := t.err, rdata := 0 })

/-- FREEZE and THAW: accepted, taking effect, and refused for an empty region (R145 to R147).
It also rests on choices of the model: log entries 21, 24. -/
def Obligations.FreezeAndThaw : Prop :=
  (∀ (req : Requester) (g : Fin 64) (s : State), s.regsWf → s.allows req .freezeThaw = true → s.bit F.FAB_RGN_CMD_STAT.BUSY = false →
    ((s.rgnState g = 2 ∨ s.rgnState g = 3) →
      ∃ t, exec (.freeze req g) s = .next t ∧ t.bit F.FAB_RGN_CMD_STAT.BUSY = true ∧ t.fld F.FAB_RGN_CMD_STAT.STATUS = 0 ∧
        t = { s with regs := t.regs, fab := { s.fab with rgnPend := some ⟨false, g, s.tick, false⟩ } } ∧ regsBut s t [R.FAB_RGN_CMD_STAT]) ∧
    (s.rgnState g = 2 → s.bit (F.FAB_RGN_DESC.FROZEN g) = true → s.bit (F.FAB_RGN_DESC.FAILED g) = false →
      ∃ t, exec (.thaw req g) s = .next t ∧ t.bit F.FAB_RGN_CMD_STAT.BUSY = true ∧ t.fld F.FAB_RGN_CMD_STAT.STATUS = 0 ∧
        t = { s with regs := t.regs, fab := { s.fab with rgnPend := some ⟨true, g, s.tick, false⟩ } } ∧ regsBut s t [R.FAB_RGN_CMD_STAT])) ∧
  (∀ (req : Requester) (g : Fin 64) (s : State), s.regsWf → s.allows req .freezeThaw = true → s.rgnState g = 0 →
    (∃ t, exec (.freeze req g) s = .next t ∧ t.fld F.FAB_RGN_CMD_STAT.STATUS = C.FAB_REGION_INVALID ∧
      logs s t C.FAB_REGION_INVALID (srcRequester req) 0 ∧ onlyRegsLog s t [R.FAB_RGN_CMD_STAT]) ∧
    (∃ t, exec (.thaw req g) s = .next t ∧ t.fld F.FAB_RGN_CMD_STAT.STATUS = C.FAB_REGION_INVALID ∧
      logs s t C.FAB_REGION_INVALID (srcRequester req) 0 ∧ onlyRegsLog s t [R.FAB_RGN_CMD_STAT])) ∧
  (∀ (s : State) (r : RgnPend), s.regsWf → s.fab.rgnPend = some r → 1 ≤ r.region → r.region < 64 → r.thaw = false → r.tick.toNat + 1 ≤ s.tick.toNat →
    s.rgnTick (s.rgnSite r.region) = true → s.handoverIn r.region = false → s.rgnState r.region = 3 →
    ∃ t, exec .freezeTakesEffect s = .next t ∧ t.rgnState r.region = 2 ∧ t.bit (F.FAB_RGN_DESC.FROZEN r.region) = true ∧
      t.bit F.FAB_RGN_CMD_STAT.BUSY = false ∧ t.reg R.FAB_RGN_EVT_TICK = s.tick ∧
      t = { s with regs := t.regs, fab := { s.fab with rgnPend := none } }) ∧
  (∀ (s : State) (r : RgnPend), s.regsWf → s.fab.rgnPend = some r → 1 ≤ r.region → r.region < 64 → r.thaw = true → r.copied = true →
    r.tick.toNat + 2 ≤ s.tick.toNat → s.rgnTick (s.rgnSite r.region) = true → s.siteActive (s.rgnSite r.region) = true → s.rgnState r.region = 2 →
    ∃ t, exec .thawTakesEffect s = .next t ∧ t.rgnState r.region = 3 ∧ t.bit F.FAB_RGN_CMD_STAT.BUSY = false ∧
      t.reg R.FAB_RGN_EVT_TICK = s.tick ∧ t = { s with regs := t.regs, fab := { s.fab with rgnPend := none } })

/-- The Starfix capture from its arming to the freeing of its buffer, and the array copy (R149 to R156).
It also rests on choices of the model: log entries 24, 25, 106, 113. -/
def Obligations.StarfixCaptureAndUnload : Prop :=
  (∀ (req : Requester) (s : State), s.regsWf → s.allows req .starfixArm = true → s.fld F.FAB_SFX_STAT.STATE = 0 →
    (s.tick.toNat + 4 ≤ (s.reg R.FAB_SFX_TICK).toNat →
      ∃ t, exec (.starfixArm req) s = .next t ∧ t.fld F.FAB_SFX_STAT.STATE = 1 ∧ t.fld F.FAB_SFX_STAT.STATUS = 0 ∧
        t = { s with regs := t.regs, fab := { s.fab with sfx := { s.fab.sfx with
          armed := some (s.reg R.FAB_SFX_TICK), cause := 0, halt := false, image := [] } } } ∧
        regsBut s t [R.FAB_SFX_STAT]) ∧
    ((s.reg R.FAB_SFX_TICK).toNat < s.tick.toNat + 4 →
      ∃ t, exec (.starfixArm req) s = .next t ∧ t.fld F.FAB_SFX_STAT.STATUS = C.STARFIX_MISSED ∧
        logs s t C.STARFIX_MISSED (srcRequester req) 0 ∧ onlyRegsLog s t [R.FAB_SFX_STAT])) ∧
  (∀ (req : Requester) (s : State), s.regsWf → s.fld F.FAB_SFX_STAT.STATE = 1 →
    ∃ t, exec (.starfixCancel req) s = .next t ∧ t.fld F.FAB_SFX_STAT.STATE = 0 ∧
      t = { s with regs := t.regs, fab := { s.fab with sfx := { s.fab.sfx with armed := none } } } ∧ regsBut s t [R.FAB_SFX_STAT]) ∧
  (∀ s : State, s.regsWf → s.fld F.FAB_SFX_STAT.STATE = 1 → s.fab.sfx.armed = some s.tick → s.bit F.FAB_SFX_CTRL.MODE = false →
    let s0 : State := { s with dump := { s.dump with marks := s.dump.marks ||| 4 } }
    let s1 : State := { s0 with queues := s.queues.map (fun q => (q.1, { q.2 with inFlight := [] })) }
    ∃ t, exec .starfixCapture s = .next t ∧ t.fld F.FAB_SFX_STAT.STATE = 2 ∧ t.fab.sfx.armed = none ∧
      t.fab.sfx.image = captureImage s0 (if s.fckOn then s1.fckEdge else s1) s.fab.sfx.cause false ∧
      t = { s with regs := t.regs, fab := { s.fab with sfx := t.fab.sfx }, dump := s0.dump } ∧ regsBut s t [R.FAB_SFX_STAT]) ∧
  (∀ s : State, s.regsWf → s.fld F.FAB_SFX_STAT.STATE = 2 →
    ∃ t, exec .starfixDrainDone s = .next t ∧ t.fld F.FAB_SFX_STAT.STATE = 3 ∧ onlyRegs s t [R.FAB_SFX_STAT]) ∧
  (∀ (req : Requester) (s : State), s.regsWf → 2 ≤ s.fld F.FAB_SFX_STAT.STATE →
    ∃ t, exec (.starfixRelease req) s = .next t ∧ t.fld F.FAB_SFX_STAT.STATE = 0 ∧
      t = { s with regs := t.regs, fab := { s.fab with sfx := { s.fab.sfx with image := [] } } } ∧ regsBut s t [R.FAB_SFX_STAT]) ∧
  (∀ (req : Requester) (s : State), s.regsWf → s.bit F.FAB_SFX_STAT.ARRAYS_HELD = true →
    s.bit F.FAB_SFX_STAT.UNLOAD_BUSY = false →
    ∃ t, exec (.starfixUnload req) s = .next t ∧ t.bit F.FAB_SFX_STAT.UNLOAD_BUSY = true ∧ onlyRegs s t [R.FAB_SFX_STAT]) ∧
  (∀ s : State, s.bit F.FAB_SFX_STAT.UNLOAD_BUSY = true → (∀ m < 256, s.chunkTested m = false) →
    exec .starfixUnloadDone s = .next (s.unloadArrays.setFld F.FAB_SFX_STAT.UNLOAD_BUSY 0))

namespace Sys2Proof.Claims

/-- Site `n`'s command was accepted in this tick: the coming edge makes the change `x`, PSQ_STAT.CMD_STATUS is 0, and nothing else has changed. -/
def accepts (s : State) (req : Requester) (n op : Nat) (x : SiteNext) (o : Host.Outcome State Fault Refusal) : Prop :=
  ∃ t, o = .next t ∧ t.getPsq n = { s.getPsq n with next := some x, cmdNow := some (req, op) } ∧ t.fld (F.PSQ_STAT.CMD_STATUS n) = 0 ∧
    t = { s with regs := t.regs, psq := t.psq } ∧ (∀ m, m ≠ n → t.getPsq m = s.getPsq m) ∧ regsBut s t [R.PSQ_STAT n]

/-- Site `n`'s command of OP `op` is refused with STATE_REFUSED, in CMD_STATUS and in the log (R7, R164). -/
def refuses (s : State) (req : Requester) (n op : Nat) (o : Host.Outcome State Fault Refusal) : Prop :=
  ∃ t, o = .next t ∧ t.fld (F.PSQ_STAT.CMD_STATUS n) = C.STATE_REFUSED ∧
    logs s t C.STATE_REFUSED (srcRequester req) (R.PSQ_CMD n + op * 2 ^ 32) ∧ onlyRegsLog s t [R.PSQ_STAT n]

end Sys2Proof.Claims

/-- ARM, START, PAUSE, RESUME and STOP are accepted in the states that R164 names and make their change at the coming edge.
It also rests on choices of the model: log entries 29, 30, 147. -/
def Obligations.SiteCommandsAreAccepted : Prop :=
  (∀ (req : Requester) (n : Fin 16) (s : State), s.regsWf → s.armOpen req n = true → s.pairsAgree n = true → s.voting n = false →
    s.captureBad n = none → s.creditsFit n = true → (∀ e ∈ s.siteTaps n, s.tapsOk e.1 e.2 = true) →
    (∀ g ∈ s.siteRegions n, ∀ c ∈ s.rgnClusters g, s.chunkTested c = false) → accepts s req n 1 .arm (exec (.psqArm req n) s)) ∧
  (∀ (req : Requester) (n : Fin 16) (s : State), s.regsWf → s.cmdOpen req n = true → (s.getPsq n).mode = .armed → s.voting n = false →
    accepts s req n 2 (.start (s.tick + 2)) (exec (.psqStart req n false) s)) ∧
  (∀ (req : Requester) (n : Fin 16) (s : State), s.regsWf → s.cmdOpen req n = true → (s.getPsq n).mode = .armed → s.voting n = false →
    s.tick.toNat + 8 ≤ (s.reg (R.PSQ_START_TICK n)).toNat →
    accepts s req n 2 (.start (s.reg (R.PSQ_START_TICK n))) (exec (.psqStart req n true) s)) ∧
  (∀ (req : Requester) (n : Fin 16) (s : State), s.regsWf → s.cmdOpen req n = true → (s.getPsq n).mode = .running →
    accepts s req n 3 .pause (exec (.psqPause req n) s)) ∧
  (∀ (req : Requester) (n : Fin 16) (s : State), s.regsWf → s.cmdOpen req n = true → (s.getPsq n).mode = .paused → s.voting n = false →
    s.bit F.FAB_SFX_STAT.UNLOAD_BUSY = false → accepts s req n 4 (.resume (s.tick + 2)) (exec (.psqResume req n false) s)) ∧
  (∀ (req : Requester) (n : Fin 16) (s : State), s.regsWf → s.cmdOpen req n = true →
    ((s.getPsq n).mode = .armed ∨ (s.getPsq n).mode = .running ∨ (s.getPsq n).mode = .paused ∨ (s.getPsq n).mode = .safeHold) →
    accepts s req n 5 .stop (exec (.psqStop req n) s))

/-- HOLD, SERVICE and SVC_END, the service program's stop at a boundary, and the tick in which a site begins to run (R164, R167, R169).
It also rests on choices of the model: log entry 118. -/
def Obligations.HoldServiceAndRunBegin : Prop :=
  (∀ (req : Requester) (n : Fin 16) (s : State), s.regsWf → s.cmdOpen req n = true → s.siteActive n = true → (s.getPsq n).next = none →
    ∃ t, exec (.psqHold req n) s = .next t ∧
      t.getPsq n = { s.getPsq n with next := some (.hold C.PSQ_HOST_HOLD), runAt := none, svcEnd := false, cmdNow := some (req, 6) } ∧
      t.fld (F.PSQ_STAT.CMD_STATUS n) = 0 ∧ t = { s with regs := t.regs, psq := t.psq } ∧ regsBut s t [R.PSQ_STAT n]) ∧
  (∀ (req : Requester) (n : Fin 16) (s : State), s.regsWf → s.cmdOpen req n = true → (s.siteCode n = 0 ∨ s.siteCode n = 1 ∨ s.siteCode n = 5) →
    (s.getPsq n).exec = .stop → (s.getPsq n).next = none → s.loadWrites n = false → s.fld F.BIST_STAT.NF ≠ 1 →
    ∃ t, exec (.psqService req n) s = .next t ∧ (t.getPsq n).exec = .svc ∧ (t.getPsq n).svcAt = some (s.tick + 2) ∧
      (t.getPsq n).pc = BitVec.ofNat 16 (s.fld (F.PSQ_ENTRY.SVC_PC n)) ∧ (t.getPsq n).priv = s.bit (F.PSQ_CFG.SVC_PRIV n) ∧
      t.fld (F.PSQ_STAT.CMD_STATUS n) = 0 ∧ (∀ m, m ≠ n.val → t.getPsq m = s.getPsq m) ∧ t = { s with regs := t.regs, psq := t.psq } ∧
      regsBut s t [R.PSQ_STAT n]) ∧
  (∀ (req : Requester) (n : Fin 16) (s : State), s.regsWf → s.cmdOpen req n = true → ((s.getPsq n).exec = .svc ∨ (s.getPsq n).exec = .wait) →
    ∃ t, exec (.psqSvcEnd req n) s = .next t ∧ t.getPsq n = { s.getPsq n with svcEnd := true, cmdNow := some (req, 8) } ∧ t.fld (F.PSQ_STAT.CMD_STATUS n) = 0 ∧
      t = { s with regs := t.regs, psq := t.psq } ∧ regsBut s t [R.PSQ_STAT n]) ∧
  (∀ (n : Fin 16) (s : State), (s.getPsq n).svcEnd = true → ((s.getPsq n).exec = .svc ∨ (s.getPsq n).exec = .wait) →
    (s.getPsq n).access = none →
    exec (.svcStopAtBoundary n) s = .next (s.setPsq n { s.getPsq n with exec := .stop, svcEnd := false, svcAt := none })) ∧
  (∀ (n : Fin 16) (s : State), (s.getPsq n).runAt = some s.tick → s.fckOn = true →
    ((s.getPsq n).mode = .armed →
      exec (.siteRunBegins n) s = .next (s.setPsq n { s.getPsq n with mode := .running, exec := .frame, runAt := none })) ∧
    ((s.getPsq n).mode = .paused →
      exec (.siteRunBegins n) s =
        .next ((s.setPsq n { s.getPsq n with mode := .running, exec := .frame, runAt := none }).setFld F.FAB_SFX_STAT.ARRAYS_HELD 0))) ∧
  (∀ (n : Fin 16) (s : State), (s.getPsq n).runAt ≠ some s.tick → exec (.siteRunBegins n) s = .next s)

/-- A command of PSQ_CMD in a state of the site in which R164 does not accept it is refused.
It also rests on choices of the model: log entry 30. -/
def Obligations.SiteCommandsAreRefusedOutOfState : Prop :=
  ∀ (req : Requester) (n : Fin 16) (at_ : Bool) (s : State), s.regsWf →
    ((s.getPsq n).mode ≠ .none → (∀ g ∈ s.siteRegions n, ∀ c ∈ s.rgnClusters g, s.chunkTested c = false) →
      refuses s req n 1 (exec (.psqArm req n) s)) ∧
    ((s.getPsq n).mode ≠ .armed → refuses s req n 2 (exec (.psqStart req n at_) s)) ∧
    ((s.getPsq n).mode ≠ .running → refuses s req n 3 (exec (.psqPause req n) s)) ∧
    ((s.getPsq n).mode ≠ .paused → refuses s req n 4 (exec (.psqResume req n at_) s)) ∧
    ((s.getPsq n).mode = .none → refuses s req n 5 (exec (.psqStop req n) s)) ∧
    (s.siteActive n = false → refuses s req n 6 (exec (.psqHold req n) s)) ∧
    (s.siteActive n = true → refuses s req n 7 (exec (.psqService req n) s)) ∧
    ((s.getPsq n).exec = .stop → refuses s req n 8 (exec (.psqSvcEnd req n) s))

namespace Sys2Proof.Claims

/-- Only sequencer `n` has changed, to `q`. -/
def psqBecomes (s : State) (n : Nat) (q : Psq) (o : Host.Outcome State Fault Refusal) : Prop :=
  ∃ t, o = .next t ∧ t.getPsq n = q ∧ (∀ m, m ≠ n → t.getPsq m = s.getPsq m) ∧ t = { s with psq := t.psq }

/-- Sequencer `n` stands at an issue tick or boundary with no interrupt due, and the valid word at its PC, in a VALID page and outside a
repetition, is `w` with opcode `op`. -/
abbrev issuesWord (s : State) (n : Nat) (w : Word) (op : Nat) : Prop :=
  s.issuesNow n = true ∧ s.pageValid n ((s.getPsq n).pc.toNat / 4096) = true ∧ (s.getPsq n).fetch = w ∧ fieldOf w 31 27 = op ∧
  badEncoding w = false ∧ (s.getPsq n).repLeft = 0

/-- Sequencer `n` with the vector code that VS names put on its entry positions at the coming edge: by every instruction of a frame program, and by NOPV in
a service program (R179, R190). -/
def emitting (s : State) (n : Nat) (w : Word) : Psq :=
  if (s.getPsq n).exec = .frame ∨ fieldOf w 31 27 = 0 then { s.getPsq n with vout := some ⟨false, true, (s.getPsq n).vcode (fieldOf w 26 24)⟩ }
  else s.getPsq n

/-- The sequencer has issued in this tick and goes on at `pc`. -/
def goesOn (s : State) (p : Psq) (pc : Half) : Psq :=
  { p with pc := pc, issuedAt := some s.tick, svcAt := if p.exec = .svc then some (s.tick + 1) else p.svcAt }

/-- The command issues opcode `op`, which changes the sequencer by `f` and goes on at the address `g`. -/
def seqOp (c : Fin 16 → Instr) (op : Nat) (f : Psq → Word → Psq) (g : Psq → Word → Half) : Prop :=
  ∀ (s : State) (n : Fin 16) (w : Word), issuesWord s n w op →
    psqBecomes s n (goesOn s (f (emitting s n w) w) (g (emitting s n w) w)) (exec (c n) s)

/-- The next address. -/
def nextPc (p : Psq) (_ : Word) : Half := p.pc + 1

/-- The 16-bit immediate, sign-extended and zero-extended, and the branch target (R177). -/
def immS (w : Word) : Word := (w.extractLsb' 0 16).signExtend 32
def immZ (w : Word) : Word := (w.extractLsb' 0 16).zeroExtend 32

/-- The table of FN (R180). -/
def aluTable (fn : Nat) (a b : Word) : Word :=
  if fn = 0 then a + b else if fn = 1 then a - b else if fn = 2 then a &&& b else if fn = 3 then a ||| b else if fn = 4 then a ^^^ b
  else if fn = 5 then a <<< (b.toNat % 32) else if fn = 6 then a >>> (b.toNat % 32) else if fn = 7 then a.sshiftRight (b.toNat % 32)
  else if fn = 8 then (if a.toInt < b.toInt then 1 else 0) else if fn = 9 then (if a.toNat < b.toNat then 1 else 0)
  else if fn = 10 then (if a.toNat < b.toNat then a else b) else if fn = 11 then (if a.toNat < b.toNat then b else a)
  else if fn = 12 then a * b else BitVec.ofNat 32 (popNat 32 a.toNat)

/-- BR's conditions (R181); 0x9 and 0xA ask for a VALID page and for a FREE bank. -/
def branchTaken (s : State) (n : Nat) (cond : Nat) (p : Psq) (a : Word) : Bool :=
  if cond = 0 then true else if cond = 1 then decide (a = 0) else if cond = 2 then decide (a ≠ 0) else if cond = 3 then decide (a.toInt < 0)
  else if cond = 4 then decide (0 ≤ a.toInt) else if cond = 5 then decide (0 < a.toInt) else if cond = 6 then decide (a.toInt ≤ 0)
  else if cond = 7 then p.sfail else if cond = 8 then !p.sfail else if cond = 9 then s.pageValid n (a.toNat % 16) else decide (0 < p.freeBanks)

end Sys2Proof.Claims

/-- The sequencer instructions that compute and set vector codes (R178 to R180). -/
def Obligations.SequencerComputesAndEmits : Prop :=
  seqOp .seqNopv 0x00 (fun p _ => p) nextPc ∧
  seqOp .seqEmit 0x01 (fun p w =>
    { p.setVc (fieldOf w 26 24) (p.g (fieldOf w 19 16) + immS w) with vout := some ⟨false, true, p.g (fieldOf w 19 16) + immS w⟩ }) nextPc ∧
  seqOp .seqVset 0x02 (fun p w => p.setVc (fieldOf w 23 21) (p.g (fieldOf w 19 16) + immS w)) nextPc ∧
  seqOp .seqAlu 0x03 (fun p w => p.setG (fieldOf w 23 20)
    (aluTable (fieldOf w 11 8) (p.g (fieldOf w 19 16)) (p.g (fieldOf w 15 12)))) nextPc ∧
  seqOp .seqAddi 0x04 (fun p w => p.setG (fieldOf w 23 20) (p.g (fieldOf w 19 16) + immS w)) nextPc ∧
  seqOp .seqAndi 0x05 (fun p w => p.setG (fieldOf w 23 20) (p.g (fieldOf w 19 16) &&& immZ w)) nextPc ∧
  seqOp .seqOri 0x06 (fun p w => p.setG (fieldOf w 23 20) (p.g (fieldOf w 19 16) ||| immZ w)) nextPc ∧
  seqOp .seqLui 0x07 (fun p w => p.setG (fieldOf w 23 20) (w.extractLsb' 0 16 ++ (p.g (fieldOf w 19 16)).extractLsb' 0 16)) nextPc

/-- The sequencer's branches, waits and repeats (R178, R181, R182, R184 to R186). -/
def Obligations.SequencerBranchesAndRepeats : Prop :=
  (∀ (s : State) (n : Fin 16) (w : Word), issuesWord s n w 0x08 →
    psqBecomes s n (goesOn s (emitting s n w) (if branchTaken s n (fieldOf w 19 16) (s.getPsq n) ((s.getPsq n).g (fieldOf w 23 20))
      then w.extractLsb' 0 16 else (s.getPsq n).pc + 1)) (exec (.seqBr n) s)) ∧
  seqOp .seqDjnz 0x09 (fun p w => p.setG (fieldOf w 23 20) (p.g (fieldOf w 23 20) - 1))
    (fun p w => if p.g (fieldOf w 23 20) = 1 then p.pc + 1 else w.extractLsb' 0 16) ∧
  seqOp .seqRep 0x0A (fun p w => { p with repLeft := (p.g (fieldOf w 19 16) + immZ w).toNat })
    (fun p w => if p.g (fieldOf w 19 16) + immZ w = 0 then p.pc + 2 else p.pc + 1) ∧
  (∀ (s : State) (n : Fin 16) (w : Word), issuesWord s n w 0x0F → (s.getPsq n).exec = .frame → fieldOf w 20 20 = 0 →
    psqBecomes s n (goesOn s (emitting s n w) (if (s.getPsq n).acc.getLsbD (fieldOf w 23 22) ≠ w.getLsbD 21
      then w.extractLsb' 0 16 else (s.getPsq n).pc + 1)) (exec (.seqMatch n) s)) ∧
  (∀ (s : State) (n : Fin 16) (w : Word), issuesWord s n w 0x10 → (s.getPsq n).exec = .frame →
    psqBecomes s n (if (s.getPsq n).acc.getLsbD (fieldOf w 23 22) ≠ w.getLsbD 21 then goesOn s (emitting s n w) ((s.getPsq n).pc + 1)
      else goesOn s ((emitting s n w).setG (fieldOf w 20 17) ((s.getPsq n).g (fieldOf w 20 17) - 1))
        (if (s.getPsq n).g (fieldOf w 20 17) = 1 then w.extractLsb' 0 16 else (s.getPsq n).pc)) (exec (.seqMwait n) s)) ∧
  (∀ (s : State) (n : Fin 16) (w : Word), issuesWord s n w 0x11 → (s.getPsq n).exec = .frame → s.effBit n (F.PSQ_VOTE_CFG.EN n) = true → fieldOf w 20 20 = 0 →
    psqBecomes s n (goesOn s (emitting s n w) (if (s.getPsq n).vote ≠ w.getLsbD 21 then w.extractLsb' 0 16 else (s.getPsq n).pc + 1))
      (exec (.seqVmatch n) s)) ∧
  (∀ (s : State) (n : Fin 16) (w : Word), issuesWord s n w 0x0E → (s.getPsq n).exec = .frame →
    ∃ t, exec (.seqCtx n) s = .next t ∧ t.getPsq n = goesOn s (emitting s n w) ((s.getPsq n).pc + 1) ∧
      mget (fun _ => none) n.val t.fab.selNow =
        some (if w.getLsbD 19 then ((s.getPsq n).g (fieldOf w 23 20)).toNat % 8 else fieldOf w 18 16) ∧
      t = { s with psq := t.psq, fab := { s.fab with selNow := t.fab.selNow } }) ∧
  (∀ (s : State) (n : Fin 16) (w : Word), issuesWord s n w 0x0E → (s.getPsq n).exec = .svc →
    ∃ t, exec (.seqCtx n) s = .next t ∧ ((s.getPsq n).trap = false → (t.getPsq n).ecause = 5 ∧ t = { s with psq := t.psq } ∧ (∀ m, m ≠ n.val → t.getPsq m = s.getPsq m))) ∧
  (∀ (s : State) (n : Fin 16) (w : Word) (k : Nat), s.issuesNow n = true → s.pageValid n ((s.getPsq n).pc.toNat / 4096) = true →
    (s.getPsq n).fetch = w → fieldOf w 31 27 = 0x04 → badEncoding w = false → (s.getPsq n).repLeft = k + 1 →
    psqBecomes s n (goesOn s { (emitting s n w).setG (fieldOf w 23 20) ((s.getPsq n).g (fieldOf w 19 16) + immS w) with repLeft := k }
      (if k = 0 then (s.getPsq n).pc + 1 else (s.getPsq n).pc)) (exec (.seqAddi n) s))

/-- Calls, returns and the return from the trap window (R192, R193, R202, R205).
It also rests on choices of the model: log entry 32. -/
def Obligations.SequencerCallsAndReturns : Prop :=
  (∀ (s : State) (n : Fin 16) (w : Word), issuesWord s n w 0x0B → (s.getPsq n).cur ≠ 15 → (s.getPsq n).depth + 1 ≤ s.depthLimit n →
    (s.getPsq n).frameIn (((s.getPsq n).depth + 1) % 15) = none →
    ∃ t, exec (.seqCall n) s = .next t ∧ (t.getPsq n).pc = w.extractLsb' 0 16 ∧ (t.getPsq n).depth = (s.getPsq n).depth + 1 ∧
      (t.getPsq n).cur = ((s.getPsq n).depth + 1) % 15 ∧ (∀ m, m ≠ n.val → t.getPsq m = s.getPsq m) ∧ t = { s with psq := t.psq } ∧
      (psqWf (s.getPsq n) → (t.getPsq n).frameIn (((s.getPsq n).depth + 1) % 15) =
        some ⟨(s.getPsq n).depth + 1, 1, (s.getPsq n).pc + 1, 0, 0, 0⟩) ∧
      (psqWf (s.getPsq n) → (s.getPsq n).cur ≠ ((s.getPsq n).depth + 1) % 15 →
        ∀ r, 1 ≤ r → r < 16 → (t.getPsq n).g r = if r < 8 then (s.getPsq n).g r else 0)) ∧
  (∀ (s : State) (n : Fin 16) (w : Word), issuesWord s n w 0x0B → (s.getPsq n).trap = false → s.depthLimit n < (s.getPsq n).depth + 1 →
    ∃ t, exec (.seqCall n) s = .next t ∧ (t.getPsq n).ecause = 1 ∧ (t.getPsq n).eval = 1 ∧ (t.getPsq n).epc = (s.getPsq n).pc ∧
      (t.getPsq n).depth = (s.getPsq n).depth ∧ (t.getPsq n).trap = true ∧ (t.getPsq n).cur = 15 ∧ t = { s with psq := t.psq } ∧ ∀ m, m ≠ n.val → t.getPsq m = s.getPsq m) ∧
  (∀ (s : State) (n : Fin 16) (w : Word) (h : FrameHdr), issuesWord s n w 0x0C → (s.getPsq n).curFrame = some h → h.kind = 1 →
    (s.getPsq n).returnFault ((s.getPsq n).depth - 1) = none →
    ∃ t, exec (.seqRet n) s = .next t ∧ (t.getPsq n).pc = h.retpc ∧ (t.getPsq n).depth = (s.getPsq n).depth - 1 ∧
      (t.getPsq n).cur = ((s.getPsq n).depth - 1) % 15 ∧ (∀ m, m ≠ n.val → t.getPsq m = s.getPsq m) ∧ t = { s with psq := t.psq } ∧
      (psqWf (s.getPsq n) → ∀ r, 1 ≤ r → r ≤ 3 → (t.getPsq n).g r = (s.getPsq n).g r)) ∧
  (∀ (s : State) (n : Fin 16) (w : Word) (h : FrameHdr), issuesWord s n w 0x0D → w.getLsbD 0 = false → (s.getPsq n).priv = true →
    (s.getPsq n).curFrame = some h → h.kind = 2 → (s.getPsq n).returnFault ((s.getPsq n).depth - 1) = none →
    psqBecomes s n (goesOn s { emitting s n w with
        frames := mset (fun _ => none) ((s.getPsq n).depth % 15) none (s.getPsq n).frames, depth := (s.getPsq n).depth - 1,
        cur := ((s.getPsq n).depth - 1) % 15, ie := h.status.getLsbD 0, priv := h.status.getLsbD 1, lmstate := h.lmstate, lmbase := h.lmbase }
      h.retpc) (exec (.seqRetxInterrupt n) s)) ∧
  (∀ (s : State) (n : Fin 16) (w : Word), issuesWord s n w 0x0D → w.getLsbD 0 = true → (s.getPsq n).priv = true → (s.getPsq n).trap = true →
    (s.getPsq n).cur = 15 →
    psqBecomes s n (goesOn s { emitting s n w with
        ie := (s.getPsq n).tstatus.getLsbD 0, priv := (s.getPsq n).tstatus.getLsbD 1, trap := false, lmstate := (s.getPsq n).tlmstate,
        lmbase := (s.getPsq n).tlmbase, cur := (s.getPsq n).depth % 15 } (s.getPsq n).epc) (exec (.seqRetxTrap n) s))

/-- Traps of the sequencers: SYSC, opcode 0x1F, a service-class instruction in a frame program, an invalid page; and a trap condition while TRAP is 1
does not enter a second trap (R203 to R207).
It also rests on choices of the model: log entries 33, 148. -/
def Obligations.SequencerTraps : Prop :=
  (∀ (s : State) (n : Fin 16) (w : Word), issuesWord s n w 0x1E → fieldOf w 23 16 = 0 → (s.getPsq n).exec = .svc → (s.getPsq n).trap = false →
    psqBecomes s n (goesOn s { s.getPsq n with
        epc := (s.getPsq n).pc + 1, ecause := 11, eval := immZ w, tstatus := (s.getPsq n).status, tlmstate := (s.getPsq n).lmstate,
        tlmbase := (s.getPsq n).lmbase, lmstate := 0, trap := true, priv := true, cur := 15 }
      (BitVec.ofNat 16 (256 * s.effFld n (F.PSQ_CFG.IVBASE n) + 128))) (exec (.seqSysc n) s)) ∧
  (∀ (s : State) (n : Fin 16), s.issuesNow n = true → s.pageValid n ((s.getPsq n).pc.toNat / 4096) = true →
    fieldOf (s.getPsq n).fetch 31 27 = 0x1F → (s.getPsq n).exec = .svc → (s.getPsq n).trap = false → (s.getPsq n).repLeft = 0 →
    psqBecomes s n (goesOn s { s.getPsq n with
        epc := (s.getPsq n).pc, ecause := 4, eval := (s.getPsq n).fetch, tstatus := (s.getPsq n).status, tlmstate := (s.getPsq n).lmstate,
        tlmbase := (s.getPsq n).lmbase, lmstate := 0, trap := true, priv := true, cur := 15 }
      (BitVec.ofNat 16 (256 * s.effFld n (F.PSQ_CFG.IVBASE n) + 128))) (exec (.seqIllegal n) s)) ∧
  (∀ (s : State) (n : Fin 16) (w : Word), issuesWord s n w 0x1A → (s.getPsq n).exec = .frame → (s.getPsq n).trap = false →
    ∃ t, exec (.seqLd n) s = .next t ∧ (t.getPsq n).ecause = 5 ∧ (t.getPsq n).eval = w ∧ (t.getPsq n).epc = (s.getPsq n).pc ∧
      (t.getPsq n).access = none ∧ (t.getPsq n).vout = some ⟨false, true, (s.getPsq n).vcode (fieldOf w 26 24)⟩) ∧
  (∀ (s : State) (n : Fin 16), s.issuesNow n = true → s.pageValid n ((s.getPsq n).pc.toNat / 4096) = false → (s.getPsq n).trap = false →
    (s.getPsq n).repLeft = 0 →
    ∃ t, exec (.seqAddi n) s = .next t ∧ (t.getPsq n).ecause = 8 ∧ (t.getPsq n).eval = (s.getPsq n).pc.zeroExtend 32 ∧
      (t.getPsq n).epc = (s.getPsq n).pc ∧ (t.getPsq n).banks = (s.getPsq n).banks ∧ t = { s with psq := t.psq } ∧ ∀ m, m ≠ n.val → t.getPsq m = s.getPsq m) ∧
  (∀ (s : State) (n : Fin 16) (w : Word), issuesWord s n w 0x1E → fieldOf w 23 16 = 0 → (s.getPsq n).exec = .svc → (s.getPsq n).trap = true →
    exec (.seqSysc n) s = .next (s.doubleFault n 11))

/-- Scratch memory, special registers, cross-bank moves, signals, captures and page fills (R150, R173, R178, R187, R188, R212).
It also rests on choices of the model: log entry 35. -/
def Obligations.SequencerScratchAndSpecial : Prop :=
  (∀ (s : State) (n : Fin 16) (w : Word),
    let a := ((s.getPsq n).g (fieldOf w 19 16) + immS w) &&& 0x3FFF
    a.toNat % 4 = 0 →
    (issuesWord s n w 0x12 → psqBecomes s n (goesOn s ((emitting s n w).setG (fieldOf w 23 20)
      (mget (fun _ => 0) (a.toNat / 4) (s.getPsq n).scratch)) ((s.getPsq n).pc + 1)) (exec (.seqLds n) s)) ∧
    (issuesWord s n w 0x13 → psqBecomes s n (goesOn s { emitting s n w with
      scratch := mset (fun _ => 0) (a.toNat / 4) ((s.getPsq n).g (fieldOf w 23 20)) (s.getPsq n).scratch } ((s.getPsq n).pc + 1))
      (exec (.seqSts n) s))) ∧
  (∀ (s : State) (n : Fin 16) (w : Word),
    let a := ((s.getPsq n).g (fieldOf w 19 16) + immS w) &&& 0x3FFF
    a.toNat % 4 ≠ 0 → (s.getPsq n).trap = false → issuesWord s n w 0x12 →
    ∃ t, exec (.seqLds n) s = .next t ∧ (t.getPsq n).ecause = 10 ∧ (t.getPsq n).eval = a ∧ t = { s with psq := t.psq } ∧ ∀ m, m ≠ n.val → t.getPsq m = s.getPsq m) ∧
  (∀ (s : State) (n : Fin 16) (w : Word), issuesWord s n w 0x14 →
    (fieldOf w 11 0 = 0x009 → psqBecomes s n (goesOn s ((emitting s n w).setG (fieldOf w 23 20) (BitVec.ofNat 32 (s.getPsq n).depth))
      ((s.getPsq n).pc + 1)) (exec (.seqMfs n) s)) ∧
    (fieldOf w 11 0 = 0x00F → psqBecomes s n (goesOn s ({ emitting s n w with
      tickHi := some (BitVec.ofNat 32 (s.tick.toNat / 2 ^ 32)) }.setG (fieldOf w 23 20) (BitVec.ofNat 32 s.tick.toNat))
      ((s.getPsq n).pc + 1)) (exec (.seqMfs n) s)) ∧
    (fieldOf w 11 0 = 0x002 → psqBecomes s n (goesOn s ((emitting s n w).setG (fieldOf w 23 20) (s.getPsq n).ecause)
      ((s.getPsq n).pc + 1)) (exec (.seqMfs n) s))) ∧
  (∀ (s : State) (n : Fin 16) (w : Word), issuesWord s n w 0x15 → (s.getPsq n).priv = true → (s.getPsq n).sealFlag = false →
    (fieldOf w 11 0 = 0x003 → psqBecomes s n (goesOn s { emitting s n w with eval := (s.getPsq n).g (fieldOf w 19 16) }
      ((s.getPsq n).pc + 1)) (exec (.seqMts n) s)) ∧
    (fieldOf w 11 0 = 0x00A → psqBecomes s n (goesOn s { emitting s n w with winsel := ((s.getPsq n).g (fieldOf w 19 16)).toNat % 16 }
      ((s.getPsq n).pc + 1)) (exec (.seqMts n) s))) ∧
  (∀ (s : State) (n : Fin 16) (w : Word), issuesWord s n w 0x16 → (s.getPsq n).sealFlag = false → (s.getPsq n).priv = true →
    (w.getLsbD 15 = true → psqBecomes s n (goesOn s ((emitting s n w).setBankReg (s.getPsq n).winsel (fieldOf w 23 20)
      ((s.getPsq n).g (fieldOf w 19 16))) ((s.getPsq n).pc + 1)) (exec (.seqXmov n) s)) ∧
    (w.getLsbD 15 = false → psqBecomes s n (goesOn s ((emitting s n w).setG (fieldOf w 23 20)
      ((s.getPsq n).bankReg (s.getPsq n).winsel (fieldOf w 19 16))) ((s.getPsq n).pc + 1)) (exec (.seqXmov n) s))) ∧
  (∀ (s : State) (n m : Fin 16) (w : Word), s.regsWf → issuesWord s n w 0x17 → m ≠ n → fieldOf w 19 16 = m → w.getLsbD 15 = false →
    ∃ t, exec (.seqSig n) s = .next t ∧ t.getPsq n = goesOn s (emitting s n w) ((s.getPsq n).pc + 1) ∧ (t.getPsq m).pending 4 = true ∧
      t.fld (F.PSQ_SIG.CODE m) = fieldOf w 7 0 ∧ t = { s with regs := t.regs, psq := t.psq } ∧ regsBut s t [R.PSQ_SIG m]) ∧
  (∀ (s : State) (n : Fin 16) (w : Word) (c : Word), s.regsWf → issuesWord s n w 0x18 → s.fld F.FAB_SFX_STAT.STATE = 0 →
    c = (s.getPsq n).g (fieldOf w 19 16) → s.tick.toNat + c.toNat + (immZ w).toNat < 2 ^ 64 → 4 ≤ c.toNat + (immZ w).toNat →
    ∃ t, exec (.seqSfx n) s = .next t ∧ t.fld F.FAB_SFX_STAT.STATE = 1 ∧
      t.fab.sfx.armed = some (s.tick + c.zeroExtend 64 + (immZ w).zeroExtend 64) ∧ t.fab.sfx.cause = 1 ∧
      t.getPsq n = goesOn s (emitting s n w) ((s.getPsq n).pc + 1) ∧ t = { s with regs := t.regs, psq := t.psq, fab := t.fab } ∧ regsBut s t [R.FAB_SFX_STAT]) ∧
  (∀ (s : State) (n : Fin 16) (w : Word), s.regsWf → issuesWord s n w 0x19 → (s.getPsq n).pc.toNat / 4096 ≠ fieldOf w 23 20 →
    s.fld (pageFld n (fieldOf w 23 20)) ≠ 1 →
    ∃ t, exec (.seqPgld n) s = .next t ∧ t.fld (pageFld n (fieldOf w 23 20)) = 1 ∧ t.fld (F.PSQ_PG_STATUS.STATUS n) = 0 ∧
      (t.getPsq n).fills = mset (fun _ => none) (fieldOf w 23 20) (some ((s.getPsq n).g (fieldOf w 19 16)).toNat) (s.getPsq n).fills ∧
      (t.getPsq n).pc = (s.getPsq n).pc + 1 ∧ t = { s with regs := t.regs, psq := t.psq } ∧
      regsBut s t [(pageFld n (fieldOf w 23 20)).off, R.PSQ_PG_STATUS n])

/-- Service-class instructions: loads and stores of one word and of several, WAITI, FENCE, HALT, and the end of an access (R170, R178, R208,
R209).
It also rests on choices of the model: log entries 34, 122. -/
def Obligations.SequencerServiceInstructions : Prop :=
  (∀ (s : State) (n : Fin 16) (w a : Word), (s.getPsq n).exec = .svc → a = (s.getPsq n).g (fieldOf w 19 16) + immS w →
    (a.toNat < 0x4000 → a.toNat % 4 = 0 →
      (issuesWord s n w 0x1A → psqBecomes s n (goesOn s ((s.getPsq n).setG (fieldOf w 23 20)
        (mget (fun _ => 0) (a.toNat / 4) (s.getPsq n).scratch)) ((s.getPsq n).pc + 1)) (exec (.seqLd n) s)) ∧
      (issuesWord s n w 0x1B → psqBecomes s n (goesOn s { s.getPsq n with
        scratch := mset (fun _ => 0) (a.toNat / 4) ((s.getPsq n).g (fieldOf w 23 20)) (s.getPsq n).scratch } ((s.getPsq n).pc + 1))
        (exec (.seqSt n) s))) ∧
    (0x80000000 ≤ a.toNat → a.toNat % 4 = 0 →
      (issuesWord s n w 0x1A → psqBecomes s n { s.getPsq n with
        access := some ⟨false, fieldOf w 23 20, a, (s.getPsq n).g (fieldOf w 23 20), false⟩, issuedAt := some s.tick } (exec (.seqLd n) s)) ∧
      (issuesWord s n w 0x1B → psqBecomes s n { s.getPsq n with
        access := some ⟨true, fieldOf w 23 20, a, (s.getPsq n).g (fieldOf w 23 20), false⟩, issuedAt := some s.tick } (exec (.seqSt n) s))) ∧
    (0x4000 ≤ a.toNat → a.toNat < 0x10000 → a.toNat % 4 = 0 → (s.getPsq n).trap = false → issuesWord s n w 0x1A →
      ∃ t, exec (.seqLd n) s = .next t ∧ (t.getPsq n).ecause = 9 ∧ (t.getPsq n).eval = a ∧ t = { s with psq := t.psq } ∧ ∀ m, m ≠ n.val → t.getPsq m = s.getPsq m)) ∧
  (∀ (s : State) (n : Fin 16) (w : Word) (k : Nat) (rest : List Nat), (s.getPsq n).exec = .svc → (s.getPsq n).lmstate = 0 →
    onesFrom 16 0 (w.toNat % 2 ^ 16) = k :: rest → ((s.getPsq n).g (fieldOf w 19 16)).toNat < 0x4000 →
    ((s.getPsq n).g (fieldOf w 19 16)).toNat % 4 = 0 →
    (issuesWord s n w 0x1C → ∃ t, exec (.seqLdm n) s = .next t ∧ (t.getPsq n).lmbase = (s.getPsq n).g (fieldOf w 19 16) ∧
      (t.getPsq n).lmstate.toNat % 2 ^ 16 = w.toNat % 2 ^ 16 - 2 ^ k ∧ t = { s with psq := t.psq } ∧
      (t.getPsq n).banks = ((s.getPsq n).setG k (mget (fun _ => 0) (((s.getPsq n).g (fieldOf w 19 16)).toNat / 4) (s.getPsq n).scratch)).banks ∧
      (t.getPsq n).pc = if rest = [] then (s.getPsq n).pc + 1 else (s.getPsq n).pc) ∧
    (issuesWord s n w 0x1D → ∃ t, exec (.seqStm n) s = .next t ∧ t = { s with psq := t.psq } ∧
      (t.getPsq n).scratch = mset (fun _ => 0) (((s.getPsq n).g (fieldOf w 19 16)).toNat / 4) ((s.getPsq n).g k) (s.getPsq n).scratch ∧
      (t.getPsq n).banks = (s.getPsq n).banks ∧ (t.getPsq n).pc = if rest = [] then (s.getPsq n).pc + 1 else (s.getPsq n).pc)) ∧
  (∀ (s : State) (n : Fin 16) (x : DataAccess), (s.getPsq n).access = some x → x.multi = false →
    memCheck s (128 + n) (s.dataDpa n x.addr) 4 x.store = 0 →
    (x.store = false → ∃ t, exec (.dataAccessComplete n 0) s = .next t ∧ t = { s with psq := t.psq, free := t.free, noc := hostNoc s t } ∧
      t.getPsq n = goesOn s { (s.getPsq n).setG x.reg (BitVec.ofNat 32 (ofLeBytes (s.dpaBytes (s.dataDpa n x.addr) 4))) with access := none }
        ((s.getPsq n).pc + 1)) ∧
    (x.store = true → exec (.dataAccessComplete n 0) s = .next ((s.unitWrite (128 + n) (s.dataDpa n x.addr) (leBytes 4 x.value.toNat)).setPsq n
      (goesOn s { s.getPsq n with access := none } ((s.getPsq n).pc + 1))))) ∧
  (∀ (s : State) (n : Fin 16) (w : Word), issuesWord s n w 0x1E → (s.getPsq n).exec = .svc →
    (fieldOf w 23 16 = 1 → psqBecomes s n { goesOn s (s.getPsq n) ((s.getPsq n).pc + 1) with exec := .wait } (exec (.seqWaiti n) s)) ∧
    (fieldOf w 23 16 = 2 → psqBecomes s n (goesOn s (s.getPsq n) ((s.getPsq n).pc + 1)) (exec (.seqFence n) s)) ∧
    (fieldOf w 23 16 = 3 → psqBecomes s n { goesOn s (s.getPsq n) ((s.getPsq n).pc + 1) with exec := .stop } (exec (.seqHalt n) s)))

/-- Interrupt sources and the entry to a handler (R199 to R201, R210).
It also rests on choices of the model: log entry 33. -/
def Obligations.SequencerInterrupts : Prop :=
  (∀ (req : Requester) (n : Fin 16) (v : Word) (s : State), s.regsWf →
    ∃ t, exec (.psqDoorbell req n v) s = .next t ∧ t.reg (R.PSQ_DOORBELL n) = v.zeroExtend 64 ∧ (t.getPsq n).pending 0 = true ∧
      t = { s with regs := t.regs, psq := t.psq } ∧ regsBut s t [R.PSQ_DOORBELL n]) ∧
  (∀ (n : Fin 16) (s : State), s.fckOn = true → s.issueTick n 0 = true →
    (s.reg (R.PSQ_FRAMECNT n)).toNat % 2 ^ 32 = (s.reg (R.PSQ_TIMER n)).toNat % 2 ^ 32 →
    ∃ t, exec (.psqTimer n) s = .next t ∧ (t.getPsq n).pending 1 = true ∧ t = { s with psq := t.psq }) ∧
  (∀ (n : Fin 16) (s : State), (s.reg (R.PSQ_FRAMECNT n)).toNat % 2 ^ 32 ≠ (s.reg (R.PSQ_TIMER n)).toNat % 2 ^ 32 →
    exec (.psqTimer n) s = .next s) ∧
  (∀ (n : Fin 16) (s : State) (src : Nat), (s.atBoundary n = true ∨ ((s.getPsq n).exec = .wait ∧ s.fckOn = true)) → s.irqDue n = some (src, none) →
    (s.getPsq n).svcEnd = false →
    ∃ t, exec (.interruptEntry n) s = .next t ∧ (t.getPsq n).pc = BitVec.ofNat 16 (256 * s.effFld n (F.PSQ_CFG.IVBASE n) + 16 * src) ∧
      (t.getPsq n).ie = false ∧ (t.getPsq n).priv = s.effBit n (F.PSQ_CFG.IRQ_PRIV n) ∧ (t.getPsq n).depth = (s.getPsq n).depth + 1 ∧
      (t.getPsq n).cur = ((s.getPsq n).depth + 1) % 15 ∧ (t.getPsq n).lmstate = 0 ∧
      (psqWf (s.getPsq n) → (t.getPsq n).frameIn (((s.getPsq n).depth + 1) % 15) =
        some ⟨(s.getPsq n).depth + 1, 2, (s.getPsq n).pc, (s.getPsq n).status, (s.getPsq n).lmstate, (s.getPsq n).lmbase⟩) ∧
      (psqWf (s.getPsq n) → (t.getPsq n).pending src = false) ∧ t = { s with psq := t.psq }) ∧
  (∀ (n : Fin 16) (s : State) (src e : Nat), s.atBoundary n = true → s.irqDue n = some (src, some e) → (s.getPsq n).svcEnd = false →
    (s.getPsq n).exec = .svc → (s.getPsq n).trap = false →
    ∃ t, exec (.interruptEntry n) s = .next t ∧ (t.getPsq n).ecause = 2 ∧ (t.getPsq n).eval = BitVec.ofNat 32 e ∧
      (t.getPsq n).epc = (s.getPsq n).pc ∧ (t.getPsq n).depth = (s.getPsq n).depth ∧ (t.getPsq n).trap = true ∧ (t.getPsq n).cur = 15 ∧
      t = { s with psq := t.psq }) ∧
  (∀ (n : Fin 16) (s : State), s.irqDue n = none → exec (.interruptEntry n) s = .next s)

/-- Instruction pages are filled and frames of the register window move between the window store and memory (R173, R194 to R198).
It also rests on choices of the model: log entries 36, 37. -/
def Obligations.PageFillsAndWindowMoves : Prop :=
  (∀ (req : Requester) (n pg : Fin 16) (u : BitVec 24) (s : State), s.regsWf → (s.getPsq n).pc.toNat / 4096 ≠ pg.val → s.fld (pageFld n pg) ≠ 1 →
    ∃ t, exec (.psqPgCmd req n pg u) s = .next t ∧ t.fld (pageFld n pg) = 1 ∧ t.fld (F.PSQ_PG_STATUS.STATUS n) = 0 ∧
      t.getPsq n = { s.getPsq n with fills := mset (fun _ => none) pg.val (some u.toNat) (s.getPsq n).fills } ∧
      t = { s with regs := t.regs, psq := t.psq }) ∧
  (∀ (req : Requester) (n pg : Fin 16) (u : BitVec 24) (s : State), s.regsWf → (s.getPsq n).pc.toNat / 4096 = pg.val →
    ∃ t, exec (.psqPgCmd req n pg u) s = .next t ∧ t.fld (F.PSQ_PG_STATUS.STATUS n) = C.PSQ_PAGE_BUSY ∧
      logs s t C.PSQ_PAGE_BUSY (srcSeq n) (s.getPsq n).pc.toNat ∧ onlyRegsLog s t [R.PSQ_PG_STATUS n]) ∧
  (∀ (n pg : Fin 16) (s : State) (u : Nat), s.regsWf → mget (fun _ => none) pg.val (s.getPsq n).fills = some u →
    (memCheck s (128 + n) (u * 16384) 16384 false = 0 →
      ∃ t, exec (.pageFillDone n pg 0) s = .next t ∧ t.fld (pageFld n pg) = 2 ∧ (t.getPsq n).pending 3 = true ∧
        (t.getPsq n).imem = putWords (4096 * pg.val) (bytesToWords (s.dpaBytes (u * 16384) 16384)) (s.getPsq n).imem ∧
        (t.getPsq n).pc = (s.getPsq n).pc ∧ t = { s with regs := t.regs, psq := t.psq, free := t.free, noc := hostNoc s t } ∧
        regsBut s t [(pageFld n pg).off]) ∧
    (∀ st : Half, memStatus s (128 + n) (u * 16384) 16384 false st.toNat ≠ 0 →
      ∃ t, exec (.pageFillDone n pg st) s = .next t ∧ t.fld (pageFld n pg) = 3 ∧ (t.getPsq n).pending 3 = true ∧
        t.fld (F.PSQ_PG_STATUS.STATUS n) = C.PSQ_PAGE_FILL_ERR ∧ (t.getPsq n).imem = (s.getPsq n).imem ∧ t.mem = s.mem)) ∧
  (∀ (n : Fin 16) (s : State) (b : Nat) (h : FrameHdr), (s.getPsq n).lowestResident = some (b, h) → s.spillReady n = true →
    (s.getPsq n).freeBanks < (s.aheads n).1 → (s.getPsq n).wstore.length < 512 →
    psqBecomes s n { s.getPsq n with
      frames := mset (fun _ => none) b none (s.getPsq n).frames, movedAt := some s.tick,
      wstore := (s.getPsq n).wstore ++ [⟨h, (List.range 16).map ((s.getPsq n).bankReg b), false⟩] } (exec (.windowSpill n) s)) ∧
  (∀ (n : Fin 16) (s : State) (f : StoredFrame), (s.getPsq n).wstore.getLast? = some f → s.spillReady n = true → s.spillDue n = false →
    ((List.range 15).filter (fun b => match (s.getPsq n).frameIn b with
      | some h => decide (h.depth < (s.getPsq n).depth)
      | none => false)).length < (s.aheads n).2 →
    (s.aheads n).1 + 1 ≤ (s.getPsq n).freeBanks → (s.getPsq n).frameIn (f.hdr.depth % 15) = none →
    (s.getPsq n).spillBad.contains f.hdr.depth = false →
    (f.bad = false → ∃ t, exec (.windowFill n) s = .next t ∧ (t.getPsq n).wstore = (s.getPsq n).wstore.dropLast ∧
      (t.getPsq n).frames = mset (fun _ => none) (f.hdr.depth % 15) (some f.hdr) (s.getPsq n).frames ∧
      (t.getPsq n).movedAt = some s.tick ∧ t = { s with psq := t.psq } ∧
      (psqWf (s.getPsq n) → ∀ r, 1 ≤ r → r < 16 → (t.getPsq n).bankReg (f.hdr.depth % 15) r = f.regs.getD r 0)) ∧
    (f.bad = true → s.regsWf → ∃ t, exec (.windowFill n) s = .next t ∧ t.bit (F.PSQ_WSTORE.SPILL_ERR n) = true ∧
      (t.getPsq n).spillBad = (s.getPsq n).spillBad ++ [f.hdr.depth] ∧ (t.getPsq n).wstore = (s.getPsq n).wstore ∧
      t = { s with regs := t.regs, psq := t.psq, err := t.err } ∧ regsBut s t [R.PSQ_WSTORE n])) ∧
  (∀ (n : Fin 16) (s : State),
    let k := (s.getPsq n).wstore.length - (s.effFld n (F.PSQ_WCFG.STORE_HI n) - 32)
    let a := s.effFld n (F.PSQ_SPILL_BASE.ADDR n) * 128 + 128 * (s.getPsq n).inMem
    (s.getPsq n).sealFlag = false → (s.getPsq n).windowsKept = false → s.effFld n (F.PSQ_WCFG.STORE_HI n) < (s.getPsq n).wstore.length → memCheck s (128 + n) a (128 * k) true = 0 →
    exec (.wstoreToMemory n 0) s = .next ((s.unitWrite (128 + n) a (((s.getPsq n).wstore.take k).flatMap (fun f => f.bytes n))).setPsq n
      { s.getPsq n with wstore := (s.getPsq n).wstore.drop k, inMem := (s.getPsq n).inMem + k })) ∧
  (∀ (n : Fin 16) (s : State), (s.getPsq n).sealFlag = true → exec (.wstoreToMemory n 0) s = .next s) ∧
  (∀ (n : Fin 16) (s : State),
    let k := min (s.getPsq n).inMem (min (s.effFld n (F.PSQ_WCFG.STORE_LO n) + 32) 512 - (s.getPsq n).wstore.length)
    let a := s.effFld n (F.PSQ_SPILL_BASE.ADDR n) * 128 + 128 * ((s.getPsq n).inMem - k)
    (s.getPsq n).windowsKept = false → (s.getPsq n).wstore.length < s.effFld n (F.PSQ_WCFG.STORE_LO n) → 1 ≤ k → memCheck s (128 + n) a (128 * k) false = 0 →
    ∃ t, exec (.wstoreFromMemory n 0) s = .next t ∧ (t.getPsq n).inMem = (s.getPsq n).inMem - k ∧
      (t.getPsq n).wstore = (List.range k).map (fun i => storedFrame n ((s.getPsq n).inMem - k + i)
        (((s.dpaBytes a (128 * k)).drop (128 * i)).take 128)) ++ (s.getPsq n).wstore ∧ (t.getPsq n).banks = (s.getPsq n).banks ∧
      t = { s with psq := t.psq, free := t.free, noc := hostNoc s t })


/-- The seal, the window debug port and the protected configuration of a sequencer (R213 to R216).
It also rests on choices of the model: log entries 34, 37, 149. -/
def Obligations.SealDebugAndConfiguration : Prop :=
  (∀ (req : Requester) (n : Fin 16) (s : State), psqBecomes s n { s.getPsq n with sealFlag := true } (exec (.psqSealSet req n) s)) ∧
  (∀ (req : Requester) (n : Fin 16) (s : State), (s.getPsq n).sealFlag = false → (s.getPsq n).exec = .susp →
    (exec (.psqWdbgAccess req n none) s = .next { s with
      rdata := ((s.getPsq n).bankReg (s.fld (F.PSQ_WDBG_ADDR.BANK n)) (s.fld (F.PSQ_WDBG_ADDR.REG n))).zeroExtend 64 }) ∧
    (∀ v : Word, exec (.psqWdbgAccess req n (some v)) s = .next (s.setPsq n
      ((s.getPsq n).setBankReg (s.fld (F.PSQ_WDBG_ADDR.BANK n)) (s.fld (F.PSQ_WDBG_ADDR.REG n)) v)))) ∧
  (∀ (req : Requester) (n : Fin 16) (s : State), (s.getPsq n).sealFlag = false → ((s.getPsq n).exec = .frame ∨ (s.getPsq n).exec = .svc) →
    ∃ t, exec (.psqWdbgAccess req n none) s = .next t ∧ t.rdata = 0 ∧ logs s t C.STATE_REFUSED (srcRequester req) (R.PSQ_WDBG_DATA n) ∧
      t = { s with rdata := 0, err := t.err }) ∧
  (∀ (req : Requester) (n : Fin 16) (s : State), (s.getPsq n).sealFlag = true → (s.getPsq n).exec = .stop →
    ∃ t, exec (.psqWdbgAccess req n none) s = .next t ∧ t.rdata = 0 ∧ logs s t C.PSQ_SEALED_ACCESS (srcSeq n) (s.getPsq n).pc.toNat ∧
      t = { s with rdata := 0, err := t.err }) ∧
  (∀ (req : Requester) (n : Fin 16) (v : Wide) (s : State), s.regsWf → (s.siteCode n = 0 ∨ s.siteCode n = 1 ∨ s.siteCode n = 5) →
    (s.getPsq n).exec = .stop →
    ∃ t, exec (.psqConfigWrite req n .entry v) s = .next t ∧ t.fld (F.PSQ_ENTRY.RUN_PC n) = getBits v 0 16 ∧
      t.fld (F.PSQ_ENTRY.SVC_PC n) = getBits v 16 16 ∧ t = { s with regs := t.regs, psq := t.psq } ∧ regsBut s t [R.PSQ_ENTRY n] ∧
      (∀ m, m ≠ n.val → t.getPsq m = s.getPsq m) ∧ t.getPsq n = { s.getPsq n with held := (t.getPsq n).held }) ∧
  (∀ (req : Requester) (n : Fin 16) (r : PsqCfgReg) (v : Wide) (s : State), (s.siteCode n = 0 ∨ s.siteCode n = 1 ∨ s.siteCode n = 5) →
    (s.getPsq n).exec = .stop →
    ∃ t, exec (.psqConfigWrite req n r v) s = .next t ∧ ∀ o, t.effReg n o = s.effReg n o) ∧
  (∀ (req : Requester) (n : Fin 16) (s : State), s.cmdOpen req n = true → (s.siteCode n = 0 ∨ s.siteCode n = 1 ∨ s.siteCode n = 5) →
    (s.getPsq n).exec = .stop → (s.getPsq n).next = none → s.loadWrites n = false → s.fld F.BIST_STAT.NF ≠ 1 →
    ∃ t, exec (.psqService req n) s = .next t ∧ ∀ o, o ≠ R.PSQ_STAT n → t.effReg n o = s.reg o) ∧
  (∀ (n : Fin 16) (o : Nat) (s : State), ((s.setPsq n ((s.getPsq n).armed 1 false false 0)).effReg n o) = s.reg o) ∧
  (∀ (req : Requester) (n : Fin 16) (r : PsqCfgReg) (v : Wide) (s : State), s.siteActive n = true →
    ∃ t, exec (.psqConfigWrite req n r v) s = .next t ∧ logs s t C.STATE_REFUSED (srcRequester req) (PsqCfgReg.off n r) ∧ onlyRegsLog s t [])

namespace Sys2Proof.Claims

/-- The bit `f` of PSL_CFG as slice `k` works with it (R232). -/
def sliceBit (s : State) (k : Nat) (f : Fld) : Bool := f.of (s.slice k).set.cfg == 1

/-- No PSL_BIND write of slice `k` was accepted in the present tick. -/
abbrev noBindNow (s : State) (k : Nat) : Prop := ∀ b, (s.slice k).bindRec = some b → b.tick ≠ s.tick

end Sys2Proof.Claims

/-- A slice compares the frame whose compare tick has come: its fail word marks each UI whose sample its expect code does not allow, an impossible
comparator state is counted and logged, the counters advance, and the first failing frame since the clear is kept (R224, R235 to R237).
It also rests on choices of the model: log entry 126. -/
def Obligations.SliceCompareMarksFails : Prop :=
  ∀ (k : Fin 256) (h l : Half) (s : State) (f : SliceFrame), s.regsWf → (s.slice k).frameAt s.tick = some f →
    (s.sliceState k = 2 ∨ s.sliceState k = 3 ∨ s.sliceState k = 4) → (s.slice k).now.compared = false →
    (f.expect.v && !(sliceBit s k (F.PSL_CFG.SPOL k) && f.expect.s)) = true →
    let hh := if sliceBit s k (F.PSL_CFG.CMPH_INV k) then ~~~ h else h
    let ll := if sliceBit s k (F.PSL_CFG.CMPL_INV k) then ~~~ l else l
    ∃ t, exec (.sliceCompare k h l) s = .next t ∧ (t.slice k).now.compared = true ∧
      (∀ j < 16, (t.slice k).now.fail.getLsbD j =
        (match f.expect.data.toNat / 4 ^ j % 4 with
          | 0 => hh.getLsbD j || !ll.getLsbD j
          | 1 => !hh.getLsbD j || ll.getLsbD j
          | 2 => hh.getLsbD j || ll.getLsbD j
          | _ => false)) ∧
      (t.sliceResult k).stale = (!sliceBit s k (F.PSL_CFG.SPOL k) && (f.expect.s || f.drive.s)) ∧
      t.fld (F.PSL_CNT_FRAMES.COUNT k) = min (s.fld (F.PSL_CNT_FRAMES.COUNT k) + 1) (2 ^ (F.PSL_CNT_FRAMES.COUNT k).w - 1) ∧
      t.fld (F.PSL_CNT_FAILUI.COUNT k) =
        min (s.fld (F.PSL_CNT_FAILUI.COUNT k) + popNat 16 (t.slice k).now.fail.toNat) (2 ^ (F.PSL_CNT_FAILUI.COUNT k).w - 1) ∧
      ((t.slice k).now.fail ≠ 0 → s.bit (F.PSL_FIRST_FAIL.VALID k) = false → t.bit (F.PSL_FIRST_FAIL.VALID k) = true ∧
        t.fld (F.PSL_FIRST_FAIL.WORD k) = (t.slice k).now.fail.toNat ∧ t.reg (R.PSL_FIRST_FAIL_TICK k) = s.tick) ∧
      (((t.slice k).now.fail = 0 ∨ s.bit (F.PSL_FIRST_FAIL.VALID k) = true) →
        t.reg (R.PSL_FIRST_FAIL k) = s.reg (R.PSL_FIRST_FAIL k) ∧ t.reg (R.PSL_FIRST_FAIL_TICK k) = s.reg (R.PSL_FIRST_FAIL_TICK k)) ∧
      ((∃ j < 16, f.expect.data.toNat / 4 ^ j % 4 ≠ 3 ∧ hh.getLsbD j = true ∧ ll.getLsbD j = true) →
        t.fld (F.PSL_CNT_MISC.CMPBAD k) = min (s.fld (F.PSL_CNT_MISC.CMPBAD k) + 1) 0xFFFF ∧ t.bit (F.PSL_STAT.CMPBAD_SEEN k) = true ∧
        logs s t C.PSL_CMP_INVALID (srcSlice k) (s.pslDetail k)) ∧
      ((∀ j < 16, f.expect.data.toNat / 4 ^ j % 4 = 3 ∨ hh.getLsbD j = false ∨ ll.getLsbD j = false) →
        t.err = s.err ∧ t.reg (R.PSL_CNT_MISC k) = s.reg (R.PSL_CNT_MISC k) ∧ t.reg (R.PSL_STAT k) = s.reg (R.PSL_STAT k)) ∧
      regsBut s t [R.PSL_CNT_FRAMES k, R.PSL_CNT_FAILUI k, R.PSL_CNT_MISC k, R.PSL_STAT k, R.PSL_FIRST_FAIL k, R.PSL_FIRST_FAIL_TICK k] ∧
      t = { s with regs := t.regs, slices := t.slices, err := t.err } ∧ (∀ j, j ≠ k.val → t.slice j = s.slice j)

/-- Calibration of a slice begins, ends with what it measured, or finds no marker; CNT_CLR clears the counters (R237 to R241).
It also rests on choices of the model: log entry 39. -/
def Obligations.SliceCalibrationAndCounters : Prop :=
  (∀ (req : Requester) (k : Fin 256) (s : State), s.regsWf → s.quadReady k = true → s.allows req .pslCal = true → s.fld F.BIST_STAT.NF ≠ 1 →
    s.sliceState k = 1 → s.bit (F.PSL_STAT.BOUND k) = true → s.bit F.TICK_STAT.FCK_BUSY = false → s.sliceBusy k = false →
    ∃ t, exec (.pslCal req k) s = .next t ∧ t.slice k = { s.slice k with
        cal := true, calAt := s.tick, calRx := s.reg (R.PSL_DSK_RX k), set := { s.settings k with rx := 0 } } ∧
      t.fld (F.PSL_STAT.CMD_STATUS k) = 0 ∧ t.reg (R.PSL_DSK_RX k) = 0 ∧
      t = { s with regs := t.regs, slices := t.slices } ∧ (∀ j, j ≠ k.val → t.slice j = s.slice j) ∧ regsBut s t [R.PSL_STAT k, R.PSL_DSK_RX k]) ∧
  (∀ (req : Requester) (k : Fin 256) (s : State), s.regsWf → s.present k = true → s.allows req .pslCal = false →
    ∃ t, exec (.pslCal req k) s = .next t ∧ t.fld (F.PSL_STAT.CMD_STATUS k) = C.STATE_REFUSED ∧
      logs s t C.STATE_REFUSED (srcRequester req) (R.PSL_CTRL k) ∧ onlyRegsLog s t [R.PSL_STAT k]) ∧
  (∀ (req : Requester) (k : Fin 256) (s : State), s.regsWf → s.present k = true → s.allows req .pslCal = true →
    s.bit (F.PSL_QSTAT.READY (k / 64)) = false →
    ∃ t, exec (.pslCal req k) s = .next t ∧ t.fld (F.PSL_STAT.CMD_STATUS k) = C.PSL_QUAD_OFF ∧
      logs s t C.PSL_QUAD_OFF (srcSlice k) (s.pslDetail k) ∧ onlyRegsLog s t [R.PSL_STAT k]) ∧
  (∀ (k : Fin 256) (rH rL : BitVec 17) (s : State), s.regsWf → (s.slice k).cal = true →
    max rH.toNat rL.toNat - min rH.toNat rL.toNat ≤ 1023 → 3 + (max rH.toNat rL.toNat + 64) / 128 / 16 ≤ 64 →
    mwf (fun _ => Slice.reset) s.slices = true →
    ∃ t, exec (.calDone k (.measured rH rL)) s = .next t ∧ (t.slice k).cal = false ∧ t.fld (F.PSL_STAT.CMD_STATUS k) = 0 ∧
      t.fld (F.PSL_DSK_RX.CMPH k) = max rH.toNat rL.toNat - rH.toNat ∧ t.fld (F.PSL_DSK_RX.CMPL k) = max rH.toNat rL.toNat - rL.toNat ∧
      t.fld (F.PSL_POS_STRB.FINE k) = (max rH.toNat rL.toNat + 64) % 128 ∧
      t.fld (F.PSL_RXALIGN.K k) = 3 + (max rH.toNat rL.toNat + 64) / 128 / 16 ∧
      t.fld (F.PSL_RXALIGN.RXOFS k) = (max rH.toNat rL.toNat + 64) / 128 % 16 ∧ t = { s with regs := t.regs, slices := t.slices }) ∧
  (∀ (k : Fin 256) (s : State), s.regsWf → mwf (fun _ => Slice.reset) s.slices = true → (s.slice k).cal = true →
    ∃ t, exec (.calDone k .noMarker) s = .next t ∧ (t.slice k).cal = false ∧ t.fld (F.PSL_STAT.CMD_STATUS k) = C.PSL_CAL_FAIL ∧
      logs s t C.PSL_CAL_FAIL (srcSlice k) (s.pslDetail k) ∧ t.reg (R.PSL_DSK_RX k) = (s.slice k).calRx ∧
      regsBut s t [R.PSL_STAT k, R.PSL_DSK_RX k]) ∧
  (∀ (req : Requester) (k : Fin 256) (s : State), s.regsWf →
    ∃ t, exec (.pslCntClr req k) s = .next t ∧ t.reg (R.PSL_CNT_FRAMES k) = 0 ∧ t.reg (R.PSL_CNT_FAILUI k) = 0 ∧ t.reg (R.PSL_CNT_MISC k) = 0 ∧
      t.reg (R.PSL_FIRST_FAIL k) = 0 ∧ t.reg (R.PSL_FIRST_FAIL_TICK k) = 0 ∧
      onlyRegs s t [R.PSL_CNT_FRAMES k, R.PSL_CNT_FAILUI k, R.PSL_CNT_MISC k, R.PSL_FIRST_FAIL k, R.PSL_FIRST_FAIL_TICK k])

/-- Setting writes and bindings of slices are taken while the slice's site is not active, and refused while it is (R232, R249, R251). -/
def Obligations.SliceSettingsAndBindings : Prop :=
  (∀ (req : Requester) (k : Fin 256) (v : Word) (s : State), s.f128 = true → 128 ≤ k.val →
    exec (.pslCal req k) s = .next s ∧ exec (.pslSettingWrite req k .cfg v) s = .next s ∧ exec (.pslBind req k v) s = .next s) ∧
  (∀ (req : Requester) (k : Fin 256) (v : Word) (s : State), s.regsWf → s.present k = true → s.sliceBusy k = false →
    ∃ t, exec (.pslSettingWrite req k .posLead v) s = .next t ∧ t.fld (F.PSL_POS_LEAD.FINE k) = getBits (v.zeroExtend 64) 0 7 ∧
      onlyRegs s t [R.PSL_POS_LEAD k]) ∧
  (∀ (req : Requester) (k : Fin 256) (r : PslReg) (v : Word) (s : State), s.present k = true → s.sliceBusy k = true →
    ∃ t, exec (.pslSettingWrite req k r v) s = .next t ∧ logs s t C.STATE_REFUSED (srcRequester req) (pslRegOff k r) ∧ onlyRegsLog s t []) ∧
  (∀ (req : Requester) (k : Fin 256) (v : Word) (s : State), s.regsWf → mwf (fun _ => Slice.reset) s.slices = true →
    s.quadReady k = true → s.allows req .pslCal = true → s.sliceBusy k = false → (s.slice k).lostAt ≠ some s.tick →
    (v.getLsbD 31 = true → s.bindInvalid k v.toNat = false →
      ∃ t, exec (.pslBind req k v) s = .next t ∧ t.bit (F.PSL_STAT.BOUND k) = true ∧ t.bit (F.PSL_STAT.STALE k) = false ∧
        t.fld (F.PSL_STAT.CMD_STATUS k) = 0 ∧ t.fld (F.PSL_BIND.PARTNER k) = v.toNat / 256 % 64 ∧ t.fld (F.PSL_BIND.CHANNEL k) = v.toNat % 256 ∧
        (t.slice k).bindRec = some ⟨s.tick, s.reg (R.PSL_BIND k), s.fld (F.PSL_STAT.BOUND k), s.fld (F.PSL_STAT.STALE k)⟩ ∧
        t = { s with regs := t.regs, slices := t.slices } ∧ (∀ j, j ≠ k.val → t.slice j = s.slice j) ∧ regsBut s t [R.PSL_BIND k, R.PSL_STAT k]) ∧
    (v.getLsbD 31 = false →
      ∃ t, exec (.pslBind req k v) s = .next t ∧ t.bit (F.PSL_STAT.BOUND k) = false ∧ t.bit (F.PSL_STAT.STALE k) = false ∧
        t = { s with regs := t.regs, slices := t.slices } ∧ (∀ j, j ≠ k.val → t.slice j = s.slice j) ∧ regsBut s t [R.PSL_BIND k, R.PSL_STAT k]) ∧
    (v.getLsbD 31 = true → s.bindInvalid k v.toNat = true →
      ∃ t, exec (.pslBind req k v) s = .next t ∧ t.fld (F.PSL_STAT.CMD_STATUS k) = C.PSL_BIND_INVALID ∧
        logs s t C.PSL_BIND_INVALID (srcSlice k) (v.toNat / 256 % 64 + v.toNat % 256 * 256) ∧ onlyRegsLog s t [R.PSL_STAT k])) ∧
  (∀ (req : Requester) (k : Fin 256) (v : Word) (s : State), s.regsWf → s.present k = true → (s.allows req .pslCal = false ∨ s.sliceBusy k = true) →
    ∃ t, exec (.pslBind req k v) s = .next t ∧ t.fld (F.PSL_STAT.CMD_STATUS k) = C.STATE_REFUSED ∧
      logs s t C.STATE_REFUSED (srcRequester req) (R.PSL_BIND k) ∧ onlyRegsLog s t [R.PSL_STAT k])

/-- Loss of signal and of partners reaches the slices bound there, and a quadrant's power comes up, times out and goes (R243 to R254).
It also rests on choices of the model: log entries 38, 40, 41, 124. -/
def Obligations.SignalsPartnersAndQuadrants : Prop :=
  (∀ (k : Fin 256) (onH onL : Bool) (s : State), s.regsWf → s.quadReady k = true → (onH || onL) = true → s.bit (F.PSL_STAT.BOUND k) = true →
    sliceBit s k (F.PSL_CFG.LOS_EN k) = true → noBindNow s k →
    ∃ t, exec (.los k onH onL) s = .next t ∧ t.bit (F.PSL_STAT.BOUND k) = false ∧ t.bit (F.PSL_STAT.STALE k) = true ∧
      t.bit (F.PSL_STAT.LOS_SEEN k) = true ∧ (s.sliceBusy k = true → s.sliceSite k ∈ t.pslLost) ∧ t.mem = s.mem) ∧
  (∀ (k : Fin 256) (s : State), s.regsWf → s.quadReady k = true → s.bit (F.PSL_STAT.BOUND k) = false →
    ∃ t, exec (.los k true false) s = .next t ∧ t.bit (F.PSL_STAT.LOS_H k) = true ∧ t.bit (F.PSL_STAT.LOS_SEEN k) = true ∧
      logs s t C.PSL_RX_LOS (srcSlice k) (s.pslDetail k) ∧ onlyRegsLog s t [R.PSL_STAT k, R.PSL_LOS (k / 32)]) ∧
  (∀ (k : Fin 256) (onH onL : Bool) (s : State), s.regsWf →
    ∃ t, exec (.losRecovery k onH onL) s = .next t ∧ t.bit (F.PSL_STAT.LOS_H k) = (s.bit (F.PSL_STAT.LOS_H k) && !onH) ∧
      t.bit (F.PSL_STAT.LOS_L k) = (s.bit (F.PSL_STAT.LOS_L k) && !onL) ∧ t.bit (F.PSL_STAT.STALE k) = s.bit (F.PSL_STAT.STALE k) ∧
      onlyRegs s t [R.PSL_STAT k, R.PSL_LOS (k / 32)]) ∧
  (∀ (req : Requester) (e : Fin 64) (s : State), s.regsWf → s.ptState e = 2 → (∀ k < 256, noBindNow s k) →
    ∃ t, exec (.pslPartnerDrop req e) s = .next t ∧ t.ptState e = 3 ∧
      (∀ k < 256, s.bit (F.PSL_STAT.BOUND k) = true → s.fld (F.PSL_BIND.PARTNER k) = e →
        t.bit (F.PSL_STAT.BOUND k) = false ∧ t.bit (F.PSL_STAT.STALE k) = true)) ∧
  (∀ (e : Fin 64) (s : State), s.regsWf → s.ptState e = 2 → s.dev = .loaded → s.ptByte e 14 < 24 → s.fld (F.AUX_GPIO_CFG.FUNC (s.ptByte e 14)) = 2 →
    (∀ k < 256, noBindNow s k) →
    ∃ t, exec (.presenceAbsent e) s = .next t ∧ t.ptState e = 3 ∧
      (∀ k < 256, s.bit (F.PSL_STAT.BOUND k) = true → s.fld (F.PSL_BIND.PARTNER k) = e →
        t.bit (F.PSL_STAT.BOUND k) = false ∧ t.bit (F.PSL_STAT.STALE k) = true)) ∧
  (∀ (req : Requester) (e : Fin 64) (k : Fin 256) (b : BindRec) (s : State), s.regsWf → mwf (fun _ => Slice.reset) s.slices = true → s.fckOn = true →
    s.ptState e = 2 → (s.slice k).bindRec = some b → b.tick = s.tick → b.bound = 0 → b.stale = 0 → s.bit (F.PSL_STAT.BOUND k) = true →
    s.fld (F.PSL_BIND.PARTNER k) = e →
    ∃ t, exec (.pslPartnerDrop req e) s = .next t ∧ t.bit (F.PSL_STAT.BOUND k) = false ∧ t.bit (F.PSL_STAT.STALE k) = false ∧
      t.fld (F.PSL_STAT.CMD_STATUS k) = C.PSL_BIND_INVALID ∧ t.reg (R.PSL_BIND k) = b.reg) ∧
  (∀ (req : Requester) (e : Fin 64) (s : State), s.ptState e ≠ 2 → exec (.pslPartnerDrop req e) s = .next s) ∧
  (∀ (req : Requester) (q : Fin 4) (en : Bool) (s : State), s.f128 = true → 2 ≤ q.val → exec (.pwrEnWrite req q en) s = .next s) ∧
  (∀ (req : Requester) (q : Fin 4) (s : State), s.regsWf → (s.f128 = false ∨ q.val < 2) → s.allows req .pwrEn = true →
    ∃ t, exec (.pwrEnWrite req q true) s = .next t ∧ t.bit (F.PSL_QCTRL.PWR_EN q) = true ∧
      t.bit (F.PSL_QSTAT.PWR_GOOD q) = (s.pwr.switching.isNone || s.bit (F.PSL_QSTAT.PWR_GOOD q)) ∧ t.fld (F.PSL_QSTAT.STATUS q) = 0 ∧
      onlyRegs s t [R.PSL_QCTRL q, R.PSL_QSTAT q]) ∧
  (∀ (req : Requester) (q : Fin 4) (s : State), s.regsWf → (s.f128 = false ∨ q.val < 2) → s.allows req .pwrEn = true → s.fld F.BIST_STAT.NF ≠ 1 →
    (∀ i < 64, (s.slice (64 * q + i)).cal = false ∧ s.sliceBusy (64 * q + i) = false) →
    ∃ t, exec (.pwrEnWrite req q false) s = .next t ∧ t.bit (F.PSL_QCTRL.PWR_EN q) = false ∧ t.bit (F.PSL_QSTAT.READY q) = false ∧
      t = { s with regs := t.regs, slices := t.slices, pwr := t.pwr }) ∧
  (∀ (req : Requester) (q : Fin 4) (s : State), s.regsWf → (s.f128 = false ∨ q.val < 2) → s.allows req .pwrEn = true → (∃ i < 64, s.sliceBusy (64 * q + i) = true) →
    ∃ t, exec (.pwrEnWrite req q false) s = .next t ∧ t.fld (F.PSL_QSTAT.STATUS q) = C.STATE_REFUSED ∧
      logs s t C.STATE_REFUSED (srcRequester req) (R.PSL_QCTRL q) ∧ onlyRegsLog s t [R.PSL_QSTAT q]) ∧
  (∀ (q : Fin 4) (s : State), s.regsWf → s.bit (F.PSL_QSTAT.PWR_GOOD q) = true → s.bit (F.PSL_QSTAT.READY q) = false →
    (s.fld F.CLK_STAT.LOCK).testBit (1 + q / 2) = true →
    ∃ t, exec (.quadrantReady q) s = .next t ∧ t.bit (F.PSL_QSTAT.READY q) = true ∧ q.val ∈ t.pwr.quadUp ∧
      t = { s with regs := t.regs, pwr := t.pwr } ∧ regsBut s t [R.PSL_QSTAT q, R.PWR_DOM_STAT]) ∧
  (∀ (q : Fin 4) (s : State), s.regsWf → s.bit (F.PSL_QCTRL.PWR_EN q) = true → s.bit (F.PSL_QSTAT.READY q) = false → q.val ∉ s.pwr.quadUp →
    ∃ t, exec (.quadrantTimeout q) s = .next t ∧ t.bit (F.PSL_QCTRL.PWR_EN q) = false ∧ t.fld (F.PSL_QSTAT.STATUS q) = C.PWR_DOMAIN_TIMEOUT ∧
      logs s t C.PWR_DOMAIN_TIMEOUT (srcDomain (12 + q)) 0)
/-- Records of `len` bytes of queue `k` go out one after another: its region wraps and has room for a record, they begin at a multiple of their length, no mark can be
overtaken and nothing is mirrored. -/
abbrev recordsGoOut (s : State) (k len : Nat) : Prop :=
  s.bit (F.FCQ_Q_CFG.WRAP k) = true ∧ 32 ≤ s.frArea k ∧ s.totalAhead k % len = 0 ∧ s.bit (F.FCQ_Q_CFG.MIRROR k) = false ∧
  ∀ m < 4, s.bit (F.FCQ_FR_MARK.VALID k m) = false


/-- A fail packet at its capture queue is placed against a credit, or refused with the start of a saturation episode; a refill adds a credit, is
discarded at CAP, or waits; an episode ends with its marker. At the end of a tick the accumulator of a source steps, and a refill commanded in the tick, when no
other is, is judged by the credits that the packets of the tick have left (R264 to R271, R303).
It also rests on choices of the model: log entries 43, 146, 151. -/
def Obligations.FailPacketsCreditsAndSaturation : Prop :=
  (∀ (x : Fin 128) (tick : Wide) (e o : Half) (src : Nat) (f : Byte) (site ctx : Nat) (ps : List CapPkt) (s : State),
    s.xPkt x = .fail tick e o src f site ctx :: ps → (s.source x).saturated = false → 0 < (s.source x).cr →
    ((s.queue (s.srcQueueOf x)).st = .run ∨ (s.queue (s.srcQueueOf x)).st = .flush) →
    ∃ t, exec (.failPacketHandover x) s = .next t ∧ t.xPkts = (s.setXPkt x ps).xPkts ∧
      t.sources = (s.setSource x { s.source x with cr := (s.source x).cr - 1 }).sources ∧
      t.queues = (s.setQueue (s.srcQueueOf x) { s.queue (s.srcQueueOf x) with
        inFlight := (s.queue (s.srcQueueOf x)).inFlight ++ [.fail tick e o src f site ctx] }).queues ∧
      t = { s with xPkts := t.xPkts, sources := t.sources, queues := t.queues }) ∧
  (∀ (x : Fin 128) (tick : Wide) (e o : Half) (src : Nat) (f : Byte) (site ctx : Nat) (ps : List CapPkt) (s : State), s.regsWf →
    s.xPkt x = .fail tick e o src f site ctx :: ps → (s.source x).saturated = false → (s.source x).cr = 0 →
    (s.queue (s.srcQueueOf x)).st = .run →
    ∃ t, exec (.failPacketHandover x) s = .next t ∧ (t.source x).saturated = true ∧
      (t.source x).cause = (if 256 ≤ (s.source x).acc then 2 else 1) ∧ (t.source x).refused = (s.source x).refused + 1 ∧
      (t.queue (s.srcQueueOf x)).episodes = (s.queue (s.srcQueueOf x)).episodes + 1 ∧
      (t.queue (s.srcQueueOf x)).pkts = (s.queue (s.srcQueueOf x)).pkts ∧
      t.reg (R.FCQ_SRC_SATFIRST x) = tick ∧ t.reg (R.FCQ_SRC_SATLAST x) = tick ∧ t.fld (F.FCQ_SRC_SATCNT.PKTS x) = 1 ∧
      t.fld (F.FCQ_SRC_SATCNT.FAILUI x) = popNat 16 e.toNat + popNat 16 o.toNat ∧
      logs s t C.FCQ_SATURATED (srcSource x) tick.toNat ∧
      t = { s with regs := t.regs, err := t.err, xPkts := t.xPkts, sources := t.sources, queues := t.queues }) ∧
  (∀ (x : Fin 128) (s : State), s.srcLive x = true → 256 ≤ s.accNext x →
    exec (.creditRefill x) s = .next (s.setSource x { s.source x with refill := true })) ∧
  (∀ (x : Fin 128) (s : State), (s.srcLive x = false ∨ s.accNext x < 256) → exec (.creditRefill x) s = .next s) ∧
  (∀ (x : Fin 128) (s : State), (s.source x).saturated = true → s.fld (F.FCQ_SRC_CRED.SAT_EXIT x) ≤ (s.source x).cr →
    (s.queue (s.srcQueueOf x)).st ≠ .reset →
    ∃ t, exec (.saturationExit x) s = .next t ∧ (t.source x).saturated = false ∧ (t.source x).marker = true ∧
      (t.queue (s.srcQueueOf x)).pkts = (s.queue (s.srcQueueOf x)).pkts ++ [⟨(s.queue (s.srcQueueOf x)).wptr,
        .sat (s.reg (R.FCQ_SRC_SATFIRST x)) (s.fld (F.FCQ_SRC_SATCNT.PKTS x)) x (s.source x).cause (s.rgnSite (s.xRegion x))
          (s.reg (R.FCQ_SRC_SATLAST x)) (s.fld (F.FCQ_SRC_SATCNT.FAILUI x))⟩] ∧
      (t.queue (s.srcQueueOf x)).wptr = (s.queue (s.srcQueueOf x)).wptr + 8 ∧ t = { s with sources := t.sources, queues := t.queues }) ∧
  (∀ (x : Fin 128) (s : State), (s.source x).saturated = false → exec (.saturationExit x) s = .next s) ∧
  (∀ (x : Nat) (s : State), mwf (fun _ => Source.reset) s.sources = true → (s.source x).refill = false →
    s.stepCredits.source x = { s.source x with refusedNow := false, acc := if s.srcLive x then s.accNext x else (s.source x).acc }) ∧
  (∀ (x : Nat) (s : State), mwf (fun _ => Source.reset) s.sources = true → (s.source x).refill = true → (∀ y, y ≠ x → (s.source y).refill = false) →
    s.srcLive x = true →
    (s.fld (F.FCQ_SRC_CRED.CAP x) ≤ (s.source x).cr →
      s.stepCredits.source x = { s.source x with refusedNow := false, refill := false, acc := s.accNext x - 256 }) ∧
    ((s.source x).cr < s.fld (F.FCQ_SRC_CRED.CAP x) → (s.queue (s.srcQueueOf x)).st ≠ .reset → 4 ≤ s.freeItems (s.srcQueueOf x) →
      s.stepCredits.source x = { s.source x with refusedNow := false, refill := false, acc := s.accNext x - 256, cr := (s.source x).cr + 1 }) ∧
    ((s.source x).cr < s.fld (F.FCQ_SRC_CRED.CAP x) → ((s.queue (s.srcQueueOf x)).st = .reset ∨ s.freeItems (s.srcQueueOf x) < 4) →
      s.stepCredits.source x = { s.source x with refusedNow := false, refill := false, acc := s.accNext x })) ∧
  (∀ s : State, s.stepCredits = { s with sources := s.stepCredits.sources })

/-- The drain of a capture queue: a failing packet in FAIL form becomes a record, a record goes to memory at WTOTAL, COUNT records are made at
their period, and a flush runs from its first step to READY. A record that would run over the end of its region has a PAD record before it, both mirrored in that
order where the queue is mirrored, and both written once their memory write is done; the PAD record's tick is a free value (R276, R277, R284 to R289, R298).
It also rests on choices of the model: log entries 44, 152. -/
def Obligations.DrainAndFlush : Prop :=
  (∀ (k : Fin 64) (tick : Wide) (e o : Half) (src : Nat) (f : Byte) (site ctx : Nat) (s : State),
    ((s.queue k).st = .run ∨ (s.queue k).st = .flush) → (s.queue k).pktAt (s.queue k).rptr = some (.fail tick e o src f site ctx) →
    s.fld (F.FCQ_Q_CFG.FORM k) = 1 → ¬(e = 0 ∧ o = 0) → recordsGoOut s k 16 →
    (s.fld (F.FCQ_Q_CFG.FIRST_N k) = 0 ∨ (s.source src).firsts < s.fld (F.FCQ_Q_CFG.FIRST_N k)) →
    ∃ t, exec (.drainRecord k) s = .next t ∧
      (t.queue k).writes = (s.queue k).writes ++ [(CapPkt.fail tick e o src f site ctx).bytes] ∧
      (t.queue k).rptr = (s.queue k).rptr + 4 ∧ (t.source src).firsts = (s.source src).firsts + 1 ∧
      t = { s with sources := t.sources, queues := t.queues }) ∧
  (∀ (k : Fin 64) (s : State), (s.queue k).st = .flush → (s.queue k).ended = false → (s.queue k).rptr = (s.queue k).wptr →
    (s.queue k).pktAt (s.queue k).rptr = none → (s.queue k).inFlight = [] → recordsGoOut s k 32 →
    ((s.queue k).counted = false → (∀ x, (s.queue k).run x = none) →
      ∃ t, exec (.drainRecord k) s = .next t ∧ (t.queue k).counted = true ∧ (t.queue k).ended = false ∧
        (t.queue k).writes = (s.queue k).writes ++ (s.queueSources k).map s.countRecord ∧ t = { s with queues := t.queues }) ∧
    ((s.queue k).counted = true → (s.queue k).writes = [] →
      exec (.drainRecord k) s = .next (s.setQueue k { s.queue k with writes := [s.endRecord k], ended := true })) ∧
    ((s.queue k).counted = true → (s.queue k).writes ≠ [] → exec (.drainRecord k) s = .next s)) ∧
  (∀ (k : Fin 64) (bs : List Byte) (rs : List (List Byte)) (s : State), s.regsWf → (s.queue k).writes = bs :: rs →
    recordKind bs ≠ 4 → recordKind bs ≠ 5 → 32 ≤ s.frArea k → bs.length ≤ 32 →
    (s.reg (R.FCQ_FR_WTOTAL k)).toNat % s.frArea k + bs.length ≤ s.frArea k →
    (s.bit (F.FCQ_Q_CFG.WRAP k) = true ∨ (s.reg (R.FCQ_FR_WTOTAL k)).toNat + bs.length ≤ s.frArea k) →
    (∀ m < 4, s.bit (F.FCQ_FR_MARK.VALID k m) = false) →
    memCheck s (drainNi k) (s.frBase k + 0x1000 + (s.reg (R.FCQ_FR_WTOTAL k)).toNat % s.frArea k) bs.length true = 0 →
    ∃ t, exec (.recordWriteDone k 0) s = .next t ∧
      t.reg (R.FCQ_FR_WTOTAL k) = s.reg (R.FCQ_FR_WTOTAL k) + BitVec.ofNat 64 bs.length ∧
      t.queues = (s.setQueue k { s.queue k with writes := rs, wrote := (s.queue k).wrote + 1 }).queues ∧
      wroteAt s t (drainNi k) (s.frBase k + 0x1000 + (s.reg (R.FCQ_FR_WTOTAL k)).toNat % s.frArea k) bs ∧
      t = { s with regs := t.regs, queues := t.queues, mem := t.mem, hmem := t.hmem, noc := t.noc } ∧ regsBut s t [R.FCQ_FR_WTOTAL k]) ∧
  (∀ (k : Fin 64) (st : Half) (s : State), (s.queue k).writes = [] → exec (.recordWriteDone k st) s = .next s) ∧
  (∀ (k : Fin 64) (s : State), s.fld (F.FCQ_Q_CFG.CP k) ≠ 0 → s.tick.toNat % 2 ^ (s.fld (F.FCQ_Q_CFG.CP k) + 10) = 0 → (s.queue k).st ≠ .off →
    recordsGoOut s k 32 →
    ∃ t, exec (.countPeriod k) s = .next t ∧
      (t.queue k).writes = (s.queue k).writes ++ (s.queueSources k).map s.countRecord ∧ t = { s with queues := t.queues }) ∧
  (∀ (k : Fin 64) (t0 : Wide) (s : State), (s.queue k).leftAt = some t0 → (s.queue k).st = .run → t0.toNat + 8 ≤ s.tick.toNat →
    (∀ x ∈ s.queueSources k, (s.source x).saturated = false) →
    exec (.queueFlushBegin k) s = .next (s.setQueue k { s.queue k with st := .flush, leftAt := none, counted := false, ended := false })) ∧
  (∀ (k : Fin 64) (s : State), s.regsWf → (s.queue k).st = .flush → (s.queue k).ended = true → (s.queue k).writes = [] →
    (s.queue k).inFlight = [] → (s.queue k).rptr = (s.queue k).wptr → (s.bit (F.FCQ_Q_CFG.TAP_EN k) = true → (s.queue k).tptr = (s.queue k).wptr) →
    memCheck s (drainNi k) (s.frBase k) 64 true = 0 →
    ∃ t, exec (.flushDone k) s = .next t ∧ t.queues = (s.setQueue k { s.queue k with st := .ready }).queues ∧
      t.fld (F.FCQ_Q_STAT.SEEN k) = s.fld (F.FCQ_Q_STAT.SEEN k) ||| 2 ∧
      wroteAt s t (drainNi k) (s.frBase k) (s.frHeader k) ∧
      ((∀ l, (s.lane l).collect = false) → t.slv = s.slv) ∧
      t = { s with regs := t.regs, queues := t.queues, mem := t.mem, hmem := t.hmem, noc := t.noc, slv := t.slv } ∧ regsBut s t [R.FCQ_Q_STAT k]) ∧
  (∀ (k : Fin 64) (bs : List Byte) (s : State), s.regsWf → bs.length = 32 → s.bit (F.FCQ_Q_CFG.WRAP k) = true → 32 ≤ s.frArea k →
    s.totalAhead k % s.frArea k = s.frArea k - 16 → (∀ m < 4, s.bit (F.FCQ_FR_MARK.VALID k m) = false) →
    ((s.pushRecord k bs).queue k).writes = (s.queue k).writes ++ [s.padRecord ++ bs] ∧ (s.pushRecord k bs).free = s.free + 1 ∧
    (s.bit (F.FCQ_Q_CFG.MIRROR k) = false → (s.pushRecord k bs).streams = s.streams) ∧
    (s.bit (F.FCQ_Q_CFG.MIRROR k) = true → s.streamTakes (s.fld (F.FCQ_Q_CFG.MSQ k)) 12 = true →
      ((s.pushRecord k bs).stream (s.fld (F.FCQ_Q_CFG.MSQ k))).items = (s.stream (s.fld (F.FCQ_Q_CFG.MSQ k))).items ++
        packetItems (bytesToWords s.padRecord) ++ packetItems (bytesToWords bs))) ∧
  (∀ (k : Fin 64) (pad bs : List Byte) (rs : List (List Byte)) (s : State), s.regsWf → (s.queue k).writes = (pad ++ bs) :: rs →
    pad.length = 16 → bs.length = 32 → recordKind bs ≠ 4 → recordKind bs ≠ 5 → 32 ≤ s.frArea k →
    (s.reg (R.FCQ_FR_WTOTAL k)).toNat % s.frArea k = s.frArea k - 16 → (s.reg (R.FCQ_FR_WTOTAL k)).toNat + 48 < 2 ^ 64 →
    s.bit (F.FCQ_Q_CFG.WRAP k) = true → (∀ m < 4, s.bit (F.FCQ_FR_MARK.VALID k m) = false) →
    memCheck s (drainNi k) (s.frBase k + 0x1000) 32 true = 0 → dpaRange (s.frBase k + 0x1000) 32 ≠ some .hostMem →
    ∃ t, exec (.recordWriteDone k 0) s = .next t ∧
      t.reg (R.FCQ_FR_WTOTAL k) = s.reg (R.FCQ_FR_WTOTAL k) + 48 ∧ (t.queue k).writes = rs ∧ (t.queue k).wrote = (s.queue k).wrote + 2 ∧
      t.mem = ((s.unitWrite (drainNi k) (s.frBase k + 0x1000 + (s.frArea k - 16)) pad).unitWrite (drainNi k) (s.frBase k + 0x1000) bs).mem ∧
      t = { s with regs := t.regs, queues := t.queues, mem := t.mem, hmem := t.hmem, noc := t.noc } ∧ regsBut s t [R.FCQ_FR_WTOTAL k])

/-- The settings and commands of a capture queue: taken in the states that R275 and R304 allow and refused in the others; a fault of its pointers
puts it into RESET and its end brings it back (R274, R289, R292, R295, R296, R303).
It also rests on choices of the model: log entries 45, 46. -/
def Obligations.CaptureQueueControl : Prop :=
  (∀ (req : Requester) (k : Fin 64) (v : Wide) (s : State), s.regsWf → (s.queue k).st = .ready →
    ∃ t, exec (.fcqConfigWrite req (.frBase k) v) s = .next t ∧ t.fld (F.FCQ_FR_BASE.ADDR k) = v.toNat / 4096 ∧ onlyRegs s t [R.FCQ_FR_BASE k]) ∧
  (∀ (req : Requester) (k : Fin 64) (v : Wide) (s : State), s.regsWf → (s.queue k).st = .ready → v.getLsbD 31 = false →
    ∃ t, exec (.fcqConfigWrite req (.qCfg k) v) s = .next t ∧ t.bit (F.FCQ_Q_CFG.EN k) = false ∧
      t.queues = (s.setQueue k { s.queue k with st := .off }).queues ∧ t = { s with regs := t.regs, queues := t.queues } ∧
      regsBut s t [R.FCQ_Q_CFG k]) ∧
  (∀ (req : Requester) (reg : FcqReg) (v : Wide) (s : State), ((s.queue (s.fcqTarget reg).2).st = .run ∨ (s.queue (s.fcqTarget reg).2).st = .flush) →
    ∃ t, exec (.fcqConfigWrite req reg v) s = .next t ∧ logs s t C.STATE_REFUSED (srcRequester req) (s.fcqTarget reg).1 ∧ onlyRegsLog s t []) ∧
  (∀ (req : Requester) (k : Fin 64) (s : State), s.regsWf → s.allows req .fcq = true → ((s.queue k).st = .run ∨ (s.queue k).st = .ready) →
    recordsGoOut s k 32 →
    ∃ t, exec (.ckpt req k) s = .next t ∧ t.fld (F.FCQ_Q_CMDSTAT.STATUS k) = 0 ∧
      (t.queue k).writes = (s.queue k).writes ++ (s.queueSources k).map s.countRecord ∧
      t = { s with regs := t.regs, queues := t.queues } ∧ regsBut s t [R.FCQ_Q_CMDSTAT k]) ∧
  (∀ (req : Requester) (k : Fin 64) (s : State), s.regsWf → s.allows req .fcq = true → (s.queue k).st = .ready →
    ∃ t, exec (.qReset req k) s = .next t ∧ t.fld (F.FCQ_Q_CMDSTAT.STATUS k) = 0 ∧ (t.queue k).st = .reset ∧ (t.queue k).back = .ready ∧
      (t.queue k).pkts = [] ∧ t.err = s.err ∧ t = { s with regs := t.regs, queues := t.queues, sources := t.sources }) ∧
  (∀ (req : Requester) (k : Fin 64) (s : State), s.regsWf → s.allows req .fcq = true → s.bit (F.FCQ_Q_CFG.TAP_EN k) = true →
    ∃ t, exec (.qDrop req k) s = .next t ∧ t.fld (F.FCQ_Q_CMDSTAT.STATUS k) = 0 ∧ (t.queue k).tptr = (s.queue k).tapDrop.tptr ∧
      (∀ (b a : List RingPkt) (p : RingPkt), (s.queue k).pkts = b ++ p :: a → (∀ r ∈ b, r.start + r.pkt.items ≤ p.start) → p.start < (s.queue k).tptr →
        (s.queue k).tptr < p.start + p.pkt.items → (t.queue k).tptr = p.start + p.pkt.items) ∧
      t = { s with regs := t.regs, sources := t.sources, queues := t.queues } ∧ regsBut s t [R.FCQ_Q_CMDSTAT k]) ∧
  (∀ (req : Requester) (k : Fin 64) (m : Fin 4) (s : State), s.regsWf → s.allows req .fcq = true →
    (((s.queue k).st = .run ∨ (s.queue k).st = .ready) →
      ∃ t, exec (.markSet req k m) s = .next t ∧ t.fld (F.FCQ_Q_CMDSTAT.STATUS k) = 0 ∧ t.bit (F.FCQ_FR_MARK.VALID k m) = true ∧
        t.fld (F.FCQ_FR_MARK.POS k m) = (s.reg (R.FCQ_FR_WTOTAL k)).toNat % 2 ^ (F.FCQ_FR_MARK.POS k m).w ∧
        onlyRegs s t [R.FCQ_Q_CMDSTAT k, R.FCQ_FR_MARK k m]) ∧
    (∃ t, exec (.markClr req k m) s = .next t ∧ t.fld (F.FCQ_Q_CMDSTAT.STATUS k) = 0 ∧ t.bit (F.FCQ_FR_MARK.VALID k m) = false ∧
      t.fld (F.FCQ_FR_MARK.POS k m) = s.fld (F.FCQ_FR_MARK.POS k m) ∧ onlyRegs s t [R.FCQ_Q_CMDSTAT k, R.FCQ_FR_MARK k m])) ∧
  (∀ (req : Requester) (k : Fin 64) (s : State), s.regsWf → (s.allows req .fcq = false ∨ (s.queue k).st = .flush) →
    ∃ t, exec (.ckpt req k) s = .next t ∧ t.fld (F.FCQ_Q_CMDSTAT.STATUS k) = C.STATE_REFUSED ∧
      logs s t C.STATE_REFUSED (srcRequester req) (R.FCQ_Q_CMD k + 2 ^ 32) ∧ onlyRegsLog s t [R.FCQ_Q_CMDSTAT k]) ∧
  (∀ (k : Fin 64) (c1 c2 : Word) (s : State), s.regsWf → c1 ≠ c2 → (s.queue k).st = .run →
    ∃ t, exec (.fcqPtrMismatch (.capture k) .wptr c1 c2) s = .next t ∧ (t.queue k).st = .reset ∧ (t.queue k).back = .run ∧ (t.queue k).pkts = [] ∧
      (t.queue k).wptr = c1.toNat ∧ (t.queue k).rptr = c1.toNat ∧ (t.queue k).tptr = c1.toNat ∧ (t.queue k).discarded = s.itemsHeld k ∧
      (∀ x ∈ s.queueSources k, (t.source x).cr = 0) ∧ logs s t C.FCQ_PTR_MISMATCH (srcQueue k) (c1.toNat * 2 ^ 32 + c2.toNat) ∧
      t = { s with regs := t.regs, err := t.err, queues := t.queues, sources := t.sources }) ∧
  (∀ (k : Fin 64) (s : State), (s.queue k).st = .reset → (s.queue k).back = .run →
    ∃ t, exec (.queueResetDone (.capture k)) s = .next t ∧ (t.queue k).st = .run ∧
      (t.queue k).pkts = (s.queue k).pkts ++ [⟨(s.queue k).wptr, .reset (s.queue k).resetAt (s.queue k).discarded (s.queueSite k)⟩] ∧
      (t.queue k).wptr = (s.queue k).wptr + 4) ∧
  (∀ (q : QueueId) (ptr : PtrId) (c : Word) (s : State), exec (.fcqPtrMismatch q ptr c c) s = .next s)

/-- The stream queues: a packet enters when all of it fits, a read takes one item with its marks, DROP takes the rest of a packet, RESET empties,
and the watermarks are checked (R257, R280, R281, R296 to R300).
It also rests on choices of the model: log entries 46, 127. -/
def Obligations.StreamQueues : Prop :=
  (∀ (j : Fin 8) (ws : List Word) (s : State), s.regsWf → wfItems ws = true → s.bit (F.FCQ_SQ_CFG.EN j) = true → (s.stream j).reset = false →
    (s.stream j).items.length + ws.length ≤ 4096 → (s.stream j).filling = 0 → (s.stream j).dropping = false →
    ∃ t, exec (.streamPacketWrite j ⟨ws, true⟩) s = .next t ∧ (t.stream j).items = (s.stream j).items ++ packetItems ws ∧
      (t.stream j).wptr = ((s.stream j).wptr + ws.length) % 2 ^ 32 ∧
      (s.fld (F.FCQ_SQ_WM.HI j) ≤ (s.stream j).items.length + ws.length → s.fld (F.FCQ_SQ_WM.LO j) < (s.stream j).items.length + ws.length →
        (t.stream j).high = true) ∧
      t = { s with regs := t.regs, streams := t.streams } ∧ regsBut s t [R.FCQ_SQ_STAT j, R.FCQ_SQ_XCNT j]) ∧
  (∀ (j : Fin 8) (ws : List Word) (last : Bool) (s : State), wfItems ws = true → s.streamRoom j ws.length = true →
    (s.stream j).filling + ws.length ≤ 1024 →
    ((s.stream j).dropping = false →
      ∃ t, exec (.streamPacketWrite j ⟨ws, last⟩) s = .next t ∧ (t.stream j).filling = (if last then 0 else (s.stream j).filling + ws.length) ∧
        (t.stream j).items = (s.stream j).items ++ partItems ((s.stream j).filling == 0) last ws ∧ t = { s with regs := t.regs, streams := t.streams }) ∧
    ((s.stream j).dropping = true →
      ∃ t, exec (.streamPacketWrite j ⟨ws, last⟩) s = .next t ∧ (t.stream j).dropping = !last ∧ (t.stream j).items = (s.stream j).items ∧
        t = { s with streams := t.streams })) ∧
  (∀ (j : Fin 8) (ws : List Word) (last : Bool) (s : State), wfItems ws = true →
    (s.bit (F.FCQ_SQ_CFG.EN j) = false ∨ (s.stream j).reset = true ∨ 4096 < (s.stream j).items.length + ws.length) →
    exec (.streamPacketWrite j ⟨ws, last⟩) s = .next s) ∧
  (∀ (req : Requester) (j : Fin 8) (i : StreamItem) (is : List StreamItem) (s : State),
    s.bit (F.FCQ_SQ_CFG.CONSUMER j) = false → s.streamReadable j = true → (s.stream j).items = i :: is →
    ((s.stream j).high = true → s.fld (F.FCQ_SQ_WM.LO j) < is.length) → ((s.stream j).high = false → is.length < s.fld (F.FCQ_SQ_WM.HI j)) →
    ∃ t, exec (.sqPop req j) s = .next t ∧ t.rdata = BitVec.ofNat 64 (i.data.toNat + 2 ^ 32 + b2n i.sop * 2 ^ 33 + b2n i.eop * 2 ^ 34) ∧
      t.streams = (s.setStream j { (s.stream j).rAdvance 1 with items := is, readIn := if i.eop then 0 else (s.stream j).readIn + 1 }).streams ∧
      t.latch = mset (fun _ => none) (R.FCQ_SQ_POP j) (some (BitVec.ofNat 32 (1 + b2n i.sop * 2 + b2n i.eop * 4))) s.latch ∧
      t = { s with streams := t.streams, rdata := t.rdata, latch := t.latch }) ∧
  (∀ (req : Requester) (j : Fin 8) (s : State),
    (s.streamReadable j = false ∨ s.bit (F.FCQ_SQ_CFG.CONSUMER j) = true) →
    ∃ t, exec (.sqPop req j) s = .next t ∧ 
      t = { s with rdata := 0, latch := mset (fun _ => none) (R.FCQ_SQ_POP j) (some 0) s.latch }) ∧
  (∀ (req : Requester) (j : Fin 8) (s : State), s.allows req .fcq = true → s.bit (F.FCQ_SQ_CFG.EN j) = true → (s.stream j).reset = false →
    (s.stream j).readIn ≠ 0 →
    ((s.stream j).high = true → s.fld (F.FCQ_SQ_WM.LO j) < (afterPacket (s.stream j).items).length) →
    ((s.stream j).high = false → (afterPacket (s.stream j).items).length < s.fld (F.FCQ_SQ_WM.HI j)) →
    ∃ t, exec (.sqDrop req j) s = .next t ∧ (∀ b a e, (s.stream j).items = b ++ e :: a → e.eop = true → (∀ i ∈ b, i.eop = false) →
        t.streams = (s.setStream j { (s.stream j).rAdvance (b.length + 1) with items := a, readIn := 0 }).streams) ∧
      ((∀ i ∈ (s.stream j).items, i.eop = false) → (t.stream j).items = [] ∧ (t.stream j).dropping = true) ∧
      t = { s with streams := t.streams }) ∧
  (∀ (req : Requester) (j : Fin 8) (s : State), s.regsWf → s.allows req .fcq = true → s.bit (F.FCQ_SQ_CFG.EN j) = true →
    (s.stream j).reset = false → (∀ l < 16, ∀ v, (s.lane l).waiting = some v → v.queue ≠ j) →
    ∃ t, exec (.sqReset req j) s = .next t ∧ (t.stream j).reset = true ∧ (t.stream j).items = [] ∧ (t.stream j).rptr = (s.stream j).wptr ∧
      t = { s with regs := t.regs, streams := t.streams } ∧ regsBut s t [R.FCQ_SQ_STAT j, R.FCQ_SQ_XCNT j]) ∧
  (∀ (req : Requester) (j : Fin 8) (s : State), s.allows req .fcq = false →
    ∃ t, exec (.sqReset req j) s = .next t ∧ exec (.sqDrop req j) s = .next { t with err := s.err.enter (reportOf s C.STATE_REFUSED
        (srcRequester req) (R.FCQ_SQ_CMD j + 2 ^ 32)) } ∧
      logs s t C.STATE_REFUSED (srcRequester req) (R.FCQ_SQ_CMD j + 2 * 2 ^ 32) ∧ onlyRegsLog s t []) ∧
  (∀ (j : Fin 8) (s : State), exec (.queueResetDone (.stream j)) s = .next (s.setStream j { s.stream j with reset := false })) ∧
  (∀ (j : Fin 8) (ptr : PtrId) (c1 c2 : Word) (s : State), s.regsWf → c1 ≠ c2 → ptr ≠ .tptr → s.bit (F.FCQ_SQ_CFG.EN j) = true →
    (s.stream j).reset = false →
    ∃ t, exec (.fcqPtrMismatch (.stream j) ptr c1 c2) s = .next t ∧ (t.stream j).reset = true ∧ (t.stream j).items = []) ∧
  (∀ (req : Requester) (j : Fin 8) (v : Word) (s : State), s.regsWf →
    (v.toNat % 2 ^ 13 < v.toNat / 2 ^ 16 % 2 ^ 13 → v.toNat / 2 ^ 16 % 2 ^ 13 ≤ 4096 →
      ∃ t, exec (.sqWmWrite req j v) s = .next t ∧ t.fld (F.FCQ_SQ_WM.HI j) = v.toNat / 2 ^ 16 % 2 ^ 13 ∧
        t.fld (F.FCQ_SQ_WM.LO j) = v.toNat % 2 ^ 13 ∧ ((s.stream j).items ≠ [] → (t.stream j).items = (s.stream j).items) ∧
        t = { s with regs := t.regs, streams := t.streams } ∧ regsBut s t [R.FCQ_SQ_WM j, R.FCQ_SQ_STAT j, R.FCQ_SQ_XCNT j]) ∧
    (v.toNat / 2 ^ 16 % 2 ^ 13 ≤ v.toNat % 2 ^ 13 →
      ∃ t, exec (.sqWmWrite req j v) s = .next t ∧ logs s t C.STATE_REFUSED (srcRequester req) (R.FCQ_SQ_WM j) ∧ onlyRegsLog s t []))

namespace Sys2Proof.Claims

/-- The engine takes a command: it is on, no other command is in progress, and the device state lets it (R328, R331). -/
abbrev slvTakes (s : State) : Prop :=
  s.bit F.SLV_CMD_STAT.BUSY = false ∧ accepted .slv s.glbState = true ∧ s.bit F.SLV_CTRL.EN = true

/-- The command is in progress in `t` and will end with the outcome `o`. -/
def slvBusy (t : State) (o : SlvOutcome) : Prop := t.bit F.SLV_CMD_STAT.BUSY = true ∧ t.slv.cmd = some o

/-- The regions whose numbers are listed are the only ones that `t` may have changed. -/
def onlyRgns (s t : State) (gs : List Nat) : Prop := ∀ g, g ∉ gs → t.srgn g = s.srgn g

end Sys2Proof.Claims

/-- The commands of the repair engine on its lanes and regions: what each does when it is taken, and that it is refused while another is in
progress; the outcome is written when the command completes (R328 to R333, R344).
It also rests on choices of the model: log entries 47, 48, 49. -/
def Obligations.SolverCommands : Prop :=
  (∀ (req : Requester) (l : Fin 16) (s : State), s.regsWf → slvTakes s → (s.lane l).map.isSome = true → (s.lane l).collect = false →
    ∃ t, exec (.laneReset req l) s = .next t ∧ slvBusy t ⟨0, 0, none⟩ ∧ t.reg (R.SLV_LANE_MAP l) = 0 ∧
      t.slv = { (s.setLane l { s.lane l with map := none, taps := [] }).slv with cmd := t.slv.cmd } ∧ t = { s with regs := t.regs, slv := t.slv } ∧
      regsBut s t [R.SLV_LANE_MAP l, R.SLV_CMD_STAT]) ∧
  (∀ (req : Requester) (l : Fin 16) (m : LaneMap) (s : State), s.regsWf → slvTakes s → (s.lane l).collect = false →
    memCheck s (solverNi l) (s.reg R.SLV_CMD_ARG).toNat 2368 false = 0 → (s.reg R.SLV_CMD_ARG).toNat % 64 = 0 →
    parseMap (s.dpaBytes (s.reg R.SLV_CMD_ARG).toNat 2368) = some m →
    ∃ t, exec (.laneMap req l 0) s = .next t ∧ slvBusy t ⟨0, 0, none⟩ ∧ t.lane l = { s.lane l with map := some m, taps := [] } ∧
      t.reg (R.SLV_LANE_MAP l) = s.reg R.SLV_CMD_ARG ∧ t.reg (R.SLV_LANE_APPLIED l) = 0 ∧ t.reg (R.SLV_LANE_DROP_MAP l) = 0 ∧
      t = { s with regs := t.regs, slv := t.slv, free := t.free, noc := hostNoc s t }) ∧
  (∀ (req : Requester) (g cnt : Fin 4096) (s : State), s.regsWf → slvTakes s →
    (∀ r ∈ regionRange g cnt, (s.srgn r).st = .free ∧ (s.readDesc r 0).1 = 0) →
    ∃ t, exec (.slvOpen req g cnt 0) s = .next t ∧ slvBusy t ⟨0, (regionRange g cnt).length, none⟩ ∧
      (∀ r ∈ regionRange g cnt, t.srgn r = { SlvRgn.reset with st := .opened, desc := (s.readDesc r 0).2 }) ∧ onlyRgns s t (regionRange g cnt) ∧
      t = { s with regs := t.regs, slv := t.slv, free := t.free, noc := hostNoc s t } ∧ regsBut s t [R.SLV_CMD_STAT]) ∧
  (∀ (req : Requester) (g cnt : Fin 4096) (s : State), s.regsWf → slvTakes s → (∃ r ∈ regionRange g cnt, (s.srgn r).st = .opened) →
    ∃ t, exec (.slvClose req g cnt) s = .next t ∧
      slvBusy t ⟨0, ((regionRange g cnt).filter (fun r => (s.srgn r).st == .opened)).length, none⟩ ∧
      (∀ r ∈ regionRange g cnt, (s.srgn r).st = .opened →
        t.srgn r = { s.srgn r with st := if (s.srgn r).desc.auto then .queued else .closed }) ∧
      onlyRgns s t ((regionRange g cnt).filter (fun r => (s.srgn r).st == .opened)) ∧ t = { s with regs := t.regs, slv := t.slv } ∧
      regsBut s t [R.SLV_CMD_STAT]) ∧
  (∀ (req : Requester) (g cnt : Fin 4096) (s : State), s.regsWf → slvTakes s → (∃ r ∈ regionRange g cnt, (s.srgn r).st = .closed) →
    ∃ t, exec (.slvSolve req g cnt) s = .next t ∧
      slvBusy t ⟨0, ((regionRange g cnt).filter (fun r => (s.srgn r).st == .closed)).length, none⟩ ∧
      (∀ r ∈ regionRange g cnt, (s.srgn r).st = .closed → t.srgn r = { s.srgn r with st := .queued }) ∧
      (∀ l, (t.lane l).queue =
        (s.lane l).queue ++ (regionRange g cnt).filter (fun r => (s.srgn r).st == .closed && (s.srgn r).desc.lane == l)) ∧
      onlyRgns s t ((regionRange g cnt).filter (fun r => (s.srgn r).st == .closed)) ∧ t = { s with regs := t.regs, slv := t.slv } ∧
      regsBut s t [R.SLV_CMD_STAT]) ∧
  (∀ (req : Requester) (g cnt : Fin 4096) (s : State), s.regsWf → slvTakes s → (∀ r ∈ regionRange g cnt, (s.srgn r).st = .free) →
    ∃ t, exec (.slvSolve req g cnt) s = .next t ∧ slvBusy t ⟨C.STATE_REFUSED, 0, none⟩ ∧
      logs s t C.STATE_REFUSED (srcRequester req) (R.SLV_CMD + 5 * 2 ^ 32) ∧ t = { s with regs := t.regs, err := t.err, slv := t.slv } ∧
      t.slv.rgns = s.slv.rgns ∧ regsBut s t [R.SLV_CMD_STAT]) ∧
  (∀ (req : Requester) (g cnt : Fin 4096) (s : State), s.regsWf → slvTakes s →
    (∃ r ∈ regionRange g cnt, (s.srgn r).st = .queued ∨ (s.srgn r).st = .solving ∨ (s.srgn r).st = .replay) →
    ∃ t, exec (.slvAbort req g cnt) s = .next t ∧
      (∀ r ∈ regionRange g cnt, ((s.srgn r).st = .queued ∨ (s.srgn r).st = .solving ∨ (s.srgn r).st = .replay) →
        t.srgn r = { s.srgn r with st := if (s.srgn r).cls = 0 then .closed else .solved, resolve := false, replayed := false }) ∧
      t = { s with regs := t.regs, slv := t.slv } ∧ regsBut s t [R.SLV_CMD_STAT]) ∧
  (∀ (req : Requester) (g cnt : Fin 4096) (s : State), s.regsWf → slvTakes s → mwf (fun _ => SlvRgn.reset) s.slv.rgns = true →
    (∃ r ∈ regionRange g cnt, (s.srgn r).st = .opened ∨ (s.srgn r).st = .closed ∨ (s.srgn r).st = .solved) →
    ∃ t, exec (.slvRelease req g cnt) s = .next t ∧
      (∀ r ∈ regionRange g cnt, ((s.srgn r).st = .opened ∨ (s.srgn r).st = .closed ∨ (s.srgn r).st = .solved) →
        (t.srgn r).st = .free ∧ (t.srgn r).units = 0 ∧ (t.srgn r).kept = false) ∧ t = { s with regs := t.regs, slv := t.slv } ∧
      regsBut s t [R.SLV_CMD_STAT]) ∧
  (∀ (req : Requester) (g : Fin 4096) (s : State), s.regsWf → slvTakes s → (s.srgn g).st = .solved → (s.readDesc g 0).1 = 0 →
    (s.readDesc g 0).2.lane = (s.srgn g).desc.lane → (s.reg R.SLV_CMD_ARG).getLsbD 0 = false →
    ((s.srgn g).storeFits (s.readDesc g 0).2 = true →
      ∃ t, exec (.slvResolve req g 0 0) s = .next t ∧ slvBusy t ⟨0, 1, none⟩ ∧
        t.srgn g = { s.srgn g with st := .queued, desc := (s.readDesc g 0).2, resolve := true, replayed := false } ∧
        (t.lane (s.srgn g).desc.lane).queue = (s.lane (s.srgn g).desc.lane).queue ++ [g.val] ∧
        t = { s with regs := t.regs, slv := t.slv, free := t.free, noc := hostNoc s t } ∧ regsBut s t [R.SLV_CMD_STAT]) ∧
    ((s.srgn g).storeFits (s.readDesc g 0).2 = false →
      ∃ t, exec (.slvResolve req g 0 0) s = .next t ∧ slvBusy t ⟨C.SLV_STORE_STALE, 0, none⟩ ∧
        logs s t C.SLV_STORE_STALE (srcSolver (s.srgn g).desc.lane g) 0 ∧ t.slv.rgns = s.slv.rgns ∧
        t = { s with regs := t.regs, err := t.err, slv := t.slv, free := t.free, noc := hostNoc s t } ∧ regsBut s t [R.SLV_CMD_STAT])) ∧
  (∀ (req : Requester) (g cnt : Fin 4096) (st : Half) (s : State), s.bit F.SLV_CMD_STAT.BUSY = true →
    ∃ t, exec (.slvOpen req g cnt st) s = .next t ∧ logs s t C.STATE_REFUSED (srcRequester req) (R.SLV_CMD + 3 * 2 ^ 32) ∧ onlyRegsLog s t []) ∧
  (∀ (o : SlvOutcome) (s : State), s.regsWf → s.slv.cmd = some o →
    ∃ t, exec .slvCmdComplete s = .next t ∧ t.bit F.SLV_CMD_STAT.BUSY = false ∧ t.slv.cmd = none ∧
      t.fld F.SLV_CMD_STAT.STATUS = o.status % 2 ^ F.SLV_CMD_STAT.STATUS.w ∧ t.fld F.SLV_CMD_STAT.ACTED = o.acted % 2 ^ F.SLV_CMD_STAT.ACTED.w ∧
      (∀ g, o.detail = some g → t.fld F.SLV_CMD_DETAIL.REGION = g % 2 ^ F.SLV_CMD_DETAIL.REGION.w) ∧
      t = { s with regs := t.regs, slv := { s.slv with cmd := none } } ∧ regsBut s t [R.SLV_CMD_STAT, R.SLV_CMD_DETAIL])

/-- A lane takes its oldest queued region; the end of a solve makes it SOLVED with its class and writes its record; a waiting result enters the
stream queue or is dropped; a replay ends; the engine's settings (R333 to R343, R345, R348, R349).
It also rests on choices of the model: log entries 49, 50, 51. -/
def Obligations.SolverRuns : Prop :=
  (∀ (l : Fin 16) (g : Nat) (gs : List Nat) (s : State), (s.lane l).solving = none → (s.lane l).queue = g :: gs →
    ∃ t, exec (.solveBegin l) s = .next t ∧ t.lane l = { s.lane l with queue := gs, solving := some (g, s.tick) } ∧
      t.srgn g = { s.srgn g with st := .solving } ∧ t = { s with slv := t.slv } ∧ onlyRgns s t [g]) ∧
  (∀ (l : Fin 16) (g : Nat) (start : Wide) (s : State), s.regsWf → (s.lane l).solving = some (g, start) → (s.lane l).waiting = none →
    (s.srgn g).desc.resultAddr ≠ 0 → s.bit F.SLV_CFG.RSQ_EN = false → s.bit F.HIF_EVQ_CTRL.EN = false →
    (∀ a, a = solveRegion (s.srgn g).desc (s.srgn g).cells (s.srgn g).mustRows (s.srgn g).mustCols (s.srgn g).early
        ((s.srgn g).inputLoss || (s.srgn g).storeLoss) →
      memCheck s (solverNi l) (s.srgn g).desc.resultAddr (s.slvRecord l g start a).length true = 0 →
      ∃ t, exec (.solveComplete l 0) s = .next t ∧ (t.srgn g).st = .solved ∧ (t.srgn g).cls = a.cls ∧ (t.srgn g).seq = ((s.srgn g).seq + 1) % 256 ∧
        t.slv.lanes = (s.setLane l { s.lane l with solving := none, waiting := none }).slv.lanes ∧
        wroteAt s t (solverNi l) (s.srgn g).desc.resultAddr (s.slvRecord l g start a) ∧ t.regs = s.regs ∧ onlyRgns s t [g])) ∧
  (∀ (l : Fin 16) (v : SlvResult) (s : State), s.regsWf → (s.lane l).waiting = some v → v.queue < 8 → s.bit (F.FCQ_SQ_CFG.EN v.queue) = true →
    (s.stream v.queue).reset = false → s.bit F.HIF_EVQ_CTRL.EN = false →
    (v.bytes ≠ [] → v.bytes.length % 4 = 0 → (s.stream v.queue).items.length + v.bytes.length / 4 ≤ 4096 → (s.stream v.queue).filling = 0 →
      ∃ t, exec (.resultEnqueue l) s = .next t ∧ (t.srgn v.region).st = .solved ∧
        (t.stream v.queue).items = (s.stream v.queue).items ++ packetItems (bytesToWords v.bytes) ∧ onlyRgns s t [v.region]) ∧
    (4096 < (s.stream v.queue).items.length + v.bytes.length / 4 → exec (.resultEnqueue l) s = .next s) ∧
    ((s.stream v.queue).filling ≠ 0 → exec (.resultEnqueue l) s = .next s)) ∧
  (∀ (l : Fin 16) (v : SlvResult) (s : State), s.regsWf → (s.lane l).waiting = some v → v.queue < 8 → s.bit (F.FCQ_SQ_CFG.EN v.queue) = false →
    s.bit F.HIF_EVQ_CTRL.EN = false →
    ∃ t, exec (.resultEnqueue l) s = .next t ∧ (t.srgn v.region).st = .solved ∧ t.streams = s.streams ∧
      logs s t C.SLV_RESULT_ERR (srcSolver l v.region) C.STATE_REFUSED ∧
      t.fld (F.FCQ_SQ_DROP.COUNT v.queue) = min (s.fld (F.FCQ_SQ_DROP.COUNT v.queue) + 1) (2 ^ (F.FCQ_SQ_DROP.COUNT v.queue).w - 1)) ∧
  (∀ (l : Fin 16) (r : SlvReplay) (rs : List SlvReplay) (s : State), (s.lane l).replays = r :: rs → s.replayStatus l 0 r.srcs = 0 → r.lost = false →
    (∀ q ∈ r.srcs, s.bit (F.FCQ_FR_MARK.VALID q.tap.queue r.mark) = true) →
    ∃ t, exec (.replayComplete l 0) s = .next t ∧ (t.srgn r.region).st = .queued ∧ r.region ∈ (t.lane (t.srgn r.region).desc.lane).queue ∧
      t.slv.lanes = ((s.setLane l { s.lane l with replays := rs }).queueRgn r.region).slv.lanes ∧ t.mem = s.mem) ∧
  (∀ (l : Fin 16) (st : Half) (r : SlvReplay) (rs : List SlvReplay) (s : State), (s.lane l).replays = r :: rs →
    s.replayStatus l st.toNat r.srcs ≠ 0 → st.toNat ≠ C.MEM_UE →
    ∃ t, exec (.replayComplete l st) s = .next t ∧ (t.srgn r.region).st = .solved ∧ (t.srgn r.region).kept = false ∧ t.slv.lanes = (s.setLane l { s.lane l with replays := rs }).slv.lanes ∧
      logs s t C.SLV_REPLAY_ERR (srcSolver l r.region) (s.replayStatus l st.toNat r.srcs) ∧ onlyRgns s t [r.region]) ∧
  (∀ (l : Fin 16) (r : SlvReplay) (rs : List SlvReplay) (s : State), (s.lane l).replays = r :: rs → s.replayStatus l 0 r.srcs = 0 →
    (r.lost = true ∨ ∃ q ∈ r.srcs, s.bit (F.FCQ_FR_MARK.VALID q.tap.queue r.mark) = false) →
    ∃ t, exec (.replayComplete l 0) s = .next t ∧ (t.srgn r.region).st = .solved ∧ (t.srgn r.region).kept = false ∧ t.slv.lanes = (s.setLane l { s.lane l with replays := rs }).slv.lanes ∧
      t = { s with slv := t.slv, noc := hostNoc s t } ∧ onlyRgns s t [r.region]) ∧
  (∀ (req : Requester) (s : State), s.regsWf →
    (∃ t, exec (.slvCtrlWrite req true) s = .next t ∧ t.bit F.SLV_CTRL.EN = true ∧ onlyRegs s t [R.SLV_CTRL]) ∧
    ((∀ e ∈ s.slv.lanes, e.2.map = none) → (∀ e ∈ s.slv.rgns, e.2.st = .free) →
      ∃ t, exec (.slvCtrlWrite req false) s = .next t ∧ t.bit F.SLV_CTRL.EN = false ∧ onlyRegs s t [R.SLV_CTRL]) ∧
    ((∃ e ∈ s.slv.lanes, e.2.map.isSome = true) →
      ∃ t, exec (.slvCtrlWrite req false) s = .next t ∧ logs s t C.STATE_REFUSED (srcRequester req) R.SLV_CTRL ∧ onlyRegsLog s t [])) ∧
  (∀ (req : Requester) (l : Fin 16) (v : Word) (s : State), s.regsWf →
    ((s.lane l).collect = false → ∃ t, exec (.slvLaneCfgWrite req l v) s = .next t ∧
      t.fld (F.SLV_LANE_CFG.MARK_NUM l) = getBits (v.setWidth 64) (F.SLV_LANE_CFG.MARK_NUM l).lo (F.SLV_LANE_CFG.MARK_NUM l).w ∧
      onlyRegs s t [R.SLV_LANE_CFG l]) ∧
    ((s.lane l).collect = true →
      ∃ t, exec (.slvLaneCfgWrite req l v) s = .next t ∧ logs s t C.STATE_REFUSED (srcRequester req) (R.SLV_LANE_CFG l) ∧ onlyRegsLog s t []))

/-- A lane's collector maps each fail bit of the packet at a tap to a cell of an open region and stores it, or counts it as dropped; a marker sets
INPUT_LOSS; a unit lost to an error sets STORE_LOSS (R316 to R318, R322).
It also rests on choices of the model: log entry 47. -/
def Obligations.CollectorMapsFails : Prop :=
  (∀ (l : Fin 16) (k : Fin 64) (tick : Wide) (src : Nat) (j : Fin 16) (f : Byte) (site ctx : Nat) (e : TapEntry) (m : LaneMap) (p : MapPin)
    (g : MapSeg) (s : State),
    s.regsWf → s.tapPacket l k = some (.fail tick (1 <<< j.val) 0 src f site ctx, e, m) → f.getLsbD 0 = true → f.getLsbD 1 = false →
    f.getLsbD 2 = false → f.getLsbD 4 = false → m.pin src 0 = some p → e.t0 ≤ tick.toNat → m.seg ((tick.toNat - e.t0) / e.rep) = some g →
    ∀ i row col rg, i = (tick.toNat - e.t0) / e.rep - g.fStart → row = (g.row0 + i / g.fpr * g.rstep) % 65536 →
      col = (g.col0 + i % g.fpr * g.cstep + p.colOfs + j.val * p.uiCstep) % 16384 → rg = g.rgnBase + p.rgnOfs →
      (rg ≤ 4095 → (s.srgn rg).st = .opened → (s.srgn rg).desc.lane = l.val → row ≤ (s.srgn rg).desc.rowsM1 → col ≤ (s.srgn rg).desc.colsM1 →
        ∃ t, exec (.collectPacket l k) s = .next t ∧ (t.srgn rg).failBits = min ((s.srgn rg).failBits + 1) 0xFFFFFFFF ∧
          t.fld (F.SLV_LANE_APPLIED.BITS l) = min (s.fld (F.SLV_LANE_APPLIED.BITS l) + 1) (2 ^ (F.SLV_LANE_APPLIED.BITS l).w - 1) ∧
          ((s.srgn rg).early = false → (s.srgn rg).mustRows = [] → (s.srgn rg).mustCols = [] → (s.srgn rg).spilled = false →
            (s.srgn rg).desc.nbAvail ≠ 0 → mwf (fun _ => SlvRgn.reset) s.slv.rgns = true → s.storeUnits + 2 ≤ 1048576 →
            row / 2 ^ (s.srgn rg).desc.rgs * 65536 + col / 2 ^ (s.srgn rg).desc.cgs ∈ (t.srgn rg).cells)) ∧
      ((s.srgn rg).st ≠ .opened →
        ∃ t, exec (.collectPacket l k) s = .next t ∧ t.slv = s.slv ∧
          t.fld (F.SLV_LANE_DROP_RGN.COUNT l) = min (s.fld (F.SLV_LANE_DROP_RGN.COUNT l) + 1) (2 ^ (F.SLV_LANE_DROP_RGN.COUNT l).w - 1))) ∧
  (∀ (l : Fin 16) (k : Fin 64) (tick : Wide) (src : Nat) (w : Half) (f : Byte) (site ctx : Nat) (e : TapEntry) (m : LaneMap) (s : State), s.regsWf →
    s.tapPacket l k = some (.fail tick w 0 src f site ctx, e, m) → w ≠ 0 → f.getLsbD 0 = true → f.getLsbD 1 = false → f.getLsbD 2 = false →
    f.getLsbD 4 = false → m.pin src 0 = none →
    ∃ t, exec (.collectPacket l k) s = .next t ∧ t.slv = s.slv ∧
      t.fld (F.SLV_LANE_DROP_MAP.COUNT l) = min (s.fld (F.SLV_LANE_DROP_MAP.COUNT l) + popNat 16 w.toNat) (2 ^ (F.SLV_LANE_DROP_MAP.COUNT l).w - 1) ∧
      t = { s with regs := t.regs, queues := t.queues, sources := t.sources } ∧ regsBut s t [R.SLV_LANE_DROP_MAP l]) ∧
  (∀ (l : Fin 16) (k : Fin 64) (t1 t2 : Wide) (n src cause site ui : Nat) (e : TapEntry) (m : LaneMap) (s : State),
    s.tapPacket l k = some (.sat t1 n src cause site t2 ui, e, m) →
    ∃ t, exec (.collectMarker l k) s = .next t ∧
      (∀ g ∈ m.lossRegions e src t1.toNat t2.toNat, g ≤ 4095 → (s.srgn g).st = .opened → (s.srgn g).desc.lane = l.val →
        t.srgn g = { s.srgn g with inputLoss := true, lossLog := true }) ∧
      onlyRgns s t (m.lossRegions e src t1.toNat t2.toNat) ∧ t.regs = s.regs ∧ t.mem = s.mem) ∧
  (∀ (l : Fin 16) (k : Fin 64) (tk : Wide) (n site : Nat) (e : TapEntry) (m : LaneMap) (s : State),
    s.tapPacket l k = some (.reset tk n site, e, m) →
    ∃ t, exec (.collectMarker l k) s = .next t ∧ ∀ g, g ≤ 4095 → (s.srgn g).st = .opened → (s.srgn g).desc.lane = l.val →
      (t.srgn g).inputLoss = true) ∧
  (∀ (g : Fin 4096) (u : StoreUnit) (s : State), s.regsWf → (s.srgn g).spilled = false → (s.srgn g).holds u = true →
    ∃ t, exec (.slvStoreEcc g u) s = .next t ∧ t.srgn g = { (s.srgn g).discard u with storeLoss := true } ∧ (t.srgn g).holds u = false ∧
      t.bit F.SLV_STAT.ECC_SEEN = true ∧ logs s t C.SLV_STORE_ECC (srcSolver (s.srgn g).desc.lane g) 0 ∧
      t = { s with regs := t.regs, err := t.err, slv := t.slv } ∧ onlyRgns s t [g.val] ∧ regsBut s t [R.SLV_STAT])

/-- Attached memory: a byte written reads back, and no other byte of attached memory changes; the interleaving maps no two addresses to one byte
(R386, R387). -/
def Obligations.AttachedMemoryReadsBack : Prop :=
  ∀ (s : State) (a b : Nat) (v : Byte), a < 0x4000000000 → b < 0x4000000000 → mwf memDefault s.mem = true →
    (s.setDpaByte a v).dpaByte a = v ∧ (b ≠ a → (s.setDpaByte a v).dpaByte b = s.dpaByte b)

/-- The network: an NI takes a request when the address, its rights and a route allow it, and its packet carries the fields of R356; the mesh moves heads
until none can move and changes nothing but the network and the cascade's packets; a request that travels alone arrives; the memory controller serves the
request whose turn it is; the completion ends it; a parity error, a timeout, a dropped head and a NACK end or resend it (R355 to R359, R365 to R371,
R383, R384).
It also rests on choices of the model: log entries 28, 52, 55, 58, 131, 140. -/
def Obligations.NetworkCarriesRequests : Prop :=
  (∀ (ni : Fin 177) (tag : Byte) (w : Option (List Byte)) (a : BitVec 48) (n : Fin 257) (r : DpaRange) (x : Wide) (alt : Bool) (s : State),
    wfRequest w n = true → s.nocWaits ni tag.toNat a.toNat n = false → memCheck s ni a.toNat n w.isSome = 0 → dpaRange a.toNat n = some r →
    s.injectRoute ni (targetNi s a.toNat r) = some (x, alt) →
    exec (.nocRequest ni tag ⟨w, .none⟩ a n) s = .next ({ s with noc := { s.noc with reqs := s.noc.reqs ++ [{
      ni := ni, tag := tag.toNat, kind := if w.isSome then .wr else .rd, addr := a.toNat, len := n, dst := targetNi s a.toNat r, data := w.getD [],
      pkt := requestPacket ni (targetNi s a.toNat r) tag.toNat a.toNat n (baseUrgency ni) (if w.isSome then .wr else .rd) x alt, resent := false,
      arrUrg := 0, stamp := none, snooped := [], snoopOf := none, cascade := none, dead := false }] } } : State).settle) ∧
  (∀ (ni : Fin 177) (dst : Nat) (tag : Byte) (a : BitVec 48) (len u : Nat) (k : ReqKind) (x : Wide) (alt : Bool), 1 ≤ len → len ≤ 256 → u < 8 →
    let p := requestPacket ni dst tag.toNat a.toNat len u k x alt
    getBits p.header 0 39 = getBits x 0 39 ∧ getBits p.header 39 1 = (if alt then 1 else 0) ∧ getBits p.header 40 3 = u ∧ getBits p.header 43 1 = 0 ∧
      getBits p.header 44 4 = (match k with
        | .rd => 1
        | .wr => 2
        | .snpCln => 6
        | .snpInv => 7) ∧
      getBits p.header 48 8 = ni ∧ getBits p.header 56 8 = tag.toNat ∧ getBits p.word 0 48 = a.toNat ∧ getBits p.word 48 16 = len - 1) ∧
  (∀ (ni : Fin 177) (tag : Byte) (w : Option (List Byte)) (a : BitVec 48) (n : Fin 257) (f : LinkFault) (s : State), wfRequest w n = true →
    s.nocWaits ni tag.toNat a.toNat n = false → memCheck s ni a.toNat n w.isSome = C.NOC_ADDR_PROTECTED →
    ∃ t, exec (.nocRequest ni tag ⟨w, f⟩ a n) s = .next t ∧
      t.noc = (s.nocResult ni tag.toNat C.NOC_ADDR_PROTECTED []).noc ∧
      logs s t C.NOC_ADDR_PROTECTED (srcNi ni) (a.toNat + ni * 2 ^ 48) ∧
      t = { s with noc := t.noc, err := t.err }) ∧
  (∀ (ni : Fin 177) (tag : Byte) (w : Option (List Byte)) (a : BitVec 48) (n : Fin 257) (r : DpaRange) (f : LinkFault) (s : State), s.regsWf →
    wfRequest w n = true → s.nocWaits ni tag.toNat a.toNat n = false → memCheck s ni a.toNat n w.isSome = 0 → dpaRange a.toNat n = some r →
    routeValid (s.route ni (targetNi s a.toNat r) false) = false → routeValid (s.route ni (targetNi s a.toNat r) true) = false →
    ∃ t, exec (.nocRequest ni tag ⟨w, f⟩ a n) s = .next t ∧ t.noc = (s.nocResult ni tag.toNat C.ROUTE_UNAVAILABLE []).noc ∧
      t.bit F.NOC_STAT.UNAVAIL_SEEN = true ∧ logs s t C.ROUTE_UNAVAILABLE (srcNi ni) (reqDetail ni a.toNat) ∧
      t = { s with regs := t.regs, noc := t.noc, err := t.err } ∧ regsBut s t [R.NOC_STAT, R.NOC_ERR_CNT]) ∧
  (∀ s : State, s.settle = { s with noc := s.settle.noc, csc := s.settle.csc }) ∧
  (∀ (q : NocReq) (s : State), s.noc.reqs = [q] → q.unserved = true → q.stamp = none → q.pkt.poison = false → q.snoop = false → q.pkt.lost = false →
    q.pkt.ahead.length ≤ 18 → (∀ r ∈ q.pkt.ahead, s.withdrawn r = false) → (s.attachedDpa q.addr q.len).isSome = true →
    ∃ q' : NocReq, s.settle.noc.reqs = [q'] ∧ q'.pkt.ahead = [] ∧ q'.stamp = some s.noc.stamps ∧ q'.arrUrg = q.pkt.urg ∧ q'.unserved = true ∧
      q'.ni = q.ni ∧ q'.tag = q.tag ∧ q'.kind = q.kind ∧ q'.addr = q.addr ∧ q'.len = q.len ∧ q'.data = q.data) ∧
  (∀ (c : Fin 8) (cycles : Half) (fs : List (Fin 5 × MemFault)) (q : NocReq) (a : Nat) (s : State), s.noc.filter = [] →
    (s.ageHeads cycles.toNat).nextAt c = some (q, a) →
    exec (.memAccess c cycles fs) s = .next (((s.ageHeads cycles.toNat).serveMem q a fs).settle.scrubsDue c)) ∧
  (∀ (c : Nat) (s : State), s.noc.scrubs = [] → s.scrubsDue c = s) ∧
  (∀ (c l n : Nat) (fs : List MemFault) (s : State), s.noc.scrubs = [(c, l, fs, n)] → s.atChannel c = [] →
    s.scrubsDue c = ({ s with noc := { s.noc with scrubs := [] } } : State).scrubLine c l fs) ∧
  (∀ (c : Fin 8) (cycles : Half) (fs : List (Fin 5 × MemFault)) (s : State), s.noc.filter = [] → (s.ageHeads cycles.toNat).nextAt c = none →
    exec (.memAccess c cycles fs) s = .next (s.ageHeads cycles.toNat).settle) ∧
  (∀ (q : NocReq) (a : Nat) (s : State), s.attachedDpa q.addr q.len = some a → 1 ≤ q.len → q.kind = .rd → q.ni < 169 → chansReady s a q.len = true →
    s.serveMem q a [] = s.complete q 0 (s.dpaBytes a q.len)) ∧
  (∀ (q : NocReq) (a : Nat) (s : State), s.attachedDpa q.addr q.len = some a → 1 ≤ q.len → q.kind = .wr → q.data.length = q.len →
    chansReady s a q.len = true → (s.serveMem q a []).mem = (s.setDpaBytes a q.data).mem ∧ (s.serveMem q a []).regs = s.regs ∧
      (s.serveMem q a []).noc = (s.complete q 0 []).noc) ∧
  (∀ (q : NocReq) (a : Nat) (fs : List MemFault) (s : State), s.regsWf → 1 ≤ q.len → a / 64 = (a + q.len - 1) / 64 → q.kind = .rd → q.ni < 169 →
    chansReady s a q.len = true → s.erasureAt (dpaChannel s (a / 64 * 64)).1 (dpaChannel s (a / 64 * 64)).2 = none →
    let c := (dpaChannel s (a / 64 * 64)).1
    let l := (dpaChannel s (a / 64 * 64)).2
    (5 ≤ (symbolsIn fs).length → (symbolsIn fs).length ≤ 12 →
      ∃ t, s.serveMem q a (fs.map (fun f => (0, f))) = t ∧ t.noc = (s.complete q C.MEM_UE []).noc ∧ t.mem = s.mem ∧
        t.fld (F.MEMC_ECC_CNT.UE c) = min (s.fld (F.MEMC_ECC_CNT.UE c) + 1) (2 ^ (F.MEMC_ECC_CNT.UE c).w - 1) ∧
        logs s t C.MEM_UE (srcChannel c) (l + q.ni * 2 ^ 48) ∧ regsBut s t [R.MEMC_ECC_CNT c, R.MEMC_ERR_ADDR c]) ∧
    (1 ≤ (symbolsIn fs).length → (symbolsIn fs).length ≤ 4 →
      ∃ t, s.serveMem q a (fs.map (fun f => (0, f))) = t ∧ t.noc = (s.complete q 0 (s.dpaBytes a q.len)).noc ∧ t.mem = s.mem ∧
        t.fld (F.MEMC_ECC_CNT.CE c) = min (s.fld (F.MEMC_ECC_CNT.CE c) + 1) (2 ^ (F.MEMC_ECC_CNT.CE c).w - 1) ∧
        logs s t C.MEM_CE (srcChannel c) (l + q.ni * 2 ^ 48) ∧ regsBut s t [R.MEMC_ECC_CNT c, R.MEMC_ERR_ADDR c])) ∧
  (∀ (ni : Fin 177) (tag : Byte) (q : NocReq) (c : Nat) (s : State), s.nocReq ni tag.toNat = some q → q.served = some c → q.pkt.arrived = true →
    q.snoop = false → q.dead = false →
    ∃ t, exec (.nocCompletion ni tag .none) s = .next t ∧ t.nocReq ni tag.toNat = none ∧
      (∀ m u, (m, u) ≠ (ni.val, tag.toNat) → t.nocReq m u = s.nocReq m u) ∧
      t.noc.results = mset (fun _ => ⟨0, []⟩) (256 * ni.val + tag.toNat) ⟨c, if c = 0 ∧ q.kind = .rd then q.data else []⟩ s.noc.results ∧
      t = { s with noc := t.noc }) ∧
  (∀ (ni : Fin 177) (tag : Byte) (f : LinkFault) (q : NocReq) (c : Nat) (s : State), s.nocReq ni tag.toNat = some q → q.served = some c →
    q.pkt.arrived = false → exec (.nocCompletion ni tag f) s = .next s) ∧
  (∀ (ni : Fin 177) (tag : Byte) (q : NocReq) (c : Nat) (r : Fin 64) (s : State), s.regsWf → s.nocReq ni tag.toNat = some q → q.served = some c →
    q.pkt.arrived = true → q.snoop = false → q.dead = false → r.val ∈ q.pkt.entered →
    (∃ t, exec (.nocCompletion ni tag (.body r)) s = .next t ∧ t.nocReq ni tag.toNat = none ∧ t.bit F.NOC_STAT.LINK_SEEN = true ∧
      t.noc.results = mset (fun _ => ⟨0, []⟩) (256 * ni.val + tag.toNat) ⟨C.NOC_LINK_ERR, []⟩ s.noc.results ∧
      logs s t C.NOC_LINK_ERR (srcRouter r) (reqDetail q.ni q.addr) ∧ regsBut s t [R.NOC_STAT, R.NOC_ERR_CNT]) ∧
    (∃ t, exec (.nocCompletion ni tag (.header r)) s = .next t ∧ (t.nocReq ni tag.toNat).map (·.pkt.lost) = some true ∧
      t.noc.results = s.noc.results ∧ logs s t C.NOC_LINK_ERR (srcRouter r) (reqDetail q.ni q.addr) ∧ regsBut s t [R.NOC_STAT, R.NOC_ERR_CNT])) ∧
  (∀ (ni : Fin 177) (tag : Byte) (q : NocReq) (s : State), s.regsWf → s.nocReq ni tag.toNat = some q → q.dead = false → q.snoop = false →
    ∃ t, exec (.nocTimeout ni tag) s = .next t ∧ (t.nocReq ni tag.toNat).map (·.dead) = (if q.pkt.lost then none else some true) ∧
      t.bit F.NOC_STAT.TIMEOUT_SEEN = true ∧
      t.noc.results = mset (fun _ => ⟨0, []⟩) (256 * ni.val + tag.toNat) ⟨C.NOC_TIMEOUT, []⟩ s.noc.results ∧
      t = { s with regs := t.regs, noc := t.noc } ∧ regsBut s t [R.NOC_STAT, R.NOC_ERR_CNT]) ∧
  (∀ (ni : Fin 177) (tag : Byte) (q : NocReq) (h : Fin 64) (r : Nat) (rs : List Nat) (s : State), s.regsWf → s.nocReq ni tag.toNat = some q →
    q.pkt.here = some h.val → q.pkt.ahead = r :: rs → q.unserved = true → q.pkt.lost = false → s.withdrawn r = true →
    exec (.routeHoldExpiry ni tag h) s =
      .next ((s.nocCount F.NOC_STAT.NACK_SEEN F.NOC_ERR_CNT.NACK).putReq { q with pkt := s.nackPacket q h }).settle ∧
    (s.nocCount F.NOC_STAT.NACK_SEEN F.NOC_ERR_CNT.NACK).bit F.NOC_STAT.NACK_SEEN = true ∧
    (s.nackPacket q h).isNack = true ∧ (s.nackPacket q h).urg = 7) ∧
  (∀ (ni : Fin 177) (tag : Byte) (q : NocReq) (s : State), s.regsWf → s.nocReq ni tag.toNat = some q → q.pkt.isNack = true → q.pkt.arrived = true →
    q.dead = false → s.proxied q = false →
    (s.earlierNack q = true → exec (.nack ni tag) s = .next s) ∧
    (s.earlierNack q = false →
      (routeValid (s.route q.ni q.dst true) = true → q.resent = false →
        exec (.nack ni tag) s = .next (s.putReq { q with
          resent := true, stamp := none, pkt := requestPacket q.ni q.dst q.tag q.addr q.len (baseUrgency q.ni) q.kind (s.route q.ni q.dst true) true }).settle) ∧
      ((routeValid (s.route q.ni q.dst true) = false ∨ q.resent = true) →
        ∃ t, exec (.nack ni tag) s = .next t ∧ t.nocReq ni tag.toNat = none ∧ t.bit F.NOC_STAT.UNAVAIL_SEEN = true ∧
          t.noc.results = mset (fun _ => ⟨0, []⟩) (256 * ni.val + tag.toNat) ⟨C.ROUTE_UNAVAILABLE, []⟩ s.noc.results ∧
          logs s t C.ROUTE_UNAVAILABLE (srcNi ni) (reqDetail ni q.addr) ∧ regsBut s t [R.NOC_STAT, R.NOC_ERR_CNT]))) ∧
  (∀ (ni : Fin 177) (tag : Byte) (st : Fin 8) (q : NocReq) (s : State), s.nocReq ni tag.toNat = some q → q.unserved = true → q.stamp.isSome = true →
    dpaRange q.addr q.len = some .hostMem → s.hostReachable = true →
    ∃ t, exec (.nocCompletion ni tag (.host st)) s = .next t ∧ logs s t C.HIF_DMA_ERR (srcNi 168) (st + q.addr * 2 ^ 16) ∧ t.noc.hostSt = st ∧
      t.mem = s.mem ∧ t.hmem = s.hmem ∧ t.regs = s.regs)

/-- Routers are withdrawn at most two at a time and return; domains are fenced, drained and unfenced; routes are committed only when they are legal
and firmware commits them (R361 to R364, R368, R372 to R376, R394).
It also rests on choices of the model: log entry 57. -/
def Obligations.RoutersFencesAndRoutes : Prop :=
  (∀ (req : Requester) (r : Fin 64) (s : State), s.regsWf →
    (s.withdrawn r = false → s.withdrawnCount ≤ 1 →
      ∃ t, exec (.nocBegin req r) s = .next t ∧ t.withdrawn r = true ∧ (∀ j < 64, j ≠ r.val → t.withdrawn j = s.withdrawn j) ∧
        t.fld F.NOC_RTR_CMDSTAT.STATUS = 0 ∧ onlyRegs s t [R.NOC_RTR_CMDSTAT, R.NOC_RTR_WITHDRAWN, R.NOC_RTR_DRAINED]) ∧
    ((s.withdrawn r = true ∨ 2 ≤ s.withdrawnCount) →
      ∃ t, exec (.nocBegin req r) s = .next t ∧ t.fld F.NOC_RTR_CMDSTAT.STATUS = C.STATE_REFUSED ∧
        logs s t C.STATE_REFUSED (srcRequester req) (R.NOC_RTR_CMD + 2 ^ 32) ∧ onlyRegsLog s t [R.NOC_RTR_CMDSTAT]) ∧
    (s.withdrawn r = true →
      (s.routerHolds r = false →
        ∃ t, exec (.routerDrained r) s = .next t ∧ bitOf (t.reg R.NOC_RTR_DRAINED).toNat r = true ∧ onlyRegs s t [R.NOC_RTR_DRAINED]) ∧
      (s.routerHolds r = true → exec (.routerDrained r) s = .next s) ∧
      (∃ t, exec (.nocEnd req r) s = .next t ∧ t.withdrawn r = false ∧ (∀ j < 64, j ≠ r.val → t.withdrawn j = s.withdrawn j) ∧
        t.fld F.NOC_RTR_CMDSTAT.STATUS = 0 ∧ regsBut s t [R.NOC_RTR_CMDSTAT, R.NOC_RTR_WITHDRAWN, R.NOC_RTR_DRAINED] ∧
        t = { s with regs := t.regs, noc := t.noc, csc := t.csc } ∧ (s.noc.reqs = [] → t.noc = s.noc ∧ t.csc = s.csc)) ∧
      (∃ t, exec (.nocReconfTimeout r) s = .next t ∧ t.withdrawn r = false ∧ t.bit F.NOC_STAT.RECONF_TO_SEEN = true ∧
        logs s t C.NOC_RECONF_TIMEOUT (srcRouter r) 0 ∧ regsBut s t [R.NOC_STAT, R.NOC_RTR_WITHDRAWN, R.NOC_RTR_DRAINED] ∧
        t = { s with regs := t.regs, noc := t.noc, csc := t.csc, err := t.err } ∧ (s.noc.reqs = [] → t.noc = s.noc ∧ t.csc = s.csc)))) ∧
  (∀ (req : Requester) (d : Fin 32) (s : State), s.regsWf → fenceable d = true →
    ((d.val ≠ 4 ∧ d.val ≠ 11) ∨ (∀ n < 16, s.siteActive n = false) →
      ∃ t, exec (.nocFence req d) s = .next t ∧ t.fenced d = true ∧ t.fld F.NOC_FENCE_STAT.STATUS = 0 ∧
        (∀ e < 32, e ≠ d.val → t.fenced e = s.fenced e) ∧ onlyRegs s t [R.NOC_FENCE_STAT]) ∧
    (bitOf (s.fld F.NOC_FENCE_STAT.PENDING) d = true → s.domainBusy d = false →
      ∃ t, exec (.domainFenced d) s = .next t ∧ bitOf (t.fld F.NOC_FENCE_STAT.PENDING) d = false ∧ bitOf (t.fld F.NOC_FENCE_STAT.FENCED) d = true ∧
        onlyRegs s t [R.NOC_FENCE_STAT]) ∧
    (bitOf (s.fld F.NOC_FENCE_STAT.FENCED) d = true → bitOf (s.fld F.PWR_DOM_STAT.ON) d = true →
      ∃ t, exec (.nocUnfence req d) s = .next t ∧ bitOf (t.fld F.NOC_FENCE_STAT.FENCED) d = false ∧ t.fld F.NOC_FENCE_STAT.STATUS = 0 ∧
        onlyRegs s t [R.NOC_FENCE_STAT])) ∧
  (∀ (req : Requester) (d : Fin 32) (s : State), s.regsWf → fenceable d = false →
    ∃ t, exec (.nocFence req d) s = .next t ∧ t.fld F.NOC_FENCE_STAT.STATUS = C.STATE_REFUSED ∧
      logs s t C.STATE_REFUSED (srcRequester req) (R.NOC_FENCE_CMD + 2 ^ 32) ∧ onlyRegsLog s t [R.NOC_FENCE_STAT]) ∧
  (∀ (src dst : Byte) (s : State), s.regsWf → src.toNat ≤ 176 → dst.toNat ≤ 176 →
    routeValid (s.reg R.NOC_RT_PRI) = true → routeValid (s.reg R.NOC_RT_ALT) = true →
    (routeLegal src.toNat dst.toNat (s.reg R.NOC_RT_PRI) = true → routeLegal src.toNat dst.toNat (s.reg R.NOC_RT_ALT) = true →
      ∃ t, exec (.routeCommit .firmware src dst) s = .next t ∧ t.fld F.NOC_RT_STATUS.STATUS = 0 ∧
        t.noc = ((s.setRoute src.toNat dst.toNat false (s.reg R.NOC_RT_PRI)).setRoute src.toNat dst.toNat true (s.reg R.NOC_RT_ALT)).noc ∧
        t = { s with regs := t.regs, noc := t.noc } ∧ regsBut s t [R.NOC_RT_ADDR, R.NOC_RT_STATUS]) ∧
    (routeLegal src.toNat dst.toNat (s.reg R.NOC_RT_PRI) = false →
      ∃ t, exec (.routeCommit .firmware src dst) s = .next t ∧ t.fld F.NOC_RT_STATUS.STATUS = C.NOC_ROUTE_INVALID ∧
        logs s t C.NOC_ROUTE_INVALID (srcNi src.toNat) 0 ∧ onlyRegsLog s t [R.NOC_RT_ADDR, R.NOC_RT_STATUS])) ∧
  (∀ (req : Requester) (src dst : Byte) (s : State), s.regsWf →
    ∃ t, exec (.routeLoad req src dst) s = .next t ∧ t.reg R.NOC_RT_PRI = s.route src.toNat dst.toNat false ∧
      t.reg R.NOC_RT_ALT = s.route src.toNat dst.toNat true ∧ onlyRegs s t [R.NOC_RT_ADDR, R.NOC_RT_PRI, R.NOC_RT_ALT]) ∧
  (∀ (req : Requester) (v : Word) (s : State), s.regsWf →
    (v.toNat / 2 ^ 20 ≠ 0 → v.toNat / 2 ^ 20 < v.toNat % 2 ^ 20 →
      ∃ t, exec (.nocTimeoutWrite req v) s = .next t ∧ t.reg R.NOC_TIMEOUT = v.setWidth 64 ∧ onlyRegs s t [R.NOC_TIMEOUT]) ∧
    ((v.toNat / 2 ^ 20 = 0 ∨ v.toNat % 2 ^ 20 ≤ v.toNat / 2 ^ 20) →
      ∃ t, exec (.nocTimeoutWrite req v) s = .next t ∧ logs s t C.STATE_REFUSED (srcRequester req) R.NOC_TIMEOUT ∧ onlyRegsLog s t []))

namespace Sys2Proof.Claims

/-- No command to a memory channel is the one with which training begins (R380, R436): the device has left BOOT or its attempt is not at stage 5. -/
abbrev trainingBegun (s : State) : Prop := s.dev = .boot → s.fld F.SEC_BOOT_STAT.STAGE ≠ 5

/-- A command of channel `c` was taken: CMD_STATUS is 0 and STATE is `x`. -/
def chanTook (s t : State) (c x : Nat) : Prop :=
  t.fld (F.MEMC_STAT.CMD_STATUS c) = 0 ∧ t.fld (F.MEMC_STAT.STATE c) = x ∧ regsBut s t [R.MEMC_STAT c]

end Sys2Proof.Claims

/-- The memory channels: their states and commands, mode registers, the patrol scrub, the refresh rate, the map and the BAR2 window (R380 to R385,
R392, R395, R566).
It also rests on choices of the model: log entries 28, 52, 56. -/
def Obligations.MemoryChannels : Prop :=
  (∀ (req : Requester) (c : Fin 8) (s : State), s.regsWf → trainingBegun s →
    (bitOf (s.fld F.PWR_DOM_STAT.ON) (chanDomain c) = true → ∃ t, exec (.memcInit req c) s = .next t ∧ chanTook s t c 1 ∧
      t.mem = mkeep (fun k => k / 2 ^ 35 != c.val) s.mem ∧ t.bit (F.MEMC_STAT.RETAINED c) = false ∧ t = { s with regs := t.regs, mem := t.mem }) ∧
    (s.chanState c = 1 → ∃ t, exec (.memcReady req c) s = .next t ∧ chanTook s t c 2 ∧ t = { s with regs := t.regs }) ∧
    (s.chanState c = 2 → ∃ t, exec (.memcSrEnter req c) s = .next t ∧ chanTook s t c 3 ∧ t = { s with regs := t.regs }) ∧
    (s.chanState c = 3 → ∃ t, exec (.memcSrExit req c) s = .next t ∧ chanTook s t c 2 ∧ t = { s with regs := t.regs }) ∧
    (s.chanState c ≠ 0 →
      (∃ t, exec (.memcFail req c) s = .next t ∧ chanTook s t c 4 ∧ logs s t C.MEM_TRAIN_FAIL (srcChannel c) 0 ∧ t = { s with regs := t.regs, err := t.err }) ∧
      (∃ t, exec (.memcUnerase req c) s = .next t ∧ chanTook s t c (s.chanState c) ∧ t.bit (F.MEMC_STAT.ERASED c) = false ∧
        t = { s with regs := t.regs, noc := { s.noc with erase := mset (fun _ => none) c.val none s.noc.erase } }) ∧
      (∀ (sub : Fin 2) (comp : Fin 8), comp.val ≤ 4 → ∃ t, exec (.memcErase req c sub comp) s = .next t ∧ chanTook s t c (s.chanState c) ∧
        t.bit (F.MEMC_STAT.ERASED c) = true ∧
        t = { s with regs := t.regs, noc := { s.noc with erase := mset (fun _ => none) c.val (some (sub.val, comp.val)) s.noc.erase } })) ∧
    (s.chanState c ≠ 1 → ∃ t, exec (.memcReady req c) s = .next t ∧ t.fld (F.MEMC_STAT.CMD_STATUS c) = C.STATE_REFUSED ∧
      logs s t C.STATE_REFUSED (srcRequester req) (R.MEMC_CTRL c + 2 * 2 ^ 32) ∧ onlyRegsLog s t [R.MEMC_STAT c])) ∧
  (∀ (req : Requester) (c : Fin 8) (s : State), s.regsWf → s.dev = .boot → s.sec.testHold = false → s.fld F.SEC_BOOT_STAT.STAGE = 5 →
    ∃ t, exec (.memcInit req c) s = .next t ∧ t.fld F.SEC_BOOT_STAT.STAGE = 6 ∧ bitOf (t.fld F.PWR_DOM_STAT.ON) 16 = true ∧
      bitOf (t.fld F.PWR_DOM_STAT.ON) 17 = true ∧ t.fenced 16 = false ∧ t.fenced 17 = false ∧ t.chanState c = 1 ∧
      (∀ d < 8, d ≠ c.val → t.chanState d = (if s.chanState d = 0 then 1 else s.chanState d)) ∧ t.fld (F.MEMC_STAT.CMD_STATUS c) = 0 ∧
      t = { s with regs := t.regs, mem := mkeep (fun k => k / 2 ^ 35 != c.val) s.mem } ∧
      regsBut s t ([R.SEC_BOOT_STAT, R.PWR_DOM_STAT, R.NOC_FENCE_STAT] ++ (List.range 8).map R.MEMC_STAT)) ∧
  (∀ (req : Requester) (c : Fin 8) (v : Word) (s : State), s.regsWf → trainingBegun s → s.chanState c = 1 → s.bit (F.MEMC_MR.BUSY c) = false →
    ∃ t, exec (.memcMrGo req c v) s = .next t ∧ t.bit (F.MEMC_MR.BUSY c) = true ∧ t.fld (F.MEMC_STAT.CMD_STATUS c) = 0 ∧
      onlyRegs s t [R.MEMC_MR c, R.MEMC_STAT c]) ∧
  (∀ (c : Fin 8) (d : Byte) (s : State), s.regsWf → s.bit (F.MEMC_MR.BUSY c) = true →
    ∃ t, exec (.memcMrDone c d) s = .next t ∧ t.bit (F.MEMC_MR.BUSY c) = false ∧
      t.fld (F.MEMC_MR.DATA c) = (if s.bit (F.MEMC_MR.WR c) then s.fld (F.MEMC_MR.DATA c) else d.toNat) ∧ onlyRegs s t [R.MEMC_MR c]) ∧
  (∀ (c : Fin 8) (l : BitVec 35) (fs : List MemFault) (s : State), s.bit (F.MEMC_SCRUB_CFG.EN c) = true → s.chanState c = 2 →
    (∃ y ∈ s.atChannel c, s.touchesLocal c l.toNat y.1 y.2 = true) →
    exec (.patrolScrub c l fs) s = .next { s with noc := { s.noc with scrubs := s.noc.scrubs ++ [(c.val, l.toNat, fs, s.noc.stamps)] } }) ∧
  (∀ (c : Fin 8) (l : BitVec 35) (fs : List MemFault) (s : State), s.regsWf → s.bit (F.MEMC_SCRUB_CFG.EN c) = true → s.chanState c = 2 →
    (∀ y ∈ s.atChannel c, s.touchesLocal c l.toNat y.1 y.2 = false) →
    exec (.patrolScrub c l []) s = .next s ∧
    (s.erasureAt c l.toNat = none → 5 ≤ (symbolsIn fs).length → (symbolsIn fs).length ≤ 12 →
      ∃ t, exec (.patrolScrub c l fs) s = .next t ∧
        t.fld (F.MEMC_ECC_CNT.UE c) = min (s.fld (F.MEMC_ECC_CNT.UE c) + 1) (2 ^ (F.MEMC_ECC_CNT.UE c).w - 1) ∧
        t.reg (R.MEMC_ERR_ADDR c) = errAddr l.toNat 0 0 true true ∧ logs s t C.MEM_UE (srcChannel c) l.toNat ∧
        t = { s with regs := t.regs, err := t.err, free := t.free } ∧ regsBut s t [R.MEMC_ECC_CNT c, R.MEMC_ERR_ADDR c]) ∧
    (∀ (i : Nat) (is : List Nat), s.erasureAt c l.toNat = none → symbolsIn fs = i :: is → is.length < 4 →
      ∃ t, exec (.patrolScrub c l fs) s = .next t ∧
        t.fld (F.MEMC_ECC_CNT.CE c) = min (s.fld (F.MEMC_ECC_CNT.CE c) + 1) (2 ^ (F.MEMC_ECC_CNT.CE c).w - 1) ∧
        t.reg (R.MEMC_ERR_ADDR c) = errAddr l.toNat (is.length + 1) (i % 5) true false ∧ logs s t C.MEM_CE (srcChannel c) l.toNat ∧
        onlyRegsLog s t [R.MEMC_ECC_CNT c, R.MEMC_ERR_ADDR c]) ∧
    (∀ e < 5, s.erasureAt c l.toNat = some e → (∀ i ∈ symbolsIn fs, i % 5 = e) → exec (.patrolScrub c l fs) s = .next s)) ∧
  (∀ (c : Fin 8) (d : Byte) (s : State), s.regsWf →
    ∃ t, exec (.dramTempReport c d) s = .next t ∧
      t.bit (F.MEMC_STAT.HOT c) = (if 85 < d.toNat then true else if d.toNat < 80 then false else s.bit (F.MEMC_STAT.HOT c)) ∧
      onlyRegs s t [R.MEMC_STAT c]) ∧
  (∀ (req : Requester) (v : Word) (s : State), s.regsWf →
    ((∀ c < 8, s.chanState c ≠ 2 ∧ s.chanState c ≠ 3) → v.toNat / 16 % 8 ≤ 4 →
      ∃ t, exec (.memcMapWrite req v) s = .next t ∧ t.fld F.MEMC_MAP.GRAN = getBits (v.setWidth 64) F.MEMC_MAP.GRAN.lo 1 ∧ onlyRegs s t [R.MEMC_MAP]) ∧
    ((∃ c < 8, s.chanState c = 2) →
      ∃ t, exec (.memcMapWrite req v) s = .next t ∧ logs s t C.STATE_REFUSED (srcRequester req) R.MEMC_MAP ∧ onlyRegsLog s t []) ∧
    (v.toNat % 256 ≤ 192 →
      ∃ t, exec (.memcBar2BaseWrite req v) s = .next t ∧ t.fld F.MEMC_BAR2_BASE.BASE = v.toNat % 256 ∧ onlyRegs s t [R.MEMC_BAR2_BASE]) ∧
    (192 < v.toNat % 256 →
      ∃ t, exec (.memcBar2BaseWrite req v) s = .next t ∧ logs s t C.STATE_REFUSED (srcRequester req) R.MEMC_BAR2_BASE ∧ onlyRegsLog s t [])) ∧
  (∀ (off : BitVec 36) (w : Option (List Byte)) (n : Fin 4097) (s : State), wfTlp off.toNat w n = true → s.bit F.HIF_LINK.UP = true →
    (memCheck s 168 (s.fld F.MEMC_BAR2_BASE.BASE * 2 ^ 30 + off.toNat) n w.isSome = 0 →
      ∃ t, exec (.bar2Access off w n 0) s = .next t ∧
        (∀ d, w = some d → t.mem = (s.unitWrite 168 (s.fld F.MEMC_BAR2_BASE.BASE * 2 ^ 30 + off.toNat) d).mem ∧
          t.noc.filter = (s.unitWrite 168 (s.fld F.MEMC_BAR2_BASE.BASE * 2 ^ 30 + off.toNat) d).noc.filter) ∧
        (w = none → t.mem = s.mem ∧ t.hif.cpl = .success ∧ t.noc.results = mset (fun _ => ⟨0, []⟩) (256 * 168)
          ⟨0, s.dpaBytes (s.fld F.MEMC_BAR2_BASE.BASE * 2 ^ 30 + off.toNat) n⟩ s.noc.results) ∧
        t = { s with mem := t.mem, hmem := t.hmem, noc := t.noc, free := t.free, hif := { s.hif with cpl := t.hif.cpl } }) ∧
    (memCheck s 168 (s.fld F.MEMC_BAR2_BASE.BASE * 2 ^ 30 + off.toNat) n w.isSome ≠ 0 →
      ∃ t, exec (.bar2Access off w n 0) s = .next t ∧ logs s t (memCheck s 168 (s.fld F.MEMC_BAR2_BASE.BASE * 2 ^ 30 + off.toNat) n w.isSome)
        (srcNi 168) (reqDetail 168 (s.fld F.MEMC_BAR2_BASE.BASE * 2 ^ 30 + off.toNat)) ∧ (w = none → t.hif.cpl = .ca) ∧ t.mem = s.mem ∧ t.regs = s.regs)) ∧
  (∀ (off : BitVec 36) (n : Fin 4097) (s : State), wfTlp off.toNat none n = true → s.bit F.HIF_LINK.UP = true →
    memCheck s 168 (s.fld F.MEMC_BAR2_BASE.BASE * 2 ^ 30 + off.toNat) n false = 0 →
    ∃ t, exec (.bar2Access off none n (BitVec.ofNat 16 C.MEM_UE)) s = .next t ∧ t.hif.cpl = .poisoned ∧ t.mem = s.mem)

namespace Sys2Proof.Claims

/-- The next frame of the load in progress is of type `typ` for target `tgt` with payload `b`, stands where a frame of its type may, and its chunks have
passed (R403, R405, R413). -/
abbrev nextFrame (s : State) (l : CfgLoad) (h : CfgHdr) (typ tgt : Nat) (b : List Byte) : Prop :=
  s.cfg.load = some l ∧ l.hdr = some h ∧ l.ended = false ∧ l.headBad h = false ∧ l.headFrame = some (typ, tgt, b) ∧
  ¬(h.kind = 1 ∧ l.frames = 0 ∧ typ ≠ 1) ∧ ¬(typ = 1 ∧ l.mapSeen = true)

/-- Load `l` once the frame with payload `b` has been taken. -/
def took (l : CfgLoad) (b : List Byte) : CfgLoad :=
  { l with plain := l.plain.drop (16 + b.length), consumed := l.consumed + 16 + b.length, frames := l.frames + 1 }

/-- The load `l` has ended in `t` with `code` and what CFG_FAIL_INFO shows, logged once (R417, R418). -/
def loadEnds (s t : State) (l : CfgLoad) (code detail typ offset : Nat) : Prop :=
  t.cfg.load = none ∧ t.fld F.CFG_STAT.STATUS = code ∧ t.reg R.CFG_FAIL_INFO = BitVec.ofNat 64 (offset % 2 ^ 32 + typ * 2 ^ 32 + detail * 2 ^ 48) ∧
  logs s t code (srcOptional l.req) (offset % 2 ^ 32 + typ * 2 ^ 32 + detail * 2 ^ 48) ∧
  ((∃ h, l.hdr = some h) → ∀ g ∈ l.regions, g ≠ 0 → t.rgnState g = 2 ∧ t.bit (F.FAB_RGN_DESC.FAILED g) = true)

/-- The load `l` has ended in `t` as `loadEnds` says, but logged against the unit that its failing frame targets where the code is one of a unit's own check
(R121, R217, R432). -/
def frameEnds (s t : State) (l : CfgLoad) (code typ : Nat) : Prop :=
  t.cfg.load = none ∧ t.fld F.CFG_STAT.STATUS = code ∧ t.reg R.CFG_FAIL_INFO = BitVec.ofNat 64 (l.consumed % 2 ^ 32 + typ * 2 ^ 32) ∧
  logs s t code (s.failSource l.req code (l.consumed % 2 ^ 32 + typ * 2 ^ 32)).1 (s.failSource l.req code (l.consumed % 2 ^ 32 + typ * 2 ^ 32)).2 ∧
  ((∃ h, l.hdr = some h) → ∀ g ∈ l.regions, g ≠ 0 → t.rgnState g = 2 ∧ t.bit (F.FAB_RGN_DESC.FAILED g) = true)

/-- No context that a frame writes, from `first` on, `cnt` of them, is one that R82 protects at position `p`. -/
abbrev noLiveWrite (s : State) (p first cnt : Nat) : Prop := ∀ i < cnt, first + i < 8 → s.liveWrite p (first + i) = false

/-- Whether a failure of load `l` tries the golden image (R427). -/
abbrev noRetry (l : CfgLoad) : Prop := l.fallback = false ∨ l.golden = true ∨ l.src ≠ 1

end Sys2Proof.Claims

/-- A load from its command to its commit: LOAD begins or is refused, the header is checked and the fabric or the regions it names are emptied, chunks
are decrypted and authenticated under the key that the header names, the signature over every byte before it commits the load, and every failure ends it
with its code (R399, R401, R408 to R418).
It also rests on choices of the model: log entries 11, 20, 59, 60, 63. -/
def Obligations.LoadsFromStartToCommit : Prop :=
  (∀ (req : Requester) (src : Fin 8) (fb : Bool) (s : State), s.regsWf →
    (s.loadBarred = none → src.val < 2 → 384 ≤ s.fld F.CFG_SRC_LEN.BYTES →
      (∃ t l, exec (.cfgLoad req src false fb) s = .next t ∧ t.cfg = { s.cfg with load := some l } ∧ l.req = some req ∧ l.src = src.val ∧
        l.base = (s.reg R.CFG_SRC_ADDR).toNat ∧ l.hdr = none ∧ l.fallback = (fb && src.val == 1) ∧ t.fld F.CFG_STAT.STATE = 1 ∧
        t.fld F.CFG_STAT.SRC = src.val ∧ t.bit F.CFG_STAT.CHAIN = false ∧ t = { s.cfgAnswers with regs := t.regs, cfg := t.cfg } ∧ regsBut s t [R.CFG_STAT]) ∧
      (∃ t c, exec (.cfgLoad req src true fb) s = .next t ∧ t.cfg = { s.cfg with chain := some c } ∧ c.src = src.val ∧ t.bit F.CFG_STAT.CHAIN = true ∧
        t.fld F.CFG_CHAIN_STAT.FORWARDED = 0 ∧ t.fld F.CFG_CHAIN_STAT.LOADED = 0 ∧ t = { s.cfgAnswers with regs := t.regs, cfg := t.cfg } ∧
        regsBut s t [R.CFG_STAT, R.CFG_CHAIN_STAT])) ∧
    (s.loadBarred = none → 2 ≤ src.val →
      ∃ t, exec (.cfgLoad req src false fb) s = .next t ∧ t.fld F.CFG_STAT.STATUS = C.CFG_FORMAT ∧ t.cfg = s.cfg) ∧
    (s.loadBarred = some C.CFG_BUSY →
      ∃ t, exec (.cfgLoad req src false fb) s = .next t ∧ t.fld F.CFG_STAT.STATUS = C.CFG_BUSY ∧
        logs s t C.CFG_BUSY (srcRequester req) (s.reg R.CFG_FAIL_INFO).toNat ∧ onlyRegsLog s t [R.CFG_STAT]) ∧
    (s.loadBarred = some C.STATE_REFUSED →
      ∃ t, exec (.cfgLoad req src false fb) s = .next t ∧ t.fld F.CFG_STAT.STATUS = C.STATE_REFUSED ∧ t.cfg = s.cfg ∧
        logs s t C.STATE_REFUSED (srcRequester req) (R.CFG_CMD + 2 ^ 32) ∧ onlyRegsLog s.cfgAnswers t [R.CFG_STAT])) ∧
  (∀ (req : Requester) (l : CfgLoad) (s : State), s.regsWf → s.allows req .cfgAbort = true → s.cfg.load = some l → s.cfg.chain = none →
    loadInRange l →
    (∃ t, exec (.cfgAbort req) s = .next t ∧ loadEnds s t l C.CFG_ABORTED 0 0 (s.received l) ∧ t.fld F.CFG_STAT.STATE = 0) ∧
    (s.portReady = true → s.allows .host .cfgAbort = true →
      ∃ t, exec .portAbort s = .next t ∧ loadEnds s t l C.CFG_ABORTED 0 0 (s.received l) ∧ t.cfg.port = some .other)) ∧
  (∀ (l : CfgLoad) (s : State), (l.src = 3 → s.received l = l.image.length) ∧ (l.src ≠ 3 → l.commit = none → l.recv ≤ s.received l ∧ (0 < l.partLen → s.received l < l.recv + l.partLen))) ∧
  (∀ (bs b : List Byte) (st : Half) (l : CfgLoad) (s s0 : State), s.regsWf → s.cfg.load = some l → l.hdr = none →
    (l.src = 2 → 256 ≤ bs.length ∧ s.portDelivers = true) → s.srcRead l.src l.base 256 st.toNat bs = (0, b, s0) → hdrFormatOk b l.avail = true →
    (s0.setFld F.CFG_STAT.KIND (parseHdr b).kind).headerFault (parseHdr b) ((b.drop 64).take 48) (numAt b 8 1) (numAt b 10 2) = none →
    (s0.setFld F.CFG_STAT.KIND (parseHdr b).kind).beginWaits (parseHdr b) = [] →
    ∃ t l', exec (.cfgHeader bs st) s = .next t ∧ t.cfg.load = some l' ∧ l'.hdr = some (parseHdr b) ∧ l'.recv = 256 ∧ t.fld F.CFG_STAT.STATE = 2 ∧
      t.fld F.CFG_STAT.KIND = (parseHdr b).kind ∧ t.reg R.CFG_PROGRESS = BitVec.ofNat 64 (if l.src = 3 then max 256 l.image.length else 256) ∧ t.bit F.FAB_SFX_STAT.ARRAYS_HELD = false ∧
      ((parseHdr b).kind = 1 → ∀ g < 64, t.rgnState g = 0) ∧
      ((parseHdr b).kind = 2 → l'.regions = onesFrom 64 0 (parseHdr b).regionSet ∧ ∀ g ∈ l'.regions, g ≠ 0 → t.rgnState g = 1)) ∧
  (∀ (bs b : List Byte) (st : Half) (l : CfgLoad) (s s0 : State), s.regsWf → s.cfg.load = some l → l.hdr = none →
    (l.src = 2 → 256 ≤ bs.length ∧ s.portDelivers = true) → s.srcRead l.src l.base 256 st.toNat bs = (0, b, s0) → hdrFormatOk b l.avail = false →
    ∃ t, exec (.cfgHeader bs st) s = .next t ∧ loadEnds s0 t l C.CFG_FORMAT 0 0 0) ∧
  (∀ (cipher tag bs : List Byte) (st : Half) (size : Nat) (l : CfgLoad) (h : CfgHdr) (s s0 : State), s.regsWf → wfChunk cipher tag = true →
    s.cfg.load = some l → l.hdr = some h → l.chunks < h.nchunk → h.nchunk ≤ 65535 → size = (if l.chunks + 1 = h.nchunk then h.lastLen else 65536) →
    size ≤ 65536 → loadInRange l →
    (s.imagePart l (256 + l.chunks * 65552) (size + 16) st.toNat (cipher ++ tag) = some (0, bs, s0) → s.keyAvailable h.keysel = true → noRetry l →
      ∃ t, exec (.chunkAuthenticate cipher tag st) s = .next t ∧
        (Config.gcmTag (s0.keyOf h.keysel) (chunkIv h l.chunks) (l.image.take 256) (bs.take size) = bs.drop size →
          t.cfg = { s0.cfg with load := some { l with
            chunks := l.chunks + 1, recv := 256 + l.chunks * 65552 + size + 16,
            plain := l.plain ++ (bs.take size).mapIdx (fun i b => b ^^^ Config.gcmStream (s0.keyOf h.keysel) (chunkIv h l.chunks) i),
            image := if l.src = 3 then l.image else l.image ++ bs } } ∧
          t.fld F.CFG_PROGRESS.CHUNKS = l.chunks + 1 ∧ t.fld F.CFG_STAT.STATE = (if l.chunks + 1 = h.nchunk then 3 else 2) ∧
          t = { s0 with regs := t.regs, cfg := t.cfg } ∧ regsBut s0 t [R.CFG_PROGRESS, R.CFG_STAT]) ∧
        (Config.gcmTag (s0.keyOf h.keysel) (chunkIv h l.chunks) (l.image.take 256) (bs.take size) ≠ bs.drop size →
          loadEnds s0 t l C.CFG_AUTH_FAIL 1 0 (256 + l.chunks * 65552))) ∧
    (∀ x : Nat × List Byte × State, s.imagePart l (256 + l.chunks * 65552) (size + 16) st.toNat (cipher ++ tag) = some x → s.keyAvailable h.keysel = false → noRetry l →
      ∃ t, exec (.chunkAuthenticate cipher tag st) s = .next t ∧ loadEnds s t l C.CFG_KEY_UNAVAILABLE 0 0 (256 + l.chunks * 65552)) ∧
    (∀ e : Nat, s.imagePart l (256 + l.chunks * 65552) (size + 16) st.toNat (cipher ++ tag) = some (e, bs, s0) → e ≠ 0 → s.keyAvailable h.keysel = true → noRetry l →
      ∃ t, exec (.chunkAuthenticate cipher tag st) s = .next t ∧ loadEnds s0 t l C.CFG_SOURCE_ERR e 0 (256 + l.chunks * 65552)) ∧
    (s.imagePart l (256 + l.chunks * 65552) (size + 16) st.toNat (cipher ++ tag) = none → exec (.chunkAuthenticate cipher tag st) s = .next s)) ∧
  (∀ (bytes sig : List Byte) (st : Half) (l : CfgLoad) (h : CfgHdr) (s s0 : State), s.regsWf → wfSignature bytes = true → s.cfg.load = some l →
    l.hdr = some h → h.nchunk ≤ l.chunks → l.ended = true → l.plain.all (· == 0) = true → l.commit = none → loadInRange l →
    (s.imagePart l (h.totalLen - 96) 96 st.toNat bytes = some (0, sig, s0) →
      ∃ t, exec (.signatureCheck bytes st) s = .next t ∧
        (s0.signatureOk l h sig = true → s0.fckOn = true →
          t.cfg = { s0.cfg with load := some { l with commit := some (Config.sha384 (l.image.take (h.totalLen - 96))) } } ∧
          t.fld F.CFG_STAT.STATE = 4 ∧ t = { s0 with regs := t.regs, cfg := t.cfg } ∧ regsBut s0 t [R.CFG_STAT]) ∧
        (s0.signatureOk l h sig = true → s0.fckOn = false → ∃ u : State, u.cfg.load = some { l with commit := some (Config.sha384 (l.image.take (h.totalLen - 96))) } ∧
          t = u.commitDue) ∧
        (s0.signatureOk l h sig = false → noRetry l → loadEnds s0 t l C.CFG_AUTH_FAIL 2 0 (h.totalLen - 96))) ∧
    (s.imagePart l (h.totalLen - 96) 96 st.toNat bytes = none → exec (.signatureCheck bytes st) s = .next s)) ∧
  (∀ s : State, s.fckOn = true → exec .fckEdge s = .next s.siteAnswers.fckEdge.commitDue) ∧
  (∀ (l : CfgLoad) (h : CfgHdr) (d : List Byte) (s : State), s.regsWf → s.cfg.load = some l → l.hdr = some h → l.commit = some d → loadInRange l →
    s.commitDue.cfg.load = none ∧ s.commitDue.cfg.committed = some (s.tick, l.regions) ∧ s.commitDue.fld F.CFG_STAT.STATUS = 0 ∧
    s.commitDue.bit F.CFG_STAT.GOLDEN = l.golden ∧
    (∀ g ∈ l.regions, g ≠ 0 → s.commitDue.rgnState g = 2 ∧ s.commitDue.bit (F.FAB_RGN_DESC.FAILED g) = false) ∧
    (s.dev = .ready → s.commitDue.dev = .loaded) ∧ s.commitDue.mem = s.mem) ∧
  (∀ (l : CfgLoad) (s : State), s.regsWf → s.cfg.load = some l → l.waits = true → noRetry l → l.chained = false → s.cfg.chain = none → loadInRange l →
    ∃ t, exec .cfgStallTimeout s = .next t ∧ loadEnds s t l C.CFG_TRUNCATED 0 0 (s.received l))

/-- Each frame of a bitstream writes what its type says and is taken from the load; a frame that its check refuses, or that is malformed, ends the load
with the check's code; a context that R82 protects is not written (R82, R83, R403 to R407, R413, R414).
It also rests on choices of the model: log entries 63, 64, 123. -/
def Obligations.FramesAreAppliedOrEndTheLoad : Prop :=
  (∀ (l : CfgLoad) (h : CfgHdr) (b : List Byte) (s : State), s.regsWf → nextFrame s l h 1 0 b → s.checkMap l h 0 b = none → s.frameWaits 1 0 b = [] →
    ∃ t l', exec .regionMap s = .next t ∧ (∀ i < 256, t.fld (F.FAB_RGN_MAP.REGION i) = (b.getD i 0).toNat) ∧
      (∀ x < 128, t.fld (F.FAB_RGN_XMAP.REGION x) = (b.getD (256 + x) 0).toNat) ∧ t.cfg.load = some l' ∧ l'.mapSeen = true ∧
      l'.regions = (if h.kind = 1 then mapNamed b else l.regions.filter (mapNamed b).contains) ∧ l'.frames = l.frames + 1 ∧
      (∀ g < 64, g ∉ mapNamed b → t.rgnState g = 0)) ∧
  (∀ (l : CfgLoad) (h : CfgHdr) (tgt : Nat) (b : List Byte) (s : State), s.regsWf → nextFrame s l h 2 tgt b →
    (s.checkDesc l h tgt b = none → (∀ n < 16, (s.getPsq n).sealFlag = false) →
      ∃ t, exec .regionDesc s = .next t ∧ t.rgnSite tgt = numAt b 0 1 ∧ t.fld (F.FAB_RGN_DESC.BPOL tgt) = numAt b 1 1 % 2 ∧
        t.reg (R.FAB_RGN_BCONST tgt) = BitVec.ofNat 64 (numAt b 4 4) ∧ t.cfg = { s.cfg with load := some (took l b), waits := [] } ∧
        t = { s with regs := t.regs, cfg := t.cfg } ∧ regsBut s t [R.FAB_RGN_DESC tgt, R.FAB_RGN_BCONST tgt]) ∧
    (∀ code, s.checkDesc l h tgt b = some code → loadInRange l → noRetry l →
      ∃ t, exec .regionDesc s = .next t ∧ frameEnds s t l code 2)) ∧
  (∀ (l : CfgLoad) (h : CfgHdr) (tgt : Nat) (b : List Byte) (s : State), s.regsWf → nextFrame s l h 3 tgt b → s.frameWaits 3 tgt b = [] →
    (s.checkCellWords l h tgt b = none → noLiveWrite s (posOfSlot (tgt % 4096)) (tgt / 2 ^ 16 % 16) (tgt / 2 ^ 24 % 16) →
      (tgt % 4096 < 2560 → s.fld (F.FAB_CL_STAT.U_STATE (clusterOf (tgt % 4096 % 64) (tgt % 4096 / 64))) = 0) →
      ∃ t, exec .cellWords s = .next t ∧ (∀ i < tgt / 2 ^ 24 % 16,
          (numAt b (8 * i) 8 ≠ 0 → t.storeWord (tgt % 4096) (tgt / 2 ^ 16 % 16 + i) = BitVec.ofNat 64 (numAt b (8 * i) 8)) ∧
          (tgt / 2 ^ 16 % 16 + i < 8 → t.loadedFlag (tgt % 4096) (tgt / 2 ^ 16 % 16 + i) = true)) ∧
        t.cfg = { s.cfg with load := some (took l b), waits := [] } ∧ t = { s with fab := t.fab, cfg := t.cfg } ∧ t.fab.cells = s.fab.cells) ∧
    (s.checkCellWords l h tgt b = none → tgt / 2 ^ 24 % 16 = 1 → tgt / 2 ^ 16 % 16 < 8 →
      s.liveWrite (posOfSlot (tgt % 4096)) (tgt / 2 ^ 16 % 16) = true →
      (tgt % 4096 < 2560 → s.fld (F.FAB_CL_STAT.U_STATE (clusterOf (tgt % 4096 % 64) (tgt % 4096 / 64))) = 0) →
      ∃ t, exec .cellWords s = .next t ∧ t.fab = s.fab ∧ t.cfg = { s.cfg with load := some (took l b), waits := [] } ∧
        logs s t C.FAB_CTX_LIVE_WRITE (srcSlot (s.driver (posOfSlot (tgt % 4096)))) (s.activeCtx (posOfSlot (tgt % 4096))) ∧
        t = { s with err := t.err, cfg := t.cfg }) ∧
    (∀ code, s.checkCellWords l h tgt b = some code → loadInRange l → noRetry l →
      ∃ t, exec .cellWords s = .next t ∧ frameEnds s t l code 3)) ∧
  (∀ (l : CfgLoad) (h : CfgHdr) (tgt : Nat) (b : List Byte) (s : State), nextFrame s l h 4 tgt b → s.frameWaits 4 tgt b = [] →
    s.checkRoutes l h tgt b = none → noLiveWrite s (posOfSlot (tgt % 4096)) (tgt / 2 ^ 16 % 8) (tgt / 2 ^ 20 % 16) →
    ∃ t, exec .routeWords s = .next t ∧ (∀ i < tgt / 2 ^ 20 % 16, ∀ j < 3, BitVec.ofNat 64 (numAt b (24 * i + 8 * j) 8) ≠ (0 : Wide) →
        t.routeThird (posOfSlot (tgt % 4096)) (tgt / 2 ^ 16 % 8 + i) j = BitVec.ofNat 64 (numAt b (24 * i + 8 * j) 8)) ∧
      t.cfg = { s.cfg with load := some (took l b), waits := [] } ∧ t = { s with fab := t.fab, cfg := t.cfg } ∧ t.fab.cells = s.fab.cells ∧
      t.fab.store = s.fab.store) ∧
  (∀ (l : CfgLoad) (h : CfgHdr) (tgt : Nat) (b : List Byte) (s : State), nextFrame s l h 5 tgt b → s.frameWaits 5 tgt b = [] →
    s.checkMcell l h tgt b = none →
    ∃ t, exec .mcellInit s = .next t ∧ (∀ i < b.length / 4, numAt b (4 * i) 4 ≠ 0 →
        t.mword (clusterOf (tgt % 4096 % 64) (tgt % 4096 / 64)) (s.physWord (clusterOf (tgt % 4096 % 64) (tgt % 4096 / 64)) (tgt / 2 ^ 16 + i)) =
          mkWord (BitVec.ofNat 32 (numAt b (4 * i) 4)) false) ∧
      t.cfg = { s.cfg with load := some (took l b), waits := [] } ∧ t = { s with fab := { s.fab with marr := t.fab.marr }, cfg := t.cfg }) ∧
  (∀ (l : CfgLoad) (h : CfgHdr) (tgt : Nat) (b : List Byte) (s : State), s.regsWf → mwf (fun _ => Psq.reset) s.psq = true → nextFrame s l h 6 tgt b →
    s.checkImem l h tgt b = none →
    ∃ t l', exec .psqImem s = .next t ∧ (t.getPsq (tgt % 16)).exec = .stop ∧
      (t.getPsq (tgt % 16)).imem = putWords (tgt / 2 ^ 16) (bytesToWords b) (s.getPsq (tgt % 16)).imem ∧ t.cfg.load = some l' ∧
      (∀ p < 16, tgt / 2 ^ 16 / 4096 ≤ p → p ≤ (tgt / 2 ^ 16 + b.length / 4 - 1) / 4096 →
        t.fld (pageFld (tgt % 16) p) = 0 ∧ (tgt % 16, p) ∈ l'.pages) ∧ (∀ m, m ≠ tgt % 16 → t.getPsq m = s.getPsq m)) ∧
  (∀ (l : CfgLoad) (h : CfgHdr) (n : Nat) (b : List Byte) (s : State), mwf (fun _ => Psq.reset) s.psq = true → nextFrame s l h 7 n b →
    s.checkPsqConfig l h n b = none →
    ∃ t l', exec .psqConfig s = .next t ∧ (t.getPsq n).exec = .stop ∧ t.cfg.load = some l' ∧ (n, b) ∈ l'.psqCfg ∧
      t = { s with psq := t.psq, cfg := t.cfg }) ∧
  (∀ (l : CfgLoad) (h : CfgHdr) (b : List Byte) (s : State), nextFrame s l h 8 0 b → s.checkSliceSite l h 0 b = none →
    ∃ t, exec .sliceSite s = .next t ∧ t.cfg = { s.cfg with load := some { took l b with siteMap := some b }, waits := [] } ∧ t = { s with cfg := t.cfg }) ∧
  (∀ (l : CfgLoad) (h : CfgHdr) (k : Nat) (b : List Byte) (s : State), nextFrame s l h 9 k b → s.checkInit l h k b = none →
    s.frameWaits 9 k b = [] →
    ∃ t, exec .initState s = .next t ∧ t.fab = (s.applyInit h k b).fab ∧
      (slotType k = .a → t.fab.cells = (s.setCell (s.driver (posOfSlot k)) { s.cell (s.driver (posOfSlot k)) with
        q := qwordWord (numAt b 8 8), l0 := qwordWord (numAt b 16 8), l1 := qwordWord (numAt b 24 8), l2 := qwordWord (numAt b 32 8),
        l3 := qwordWord (numAt b 40 8), acc := qwordWord (numAt b 48 8), cy := bitOf (numAt b 0 8) 7 }).fab.cells) ∧
      (slotType k = .b → t.fab.cells = (s.setCell (s.driver (posOfSlot k)) { s.cell (s.driver (posOfSlot k)) with
        q := qwordWord (numAt b 8 8), l0 := qwordWord (numAt b 16 8), l1 := qwordWord (numAt b 24 8), l2 := qwordWord (numAt b 32 8),
        l3 := qwordWord (numAt b 40 8), sync := qwordWord (numAt b 48 8), w := BitVec.ofNat 64 (numAt b 56 8), wv := bitOf (numAt b 0 8) 19,
        ws := bitOf (numAt b 0 8) 20 }).fab.cells) ∧
      (slotType k = .x → (t.xsBuf (k - 2816)).rd = numAt b 56 8 % 2 ^ 10 ∧ (t.xsBuf (k - 2816)).wr = numAt b 56 8 / 2 ^ 10 % 2 ^ 10 ∧
        (t.xsBuf (k - 2816)).words.length = min 1024 (numAt b 56 8 / 2 ^ 20 % 2 ^ 11)) ∧
      t = { s with fab := t.fab, cfg := { s.cfg with load := some (took l b), waits := [] } }) ∧
  (∀ (l : CfgLoad) (h : CfgHdr) (s : State), nextFrame s l h 15 0 [] →
    ∃ t, exec .frameEnd s = .next t ∧ t.cfg = { s.cfg with load := some { took l [] with ended := true }, waits := [] } ∧ t = { s with cfg := t.cfg }) ∧
  (∀ (l : CfgLoad) (h : CfgHdr) (s : State), s.regsWf → s.cfg.load = some l → l.hdr = some h → l.ended = false → l.headBad h = true → loadInRange l →
    noRetry l → ∃ t, exec .frameEnd s = .next t ∧ loadEnds s t l C.CFG_FORMAT 0 (numAt l.plain 0 2) l.consumed)

/-- The configuration port's commands, the end of a chain stream and CFG_CHAIN; the bytes that the port takes spell its commands: whatever stands before a complete
sync sequence, and a command of an unknown opcode, is discarded, and the operands of LOAD and READBACK are read least significant byte first (R419 to R426, R431).
It also rests on choices of the model: log entries 61, 62. -/
def Obligations.ConfigurationPortAndChain : Prop :=
  (∀ (len : Word) (s : State), s.regsWf → s.portReady = true → s.loadBarred = none →
    ∃ t l, exec (.portLoad false len) s = .next t ∧ t.cfg = { s.cfg with load := some l, port := some (.load len.toNat) } ∧ l.req = none ∧ l.src = 2 ∧
      l.avail = some len.toNat ∧ l.hdr = none ∧ t.fld F.CFG_STAT.STATE = 1 ∧ t.fld F.CFG_STAT.SRC = 2 ∧
      t = { s.cfgAnswers with regs := t.regs, cfg := t.cfg } ∧ regsBut s t [R.CFG_STAT]) ∧
  (∀ s : State, s.bit F.CFG_PORT_CTRL.EN = true → (∀ len, s.cfg.port ≠ some (.load len)) → s.portReady = true) ∧
  (∀ s : State, s.bit F.CFG_PORT_CTRL.EN = false → s.portReady = false ∧ s.portDelivers = false) ∧
  (∀ s : State, s.portReady = true →
    ∃ t, exec .portStatus s = .next t ∧ t.cfg = { s.cfg with port := some (.words [(s.reg R.CFG_STAT).setWidth 32]) } ∧ t = { s with cfg := t.cfg }) ∧
  (∀ (addr count : Word) (s : State), s.portReady = true → s.allows .host .readBack = false →
    ∃ t, exec (.readback addr count) s = .next t ∧ t.cfg = { s.cfg with port := some (.words (List.replicate count.toNat 0)) } ∧
      logs s t C.STATE_REFUSED (srcRequester .host) R.FAB_RB_DATA ∧ t = { s with cfg := t.cfg, err := t.err }) ∧
  (∀ (addr count : Word) (s : State), s.portReady = true → s.allows .host .readBack = true → s.bit F.CFG_PORT_CTRL.RB_EN = false →
    ∃ t, exec (.readback addr count) s = .next t ∧ t.cfg = { s.cfg with port := some (.words (List.replicate count.toNat 0)) } ∧
      t = { s with cfg := t.cfg }) ∧
  (∀ (addr : Word) (s u : State), s.regsWf → s.portReady = true → s.bit F.CFG_PORT_CTRL.RB_EN = true → s.bist.slices = [] → s.bist.held = [] →
    s.allows .host .readBack = true → s.readBackOk = true → u = s.writePlain R.FAB_RB_ADDR (addr.setWidth 64) (maskBits 0 32) →
    ∃ t, exec (.readback addr 1) s = .next t ∧ t.reg R.FAB_RB_ADDR = s.reg R.FAB_RB_ADDR ∧ t.rdata = s.rdata ∧
      t.cfg = { s.cfg with port := some (.words [BitVec.ofNat 32
        (u.readBack (u.fld F.FAB_RB_ADDR.SPACE) (u.fld F.FAB_RB_ADDR.SLOT) (u.fld F.FAB_RB_ADDR.WORD))]) }) ∧
  (∀ s : State, exec .cfgCsNRaise s = .next { s with cfg := { s.cfg with port := none } }) ∧
  (∀ s : State, s.portReady = false → exec .portStatus s = .next s ∧ exec .portAbort s = .next s ∧
    (∀ c n, exec (.portLoad c n) s = .next s) ∧ ∀ a n, exec (.readback a n) s = .next s) ∧
  (∀ (bs b : List Byte) (st : Half) (c : CfgChain) (s s0 : State), s.regsWf → s.cfg.chain = some c → s.cfg.load = none → c.left = 0 → c.src < 2 →
    shortOf c.avail 16 = false → s.srcRead c.src c.base 16 st.toNat bs = (0, b, s0) → b.length = 16 → b.take 4 = [0x55, 0x4D, 0x43, 0x45] →
    s.bit F.CFG_CHAIN.DN_EN = false →
    ∃ t, exec (.endOfChain bs st) s = .next t ∧ t.cfg = { s.cfg with chain := none, inbuf := [], deaf := false } ∧ t.bit F.CFG_STAT.CHAIN = false ∧
      t.fld F.CFG_STAT.STATE = 0 ∧ regsBut s t [R.CFG_STAT]) ∧
  (∀ (req : Requester) (v : Word) (s : State), s.regsWf →
    (s.bit F.CFG_STAT.CHAIN = false →
      ∃ t, exec (.cfgChainWrite req v) s = .next t ∧ t.bit F.CFG_CHAIN.DN_EN = v.getLsbD F.CFG_CHAIN.DN_EN.lo ∧ onlyRegs s t [R.CFG_CHAIN]) ∧
    (s.bit F.CFG_STAT.CHAIN = true →
      ∃ t, exec (.cfgChainWrite req v) s = .next t ∧ logs s t C.STATE_REFUSED (srcRequester req) R.CFG_CHAIN ∧ onlyRegsLog s t [])) ∧
  (∀ (pre : List Byte) (f l0 l1 l2 l3 : Byte) (rest : List Byte), (∀ b ∈ pre, b ≠ 0x5A) →
    portCommand (pre ++ [0x5A, 0x3C, 0x88, 0x40, 0x10, f, l0, l1, l2, l3] ++ rest) = some (.portLoad (f.getLsbD 0) (l3 ++ l2 ++ l1 ++ l0))) ∧
  (∀ (pre : List Byte) (a0 a1 a2 a3 c0 c1 c2 c3 : Byte) (rest : List Byte), (∀ b ∈ pre, b ≠ 0x5A) →
    portCommand (pre ++ [0x5A, 0x3C, 0x88, 0x40, 0x20, a0, a1, a2, a3, c0, c1, c2, c3] ++ rest) =
      some (.readback (a3 ++ a2 ++ a1 ++ a0) (c3 ++ c2 ++ c1 ++ c0))) ∧
  (∀ (pre rest : List Byte), (∀ b ∈ pre, b ≠ 0x5A) →
    portCommand (pre ++ [0x5A, 0x3C, 0x88, 0x40, 0x30] ++ rest) = some .portStatus ∧
    portCommand (pre ++ [0x5A, 0x3C, 0x88, 0x40, 0x40] ++ rest) = some .portAbort) ∧
  (∀ (o : Byte) (rest : List Byte), o ∉ ([0x10, 0x20, 0x30, 0x40] : List Byte) →
    portCommand ([0x5A, 0x3C, 0x88, 0x40, o] ++ rest) = portCommand (o :: rest)) ∧
  (∀ pre : List Byte, (∀ b ∈ pre, b ≠ 0x5A) → portCommand pre = none)
namespace Sys2Proof.Claims

/-- What every reset clears is as after power-on in `t`: sites, fabric, slices, queues, engines and the frame tick (R16, R433). -/
def cleared (t : State) : Prop :=
  t.psq = [] ∧ t.fab = FabState.reset ∧ t.slices = [] ∧ t.queues = [] ∧ t.streams = [] ∧ t.slv = SlvState.reset ∧ t.tick = 0

/-- The attempt that a reset has begun in `t` has CAUSE `c` and the next number after that of `s`: the device is in BOOT, or in Twilight mode when FAILS
is 3 or more (R433, R439); a critical fuse field that is uncorrectable keeps it at stage 1 with BOOT_FUSE_ERR (R444). -/
def attempt (s t : State) (c : Nat) : Prop :=
  t.sec.seq = s.sec.seq + 1 ∧ t.sec.cause = c ∧ t.sec.slot = 0xFF ∧
  (if t.sec.fuseBad then t.dev = .boot ∧ t.fld F.SEC_BOOT_STAT.STAGE = 1 ∧ t.sec.fwBad = some (C.BOOT_FUSE_ERR, 0)
    else t.dev = (if 3 ≤ t.fld F.SEC_BOOT_STAT.FAILS then .twilight else .boot) ∧ t.sec.fwBad = none)

/-- The mailbox takes command `op` with `arg` and is BUSY; the command waits for its completion (R442). -/
def mboxTakes (s : State) (op arg : Nat) (o : Host.Outcome State Fault Refusal) : Prop :=
  ∃ t m, o = .next t ∧ t.sec.mbox = some m ∧ m.op = op ∧ m.arg = arg ∧ m.addr = s.fld F.SEC_MBOX_ADDR.ADDR * 64 ∧
    m.len = s.fld F.SEC_MBOX_LEN.BYTES ∧ m.tick = s.tick ∧ t.bit F.SEC_MBOX_STAT.BUSY = true ∧ t.fld F.SEC_MBOX_CMD.OP = op ∧
    t = { s with regs := t.regs, sec := { s.sec with mbox := some m } } ∧ regsBut s t [R.SEC_MBOX_CMD, R.SEC_MBOX_STAT]

/-- What the mailbox asks before it takes a command. -/
abbrev mboxReady (s : State) (op arg : Nat) : Prop :=
  s.bit F.SEC_MBOX_STAT.BUSY = false ∧ s.mboxOpen op arg = true ∧
  s.mboxBad op arg (s.fld F.SEC_MBOX_LEN.BYTES) (s.fld F.SEC_MBOX_ADDR.ADDR * 64) = false

end Sys2Proof.Claims

/-- Start attempts: power-up, power-on and warm resets begin one, the watchdog and a declared failure end one with its record and begin the next, the
third failure leads to Twilight mode, and an attempt that passes its stages reaches READY (R433 to R439).
It also rests on choices of the model: log entries 56, 66, 67, 68, 71, 137, 144. -/
def Obligations.StartAttempts : Prop :=
  (∀ (kcv : Bool) (f : FuseSense) (a b : FwRead) (s : State), s.regsWf → s.dev = .off → s.sec.vbatEvents = 0 →
    ∃ t, exec (.powerUp kcv false f a b) s = .next t ∧ t.dev = .boot ∧ t.sec.seq = 1 ∧ t.sec.cause = 0 ∧ t.fld F.SEC_BOOT_STAT.FAILS = 0 ∧
      t.sec.fuseBad = (f.critical || s.sec.fuseCut) ∧ (t.sec.fuseBad = true → t.sec.fwBad = some (C.BOOT_FUSE_ERR, 0)) ∧ cleared t) ∧
  (∀ (m : Bool) (s : State), s.regsWf → s.dev ≠ .off →
    ∃ t, exec (.pd00PowerLoss m) s = .next t ∧ t.dev = .off ∧ t.fld F.PWR_DOM_STAT.ON = 0 ∧ t.bist.blow = [] ∧ cleared t) ∧
  (∀ (f : FuseSense) (s : State), s.regsWf → s.dev ≠ .off → s.dev ≠ .boot → s.sec.testHold = false →
    ∃ t, exec (.porNRelease f) s = .next t ∧ attempt s t 1 ∧ t.sec.fuseBad = (f.critical || s.sec.fuseCut) ∧ t.fld F.SEC_BOOT_STAT.FAILS = s.fld F.SEC_BOOT_STAT.FAILS ∧ cleared t) ∧
  (∀ (f : FuseSense) (s : State), s.regsWf → s.dev ≠ .off → s.sec.testHold = true →
    ∃ t, exec (.porNRelease f) s = .next t ∧ t.sec.testHold = true ∧ t.sec.cause = 1 ∧ t.dev = .boot ∧ t.jtag = s.jtag ∧ cleared t) ∧
  (∀ s : State, s.regsWf → s.dev ≠ .off → s.dev ≠ .boot → s.sec.testHold = false →
    ∃ t, exec .wrstNRelease s = .next t ∧ attempt s t 2 ∧ t.sec.fuseBad = s.sec.fuseBad ∧ t.fld F.SEC_BOOT_STAT.FAILS = s.fld F.SEC_BOOT_STAT.FAILS ∧ cleared t ∧
      (t.dev = .boot → t.mem = s.mem ∧ ∀ c < 8, s.chanState c = 2 → t.chanState c = 3 ∧ t.bit (F.MEMC_STAT.RETAINED c) = true) ∧
      (t.dev = .twilight → t.mem = [] ∧ ∀ c < 8, t.chanState c = 0)) ∧
  (∀ s : State, s.regsWf → s.dev = .boot → s.sec.testHold = false → s.bit F.SEC_BOOT_CFG.WDT_EN = true →
    ∃ t, exec .bootWdtExpired s = .next t ∧ attempt s t 3 ∧ t.fld F.SEC_BOOT_STAT.FAILS = min (s.fld F.SEC_BOOT_STAT.FAILS + 1) 15 ∧
      t.fld F.SEC_BOOT_STAT.LAST_CODE = C.BOOT_WDT_EXPIRED ∧ cleared t ∧ t.mem = (if t.dev = .boot then s.mem else [])) ∧
  (∀ (code : Half) (stage : Fin 8) (detail : Word) (b : Bool) (s : State), s.regsWf → s.dev = .boot → s.sec.testHold = false → s.sec.fwBad = none →
    code ≠ 0 →
    ∃ t, exec (.firmwareFailureReset code stage detail b) s = .next t ∧ attempt s t 4 ∧
      t.fld F.SEC_BOOT_STAT.FAILS = min (s.fld F.SEC_BOOT_STAT.FAILS + 1) 15 ∧ t.fld F.SEC_BOOT_STAT.LAST_CODE = code.toNat ∧ cleared t) ∧
  (∀ (a b : FwRead) (x : SelfTest) (s : State), s.regsWf → s.dev = .boot → s.sec.testHold = false → s.sec.fwBad = none → s.sec.slot ≠ 0xFF →
    s.startLedger = none → (∀ c < 8, s.chanState c = 2) → x.tck.fails = [] → x.tck.complete = true →
    ∃ t, exec (.bootReady a b x) s = .next t ∧ t.dev = .ready ∧ t.fld F.SEC_BOOT_STAT.FAILS = 0 ∧ t.fld F.SEC_BOOT_STAT.STAGE = 8 ∧ t.fckOn = true) ∧
  (∀ (a b : FwRead) (x : SelfTest) (s : State), s.regsWf → s.dev = .boot → s.sec.testHold = false → s.sec.fwBad = none → s.sec.slot ≠ 0xFF →
    s.startLedger = none → (∀ c < 8, s.chanState c = 2) → x.tck.fails ≠ [] →
    ∃ t, exec (.bootReady a b x) s = .next t ∧ attempt s t 4 ∧ t.fld F.SEC_BOOT_STAT.LAST_CODE = C.BIST_STARTUP_FAIL) ∧
  (∀ (a b : FwRead) (x : SelfTest) (s : State), s.regsWf → s.dev = .boot → s.sec.testHold = false → s.sec.fwBad = none → s.sec.slot ≠ 0xFF →
    (∃ c < 8, s.chanState c = 4) →
    ∃ t, exec (.bootReady a b x) s = .next t ∧ attempt s t 4 ∧ t.fld F.SEC_BOOT_STAT.LAST_CODE = C.MEM_TRAIN_FAIL ∧ cleared t) ∧
  (∀ (a b : FwRead) (x : SelfTest) (s : State), s.regsWf → s.dev = .boot → s.sec.testHold = false → s.sec.fwBad = none → s.sec.slot ≠ 0xFF →
    (∀ c < 8, s.chanState c ≠ 4) → (∃ c < 8, s.chanState c ≠ 2) →
    ∃ t, exec (.bootReady a b x) s = .next t ∧ t.dev = .boot ∧ t.sec = s.sec ∧ t.fckOn = s.fckOn ∧
      (s.fld F.SEC_BOOT_STAT.STAGE = 5 → t.fld F.SEC_BOOT_STAT.STAGE = 6 ∧ ∀ c < 8, t.chanState c ≠ 0)) ∧
  (∀ (a b : FwRead) (x : SelfTest) (s : State), s.regsWf → s.dev = .boot → s.sec.testHold = false → s.sec.fwBad = none → s.sec.slot = 0xFF →
    (∃ ca cb, s.slotCode false a = some ca ∧ s.slotCode true b = some cb ∧
      ∃ t, exec (.bootReady a b x) s = .next t ∧ t.dev = .boot ∧ t.sec.fwBad = some (cb, ca) ∧ t.sec.slot = 1 ∧
        t.fld F.SEC_BOOT_STAT.STAGE = (if cb = C.BOOT_FLASH_ERR then 3 else 4)) ∨
    (∃ slotB : Bool, s.slotCode slotB (if slotB then b else a) = none ∧ (slotB = true → s.slotCode false a ≠ none) ∧
      s.imageCheck a b = ({ s.romStart.powers [1, 2, 3, 18, 22, 23] with hif := { s.hif with retry := false } } : State).acceptFw (b2n slotB) (s.slotImage slotB)
        (Config.sha384 ((s.slotImage slotB).take (128 + numAt (s.slotImage slotB) 16 4))))) ∧
  (∀ (a b : FwRead) (x : SelfTest) (s : State), s.dev ≠ .boot → exec (.bootReady a b x) s = .next s ∧ exec .bootWdtExpired s = .next s)

/-- The security mailbox takes each of its commands in the states that R442 names, refuses them in the others, and ends the one in progress with what
it does (R440, R442, R445, R446, R448).
It also rests on choices of the model: log entries 11, 69, 139. -/
def Obligations.SecurityMailbox : Prop :=
  (∀ (req : Requester) (s : State), s.regsWf →
    (mboxReady s 1 0 → mboxTakes s 1 0 (exec (.quote req) s)) ∧ (mboxReady s 2 0 → mboxTakes s 2 0 (exec (.readLog req) s)) ∧
    (mboxReady s 3 0 → mboxTakes s 3 0 (exec (.readIdkey req) s)) ∧ (mboxReady s 4 0 → mboxTakes s 4 0 (exec (.bootHost req) s)) ∧
    (mboxReady s 6 0 → mboxTakes s 6 0 (exec (.enrolOwner req) s)) ∧ (mboxReady s 7 0 → mboxTakes s 7 0 (exec (.rotateOwner req) s)) ∧
    (∀ k : Byte, (mboxReady s 8 k.toNat → mboxTakes s 8 k.toNat (exec (.provisionKey req k) s)) ∧
      (mboxReady s 9 k.toNat → mboxTakes s 9 k.toNat (exec (.revokeKey req k) s)) ∧
      (mboxReady s 10 k.toNat → mboxTakes s 10 k.toNat (exec (.lock req k) s))) ∧
    (mboxReady s 11 0 → mboxTakes s 11 0 (exec (.loadModule req) s)) ∧ (mboxReady s 12 0 → mboxTakes s 12 0 (exec (.zeroize req) s)) ∧
    (mboxReady s 5 0 → ∃ t, exec (.retry req) s = .next t ∧ attempt s t 5 ∧ t.fld F.SEC_BOOT_STAT.FAILS = 0 ∧ t.dev = .boot ∧ cleared t)) ∧
  (∀ (req : Requester) (s : State), s.regsWf → s.bit F.SEC_MBOX_STAT.BUSY = true →
    ∃ t, exec (.zeroize req) s = .next t ∧ logs s t C.STATE_REFUSED (srcRequester req) (R.SEC_MBOX_CMD + 12 * 2 ^ 32) ∧ onlyRegsLog s t []) ∧
  (∀ (req : Requester) (s : State), s.regsWf → s.bit F.SEC_MBOX_STAT.BUSY = false → s.mboxOpen 4 0 = false →
    ∃ t, exec (.bootHost req) s = .next t ∧ t.fld F.SEC_MBOX_STAT.STATUS = C.STATE_REFUSED ∧
      logs s t C.STATE_REFUSED (srcRequester req) (R.SEC_MBOX_CMD + 4 * 2 ^ 32) ∧ onlyRegsLog s t [R.SEC_MBOX_CMD, R.SEC_MBOX_STAT]) ∧
  (∀ (wst : Half) (blow : Bool) (m : MboxCmd) (s : State), s.regsWf → s.sec.mbox = some m → s.dev ≠ .boot → m.op = 12 →
    ∃ t, exec (.secMboxComplete 0 wst blow) s = .next t ∧ t.fld F.SEC_KEY_STAT.BBK = 3 ∧ t.bit F.SEC_MBOX_STAT.BUSY = false ∧
      t.fld F.SEC_MBOX_STAT.STATUS = 0 ∧ t.sec.mbox = none ∧ t = { s with regs := t.regs, free := t.free, sec := { s.sec with mbox := none, keys := mset (fun _ => 0) 2 0 s.sec.keys, bbKcv := none } } ∧
      regsBut s t [R.SEC_KEY_STAT, R.SEC_MBOX_STAT, R.SEC_MBOX_LEN]) ∧
  (∀ (blow : Bool) (m : MboxCmd) (s : State), s.regsWf → s.sec.mbox = some m → s.dev ≠ .boot → m.op = 2 → s.sec.log.take (m.len / 96) ≠ [] →
    (s.sec.log.take (m.len / 96)).flatten ≠ [] → memCheck s s.mboxNi m.addr (s.sec.log.take (m.len / 96)).flatten.length true = 0 →
    ∃ t, exec (.secMboxComplete 0 0 blow) s = .next t ∧ wroteAt s t s.mboxNi m.addr (s.sec.log.take (m.len / 96)).flatten ∧
      t.bit F.SEC_MBOX_STAT.BUSY = false ∧ t.fld F.SEC_MBOX_STAT.STATUS = 0 ∧ t.sec = { s.sec with mbox := none }) ∧
  (∀ (wst : Half) (m : MboxCmd) (s : State), s.regsWf → s.sec.mbox = some m → s.dev ≠ .boot → m.op = 6 → memCheck s s.mboxNi m.addr 192 false = 0 →
    s.bit F.SEC_FUSE_STAT.ENROL_LOCK = false → s.fld F.SEC_FUSE_STAT.OWNER0 = 0 →
    ∃ t, exec (.secMboxComplete 0 wst true) s = .next t ∧
      (s.enrolSigned 0 (s.dpaBytes m.addr 192) = true → t.fld F.SEC_FUSE_STAT.OWNER0 = 1 ∧ t.fld F.SEC_MBOX_STAT.STATUS = 0 ∧
        t.sec.keys = mset (fun _ => 0) 3 (ofLeBytes ((s.dpaBytes m.addr 192).take 96)) s.sec.keys ∧ t.sec.index = s.sec.index + 1) ∧
      (s.enrolSigned 0 (s.dpaBytes m.addr 192) = false → t.fld F.SEC_FUSE_STAT.OWNER0 = 0 ∧ t.fld F.SEC_MBOX_STAT.STATUS = C.SEC_ENROL_FAIL ∧
        logs s t C.SEC_ENROL_FAIL m.source 0 ∧ t.sec = { s.sec with mbox := none })) ∧
  (∀ (wst : Half) (m : MboxCmd) (s : State), s.regsWf → s.sec.mbox = some m → s.dev ≠ .boot → m.op = 10 →
    ∃ t, exec (.secMboxComplete 0 wst true) s = .next t ∧ t.bit F.SEC_FUSE_STAT.PROV_LOCK = (bitOf m.arg 0 || s.bit F.SEC_FUSE_STAT.PROV_LOCK) ∧
      t.bit F.SEC_FUSE_STAT.JTAG_LOCK = (bitOf m.arg 1 || s.bit F.SEC_FUSE_STAT.JTAG_LOCK) ∧
      t.bit F.SEC_FUSE_STAT.ENROL_LOCK = (bitOf m.arg 2 || s.bit F.SEC_FUSE_STAT.ENROL_LOCK) ∧ t.fld F.SEC_MBOX_STAT.STATUS = 0 ∧
      t = { s with regs := t.regs, free := t.free, sec := { s.sec with mbox := none } } ∧ regsBut s t [R.SEC_FUSE_STAT, R.SEC_MBOX_STAT, R.SEC_MBOX_LEN]) ∧
  (∀ (blow : Bool) (m : MboxCmd) (s : State), s.regsWf → s.sec.mbox = some m → s.dev ≠ .boot → m.op = 3 →
    memCheck s s.mboxNi m.addr 96 true = 0 →
    ∃ t, exec (.secMboxComplete 0 0 blow) s = .next t ∧ wroteAt s t s.mboxNi m.addr (leBytes 96 (Config.idKey s.identityKey).toNat) ∧
      t.fld F.SEC_MBOX_LEN.BYTES = 96 ∧ t.fld F.SEC_MBOX_STAT.STATUS = 0 ∧ t.sec = { s.sec with mbox := none }) ∧
  (∀ (m : MboxCmd) (nonce : List Byte) (s : State), (s.quoteBytes m nonce).length = 256) ∧
  (∀ (wst : Half) (blow : Bool) (m : MboxCmd) (img : List Byte) (s : State), s.regsWf → s.sec.mbox = some m → s.dev ≠ .boot → m.op = 11 → m.len ≠ 0 →
    memCheck s s.mboxNi m.addr m.len false = 0 → img = s.dpaBytes m.addr m.len →
    s.fwBadHeader img 1 1 (512 * 1024) = false → 224 + numAt img 16 4 ≤ m.len →
    ∃ t, exec (.secMboxComplete 0 wst blow) s = .next t ∧ t.bit F.SEC_MBOX_STAT.BUSY = false ∧ t.sec.mbox = none ∧
      (s.ownerHashOk ((img.drop 48).take 48) = true → fwSigned (s.signerKey 1) img = true →
        t.sec.module_ = some ⟨numAt img 20 4, numAt img 24 4, (img.drop 128).take (numAt img 16 4)⟩ ∧ t.sec.index = s.sec.index + 1 ∧
        t.fld F.SEC_MBOX_STAT.STATUS = 0) ∧
      ((s.ownerHashOk ((img.drop 48).take 48) = false ∨ fwSigned (s.signerKey 1) img = false) →
        t.sec.module_ = s.sec.module_ ∧ t.fld F.SEC_MBOX_STAT.STATUS = C.SEC_MODULE_AUTH_FAIL)) ∧
  (∀ (wst : Half) (blow : Bool) (m : MboxCmd) (img : List Byte) (s : State), s.regsWf → s.sec.mbox = some m → s.dev = .twilight → m.op = 4 → m.len ≠ 0 →
    memCheck s s.mboxNi m.addr m.len false = 0 → img = s.dpaBytes m.addr m.len →
    224 + numAt img 16 4 ≤ m.len →
    ∃ t, exec (.secMboxComplete 0 wst blow) s = .next t ∧
      (s.fwCode img = none → t.dev = .boot ∧ t.sec.seq = s.sec.seq + 1 ∧ t.sec.cause = 9 ∧ t.sec.hostFw = true ∧ t.sec.slot = 2 ∧
        t.fld F.SEC_BOOT_STAT.STAGE = 5 ∧ t.fld F.SEC_MBOX_STAT.STATUS = 0 ∧ t.mem = s.mem) ∧
      (∀ c, s.fwCode img = some c → t.dev = .twilight ∧ t.fld F.SEC_MBOX_STAT.STATUS = c ∧ t.bit F.SEC_MBOX_STAT.BUSY = false ∧
        t.sec = { s.sec with mbox := none })) ∧
  (∀ (st wst : Half) (blow : Bool) (s : State), (s.sec.mbox = none ∨ s.dev = .boot) → exec (.secMboxComplete st wst blow) s = .next s)

/-- A tamper event clears the battery-backed key; a test-mode entry clears secrets and holds the reset until it ends, unless JTAG_LOCK is blown; the
boundary-scan instructions select their data register and drive the pins as R591 says (R451, R452, R455, R456, R591).
It also rests on choices of the model: log entries 70, 100. -/
def Obligations.TamperTestModeAndTap : Prop :=
  (∀ (pin : TamperPin) (s : State), s.regsWf → s.sec.tamperLow = false →
    (s.dev ≠ .off → s.bit F.SEC_TAMPER_CFG.FATAL = false →
      ∃ t, exec (.tamper pin) s = .next t ∧ t.fld F.SEC_KEY_STAT.BBK = 2 ∧ t.bit F.SEC_TAMPER_STAT.TAMPERED = true ∧
        t.fld F.SEC_TAMPER_STAT.COUNT = min (s.fld F.SEC_TAMPER_STAT.COUNT + 1) 0xFFFF ∧ t.sec.keys = mset (fun _ => 0) 2 0 s.sec.keys ∧
        (pin.keyStep = true → s.fld F.BIST_STAT.NF = 1 → t.bist.keyCut = true) ∧ t.sec.bbKcv = none ∧ t.sec.tamperLow = pin.low ∧ t.sec.index = s.sec.index + 1 ∧ logs s t C.SEC_TAMPER 0 0 ∧ t.dev = s.dev ∧ t.mem = s.mem) ∧
    (s.dev = .off → ∃ t, exec (.tamper pin) s = .next t ∧ t.fld F.SEC_KEY_STAT.BBK = 2 ∧ t.sec.vbatEvents = s.sec.vbatEvents + 1 ∧
      t.err = s.err)) ∧
  (∀ (ir : Byte) (blowOk mb : Bool) (s : State), s.regsWf → boundaryScan ir = false → s.dev ≠ .off →
    (s.bit F.SEC_FUSE_STAT.JTAG_LOCK = true →
      exec (.testModeEntry ir blowOk mb) s = .next { s with jtag := { s.jtag with ir := ir, irOut := 0x01, drive := .system, captured := [false] } }) ∧
    (s.bit F.SEC_FUSE_STAT.JTAG_LOCK = false → s.sec.testHold = false → s.bist.blow = [] → s.sec.mbox = none →
      ∃ t, exec (.testModeEntry ir blowOk mb) s = .next t ∧ t.dev = .boot ∧ t.sec.testHold = true ∧ t.sec.testRec = true ∧
        t.bit F.SEC_KEY_STAT.LOCKED = true ∧ t.bit F.SEC_TAMPER_STAT.TESTMODE_SEEN = true ∧ t.fld F.SEC_KEY_STAT.BBK = 3 ∧ cleared t)) ∧
  (∀ (trst : Bool) (ir : Byte) (s : State), s.regsWf → (trst = true ∨ boundaryScan ir = true) → s.sec.testHold = true →
    ∃ t, exec (.testModeExit trst ir) s = .next t ∧ attempt s t s.sec.cause ∧ t.sec.testHold = false ∧
      (trst = true → t.jtag = JtagState.reset) ∧
      (trst = false → t.jtag = { s.jtag with ir := ir, irOut := 0x01, drive := pinDrive ir, captured := t.jtag.captured } ∧
        ((ir = 0x05 ∨ ir = 0x06 ∨ ir = 0xFF) → t.jtag.captured = [false]) ∧ (ir = 0x01 → t.jtag.captured.length = 32))) ∧
  (∀ (pins data : List Bool) (s : State), s.dev ≠ .off → s.sec.testHold = false →
    exec .bypass s = .next { s with jtag := ⟨0xFF, 0x01, s.jtag.boundary, .system, [false]⟩ } ∧
    (∃ t, exec .idcode s = .next t ∧ t = { s with jtag := t.jtag } ∧ t.jtag.ir = 1 ∧ t.jtag.drive = .system ∧ t.jtag.captured.length = 32 ∧
      ∀ i < 32, t.jtag.captured[i]? = some (Nat.testBit 0x5884005F i)) ∧
    exec (.sample pins) s = .next { s with jtag := ⟨0x02, 0x01, s.jtag.boundary, .system, pins⟩ } ∧
    exec (.preload data) s = .next { s with jtag := ⟨0x03, 0x01, data, .system, s.jtag.captured⟩ } ∧
    exec (.extest pins) s = .next { s with jtag := ⟨0x00, 0x01, s.jtag.boundary, .boundary, pins⟩ } ∧
    exec .clamp s = .next { s with jtag := ⟨0x05, 0x01, s.jtag.boundary, .boundary, [false]⟩ } ∧
    exec .highz s = .next { s with jtag := ⟨0x06, 0x01, s.jtag.boundary, .highz, [false]⟩ } ∧
    exec (.extestPulse pins) s = .next { s with jtag := ⟨0x08, 0x01, s.jtag.boundary, .pulse, pins⟩ } ∧
    exec (.extestTrain pins) s = .next { s with jtag := ⟨0x09, 0x01, s.jtag.boundary, .train, pins⟩ }) ∧
  (∀ s : State, s.dev = .off → exec .idcode s = .next s ∧ exec .bypass s = .next s)
namespace Sys2Proof.Claims

/-- The oldest packet delivered is `k`, which came on port `p`. -/
abbrev gets (s : State) (p : Nat) (k : CscPkt) (rest : List (Nat × CscPkt)) : Prop := s.csc.inbox = (p, k) :: rest

/-- `s` without the packets delivered but for `rest`. -/
def withInbox (s : State) (rest : List (Nat × CscPkt)) : State := { s with csc := { s.csc with inbox := rest } }

end Sys2Proof.Claims

/-- A cascade port comes up and goes down; control blocks, packets with their acknowledgements, vote fields and holds on it do what R461, R465 to R468,
R476 and R482 to R488 say.
It also rests on choices of the model: log entries 77, 79, 81. -/
def Obligations.CascadePortsAndBlocks : Prop :=
  (∀ (p : Fin 8) (s : State), s.regsWf → bitOf (s.fld F.CSC_CFG.PORT_EN) p = true → bitOf (s.fld F.PWR_DOM_STAT.ON) 19 = true →
    (s.cport p).lanes = 15 → s.portUp p = false →
    ∃ t, exec (.cascadeLinkUp p) s = .next t ∧ t.portUp p = true ∧
      t.csc = (s.setCport p { CscPort.reset with lanes := 15 }).csc ∧ t = { s with regs := t.regs, csc := t.csc } ∧
      regsBut s t [R.CSC_PORT_STAT p]) ∧
  (∀ (p : Fin 8) (s : State), s.regsWf → s.portUp p = true → s.fld (F.CSC_PORT_STAT.USE p) = 0 → s.fld F.CSC_STAT.CSTATE ≠ 1 →
    (s.bit F.CSC_STAT.POLE = true → s.fld F.CSC_STAT.CSTATE ≠ 2 ∧ (s.cport p).cal = none) →
    ∃ t, exec (.cascadeLinkDown p) s = .next t ∧ t.fld (F.CSC_PORT_STAT.LSTATE p) = 3 ∧ logs s t C.CSC_LINK_DOWN (s.srcPort p) 0 ∧
      t.csc.ports = (s.setCport p CscPort.reset).csc.ports ∧ t.csc.inbox = s.csc.inbox.filter (fun e => e.1 != p.val) ∧
      t.noc = (s.endCascade (fun r => s.portTo (pooledPos r.addr) == some p.val) C.CSC_POOL_ABSENT []).noc ∧
      t = { s with regs := t.regs, csc := t.csc, noc := t.noc, err := t.err } ∧ regsBut s t [R.CSC_PORT_STAT p]) ∧
  (∀ (p : Fin 8) (s : State), s.regsWf → s.portUp p = true → s.fld (F.CSC_PORT_STAT.USE p) = 1 → s.fld F.CSC_STAT.CSTATE ≠ 1 →
    ∃ t, exec (.cascadeLinkDown p) s = .next t ∧ t.fld (F.CSC_PORT_STAT.LSTATE p) = 3 ∧ t.fld (F.CSC_PORT_STAT.USE p) = 0 ∧
      (s.csc.recal = false → t.csc.cutAt = some s.tick) ∧ (s.csc.recal = true → t.fld F.CSC_STAT.CSTATE = 4 ∧ t.csc.recal = false ∧ t.csc.up = none) ∧
      (∀ e ∈ t.csc.due, e.2.2.isVote = false) ∧ t.mem = s.mem ∧ t.err = (s.err.enter (reportOf s C.CSC_LINK_DOWN (s.srcPort p) 0)).enter
        (reportOf s C.CSC_MEMBER_LOST (s.srcPort p) (s.fld (F.CSC_PORT_STAT.PEER p)))) ∧
  (∀ (p : Fin 8) (s : State), s.regsWf → s.portUp p = true → (s.cport p).unacked ≠ [] →
    ∃ t, exec (.packetAckTimeout p) s = .next t ∧ t.fld (F.CSC_PORT_STAT.LSTATE p) = 3 ∧ t.mem = s.mem) ∧
  (∀ (p : Fin 8) (s : State), (s.cport p).unacked = [] → exec (.packetAckTimeout p) s = .next s) ∧
  (∀ (p : Fin 8) (b : BitVec 40) (v : Nat) (ta : BitVec 24) (s : State),
    (ctlField 0x1E b = some v → exec (.align p b) s =
      .next (s.setCport p { s.cport p with lanes := Nat.lor (s.cport p).lanes (2 ^ (v % 4)) })) ∧
    (ctlField 0x2D b = some v → s.portUp p = true →
      exec (.sync p b ta) s = .next { s with csc := { s.csc with out := s.csc.out ++ [(p.val, .ctl 0x33 ta)] } }) ∧
    (crc8 (b.toNat / 256) 32 0 ≠ b.toNat % 256 → s.regsWf →
      ∃ t, exec (.sync p b ta) s = .next t ∧
        t.fld (F.CSC_PORT_ERR.RESEND p) = min (s.fld (F.CSC_PORT_ERR.RESEND p) + 1) 0xFFFF ∧ onlyRegs s t [R.CSC_PORT_ERR p])) ∧
  (∀ (p : Fin 8) (b : BitVec 40) (n : Wide) (e : Word) (ta : Nat) (s : State), ctlField 0x33 b = some ta → s.portUp p = true →
    (s.cport p).cal.isSome = true → (s.cport p).loops.length < 63 →
    exec (.echo p b n e) s = .next (s.setCport p { s.cport p with loops := (s.cport p).loops ++ [e.toNat - ta] })) ∧
  (∀ (p : Fin 8) (b : BitVec 40) (n : Wide) (e : Word) (ta : Nat) (s : State), s.regsWf → ctlField 0x33 b = some ta → s.portUp p = true →
    (s.cport p).cal.isSome = true → (s.cport p).loops.length = 63 → s.bit F.CSC_STAT.POLE = false →
    ∃ t, exec (.echo p b n e) s = .next t ∧
      t.fld (F.CSC_PORT_DELAY.D p) = medianHalf ((s.cport p).loops ++ [e.toNat - ta]) % 2 ^ 24 ∧ t.mem = s.mem ∧ t.err = s.err ∧
      regsBut s t [R.CSC_PORT_DELAY p]) ∧
  (∀ (p : Fin 8) (seq : Fin 1024) (bs : List Byte) (k : CscPkt) (s : State), wfPacket bs = true → s.portUp p = true → parsePacket bs = some k →
    k.op.toNat ∈ packetOps → k.dst = 0xFE → (s.cport p).rxSeq = seq.val →
    ∃ t, exec (.pkt p seq bs) s = .next t ∧ t.csc.inbox = s.csc.inbox ++ [(p.val, k)] ∧
      t.csc.out = s.csc.out ++ [(p.val, .ctl 0x55 (BitVec.ofNat 24 seq.val))] ∧
      t.csc.ports = (s.setCport p { s.cport p with rxSeq := (seq.val + 1) % 1024, naked := false }).csc.ports ∧ t = { s with csc := t.csc }) ∧
  (∀ (p : Fin 8) (seq : Fin 1024) (bs : List Byte) (s : State), s.regsWf → wfPacket bs = true → s.portUp p = true → parsePacket bs = none →
    ∃ t, exec (.pkt p seq bs) s = .next t ∧ t.fld (F.CSC_PORT_ERR.RESEND p) = min (s.fld (F.CSC_PORT_ERR.RESEND p) + 1) 0xFFFF ∧
      t.csc.inbox = s.csc.inbox ∧
      t.csc.out = s.csc.out ++ (if (s.cport p).naked = true ∧ (seq.val + 1024 - (s.cport p).rxSeq) % 1024 ≠ 0 then [] else [(p.val, .ctl 0x66 (BitVec.ofNat 24 (s.cport p).rxSeq))]) ∧
      t = { s with regs := t.regs, csc := t.csc } ∧ regsBut s t [R.CSC_PORT_ERR p]) ∧
  (∀ (p : Fin 8) (b : BitVec 40) (v n : Nat) (k : CscPkt) (rest : List (Nat × Nat × CscPkt)) (s : State), ctlField 0x55 b = some v →
    (s.cport p).unacked = (v % 1024, n, k) :: rest → rest.length < 64 →
    exec (.ack p b) s = .next (s.setCport p { s.cport p with unacked := rest })) ∧
  (∀ (p : Fin 8) (b : BitVec 40) (v n : Nat) (k : CscPkt) (rest : List (Nat × Nat × CscPkt)) (s : State), s.regsWf → ctlField 0x66 b = some v →
    (s.cport p).unacked = (v % 1024, n, k) :: rest → rest.length < 64 →
    (∀ e ∈ (s.cport p).unacked, e.1 ≠ (v % 1024 + 1023) % 1024 ∧ e.2.1 < 7) →
    ∃ t, exec (.nak p b) s = .next t ∧
      t.csc.ports = (s.setCport p { s.cport p with unacked := (s.cport p).unacked.map (fun e => (e.1, e.2.1 + 1, e.2.2)) }).csc.ports ∧
      t.csc.out = s.csc.out ++ (s.cport p).unacked.map (fun e => (p.val, .pkt e.1 e.2.2)) ∧
      t.fld (F.CSC_PORT_ERR.RESEND p) = min (s.fld (F.CSC_PORT_ERR.RESEND p) + (rest.length + 1)) 0xFFFF ∧
      t = { s with regs := t.regs, csc := t.csc } ∧ regsBut s t [R.CSC_PORT_ERR p]) ∧
  (∀ (p : Fin 8) (f : BitVec 24) (ph : Fin 64) (tag : Nat) (grp : Byte) (s : State), voteDecode f = some (true, tag, grp) → voteFixes f = 0 →
    s.portUp p = true →
    s.fld F.CSC_STAT.CSTATE ≠ 2 →
    (s.fld (F.CSC_PORT_STAT.USE p) = 2 → (s.formed = true → tag = s.dueTag p 2) → exec (.voteFieldReceived p f ph) s = .next (s.setCport p { s.cport p with
      fields := (s.cport p).fields.filter (fun e => decide (s.tick.toNat < e.1 + 192)) ++ [(s.tagBehind tag, grp)] })) ∧
    (∀ u, s.fld (F.CSC_PORT_STAT.USE p) = u → (u = 1 ∨ u = 2) → s.formed = true → tag ≠ s.dueTag p u →
      exec (.voteFieldReceived p f ph) s = exec (.voteFieldLost p) s) ∧
    (s.fld (F.CSC_PORT_STAT.USE p) = 1 → s.csc.cutAt = none → s.formed = false →
      exec (.voteFieldReceived p f ph) s = .next { s with csc := { s.csc with
        due := s.csc.due ++ s.downPorts.map (fun q => (s.tick.toNat + 1, q, .vote (voteField true tag grp))) } }) ∧
    (s.fld (F.CSC_PORT_STAT.USE p) = 1 → s.csc.cutAt = none → s.formed = true → tag = s.dueTag p 1 →
      exec (.voteFieldReceived p f ph) s = .next { s with csc := { s.csc with
        decs := s.csc.decs ++ [(s.tagAhead tag - 12 - s.flight, grp)],
        due := s.csc.due ++ s.downPorts.map (fun q => (s.tick.toNat + 1, q, .vote (voteField true tag grp))) } })) ∧
  (∀ (p : Fin 8) (f : BitVec 24) (ph : Fin 64) (s : State), voteDecode f = none →
    (voteFixes f = 0 → exec (.voteFieldReceived p f ph) s = .next s) ∧
    (voteFixes f ≠ 0 → s.regsWf → ∃ t, exec (.voteFieldReceived p f ph) s = .next t ∧
      t.fld (F.CSC_PORT_ERR.VCORR p) = min (s.fld (F.CSC_PORT_ERR.VCORR p) + voteFixes f) 0xFFFF ∧ onlyRegs s t [R.CSC_PORT_ERR p])) ∧
  (∀ (c : Byte) (f : BitVec 24), ctlField c.toNat (ctlBody c f) = some f.toNat) ∧
  (∀ (p u : Nat) (s : State), s.dueTag p u < 64 ∧ (u ≠ 1 → (s.dueTag p u + (s.cport p).dnArr) % 64 = s.tick.toNat % 64) ∧
    (u = 1 → (s.dueTag p u + (s.cport p).dnArr) % 64 = (s.tick.toNat + 4 + s.fld F.TICK_VOTE_FLIGHT.FLIGHT_DOWN) % 64)) ∧
  (∀ (p : Fin 8) (s : State), s.formed = true → p.val ∈ s.formedPorts → (s.cport p).lostAt = some s.tick → exec (.voteFieldLost p) s = .next s) ∧
  (∀ (p : Fin 8) (s : State), s.regsWf → s.formed = true → p.val ∈ s.formedPorts → (s.cport p).lostAt = some (s.tick - 1) →
    ∃ t, exec (.voteFieldLost p) s = .next t ∧ t.fld (F.CSC_PORT_STAT.USE p) = 0 ∧ t.mem = s.mem) ∧
  (∀ (p : Fin 8) (s : State), s.formed = true → p.val ∈ s.formedPorts → (s.cport p).lostAt ≠ some (s.tick - 1) → (s.cport p).lostAt ≠ some s.tick →
    ∃ t, exec (.voteFieldLost p) s = .next t ∧ logs s t C.CSC_VOTE_LOST (s.srcPort p) 0xFF ∧
      t.csc.ports = (s.setCport p { s.cport p with lostAt := some s.tick }).csc.ports ∧
      t.csc.holds = s.csc.holds ++ [⟨1, 0xFF, s.fld F.CSC_STAT.POSITION, C.CSC_VOTE_LOST, s.tick + BitVec.ofNat 64 (12 + s.flight)⟩] ∧
      ((∀ h ∈ s.csc.holds, h.eff ≠ s.tick + BitVec.ofNat 64 (12 + s.flight) ∨ h.origin ≠ s.fld F.CSC_STAT.POSITION) →
        t.csc.due = s.csc.due.filter (fun e => !(e.1 == s.tick.toNat + 2 && e.2.2.isHold)) ++ (s.formedPorts.flatMap (List.replicate 3)).map (fun q =>
          (s.tick.toNat + 2, q, .ctl 0x78 (holdField 1 (s.tick + BitVec.ofNat 64 (12 + s.flight)).toNat 0xFF (s.fld F.CSC_STAT.POSITION))))) ∧
      ((∃ h ∈ s.csc.holds, h.eff = s.tick + BitVec.ofNat 64 (12 + s.flight) ∧ h.origin = s.fld F.CSC_STAT.POSITION ∧ h.kind = 2) →
        t.csc.due = s.csc.due.filter (fun e => !(e.1 == s.tick.toNat + 2 && e.2.2.isHold)) ++ (s.formedPorts.flatMap (List.replicate 3)).map (fun q =>
          (s.tick.toNat + 2, q, .ctl 0x78 (holdField 2 (s.tick + BitVec.ofNat 64 (12 + s.flight)).toNat 0 (s.fld F.CSC_STAT.POSITION))))) ∧
      t = { s with csc := t.csc, err := t.err }) ∧
  (∀ (p : Fin 8) (s : State), s.formed = false → exec (.voteFieldLost p) s = .next s) ∧
  (∀ (p : Fin 8) (b : BitVec 40) (v : Nat) (s : State), ctlField 0x78 b = some v → s.formed = true → p.val ∈ s.formedPorts →
    (∀ h ∈ s.csc.holds, h.eff ≠ BitVec.ofNat 64 (s.tagAhead (v / 2 ^ 16 % 64)) ∨ h.origin ≠ v % 32) →
    ∃ t h, exec (.holdBlock p b) s = .next t ∧ t.csc.holds = s.csc.holds ++ [h] ∧ h.kind = v / 2 ^ 22 ∧
      h.grp = BitVec.ofNat 16 (v / 256 % 256) ∧ h.origin = v % 32 ∧ h.eff = BitVec.ofNat 64 (s.tagAhead (v / 2 ^ 16 % 64)) ∧
      t.csc.due = s.csc.due ++ (s.formedPorts.filter (fun q => q != p.val)).map (fun q => (s.tick.toNat + 1, q, .ctl 0x78 (BitVec.ofNat 24 v))) ∧
      t = { s with csc := { s.csc with holds := t.csc.holds, due := t.csc.due }, free := s.free + 1 }) ∧
  (∀ (h : CscHold) (s : State), s.regsWf → s.csc.holds = [h] → h.eff = s.tick → h.kind < 4 → h.origin < 32 → h.code < 65536 →
    ∃ t, exec .holdEffective s = .next t ∧ t.csc = { s.csc with holds := [] } ∧ t.fld F.CSC_HOLD_LAST.CODE = h.code ∧
      t.fld F.CSC_HOLD_LAST.KIND = h.kind ∧ t.fld F.CSC_HOLD_LAST.ORIGIN = h.origin ∧ t.fld F.CSC_HOLD_LAST.GRP = h.grp.toNat % 256 ∧
      t.reg R.CSC_HOLD_TICK = s.tick ∧ t.mem = s.mem) ∧
  (∀ s : State, (∀ h ∈ s.csc.holds, s.tick.toNat < h.eff.toNat) → exec .holdEffective s = .next s) ∧
  (∀ (p : Fin 8) (b : BitVec 40) (v : Nat) (s : State), s.regsWf → ctlField 0x87 b = some v → s.fld (F.CSC_PORT_STAT.USE p) = 2 →
    (∀ n < 16, s.siteActive n = false) → s.cfg.chain = none → s.bit F.CSC_STAT.POLE = false → s.csc.members = [] → s.fld (F.CSC_PORT_STAT.PEER p) = v % 32 →
    ∃ t, exec (.down p b) s = .next t ∧ t.fld (F.CSC_PORT_STAT.USE p) = 0 ∧ t.fld (F.CSC_PORT_STAT.PEER p) = 0 ∧ t.csc.below = [] ∧
      (∀ q ∈ s.upPorts, (q, .ctl 0x87 (BitVec.ofNat 24 (v % 32))) ∈ t.csc.out) ∧ t.fld F.CSC_VSCHED.DN_ARR = 0 ∧ t.fld F.CSC_VSCHED.UP_SEND = 3 ∧
      (∀ q, s.formed = true → s.csc.up = some q → s.portUp q = true → q ≠ p.val → (t.cport q).unacked.length = (s.cport q).unacked.length + 1) ∧
      t.mem = s.mem ∧ t.err = s.err ∧ regsBut s t [R.CSC_PORT_STAT p, R.CSC_VSCHED]) ∧
  (∀ (p : Fin 8) (b : BitVec 40) (v : Nat) (s : State), ctlField 0x87 b = some v → s.fld (F.CSC_PORT_STAT.USE p) = 0 → exec (.down p b) s = .next s)

/-- What packets delivered to this device do: pooled requests are served and answered, chain bytes go to the load, vote-group settings are copied, and remote
register accesses are made, answered and refused (R419, R468, R484, R490 to R492, R499, R500). -/
def Obligations.CascadePacketsAreServed : Prop :=
  (∀ (st : Half) (p : Nat) (k : CscPkt) (rest : List (Nat × CscPkt)) (s : State), gets s p k rest → k.op = 0x01 →
    s.formed = true → st.toNat ≠ C.MEM_CE → memStatus s (cascadeNi p) (k.arg.toNat % 2 ^ 38) (k.arg.toNat / 2 ^ 40 % 256 + 1) false st.toNat = 0 →
    ∃ u, exec (.memRd st) s = .next (u.sendTo k.src.toNat ⟨0x03, s.ownSrc, k.src, k.tag, 0,
        s.dpaBytes (k.arg.toNat % 2 ^ 38) (k.arg.toNat / 2 ^ 40 % 256 + 1)⟩) ∧ u = (withInbox s rest).tookFree) ∧
  (∀ (st : Half) (p : Nat) (k : CscPkt) (rest : List (Nat × CscPkt)) (s : State), gets s p k rest → k.op = 0x02 →
    s.formed = true → st.toNat ≠ C.MEM_CE → memStatus s (cascadeNi p) (k.arg.toNat % 2 ^ 38) (k.arg.toNat / 2 ^ 40 % 256 + 1) true st.toNat = 0 →
    ∃ t u, exec (.memWr st) s = .next t ∧ t = u.sendTo k.src.toNat ⟨0x03, s.ownSrc, k.src, k.tag, 0, []⟩ ∧
      u = (withInbox s rest).unitWrite (cascadeNi p) (k.arg.toNat % 2 ^ 38) (k.body.take (k.arg.toNat / 2 ^ 40 % 256 + 1)) ∧ t.regs = s.regs ∧ t.mem = u.mem) ∧
  (∀ p : Nat, cascadeNi p = if p < 4 then 174 else 175) ∧
  (∀ (st : Half) (p : Nat) (k : CscPkt) (rest : List (Nat × CscPkt)) (s : State), gets s p k rest → s.formed = false →
    (k.op = 0x01 → exec (.memRd st) s = .next ((withInbox s rest).sendTo k.src.toNat ⟨0x03, s.ownSrc, k.src, k.tag, BitVec.ofNat 64 C.CSC_POOL_ABSENT, []⟩)) ∧
    (k.op = 0x02 → exec (.memWr st) s = .next ((withInbox s rest).sendTo k.src.toNat ⟨0x03, s.ownSrc, k.src, k.tag, BitVec.ofNat 64 C.CSC_POOL_ABSENT, []⟩))) ∧
  (∀ (p : Nat) (k : CscPkt) (rest : List (Nat × CscPkt)) (s : State), gets s p k rest → k.op = 0x03 →
    exec .memCpl s = .next ((withInbox s rest).endCascade (fun r => r.cascade == some k.tag.toNat) (k.arg.toNat % 65536) k.body)) ∧
  (∀ (st : Half) (s : State), s.csc.inbox = [] → exec (.memRd st) s = .next s ∧ exec (.memWr st) s = .next s ∧ exec .memCpl s = .next s ∧
    exec .chain s = .next s ∧ exec .regRd s = .next s ∧ exec .regWr s = .next s ∧ exec .regRsp s = .next s ∧ exec .vgrp s = .next s) ∧
  (∀ (p : Nat) (k : CscPkt) (rest : List (Nat × CscPkt)) (s : State), gets s p k rest → k.op = 0x08 →
    (s.bit F.CFG_CHAIN.UP_EN = false ∨ s.fld F.CFG_CHAIN.UP_PORT ≠ p → exec .chain s = .next (withInbox s rest)) ∧
    (∀ c, s.bit F.CFG_CHAIN.UP_EN = true → s.fld F.CFG_CHAIN.UP_PORT = p → s.cfg.deaf = false → s.cfg.chain = some c → c.src = 3 →
      exec .chain s = .next ((withInbox s rest).chainIntake k.body))) ∧
  (∀ (p : Nat) (k : CscPkt) (rest : List (Nat × CscPkt)) (s : State), s.regsWf → gets s p k rest → k.op = 0x16 →
    ∃ t, exec .vgrp s = .next t ∧ t = { withInbox s rest with regs := t.regs } ∧
      (∀ g < 8, t.fld (F.CSC_VGRP_CFG.RULE g) = numAt k.body (4 * g) 4 / 2 ^ 31 % 2 ∧
        t.fld (F.CSC_VGRP_CFG.REPEAT g) = numAt k.body (4 * g) 4 % 2048 ∧
        t.reg (R.CSC_VGRP_START g) = BitVec.ofNat 64 (numAt k.body (32 + 8 * g) 8)) ∧
      ∀ o, (∀ g < 8, o ≠ R.CSC_VGRP_CFG g ∧ o ≠ R.CSC_VGRP_START g) → t.reg o = s.reg o) ∧
  (∀ (req : Requester) (g : Fin 16) (start : Bool) (v : Wide) (s : State),
    (∀ n < 16, s.siteActive n = false) → s.bit F.CSC_STAT.POLE = false → (8 ≤ g.val ∨ s.fld F.CSC_STAT.CSTATE = 0) → s.regsWf →
    ∃ t, exec (.cscVgrpWrite req g start v) s = .next t ∧
      (start = true → t.reg (R.CSC_VGRP_START g) = v ∧ onlyRegs s t [R.CSC_VGRP_START g]) ∧
      (start = false → t.fld (F.CSC_VGRP_CFG.RULE g) = v.toNat / 2 ^ 31 % 2 ∧ t.fld (F.CSC_VGRP_CFG.REPEAT g) = v.toNat % 2048 ∧
        onlyRegs s t [R.CSC_VGRP_CFG g])) ∧
  (∀ (req : Requester) (g : Fin 16) (v : Wide) (n : Nat) (s : State), n < 16 → s.siteActive n = true → s.effFld n (F.PSQ_VOTE_CFG.GROUP n) = g.val →
    ∃ t, exec (.cscVgrpWrite req g false v) s = .next t ∧ logs s t C.STATE_REFUSED (srcRequester req) (R.CSC_VGRP_CFG g) ∧ onlyRegsLog s t []) ∧
  (∀ (p : Nat) (k : CscPkt) (rest : List (Nat × CscPkt)) (s : State), gets s p k rest → s.formed = false →
    (k.op = 0x18 → exec .regRd s = .next ((withInbox s rest).sendTo k.src.toNat ((withInbox s rest).mkPkt 0x1A k.src.toNat k.tag.toNat (C.CSC_REMOTE_ERR * 2 ^ 32) []))) ∧
    (k.op = 0x19 → exec .regWr s = .next ((withInbox s rest).sendTo k.src.toNat ((withInbox s rest).mkPkt 0x1A k.src.toNat k.tag.toNat (C.CSC_REMOTE_ERR * 2 ^ 32) [])))) ∧
  (∀ (p : Nat) (k : CscPkt) (rest : List (Nat × CscPkt)) (s : State), gets s p k rest → s.formed = true →
    (k.op = 0x18 → ∃ u, exec .regRd s = .next ({ u with rdata := s.rdata }.sendTo k.src.toNat (({ u with rdata := s.rdata } : State).mkPkt 0x1A
        k.src.toNat k.tag.toNat (u.rdata.toNat % 2 ^ 32) [])) ∧
      u = (withInbox s rest).barRead (remoteReq k.src.toNat) (k.arg.toNat % 2 ^ 26) false) ∧
    (k.op = 0x19 → remoteBarred (k.arg.toNat % 2 ^ 26) = false → ∃ u, exec .regWr s = .next (u.sendTo k.src.toNat (u.mkPkt 0x1A
        k.src.toNat k.tag.toNat 0 [])) ∧
      u = (withInbox s rest).barWrite (remoteReq k.src.toNat) (k.arg.toNat % 2 ^ 26) false (BitVec.ofNat 64 (k.arg.toNat / 2 ^ 32 % 2 ^ 32))) ∧
    (k.op = 0x19 → remoteBarred (k.arg.toNat % 2 ^ 26) = true → ∃ u, exec .regWr s = .next (u.sendTo k.src.toNat (u.mkPkt 0x1A
        k.src.toNat k.tag.toNat (C.CSC_REMOTE_ERR * 2 ^ 32) [])) ∧ u = withInbox s rest)) ∧
  (∀ (req : Requester) (s : State), s.regsWf → s.allows req .cscRemote = true → s.bit F.CSC_RMT_STAT.BUSY = false → s.formed = true →
    s.bit F.CSC_STAT.POLE = false → s.bit F.CSC_RMT_ADDR.WR = false → s.fld F.CSC_RMT_ADDR.POSITION ≠ s.fld F.CSC_STAT.POSITION →
    ∃ t u, exec (.remote req) s = .next t ∧ t = u.sendTo (s.fld F.CSC_RMT_ADDR.POSITION) ⟨0x18, s.ownSrc,
        BitVec.ofNat 8 (s.fld F.CSC_RMT_ADDR.POSITION), BitVec.ofNat 8 s.csc.rmtTag, BitVec.ofNat 64 (s.fld F.CSC_RMT_ADDR.OFFSET), []⟩ ∧
      u = { s with regs := u.regs, csc := { s.csc with rmt := some s.csc.rmtTag, rmtTag := (s.csc.rmtTag + 1) % 256 } } ∧
      u.bit F.CSC_RMT_STAT.BUSY = true ∧ u.fld F.CSC_STAT.CMD_STATUS = 0 ∧ regsBut s u [R.CSC_STAT, R.CSC_RMT_STAT]) ∧
  (∀ (req : Requester) (s : State), s.regsWf → (s.allows req .cscRemote = false ∨ s.bit F.CSC_RMT_STAT.BUSY = true) →
    ∃ t, exec (.remote req) s = .next t ∧ t.fld F.CSC_STAT.CMD_STATUS = C.STATE_REFUSED ∧
      logs s t C.STATE_REFUSED (srcRequester req) (R.CSC_CMD + 4 * 2 ^ 32) ∧ onlyRegsLog s t [R.CSC_STAT]) ∧
  (∀ (p : Nat) (k : CscPkt) (rest : List (Nat × CscPkt)) (s : State), s.regsWf → gets s p k rest → k.op = 0x1A → s.csc.rmt = some k.tag.toNat →
    k.arg.toNat / 2 ^ 32 = 0 → s.bit F.CSC_RMT_ADDR.WR = false →
    ∃ t, exec .regRsp s = .next t ∧ t.fld F.CSC_RMT_DATA.DATA = k.arg.toNat ∧ t.bit F.CSC_RMT_STAT.BUSY = false ∧
      t.fld F.CSC_RMT_STAT.STATUS = 0 ∧ t = { s with regs := t.regs, csc := { s.csc with inbox := rest, rmt := none } } ∧
      regsBut s t [R.CSC_RMT_DATA, R.CSC_RMT_STAT]) ∧
  (∀ (g : Nat) (s : State), s.regsWf → s.csc.rmt = some g →
    ∃ t, exec .remoteTimeout s = .next t ∧ t.bit F.CSC_RMT_STAT.BUSY = false ∧ t.fld F.CSC_RMT_STAT.STATUS = C.CSC_REMOTE_ERR ∧
      logs s t C.CSC_REMOTE_ERR (srcCascade ((s.portTo (s.fld F.CSC_RMT_ADDR.POSITION)).getD 0) (s.fld F.CSC_RMT_ADDR.POSITION)) 0 ∧
      t = { s with regs := t.regs, csc := { s.csc with rmt := none }, err := t.err } ∧ regsBut s t [R.CSC_RMT_STAT]) ∧
  (∀ s : State, s.csc.rmt = none → exec .remoteTimeout s = .next s)

/-- Forming a constellation: commands of CSC_CMD, the candidates' HELLO, the pole, its members and their positions, calibration, flights and changes of FCK
(R56, R469 to R479, R493 to R498).
It also rests on choices of the model: log entries 78, 79, 83, 142. -/
def Obligations.ConstellationForms : Prop :=
  (∀ (req : Requester) (s : State), s.regsWf → s.allows req .cscForm = true → s.fld F.BIST_STAT.NF ≠ 1 →
    (s.fld F.CSC_CFG.ROLE = 3 →
      ∃ t, exec (.form req) s = .next t ∧ t.fld F.CSC_STAT.CSTATE = 0 ∧ t.fld F.CSC_STAT.POSITION = 0 ∧ t.bit F.CSC_STAT.POLE = false ∧
        t.csc.role = 3 ∧ t.flight = 0 ∧ t.csc.cand = none ∧ t.csc.members = [] ∧ t.fld F.CSC_STAT.CMD_STATUS = 0 ∧
        t = { s with regs := t.regs, csc := t.csc }) ∧
    (s.fld F.CSC_CFG.ROLE < 2 → s.cscQuiet = true →
      ∃ t, exec (.form req) s = .next t ∧ t.fld F.CSC_STAT.CSTATE = 1 ∧ t.csc.role = s.fld F.CSC_CFG.ROLE ∧
        t.csc.posReq = s.fld F.CSC_CFG.POS_REQ ∧ t.csc.cand = some (2 - (1 - s.fld F.CSC_CFG.ROLE), s.deviceId) ∧ t.csc.up = none ∧
        t.fld F.CSC_STAT.CMD_STATUS = 0 ∧ t = { s with regs := t.regs, csc := t.csc }) ∧
    (s.cscQuiet = false → s.fld F.CSC_CFG.ROLE ≠ 3 → ∃ t, exec (.form req) s = .next t ∧ t.fld F.CSC_STAT.CSTATE = 4 ∧ t.csc.waits = true ∧
      t = { s with regs := t.regs, csc := t.csc })) ∧
  (∀ s : State, s.regsWf → s.csc.waits = true → s.cscQuiet = true → (∀ p < 8, (s.cport p).cal = none) →
    s.stepCsc.fld F.CSC_STAT.CSTATE = 1 ∧ s.stepCsc.csc.waits = false) ∧
  (∀ (req : Requester) (s : State), s.regsWf → s.allows req .cscForm = false →
    ∃ t, exec (.form req) s = .next t ∧ t.fld F.CSC_STAT.CMD_STATUS = C.STATE_REFUSED ∧
      logs s t C.STATE_REFUSED (srcRequester req) (R.CSC_CMD + 2 ^ 32) ∧ onlyRegsLog s t [R.CSC_STAT]) ∧
  (∀ (req : Requester) (s : State), s.regsWf → s.allows req .cscLeave = true → (∀ n < 16, s.siteActive n = false) →
    ∃ t, exec (.leave req) s = .next t ∧ t.fld F.CSC_STAT.CSTATE = 0 ∧ t.fld F.CSC_STAT.POSITION = 0 ∧ t.flight = 0 ∧
      t.fld F.CSC_STAT.CMD_STATUS = 0 ∧
      t.csc.out = s.csc.out ++ s.formedPorts.map (fun q => (q, .ctl 0x87 (BitVec.ofNat 24 (s.fld F.CSC_STAT.POSITION)))) ∧
      t = { s with regs := t.regs, csc := t.csc }) ∧
  (∀ (req : Requester) (s : State), s.regsWf → s.bit F.CSC_STAT.POLE = true → s.formed = true → s.membersQuiet = true →
    (∀ n < 16, s.siteActive n = false) → s.cfg.chain = none →
    (s.downPorts ≠ [] → ∃ t, exec (.recal req) s = .next t ∧ t.fld F.CSC_STAT.CSTATE = 2 ∧ t.csc.recal = true ∧ t.csc.epoch = s.csc.epoch + 1 ∧
      (∀ p, s.downPorts.head? = some p → (t.cport p).cal = some (s.tick.toNat + 1)) ∧ t = { s with regs := t.regs, csc := t.csc }) ∧
    (s.downPorts = [] → ∃ t, exec (.recal req) s = .next t ∧ t.fld F.CSC_STAT.CSTATE = 3 ∧ t.fld F.CSC_STAT.CMD_STATUS = 0 ∧
      t = { s with regs := t.regs, csc := t.csc })) ∧
  (∀ (req : Requester) (s : State), s.regsWf → (s.bit F.CSC_STAT.POLE = false ∨ s.formed = false) →
    ∃ t, exec (.recal req) s = .next t ∧ t.fld F.CSC_STAT.CMD_STATUS = C.STATE_REFUSED ∧
      logs s t C.STATE_REFUSED (srcRequester req) (R.CSC_CMD + 3 * 2 ^ 32) ∧ onlyRegsLog s t [R.CSC_STAT]) ∧
  (∀ (p : Fin 8) (k : CscPkt) (rest : List (Nat × CscPkt)) (s : State), s.regsWf → gets s p k rest → k.op = 0x10 → k.src = 0xFF →
    s.fld F.CSC_STAT.CSTATE ≠ 0 → s.csc.clash = false →
    (s.fld F.CSC_STAT.CSTATE = 1 → roleRank (numAt k.body 36 1) ≠ 0 → s.csc.cand = none → s.bit F.CSC_STAT.POLE = false → s.csc.up = none → s.csc.role ≠ 1 →
      exec .hello s = .next { withInbox s rest with csc := { (s.setCport p { s.cport p with
          peer := some (idAt k.body 0, numAt k.body 16 1), joined := s.fld (F.CSC_PORT_STAT.USE p) == 2 }).csc with
        inbox := rest, cand := some (roleRank (numAt k.body 36 1), idAt k.body 20) } }) ∧
    (s.csc.role = 1 → roleRank (numAt k.body 36 1) = 2 → idAt k.body 20 ≠ s.deviceId →
      ∃ t, exec .hello s = .next t ∧ t.csc.clash = true ∧
        logs s t C.CSC_POLE_CONFLICT (s.srcPort p) (s.fld (F.CSC_PORT_STAT.PEER p)) ∧ t = { s with csc := t.csc, err := t.err })) ∧
  (∀ s : State, s.regsWf → s.fld F.CSC_STAT.CSTATE = 1 → s.csc.clash = false → s.bit F.CSC_STAT.POLE = false → s.csc.up = none →
    roleRank s.csc.role ≠ 0 → s.csc.cand = some (roleRank s.csc.role, s.deviceId) → (∃ p < 8, s.portUp p = true) →
    ∃ t, exec .poleElected s = .next t ∧ t.bit F.CSC_STAT.POLE = true ∧ t.fld F.CSC_STAT.POSITION = 0 ∧ t.bit F.CSC_STAT.ALIGNED = true ∧
      t.csc.epoch = s.csc.epoch + 1 ∧ t.bit F.CFG_CHAIN.UP_EN = false ∧ t = { s with regs := t.regs, csc := t.csc } ∧
      regsBut s t [R.CSC_STAT, R.CFG_CHAIN]) ∧
  (∀ s : State, s.fld F.CSC_STAT.CSTATE ≠ 1 → exec .poleElected s = .next s) ∧
  (∀ (p : Fin 8) (k : CscPkt) (rest : List (Nat × CscPkt)) (s : State), s.regsWf → gets s p k rest → k.op = 0x11 → s.csc.up = none →
    s.bit F.CSC_STAT.POLE = false → idAt k.body 0 = s.deviceId → s.csc.role ≠ 3 → s.csc.clash = false → s.fld F.CSC_STAT.CSTATE = 1 →
    (s.cscQuiet = true → ∃ t, exec .assign s = .next t ∧ t.csc.up = some p.val ∧ t.csc.epoch = k.arg.toNat ∧ t.fld F.CSC_STAT.CSTATE = 2 ∧
      t.fld (F.CSC_PORT_STAT.USE p) = 1 ∧ t.bit F.CSC_STAT.ALIGNED = false ∧ t = { s with regs := t.regs, csc := t.csc } ∧
      regsBut s t [R.CSC_STAT, R.CSC_PORT_STAT p]) ∧
    (s.cscQuiet = false → ∃ t, exec .assign s = .next t ∧ t.fld F.CSC_STAT.CSTATE = 4 ∧
      t = { s with regs := t.regs, csc := { s.csc with inbox := rest, waits := true } })) ∧
  (∀ (p : Fin 8) (k : CscPkt) (rest : List (Nat × CscPkt)) (s : State), s.regsWf → gets s p k rest → k.op = 0x11 → s.csc.up = some p.val →
    k.arg.toNat ≠ s.csc.epoch → s.fld F.CSC_STAT.CSTATE ≠ 4 →
    (s.cscQuiet = true → ∃ t, exec .assign s = .next t ∧ t.csc.epoch = k.arg.toNat ∧ t.fld F.CSC_STAT.CSTATE = 2 ∧ t.tick = s.tick ∧
      t.csc.recal = (idAt k.body 0 == 0) ∧ t.bit F.CSC_STAT.ALIGNED = (idAt k.body 0 != 0 && s.bit F.CSC_STAT.ALIGNED) ∧
      (∀ q < 8, (t.cport q).seen = 0) ∧
      (∀ q ∈ s.downPorts, s.portUp q = true → (t.cport q).unacked = (s.cport q).unacked ++ [((s.cport q).txSeq, 0, k)]) ∧
      t = { s with regs := t.regs, csc := t.csc } ∧ regsBut s t [R.CSC_STAT]) ∧
    (s.cscQuiet = false → ∃ t, exec .assign s = .next t ∧ t.fld F.CSC_STAT.CSTATE = 4 ∧
      t = { s with regs := t.regs, csc := { s.csc with inbox := rest, waits := true } })) ∧
  (∀ (p : Fin 8) (k : CscPkt) (rest : List (Nat × CscPkt)) (s : State), s.regsWf → gets s p k rest → k.op = 0x12 → numAt k.body 17 1 = 1 →
    s.fld (F.CSC_PORT_STAT.USE p) ≠ 2 →
    (s.bit F.CSC_STAT.POLE = false → s.downPorts ≠ [] → exec .report s = .next (withInbox s rest)) ∧
    (∀ q, s.downPorts = [] → s.bit F.CSC_STAT.POLE = false → s.csc.up = some q → s.portUp q = true → q ≠ p.val →
      ∃ t, exec .report s = .next t ∧ t.fld (F.CSC_PORT_STAT.USE p) = 2 ∧ (t.cport p).joined = true ∧
        (s.fld F.CSC_STAT.POSITION ≠ 0 → t.bit F.CFG_CHAIN.DN_EN = true ∧ t.fld F.CFG_CHAIN.DN_PORT = p) ∧
        (s.bit F.CSC_STAT.ALIGNED = true → (t.cport p).cal = some (s.tick.toNat + 1)) ∧
        (t.cport q).unacked = (s.cport q).unacked ++ [((s.cport q).txSeq, 0,
          { k with body := k.body.take 17 ++ leBytes 1 2 ++ k.body.drop 18 })] ∧ regsBut s t [R.CSC_PORT_STAT p, R.CFG_CHAIN]) ∧
    (s.bit F.CSC_STAT.POLE = true → s.csc.members = [] → (∀ q < 8, (s.cport q).cal = none) → (s.fld F.CSC_STAT.CSTATE = 2 ∨ s.formed = true) →
      ∃ t m, exec .report s = .next t ∧ t.csc.members = [m] ∧ m.id = idAt k.body 0 ∧ m.port = p.val ∧ m.depth = 1 ∧
        m.pos = some (if numAt k.body 16 1 % 32 = 0 then 1 else numAt k.body 16 1 % 32) ∧ t.fld F.CSC_STAT.CSTATE = 2 ∧ t.csc.epoch = s.csc.epoch + 1 ∧
        t.tick = s.tick ∧ (t.cport p).cal = some (s.tick.toNat + 1) ∧ t.fld (F.CSC_PORT_STAT.USE p) = 2) ∧
    (s.bit F.CSC_STAT.POLE = true → s.csc.members = [] → s.fld F.CSC_STAT.CSTATE = 1 →
      ∃ t m, exec .report s = .next t ∧ t.csc.members = [m] ∧ m.id = idAt k.body 0 ∧ m.port = p.val ∧ m.depth = 1 ∧
        m.posReq = numAt k.body 16 1 % 32 ∧ m.pos = none ∧ t.fld (F.CSC_PORT_STAT.USE p) = 2 ∧ regsBut s t [R.CSC_PORT_STAT p])) ∧
  (∀ (p : Nat) (k : CscPkt) (rest : List (Nat × CscPkt)) (s : State), s.regsWf → gets s p k rest → k.op = 0x13 → s.fld F.CSC_STAT.POSITION = 0 →
    s.bit F.CSC_STAT.POLE = false → (s.csc.posReq = 0 ∨ s.csc.posReq = k.arg.toNat % 32) →
    ∃ t, exec .position s = .next t ∧ t.fld F.CSC_STAT.POSITION = k.arg.toNat % 32 ∧ t.fld F.CFG_CHAIN.POSITION = k.arg.toNat % 32 ∧
      t.bit F.CFG_CHAIN.UP_EN = true ∧ t.bit F.CFG_CHAIN.DN_EN = !s.downPorts.isEmpty ∧ t = { withInbox s rest with regs := t.regs } ∧
      regsBut s t [R.CSC_STAT, R.CFG_CHAIN]) ∧
  (∀ (el : Word) (er : Byte) (p : Nat) (k : CscPkt) (rest : List (Nat × CscPkt)) (s : State), s.regsWf → gets s p k rest → k.op = 0x14 →
    s.csc.up = some p →
    (s.formed = true → absByte er ≤ 8 → ∃ t, exec (.tickset el er) s = .next t ∧ t.fld F.CSC_ALIGN.ERR = er.toNat ∧
      t.fld F.CSC_ALIGN.WARN_CNT = (if 2 < absByte er then min (s.fld F.CSC_ALIGN.WARN_CNT + 1) 0xFFFF else s.fld F.CSC_ALIGN.WARN_CNT) ∧
      t = { withInbox s rest with regs := t.regs } ∧ regsBut s t [R.CSC_ALIGN]) ∧
    (s.formed = true → 8 < absByte er → ∃ t, exec (.tickset el er) s = .next t ∧
      logs s t C.CSC_ALIGN_LOST (s.srcPort p) (s.fld F.CSC_STAT.POSITION) ∧ t.csc.holds.length = s.csc.holds.length + 1) ∧
    (s.fld F.CSC_STAT.CSTATE = 2 → ∃ t, exec (.tickset el er) s = .next t ∧ t.tick = k.arg + el.setWidth 64 ∧ t.bit F.CSC_STAT.ALIGNED = true ∧
      t = { s with tick := t.tick, regs := t.regs, csc := t.csc } ∧ regsBut s t [R.CSC_STAT])) ∧
  (∀ (p : Nat) (k : CscPkt) (rest : List (Nat × CscPkt)) (s : State), s.regsWf → gets s p k rest → k.op = 0x15 →
    (k.arg.toNat % 256 ≤ 40 → k.arg.toNat / 256 % 256 ≤ 40 → s.bit F.CSC_STAT.ALIGNED = true →
      ∃ t, exec .flight s = .next t ∧ t.fld F.TICK_VOTE_FLIGHT.FLIGHT_UP = k.arg.toNat % 256 ∧
        t.fld F.TICK_VOTE_FLIGHT.FLIGHT_DOWN = k.arg.toNat / 256 % 256 ∧ t.fld F.CSC_STAT.CSTATE = 3 ∧
        t = { s with regs := t.regs, csc := { s.csc with inbox := rest, recal := false, told := false } } ∧ regsBut s t [R.CSC_STAT, R.TICK_VOTE_FLIGHT]) ∧
    (40 < k.arg.toNat % 256 → ∃ t, exec .flight s = .next t ∧ t.fld F.CSC_STAT.CSTATE = 4 ∧
      logs s t C.CSC_FLIGHT_RANGE (s.srcPort p) (s.fld F.CSC_STAT.POSITION) ∧ regsBut s t [R.CSC_STAT])) ∧
  (∀ (p : Nat) (k : CscPkt) (rest : List (Nat × CscPkt)) (s : State), s.regsWf → gets s p k rest → k.op = 0x17 → s.formed = true →
    ∃ t, exec .fckset s = .next t ∧ t.csc.fckset = some (k.arg.toNat % 128, k.arg.toNat / 256 % 64, s.tick48 (k.arg.toNat / 2 ^ 16)) ∧
      t.bit F.TICK_STAT.FCK_BUSY = true ∧ t.fckSet = s.fckSet ∧
      ((∀ e ∈ s.slices, e.2.cal = false) → regsBut s t [R.TICK_STAT])) ∧
  (∀ (fb pd stop : Nat) (s : State), s.regsWf → s.csc.fckset = some (fb, pd, stop) → stop ≤ s.tick.toNat → s.fckNew = none →
    (s.fld F.CSC_STAT.CSTATE = 3 → ∃ t, exec .fckStopTickReached s = .next t ∧ t.fckNew = some (fb, pd) ∧ t.fckStop = s.fckOn) ∧
    (s.fld F.CSC_STAT.CSTATE ≠ 3 → ∃ t, exec .fckStopTickReached s = .next t ∧ t.csc.fckset = none ∧ t.bit F.TICK_STAT.FCK_BUSY = false ∧
      t.fckNew = none ∧ regsBut s t [R.TICK_STAT])) ∧
  (∀ s : State, s.csc.fckset = none → exec .fckStopTickReached s = .next s) ∧
  (∀ (p : Nat) (s : State), s.fld F.CSC_STAT.CSTATE = 1 → p < 8 → s.portUp p = true →
    ∃ t b, exec .helloTimer s = .next t ∧ (t.cport p).unacked = (s.cport p).unacked ++ [((s.cport p).txSeq, 0, ⟨0x10, s.ownSrc, 0xFE, 0, 0, b⟩)] ∧
      idAt b 0 = s.deviceId % 2 ^ 128 ∧ numAt b 16 1 = s.csc.role % 256 ∧ numAt b 17 1 = s.csc.posReq % 256 ∧ numAt b 18 1 = p ∧
      t = { s with csc := t.csc }) ∧
  (∀ s : State, s.fld F.CSC_STAT.CSTATE = 0 → exec .helloTimer s = .next s) ∧
  (∀ s : State, s.regsWf → s.fld F.CSC_STAT.CSTATE = 1 →
    ((∀ p < 8, s.portUp p = false) → ∃ t, exec .formTimeout s = .next t ∧ t.fld F.CSC_STAT.CSTATE = 0 ∧ t.flight = 0 ∧ t.csc.up = none) ∧
    (∀ c, (∃ p < 8, s.portUp p = true) → s.bit F.CSC_STAT.POLE = false → s.csc.clash = false → s.csc.cand = some c →
      c ≠ (roleRank s.csc.role, s.deviceId) →
      ∃ t x, exec .formTimeout s = .next t ∧ t.fld F.CSC_STAT.CSTATE = 4 ∧ logs s t C.CSC_TOPOLOGY x 0 ∧ onlyRegsLog s t [R.CSC_STAT])) ∧
  (∀ (p : Fin 8) (s : State), s.regsWf → s.fld F.CSC_STAT.CSTATE = 2 → s.bit F.CSC_STAT.POLE = false → s.csc.up = some p.val → s.fld F.CSC_STAT.POSITION = 0 →
    ∃ t, exec .formTimeout s = .next t ∧ t.fld F.CSC_STAT.CSTATE = 4 ∧ t.csc.up = none ∧ t.fld (F.CSC_PORT_STAT.USE p) = 0 ∧
      logs s t C.CSC_TOPOLOGY (s.srcPort p) 0 ∧ regsBut s t [R.CSC_STAT, R.CSC_PORT_STAT p]) ∧
  (∀ (p : Fin 8) (s : State), s.formed = true → s.fld (F.CSC_PORT_STAT.USE p) = 2 → s.portUp p = true →
    (s.tick.toNat < (s.cport p).lastSync + 65536 → exec (.alignTracking p) s = .next s) ∧
    ((s.cport p).lastSync + 65536 ≤ s.tick.toNat → ∃ t f, exec (.alignTracking p) s = .next t ∧ t.csc.out = s.csc.out ++ [(p.val, .ctl 0x2D f)] ∧ f.toNat / 64 = s.tick.toNat % 2 ^ 18 ∧
      t.csc.ports = (s.setCport p { s.cport p with lastSync := s.tick.toNat }).csc.ports ∧
      t = { s with csc := { s.csc with out := t.csc.out, ports := t.csc.ports }, free := s.free + 1 })) ∧
  (∀ (p : Fin 8) (s : State), s.formed = false → exec (.alignTracking p) s = .next s)
/-- Slices of the self-test engine start, hand back or end with their verdicts, and abort; the Nightfall test starts, is refused and completes; repair
fuses are blown and voided (R504 to R507, R511, R515 to R521, R525 to R531).
It also rests on choices of the model: log entries 27, 67, 71, 73, 74, 75, 76. -/
def Obligations.SelfTestEngine : Prop :=
  (∀ (cl : Fin 256) (j : Fin 10) (d : Option (Fin 3)) (s : State), s.inService = true → s.nextSlice (cl.val / 32) = some (10 * cl.val + j.val) →
    s.bist.slices.length < 64 → (s.bist.slices.filter (fun x => x.cl / 32 == cl.val / 32)).length < s.stripeMax →
    (s.sliceParts cl j).1 ≠ .none → ((s.sliceParts cl j).2 ≠ .none ∨ j = 9) →
    ((s.sliceParts cl j).1 = .rotated → s.fckOn = true ∧ s.freezePends cl = false) →
    ∃ x, exec (.bistSliceStart cl j d) s = .next { s with bist := { s.bist with
        slices := s.bist.slices ++ [x], first := s.bist.first.filter (fun k => k != 10 * cl.val + j.val) } } ∧
      x.cl = cl.val ∧ x.j = j.val ∧ x.logic = (s.sliceParts cl j).1 ∧ x.chunk = (s.sliceParts cl j).2 ∧ x.back = none ∧ x.retest = false ∧
      x.logicEnd = none ∧ x.chunkEnd = false ∧
      x.takeover = (if (s.sliceParts cl j).1 = .rotated then some (s.tick + 1) else none)) ∧
  (∀ (cl : Fin 256) (j : Fin 10) (d : Option (Fin 3)) (s : State), s.regsWf → s.inService = true →
    s.nextSlice (cl.val / 32) = some (10 * cl.val + j.val) → s.bist.slices.length < 64 →
    (s.bist.slices.filter (fun x => x.cl / 32 == cl.val / 32)).length < s.stripeMax → s.sliceParts cl j = (.none, .none) → j ≠ 9 →
    ∃ t, exec (.bistSliceStart cl j d) s = .next t ∧ t.bist.slices = s.bist.slices ∧
      t.fld F.BIST_EVT_CNT.SKIPPED = min (s.fld F.BIST_EVT_CNT.SKIPPED + 2) 0xFFFF ∧ t.bit (F.BIST_CL.SKIP_SEEN cl) = true ∧
      regsBut s t [R.BIST_EVT_CNT, R.BIST_CL cl, R.BIST_PASS_CNT, R.BIST_PASS_TICK]) ∧
  (∀ (cl : Fin 256) (j : Fin 10) (d : Option (Fin 3)) (s : State), s.inService = false → exec (.bistSliceStart cl j d) s = .next s) ∧
  (∀ (cl : Fin 256) (j : Fin 10) (d : Option (Fin 3)) (s : State), s.nextSlice (cl.val / 32) ≠ some (10 * cl.val + j.val) →
    exec (.bistSliceStart cl j d) s = .next s) ∧
  (∀ (cl : Fin 256) (j : Fin 10) (s : State), s.cfg.load.isSome = true → cl.val ∈ s.cfg.waits →
    ((s.sliceParts cl j).1.isDirect = true ∨ (s.sliceParts cl j).2 ≠ .none) → s.nextSlice (cl.val / 32) ≠ some (10 * cl.val + j.val)) ∧
  (∀ (cl : Fin 256) (lo ch : PartEnd) (rows : List (Fin 256)) (sp : List (Fin 16)) (d : Option (Fin 3)) (x : BistSlice) (s : State),
    s.sliceIn cl = some x → x.takeover = none → x.back = none → s.bist.held = [] → x.cl = cl.val → x.logic = .rotated → x.chunk = .chunk →
    x.logicEnd = none → x.chunkEnd = false → lo.runs = false → ch.runs = false →
    lo.ok = true → 16384 ≤ lo.count.toNat → ch.ok = true → 5120 ≤ ch.count.toNat →
    ∃ t, exec (.bistSliceEnd cl lo ch rows sp d) s = .next t ∧
      t = { s with bist := { (s.putSlice cl (some { x with
        chunk := .none, back := some (s.tick + 1), differs := d.map (fun e => s.tick + 1 + BitVec.ofNat 64 e.val) })).bist with
        sparesOk := t.bist.sparesOk } } ∧
      (∀ k < 16, (k, s.fld (F.FAB_MREP.ROW cl k)) ∈ s.chunkSpares cl x.j → bitOf (t.sparesOk cl) k = true)) ∧
  (∀ (cl : Fin 256) (lo ch : PartEnd) (rows : List (Fin 256)) (sp : List (Fin 16)) (d : Option (Fin 3)) (x : BistSlice) (s : State), s.regsWf →
    s.sliceIn cl = some x → x.takeover = none → x.back = none → s.bist.held = [] → x.cl = cl.val → x.j < 9 → x.logic = .direct →
    x.chunk = .none → x.logicEnd = none → lo.runs = false → lo.ok = false →
    ∃ t, exec (.bistSliceEnd cl lo ch rows sp d) s = .next t ∧ bitOf (t.fld (F.BIST_CL.FAILED cl)) (sliceCell x.j) = true ∧
      t.fld F.BIST_LAST.VERDICT = 1 ∧ t.fld F.BIST_LAST.UNIT = cl.val ∧ t.fld F.BIST_LAST.KIND = 1 ∧ t.fld F.BIST_LAST.COUNT = lo.count.toNat ∧
      t.reg R.BIST_LAST_SIG = lo.sig ∧ t.reg R.BIST_LAST_TICK = s.tick ∧ t.bist.slices = (s.putSlice cl none).bist.slices ∧
      logs s t C.BIST_UNIT_FAIL (srcBist (bistPart 1 (sliceCell x.j) cl)) (t.reg R.BIST_LAST).toNat ∧
      regsBut s t [R.BIST_CL cl, R.BIST_LAST, R.BIST_LAST_SIG, R.BIST_LAST_TICK, R.BIST_PASS_CNT, R.BIST_PASS_TICK]) ∧
  (∀ (cl : Fin 256) (lo ch : PartEnd) (rows : List (Fin 256)) (sp : List (Fin 16)) (d : Option (Fin 3)) (x : BistSlice) (s : State), s.regsWf →
    s.sliceIn cl = some x → x.takeover = none → x.back = none → x.cl = cl.val → x.j < 9 → x.logic = .direct →
    x.chunk ≠ .none → x.logicEnd = none → x.chunkEnd = false → lo.runs = false → lo.ok = false → ch.runs = true →
    ∃ t, exec (.bistSliceEnd cl lo ch rows sp d) s = .next t ∧ bitOf (t.fld (F.BIST_CL.FAILED cl)) (sliceCell x.j) = true ∧
      t.bist = (s.putSlice cl (some { x with logicEnd := some 1 })).bist ∧
      logs s t C.BIST_UNIT_FAIL (srcBist (bistPart 1 (sliceCell x.j) cl)) (t.reg R.BIST_LAST).toNat ∧
      regsBut s t [R.BIST_CL cl, R.BIST_LAST, R.BIST_LAST_SIG, R.BIST_LAST_TICK]) ∧
  (∀ (cl : Fin 256) (lo ch : PartEnd) (r : Fin 256) (sp : List (Fin 16)) (d : Option (Fin 3)) (x : BistSlice) (s : State), s.regsWf →
    s.sliceIn cl = some x → x.takeover = none → x.back = none → s.bist.held = [] → x.cl = cl.val → x.j = r.val / 32 → x.logic = .none →
    x.chunk = .chunk → x.chunkEnd = false → ch.runs = false → ch.ok = false → s.chunkSpares cl x.j = [] →
    (∀ k : Fin 16, bitOf (s.sparesOk cl) k = true → bitOf (s.fld (F.BIST_CL.SPARE_BAD cl)) k = false → s.bit (F.FAB_MREP.EN cl k) = false →
      (∀ i < k.val, s.bit (F.FAB_MREP.EN cl i) = true ∨ bitOf (s.fld (F.BIST_CL.SPARE_BAD cl)) i = true) →
      ∃ t, exec (.bistSliceEnd cl lo ch [r] sp d) s = .next t ∧ t.bit (F.FAB_MREP.EN cl k) = true ∧ t.fld (F.FAB_MREP.ROW cl k) = r.val ∧
        t.fld F.BIST_LAST.VERDICT = 1 ∧ t.fld F.BIST_LAST.KIND = 3 ∧
        logs s t C.BIST_UNIT_FAIL (srcBist (bistPart 3 x.j cl)) (t.reg R.BIST_LAST).toNat) ∧
    ((∀ i < 16, s.bit (F.FAB_MREP.EN cl i) = true ∨ bitOf (s.fld (F.BIST_CL.SPARE_BAD cl)) i = true ∨ bitOf (s.sparesOk cl) i = false) →
      ∃ t, exec (.bistSliceEnd cl lo ch [r] sp d) s = .next t ∧ t.bit (F.BIST_CL.NOSPARE cl) = true ∧ (∀ i < 16,
        t.bit (F.FAB_MREP.EN cl i) = s.bit (F.FAB_MREP.EN cl i) ∧ t.fld (F.FAB_MREP.ROW cl i) = s.fld (F.FAB_MREP.ROW cl i)))) ∧
  (∀ (cl : Fin 256) (n : AbortEnd) (sig : Wide) (x : BistSlice) (s : State), s.regsWf → s.sliceIn cl = some x → x.back = none → x.logic = .direct →
    x.logicEnd = none → x.chunk = .none → x.cl = cl.val → s.cfg.load.isSome = true → cl.val ∈ s.cfg.waits → s.bist.held = [] →
    ∃ t, exec (.bistSliceAbort cl n sig) s = .next t ∧
      t.bist = { s.bist with slices := (s.putSlice cl none).bist.slices, first := (10 * cl.val + x.j) :: s.bist.first } ∧
      t.fld F.BIST_EVT_CNT.ABORTS = min (s.fld F.BIST_EVT_CNT.ABORTS + 1) 0xFFFF ∧ t.fld F.BIST_LAST.VERDICT = 2 ∧
      t.bit F.BIST_LAST.ABORT = true ∧ t.reg R.BIST_LAST_SIG = sig ∧
      logs s t C.BIST_SLICE_ABORTED (srcBist (bistPart 1 (sliceCell x.j) cl)) (t.reg R.BIST_LAST).toNat ∧
      regsBut s t [R.BIST_EVT_CNT, R.BIST_LAST, R.BIST_LAST_SIG, R.BIST_LAST_TICK]) ∧
  (∀ (cl : Fin 256) (n : AbortEnd) (sig : Wide) (x : BistSlice) (s : State), s.regsWf → s.sliceIn cl = some x → x.back = none → x.takeover = none →
    x.logic = .rotated → x.logicEnd ≠ some 1 → x.chunk ≠ .none → x.cl = cl.val → s.cfg.load.isSome = true → cl.val ∈ s.cfg.waits → s.bist.held = [] →
    ∃ t, exec (.bistSliceAbort cl n sig) s = .next t ∧ t.bist = { s.bist with
      slices := (s.putSlice cl (some { x with
        chunk := .none, chunkEnd := false, logicEnd := none, back := some (s.tick + 1),
        differs := n.differs.map (fun e => s.tick + 1 + BitVec.ofNat 64 e.val) })).bist.slices,
      first := (10 * cl.val + x.j) :: s.bist.first }) ∧
  (∀ (cl : Fin 256) (n : AbortEnd) (sig : Wide) (s : State), s.sliceIn cl = none → exec (.bistSliceAbort cl n sig) s = .next s) ∧
  (∀ (cl : Fin 256) (n : AbortEnd) (sig : Wide) (x : BistSlice) (s : State), s.sliceIn cl = some x → s.wanted x.cl x.logic.isDirect (x.chunk != .none) = false →
    exec (.bistSliceAbort cl n sig) s = .next s) ∧
  (∀ (req : Requester) (s : State), s.regsWf → accepted .nightfall s.glbState = true → s.bist.slices = [] →
    s.bist.held = [] → s.cfg.load = none →
    ∃ t, exec (.nightfall req) s = .next t ∧ t.dev = .ready ∧ t.bist.keyCut = false ∧ t.fld F.BIST_STAT.NF = 1 ∧ t.fld F.BIST_STAT.CMD_STATUS = 0 ∧ t.mem = s.mem) ∧
  (∀ (req : Requester) (s : State), s.regsWf → accepted .nightfall s.glbState = false →
    ∃ t, exec (.nightfall req) s = .next t ∧ t.fld F.BIST_STAT.CMD_STATUS = C.STATE_REFUSED ∧
      logs s t C.STATE_REFUSED (srcRequester req) (R.BIST_CMD + 2 ^ 32) ∧ onlyRegsLog s t [R.BIST_STAT]) ∧
  (∀ (a b c d : GroupEnd) (e : Wide) (s : State), s.regsWf → s.fld F.BIST_STAT.NF = 1 →
    ∃ t, exec (.nightfallComplete a b c d e) s = .next t ∧ t.fld F.BIST_STAT.NF = 2 ∧
      t.fld F.BIST_NF_STAT.RESULTS = groupVerdictOf a + 4 * groupVerdictOf b + 16 * groupVerdictOf c +
        64 * (if s.bist.keyCut then 2 else groupVerdictOf d) ∧
      t.fld (F.BIST_LEDGER.DATA 0) = 0x4C4E4D55 ∧ t.mem = s.mem ∧ t.fab = s.fab) ∧
  (∀ (a b c d : GroupEnd) (e : Wide) (s : State), s.fld F.BIST_STAT.NF ≠ 1 → exec (.nightfallComplete a b c d e) s = .next s) ∧
  (∀ (req : Requester) (s : State), s.regsWf → s.glbState = 3 → s.fld F.BIST_STAT.NF ≠ 1 →
    s.fld F.BIST_FUSE_STAT.USED + s.bist.blow.length < 64 →
    (∀ i < 64, s.recAhead i = 0 → (∀ j < i, s.recAhead j ≠ 0) → recordOk s.recsAhead s.sliceCount (s.fld F.BIST_FUSE_DATA.RECORD) = true →
      ∃ t, exec (.blow req) s = .next t ∧
        t.bist = { s.bist with blow := s.bist.blow ++ [(1, i, BitVec.ofNat 32 (s.fld F.BIST_FUSE_DATA.RECORD))] } ∧ t.bit F.BIST_FUSE_STAT.BUSY = true ∧
        t = { s with regs := t.regs, bist := t.bist } ∧ regsBut s t [R.BIST_FUSE_STAT]) ∧
    (recordOk s.recsAhead s.sliceCount (s.fld F.BIST_FUSE_DATA.RECORD) = false →
      ∃ t, exec (.blow req) s = .next t ∧ t.fld F.BIST_FUSE_STAT.STATUS = C.BIST_FUSE_INVALID ∧
        logs s t C.BIST_FUSE_INVALID (srcRequester req) (s.reg R.BIST_LAST).toNat ∧ onlyRegsLog s t [R.BIST_FUSE_STAT]) ∧
    (∀ i : Fin 64, s.recState i = 1 → (∀ b ∈ s.bist.blow, b.2.1 ≠ i.val) →
      ∃ t, exec (.void req i) s = .next t ∧ t.bist = { s.bist with blow := s.bist.blow ++ [(2, i.val, BitVec.ofNat 32 (s.recWord i))] } ∧
        t.bit F.BIST_FUSE_STAT.BUSY = true ∧ t = { s with regs := t.regs, bist := t.bist } ∧ regsBut s t [R.BIST_FUSE_STAT]) ∧
    (∀ i : Fin 64, s.recAhead i ≠ 1 →
      ∃ t, exec (.void req i) s = .next t ∧ t.fld F.BIST_FUSE_STAT.STATUS = C.BIST_FUSE_INVALID ∧
        logs s t C.BIST_FUSE_INVALID (srcRequester req) (s.reg R.BIST_LAST).toNat ∧ onlyRegsLog s t [R.BIST_FUSE_STAT])) ∧
  (∀ (i : Nat) (s : State), s.bist.blow = [] → s.recAhead i = s.recState i ∧ s.recsAhead = s.validRecs) ∧
  (∀ (req : Requester) (i : Fin 64) (s : State), s.regsWf → s.glbState = 3 → s.fld F.BIST_STAT.NF ≠ 1 →
    64 ≤ s.fld F.BIST_FUSE_STAT.USED + s.bist.blow.length →
    (∃ t, exec (.blow req) s = .next t ∧ t.fld F.BIST_FUSE_STAT.STATUS = C.BIST_FUSE_BUDGET ∧
      logs s t C.BIST_FUSE_BUDGET (srcRequester req) (s.reg R.BIST_LAST).toNat ∧ onlyRegsLog s t [R.BIST_FUSE_STAT]) ∧
    (∃ t, exec (.void req i) s = .next t ∧ t.fld F.BIST_FUSE_STAT.STATUS = C.BIST_FUSE_BUDGET ∧
      logs s t C.BIST_FUSE_BUDGET (srcRequester req) (s.reg R.BIST_LAST).toNat ∧ onlyRegsLog s t [R.BIST_FUSE_STAT])) ∧
  (∀ (req : Requester) (i : Fin 64) (s : State), s.regsWf → (s.glbState ≠ 3 ∨ s.fld F.BIST_STAT.NF = 1) →
    (∃ t, exec (.blow req) s = .next t ∧ t.fld F.BIST_FUSE_STAT.STATUS = C.STATE_REFUSED ∧
      logs s t C.STATE_REFUSED (srcRequester req) (R.BIST_FUSE_CMD + 2 ^ 32) ∧ onlyRegsLog s t [R.BIST_FUSE_STAT]) ∧
    (∃ t, exec (.void req i) s = .next t ∧ t.fld F.BIST_FUSE_STAT.STATUS = C.STATE_REFUSED ∧
      logs s t C.STATE_REFUSED (srcRequester req) (R.BIST_FUSE_CMD + 2 * 2 ^ 32) ∧ onlyRegsLog s t [R.BIST_FUSE_STAT])) ∧
  (∀ (i : Fin 64) (op : Nat) (r : Word) (rest : List (Nat × Nat × Word)) (s : State), s.regsWf → s.bist.blow = (op, i.val, r) :: rest → (op = 1 ∨ op = 2) →
    s.fld F.BIST_FUSE_STAT.USED < 127 →
    (∃ t, exec (.fuseBlowDone true) s = .next t ∧ t.recState i = op ∧ t.recWord i = r.toNat ∧ t.bit F.BIST_FUSE_STAT.BUSY = (rest != []) ∧
      t.fld F.BIST_FUSE_STAT.USED = s.fld F.BIST_FUSE_STAT.USED + 1 ∧ t.fld F.BIST_FUSE_STAT.STATUS = 0 ∧
      t = { s with regs := t.regs, bist := { s.bist with
        blow := rest,
        fuses := mset (fun _ => none) i.val (some (if op = 1 then ⟨r, Config.secded r, (s.fuseOf i).voids⟩ else { s.fuseOf i with voids := 7 }))
          s.bist.fuses } } ∧ regsBut s t [R.BIST_FUSE_STAT, R.BIST_FUSE_REC i]) ∧
    (∃ t, exec (.fuseBlowDone false) s = .next t ∧ t.recState i = 3 ∧ t.bist.blow = rest ∧ t.bit F.BIST_FUSE_STAT.BUSY = (rest != []) ∧
      t.fld F.BIST_FUSE_STAT.USED = s.fld F.BIST_FUSE_STAT.USED + 1 ∧ t.fld F.BIST_FUSE_STAT.STATUS = C.BIST_FUSE_BLOW_FAIL ∧
      logs s t C.BIST_FUSE_BLOW_FAIL 0 (s.reg R.BIST_LAST).toNat ∧ regsBut s t [R.BIST_FUSE_STAT, R.BIST_FUSE_REC i])) ∧
  (∀ d : Word, d ≠ 0 → (∀ v : BitVec 3, (popNat 3 v.toNat < 2 → (RepairFuse.mk d (Config.secded d) v).sense = (1, d)) ∧
    (2 ≤ popNat 3 v.toNat → (RepairFuse.mk d (Config.secded d) v).sense = (2, d)))) ∧
  (∀ (ok : Bool) (s : State), s.bist.blow = [] → exec (.fuseBlowDone ok) s = .next s)

/-- The error log takes reports in, writes full records of the first eight reports of a kind and summary records of the rest, and obeys ERR_CMD and
ERR_RPTR; it is mirrored; a fatal report latches ERR_FATAL and starts the dump, and the dump ends in a slot, in host memory or nowhere, after which an
automatic reset begins a start attempt (R535 to R541, R545, R551, R552, R555, R556, R558).
It also rests on choices of the model: log entries 85, 87, 88, 89. -/
def Obligations.ErrorLogAndDump : Prop :=
  (∀ (code : Half) (source : Word) (detail : Wide) (s : State), s.codeClass code.toNat ≠ .fatal →
    exec (.errorReport code source detail) s = .next { s with err := s.err.enter ⟨code, source, detail, s.tick, s.tick, 1, s.reportMore code.toNat source.toNat⟩ } ∧
    exec (.fatalReport code source detail) s = .next s) ∧
  (∀ (r p : ErrReport) (e : ErrState),
    (e.heldOf (reporterOf r.code.toNat r.detail.toNat) = none → e.intake.length < 64 → e.enter r = { e with intake := e.intake ++ [r] }) ∧
    (e.heldOf (reporterOf r.code.toNat r.detail.toNat) = some p → (p.code ≠ r.code ∨ p.source ≠ r.source) →
      e.enter r = { e with lost := min (e.lost + r.count) 0xFFFFFFFF })) ∧
  (∀ (r : ErrReport) (rs : List ErrReport) (s : State), s.err.intake = r :: rs → s.err.held = [] → s.err.kind r.code r.source = none →
    s.err.kinds.length < 1024 → 65 < s.ringFree → r.count = 1 → s.hif.window = true →
    ∃ t, exec .loggerTakeEntry s = .next t ∧ t.err.intake = rs ∧ t.err.wptr = s.err.wptr + 1 ∧ t.err.rptr = s.err.rptr ∧
      t.err.lost = s.err.lost ∧
      t.err.ring = mset (fun _ => none) (s.err.wptr.toNat % 4096) (some ⟨r.first, r.code, BitVec.ofNat 8 (s.codeClass r.code.toNat).code, r.source,
        r.detail, s.err.wptr, 1, r.more⟩) s.err.ring ∧
      t.err.kinds = s.err.kinds ++ [⟨r.code, r.source, r.first, r.last, 1, 1, 0, 0, 0, false⟩] ∧
      t = { s with err := t.err, hif := { s.hif with late := true } }) ∧
  (∀ (r : ErrReport) (rs : List ErrReport) (k : KindEntry) (s : State), s.err.intake = r :: rs → s.err.held = [] →
    s.err.kind r.code r.source = some k → k.full = 8 → r.count ≠ 0 → k.pending + r.count ≤ 0xFFFFFFFF → k.total + r.count ≤ 0xFFFFFFFF →
    ∃ t, exec .loggerTakeEntry s = .next t ∧ t.err.intake = rs ∧ t.err.wptr = s.err.wptr ∧ t.err.ring = s.err.ring ∧ t.err.lost = s.err.lost ∧
      t.err.kind r.code r.source = some { k with
        last := r.last, total := k.total + r.count, pfirst := (if k.pending = 0 then r.first else k.pfirst), plast := r.last,
        pending := k.pending + r.count } ∧ t = { s with err := t.err }) ∧
  (∀ (r : ErrReport) (rs : List ErrReport) (s : State), s.err.intake = r :: rs → s.err.held = [] → s.err.kind r.code r.source = none →
    1024 ≤ s.err.kinds.length →
    exec .loggerTakeEntry s = .next { s with err := { s.err with intake := rs, lost := min (s.err.lost + r.count) 0xFFFFFFFF } }) ∧
  (∀ s : State, s.err.intake = [] → exec .loggerTakeEntry s = .next s) ∧
  (∀ (req : Requester) (k : KindEntry) (s : State), s.regsWf → s.err.kinds = [k] → k.pending ≠ 0 → 65 < s.ringFree → s.hif.window = true →
    s.allows req .errCmd = true →
    (s.fld F.ERR_CFG.SUM_EXP ≠ 0 → s.tick.toNat % 2 ^ (s.fld F.ERR_CFG.SUM_EXP + 20) = 0 →
      ∃ t, exec .summaryPeriod s = .next t ∧ t.err.wptr = s.err.wptr + 1 ∧ t.err.kinds = [{ k with pending := 0, coalesced := true }] ∧
        t.err.ring = mset (fun _ => none) (s.err.wptr.toNat % 4096) (some ⟨k.pfirst, k.code,
          BitVec.ofNat 8 ((s.codeClass k.code.toNat).code + 4), k.source, k.plast, s.err.wptr, BitVec.ofNat 32 k.pending, 0⟩) s.err.ring ∧
        t = { s with err := t.err, hif := { s.hif with late := true } }) ∧
    (∃ t, exec (.errRoll req) s = .next t ∧ t.err.wptr = s.err.wptr + 1 ∧ t.err.kinds = [{ k with pending := 0, coalesced := true }] ∧
      t.fld F.ERR_STAT.CMD_STATUS = 0 ∧ regsBut s t [R.ERR_STAT]) ∧
    (∃ t, exec (.errClear req) s = .next t ∧ t.err.wptr = s.err.wptr + 1 ∧ t.err.kinds = [] ∧ t.err.lost = 0 ∧
      t.err.intake = s.err.intake ∧ t.fld F.ERR_STAT.CMD_STATUS = 0 ∧ regsBut s t [R.ERR_STAT])) ∧
  (∀ s : State, (s.fld F.ERR_CFG.SUM_EXP = 0 ∨ s.tick.toNat % 2 ^ (s.fld F.ERR_CFG.SUM_EXP + 20) ≠ 0) → exec .summaryPeriod s = .next s) ∧
  (∀ (req : Requester) (s : State), s.regsWf → s.allows req .errCmd = true → (∀ k ∈ s.err.kinds, k.pending = 0) →
    (∃ t, exec (.errRoll req) s = .next t ∧ t.fld F.ERR_STAT.CMD_STATUS = 0 ∧ onlyRegs s t [R.ERR_STAT]) ∧
    (∃ t, exec (.errClear req) s = .next t ∧ t.fld F.ERR_STAT.CMD_STATUS = 0 ∧ t.err = { s.err with kinds := [], lost := 0 } ∧
      t = { s with regs := t.regs, err := t.err } ∧ regsBut s t [R.ERR_STAT])) ∧
  (∀ (req : Requester) (s : State), s.regsWf → s.allows req .errCmd = false →
    (∃ t, exec (.errRoll req) s = .next t ∧ t.fld F.ERR_STAT.CMD_STATUS = C.STATE_REFUSED ∧
      logs s t C.STATE_REFUSED (srcRequester req) (R.ERR_CMD + 2 ^ 32) ∧ onlyRegsLog s t [R.ERR_STAT]) ∧
    (∃ t, exec (.errClear req) s = .next t ∧ t.fld F.ERR_STAT.CMD_STATUS = C.STATE_REFUSED ∧
      logs s t C.STATE_REFUSED (srcRequester req) (R.ERR_CMD + 2 * 2 ^ 32) ∧ onlyRegsLog s t [R.ERR_STAT]) ∧
    (∀ v : Word, ∃ t, exec (.errRptrWrite req v) s = .next t ∧ logs s t C.STATE_REFUSED (srcRequester req) R.ERR_RPTR ∧ onlyRegsLog s t [])) ∧
  (∀ (req : Requester) (s : State), s.regsWf →
    (s.allows req .errCmd = true → ∃ t, exec (.dumpAck req) s = .next t ∧ t.reg R.ERR_FATAL = 0 ∧ t.bit F.ERR_DUMP_STAT.SLOT0_VALID = false ∧
      t.bit F.ERR_DUMP_STAT.SLOT1_VALID = false ∧ t.fld F.ERR_STAT.CMD_STATUS = 0 ∧ onlyRegs s t [R.ERR_FATAL, R.ERR_DUMP_STAT, R.ERR_STAT]) ∧
    (s.allows req .errCmd = false → ∃ t, exec (.dumpAck req) s = .next t ∧ t.fld F.ERR_STAT.CMD_STATUS = C.STATE_REFUSED ∧
      logs s t C.STATE_REFUSED (srcRequester req) (R.ERR_CMD + 3 * 2 ^ 32) ∧ onlyRegsLog s t [R.ERR_STAT])) ∧
  (∀ (req : Requester) (v : Word) (s : State), s.allows req .errCmd = true →
    ((v - s.err.rptr).toNat ≤ (s.err.wptr - s.err.rptr).toNat →
      ∃ t, exec (.errRptrWrite req v) s = .next t ∧ t.err = { s.err with rptr := v } ∧ t = { s with regs := t.regs, err := t.err } ∧
        regsBut s t [R.ERR_STAT]) ∧
    ((s.err.wptr - s.err.rptr).toNat < (v - s.err.rptr).toNat →
      ∃ t, exec (.errRptrWrite req v) s = .next t ∧ logs s t C.STATE_REFUSED (srcRequester req) R.ERR_RPTR ∧ onlyRegsLog s t [])) ∧
  (∀ (st : Half) (s : State),
    (s.bit F.ERR_CFG.MIRROR = false → exec (.logMirror st) s = .next s) ∧
    (s.bit F.ERR_CFG.MIRROR = true → st.toNat ≠ C.MEM_CE → memStatus s 169 0x3F90000000 0x20008 true st.toNat = 0 →
      exec (.logMirror st) s = .next (s.unitWrite 169 0x3F90000000 (s.ringBytes ++ leBytes 4 s.err.wptr.toNat ++ leBytes 4 s.err.rptr.toNat))) ∧
    (s.bit F.ERR_CFG.MIRROR = true → st.toNat ≠ C.MEM_UE → memStatus s 169 0x3F90000000 0x20008 true st.toNat ≠ 0 →
      ∃ t, exec (.logMirror st) s = .next t ∧ logs s t C.ERR_MIRROR_FAIL (srcNi 169) 0 ∧ onlyRegsLog s t [])) ∧
  (∀ (code : Half) (source : Word) (detail : Wide) (s : State), s.regsWf → s.codeClass code.toNat = .fatal → (s.dev = .ready ∨ s.dev = .loaded) →
    s.devFault = false → s.fckOn = true → coreOf source.toNat = none → s.fld F.ERR_FATAL.CODE = 0 → s.bist.slices = [] → s.cfg.load = none →
    (∀ n < 16, s.siteActive n = false) → code ≠ 0 →
    ∃ t, exec (.fatalReport code source detail) s = .next t ∧ t.devFault = true ∧ t.fld F.ERR_FATAL.CODE = code.toNat ∧
      t.fld F.ERR_FATAL.SOURCE = source.toNat ∧ t.reg R.ERR_FATAL_TICK = s.tick ∧ t.dump.fatal = some (code.toNat, s.glbState, 0) ∧
      t.dump.stopAt = some (s.tick + 15) ∧ t.bit F.ERR_DUMP_STAT.BUSY = true ∧ t.mem = s.mem) ∧
  (∀ (code : Half) (source : Word) (detail : Wide) (s : State), s.codeClass code.toNat = .fatal → (s.dev = .fault ∧ s.fckOn = true ∨ s.dev = .twilight) →
    (coreOf source.toNat = none ∨ code.toNat ≠ C.ERR_FW_FATAL →
      exec (.fatalReport code source detail) s = .next { s with err := s.err.enter ⟨code, source, detail, s.tick, s.tick, 1, s.reportMore code.toNat source.toNat⟩ } ∧
      exec (.errorReport code source detail) s = .next { s with err := s.err.enter ⟨code, source, detail, s.tick, s.tick, 1, s.reportMore code.toNat source.toNat⟩ }) ∧
    (∀ m, coreOf source.toNat = some m → code.toNat = C.ERR_FW_FATAL → ∃ t, exec (.errorReport code source detail) s = .next t ∧
      exec (.fatalReport code source detail) s = .next t ∧ t.dump = { s.dump with cores := s.dump.cores ||| 2 ^ m } ∧ t = { s with err := t.err, dump := t.dump })) ∧
  (∀ (code : Half) (source : Word) (detail : Wide) (old before active : Nat) (s : State), s.regsWf → s.codeClass code.toNat = .fatal →
    (s.dev = .ready ∨ s.dev = .loaded) → s.devFault = true → s.dump.fatal = some (old, before, active) → coreOf source.toNat = none →
    (s.dump.stopAt = some (s.tick + 15) → code.toNat < old → code ≠ 0 → s.fld F.ERR_FATAL.CODE = old → s.reg R.ERR_FATAL_TICK = s.tick →
      (∀ n < 16, s.siteActive n = false) →
      ∃ t, exec (.fatalReport code source detail) s = .next t ∧ t.dump = { s.dump with fatal := some (code.toNat, before, active) } ∧
        t.fld F.ERR_FATAL.CODE = code.toNat ∧ t.fld F.ERR_FATAL.SOURCE = source.toNat ∧ regsBut s t [R.ERR_FATAL]) ∧
    ((s.dump.stopAt ≠ some (s.tick + 15) ∨ old ≤ code.toNat) →
      exec (.fatalReport code source detail) s = .next { s with err := s.err.enter ⟨code, source, detail, s.tick, s.tick, 1, s.reportMore code.toNat source.toNat⟩ })) ∧
  (∀ (a b : Half) (code before act dest at_ : Nat) (s : State), s.regsWf → s.dump.fatal = some (code, before, act) → s.dev = .fault →
    s.dump.cores % 4 ≠ 3 → s.err.kinds = [] → s.bit F.HIF_EVQ_CTRL.EN = false →
    (s.dumpDest s.dumpNi a.toNat b.toNat = (dest, false, at_) → dest < 2 →
      ∃ t, exec (.dumpComplete a b) s = .next t ∧ t.dump = { s.dump with fatal := none } ∧ t.fld F.ERR_DUMP_STAT.STATUS = 0 ∧
        t.fld F.ERR_DUMP_STAT.DEST = dest ∧ t.bit F.ERR_DUMP_STAT.BUSY = false ∧
        t.fld F.ERR_DUMP_STAT.SEQ = min (s.fld F.ERR_DUMP_STAT.SEQ + 1) 255 ∧
        (dest = 0 → t.bit F.ERR_DUMP_STAT.SLOT0_VALID = true) ∧ (dest = 1 → t.bit F.ERR_DUMP_STAT.SLOT1_VALID = true) ∧
        wroteAt s t s.dumpNi at_ (s.dumpImage (min (s.fld F.ERR_DUMP_STAT.SEQ + 1) 255) dest before act) ∧
        t.msix = (s.signal 0).msix ∧ regsBut s t [R.ERR_DUMP_STAT]) ∧
    (s.dumpDest s.dumpNi a.toNat b.toNat = (2, true, at_) →
      ∃ t, exec (.dumpComplete a b) s = .next t ∧ t.dump = { s.dump with fatal := none } ∧ t.fld F.ERR_DUMP_STAT.STATUS = 0 ∧
        t.fld F.ERR_DUMP_STAT.DEST = 2 ∧ t.bit F.ERR_DUMP_STAT.BUSY = false ∧
        t.fld F.ERR_DUMP_STAT.SEQ = min (s.fld F.ERR_DUMP_STAT.SEQ + 1) 255 ∧ at_ = s.fld F.ERR_DUMP_HOST.ADDR * 4096 ∧
        t.bit F.ERR_DUMP_STAT.SLOT0_VALID = s.bit F.ERR_DUMP_STAT.SLOT0_VALID ∧
        t.bit F.ERR_DUMP_STAT.SLOT1_VALID = s.bit F.ERR_DUMP_STAT.SLOT1_VALID ∧
        (∀ u, u = s.report C.ERR_DUMP_DIVERTED (srcCore (s.dumpNi - 169)) 0 →
          wroteAt s t s.dumpNi at_ (u.dumpImage (min (s.fld F.ERR_DUMP_STAT.SEQ + 1) 255) 2 before act)) ∧
        logs s t C.ERR_DUMP_DIVERTED (srcCore (s.dumpNi - 169)) 0 ∧ t.msix = (s.signal 0).msix ∧ regsBut s t [R.ERR_DUMP_STAT]) ∧
    (∀ dv, s.dumpDest s.dumpNi a.toNat b.toNat = (3, dv, at_) →
      ∃ t, exec (.dumpComplete a b) s = .next t ∧ t.fld F.ERR_DUMP_STAT.DEST = 3 ∧ t.fld F.ERR_DUMP_STAT.STATUS = C.ERR_DUMP_FAIL ∧
        t.bit F.ERR_DUMP_STAT.BUSY = false ∧ t.dump = { s.dump with fatal := none, failLog := true } ∧ t.mem = s.mem ∧
        regsBut s t [R.ERR_DUMP_STAT])) ∧
  (∀ (a b : Half) (s : State), s.dump.fatal = none → exec (.dumpComplete a b) s = .next s) ∧
  (∀ s : State, s.regsWf →
    (s.dumpDone = true → s.bit F.ERR_CFG.AUTO_RESET = true → ∃ t, exec .dumpAutoReset s = .next t ∧ attempt s t 8 ∧ cleared t ∧ (t.dev = .boot → t.mem = s.mem)) ∧
    (s.dumpDone = false → exec .dumpAutoReset s = .next s))
namespace Sys2Proof.Claims

/-- The link of `s` is gone in `t` and the host's queue state with it; commands in progress have lost their completions (R567, R594). -/
def linkGone (s t : State) (seen : Fld) : Prop :=
  t.bit F.HIF_LINK.UP = false ∧ t.bit seen = true ∧ t.msix = { Msix.reset with sent := s.msix.sent } ∧
  t.hif = { s.hif with cmds := s.hif.cmds.map (fun c => { c with lost := true }), uplSeq := [], space := ConfigSpace.reset } ∧
  (∀ o ∈ queueRegs, t.reg o = resetVal o) ∧ t = { s with regs := t.regs, err := t.err, msix := t.msix, hif := t.hif } ∧
  regsBut s t (R.HIF_LINK :: queueRegs)

/-- The command `c` of `s` is carried out in `t` with the answer `a`. -/
def carried (s t : State) (c : HifCmd) (a : Option (Nat × Nat)) : Prop :=
  t.hif = { s.hif with cmds := replaceCmd c (some { c with acted := true, answer := a }) s.hif.cmds }

end Sys2Proof.Claims

/-- The PCIe link comes up, goes down, is reset, and carries a warm reset of the host; its events, the event queue and stream upload work as R563 to
R569, R579 to R583 and R595 say.
It also rests on choices of the model: log entries 92, 96. -/
def Obligations.HostLinkEventsAndUpload : Prop :=
  (∀ s : State, s.regsWf → s.noc.reqs = [] → s.bit F.HIF_CFG.HOLD_ON_LINK = false →
    (s.bit F.HIF_LINK.UP = true →
      (∃ t, exec .perst s = .next t ∧ linkGone s t F.HIF_LINK.HOTRST_SEEN ∧ logs s t C.HIF_LINK_DOWN (srcNi 168) 1) ∧
      (∃ t, exec .hotReset s = .next t ∧ linkGone s t F.HIF_LINK.HOTRST_SEEN ∧ logs s t C.HIF_LINK_DOWN (srcNi 168) 1) ∧
      (∃ t, exec .linkDown s = .next t ∧ linkGone s t F.HIF_LINK.DOWN_SEEN ∧ logs s t C.HIF_LINK_DOWN (srcNi 168) 0)) ∧
    (s.bit F.HIF_LINK.UP = false → (∃ t, exec .perst s = .next t ∧ linkGone s t F.HIF_LINK.HOTRST_SEEN ∧ t.err = s.err) ∧
      exec .hotReset s = .next s ∧ exec .linkDown s = .next s)) ∧
  (∀ s : State, s.regsWf → s.noc.reqs = [] → s.bit F.HIF_CFG.HOLD_ON_LINK = true → s.bit F.HIF_LINK.UP = true →
    ∃ t, exec .linkDown s = .next t ∧ t.bit F.HIF_LINK.UP = false ∧
      ∀ n < 16, s.siteActive n = true → (s.getPsq n).next = none → (t.getPsq n).next = some (.hold C.HIF_LINK_DOWN)) ∧
  (∀ (sp w : Fin 5) (on bm : Bool) (s : State), s.regsWf → s.dev ≠ .off → s.dev ≠ .boot →
    ∃ t, exec (.pcieLinkUp sp w on bm) s = .next t ∧ t.bit F.HIF_LINK.UP = true ∧ t.fld F.HIF_LINK.SPEED = sp.val + 1 ∧
      t.fld F.HIF_LINK.WIDTH = 2 ^ w.val ∧ t.bit F.HIF_LINK.NARROW = decide (w.val < 2) ∧
      t.msix = ({ s with msix := { s.msix with enabled := on, busMaster := bm } } : State).flushVectors.msix ∧
      t = { s with regs := t.regs, msix := t.msix } ∧ regsBut s t [R.HIF_LINK]) ∧
  (∀ (m : Msix) (s : State), s.msix = m → m.pba = [] → s.flushVectors = s) ∧
  (∀ (v : Nat) (s : State), s.msix.pba = [(v, true)] → v < 256 → s.msix.enabled = true → s.msix.fmask = false →
    (mget (fun k => if k % 4 = 3 then 1 else 0) (4 * v + 3) s.msix.table : Word).toNat % 2 = 0 →
    s.flushVectors.msix = { s.msix with pba := [], sent := mset (fun _ => 0) v (mget (fun _ => 0) v s.msix.sent + 1) s.msix.sent }) ∧
  (∀ (sp w : Fin 5) (on bm : Bool) (s : State), s.regsWf → s.dev = .boot → s.sec.testHold = false → s.sec.fwBad = none →
    s.fld F.SEC_BOOT_STAT.STAGE < 2 →
    ∃ t, exec (.pcieLinkUp sp w on bm) s = .next t ∧ t.bit F.HIF_LINK.UP = true ∧ t.fld F.SEC_BOOT_STAT.STAGE = 2 ∧ t.hif = { s.hif with retry := false } ∧
      bitOf (t.fld F.PWR_DOM_STAT.ON) 3 = true ∧ bitOf (t.fld F.PWR_DOM_STAT.ON) 18 = true ∧ t.dev = .boot ∧
      regsBut s t [R.HIF_LINK, R.SEC_BOOT_STAT, R.PWR_DOM_STAT]) ∧
  (∀ (st : Word) (s : State), ∃ t, exec (.aerUncorrectable st) s = .next t ∧ logs s t C.HIF_AER_UNCORR (srcNi 168) st.toNat ∧
    t = { s with err := t.err, hif := { s.hif with space := { s.hif.space with aer := s.hif.space.aer ||| st } } }) ∧
  (∀ (v : Word) (req : Requester) (s : State), s.regsWf → s.dev ≠ .off → s.dev ≠ .boot → s.sec.testHold = false → s.aux.xspi = none →
    (∃ t, exec .flr s = .next t ∧ attempt s t 6 ∧ cleared t ∧ t.mem = s.mem ∧ t.hif.retry = true) ∧
    (v.toNat / 2 ^ 24 = 0xC3 → bitOf v.toNat 0 = true → ∃ t, exec (.hifResetWrite req v) s = .next t ∧ attempt s t 6 ∧ cleared t ∧ t.mem = s.mem)) ∧
  (∀ (v : Word) (req : Requester) (s : State), v.toNat / 2 ^ 24 ≠ 0xC3 → exec (.hifResetWrite req v) s = .next s) ∧
  (∀ s : State, (s.hif.window = true → s.hif.late = false → exec .elogEventWindow s = .next { s with hif := { s.hif with window := false } }) ∧
    (s.hif.window = true → s.hif.late = true → s.bit F.HIF_EVQ_CTRL.EN = false →
      exec .elogEventWindow s = .next { s.signal 1 with hif := { s.hif with window := s.fld F.HIF_CFG.ELOG_US != 0, late := false } }) ∧
    (s.hif.window = false → exec .elogEventWindow s = .next s)) ∧
  (∀ (req : Requester) (v : Word) (s : State), s.regsWf →
    ∃ t, exec (.evqEnable req v) s = .next t ∧ t.bit F.HIF_EVQ_CTRL.EN = bitOf v.toNat 31 ∧
      t.fld F.HIF_EVQ_CTRL.SIZE_EXP = v.toNat / 2 ^ 16 % 16 ∧ (bitOf v.toNat 31 = true → t.reg R.HIF_EVQ_PTR = 0) ∧
      (bitOf v.toNat 31 = false → t.reg R.HIF_EVQ_PTR = s.reg R.HIF_EVQ_PTR) ∧ onlyRegs s t [R.HIF_EVQ_CTRL, R.HIF_EVQ_PTR]) ∧
  (∀ (req : Requester) (j : Fin 8) (v : Word) (s : State), s.regsWf →
    ∃ t, exec (.uploadEnable req j v) s = .next t ∧ t.bit (F.HIF_UPL_CTRL.EN j) = bitOf v.toNat 31 ∧
      t.fld (F.HIF_UPL_CTRL.SIZE_EXP j) = v.toNat / 2 ^ 16 % 32 ∧ (bitOf v.toNat 31 = true → t.reg (R.HIF_UPL_PTR j) = 0) ∧
      (bitOf v.toNat 31 = true → s.bit (F.HIF_UPL_CTRL.EN j) = false → t.bit (F.HIF_UPL_CTRL.STOPPED j) = false) ∧
      t = { s with regs := t.regs, hif := t.hif } ∧ regsBut s t [R.HIF_UPL_CTRL j, R.HIF_UPL_PTR j]) ∧
  (∀ (j : Fin 8) (s : State), s.regsWf → s.dev ≠ .off → (s.stream j).headComplete = true → s.bit (F.FCQ_SQ_CFG.EN j) = true →
    s.bit (F.FCQ_SQ_CFG.CONSUMER j) = true → (s.stream j).reset = false → s.bit (F.HIF_UPL_CTRL.EN j) = true →
    s.bit (F.HIF_UPL_CTRL.STOPPED j) = false →
    let size := 2 ^ s.fld (F.HIF_UPL_CTRL.SIZE_EXP j)
    let w := s.fld (F.HIF_UPL_PTR.WPTR j)
    let n := 8 + (4 * (frontPacket (s.stream j).items).length + 7) / 8 * 8
    let a := s.fld (F.HIF_UPL_BASE.ADDR j) * 4096 + w % size
    w % size + n ≤ size → (w + 2 ^ 32 - s.fld (F.HIF_UPL_PTR.RPTR j)) % 2 ^ 32 + n ≤ size → memStatus s 152 a n true 0 = 0 →
    ∃ t, exec (.uploadPacket j 0 false) s = .next t ∧ t.fld (F.HIF_UPL_PTR.WPTR j) = (w + n) % 2 ^ 32 ∧
      t.streams = (s.streamLeft j (afterPacket (s.stream j).items) 0).streams ∧
      t.hif = { s.hif with uplSeq := mset (fun _ => 0) j.val ((s.uplNext j + 1) % 2 ^ 32) s.hif.uplSeq } ∧
      t.hmem = ((s.streamLeft j (afterPacket (s.stream j).items) 0).unitWrite 152 a
        (uploadHeader (frontPacket (s.stream j).items).length j (leBytes 4 (s.uplNext j)) ++
          padTo (n - 8) ((frontPacket (s.stream j).items).flatMap (fun i => leBytes 4 i.data.toNat)))).hmem) ∧
  (∀ (j : Fin 8) (st : Half) (irq : Bool) (s : State), s.bit (F.HIF_UPL_CTRL.STOPPED j) = true → exec (.uploadPacket j st irq) s = .next s)

/-- Command queues of the host: enabling, doorbells and overruns, starting a command, what each command does, and its completion (R571 to R578, R594).
It also rests on choices of the model: log entries 90, 91, 94, 95. -/
def Obligations.HostCommandQueues : Prop :=
  (∀ (req : Requester) (q : Fin 8) (v : Word) (s : State), s.regsWf →
    (bitOf v.toNat 31 = true → s.fld (F.HIF_CMQ_CTRL.STATE q) ≠ 2 →
      ∃ t, exec (.cmqEnable req q v) s = .next t ∧ t.fld (F.HIF_CMQ_CTRL.STATE q) = 1 ∧ t.bit (F.HIF_CMQ_CTRL.EN q) = true ∧
        t.fld (F.HIF_CMQ_CTRL.SIZE_EXP q) = v.toNat / 2 ^ 16 % 16 ∧ t.reg (R.HIF_CMQ_PTR q) = 0 ∧ t.reg (R.HIF_CPQ_PTR q) = 0 ∧
        onlyRegs s t [R.HIF_CMQ_CTRL q, R.HIF_CMQ_PTR q, R.HIF_CPQ_PTR q]) ∧
    (bitOf v.toNat 31 = false →
      ∃ t, exec (.cmqEnable req q v) s = .next t ∧ t.fld (F.HIF_CMQ_CTRL.STATE q) = 0 ∧ t.bit (F.HIF_CMQ_CTRL.EN q) = false ∧
        onlyRegs s t [R.HIF_CMQ_CTRL q])) ∧
  (∀ (req : Requester) (q : Fin 8) (v : Half) (s : State), s.regsWf →
    (ringUsed v.toNat (s.fld (F.HIF_CMQ_PTR.HEAD q)) ≤ s.ringSize q →
      ∃ t, exec (.cmqDoorbell req q v) s = .next t ∧ t.fld (F.HIF_CMQ_PTR.TAIL q) = v.toNat ∧
        t.fld (F.HIF_CMQ_PTR.HEAD q) = s.fld (F.HIF_CMQ_PTR.HEAD q) ∧ onlyRegs s t [R.HIF_CMQ_PTR q]) ∧
    (s.ringSize q < ringUsed v.toNat (s.fld (F.HIF_CMQ_PTR.HEAD q)) →
      ∃ t, exec (.cmqDoorbell req q v) s = .next t ∧ t.fld (F.HIF_CMQ_CTRL.STATE q) = 2 ∧
        logs s t C.HIF_CQ_OVERFLOW (srcNi 168) (v.toNat + q * 2 ^ 16) ∧ t.msix = (s.signal 3).msix ∧ regsBut s t [R.HIF_CMQ_CTRL q]) ∧
    (ringUsed v.toNat (s.fld (F.HIF_CPQ_PTR.HEAD q)) ≤ ringUsed (s.fld (F.HIF_CPQ_PTR.TAIL q)) (s.fld (F.HIF_CPQ_PTR.HEAD q)) →
      ∃ t, exec (.cpqHeadWrite req q v) s = .next t ∧ t.fld (F.HIF_CPQ_PTR.HEAD q) = v.toNat ∧
        t.fld (F.HIF_CPQ_PTR.TAIL q) = s.fld (F.HIF_CPQ_PTR.TAIL q) ∧ onlyRegs s t [R.HIF_CPQ_PTR q]) ∧
    (ringUsed (s.fld (F.HIF_CPQ_PTR.TAIL q)) (s.fld (F.HIF_CPQ_PTR.HEAD q)) < ringUsed v.toNat (s.fld (F.HIF_CPQ_PTR.HEAD q)) →
      ∃ t, exec (.cpqHeadWrite req q v) s = .next t ∧ t.fld (F.HIF_CMQ_CTRL.STATE q) = 2 ∧
        logs s t C.HIF_CQ_OVERFLOW (srcNi 168) (v.toNat + q * 2 ^ 16 + 2 ^ 20) ∧ t.msix = (s.signal 3).msix ∧ regsBut s t [R.HIF_CMQ_CTRL q])) ∧
  (∀ (q : Fin 8) (s : State), s.regsWf → s.hostServed = true → s.fld (F.HIF_CMQ_CTRL.STATE q) = 1 →
    s.fld (F.HIF_CMQ_PTR.HEAD q) ≠ s.fld (F.HIF_CMQ_PTR.TAIL q) →
    ringUsed (s.fld (F.HIF_CPQ_PTR.TAIL q)) (s.fld (F.HIF_CPQ_PTR.HEAD q)) + (s.started q).length < s.ringSize q →
    let a := s.fld (F.HIF_CMQ_BASE.ADDR q) * 4096 + 64 * (s.fld (F.HIF_CMQ_PTR.HEAD q) % s.ringSize q)
    let c : HifCmd := ⟨q.val, s.dpaBytes a 64, (s.fld (F.HIF_CMQ_PTR.HEAD q) + 1) % 65536, false, none, false⟩
    memStatus s 169 a 64 false 0 = 0 → (bitOf (c.field 1 1) 0 = false ∨ s.started q = []) →
    (c.field 0 1 ≤ 6 → c.wellFormed = true →
      ∃ t, exec (.cmdStart q 0) s = .next t ∧ t.hif = { s.hif with cmds := s.hif.cmds ++ [c] } ∧
        t.fld (F.HIF_CMQ_PTR.HEAD q) = c.head ∧ t = { s with regs := t.regs, noc := hostNoc s t, hif := t.hif, free := s.free + 1 } ∧
        regsBut s t [R.HIF_CMQ_PTR q]) ∧
    (6 < c.field 0 1 →
      ∃ t r, exec (.cmdStart q 0) s = .next t ∧
        t.hif = { s.hif with cmds := s.hif.cmds ++ [{ c with acted := true, answer := some (C.HIF_CMD_UNKNOWN, r) }] } ∧
        logs s t C.HIF_CMD_UNKNOWN (srcNi 168) (c.cid + q * 2 ^ 16) ∧ regsBut s t [R.HIF_CMQ_PTR q]) ∧
    (c.field 0 1 ≤ 6 → c.wellFormed = false →
      ∃ t r, exec (.cmdStart q 0) s = .next t ∧
        t.hif = { s.hif with cmds := s.hif.cmds ++ [{ c with acted := true, answer := some (C.HIF_CMD_MALFORMED, r) }] } ∧
        logs s t C.HIF_CMD_MALFORMED (srcNi 168) (c.cid + q * 2 ^ 16) ∧ regsBut s t [R.HIF_CMQ_PTR q])) ∧
  (∀ (q : Fin 8) (st : Half) (s : State), s.fld (F.HIF_CMQ_CTRL.STATE q) ≠ 1 → exec (.cmdStart q st) s = .next s) ∧
  (∀ (q : Fin 8) (c : HifCmd) (s : State), s.nextCmd q 0 = some c → c.lost = false →
    ∃ t, exec (.cmdNop q) s = .next t ∧ carried s t c (some (0, 0)) ∧ t = { s with hif := t.hif }) ∧
  (∀ (q : Fin 8) (c : HifCmd) (s : State), s.nextCmd q 1 = some c → c.lost = false → c.field 8 1 = 1 →
    ∃ t u, exec (.cmdRegWr q) s = .next t ∧ u = s.fullWrite .host (c.field 16 4) false (BitVec.ofNat 64 (c.field 20 4)) ∧
      carried u t c (some (0, 0)) ∧ t = { u with hif := t.hif }) ∧
  (∀ (q : Fin 8) (c : HifCmd) (s : State), s.nextCmd q 2 = some c → c.lost = false → bitOf (c.field 12 1) 0 = false →
    ∃ t u, exec (.cmdRegRd q) s = .next t ∧ u = s.barRead .host (c.field 8 4) false ∧ carried u t c (some (0, u.rdata.toNat % 2 ^ 32)) ∧
      t = { u with hif := t.hif, rdata := s.rdata }) ∧
  (∀ (q : Fin 8) (n : Word) (c : HifCmd) (s : State), s.nextCmd q 3 = some c → c.lost = false →
    let src := c.field 8 8
    let dst := c.field 16 8
    let len := c.field 24 4
    (copyRights false src (len / 64) = true → copyRights true dst (len / 64) = true →
      s.copyStop src dst 0 (len / 64) = none → (dst + len ≤ src ∨ src + len ≤ dst) →
      ∃ t u, exec (.cmdCopy q 0 n) s = .next t ∧ u = s.unitWrite 169 dst (s.dpaBytes src len) ∧ carried s t c (some (0, len)) ∧
        t = { u with noc := hostNoc u t, hif := t.hif, free := s.free + 1 }) ∧
    (∀ x k at_, copyRights false src (len / 64) = true → copyRights true dst (len / 64) = true →
      s.copyStop src dst 0 (len / 64) = some (at_, x, k) → (dst + len ≤ src ∨ src + len ≤ dst) →
      ∃ t u, exec (.cmdCopy q 0 n) s = .next t ∧ u = s.unitWrite 169 dst (s.dpaBytes src at_) ∧ carried s t c (some (k, at_)) ∧
        t.mem = u.mem ∧ t.hmem = u.hmem ∧ (∀ o, t.reg o = s.reg o)) ∧
    (copyRights false src (len / 64) = true → copyRights true dst (len / 64) = true →
      s.copyStop src dst 0 (len / 64) = none → (dst + len ≤ src ∨ src + len ≤ dst) → n.toNat ≤ len →
      ∃ t u, exec (.cmdCopy q (BitVec.ofNat 16 C.MEM_UE) n) s = .next t ∧ u = s.unitWrite 169 dst (s.dpaBytes src n.toNat) ∧
        carried s t c (some (C.MEM_UE, n.toNat)) ∧ t.mem = u.mem ∧ t.hmem = u.hmem ∧ ∀ o, t.reg o = s.reg o) ∧
    ((copyRights false src (len / 64) = false ∨ copyRights true dst (len / 64) = false) →
      ∃ t, exec (.cmdCopy q 0 n) s = .next t ∧ carried s t c (some (C.NOC_ADDR_PROTECTED, 0)) ∧
        logs s t C.NOC_ADDR_PROTECTED (srcNi 169) ((if copyRights false src (len / 64) then dst else src) + 169 * 2 ^ 48) ∧
        t = { s with err := t.err, hif := t.hif })) ∧
  (∀ (q : Fin 8) (c : HifCmd) (s : State), s.nextCmd q 4 = some c → c.lost = false →
    ∃ t u v, exec (.cmdCfgLoad q) s = .next t ∧
      u = (s.setReg R.CFG_SRC_ADDR (BitVec.ofNat 64 (c.field 8 8))).setFld F.CFG_SRC_LEN.BYTES (c.field 16 4) ∧
      v = u.startLoad .host (c.field 20 1 / 4 % 2) (bitOf (c.field 20 1) 0) (bitOf (c.field 20 1) 1) (c.field 8 8) (c.field 16 4) ∧
      t = { v with hif := t.hif } ∧
      (s.cfg.load = none → s.cfg.chain = none → v.cfg.load.isSome = true → carried v t c none) ∧
      ((s.cfg.load.isSome = true ∨ v.cfg.load = none ∧ v.cfg.chain = none) →
        carried v t c (some (v.fld F.CFG_STAT.STATUS, (v.reg R.CFG_FAIL_INFO).toNat)))) ∧
  (∀ (q : Fin 8) (n : Fin 16) (c : HifCmd) (s : State), s.nextCmd q 5 = some c → c.lost = false → c.field 9 1 = 0 → c.field 10 2 = 2 ^ n.val →
    ∃ t u, exec (.cmdSiteCmd q) s = .next t ∧ u = s.psqCmdWrite .host n (c.field 8 1) ∧ t = { u with hif := t.hif } ∧
      carried u t c none) ∧
  (∀ (n : Fin 16) (c : HifCmd) (s : State), c.acted = true → c.answer = none → c.field 0 1 = 5 → c.field 10 2 = 2 ^ n.val →
    s.siteAnswer c = (s.fld (F.PSQ_STAT.CMD_STATUS n), if s.fld (F.PSQ_STAT.CMD_STATUS n) = 0 then 2 ^ n.val else 0) ∧
    (s.fckOn = true → s.cmdAnswer c = none) ∧
    (s.hif.cmds = [c] → s.bist.held = [] → s.siteAnswers = { s with hif := { s.hif with cmds := [{ c with answer := some (s.siteAnswer c) }] } })) ∧
  (∀ (q : Fin 8) (st : Half) (c : HifCmd) (s : State), s.nextCmd q 6 = some c → c.lost = false →
    ∃ t u, exec (.cmdSlvCmd q st) s = .next t ∧
      u = (s.setReg R.SLV_CMD_ARG (BitVec.ofNat 64 (c.field 8 8))).slvCmdWrite .host (c.field 16 4) st ∧ t = { u with hif := t.hif } ∧
      (s.bit F.SLV_CMD_STAT.BUSY = false → u.bit F.SLV_CMD_STAT.BUSY = true → carried u t c none) ∧
      ((s.bit F.SLV_CMD_STAT.BUSY = true ∨ u.bit F.SLV_CMD_STAT.BUSY = false) → carried u t c (some (C.STATE_REFUSED, 0)))) ∧
  (∀ (q : Fin 8) (cid : Half) (c : HifCmd) (st res : Nat) (s : State), s.regsWf →
    (s.started q).find? (fun d => d.cid == cid.toNat && (s.cmdAnswer d).isSome) = some c → s.cmdAnswer c = some (st, res) →
    let tail := s.fld (F.HIF_CPQ_PTR.TAIL q)
    let a := s.fld (F.HIF_CPQ_BASE.ADDR q) * 4096 + 16 * (tail % s.ringSize q)
    memStatus s 169 a 16 true 0 = 0 →
    ∃ t, exec (.cmdComplete q cid 0) s = .next t ∧ wroteAt s t 169 a (c.completion st res (tail / s.ringSize q % 2 == 0)) ∧
      t.fld (F.HIF_CPQ_PTR.TAIL q) = (tail + 1) % 65536 ∧
      t.hif = { s.hif with cmds := replaceCmd c none s.hif.cmds } ∧
      t.msix = (if bitOf (c.field 1 1) 1 ∨ st ≠ 0 then (s.signal (4 + q.val)).msix else s.msix) ∧ regsBut s t [R.HIF_CPQ_PTR q]) ∧
  (∀ (q : Fin 8) (cid st : Half) (s : State), s.hif.cmds = [] → exec (.cmdComplete q cid st) s = .next s)
namespace Sys2Proof.Claims

/-- `o` is what the flash command with OP `op + 1` answers: xspiRead, xspiProgram, xspiErase4k or xspiErase64k. -/
def flashAnswers (op : Fin 4) (req : Requester) (s : State) (o : Host.Outcome State Fault Refusal) : Prop :=
  match op with
  | 0 => exec (.xspiRead req) s = o
  | 1 => exec (.xspiProgram req) s = o
  | 2 => exec (.xspiErase4k req) s = o
  | 3 => exec (.xspiErase64k req) s = o

end Sys2Proof.Claims

/-- The sideband ports: partners join and are polled, I3C transfers and flash commands start, end and are refused (R584 to R590, R596).
It also rests on choices of the model: log entries 12, 98, 99, 141. -/
def Obligations.SidebandPorts : Prop :=
  (∀ (bus : Bool) (pid : BitVec 48) (bcr dcr x : Byte) (desc : BitVec 128) (e : Nat) (s : State), s.regsWf → s.dev ≠ .off → s.dev ≠ .twilight →
    bitOf (s.fld F.AUX_I3C_CFG.BUS_EN) (b2n bus) = true → (∀ i < 64, s.ptState i = 2 → s.ptPid i ≠ pid.toNat) →
    s.bit F.AUX_I3C_XFER.BUSY = false → s.joinEntry pid.toNat = some e → dynamicAddr x.toNat = true →
    (∀ i < 64, s.ptState i = 2 → s.ptByte i 11 = b2n bus → s.ptByte i 10 ≠ x.toNat) →
    (descValid desc = true → s.bit F.HIF_EVQ_CTRL.EN = false →
      ∃ t, exec (.hotJoin bus pid bcr dcr desc (some x)) s = .next t ∧ t.ptState e = 2 ∧ t.ptPid e = pid.toNat ∧ t.ptGen e = nextGen (s.ptGen e) ∧
        t.ptByte e 10 = x.toNat ∧ t.ptByte e 11 = b2n bus ∧ logs s t C.AUX_PARTNER_JOIN 0 (t.ptDetail e) ∧ t.msix = (s.signal 2).msix ∧
        t = { s with regs := t.regs, err := t.err, msix := t.msix } ∧ regsBut s t [R.AUX_PT e 0, R.AUX_PT e 1, R.AUX_PT e 2, R.AUX_PT e 3]) ∧
    (descValid desc = false →
      ∃ t, exec (.hotJoin bus pid bcr dcr desc (some x)) s = .next t ∧ logs s t C.AUX_I3C_ERR 0 (i3cDetail 0x3F x.toNat 0) ∧ onlyRegsLog s t []) ∧
    (∃ t, exec (.hotJoin bus pid bcr dcr desc none) s = .next t ∧ logs s t C.AUX_I3C_ADDR_EXHAUSTED 0 (pid.toNat * 2 ^ 16) ∧ onlyRegsLog s t [])) ∧
  (∀ (bus : Bool) (pid : BitVec 48) (bcr dcr : Byte) (desc : BitVec 128) (a : Option Byte) (s : State), (s.dev = .off ∨ s.dev = .twilight) →
    exec (.hotJoin bus pid bcr dcr desc a) s = .next s) ∧
  (∀ (bus : Bool) (pid : BitVec 48) (bcr dcr : Byte) (desc : BitVec 128) (a : Option Byte) (s : State), s.dev ≠ .off → s.dev ≠ .twilight →
    bitOf (s.fld F.AUX_I3C_CFG.BUS_EN) (b2n bus) = true → s.bit F.AUX_I3C_XFER.BUSY = true →
    exec (.hotJoin bus pid bcr dcr desc a) s = .next { s with aux := { s.aux with joins := s.aux.joins ++ [⟨bus, pid, bcr, dcr, desc, a⟩] } }) ∧
  (∀ (ok : Bool) (data : BitVec 256) (j : JoinReq) (s : State), s.bit F.AUX_I3C_XFER.BUSY = true → s.aux.joins = [j] →
    ∃ t u, exec (.i3cXferDone ok data) s = .next t ∧ exec (.i3cXferDone ok data) { s with aux := { s.aux with joins := [] } } = .next u ∧
      t = u.joinNow j) ∧
  (∀ (a : Nat), dynamicAddr a = true ↔ (8 ≤ a ∧ a ≤ 0x77 ∧ a ≠ 0x3E ∧ a ≠ 0x5E ∧ a ≠ 0x6E ∧ a ≠ 0x76)) ∧
  (∀ s : State, s.regsWf →
    ∃ t, exec (.partnerPoll 0) s = .next t ∧ (∀ e < 64, s.ptState e = 2 → t.ptByte e 15 = 0) ∧ (∀ e < 64, t.ptState e = s.ptState e) ∧
      t = { s with regs := t.regs } ∧ ∀ o, (∀ e < 64, o ≠ R.AUX_PT e 3) → t.reg o = s.reg o) ∧
  (∀ (e : Fin 64) (s : State), s.regsWf → s.ptState e = 2 → (∀ i < 64, i ≠ e.val → s.ptState i ≠ 2) →
    (s.ptByte e 15 < 2 → ∃ t, exec (.partnerPoll (1 <<< e.val)) s = .next t ∧ t.ptByte e 15 = s.ptByte e 15 + 1 ∧ t.ptState e = 2 ∧
      onlyRegs s t [R.AUX_PT e 3]) ∧
    (2 ≤ s.ptByte e 15 → s.ptByte e 15 < 255 → s.boundTo e = [] → s.bit F.HIF_EVQ_CTRL.EN = false →
      ∃ t, exec (.partnerPoll (1 <<< e.val)) s = .next t ∧ t.ptState e = 3 ∧ logs s t C.AUX_PARTNER_LEAVE 0 (s.ptDetail e) ∧
        t.msix = (s.signal 2).msix ∧ regsBut s t [R.AUX_PT e 2, R.AUX_PT e 3])) ∧
  (∀ (req : Requester) (v : Word) (s : State), s.regsWf → s.bit F.AUX_I3C_XFER.BUSY = false →
    (bitOf v.toNat 31 = true → s.ptState (v.toNat % 64) = 2 → 1 ≤ v.toNat / 2 ^ 16 % 64 → v.toNat / 2 ^ 16 % 64 ≤ 32 →
      ∃ t, exec (.auxI3cXfer req v) s = .next t ∧ t.bit F.AUX_I3C_XFER.BUSY = true ∧ t.fld F.AUX_I3C_XFER.INDEX = v.toNat % 64 ∧
        t.fld F.AUX_I3C_XFER.LEN = v.toNat / 2 ^ 16 % 64 ∧ t.bit F.AUX_I3C_XFER.DIR = bitOf v.toNat 30 ∧ onlyRegs s t [R.AUX_I3C_XFER]) ∧
    (bitOf v.toNat 31 = true → s.ptState (v.toNat % 64) ≠ 2 →
      ∃ t, exec (.auxI3cXfer req v) s = .next t ∧ t.bit F.AUX_I3C_XFER.BUSY = false ∧ t.fld F.AUX_I3C_XSTAT.STATUS = C.STATE_REFUSED ∧
        logs s t C.STATE_REFUSED (srcRequester req) R.AUX_I3C_XFER ∧ onlyRegsLog s t [R.AUX_I3C_XFER, R.AUX_I3C_XSTAT])) ∧
  (∀ (data : BitVec 256) (s : State), s.regsWf → s.bit F.AUX_I3C_XFER.BUSY = true → s.aux.joins = [] →
    (s.bit F.AUX_I3C_XFER.DIR = false → ∃ t, exec (.i3cXferDone true data) s = .next t ∧ t.bit F.AUX_I3C_XFER.BUSY = false ∧
      t.fld F.AUX_I3C_XSTAT.STATUS = 0 ∧ onlyRegs s t [R.AUX_I3C_XFER, R.AUX_I3C_XSTAT]) ∧
    (s.bit F.AUX_I3C_XFER.DIR = true → s.fld F.AUX_I3C_XFER.LEN ≤ 32 →
      ∃ t, exec (.i3cXferDone true data) s = .next t ∧ t.bit F.AUX_I3C_XFER.BUSY = false ∧ t.fld F.AUX_I3C_XSTAT.STATUS = 0 ∧
        (∀ i < s.fld F.AUX_I3C_XFER.LEN, t.fld ⟨R.AUX_I3C_DATA (i / 4), 8 * (i % 4), 8⟩ = data.toNat / 2 ^ (8 * i) % 256) ∧
        t = { s with regs := t.regs }) ∧
    (∃ t, exec (.i3cXferDone false data) s = .next t ∧ t.bit F.AUX_I3C_XFER.BUSY = false ∧ t.fld F.AUX_I3C_XSTAT.STATUS = C.AUX_I3C_ERR ∧
      logs s t C.AUX_I3C_ERR 0 (i3cDetail (s.fld F.AUX_I3C_XFER.INDEX) (s.ptByte (s.fld F.AUX_I3C_XFER.INDEX) 10) 0) ∧
      onlyRegsLog s t [R.AUX_I3C_XFER, R.AUX_I3C_XSTAT])) ∧
  (∀ (ok : Bool) (data : BitVec 256) (s : State), s.bit F.AUX_I3C_XFER.BUSY = false → exec (.i3cXferDone ok data) s = .next s) ∧
  (∀ (op : Fin 4) (req : Requester) (s : State), s.regsWf → s.bit F.AUX_XSPI_CMD.BUSY = false →
    ((s.fld F.AUX_XSPI_ARGS.ADDR % xspiUnit (op.val + 1) = 0 ∧ s.fld F.AUX_XSPI_ARGS.LEN % xspiUnit (op.val + 1) = 0 ∧
        s.fld F.AUX_XSPI_ARGS.LEN ≤ 0x1000000) →
      ∃ t, flashAnswers op req s (.next t) ∧ t.aux = { s.aux with
          xspi := some ⟨op.val + 1, s.fld F.AUX_XSPI_ARGS.ADDR, s.fld F.AUX_XSPI_ARGS.LEN, s.fld F.AUX_XSPI_BUF.ADDR * 64⟩ } ∧
        t.bit F.AUX_XSPI_CMD.BUSY = true ∧ t.fld F.AUX_XSPI_CMD.OP = op.val + 1 ∧ t = { s with regs := t.regs, aux := t.aux } ∧
        regsBut s t [R.AUX_XSPI_CMD]) ∧
    ((s.fld F.AUX_XSPI_ARGS.ADDR % xspiUnit (op.val + 1) ≠ 0 ∨ 0x1000000 < s.fld F.AUX_XSPI_ARGS.LEN) →
      ∃ t, flashAnswers op req s (.next t) ∧ t.fld F.AUX_XSPI_STAT.STATUS = C.STATE_REFUSED ∧
        logs s t C.STATE_REFUSED (srcRequester req) (R.AUX_XSPI_CMD + (op.val + 1) * 2 ^ 32) ∧
        onlyRegsLog s t [R.AUX_XSPI_CMD, R.AUX_XSPI_STAT])) ∧
  (∀ (x : XspiCmd) (s : State), s.regsWf → s.aux.xspi = some x → s.xspiMem x 0 = 0 →
    (x.op = 1 → ∃ t, exec (.xspiCmdDone 0 none) s = .next t ∧ wroteAt s t xspiNi x.buf (s.flashBytes x.addr x.len) ∧
      t.aux = { s.aux with xspi := none } ∧ t.bit F.AUX_XSPI_CMD.BUSY = false ∧ t.fld F.AUX_XSPI_STAT.STATUS = 0 ∧
      t = { s with regs := t.regs, mem := t.mem, hmem := t.hmem, noc := t.noc, aux := t.aux } ∧ regsBut s t [R.AUX_XSPI_CMD, R.AUX_XSPI_STAT]) ∧
    (3 ≤ x.op → ∃ t, exec (.xspiCmdDone 0 none) s = .next t ∧ (∀ i < x.len, t.flashAt (x.addr + i) = 0xFF) ∧
      (∀ i, i < x.addr ∨ x.addr + x.len ≤ i → t.flashAt i = s.flashAt i) ∧ t.bit F.AUX_XSPI_CMD.BUSY = false ∧
      t.fld F.AUX_XSPI_STAT.STATUS = 0 ∧ t = { s with regs := t.regs, free := t.free, noc := hostNoc s t, aux := t.aux } ∧ regsBut s t [R.AUX_XSPI_CMD, R.AUX_XSPI_STAT]) ∧
    (x.op = 2 → (∀ i < x.len, s.flashAt (x.addr + i) = 0xFF) → ∃ t, exec (.xspiCmdDone 0 none) s = .next t ∧
      (∀ i < x.len, t.flashAt (x.addr + i) = (s.dpaBytes x.buf x.len).getD i 0) ∧
      (∀ i, i < x.addr ∨ x.addr + x.len ≤ i → t.flashAt i = s.flashAt i) ∧ t.bit F.AUX_XSPI_CMD.BUSY = false ∧
      t.fld F.AUX_XSPI_STAT.STATUS = 0 ∧ t = { s with regs := t.regs, free := t.free, noc := hostNoc s t, aux := t.aux } ∧ regsBut s t [R.AUX_XSPI_CMD, R.AUX_XSPI_STAT])) ∧
  (∀ (f : Byte) (x : XspiCmd) (s : State), s.regsWf → s.aux.xspi = some x →
    ∃ t, exec (.xspiCmdDone 0 (some f)) s = .next t ∧ t.fld F.AUX_XSPI_STAT.STATUS = C.AUX_XSPI_ERR ∧ t.bit F.AUX_XSPI_CMD.BUSY = false ∧
      t.aux.xspi = none ∧ logs s t C.AUX_XSPI_ERR 0 (x.op + f.toNat * 2 ^ 8 + x.addr * 2 ^ 32)) ∧
  (∀ (st : Half) (f : Option Byte) (s : State), s.aux.xspi = none → exec (.xspiCmdDone st f) s = .next s)

/-- Power domains are switched under the conditions of R601 and R602 and their switches end or time out; clocks lose lock and regain it; rails and
temperatures that leave their range are reported, and 125 °C stops the block (R50, R597 to R606, R611, R613).
It also rests on choices of the model: log entries 41, 101, 102, 103, 114. -/
def Obligations.PowerClocksAndTemperature : Prop :=
  (∀ (req : Requester) (d : Fin 32) (s : State), s.regsWf → s.bit F.PWR_DOM_CMDSTAT.BUSY = false → s.pwrAllowed d = true →
    (bitOf (s.fld F.PWR_DOM_STAT.ON) d = false →
      ∃ t, exec (.pwrOn req d) s = .next t ∧ t.pwr = { s.pwr with switching := some (d.val, true) } ∧ t.bit F.PWR_DOM_CMDSTAT.BUSY = true ∧
        t.fld F.PWR_DOM_CMDSTAT.STATUS = 0 ∧ t = { s with regs := t.regs, pwr := t.pwr } ∧ regsBut s t [R.PWR_DOM_CMDSTAT]) ∧
    (bitOf (s.fld F.PWR_DOM_STAT.ON) d = true → s.mayPowerOff d = true → s.bist.slices = [] →
      ∃ t, exec (.pwrOff req d) s = .next t ∧ t.pwr = { s.pwr with switching := some (d.val, false) } ∧ t.bit F.PWR_DOM_CMDSTAT.BUSY = true ∧
        t.fld F.PWR_DOM_CMDSTAT.STATUS = 0 ∧ (ownsNis d = true → bitOf (t.fld F.NOC_FENCE_STAT.PENDING) d = true) ∧
        t.fld F.PWR_DOM_STAT.ON = s.fld F.PWR_DOM_STAT.ON ∧ regsBut s t [R.PWR_DOM_CMDSTAT, R.NOC_FENCE_STAT]) ∧
    (s.mayPowerOff d = false →
      ∃ t, exec (.pwrOff req d) s = .next t ∧ t.fld F.PWR_DOM_CMDSTAT.STATUS = C.STATE_REFUSED ∧
        logs s t C.STATE_REFUSED (srcRequester req) (R.PWR_DOM_CMD + 2 * 2 ^ 32) ∧ onlyRegsLog s t [R.PWR_DOM_CMDSTAT])) ∧
  (∀ (req : Requester) (d : Fin 32) (s : State), s.regsWf → s.bit F.PWR_DOM_CMDSTAT.BUSY = false → s.pwrAllowed d = false →
    ∃ t, exec (.pwrOn req d) s = .next t ∧ t.fld F.PWR_DOM_CMDSTAT.STATUS = C.STATE_REFUSED ∧
      logs s t C.STATE_REFUSED (srcRequester req) (R.PWR_DOM_CMD + 2 ^ 32) ∧ onlyRegsLog s t [R.PWR_DOM_CMDSTAT]) ∧
  (∀ (d : Nat) (s : State), s.regsWf → commandDomain d = true →
    (s.pwr.switching = some (d, true) →
      ∃ t, exec .domainSwitchDone s = .next t ∧ bitOf (t.fld F.PWR_DOM_STAT.ON) d = true ∧ t.pwr = { s.pwr with switching := none } ∧
        t.bit F.PWR_DOM_CMDSTAT.BUSY = false ∧ bitOf (t.fld F.NOC_FENCE_STAT.FENCED) d = false ∧ t.mem = s.mem ∧
        (11 < d → t = { s with regs := t.regs, pwr := t.pwr } ∧
          regsBut s t [R.PWR_DOM_STAT, R.PWR_DOM_CMDSTAT, R.NOC_FENCE_STAT, R.PSL_QSTAT 0, R.PSL_QSTAT 1, R.PSL_QSTAT 2, R.PSL_QSTAT 3])) ∧
    (s.pwr.switching = some (d, false) → (ownsNis d = false ∨ bitOf (s.fld F.NOC_FENCE_STAT.FENCED) d = true) →
      ∃ t, exec .domainSwitchDone s = .next t ∧ bitOf (t.fld F.PWR_DOM_STAT.ON) d = false ∧ t.pwr = { s.pwr with switching := none } ∧
        t.bit F.PWR_DOM_CMDSTAT.BUSY = false ∧ t.mem = s.mem ∧
        (d = 20 ∨ d = 21 → t = { s with regs := t.regs, pwr := t.pwr, psq := t.psq } ∧
          regsBut s t [R.PWR_DOM_STAT, R.PWR_DOM_CMDSTAT, R.PSL_QSTAT 0, R.PSL_QSTAT 1, R.PSL_QSTAT 2, R.PSL_QSTAT 3]) ∧
        (d = 19 → ∀ p < 8, t.fld (F.CSC_PORT_STAT.LSTATE p) = 0) ∧
        (d = 21 → mwf (fun _ => Psq.reset) s.psq = true → ∀ n, t.getPsq n = { Psq.reset with sealFlag := (s.getPsq n).sealFlag })) ∧
    (s.pwr.switching = some (d, false) → ownsNis d = true → bitOf (s.fld F.NOC_FENCE_STAT.FENCED) d = false →
      exec .domainSwitchDone s = .next s) ∧
    (∀ (on : Bool) (q : Nat), q < 4 → s.pwr.switching = some (d, on) → (on = true ∨ ownsNis d = false) → s.bit (F.PSL_QCTRL.PWR_EN q) = true →
      ∃ t, exec .domainSwitchDone s = .next t ∧ t.bit (F.PSL_QSTAT.PWR_GOOD q) = true) ∧
    (∀ on, s.pwr.switching = some (d, on) →
      ∃ t, exec .pwrDomainTimeout s = .next t ∧ t.fld F.PWR_DOM_CMDSTAT.STATUS = C.PWR_DOMAIN_TIMEOUT ∧ t.bit F.PWR_DOM_CMDSTAT.BUSY = false ∧
        t.pwr = { s.pwr with switching := none } ∧ t.fld F.PWR_DOM_STAT.ON = s.fld F.PWR_DOM_STAT.ON ∧
        logs s t C.PWR_DOMAIN_TIMEOUT (srcDomain d) 0 ∧ (∀ q < 4, s.bit (F.PSL_QCTRL.PWR_EN q) = true → t.bit (F.PSL_QSTAT.PWR_GOOD q) = true) ∧
        regsBut s t [R.PWR_DOM_CMDSTAT, R.NOC_FENCE_STAT, R.PSL_QSTAT 0, R.PSL_QSTAT 1, R.PSL_QSTAT 2, R.PSL_QSTAT 3])) ∧
  (∀ s : State, s.pwr.switching = none → exec .domainSwitchDone s = .next s ∧ exec .pwrDomainTimeout s = .next s) ∧
  (∀ s : State, s.regsWf → s.dev ≠ .off → s.bit F.TICK_STAT.LOCK = false →
    ∃ t, exec .refLost s = .next t ∧ t.bit F.CLK_STAT.REF_LOST = true ∧ onlyRegs s t [R.CLK_STAT]) ∧
  (∀ s : State, s.regsWf → s.dev ≠ .off → s.bit F.TICK_STAT.LOCK = true → s.bit F.TICK_STAT.FCK_BUSY = false →
    ∃ t, exec .refLost s = .next t ∧ t.bit F.CLK_STAT.REF_LOST = true ∧ t.bit F.TICK_STAT.LOCK = false ∧ t.bit F.TICK_STAT.UNLOCK_SEEN = true ∧
      bitOf (t.fld F.CLK_STAT.LOCK) 0 = false ∧ t.fckStop = s.fckOn ∧ t.mem = s.mem) ∧
  (∀ (p : Fin 10) (s : State), s.regsWf → 3 ≤ p.val → p.val ≠ 7 → p.val ≠ 8 →
    (bitOf (s.fld F.CLK_STAT.LOCK) p = true →
      ∃ t, exec (.clkPllUnlock p) s = .next t ∧ bitOf (t.fld F.CLK_STAT.LOCK) p = false ∧ bitOf (t.fld F.CLK_STAT.UNLOCK_SEEN) p = true ∧
        (∀ q < 10, q ≠ p.val → bitOf (t.fld F.CLK_STAT.LOCK) q = bitOf (s.fld F.CLK_STAT.LOCK) q) ∧
        logs s t C.CLK_PLL_UNLOCK 0 p.val ∧ onlyRegsLog s t [R.CLK_STAT]) ∧
    (bitOf (s.fld F.CLK_STAT.LOCK) p = false → s.dev ≠ .off →
      ∃ t, exec (.pllRelock p) s = .next t ∧ bitOf (t.fld F.CLK_STAT.LOCK) p = true ∧
        (∀ q < 10, q ≠ p.val → bitOf (t.fld F.CLK_STAT.LOCK) q = bitOf (s.fld F.CLK_STAT.LOCK) q) ∧ onlyRegs s t [R.CLK_STAT])) ∧
  (∀ s : State, s.regsWf → s.dev ≠ .off → bitOf (s.fld F.CLK_STAT.LOCK) 0 = false → s.flightsKnown = false →
    ∃ t, exec (.pllRelock 0) s = .next t ∧ bitOf (t.fld F.CLK_STAT.LOCK) 0 = true ∧ t.bit F.TICK_STAT.LOCK = true ∧
      onlyRegs s t [R.CLK_STAT, R.TICK_STAT]) ∧
  (∀ (q : Nat) (s : State), s.regsWf → q < 2 → bitOf (s.fld F.CLK_STAT.LOCK) 1 = true → s.bit (F.PSL_QSTAT.READY q) = true →
    ∃ t, exec (.clkPllUnlock 1) s = .next t ∧ t.bit (F.PSL_QSTAT.READY q) = false ∧ bitOf (t.fld F.CLK_STAT.LOCK) 1 = false ∧ t.mem = s.mem) ∧
  (∀ (q : Nat) (s : State), s.regsWf → q < 2 → s.dev ≠ .off → bitOf (s.fld F.CLK_STAT.LOCK) 1 = false → q ∈ s.pwr.quadUp →
    ∃ t, exec (.pllRelock 1) s = .next t ∧ t.bit (F.PSL_QSTAT.READY q) = true ∧
      onlyRegs s t [R.CLK_STAT, R.PSL_QSTAT 0, R.PSL_QSTAT 1]) ∧
  (∀ (r : Fin 4) (s : State), s.regsWf →
    ((s.dev = .ready ∨ s.dev = .loaded) → s.devFault = false → s.fckOn = true → s.fld F.ERR_FATAL.CODE = 0 → s.bist.slices = [] →
      s.cfg.load = none → (∀ n < 16, s.siteActive n = false) →
      ∃ t, exec (.pwrRailFault r) s = .next t ∧ bitOf (t.fld F.PWR_RAIL_STAT.FAULT) r = true ∧ t.devFault = true ∧
        t.fld F.ERR_FATAL.CODE = C.PWR_RAIL_FAULT ∧ t.fld F.ERR_FATAL.SOURCE = 0 ∧ t.reg R.ERR_FATAL_TICK = s.tick) ∧
    (s.dev = .boot ∨ s.dev = .fault → exec (.pwrRailFault r) s = .next s)) ∧
  (∀ (k : Fin 8) (c : Half) (s : State), s.regsWf → s.dev ≠ .off →
    (16 * s.warnAt ≤ degrees c →
      ∃ t, exec (.pwrThermalWarn k c) s = .next t ∧ t.fld (F.PWR_TEMP.TEMP k) = c.toNat ∧ t.pwr = { s.pwr with warned := true } ∧
        (s.pwr.warned = false → logs s t C.PWR_THERMAL_WARN 0 k) ∧ (s.pwr.warned = true → t.err = s.err) ∧
        t = { s with regs := t.regs, err := t.err, pwr := t.pwr } ∧ regsBut s t [R.PWR_TEMP k]) ∧
    (degrees c < 16 * s.warnAt → exec (.pwrThermalWarn k c) s = .next s) ∧
    (16 * 125 ≤ degrees c →
      ∃ t, exec (.thermtrip k c) s = .next t ∧ t.pwr = { s.pwr with thermtrip := true } ∧ t.fckOn = false ∧ t.fckStop = false ∧
        t.fld (F.PWR_TEMP.TEMP k) = c.toNat ∧ t.mem = s.mem) ∧
    (16 * 110 ≤ degrees c → s.dev = .fault → s.fckOn = true →
      ∃ t, exec (.pwrThermalTrip k c) s = .next t ∧ t.fld (F.PWR_TEMP.TEMP k) = c.toNat ∧ logs s t C.PWR_THERMAL_TRIP 0 k ∧
        onlyRegsLog s t [R.PWR_TEMP k])) ∧
  (∀ (v : BitVec 128) (s : State), s.regsWf → s.dev ≠ .off →
    (∀ k < 8, degrees (BitVec.ofNat 16 (v.toNat / 2 ^ (16 * k))) < 16 * (s.warnAt - s.fld F.PWR_THERM_CFG.HYST)) →
    ∃ t, exec (.thermalWarnRearm v) s = .next t ∧ t.pwr = { s.pwr with warned := false } ∧
      (∀ k < 8, t.fld (F.PWR_TEMP.TEMP k) = v.toNat / 2 ^ (16 * k) % 65536) ∧ t = { s with regs := t.regs, pwr := t.pwr } ∧
      ∀ o, (∀ k < 8, o ≠ R.PWR_TEMP k) → t.reg o = s.reg o)
namespace Sys2Proof.Claims

/-- The BAR0 offsets whose reads act beyond the register itself: FAB_RB_DATA, PSQ_WDBG_DATA and FCQ_SQ_POP (R157, R215, R280). -/
def actingRead (a : Nat) : Bool :=
  a == R.FAB_RB_DATA || (decide (0x200000 ≤ a) && decide (a < 0x210000) && a % 0x1000 == 0x204) ||
  (decide (0x308000 ≤ a) && decide (a < 0x308800) && a % 0x100 == 0x20)

/-- A 64-bit register of BAR0 at offset `a`, outside the windows, with the row `r` of its chapter's table. -/
abbrev wideReg (a : Nat) (r : RegRow) : Prop := regAt a = some (r, false) ∧ r.wide = true ∧ a < 0x800000 ∧ inWindow a = false ∧ actingRead a = false

end Sys2Proof.Claims

/-- A 64-bit register is read with one access of 8 bytes, or low half first: reading the low half latches the high half, and the next read of the high half
returns the latched value, whatever the register holds by then (R18). -/
def Obligations.SplitReadsReturnOneValue : Prop :=
  ∀ (req req' : Requester) (off hi : BitVec 26) (r : RegRow) (s : State), s.dev ≠ .off → wideReg off.toNat r → regAt (off.toNat + 4) = some (r, true) →
    hi.toNat = off.toNat + 4 → off.toNat % 8 = 0 → hi.toNat % 4 = 0 → inWindow hi.toNat = false → actingRead hi.toNat = false →
    (∃ t, exec (.regRead req off true) s = .next t ∧ t.rdata = s.regValue off.toNat) ∧
    (∃ t, exec (.regRead req off false) s = .next t ∧ t.rdata.toNat = (s.regValue off.toNat).toNat % 2 ^ 32 ∧
      ∀ u : State, u.dev ≠ .off → u.latch = t.latch →
        ∃ v, exec (.regRead req' hi false) u = .next v ∧ v.rdata.toNat = (s.regValue off.toNat).toNat / 2 ^ 32)

/-- Accesses to BAR0 that find nothing: those of a block without power, misaligned writes, and offsets that no register occupies; writes to registers
store their RW fields, ignore RO fields and clear W1C fields; reads clear RC fields; and a write to a command register is that command (R7, R14, R15, R565).
It also rests on choices of the model: log entries 104, 105. -/
def Obligations.RegisterAccesses : Prop :=
  (∀ (req : Requester) (off : BitVec 26) (w : Bool) (z : WriteSize) (v : Wide) (s : State),
    (s.dev = .off → exec (.regWrite req off z v) s = .next s ∧ exec (.regRead req off w) s = .next s) ∧
    exec (.regWrite req off .part v) s = .next s ∧
    (off.toNat % 4 ≠ 0 → exec (.regWrite req off z v) s = .next s) ∧
    (0x800000 ≤ off.toNat → exec (.regWrite req off z v) s = .next s)) ∧
  (∀ (req : Requester) (off : BitVec 26) (s : State), s.dev ≠ .off → 0x800000 ≤ off.toNat → off.toNat % 4 = 0 →
    exec (.regRead req off false) s = .next { s with
      rdata := 0, free := s.free + 1, hif := { s.hif with cpl := if req = .host then .success else s.hif.cpl } }) ∧
  (∀ (off : BitVec 26) (w : Bool) (s : State), s.dev ≠ .off → (off.toNat % 8 + (if w then 8 else 4) ≤ 8 →
      ∃ t, exec (.regRead .host off w) s = .next t ∧ t.hif.cpl = .success) ∧
    (8 < off.toNat % 8 + (if w then 8 else 4) → ∃ t, exec (.regRead .host off w) s = .next t ∧ t.hif.cpl = .ur)) ∧
  (∀ (req : Requester) (v : Wide) (s : State), s.regsWf → s.dev ≠ .off →
    (∃ t, exec (.regWrite req 0x700000 .dword v) s = .next t ∧ t.fld F.HIF_CFG.ELOG_US = v.toNat / 2 ^ 16 % 256 ∧
      t.bit F.HIF_CFG.HOLD_ON_LINK = bitOf v.toNat 0 ∧ onlyRegs s t [R.HIF_CFG]) ∧
    (∃ t, exec (.regWrite req 0x700004 .dword v) s = .next t ∧ t.bit F.HIF_LINK.UP = s.bit F.HIF_LINK.UP ∧
      t.bit F.HIF_LINK.DOWN_SEEN = (s.bit F.HIF_LINK.DOWN_SEEN && !bitOf v.toNat 18) ∧
      t.bit F.HIF_LINK.HOTRST_SEEN = (s.bit F.HIF_LINK.HOTRST_SEEN && !bitOf v.toNat 19) ∧ onlyRegs s t [R.HIF_LINK])) ∧
  (∀ (req : Requester) (s : State), s.regsWf → s.dev ≠ .off →
    ∃ t, exec (.regRead req 0x680040 false) s = .next t ∧ t.rdata.toNat = (s.reg (R.PWR_TEMP 0)).toNat % 2 ^ 32 ∧
      t.fld (F.PWR_TEMP.MAX 0) = 0 ∧ t.fld (F.PWR_TEMP.TEMP 0) = s.fld (F.PWR_TEMP.TEMP 0) ∧ regsBut s t [R.PWR_TEMP 0]) ∧
  (∀ (req : Requester) (s : State), s.regsWf → s.dev ≠ .off →
    (∃ t, exec (.regRead req 0x40010 true) s = .next t ∧ t.rdata = s.tick ∧ t.tick = s.tick ∧ regsBut s t []) ∧
    (∃ t, exec (.regRead req 0x8 false) s = .next t ∧ t.rdata.toNat % 16 = s.glbState ∧ regsBut s t [])) ∧
  (∀ (req : Requester) (n : Fin 16) (s : State), s.dev ≠ .off →
    exec (.regWrite req 0x600004 .dword 1) s = exec (.errRoll req) s ∧ exec (.regWrite req 0x600004 .dword 2) s = exec (.errClear req) s ∧
    exec (.regWrite req 0x600004 .dword 3) s = exec (.dumpAck req) s ∧ exec (.regWrite req 0x580004 .dword 1) s = exec (.nightfall req) s ∧
    exec (.regWrite req 0x500004 .dword 1) s = exec (.form req) s ∧ exec (.regWrite req 0x500004 .dword 2) s = exec (.leave req) s ∧
    exec (.regWrite req 0x500004 .dword 4) s = exec (.remote req) s ∧ exec (.regWrite req 0x680000 .dword 0x113) s = exec (.pwrOn req 19) s ∧
    exec (.regWrite req 0x680000 .dword 0x214) s = exec (.pwrOff req 20) s ∧
    exec (.regWrite req (BitVec.ofNat 26 (R.PSQ_CMD n)) .dword 1) s = exec (.psqArm req n) s)
end

