-- ==== Sys2Proof/Laws/Exec.lean ====
section
/-! SUPPORT. `exec` of each command is that command's own meaning, so that no proof unfolds `exec`. -/

namespace Sys2Proof.Machine

variable (s : State)

@[simp] theorem exec_regWrite (req : Requester) (off : BitVec 26) (size : WriteSize) (value : Wide) : exec (.regWrite req off size value) s = execRegWrite req off size value s := rfl
@[simp] theorem exec_fckApply (req : Requester) : exec (.fckApply req) s = execFckApply req s := rfl
@[simp] theorem exec_fckChangeComplete : exec .fckChangeComplete s = execFckChangeComplete s := rfl
@[simp] theorem exec_tickCntClr (req : Requester) : exec (.tickCntClr req) s = execTickCntClr req s := rfl
@[simp] theorem exec_tickUirepWrite (req : Requester) (site : Fin 16) (value : Word) : exec (.tickUirepWrite req site value) s = execTickUirepWrite req site value s := rfl
@[simp] theorem exec_tickSlip (unit : UnitId) : exec (.tickSlip unit) s = execTickSlip unit s := rfl
@[simp] theorem exec_nearSlip (unit : UnitId) : exec (.nearSlip unit) s = execNearSlip unit s := rfl
@[simp] theorem exec_fckPllUnlock : exec .fckPllUnlock s = execFckPllUnlock s := rfl
@[simp] theorem exec_contextSwitch (site : Fin 16) : exec (.contextSwitch site) s = execContextSwitch site s := rfl
@[simp] theorem exec_fabStoreParity (pos : Fin 2688) (third : Fin 3) : exec (.fabStoreParity pos third) s = execFabStoreParity pos third s := rfl
@[simp] theorem exec_cellNop (slot : Fin 2944) : exec (.cellNop slot) s = execCellNop slot s := rfl
@[simp] theorem exec_cellMov (slot : Fin 2944) : exec (.cellMov slot) s = execCellMov slot s := rfl
@[simp] theorem exec_cellAdd (slot : Fin 2944) : exec (.cellAdd slot) s = execCellAdd slot s := rfl
@[simp] theorem exec_cellAddc (slot : Fin 2944) : exec (.cellAddc slot) s = execCellAddc slot s := rfl
@[simp] theorem exec_cellSub (slot : Fin 2944) : exec (.cellSub slot) s = execCellSub slot s := rfl
@[simp] theorem exec_cellSubb (slot : Fin 2944) : exec (.cellSubb slot) s = execCellSubb slot s := rfl
@[simp] theorem exec_cellMin (slot : Fin 2944) : exec (.cellMin slot) s = execCellMin slot s := rfl
@[simp] theorem exec_cellMax (slot : Fin 2944) : exec (.cellMax slot) s = execCellMax slot s := rfl
@[simp] theorem exec_cellCmp (slot : Fin 2944) : exec (.cellCmp slot) s = execCellCmp slot s := rfl
@[simp] theorem exec_cellSel (slot : Fin 2944) : exec (.cellSel slot) s = execCellSel slot s := rfl
@[simp] theorem exec_cellAnd (slot : Fin 2944) : exec (.cellAnd slot) s = execCellAnd slot s := rfl
@[simp] theorem exec_cellOr (slot : Fin 2944) : exec (.cellOr slot) s = execCellOr slot s := rfl
@[simp] theorem exec_cellXor (slot : Fin 2944) : exec (.cellXor slot) s = execCellXor slot s := rfl
@[simp] theorem exec_cellAndn (slot : Fin 2944) : exec (.cellAndn slot) s = execCellAndn slot s := rfl
@[simp] theorem exec_cellShl (slot : Fin 2944) : exec (.cellShl slot) s = execCellShl slot s := rfl
@[simp] theorem exec_cellShr (slot : Fin 2944) : exec (.cellShr slot) s = execCellShr slot s := rfl
@[simp] theorem exec_cellSra (slot : Fin 2944) : exec (.cellSra slot) s = execCellSra slot s := rfl
@[simp] theorem exec_cellRol (slot : Fin 2944) : exec (.cellRol slot) s = execCellRol slot s := rfl
@[simp] theorem exec_cellMul (slot : Fin 2944) : exec (.cellMul slot) s = execCellMul slot s := rfl
@[simp] theorem exec_cellMac (slot : Fin 2944) : exec (.cellMac slot) s = execCellMac slot s := rfl
@[simp] theorem exec_cellMacl (slot : Fin 2944) : exec (.cellMacl slot) s = execCellMacl slot s := rfl
@[simp] theorem exec_cellAccr (slot : Fin 2944) : exec (.cellAccr slot) s = execCellAccr slot s := rfl
@[simp] theorem exec_cellCntm (slot : Fin 2944) : exec (.cellCntm slot) s = execCellCntm slot s := rfl
@[simp] theorem exec_cellCnte (slot : Fin 2944) : exec (.cellCnte slot) s = execCellCnte slot s := rfl
@[simp] theorem exec_cellBfm (slot : Fin 2944) : exec (.cellBfm slot) s = execCellBfm slot s := rfl
@[simp] theorem exec_cellGray (slot : Fin 2944) : exec (.cellGray slot) s = execCellGray slot s := rfl
@[simp] theorem exec_cellXtap (slot : Fin 2944) : exec (.cellXtap slot) s = execCellXtap slot s := rfl
@[simp] theorem exec_cellBrev (slot : Fin 2944) : exec (.cellBrev slot) s = execCellBrev slot s := rfl
@[simp] theorem exec_cellWld (slot : Fin 2944) : exec (.cellWld slot) s = execCellWld slot s := rfl
@[simp] theorem exec_cellWand (slot : Fin 2944) : exec (.cellWand slot) s = execCellWand slot s := rfl
@[simp] theorem exec_cellWor (slot : Fin 2944) : exec (.cellWor slot) s = execCellWor slot s := rfl
@[simp] theorem exec_cellWxor (slot : Fin 2944) : exec (.cellWxor slot) s = execCellWxor slot s := rfl
@[simp] theorem exec_cellWandn (slot : Fin 2944) : exec (.cellWandn slot) s = execCellWandn slot s := rfl
@[simp] theorem exec_cellWnot (slot : Fin 2944) : exec (.cellWnot slot) s = execCellWnot slot s := rfl
@[simp] theorem exec_cellWrol (slot : Fin 2944) : exec (.cellWrol slot) s = execCellWrol slot s := rfl
@[simp] theorem exec_cellWshl (slot : Fin 2944) : exec (.cellWshl slot) s = execCellWshl slot s := rfl
@[simp] theorem exec_cellWshr (slot : Fin 2944) : exec (.cellWshr slot) s = execCellWshr slot s := rfl
@[simp] theorem exec_cellWbfly (slot : Fin 2944) : exec (.cellWbfly slot) s = execCellWbfly slot s := rfl
@[simp] theorem exec_cellLfsr (slot : Fin 2944) : exec (.cellLfsr slot) s = execCellLfsr slot s := rfl
@[simp] theorem exec_cellCrc32 (slot : Fin 2944) : exec (.cellCrc32 slot) s = execCellCrc32 slot s := rfl
@[simp] theorem exec_cellPopc (slot : Fin 2944) : exec (.cellPopc slot) s = execCellPopc slot s := rfl
@[simp] theorem exec_cellPar (slot : Fin 2944) : exec (.cellPar slot) s = execCellPar slot s := rfl
@[simp] theorem exec_cellClz (slot : Fin 2944) : exec (.cellClz slot) s = execCellClz slot s := rfl
@[simp] theorem exec_cellLutn (slot : Fin 2944) : exec (.cellLutn slot) s = execCellLutn slot s := rfl
@[simp] theorem exec_cellLutw (slot : Fin 2944) : exec (.cellLutw slot) s = execCellLutw slot s := rfl
@[simp] theorem exec_cellWlutn (slot : Fin 2944) : exec (.cellWlutn slot) s = execCellWlutn slot s := rfl
@[simp] theorem exec_cellMem (cl : Fin 256) : exec (.cellMem cl) s = execCellMem cl s := rfl
@[simp] theorem exec_cellXio (x : Fin 128) : exec (.cellXio x) s = execCellXio x s := rfl
@[simp] theorem exec_streamPop (x : Fin 128) : exec (.streamPop x) s = execStreamPop x s := rfl
@[simp] theorem exec_xsStart (req : Requester) (x : Fin 128) (loop : Bool) : exec (.xsStart req x loop) s = execXsStart req x loop s := rfl
@[simp] theorem exec_xsAbort (req : Requester) (x : Fin 128) (loop : Bool) : exec (.xsAbort req x loop) s = execXsAbort req x loop s := rfl
@[simp] theorem exec_xsFillResponse (x : Fin 128) (words : Fin 65) (status : Half) : exec (.xsFillResponse x words status) s = execXsFillResponse x words status s := rfl
@[simp] theorem exec_fabCtxselWrite (req : Requester) (site : Fin 16) (value : Word) : exec (.fabCtxselWrite req site value) s = execFabCtxselWrite req site value s := rfl
@[simp] theorem exec_fabMrepWrite (req : Requester) (cl : Fin 256) (k : Fin 16) (value : Word) : exec (.fabMrepWrite req cl k value) s = execFabMrepWrite req cl k value s := rfl
@[simp] theorem exec_freeze (req : Requester) (g : Fin 64) : exec (.freeze req g) s = execFreeze req g s := rfl
@[simp] theorem exec_freezeTakesEffect : exec .freezeTakesEffect s = execFreezeTakesEffect s := rfl
@[simp] theorem exec_thaw (req : Requester) (g : Fin 64) : exec (.thaw req g) s = execThaw req g s := rfl
@[simp] theorem exec_thawTakesEffect : exec .thawTakesEffect s = execThawTakesEffect s := rfl
@[simp] theorem exec_starfixArm (req : Requester) : exec (.starfixArm req) s = execStarfixArm req s := rfl
@[simp] theorem exec_starfixCancel (req : Requester) : exec (.starfixCancel req) s = execStarfixCancel req s := rfl
@[simp] theorem exec_starfixCapture : exec .starfixCapture s = execStarfixCapture s := rfl
@[simp] theorem exec_starfixDrainDone : exec .starfixDrainDone s = execStarfixDrainDone s := rfl
@[simp] theorem exec_starfixRelease (req : Requester) : exec (.starfixRelease req) s = execStarfixRelease req s := rfl
@[simp] theorem exec_starfixUnload (req : Requester) : exec (.starfixUnload req) s = execStarfixUnload req s := rfl
@[simp] theorem exec_starfixUnloadDone : exec .starfixUnloadDone s = execStarfixUnloadDone s := rfl
@[simp] theorem exec_fabRbDataRead (req : Requester) : exec (.fabRbDataRead req) s = execFabRbDataRead req s := rfl
@[simp] theorem exec_psqArm (req : Requester) (n : Fin 16) : exec (.psqArm req n) s = execPsqArm req n s := rfl
@[simp] theorem exec_psqStart (req : Requester) (n : Fin 16) (at_ : Bool) : exec (.psqStart req n at_) s = execPsqStart req n at_ s := rfl
@[simp] theorem exec_siteRunBegins (n : Fin 16) : exec (.siteRunBegins n) s = execSiteRunBegins n s := rfl
@[simp] theorem exec_psqPause (req : Requester) (n : Fin 16) : exec (.psqPause req n) s = execPsqPause req n s := rfl
@[simp] theorem exec_psqResume (req : Requester) (n : Fin 16) (at_ : Bool) : exec (.psqResume req n at_) s = execPsqResume req n at_ s := rfl
@[simp] theorem exec_psqStop (req : Requester) (n : Fin 16) : exec (.psqStop req n) s = execPsqStop req n s := rfl
@[simp] theorem exec_psqHold (req : Requester) (n : Fin 16) : exec (.psqHold req n) s = execPsqHold req n s := rfl
@[simp] theorem exec_psqService (req : Requester) (n : Fin 16) : exec (.psqService req n) s = execPsqService req n s := rfl
@[simp] theorem exec_psqSvcEnd (req : Requester) (n : Fin 16) : exec (.psqSvcEnd req n) s = execPsqSvcEnd req n s := rfl
@[simp] theorem exec_svcStopAtBoundary (n : Fin 16) : exec (.svcStopAtBoundary n) s = execSvcStopAtBoundary n s := rfl
@[simp] theorem exec_seqNopv (n : Fin 16) : exec (.seqNopv n) s = execSeqNopv n s := rfl
@[simp] theorem exec_seqEmit (n : Fin 16) : exec (.seqEmit n) s = execSeqEmit n s := rfl
@[simp] theorem exec_seqVset (n : Fin 16) : exec (.seqVset n) s = execSeqVset n s := rfl
@[simp] theorem exec_seqAlu (n : Fin 16) : exec (.seqAlu n) s = execSeqAlu n s := rfl
@[simp] theorem exec_seqAddi (n : Fin 16) : exec (.seqAddi n) s = execSeqAddi n s := rfl
@[simp] theorem exec_seqAndi (n : Fin 16) : exec (.seqAndi n) s = execSeqAndi n s := rfl
@[simp] theorem exec_seqOri (n : Fin 16) : exec (.seqOri n) s = execSeqOri n s := rfl
@[simp] theorem exec_seqLui (n : Fin 16) : exec (.seqLui n) s = execSeqLui n s := rfl
@[simp] theorem exec_seqBr (n : Fin 16) : exec (.seqBr n) s = execSeqBr n s := rfl
@[simp] theorem exec_seqDjnz (n : Fin 16) : exec (.seqDjnz n) s = execSeqDjnz n s := rfl
@[simp] theorem exec_seqRep (n : Fin 16) : exec (.seqRep n) s = execSeqRep n s := rfl
@[simp] theorem exec_seqCall (n : Fin 16) : exec (.seqCall n) s = execSeqCall n s := rfl
@[simp] theorem exec_seqRet (n : Fin 16) : exec (.seqRet n) s = execSeqRet n s := rfl
@[simp] theorem exec_seqRetxInterrupt (n : Fin 16) : exec (.seqRetxInterrupt n) s = execSeqRetxInterrupt n s := rfl
@[simp] theorem exec_seqRetxTrap (n : Fin 16) : exec (.seqRetxTrap n) s = execSeqRetxTrap n s := rfl
@[simp] theorem exec_seqCtx (n : Fin 16) : exec (.seqCtx n) s = execSeqCtx n s := rfl
@[simp] theorem exec_seqMatch (n : Fin 16) : exec (.seqMatch n) s = execSeqMatch n s := rfl
@[simp] theorem exec_seqMwait (n : Fin 16) : exec (.seqMwait n) s = execSeqMwait n s := rfl
@[simp] theorem exec_seqVmatch (n : Fin 16) : exec (.seqVmatch n) s = execSeqVmatch n s := rfl
@[simp] theorem exec_seqLds (n : Fin 16) : exec (.seqLds n) s = execSeqLds n s := rfl
@[simp] theorem exec_seqSts (n : Fin 16) : exec (.seqSts n) s = execSeqSts n s := rfl
@[simp] theorem exec_seqMfs (n : Fin 16) : exec (.seqMfs n) s = execSeqMfs n s := rfl
@[simp] theorem exec_seqMts (n : Fin 16) : exec (.seqMts n) s = execSeqMts n s := rfl
@[simp] theorem exec_seqXmov (n : Fin 16) : exec (.seqXmov n) s = execSeqXmov n s := rfl
@[simp] theorem exec_seqSig (n : Fin 16) : exec (.seqSig n) s = execSeqSig n s := rfl
@[simp] theorem exec_seqSfx (n : Fin 16) : exec (.seqSfx n) s = execSeqSfx n s := rfl
@[simp] theorem exec_seqPgld (n : Fin 16) : exec (.seqPgld n) s = execSeqPgld n s := rfl
@[simp] theorem exec_seqLd (n : Fin 16) : exec (.seqLd n) s = execSeqLd n s := rfl
@[simp] theorem exec_seqSt (n : Fin 16) : exec (.seqSt n) s = execSeqSt n s := rfl
@[simp] theorem exec_seqLdm (n : Fin 16) : exec (.seqLdm n) s = execSeqLdm n s := rfl
@[simp] theorem exec_seqStm (n : Fin 16) : exec (.seqStm n) s = execSeqStm n s := rfl
@[simp] theorem exec_dataAccessComplete (n : Fin 16) (status : Half) : exec (.dataAccessComplete n status) s = execDataAccessComplete n status s := rfl
@[simp] theorem exec_seqSysc (n : Fin 16) : exec (.seqSysc n) s = execSeqSysc n s := rfl
@[simp] theorem exec_seqWaiti (n : Fin 16) : exec (.seqWaiti n) s = execSeqWaiti n s := rfl
@[simp] theorem exec_seqFence (n : Fin 16) : exec (.seqFence n) s = execSeqFence n s := rfl
@[simp] theorem exec_seqHalt (n : Fin 16) : exec (.seqHalt n) s = execSeqHalt n s := rfl
@[simp] theorem exec_seqIllegal (n : Fin 16) : exec (.seqIllegal n) s = execSeqIllegal n s := rfl
@[simp] theorem exec_interruptEntry (n : Fin 16) : exec (.interruptEntry n) s = execInterruptEntry n s := rfl
@[simp] theorem exec_psqDoorbell (req : Requester) (n : Fin 16) (value : Word) : exec (.psqDoorbell req n value) s = execPsqDoorbell req n value s := rfl
@[simp] theorem exec_psqTimer (n : Fin 16) : exec (.psqTimer n) s = execPsqTimer n s := rfl
@[simp] theorem exec_psqPgCmd (req : Requester) (n : Fin 16) (page : Fin 16) (srcUnit : BitVec 24) : exec (.psqPgCmd req n page srcUnit) s = execPsqPgCmd req n page srcUnit s := rfl
@[simp] theorem exec_pageFillDone (n : Fin 16) (page : Fin 16) (status : Half) : exec (.pageFillDone n page status) s = execPageFillDone n page status s := rfl
@[simp] theorem exec_windowSpill (n : Fin 16) : exec (.windowSpill n) s = execWindowSpill n s := rfl
@[simp] theorem exec_windowFill (n : Fin 16) : exec (.windowFill n) s = execWindowFill n s := rfl
@[simp] theorem exec_wstoreToMemory (n : Fin 16) (status : Half) : exec (.wstoreToMemory n status) s = execWstoreToMemory n status s := rfl
@[simp] theorem exec_wstoreFromMemory (n : Fin 16) (status : Half) : exec (.wstoreFromMemory n status) s = execWstoreFromMemory n status s := rfl
@[simp] theorem exec_psqSealSet (req : Requester) (n : Fin 16) : exec (.psqSealSet req n) s = execPsqSealSet req n s := rfl
@[simp] theorem exec_psqWdbgAccess (req : Requester) (n : Fin 16) (write : Option Word) : exec (.psqWdbgAccess req n write) s = execPsqWdbgAccess req n write s := rfl
@[simp] theorem exec_psqConfigWrite (req : Requester) (n : Fin 16) (reg : PsqCfgReg) (value : Wide) : exec (.psqConfigWrite req n reg value) s = execPsqConfigWrite req n reg value s := rfl
@[simp] theorem exec_sliceCompare (sl : Fin 256) (h : Half) (l : Half) : exec (.sliceCompare sl h l) s = execSliceCompare sl h l s := rfl
@[simp] theorem exec_pslCal (req : Requester) (sl : Fin 256) : exec (.pslCal req sl) s = execPslCal req sl s := rfl
@[simp] theorem exec_calDone (sl : Fin 256) (outcome : CalOutcome) : exec (.calDone sl outcome) s = execCalDone sl outcome s := rfl
@[simp] theorem exec_pslCntClr (req : Requester) (sl : Fin 256) : exec (.pslCntClr req sl) s = execPslCntClr req sl s := rfl
@[simp] theorem exec_pslSettingWrite (req : Requester) (sl : Fin 256) (reg : PslReg) (value : Word) : exec (.pslSettingWrite req sl reg value) s = execPslSettingWrite req sl reg value s := rfl
@[simp] theorem exec_pslBind (req : Requester) (sl : Fin 256) (value : Word) : exec (.pslBind req sl value) s = execPslBind req sl value s := rfl
@[simp] theorem exec_los (sl : Fin 256) (onH : Bool) (onL : Bool) : exec (.los sl onH onL) s = execLos sl onH onL s := rfl
@[simp] theorem exec_presenceAbsent (partner : Fin 64) : exec (.presenceAbsent partner) s = execPresenceAbsent partner s := rfl
@[simp] theorem exec_pslPartnerDrop (req : Requester) (partner : Fin 64) : exec (.pslPartnerDrop req partner) s = execPslPartnerDrop req partner s := rfl
@[simp] theorem exec_pwrEnWrite (req : Requester) (q : Fin 4) (en : Bool) : exec (.pwrEnWrite req q en) s = execPwrEnWrite req q en s := rfl
@[simp] theorem exec_quadrantReady (q : Fin 4) : exec (.quadrantReady q) s = execQuadrantReady q s := rfl
@[simp] theorem exec_quadrantTimeout (q : Fin 4) : exec (.quadrantTimeout q) s = execQuadrantTimeout q s := rfl
@[simp] theorem exec_failPacketHandover (x : Fin 128) : exec (.failPacketHandover x) s = execFailPacketHandover x s := rfl
@[simp] theorem exec_creditRefill (x : Fin 128) : exec (.creditRefill x) s = execCreditRefill x s := rfl
@[simp] theorem exec_saturationExit (x : Fin 128) : exec (.saturationExit x) s = execSaturationExit x s := rfl
@[simp] theorem exec_drainRecord (k : Fin 64) : exec (.drainRecord k) s = execDrainRecord k s := rfl
@[simp] theorem exec_recordWriteDone (k : Fin 64) (status : Half) : exec (.recordWriteDone k status) s = execRecordWriteDone k status s := rfl
@[simp] theorem exec_countPeriod (k : Fin 64) : exec (.countPeriod k) s = execCountPeriod k s := rfl
@[simp] theorem exec_queueFlushBegin (k : Fin 64) : exec (.queueFlushBegin k) s = execQueueFlushBegin k s := rfl
@[simp] theorem exec_flushDone (k : Fin 64) : exec (.flushDone k) s = execFlushDone k s := rfl
@[simp] theorem exec_fcqPtrMismatch (q : QueueId) (ptr : PtrId) (copy1 : Word) (copy2 : Word) : exec (.fcqPtrMismatch q ptr copy1 copy2) s = execFcqPtrMismatch q ptr copy1 copy2 s := rfl
@[simp] theorem exec_queueResetDone (q : QueueId) : exec (.queueResetDone q) s = execQueueResetDone q s := rfl
@[simp] theorem exec_fcqConfigWrite (req : Requester) (reg : FcqReg) (value : Wide) : exec (.fcqConfigWrite req reg value) s = execFcqConfigWrite req reg value s := rfl
@[simp] theorem exec_ckpt (req : Requester) (k : Fin 64) : exec (.ckpt req k) s = execCkpt req k s := rfl
@[simp] theorem exec_qReset (req : Requester) (k : Fin 64) : exec (.qReset req k) s = execQReset req k s := rfl
@[simp] theorem exec_qDrop (req : Requester) (k : Fin 64) : exec (.qDrop req k) s = execQDrop req k s := rfl
@[simp] theorem exec_markSet (req : Requester) (k : Fin 64) (m : Fin 4) : exec (.markSet req k m) s = execMarkSet req k m s := rfl
@[simp] theorem exec_markClr (req : Requester) (k : Fin 64) (m : Fin 4) : exec (.markClr req k m) s = execMarkClr req k m s := rfl
@[simp] theorem exec_sqDrop (req : Requester) (j : Fin 8) : exec (.sqDrop req j) s = execSqDrop req j s := rfl
@[simp] theorem exec_sqReset (req : Requester) (j : Fin 8) : exec (.sqReset req j) s = execSqReset req j s := rfl
@[simp] theorem exec_sqWmWrite (req : Requester) (j : Fin 8) (value : Word) : exec (.sqWmWrite req j value) s = execSqWmWrite req j value s := rfl
@[simp] theorem exec_streamPacketWrite (j : Fin 8) (part : PacketPart) : exec (.streamPacketWrite j part) s = execStreamPacketWrite j part s := rfl
@[simp] theorem exec_sqPop (req : Requester) (j : Fin 8) : exec (.sqPop req j) s = execSqPop req j s := rfl
@[simp] theorem exec_collectPacket (l : Fin 16) (k : Fin 64) : exec (.collectPacket l k) s = execCollectPacket l k s := rfl
@[simp] theorem exec_collectMarker (l : Fin 16) (k : Fin 64) : exec (.collectMarker l k) s = execCollectMarker l k s := rfl
@[simp] theorem exec_slvStoreEcc (g : Fin 4096) (unit : StoreUnit) : exec (.slvStoreEcc g unit) s = execSlvStoreEcc g unit s := rfl
@[simp] theorem exec_laneMap (req : Requester) (l : Fin 16) (status : Half) : exec (.laneMap req l status) s = execLaneMap req l status s := rfl
@[simp] theorem exec_laneReset (req : Requester) (l : Fin 16) : exec (.laneReset req l) s = execLaneReset req l s := rfl
@[simp] theorem exec_slvOpen (req : Requester) (g : Fin 4096) (cnt : Fin 4096) (status : Half) : exec (.slvOpen req g cnt status) s = execSlvOpen req g cnt status s := rfl
@[simp] theorem exec_slvClose (req : Requester) (g : Fin 4096) (cnt : Fin 4096) : exec (.slvClose req g cnt) s = execSlvClose req g cnt s := rfl
@[simp] theorem exec_slvSolve (req : Requester) (g : Fin 4096) (cnt : Fin 4096) : exec (.slvSolve req g cnt) s = execSlvSolve req g cnt s := rfl
@[simp] theorem exec_slvResolve (req : Requester) (g : Fin 4096) (cnt : Fin 4096) (status : Half) : exec (.slvResolve req g cnt status) s = execSlvResolve req g cnt status s := rfl
@[simp] theorem exec_slvAbort (req : Requester) (g : Fin 4096) (cnt : Fin 4096) : exec (.slvAbort req g cnt) s = execSlvAbort req g cnt s := rfl
@[simp] theorem exec_slvRelease (req : Requester) (g : Fin 4096) (cnt : Fin 4096) : exec (.slvRelease req g cnt) s = execSlvRelease req g cnt s := rfl
@[simp] theorem exec_slvCmdComplete : exec .slvCmdComplete s = execSlvCmdComplete s := rfl
@[simp] theorem exec_solveBegin (l : Fin 16) : exec (.solveBegin l) s = execSolveBegin l s := rfl
@[simp] theorem exec_solveComplete (l : Fin 16) (status : Half) : exec (.solveComplete l status) s = execSolveComplete l status s := rfl
@[simp] theorem exec_resultEnqueue (l : Fin 16) : exec (.resultEnqueue l) s = execResultEnqueue l s := rfl
@[simp] theorem exec_replayComplete (l : Fin 16) (status : Half) : exec (.replayComplete l status) s = execReplayComplete l status s := rfl
@[simp] theorem exec_slvCtrlWrite (req : Requester) (en : Bool) : exec (.slvCtrlWrite req en) s = execSlvCtrlWrite req en s := rfl
@[simp] theorem exec_slvLaneCfgWrite (req : Requester) (l : Fin 16) (value : Word) : exec (.slvLaneCfgWrite req l value) s = execSlvLaneCfgWrite req l value s := rfl
@[simp] theorem exec_nocRequest (ni : Fin 177) (tag : Byte) (body : RequestBody) (addr : BitVec 48) (len : Fin 257) : exec (.nocRequest ni tag body addr len) s = execNocRequest ni tag body addr len s := rfl
@[simp] theorem exec_memAccess (c : Fin 8) (cycles : Half) (faults : List (Fin 5 × MemFault)) : exec (.memAccess c cycles faults) s = execMemAccess c cycles faults s := rfl
@[simp] theorem exec_nocCompletion (ni : Fin 177) (tag : Byte) (link : LinkFault) : exec (.nocCompletion ni tag link) s = execNocCompletion ni tag link s := rfl
@[simp] theorem exec_nocTimeout (ni : Fin 177) (tag : Byte) : exec (.nocTimeout ni tag) s = execNocTimeout ni tag s := rfl
@[simp] theorem exec_routeHoldExpiry (ni : Fin 177) (tag : Byte) (router : Fin 64) : exec (.routeHoldExpiry ni tag router) s = execRouteHoldExpiry ni tag router s := rfl
@[simp] theorem exec_nack (ni : Fin 177) (tag : Byte) : exec (.nack ni tag) s = execNack ni tag s := rfl
@[simp] theorem exec_nocBegin (req : Requester) (r : Fin 64) : exec (.nocBegin req r) s = execNocBegin req r s := rfl
@[simp] theorem exec_routerDrained (r : Fin 64) : exec (.routerDrained r) s = execRouterDrained r s := rfl
@[simp] theorem exec_nocEnd (req : Requester) (r : Fin 64) : exec (.nocEnd req r) s = execNocEnd req r s := rfl
@[simp] theorem exec_nocReconfTimeout (r : Fin 64) : exec (.nocReconfTimeout r) s = execNocReconfTimeout r s := rfl
@[simp] theorem exec_nocFence (req : Requester) (d : Fin 32) : exec (.nocFence req d) s = execNocFence req d s := rfl
@[simp] theorem exec_domainFenced (d : Fin 32) : exec (.domainFenced d) s = execDomainFenced d s := rfl
@[simp] theorem exec_nocUnfence (req : Requester) (d : Fin 32) : exec (.nocUnfence req d) s = execNocUnfence req d s := rfl
@[simp] theorem exec_routeCommit (req : Requester) (src : Byte) (dest : Byte) : exec (.routeCommit req src dest) s = execRouteCommit req src dest s := rfl
@[simp] theorem exec_routeLoad (req : Requester) (src : Byte) (dest : Byte) : exec (.routeLoad req src dest) s = execRouteLoad req src dest s := rfl
@[simp] theorem exec_nocTimeoutWrite (req : Requester) (value : Word) : exec (.nocTimeoutWrite req value) s = execNocTimeoutWrite req value s := rfl
@[simp] theorem exec_memcInit (req : Requester) (c : Fin 8) : exec (.memcInit req c) s = execMemcInit req c s := rfl
@[simp] theorem exec_memcReady (req : Requester) (c : Fin 8) : exec (.memcReady req c) s = execMemcReady req c s := rfl
@[simp] theorem exec_memcSrEnter (req : Requester) (c : Fin 8) : exec (.memcSrEnter req c) s = execMemcSrEnter req c s := rfl
@[simp] theorem exec_memcSrExit (req : Requester) (c : Fin 8) : exec (.memcSrExit req c) s = execMemcSrExit req c s := rfl
@[simp] theorem exec_memcErase (req : Requester) (c : Fin 8) (sub : Fin 2) (comp : Fin 8) : exec (.memcErase req c sub comp) s = execMemcErase req c sub comp s := rfl
@[simp] theorem exec_memcUnerase (req : Requester) (c : Fin 8) : exec (.memcUnerase req c) s = execMemcUnerase req c s := rfl
@[simp] theorem exec_memcFail (req : Requester) (c : Fin 8) : exec (.memcFail req c) s = execMemcFail req c s := rfl
@[simp] theorem exec_memcMrGo (req : Requester) (c : Fin 8) (value : Word) : exec (.memcMrGo req c value) s = execMemcMrGo req c value s := rfl
@[simp] theorem exec_patrolScrub (c : Fin 8) (laddr : BitVec 35) (faults : List MemFault) : exec (.patrolScrub c laddr faults) s = execPatrolScrub c laddr faults s := rfl
@[simp] theorem exec_dramTempReport (c : Fin 8) (celsius : Byte) : exec (.dramTempReport c celsius) s = execDramTempReport c celsius s := rfl
@[simp] theorem exec_memcMapWrite (req : Requester) (value : Word) : exec (.memcMapWrite req value) s = execMemcMapWrite req value s := rfl
@[simp] theorem exec_memcBar2BaseWrite (req : Requester) (value : Word) : exec (.memcBar2BaseWrite req value) s = execMemcBar2BaseWrite req value s := rfl
@[simp] theorem exec_bar2Access (off : BitVec 36) (write : Option (List Byte)) (len : Fin 4097) (status : Half) : exec (.bar2Access off write len status) s = execBar2Access off write len status s := rfl
@[simp] theorem exec_cfgLoad (req : Requester) (src : Fin 8) (chain : Bool) (fallback : Bool) : exec (.cfgLoad req src chain fallback) s = execCfgLoad req src chain fallback s := rfl
@[simp] theorem exec_cfgAbort (req : Requester) : exec (.cfgAbort req) s = execCfgAbort req s := rfl
@[simp] theorem exec_cfgHeader (bytes : List Byte) (status : Half) : exec (.cfgHeader bytes status) s = execCfgHeader bytes status s := rfl
@[simp] theorem exec_chunkAuthenticate (cipher : List Byte) (tag : List Byte) (status : Half) : exec (.chunkAuthenticate cipher tag status) s = execChunkAuthenticate cipher tag status s := rfl
@[simp] theorem exec_regionMap : exec .regionMap s = execRegionMap s := rfl
@[simp] theorem exec_regionDesc : exec .regionDesc s = execRegionDesc s := rfl
@[simp] theorem exec_cellWords : exec .cellWords s = execCellWords s := rfl
@[simp] theorem exec_routeWords : exec .routeWords s = execRouteWords s := rfl
@[simp] theorem exec_mcellInit : exec .mcellInit s = execMcellInit s := rfl
@[simp] theorem exec_psqImem : exec .psqImem s = execPsqImem s := rfl
@[simp] theorem exec_psqConfig : exec .psqConfig s = execPsqConfig s := rfl
@[simp] theorem exec_sliceSite : exec .sliceSite s = execSliceSite s := rfl
@[simp] theorem exec_initState : exec .initState s = execInitState s := rfl
@[simp] theorem exec_frameEnd : exec .frameEnd s = execFrameEnd s := rfl
@[simp] theorem exec_signatureCheck (bytes : List Byte) (status : Half) : exec (.signatureCheck bytes status) s = execSignatureCheck bytes status s := rfl
@[simp] theorem exec_cfgStallTimeout : exec .cfgStallTimeout s = execCfgStallTimeout s := rfl
@[simp] theorem exec_endOfChain (bytes : List Byte) (status : Half) : exec (.endOfChain bytes status) s = execEndOfChain bytes status s := rfl
@[simp] theorem exec_cfgChainWrite (req : Requester) (value : Word) : exec (.cfgChainWrite req value) s = execCfgChainWrite req value s := rfl
@[simp] theorem exec_portLoad (chain : Bool) (len : Word) : exec (.portLoad chain len) s = execPortLoad chain len s := rfl
@[simp] theorem exec_readback (addr : Word) (count : Word) : exec (.readback addr count) s = execReadback addr count s := rfl
@[simp] theorem exec_portStatus : exec .portStatus s = execPortStatus s := rfl
@[simp] theorem exec_portAbort : exec .portAbort s = execPortAbort s := rfl
@[simp] theorem exec_powerUp (kcvOk : Bool) (vbatLost : Bool) (sense : FuseSense) (a : FwRead) (b : FwRead) : exec (.powerUp kcvOk vbatLost sense a b) s = execPowerUp kcvOk vbatLost sense a b s := rfl
@[simp] theorem exec_pd00PowerLoss (mboxBlow : Bool) : exec (.pd00PowerLoss mboxBlow) s = execPd00PowerLoss mboxBlow s := rfl
@[simp] theorem exec_porNRelease (sense : FuseSense) : exec (.porNRelease sense) s = execPorNRelease sense s := rfl
@[simp] theorem exec_wrstNRelease : exec .wrstNRelease s = execWrstNRelease s := rfl
@[simp] theorem exec_bootWdtExpired : exec .bootWdtExpired s = execBootWdtExpired s := rfl
@[simp] theorem exec_firmwareFailureReset (code : Half) (stage : Fin 8) (detail : Word) (slotB : Bool) : exec (.firmwareFailureReset code stage detail slotB) s = execFirmwareFailureReset code stage detail slotB s := rfl
@[simp] theorem exec_bootReady (a : FwRead) (b : FwRead) (test : SelfTest) : exec (.bootReady a b test) s = execBootReady a b test s := rfl
@[simp] theorem exec_quote (req : Requester) : exec (.quote req) s = execQuote req s := rfl
@[simp] theorem exec_readLog (req : Requester) : exec (.readLog req) s = execReadLog req s := rfl
@[simp] theorem exec_readIdkey (req : Requester) : exec (.readIdkey req) s = execReadIdkey req s := rfl
@[simp] theorem exec_bootHost (req : Requester) : exec (.bootHost req) s = execBootHost req s := rfl
@[simp] theorem exec_retry (req : Requester) : exec (.retry req) s = execRetry req s := rfl
@[simp] theorem exec_enrolOwner (req : Requester) : exec (.enrolOwner req) s = execEnrolOwner req s := rfl
@[simp] theorem exec_rotateOwner (req : Requester) : exec (.rotateOwner req) s = execRotateOwner req s := rfl
@[simp] theorem exec_provisionKey (req : Requester) (arg : Byte) : exec (.provisionKey req arg) s = execProvisionKey req arg s := rfl
@[simp] theorem exec_revokeKey (req : Requester) (arg : Byte) : exec (.revokeKey req arg) s = execRevokeKey req arg s := rfl
@[simp] theorem exec_lock (req : Requester) (arg : Byte) : exec (.lock req arg) s = execLock req arg s := rfl
@[simp] theorem exec_loadModule (req : Requester) : exec (.loadModule req) s = execLoadModule req s := rfl
@[simp] theorem exec_zeroize (req : Requester) : exec (.zeroize req) s = execZeroize req s := rfl
@[simp] theorem exec_secMboxComplete (status : Half) (wstatus : Half) (blowOk : Bool) : exec (.secMboxComplete status wstatus blowOk) s = execSecMboxComplete status wstatus blowOk s := rfl
@[simp] theorem exec_tamper (pin : TamperPin) : exec (.tamper low) s = execTamper low s := rfl
@[simp] theorem exec_testModeEntry (ir : Byte) (blowOk : Bool) (mboxBlow : Bool) : exec (.testModeEntry ir blowOk mboxBlow) s = execTestModeEntry ir blowOk mboxBlow s := rfl
@[simp] theorem exec_testModeExit (trst : Bool) (ir : Byte) : exec (.testModeExit trst ir) s = execTestModeExit trst ir s := rfl
@[simp] theorem exec_bypass : exec .bypass s = execBypass s := rfl
@[simp] theorem exec_idcode : exec .idcode s = execIdcode s := rfl
@[simp] theorem exec_sample (pins : List Bool) : exec (.sample pins) s = execSample pins s := rfl
@[simp] theorem exec_preload (data : List Bool) : exec (.preload data) s = execPreload data s := rfl
@[simp] theorem exec_extest (pins : List Bool) : exec (.extest pins) s = execExtest pins s := rfl
@[simp] theorem exec_clamp : exec .clamp s = execClamp s := rfl
@[simp] theorem exec_highz : exec .highz s = execHighz s := rfl
@[simp] theorem exec_extestPulse (pins : List Bool) : exec (.extestPulse pins) s = execExtestPulse pins s := rfl
@[simp] theorem exec_extestTrain (pins : List Bool) : exec (.extestTrain pins) s = execExtestTrain pins s := rfl
@[simp] theorem exec_cascadeLinkUp (p : Fin 8) : exec (.cascadeLinkUp p) s = execCascadeLinkUp p s := rfl
@[simp] theorem exec_cascadeLinkDown (p : Fin 8) : exec (.cascadeLinkDown p) s = execCascadeLinkDown p s := rfl
@[simp] theorem exec_align (p : Fin 8) (body : BitVec 40) : exec (.align p body) s = execAlign p body s := rfl
@[simp] theorem exec_sync (p : Fin 8) (body : BitVec 40) (ta : BitVec 24) : exec (.sync p body ta) s = execSync p body ta s := rfl
@[simp] theorem exec_echo (p : Fin 8) (body : BitVec 40) (n : Wide) (elapsed : Word) : exec (.echo p body n elapsed) s = execEcho p body n elapsed s := rfl
@[simp] theorem exec_pkt (p : Fin 8) (seq : Fin 1024) (bytes : List Byte) : exec (.pkt p seq bytes) s = execPkt p seq bytes s := rfl
@[simp] theorem exec_ack (p : Fin 8) (body : BitVec 40) : exec (.ack p body) s = execAck p body s := rfl
@[simp] theorem exec_nak (p : Fin 8) (body : BitVec 40) : exec (.nak p body) s = execNak p body s := rfl
@[simp] theorem exec_packetAckTimeout (p : Fin 8) : exec (.packetAckTimeout p) s = execPacketAckTimeout p s := rfl
@[simp] theorem exec_holdBlock (p : Fin 8) (body : BitVec 40) : exec (.holdBlock p body) s = execHoldBlock p body s := rfl
@[simp] theorem exec_down (p : Fin 8) (body : BitVec 40) : exec (.down p body) s = execDown p body s := rfl
@[simp] theorem exec_voteFieldReceived (p : Fin 8) (field : BitVec 24) (phase : Fin 64) : exec (.voteFieldReceived p field phase) s = execVoteFieldReceived p field phase s := rfl
@[simp] theorem exec_voteFieldLost (p : Fin 8) : exec (.voteFieldLost p) s = execVoteFieldLost p s := rfl
@[simp] theorem exec_holdEffective : exec .holdEffective s = execHoldEffective s := rfl
@[simp] theorem exec_memRd (status : Half) : exec (.memRd status) s = execMemRd status s := rfl
@[simp] theorem exec_memWr (status : Half) : exec (.memWr status) s = execMemWr status s := rfl
@[simp] theorem exec_memCpl : exec .memCpl s = execMemCpl s := rfl
@[simp] theorem exec_chain : exec .chain s = execChain s := rfl
@[simp] theorem exec_hello : exec .hello s = execHello s := rfl
@[simp] theorem exec_assign : exec .assign s = execAssign s := rfl
@[simp] theorem exec_report : exec .report s = execReport s := rfl
@[simp] theorem exec_position : exec .position s = execPosition s := rfl
@[simp] theorem exec_tickset (elapsed : Word) (err : Byte) : exec (.tickset elapsed err) s = execTickset elapsed err s := rfl
@[simp] theorem exec_flight : exec .flight s = execFlight s := rfl
@[simp] theorem exec_vgrp : exec .vgrp s = execVgrp s := rfl
@[simp] theorem exec_fckset : exec .fckset s = execFckset s := rfl
@[simp] theorem exec_fckStopTickReached : exec .fckStopTickReached s = execFckStopTickReached s := rfl
@[simp] theorem exec_regRd : exec .regRd s = execRegRd s := rfl
@[simp] theorem exec_regWr : exec .regWr s = execRegWr s := rfl
@[simp] theorem exec_regRsp : exec .regRsp s = execRegRsp s := rfl
@[simp] theorem exec_helloTimer : exec .helloTimer s = execHelloTimer s := rfl
@[simp] theorem exec_poleElected : exec .poleElected s = execPoleElected s := rfl
@[simp] theorem exec_formTimeout : exec .formTimeout s = execFormTimeout s := rfl
@[simp] theorem exec_alignTracking (p : Fin 8) : exec (.alignTracking p) s = execAlignTracking p s := rfl
@[simp] theorem exec_form (req : Requester) : exec (.form req) s = execForm req s := rfl
@[simp] theorem exec_leave (req : Requester) : exec (.leave req) s = execLeave req s := rfl
@[simp] theorem exec_recal (req : Requester) : exec (.recal req) s = execRecal req s := rfl
@[simp] theorem exec_remote (req : Requester) : exec (.remote req) s = execRemote req s := rfl
@[simp] theorem exec_remoteTimeout : exec .remoteTimeout s = execRemoteTimeout s := rfl
@[simp] theorem exec_cscVgrpWrite (req : Requester) (g : Fin 16) (start : Bool) (value : Wide) : exec (.cscVgrpWrite req g start value) s = execCscVgrpWrite req g start value s := rfl
@[simp] theorem exec_bistSliceStart (cl : Fin 256) (j : Fin 10) (differs : Option (Fin 3)) : exec (.bistSliceStart cl j differs) s = execBistSliceStart cl j differs s := rfl
@[simp] theorem exec_bistSliceEnd (cl : Fin 256) (logic : PartEnd) (chunk : PartEnd) (rows : List (Fin 256)) (spares : List (Fin 16)) (differs : Option (Fin 3)) : exec (.bistSliceEnd cl logic chunk rows spares differs) s = execBistSliceEnd cl logic chunk rows spares differs s := rfl
@[simp] theorem exec_bistSliceAbort (cl : Fin 256) (how : AbortEnd) (sig : Wide) : exec (.bistSliceAbort cl count sig) s = execBistSliceAbort cl count sig s := rfl
@[simp] theorem exec_nightfall (req : Requester) : exec (.nightfall req) s = execNightfall req s := rfl
@[simp] theorem exec_nightfallComplete (tck : GroupEnd) (xcl : GroupEnd) (psl : GroupEnd) (key : GroupEnd) (ended : Wide) : exec (.nightfallComplete tck xcl psl key ended) s = execNightfallComplete tck xcl psl key ended s := rfl
@[simp] theorem exec_blow (req : Requester) : exec (.blow req) s = execBlow req s := rfl
@[simp] theorem exec_void (req : Requester) (index : Fin 64) : exec (.void req index) s = execVoid req index s := rfl
@[simp] theorem exec_fuseBlowDone (ok : Bool) : exec (.fuseBlowDone ok) s = execFuseBlowDone ok s := rfl
@[simp] theorem exec_errorReport (code : Half) (source : Word) (detail : Wide) : exec (.errorReport code source detail) s = execErrorReport code source detail s := rfl
@[simp] theorem exec_loggerTakeEntry : exec .loggerTakeEntry s = execLoggerTakeEntry s := rfl
@[simp] theorem exec_summaryPeriod : exec .summaryPeriod s = execSummaryPeriod s := rfl
@[simp] theorem exec_errRoll (req : Requester) : exec (.errRoll req) s = execErrRoll req s := rfl
@[simp] theorem exec_errClear (req : Requester) : exec (.errClear req) s = execErrClear req s := rfl
@[simp] theorem exec_dumpAck (req : Requester) : exec (.dumpAck req) s = execDumpAck req s := rfl
@[simp] theorem exec_errRptrWrite (req : Requester) (value : Word) : exec (.errRptrWrite req value) s = execErrRptrWrite req value s := rfl
@[simp] theorem exec_logMirror (status : Half) : exec (.logMirror status) s = execLogMirror status s := rfl
@[simp] theorem exec_fatalReport (code : Half) (source : Word) (detail : Wide) : exec (.fatalReport code source detail) s = execFatalReport code source detail s := rfl
@[simp] theorem exec_dumpComplete (slotStatus : Half) (hostStatus : Half) : exec (.dumpComplete slotStatus hostStatus) s = execDumpComplete slotStatus hostStatus s := rfl
@[simp] theorem exec_dumpAutoReset : exec .dumpAutoReset s = execDumpAutoReset s := rfl
@[simp] theorem exec_perst : exec .perst s = execPerst s := rfl
@[simp] theorem exec_hotReset : exec .hotReset s = execHotReset s := rfl
@[simp] theorem exec_linkDown : exec .linkDown s = execLinkDown s := rfl
@[simp] theorem exec_flr : exec .flr s = execFlr s := rfl
@[simp] theorem exec_hifResetWrite (req : Requester) (value : Word) : exec (.hifResetWrite req value) s = execHifResetWrite req value s := rfl
@[simp] theorem exec_cmqEnable (req : Requester) (q : Fin 8) (value : Word) : exec (.cmqEnable req q value) s = execCmqEnable req q value s := rfl
@[simp] theorem exec_cmqDoorbell (req : Requester) (q : Fin 8) (value : Half) : exec (.cmqDoorbell req q value) s = execCmqDoorbell req q value s := rfl
@[simp] theorem exec_cpqHeadWrite (req : Requester) (q : Fin 8) (value : Half) : exec (.cpqHeadWrite req q value) s = execCpqHeadWrite req q value s := rfl
@[simp] theorem exec_cmdStart (q : Fin 8) (status : Half) : exec (.cmdStart q status) s = execCmdStart q status s := rfl
@[simp] theorem exec_cmdNop (q : Fin 8) : exec (.cmdNop q) s = execCmdNop q s := rfl
@[simp] theorem exec_cmdRegWr (q : Fin 8) : exec (.cmdRegWr q) s = execCmdRegWr q s := rfl
@[simp] theorem exec_cmdRegRd (q : Fin 8) : exec (.cmdRegRd q) s = execCmdRegRd q s := rfl
@[simp] theorem exec_cmdCopy (q : Fin 8) (status : Half) (done : Word) : exec (.cmdCopy q status done) s = execCmdCopy q status done s := rfl
@[simp] theorem exec_cmdCfgLoad (q : Fin 8) : exec (.cmdCfgLoad q) s = execCmdCfgLoad q s := rfl
@[simp] theorem exec_cmdSiteCmd (q : Fin 8) : exec (.cmdSiteCmd q) s = execCmdSiteCmd q s := rfl
@[simp] theorem exec_cmdSlvCmd (q : Fin 8) (status : Half) : exec (.cmdSlvCmd q status) s = execCmdSlvCmd q status s := rfl
@[simp] theorem exec_cmdComplete (q : Fin 8) (cid : Half) (status : Half) : exec (.cmdComplete q cid status) s = execCmdComplete q cid status s := rfl
@[simp] theorem exec_elogEventWindow : exec .elogEventWindow s = execElogEventWindow s := rfl
@[simp] theorem exec_evqEnable (req : Requester) (value : Word) : exec (.evqEnable req value) s = execEvqEnable req value s := rfl
@[simp] theorem exec_uploadEnable (req : Requester) (j : Fin 8) (value : Word) : exec (.uploadEnable req j value) s = execUploadEnable req j value s := rfl
@[simp] theorem exec_uploadPacket (j : Fin 8) (status : Half) (irq : Bool) : exec (.uploadPacket j status irq) s = execUploadPacket j status irq s := rfl
@[simp] theorem exec_hotJoin (bus : Bool) (pid : BitVec 48) (bcr : Byte) (dcr : Byte) (desc : BitVec 128) (addr : Option Byte) : exec (.hotJoin bus pid bcr dcr desc addr) s = execHotJoin bus pid bcr dcr desc addr s := rfl
@[simp] theorem exec_partnerPoll (fails : BitVec 64) : exec (.partnerPoll fails) s = execPartnerPoll fails s := rfl
@[simp] theorem exec_auxI3cXfer (req : Requester) (value : Word) : exec (.auxI3cXfer req value) s = execAuxI3cXfer req value s := rfl
@[simp] theorem exec_i3cXferDone (ok : Bool) (data : BitVec 256) : exec (.i3cXferDone ok data) s = execI3cXferDone ok data s := rfl
@[simp] theorem exec_xspiRead (req : Requester) : exec (.xspiRead req) s = execXspiRead req s := rfl
@[simp] theorem exec_xspiProgram (req : Requester) : exec (.xspiProgram req) s = execXspiProgram req s := rfl
@[simp] theorem exec_xspiErase4k (req : Requester) : exec (.xspiErase4k req) s = execXspiErase4k req s := rfl
@[simp] theorem exec_xspiErase64k (req : Requester) : exec (.xspiErase64k req) s = execXspiErase64k req s := rfl
@[simp] theorem exec_xspiCmdDone (status : Half) (flashFail : Option Byte) : exec (.xspiCmdDone status flashFail) s = execXspiCmdDone status flashFail s := rfl
@[simp] theorem exec_pwrOn (req : Requester) (d : Fin 32) : exec (.pwrOn req d) s = execPwrOn req d s := rfl
@[simp] theorem exec_pwrOff (req : Requester) (d : Fin 32) : exec (.pwrOff req d) s = execPwrOff req d s := rfl
@[simp] theorem exec_domainSwitchDone : exec .domainSwitchDone s = execDomainSwitchDone s := rfl
@[simp] theorem exec_pwrDomainTimeout : exec .pwrDomainTimeout s = execPwrDomainTimeout s := rfl
@[simp] theorem exec_refLost : exec .refLost s = execRefLost s := rfl
@[simp] theorem exec_clkPllUnlock (pll : Fin 10) : exec (.clkPllUnlock pll) s = execClkPllUnlock pll s := rfl
@[simp] theorem exec_pllRelock (pll : Fin 10) : exec (.pllRelock pll) s = execPllRelock pll s := rfl
@[simp] theorem exec_pwrRailFault (rail : Fin 4) : exec (.pwrRailFault rail) s = execPwrRailFault rail s := rfl
@[simp] theorem exec_pwrThermalWarn (sensor : Fin 8) (temp : Half) : exec (.pwrThermalWarn sensor temp) s = execPwrThermalWarn sensor temp s := rfl
@[simp] theorem exec_pwrThermalTrip (sensor : Fin 8) (temp : Half) : exec (.pwrThermalTrip sensor temp) s = execPwrThermalTrip sensor temp s := rfl
@[simp] theorem exec_thermtrip (sensor : Fin 8) (temp : Half) : exec (.thermtrip sensor temp) s = execThermtrip sensor temp s := rfl
@[simp] theorem exec_fckEdge : exec .fckEdge s = execFckEdge s := rfl
@[simp] theorem exec_regRead (req : Requester) (off : BitVec 26) (wide : Bool) : exec (.regRead req off wide) s = execRegRead req off wide s := rfl
@[simp] theorem exec_rclkSyncTransfer (slot : Fin 2560) : exec (.rclkSyncTransfer slot) s = execRclkSyncTransfer slot s := rfl
@[simp] theorem exec_pcieLinkUp (speed : Fin 5) (width : Fin 5) (msixOn : Bool) (busMaster : Bool) : exec (.pcieLinkUp speed width msixOn busMaster) s = execPcieLinkUp speed width msixOn busMaster s := rfl
@[simp] theorem exec_aerUncorrectable (status : Word) : exec (.aerUncorrectable status) s = execAerUncorrectable status s := rfl
@[simp] theorem exec_memcMrDone (c : Fin 8) (data : Byte) : exec (.memcMrDone c data) s = execMemcMrDone c data s := rfl
@[simp] theorem exec_losRecovery (sl : Fin 256) (onH : Bool) (onL : Bool) : exec (.losRecovery sl onH onL) s = execLosRecovery sl onH onL s := rfl
@[simp] theorem exec_cfgCsNRaise : exec .cfgCsNRaise s = execCfgCsNRaise s := rfl
@[simp] theorem exec_thermalWarnRearm (temps : BitVec 128) : exec (.thermalWarnRearm temps) s = execThermalWarnRearm temps s := rfl

end Sys2Proof.Machine
end

