-- ==== Sys2Proof/Laws/Memory.lean ====
section
/-! SUPPORT. Every memory operation keeps the canonical form of attached memory and of the record of host memory, and changes nothing else. -/

namespace Sys2Proof.Machine

/-- A byte written to attached memory keeps its canonical form. -/
theorem State.mem_setMemByte_wf {s : State} (a : Nat) (b : Byte) (h : mwf memDefault s.mem = true) :
    mwf memDefault (s.setMemByte a b).mem = true := mwf_mset memDefault _ b s.mem h

/-- A byte written at a DPA changes the two memories at most. -/
theorem State.setDpaByte_cases (s : State) (a : Nat) (b : Byte) :
    ∃ m h, s.setDpaByte a b = { s with mem := m, hmem := h } ∧
      (mwf memDefault s.mem = true → mwf memDefault m = true) ∧ (mwf memDefault s.hmem = true → mwf memDefault h = true) := by
  unfold State.setDpaByte
  split
  · exact ⟨_, s.hmem, rfl, s.mem_setMemByte_wf a b, id⟩
  · exact ⟨_, s.hmem, rfl, s.mem_setMemByte_wf a b, id⟩
  · exact ⟨s.mem, _, rfl, id, mwf_mset memDefault _ b s.hmem⟩
  · split
    · exact ⟨_, s.hmem, rfl, s.mem_setMemByte_wf _ b, id⟩
    · exact ⟨s.mem, s.hmem, rfl, id, id⟩
  · exact ⟨s.mem, s.hmem, rfl, id, id⟩

/-- Bytes written from a DPA on change the two memories at most, and keep their canonical forms. -/
theorem State.setDpaBytes_cases (bs : List Byte) : ∀ (s : State) (a : Nat),
    ∃ m h, s.setDpaBytes a bs = { s with mem := m, hmem := h } ∧
      (mwf memDefault s.mem = true → mwf memDefault m = true) ∧ (mwf memDefault s.hmem = true → mwf memDefault h = true) := by
  induction bs with
  | nil => exact fun s _ => ⟨s.mem, s.hmem, rfl, id, id⟩
  | cons b bs ih =>
    intro s a
    obtain ⟨m, h, e, wm, wh⟩ := s.setDpaByte_cases a b
    obtain ⟨m', h', e', wm', wh'⟩ := ih (s.setDpaByte a b) (a + 1)
    refine ⟨m', h', ?_, ?_, ?_⟩
    · rw [State.setDpaBytes, e', e]
    · rw [e] at wm'; exact fun w => wm' (wm w)
    · rw [e] at wh'; exact fun w => wh' (wh w)

/-- Memory that is kept by channel keeps its canonical form. -/
theorem mem_mkeep_wf (p : Nat → Bool) (m : List (Nat × Byte)) (h : mwf memDefault m = true) : mwf memDefault (mkeep p m) = true :=
  mwf_mkeep memDefault p m h

end Sys2Proof.Machine
end

