-- ==== Sys2Proof/Tests/Slice0.lean ====
section
/-! SUPPORT. Tests on small states: ill-formed operands are refused, a few single steps with values taken by hand from the spec, and for every
statement with hypotheses concrete states and operands that meet them. -/

set_option maxRecDepth 4000

namespace Sys2Proof.Tests
open Machine

/-- The state after reset, but ready and with FCK running. -/
def sB : State := { State.reset with dev := .ready, fckOn := true }

/-- A valid word. -/
def fw (d : Word) : FWord := ⟨false, true, d⟩

/-- Cell registers in which every word is valid. -/
def cellRegs : CellRegs := { CellRegs.zero with
  q := fw 0x10, l0 := fw 0x80000003, l1 := fw 5, l2 := fw 1, l3 := fw 7, acc := fw 0xFFFFFFFF, cy := true, w := 0x8000000000000001, wv := true }

/-- A function word: opcode, MOD and IMM, with operands from L0, L1 and L2, and the hold bit. -/
def fnWord (o mod imm hold : Nat) : Wide :=
  BitVec.ofNat 64 (o * 2 ^ 56 + 0x456 * 2 ^ 44 + hold * 2 ^ 40 + mod * 2 ^ 36 + imm)

/-- The cell in slot `k`, in cluster 0 or X-cell 0, issues with function word `fn`, static word `st` and registers `c`. -/
def cellState (s : State) (k : Nat) (fn st : Wide) (c : CellRegs) : State :=
  (((((s.setFlds [(F.FAB_RGN_MAP.REGION 0, 1), (F.FAB_RGN_XMAP.REGION 0, 1), (F.FAB_RGN_DESC.STATE 1, 3)]).setPsq 0
    { Psq.reset with mode := .running }).setStoreWord k 0 fn).setStoreWord k 8 st).setLoadedFlag k 0 true).setCell k c

end Sys2Proof.Tests

namespace Sys2Proof.Machine
/-- The state with another tick. -/
def State.withTick (s : State) (t : Wide) : State := { s with tick := t }
end Sys2Proof.Machine

namespace Sys2Proof.Tests
open Machine
/-- Every memory channel is ready. -/
def memUp (s : State) : State := s.setFlds ((List.range 8).map (fun c => (F.MEMC_STAT.STATE c, 2)))

/-- Region `g` is in state `st` and belongs to site `n`. -/
def rgn (s : State) (g st n : Nat) : State := s.setFlds [(F.FAB_RGN_DESC.STATE g, st), (F.FAB_RGN_DESC.SITE g, n)]

/-- Site `n` is in mode `m`. -/
def site (s : State) (n : Nat) (m : SiteMode) : State := s.setPsq n { Psq.reset with mode := m }
end Sys2Proof.Tests
namespace Sys2Proof.Machine
/-- Third 0 of the routing word of context 0 at position 0 fails its parity check. -/
def State.setRouteBad (s : State) : State := { s with fab := { s.fab with routeBad := [(0, true)] } }
end Sys2Proof.Machine
namespace Sys2Proof.Tests
open Machine
/-- A sequencer word: opcode, VS, bits 23:20, bits 19:16 and bits 15:0. -/
def sqw (op vs rd ra imm : Nat) : Word := BitVec.ofNat 32 (op * 2 ^ 27 + vs * 2 ^ 24 + rd * 2 ^ 20 + ra * 2 ^ 16 + imm)

/-- A sequencer in execution state `e`, its site running, with values in G1 to G5 and two vector codes. -/
def seqP (e : ExecState) : Psq :=
  { (((((Psq.reset.setG 1 0x80000007).setG 2 3).setG 3 0x100).setG 4 1).setG 5 0xFFFFFFFF) with
    mode := .running, exec := e, priv := true, vc := [(1, 0xAA), (2, 0xBB)] }

/-- Sequencer `n` of `s` is `p` with `w` at its PC, in a VALID page, and its depth limit is 20. -/
def seqState (s : State) (n : Nat) (w : Word) (p : Psq) : State :=
  (s.setFlds [(pageFld n (p.pc.toNat / 4096), 2), (F.PSQ_SPILL_LIMIT.DEPTH n, 20)]).setPsq n { p with imem := mset (fun _ => 0) p.pc.toNat w p.imem }

/-- Every quadrant is ready. -/
def quadsUp (s : State) : State :=
  s.setFlds ((List.range 4).flatMap (fun q => [(F.PSL_QCTRL.PWR_EN q, 1), (F.PSL_QSTAT.READY q, 1), (F.PSL_QSTAT.PWR_GOOD q, 1)]))

/-- Slice `k` is assigned to site `n` and bound to partner entry 5. -/
def pslUp (s : State) (k n : Nat) : State :=
  (quadsUp s).setFlds [(F.PSL_SITE.EN k, 1), (F.PSL_SITE.SITE k, n), (F.PSL_STAT.BOUND k, 1), (F.PSL_BIND.PARTNER k, 5)]

/-- Partner entry `e` is ONLINE with 16 channels. -/
def ptUp (s : State) (e : Nat) : State := (s.setPtByte e 8 2).setPtByte e 13 16

/-- The frame headers of a full register window: banks 0 to 14 hold depths `d` to `d + 14`. -/
def fullBanks (d : Nat) : List (Nat × Option FrameHdr) :=
  (List.range 15).map (fun b => (b, some ⟨d + (b + 15 - d % 15) % 15, 1, 0x10, 0, 0, 0⟩))

/-- X-cell `x` is an enabled source of capture queue `k`, which is `q`. -/
def srcUp (s : State) (x k : Nat) (q : CapQueue) : State :=
  (s.setFlds [(F.FCQ_SRC_CFG.EN x, 1), (F.FCQ_SRC_CFG.QUEUE x, k), (F.FCQ_SRC_CRED.CAP x, 10), (F.FCQ_SRC_CRED.SAT_EXIT x, 5)]).setQueue k q

/-- A capture queue in state `st`. -/
def capQ (st : QueueSt) : CapQueue := { CapQueue.reset with st := st }

/-- A fail packet of source 127. -/
def failPkt : CapPkt := .fail 77 0x8001 0 127 1 3 2

/-- The solver is on. -/
def slvUp (s : State) : State := ({ s with dev := .loaded } : State).setFld F.SLV_CTRL.EN 1

/-- A lane map of one segment and one pin, as bytes and as read. -/
def mapBytes : List Byte :=
  [1, 0, 1, 1, 0, 0, 0, 0] ++ leBytes 8 100 ++ List.replicate 48 0 ++
  (leBytes 8 0 ++ leBytes 4 1000 ++ leBytes 4 16 ++ leBytes 2 5 ++ leBytes 2 1 ++ leBytes 2 0 ++ leBytes 2 16 ++ leBytes 2 4090 ++ leBytes 6 0) ++
  List.replicate 2016 0 ++ ([127, 0] ++ leBytes 2 5 ++ leBytes 2 0 ++ [1, 0])
def laneMap : LaneMap := ⟨100, [⟨0, 1000, 16, 5, 1, 0, 16, 4090⟩], [⟨127, 0, 5, 0, 1⟩]⟩

/-- Lane `l` collects from queue 63 by `laneMap`, and packet `p` stands at the tap. -/
def tapUp (s : State) (l : Nat) (p : CapPkt) : State :=
  (((slvUp s).setFlds [(F.FCQ_Q_CFG.TAP_EN 63, 1), (F.FCQ_Q_CFG.TAP_LANE 63, l)]).setQueue 63
    { capQ .run with pkts := [⟨0, p⟩], wptr := p.items }).setLane l
    { SlvLane.reset with map := some laneMap, collect := true, taps := [⟨63, 3, 50, 1⟩] }

/-- A descriptor of 64 rows and 128 columns with spares of each kind, for lane `l`. -/
def desc (l : Nat) : RgnDesc :=
  { RgnDesc.zero with rowsM1 := 63, colsM1 := 127, sr := 2, sc := 2, nblk := 1, lane := l, resultAddr := 0x1000 }

/-- A read of 4 bytes at DPA 0x100 by NI 169 with tag 7, waiting at its NI for the mesh. -/
def req0 : NocReq :=
  { ni := 169, tag := 7, kind := .rd, addr := 0x100, len := 4, dst := targetNi sB 0x100 .interleaved, data := [],
    pkt := requestPacket 169 (targetNi sB 0x100 .interleaved) 7 0x100 4 (baseUrgency 169) .rd (sB.route 169 (targetNi sB 0x100 .interleaved) false) false,
    resent := false, arrUrg := 0, stamp := none, snooped := [], snoopOf := none, cascade := none, dead := false }

/-- The network carries `q`, and every channel is ready. -/
def nocUp (q : NocReq) : State := let s := memUp sB; { s with noc := { s.noc with reqs := [q] } }

/-- The header of an image whose one chunk holds 4,096 bytes. -/
def hdr (kind : Nat) : CfgHdr :=
  { stepMin := 0, position := 0xFF, kind := kind, keysel := 0, signer := 0, totalLen := 4464, nchunk := 1, lastLen := 4096, pmin := 0,
    regionSet := 0x8000000000000000, nonce := [], buildId := 0 }

/-- A load from memory by `req`, waiting for its header. -/
def load0 : CfgLoad := ⟨some .host, 0, false, false, false, 0, none, none, 0, 0, [], 0, false, false, 0, [], none, [], [], [], none⟩

/-- The load in progress is `l`. -/
def loading (s : State) (l : CfgLoad) : State := { s with cfg := { s.cfg with load := some l } }

/-- A load of `kind`, its region map read, whose next frame has type `typ`, target `tgt` and payload `b`; it loads region 63. -/
def frameLoad (kind typ tgt : Nat) (b : List Byte) : CfgLoad :=
  { load0 with hdr := some (hdr kind), chunks := 1, mapSeen := decide (typ ≠ 1), frames := 1, regions := [63],
               plain := leBytes 2 typ ++ leBytes 2 0 ++ leBytes 4 b.length ++ leBytes 8 tgt ++ b }

/-- Cluster 0 and X-cells 0 and 127 lie in region 63, which is being loaded. -/
def rgn63 (s : State) : State :=
  s.setFlds [(F.FAB_RGN_MAP.REGION 0, 63), (F.FAB_RGN_XMAP.REGION 0, 63), (F.FAB_RGN_XMAP.REGION 127, 63), (F.FAB_RGN_DESC.STATE 63, 1)]

/-- The bytes of a header of `kind` that passes the checks of this device. -/
def hdrBytes (s : State) (kind : Nat) : List Byte :=
  [0x55, 0x4D, 0x42, 0x53] ++ leBytes 2 1 ++ leBytes 2 0x100 ++ leBytes 1 (s.fld F.GLB_ID.FAMILY) ++ [0] ++ leBytes 2 (s.fld F.GLB_ID.PART) ++
  [0xFF] ++ leBytes 1 kind ++ [0, 0] ++ leBytes 4 4464 ++ leBytes 4 1 ++ leBytes 4 4096 ++ leBytes 4 0 ++
  leBytes 8 (if kind = 1 then 0 else 0x8000000000000000) ++ List.replicate 216 0

/-- A mailbox command in progress. -/
def mbox (op arg addr len : Nat) : MboxCmd := ⟨op, arg, addr, len, 0, 0, [], 0, 0, 0, false⟩

/-- The mailbox is BUSY with `m`. -/
def mboxUp (s : State) (m : MboxCmd) : State := ({ s with sec := { s.sec with mbox := some m } } : State).setFld F.SEC_MBOX_STAT.BUSY 1

/-- A self-test group that passed. -/
def groupOk : GroupEnd := ⟨[], true, 0, 0⟩
def selfOk : SelfTest := ⟨[], groupOk, groupOk, groupOk, groupOk⟩

/-- A control block of type `t` with field `v`. -/
def ctl (t v : Nat) : BitVec 40 := let h := t * 2 ^ 24 + v; BitVec.ofNat 40 (h * 256 + crc8 h 32 0)

/-- A packet from position 2 with tag 9. -/
def pk (op : Byte) (arg : Wide) (body : List Byte) : CscPkt := ⟨op, 2, 0xFE, 9, arg, body⟩

/-- Cascade port 0 is UP with use `u`, and holds what `c` says. -/
def portS (s : State) (u : Nat) (c : CscPort) : State :=
  (s.setFlds [(F.CSC_PORT_STAT.LSTATE 0, 2), (F.CSC_PORT_STAT.USE 0, u)]).setCport 0 c
/-- 4,095 items, one short of what a stream queue holds. -/
def fullItems : List StreamItem := List.replicate 4095 ⟨5, true, false⟩
theorem no_room {q : StreamQueue} {n : Nat} (h : q.items = fullItems) (hn : 2 ≤ n) : 4096 < q.items.length + n := by
  rw [h, fullItems, List.length_replicate]
  omega

/-- Only the source listed attempts a refill. -/
theorem only_refill {s : State} {x : Nat} {v : Source} (h : s.sources = [(x, v)]) : ∀ y, y ≠ x → (s.source y).refill = false := by
  intro y hy
  simp [State.source, h, mget, Ne.symm hy, Source.reset]

end Sys2Proof.Tests

namespace Sys2Proof.Tests
open Sys2Proof Sys2Proof.Machine

/-- The state after an outcome that is a next state. -/
def after : Host.Outcome State Fault Refusal → State
  | .next t => t
  | _ => State.reset

/-- What the cell in slot 0 registers at the coming edge when it issues opcode `o` with MOD `mod`. -/
def cellQ (c : Fin 2944 → Instr) (o mod : Nat) : Option Word :=
  ((after (exec (c 0) (cellState sB 0 (fnWord o mod 0 0) 5 cellRegs))).cellNxt 0).map (fun r => r.q.data)

/-- A request of 3 bytes, which no packet has (R355). -/
theorem test_wf_request : (Instr.nocRequest 0 0 ⟨none, .none⟩ 0 3).wf = false := by decide

/-- Write data that is not as long as the request says (R355). -/
theorem test_wf_request_data : (Instr.nocRequest 0 0 ⟨some [1, 2, 3], .none⟩ 0 4).wf = false := by decide

/-- A BAR2 access that leaves the 64 GiB (R392). -/
theorem test_wf_bar2 : (Instr.bar2Access 0xFFFFFFFFF none 2 0).wf = false := by decide

/-- A cascade packet that is no whole number of data blocks (R466). -/
theorem test_wf_packet : (Instr.pkt 0 0 [1, 2, 3]).wf = false := by decide

/-- A stream packet of no item (R298). -/
theorem test_wf_items : (Instr.streamPacketWrite 0 ⟨[], true⟩).wf = false := by decide

/-- A chunk of 8 bytes (R399). -/
theorem test_wf_chunk : (Instr.chunkAuthenticate [1, 2, 3, 4, 5, 6, 7, 8] [] 0).wf = false := by decide

/-- A signature of 97 bytes (R397). -/
theorem test_wf_signature : (Instr.signatureCheck (List.replicate 97 0) 0).wf = false := by decide

/-- An ill-formed command is refused by that name. -/
theorem test_illFormed : exec (.streamPacketWrite 0 ⟨[], true⟩) State.reset = .refused .illFormed := rfl

/-- GLB_ID after reset: FAMILY 0x5A, PART 0x8840, stepping B0 (00_scope.md). -/
theorem test_glb_id : State.reset.reg R.GLB_ID = 0x5A884010 := by decide

/-- ADD of 0x80000003 and 5. -/
theorem test_cell_add : cellQ .cellAdd 0x02 0 = some 0x80000008 := by decide

/-- SUB of 0x80000003 and 5. -/
theorem test_cell_sub : cellQ .cellSub 0x04 0 = some 0x7FFFFFFE := by decide

/-- ADDI of a sequencer with the immediate -1: G2 becomes G1 - 1 (R178). -/
theorem test_seq_addi : ((after (exec (.seqAddi 0) (seqState sB 0 (sqw 0x04 0 2 1 0xFFFF) (seqP .frame)))).getPsq 0).g 2 = 0x80000006 := by
  decide

/-- A UI-repeat factor of 0 is ignored (R58). -/
theorem test_uirep_zero : exec (.tickUirepWrite .host 0 0) sB = .next sB := rfl

/-- The example below R387: with granules of 4 KiB, DPA 0x0012_3456_7890 lies in channel 3 at local address 0x2_468A_C890. -/
theorem test_interleave : dpaChannel State.reset 0x001234567890 = (3, 0x2468AC890) := by decide

/-- A multi-byte number lies with its least significant byte at the lowest address (R17). -/
theorem test_little_endian : (sB.setDpaBytes 0 (leBytes 4 0x12345678)).memByte 0 = 0x78 := by decide

/-- A near-slip is counted and has no other effect (R49). -/
theorem test_near_slip : (after (exec (.nearSlip (.seq 0)) sB)).fld F.TICK_SLIP_CNT.NEAR_CNT = 1 := by decide

/-- Two items of a packet enter stream queue 0 when it is enabled (R298). -/
theorem test_stream_packet :
    ((after (exec (.streamPacketWrite 0 ⟨[7, 9], true⟩) (sB.setFld (F.FCQ_SQ_CFG.EN 0) 1))).stream 0).items =
      [⟨7, true, false⟩, ⟨9, false, true⟩] := by decide

/-- A channel number is below 8. -/
theorem chan_lt (s : State) (x : Nat) : (dpaChannel s x).1 < 8 := by
  unfold dpaChannel
  split
  · exact Nat.xor_lt_two_pow (n := 3) (Nat.mod_lt _ (by decide)) (Nat.mod_lt _ (by decide))
  · exact Nat.mod_lt _ (by decide)

/-- A range is ready when every channel is. -/
theorem chansReady_of_all {s : State} (h : ∀ c < 8, s.fld (F.MEMC_STAT.STATE c) = 2) (a n : Nat) : chansReady s a n = true := by
  simp only [chansReady, List.all_eq_true, beq_iff_eq]
  exact fun _ _ => h _ (chan_lt s _)

/-- The dump goes to slot 0 when it is free and every channel is ready. -/
theorem dumpDest_slot0 (s : State) (hs : s.bit F.ERR_DUMP_STAT.SLOT0_VALID = false) (hn : s.dumpNi = 169 ∨ s.dumpNi = 170)
    (hf : s.fld F.NOC_FENCE_STAT.FENCED = 0 ∧ s.fld F.NOC_FENCE_STAT.PENDING = 0) (h : ∀ c < 8, s.fld (F.MEMC_STAT.STATE c) = 2) :
    s.dumpDest s.dumpNi 0 0 = (0, false, 0x3F80000000) := by
  have e : dpaRange 0x3F80000000 0xA00000 = some (.window 0) := by decide
  have f (d : Nat) : s.fenced d = false := by simp [State.fenced, hf.1, hf.2, bitOf]
  have m : memStatus s s.dumpNi 0x3F80000000 0xA00000 true 0 = 0 := by
    rcases hn with hn | hn <;> simp [memStatus, memCheck, e, f, hn, dpaAllowed, chansReady_of_all h]
  simp [State.dumpDest, hs, m]

end Sys2Proof.Tests

namespace Sys2Proof.Tests
open Sys2Proof Sys2Proof.Machine Sys2Proof.Claims

/-- The hypotheses of every clause of Obligations.EmptyQueueIdles are met together. -/
theorem test_witness_EmptyQueueIdles :
  (∃ (s : State), (s.pending = [])) :=
  ⟨sB, by decide⟩

/-- The hypotheses of every clause of Obligations.EveryStepKeepsTheCanonicalForms are met together. -/
theorem test_witness_EveryStepKeepsTheCanonicalForms :
  (∃ (s : State) (t : State), (canonical s) ∧ (step s = .next t)) :=
  ⟨sB, sB, ⟨⟨by decide, by decide, by decide, by decide, by decide, by decide, fun _ => ⟨rfl, rfl, rfl⟩, fun _ h => nomatch h⟩, rfl⟩⟩

/-- The hypotheses of every clause of Obligations.CommandsLeaveTheQueueAlone are met together. -/
theorem test_witness_CommandsLeaveTheQueueAlone :
  (∃ (c : Instr) (s : State) (t : State), (exec c s = .next t)) :=
  ⟨.fckEdge, sB, sB.fckEdge, rfl⟩

/-- The hypotheses of every clause of Obligations.WellFormedCommandsAlwaysComplete are met together. -/
theorem test_witness_WellFormedCommandsAlwaysComplete :
  (∃ (c : Instr), (c.wf = true)) ∧
  (∃ (c : Instr), (c.wf = false)) :=
  ⟨⟨.fckEdge, by decide⟩,
   ⟨.bar2Access 0 none 0 0, by decide⟩⟩

/-- The hypotheses of every clause of Obligations.TickCounterAndRepeatWrites are met together. -/
theorem test_witness_TickCounterAndRepeatWrites :
  (∃ (s : State), (s.regsWf)) ∧
  (∃ (n : Fin 16) (v : Word) (s : State), (s.regsWf) ∧ (s.siteActive n = false) ∧ (1 ≤ v.toNat % 2048) ∧ (v.toNat % 2048 ≤ 1024)) ∧
  (∃ (n : Fin 16) (v : Word) (s : State), (s.siteActive n = false) ∧ (v.toNat % 2048 = 0 ∨ 1024 < v.toNat % 2048)) ∧
  (∃ (n : Fin 16) (s : State), (s.siteActive n = true)) :=
  ⟨⟨sB, by decide⟩,
   ⟨15, 1024, sB, by decide⟩,
   ⟨0, 1025, sB, by decide⟩,
   ⟨0, (sB.setPsq ((0 : Fin 16)) { Psq.reset with mode := .running }), by decide⟩⟩

/-- The hypotheses of every clause of Obligations.FckChangesSlipsAndTickEdge are met together. -/
theorem test_witness_FckChangesSlipsAndTickEdge :
  (∃ (req : Requester) (s : State), (s.allows req .fckApply = true) ∧ (s.bit F.TICK_STAT.FCK_BUSY = false) ∧ (∀ n < 16, s.siteActive n = false) ∧ (s.fld F.CSC_STAT.CSTATE = 0) ∧ (s.bit F.CSC_STAT.POLE = false) ∧ (10000 * s.fld F.TICK_FCK_CFG.POSTDIV < s.pminAll * s.fld F.TICK_FCK_CFG.FBDIV) ∧ (50 ≤ s.fld F.TICK_FCK_CFG.FBDIV) ∧ (s.fld F.TICK_FCK_CFG.FBDIV ≤ 100) ∧ (4 ≤ s.fld F.TICK_FCK_CFG.POSTDIV) ∧ (s.fld F.TICK_FCK_CFG.POSTDIV ≤ 32) ∧ (800 * s.fld F.TICK_FCK_CFG.FBDIV ≤ 10000 * s.fld F.TICK_FCK_CFG.POSTDIV) ∧ (10000 * s.fld F.TICK_FCK_CFG.POSTDIV ≤ 6400 * s.fld F.TICK_FCK_CFG.FBDIV) ∧ (s.regsWf)) ∧
  (∃ (req : Requester) (s : State), (s.allows req .fckApply = true) ∧ (s.bit F.TICK_STAT.FCK_BUSY = false) ∧ (∀ n < 16, s.siteActive n = false) ∧ (s.fld F.CSC_STAT.CSTATE = 0) ∧ (s.bit F.CSC_STAT.POLE = false) ∧ (s.fld F.TICK_FCK_CFG.FBDIV < 50) ∧ (s.regsWf)) ∧
  (∃ (req : Requester) (s : State), (s.allows req .fckApply = true) ∧ (s.bit F.TICK_STAT.FCK_BUSY = false) ∧ (∀ n < 16, s.siteActive n = false) ∧ (s.fld F.CSC_STAT.CSTATE = 0) ∧ (s.bit F.CSC_STAT.POLE = false) ∧ (s.pminAll * s.fld F.TICK_FCK_CFG.FBDIV ≤ 10000 * s.fld F.TICK_FCK_CFG.POSTDIV) ∧ (50 ≤ s.fld F.TICK_FCK_CFG.FBDIV) ∧ (s.fld F.TICK_FCK_CFG.FBDIV ≤ 100) ∧ (4 ≤ s.fld F.TICK_FCK_CFG.POSTDIV) ∧ (s.fld F.TICK_FCK_CFG.POSTDIV ≤ 32) ∧ (800 * s.fld F.TICK_FCK_CFG.FBDIV ≤ 10000 * s.fld F.TICK_FCK_CFG.POSTDIV) ∧ (10000 * s.fld F.TICK_FCK_CFG.POSTDIV ≤ 6400 * s.fld F.TICK_FCK_CFG.FBDIV)) ∧
  (∃ (s : State) (n : Nat), (n < 16) ∧ (s.siteActive n = true) ∧ (s.bit F.TICK_STAT.FCK_BUSY = false) ∧ (s.regsWf)) ∧
  (∃ (s : State) (fb : Nat) (pd : Nat), (s.regsWf) ∧ (s.fckNew = some (fb, pd)) ∧ (s.fckOn = false) ∧ (s.csc.fckset = none) ∧ (s.fld F.CSC_STAT.CSTATE = 0)) ∧
  (∃ (s : State), (s.fckOn = true)) ∧
  (∃ (s : State), (s.fckOn = false)) ∧
  (∃ (u : UnitId) (s : State), (s.unitRclk u = true)) ∧
  (∃ (u : UnitId) (s : State), (s.regsWf) ∧ (s.fckOn = true) ∧ (s.unitRclk u = false)) ∧
  (∃ (s : State), (s.bit F.TICK_STAT.LOCK = false)) ∧
  (∃ (s : State), (s.bit F.TICK_STAT.LOCK = true) ∧ (s.bit F.TICK_STAT.FCK_BUSY = false)) ∧
  (∃ (s : State), (s.regsWf) ∧ (s.bit F.TICK_STAT.FCK_BUSY = true)) :=
  ⟨⟨.host, ((sB.setFlds [(F.TICK_STAT.FCK_BUSY, 0), (F.CSC_STAT.CSTATE, 0), (F.CSC_STAT.POLE, 0)]).setFlds [(F.TICK_FCK_CFG.FBDIV,100),(F.TICK_FCK_CFG.POSTDIV,8),(F.TICK_BUDGET_STAT.PMIN_PS,801)]), by decide⟩,
   ⟨.host, ((sB.setFlds [(F.TICK_STAT.FCK_BUSY, 0), (F.CSC_STAT.CSTATE, 0), (F.CSC_STAT.POLE, 0)]).setFlds [(F.TICK_FCK_CFG.FBDIV,49)]), by decide⟩,
   ⟨.host, (sB.setFlds [(F.TICK_STAT.FCK_BUSY, 0), (F.CSC_STAT.CSTATE, 0), (F.CSC_STAT.POLE, 0)]), by decide⟩,
   ⟨(sB.setPsq 15 { Psq.reset with mode := .running }), 15, by decide⟩,
   ⟨({ sB with fckOn := false, fckNew := some (50, 4) } : State), 50, 4, by decide⟩,
   ⟨({ sB with fckOn := true } : State), by decide⟩,
   ⟨({ sB with fckOn := false } : State), by decide⟩,
   ⟨.core 1 1, (cellState (sB) 65 (fnWord 0x43 0 0 0) 5 (cellRegs)), by decide⟩,
   ⟨.seq 0, (({ sB with fckOn := true } : State).setFld F.TICK_SLIP_CNT.NEAR_CNT 65535), by decide⟩,
   ⟨(sB.setFlds [(F.TICK_STAT.LOCK, 0)]), by decide⟩,
   ⟨(sB.setFlds [(F.TICK_STAT.LOCK, 1), (F.TICK_STAT.FCK_BUSY, 0)]), by decide⟩,
   ⟨(sB.setFlds [(F.TICK_STAT.FCK_BUSY, 1)]), by decide⟩⟩

/-- The hypotheses of every clause of Obligations.LogicOrderCarryAndCounterCells are met together. -/
theorem test_witness_LogicOrderCarryAndCounterCells :
  (∃ (s : State) (k : Fin 2944) (p : Nat) (fn : Wide), (issues s k p fn 0x01) ∧ ((opA s k p fn).v = true)) ∧
  (∃ (s : State) (k : Fin 2944) (p : Nat) (fn : Wide), (issues s k p fn 0x06) ∧ ((opA s k p fn).v = true) ∧ ((opB s k p fn).v = true)) ∧
  (∃ (s : State) (k : Fin 2944) (p : Nat) (fn : Wide), (issues s k p fn 0x07) ∧ ((opA s k p fn).v = true) ∧ ((opB s k p fn).v = true)) ∧
  (∃ (s : State) (k : Fin 2944) (p : Nat) (fn : Wide), (issues s k p fn 0x08) ∧ ((opA s k p fn).v = true) ∧ ((opB s k p fn).v = true)) ∧
  (∃ (s : State) (k : Fin 2944) (p : Nat) (fn : Wide), (issues s k p fn 0x0A) ∧ ((opA s k p fn).v = true) ∧ ((opB s k p fn).v = true)) ∧
  (∃ (s : State) (k : Fin 2944) (p : Nat) (fn : Wide), (issues s k p fn 0x0B) ∧ ((opA s k p fn).v = true) ∧ ((opB s k p fn).v = true)) ∧
  (∃ (s : State) (k : Fin 2944) (p : Nat) (fn : Wide), (issues s k p fn 0x0C) ∧ ((opA s k p fn).v = true) ∧ ((opB s k p fn).v = true)) ∧
  (∃ (s : State) (k : Fin 2944) (p : Nat) (fn : Wide), (issues s k p fn 0x0D) ∧ ((opA s k p fn).v = true) ∧ ((opB s k p fn).v = true)) ∧
  (∃ (s : State) (k : Fin 2944) (p : Nat) (fn : Wide), (issues s k p fn 0x10) ∧ ((opA s k p fn).v = true) ∧ ((opB s k p fn).v = true)) ∧
  (∃ (s : State) (k : Fin 2944) (p : Nat) (fn : Wide), (issues s k p fn 0x11) ∧ ((opA s k p fn).v = true) ∧ ((opB s k p fn).v = true)) ∧
  (∃ (s : State) (k : Fin 2944) (p : Nat) (fn : Wide), (issues s k p fn 0x12) ∧ ((opA s k p fn).v = true) ∧ ((opB s k p fn).v = true)) ∧
  (∃ (s : State) (k : Fin 2944) (p : Nat) (fn : Wide), (issues s k p fn 0x13) ∧ ((opA s k p fn).v = true) ∧ ((opB s k p fn).v = true)) ∧
  (∃ (s : State) (k : Fin 2944) (p : Nat) (fn : Wide), (issues s k p fn 0x18) ∧ ((opA s k p fn).v = true) ∧ ((opB s k p fn).v = true)) ∧
  (∃ (s : State) (k : Fin 2944) (p : Nat) (fn : Wide), (issues s k p fn 0x27) ∧ ((opA s k p fn).v = true)) ∧
  (∃ (s : State) (k : Fin 2944) (p : Nat) (fn : Wide), (issues s k p fn 0x25) ∧ ((opA s k p fn).v = true)) ∧
  (∃ (s : State) (k : Fin 2944) (p : Nat) (fn : Wide), (issues s k p fn 0x26) ∧ ((opA s k p fn).v = true) ∧ ((opB s k p fn).v = true)) ∧
  (∃ (s : State) (k : Fin 2944) (p : Nat) (fn : Wide), (issues s k p fn 0x02) ∧ ((opA s k p fn).v = true) ∧ ((opB s k p fn).v = true)) ∧
  (∃ (s : State) (k : Fin 2944) (p : Nat) (fn : Wide), (issues s k p fn 0x03) ∧ ((opA s k p fn).v = true) ∧ ((opB s k p fn).v = true)) ∧
  (∃ (s : State) (k : Fin 2944) (p : Nat) (fn : Wide), (issues s k p fn 0x04) ∧ ((opA s k p fn).v = true) ∧ ((opB s k p fn).v = true)) ∧
  (∃ (s : State) (k : Fin 2944) (p : Nat) (fn : Wide), (issues s k p fn 0x05) ∧ ((opA s k p fn).v = true) ∧ ((opB s k p fn).v = true)) ∧
  (∃ (s : State) (k : Fin 2944) (p : Nat) (fn : Wide), (issues s k p fn 0x09) ∧ ((opA s k p fn).v = true) ∧ ((opB s k p fn).v = true) ∧ ((opC s k p fn).v = true)) ∧
  (∃ (s : State) (k : Fin 2944) (p : Nat) (fn : Wide), (issues s k p fn 0x24) ∧ ((opA s k p fn).v = true) ∧ ((opB s k p fn).v = true)) ∧
  (∃ (s : State) (k : Fin 2944) (p : Nat) (fn : Wide), (issues s k p fn 0x20) ∧ ((opA s k p fn).v = true) ∧ ((opB s k p fn).v = true) ∧ ((s.cell k).q.v = true)) ∧
  (∃ (s : State) (k : Fin 2944) (p : Nat) (fn : Wide), (issues s k p fn 0x21) ∧ ((opA s k p fn).v = true) ∧ ((opB s k p fn).v = true) ∧ ((opC s k p fn).v = true) ∧ ((s.cell k).q.v = true)) :=
  ⟨⟨(cellState sB 0 (fnWord 0x01 0 3 0) 1 (cellRegs)), 0, 64, (fnWord 0x01 0 3 0), by decide⟩,
   ⟨(cellState sB 0 (fnWord 0x06 1 3 0) 1 (cellRegs)), 0, 64, (fnWord 0x06 1 3 0), by decide⟩,
   ⟨(cellState sB 0 (fnWord 0x07 1 3 0) 1 (cellRegs)), 0, 64, (fnWord 0x07 1 3 0), by decide⟩,
   ⟨(cellState sB 0 (fnWord 0x08 5 3 0) 1 (cellRegs)), 0, 64, (fnWord 0x08 5 3 0), by decide⟩,
   ⟨(cellState sB 0 (fnWord 0x0A 0 3 0) 1 (cellRegs)), 0, 64, (fnWord 0x0A 0 3 0), by decide⟩,
   ⟨(cellState sB 0 (fnWord 0x0B 0 3 0) 1 (cellRegs)), 0, 64, (fnWord 0x0B 0 3 0), by decide⟩,
   ⟨(cellState sB 0 (fnWord 0x0C 0 3 0) 1 (cellRegs)), 0, 64, (fnWord 0x0C 0 3 0), by decide⟩,
   ⟨(cellState sB 0 (fnWord 0x0D 0 3 0) 1 (cellRegs)), 0, 64, (fnWord 0x0D 0 3 0), by decide⟩,
   ⟨(cellState sB 0 (fnWord 0x10 0 3 0) 1 (cellRegs)), 0, 64, (fnWord 0x10 0 3 0), by decide⟩,
   ⟨(cellState sB 0 (fnWord 0x11 0 3 0) 1 (cellRegs)), 0, 64, (fnWord 0x11 0 3 0), by decide⟩,
   ⟨(cellState sB 0 (fnWord 0x12 0 3 0) 1 (cellRegs)), 0, 64, (fnWord 0x12 0 3 0), by decide⟩,
   ⟨(cellState sB 0 (fnWord 0x13 0 3 0) 1 (cellRegs)), 0, 64, (fnWord 0x13 0 3 0), by decide⟩,
   ⟨(cellState sB 0 (fnWord 0x18 1 3 0) 1 (cellRegs)), 0, 64, (fnWord 0x18 1 3 0), by decide⟩,
   ⟨(cellState sB 0 (fnWord 0x27 0 30 0) 1 (cellRegs)), 0, 64, (fnWord 0x27 0 30 0), by decide⟩,
   ⟨(cellState sB 0 (fnWord 0x25 0 3 0) 1 (cellRegs)), 0, 64, (fnWord 0x25 0 3 0), by decide⟩,
   ⟨(cellState sB 0 (fnWord 0x26 0 31 0) 1 (cellRegs)), 0, 64, (fnWord 0x26 0 31 0), by decide⟩,
   ⟨(cellState sB 0 (fnWord 0x02 0 3 0) 1 (cellRegs)), 0, 64, (fnWord 0x02 0 3 0), by decide⟩,
   ⟨(cellState sB 0 (fnWord 0x03 0 3 0) 1 (cellRegs)), 0, 64, (fnWord 0x03 0 3 0), by decide⟩,
   ⟨(cellState sB 0 (fnWord 0x04 0 3 0) 1 (cellRegs)), 0, 64, (fnWord 0x04 0 3 0), by decide⟩,
   ⟨(cellState sB 0 (fnWord 0x05 0 3 0) 1 (cellRegs)), 0, 64, (fnWord 0x05 0 3 0), by decide⟩,
   ⟨(cellState sB 0 (fnWord 0x09 0 3 0) 1 (cellRegs)), 0, 64, (fnWord 0x09 0 3 0), by decide⟩,
   ⟨(cellState sB 0 (fnWord 0x24 0 0x2063 0) 1 (cellRegs)), 0, 64, (fnWord 0x24 0 0x2063 0), by decide⟩,
   ⟨(cellState sB 0 (fnWord 0x20 0 3 0) 1 (cellRegs)), 0, 64, (fnWord 0x20 0 3 0), by decide⟩,
   ⟨(cellState sB 0 (fnWord 0x21 0 3 0) 1 (cellRegs)), 0, 64, (fnWord 0x21 0 3 0), by decide⟩⟩

/-- The hypotheses of every clause of Obligations.AccumulatorAndWideCells are met together. -/
theorem test_witness_AccumulatorAndWideCells :
  (∃ (s : State) (k : Fin 2944) (p : Nat) (fn : Wide), let sg := (getBits fn 36 4).testBit 0; let acc : Int := if sg then (s.cell k).acc.data.toInt else (s.cell k).acc.data.toNat; (issues s k p fn 0x19) ∧ ((opA s k p fn).v = true) ∧ ((opB s k p fn).v = true) ∧ ((s.cell k).acc.v = true)) ∧
  (∃ (s : State) (k : Fin 2944) (p : Nat) (fn : Wide), (issues s k p fn 0x1A) ∧ ((opA s k p fn).v = true) ∧ ((opB s k p fn).v = true)) ∧
  (∃ (s : State) (k : Fin 2944) (p : Nat) (fn : Wide), (issues s k p fn 0x1B) ∧ ((s.cell k).acc.v = true)) ∧
  (∃ (s : State) (k : Fin 2944) (p : Nat) (fn : Wide), (issues s k p fn 0x40) ∧ (true = true → (opA s k p fn).v = true) ∧ (true = true → (opB s k p fn).v = true) ∧ (false = true → (s.cell k).wv = true)) ∧
  (∃ (s : State) (k : Fin 2944) (p : Nat) (fn : Wide), (issues s k p fn 0x41) ∧ (true = true → (opA s k p fn).v = true) ∧ (true = true → (opB s k p fn).v = true) ∧ (true = true → (s.cell k).wv = true)) ∧
  (∃ (s : State) (k : Fin 2944) (p : Nat) (fn : Wide), (issues s k p fn 0x42) ∧ (true = true → (opA s k p fn).v = true) ∧ (true = true → (opB s k p fn).v = true) ∧ (true = true → (s.cell k).wv = true)) ∧
  (∃ (s : State) (k : Fin 2944) (p : Nat) (fn : Wide), (issues s k p fn 0x43) ∧ (true = true → (opA s k p fn).v = true) ∧ (true = true → (opB s k p fn).v = true) ∧ (true = true → (s.cell k).wv = true)) ∧
  (∃ (s : State) (k : Fin 2944) (p : Nat) (fn : Wide), (issues s k p fn 0x44) ∧ (true = true → (opA s k p fn).v = true) ∧ (true = true → (opB s k p fn).v = true) ∧ (true = true → (s.cell k).wv = true)) ∧
  (∃ (s : State) (k : Fin 2944) (p : Nat) (fn : Wide), (issues s k p fn 0x45) ∧ (false = true → (opA s k p fn).v = true) ∧ (false = true → (opB s k p fn).v = true) ∧ (true = true → (s.cell k).wv = true)) ∧
  (∃ (s : State) (k : Fin 2944) (p : Nat) (fn : Wide), (issues s k p fn 0x46) ∧ (true = true → (opA s k p fn).v = true) ∧ (false = true → (opB s k p fn).v = true) ∧ (true = true → (s.cell k).wv = true)) ∧
  (∃ (s : State) (k : Fin 2944) (p : Nat) (fn : Wide), (issues s k p fn 0x47) ∧ (true = true → (opA s k p fn).v = true) ∧ (false = true → (opB s k p fn).v = true) ∧ (true = true → (s.cell k).wv = true)) ∧
  (∃ (s : State) (k : Fin 2944) (p : Nat) (fn : Wide), (issues s k p fn 0x48) ∧ (true = true → (opA s k p fn).v = true) ∧ (false = true → (opB s k p fn).v = true) ∧ (true = true → (s.cell k).wv = true)) ∧
  (∃ (s : State) (k : Fin 2944) (p : Nat) (fn : Wide), (issues s k p fn 0x49) ∧ (true = true → (opA s k p fn).v = true) ∧ (true = true → (opB s k p fn).v = true) ∧ (true = true → (s.cell k).wv = true)) ∧
  (∃ (s : State) (k : Fin 2944) (p : Nat) (fn : Wide), (issues s k p fn 0x4A) ∧ (true = true → (opA s k p fn).v = true) ∧ (true = true → (opB s k p fn).v = true) ∧ (true = true → (s.cell k).wv = true)) ∧
  (∃ (s : State) (k : Fin 2944) (p : Nat) (fn : Wide), (issues s k p fn 0x4B) ∧ (true = true → (opA s k p fn).v = true) ∧ (true = true → (opB s k p fn).v = true) ∧ (true = true → (s.cell k).wv = true)) ∧
  (∃ (s : State) (k : Fin 2944) (p : Nat) (fn : Wide), (issues s k p fn 0x56) ∧ ((s.cell k).wv = true)) ∧
  (∃ (s : State) (k : Fin 2944) (p : Nat) (fn : Wide), (issues s k p fn 0x50) ∧ ((opA s k p fn).v = true) ∧ ((opB s k p fn).v = true)) ∧
  (∃ (s : State) (k : Fin 2944) (p : Nat) (fn : Wide), (issues s k p fn 0x51) ∧ ((opA s k p fn).v = true) ∧ ((opB s k p fn).v = true)) ∧
  (∃ (s : State) (k : Fin 2944) (p : Nat) (fn : Wide), (issues s k p fn 0x52) ∧ ((opA s k p fn).v = true) ∧ ((opB s k p fn).v = true)) ∧
  (∃ (s : State) (k : Fin 2944) (p : Nat) (fn : Wide), (issues s k p fn 0x54) ∧ ((opA s k p fn).v = true)) ∧
  (∃ (s : State) (k : Fin 2944) (p : Nat) (fn : Wide), (issues s k p fn 0x55) ∧ ((opA s k p fn).v = true)) :=
  ⟨⟨(cellState sB 0 (fnWord 0x19 1 3 0) 1 (cellRegs)), 0, 64, (fnWord 0x19 1 3 0), by decide⟩,
   ⟨(cellState sB 0 (fnWord 0x1A 0 3 0) 1 (cellRegs)), 0, 64, (fnWord 0x1A 0 3 0), by decide⟩,
   ⟨(cellState sB 0 (fnWord 0x1B 0 3 0) 1 (cellRegs)), 0, 64, (fnWord 0x1B 0 3 0), by decide⟩,
   ⟨(cellState sB 65 (fnWord 0x40 0 3 0) 1 (cellRegs)), 65, 129, (fnWord 0x40 0 3 0), by decide⟩,
   ⟨(cellState sB 65 (fnWord 0x41 0 3 0) 1 (cellRegs)), 65, 129, (fnWord 0x41 0 3 0), by decide⟩,
   ⟨(cellState sB 65 (fnWord 0x42 0 3 0) 1 (cellRegs)), 65, 129, (fnWord 0x42 0 3 0), by decide⟩,
   ⟨(cellState sB 65 (fnWord 0x43 0 3 0) 1 (cellRegs)), 65, 129, (fnWord 0x43 0 3 0), by decide⟩,
   ⟨(cellState sB 65 (fnWord 0x44 0 3 0) 1 (cellRegs)), 65, 129, (fnWord 0x44 0 3 0), by decide⟩,
   ⟨(cellState sB 65 (fnWord 0x45 0 3 0) 1 (cellRegs)), 65, 129, (fnWord 0x45 0 3 0), by decide⟩,
   ⟨(cellState sB 65 (fnWord 0x46 0 3 0) 1 (cellRegs)), 65, 129, (fnWord 0x46 0 3 0), by decide⟩,
   ⟨(cellState sB 65 (fnWord 0x47 0 3 0) 1 (cellRegs)), 65, 129, (fnWord 0x47 0 3 0), by decide⟩,
   ⟨(cellState sB 65 (fnWord 0x48 0 3 0) 1 (cellRegs)), 65, 129, (fnWord 0x48 0 3 0), by decide⟩,
   ⟨(cellState sB 65 (fnWord 0x49 0 5 0) 1 (cellRegs)), 65, 129, (fnWord 0x49 0 5 0), by decide⟩,
   ⟨(cellState sB 65 (fnWord 0x4A 0 15 0) 1 (cellRegs)), 65, 129, (fnWord 0x4A 0 15 0), by decide⟩,
   ⟨(cellState sB 65 (fnWord 0x4B 0 3 0) 1 (cellRegs)), 65, 129, (fnWord 0x4B 0 3 0), by decide⟩,
   ⟨(cellState sB 65 (fnWord 0x56 0 3 0) 1 (cellRegs)), 65, 129, (fnWord 0x56 0 3 0), by decide⟩,
   ⟨(cellState sB 65 (fnWord 0x50 0 3 0) 1 (cellRegs)), 65, 129, (fnWord 0x50 0 3 0), by decide⟩,
   ⟨(cellState sB 65 (fnWord 0x51 0 3 0) 1 (cellRegs)), 65, 129, (fnWord 0x51 0 3 0), by decide⟩,
   ⟨(cellState sB 65 (fnWord 0x52 0 3 0) 1 (cellRegs)), 65, 129, (fnWord 0x52 0 3 0), by decide⟩,
   ⟨(cellState sB 65 (fnWord 0x54 0 3 0) 1 (cellRegs)), 65, 129, (fnWord 0x54 0 3 0), by decide⟩,
   ⟨(cellState sB 65 (fnWord 0x55 0 3 0) 1 (cellRegs)), 65, 129, (fnWord 0x55 0 3 0), by decide⟩⟩

/-- The hypotheses of every clause of Obligations.InvalidOperandsHoldTheCell are met together. -/
theorem test_witness_InvalidOperandsHoldTheCell :
  (∃ (s : State) (k : Fin 2944) (p : Nat) (fn : Wide), (issues s k p fn 0x02) ∧ ((opA s k p fn).v = false ∨ (opB s k p fn).v = false)) ∧
  (∃ (s : State) (k : Fin 2944) (p : Nat) (fn : Wide), (issues s k p fn 0x03) ∧ ((opA s k p fn).v = false ∨ (opB s k p fn).v = false)) ∧
  (∃ (s : State) (k : Fin 2944) (p : Nat) (fn : Wide), (issues s k p fn 0x04) ∧ ((opA s k p fn).v = false ∨ (opB s k p fn).v = false)) ∧
  (∃ (s : State) (k : Fin 2944) (p : Nat) (fn : Wide), (issues s k p fn 0x05) ∧ ((opA s k p fn).v = false ∨ (opB s k p fn).v = false)) ∧
  (∃ (s : State) (k : Fin 2944) (p : Nat) (fn : Wide), (issues s k p fn 0x06) ∧ ((opA s k p fn).v = false ∨ (opB s k p fn).v = false)) ∧
  (∃ (s : State) (k : Fin 2944) (p : Nat) (fn : Wide), (issues s k p fn 0x07) ∧ ((opA s k p fn).v = false ∨ (opB s k p fn).v = false)) ∧
  (∃ (s : State) (k : Fin 2944) (p : Nat) (fn : Wide), (issues s k p fn 0x08) ∧ ((opA s k p fn).v = false ∨ (opB s k p fn).v = false)) ∧
  (∃ (s : State) (k : Fin 2944) (p : Nat) (fn : Wide), (issues s k p fn 0x09) ∧ ((opA s k p fn).v = false ∨ (opB s k p fn).v = false)) ∧
  (∃ (s : State) (k : Fin 2944) (p : Nat) (fn : Wide), (issues s k p fn 0x18) ∧ ((opA s k p fn).v = false ∨ (opB s k p fn).v = false)) ∧
  (∃ (s : State) (k : Fin 2944) (p : Nat) (fn : Wide), (issues s k p fn 0x19) ∧ ((opA s k p fn).v = false ∨ (opB s k p fn).v = false)) ∧
  (∃ (s : State) (k : Fin 2944) (p : Nat) (fn : Wide), (issues s k p fn 0x1A) ∧ ((opA s k p fn).v = false ∨ (opB s k p fn).v = false)) ∧
  (∃ (s : State) (k : Fin 2944) (p : Nat) (fn : Wide), (issues s k p fn 0x20) ∧ ((opA s k p fn).v = false ∨ (opB s k p fn).v = false)) ∧
  (∃ (s : State) (k : Fin 2944) (p : Nat) (fn : Wide), (issues s k p fn 0x21) ∧ ((opA s k p fn).v = false ∨ (opB s k p fn).v = false)) ∧
  (∃ (s : State) (k : Fin 2944) (p : Nat) (fn : Wide), (issues s k p fn 0x40) ∧ ((opA s k p fn).v = false ∨ (opB s k p fn).v = false)) ∧
  (∃ (s : State) (k : Fin 2944) (p : Nat) (fn : Wide), (issues s k p fn 0x43) ∧ ((opA s k p fn).v = false ∨ (opB s k p fn).v = false)) ∧
  (∃ (s : State) (k : Fin 2944) (p : Nat) (fn : Wide), (issues s k p fn 0x4B) ∧ ((opA s k p fn).v = false ∨ (opB s k p fn).v = false)) ∧
  (∃ (s : State) (k : Fin 2944) (p : Nat) (fn : Wide), (issues s k p fn 0x50) ∧ ((opA s k p fn).v = false ∨ (opB s k p fn).v = false)) :=
  ⟨⟨(cellState sB 0 (fnWord 0x02 0 3 0) 1 ({ cellRegs with l1 := FWord.zero })), 0, 64, (fnWord 0x02 0 3 0), by decide⟩,
   ⟨(cellState sB 0 (fnWord 0x03 0 3 1) 1 ({ cellRegs with l1 := FWord.zero })), 0, 64, (fnWord 0x03 0 3 1), by decide⟩,
   ⟨(cellState sB 0 (fnWord 0x04 0 3 0) 1 ({ cellRegs with l1 := FWord.zero })), 0, 64, (fnWord 0x04 0 3 0), by decide⟩,
   ⟨(cellState sB 0 (fnWord 0x05 0 3 1) 1 ({ cellRegs with l1 := FWord.zero })), 0, 64, (fnWord 0x05 0 3 1), by decide⟩,
   ⟨(cellState sB 0 (fnWord 0x06 1 3 0) 1 ({ cellRegs with l1 := FWord.zero })), 0, 64, (fnWord 0x06 1 3 0), by decide⟩,
   ⟨(cellState sB 0 (fnWord 0x07 1 3 1) 1 ({ cellRegs with l1 := FWord.zero })), 0, 64, (fnWord 0x07 1 3 1), by decide⟩,
   ⟨(cellState sB 0 (fnWord 0x08 5 3 0) 1 ({ cellRegs with l1 := FWord.zero })), 0, 64, (fnWord 0x08 5 3 0), by decide⟩,
   ⟨(cellState sB 0 (fnWord 0x09 0 3 1) 1 ({ cellRegs with l1 := FWord.zero })), 0, 64, (fnWord 0x09 0 3 1), by decide⟩,
   ⟨(cellState sB 0 (fnWord 0x18 1 3 0) 1 ({ cellRegs with l1 := FWord.zero })), 0, 64, (fnWord 0x18 1 3 0), by decide⟩,
   ⟨(cellState sB 0 (fnWord 0x19 1 3 1) 1 ({ cellRegs with l1 := FWord.zero })), 0, 64, (fnWord 0x19 1 3 1), by decide⟩,
   ⟨(cellState sB 0 (fnWord 0x1A 0 3 0) 1 ({ cellRegs with l1 := FWord.zero })), 0, 64, (fnWord 0x1A 0 3 0), by decide⟩,
   ⟨(cellState sB 0 (fnWord 0x20 0 3 0) 1 ({ cellRegs with l1 := FWord.zero })), 0, 64, (fnWord 0x20 0 3 0), by decide⟩,
   ⟨(cellState sB 0 (fnWord 0x21 0 3 1) 1 ({ cellRegs with l1 := FWord.zero })), 0, 64, (fnWord 0x21 0 3 1), by decide⟩,
   ⟨(cellState sB 65 (fnWord 0x40 0 3 0) 1 ({ cellRegs with l0 := FWord.zero })), 65, 129, (fnWord 0x40 0 3 0), by decide⟩,
   ⟨(cellState sB 65 (fnWord 0x43 0 3 1) 1 ({ cellRegs with l0 := FWord.zero })), 65, 129, (fnWord 0x43 0 3 1), by decide⟩,
   ⟨(cellState sB 65 (fnWord 0x4B 0 3 1) 1 ({ cellRegs with l0 := FWord.zero })), 65, 129, (fnWord 0x4B 0 3 1), by decide⟩,
   ⟨(cellState sB 65 (fnWord 0x50 0 3 0) 1 ({ cellRegs with l0 := FWord.zero })), 65, 129, (fnWord 0x50 0 3 0), by decide⟩⟩

/-- The hypotheses of every clause of Obligations.RoutedMemoryAndPinCells are met together. -/
theorem test_witness_RoutedMemoryAndPinCells :
  (∃ (s : State) (k : Fin 2944) (p : Nat) (fn : Wide), (s.workPos k = some p) ∧ (s.isRclk p = true) ∧ (fn = s.workWord p 0) ∧ (s.cellEn p = true) ∧ (s.cellFenced k = false) ∧ (s.ctxGood p 0 = true) ∧ (getBits fn 56 8 = 0x43) ∧ (s.rclkEdge k p = true) ∧ ((s.cell k).syncPend = false) ∧ ((opA s k p fn).v = true) ∧ ((opB s k p fn).v = true) ∧ ((s.cell k).wv = true)) ∧
  (∃ (s : State) (k : Fin 2944) (p : Nat), (s.workPos k = some p) ∧ (s.isRclk p = true) ∧ (s.rclkEdge k p = false)) ∧
  (∃ (s : State) (k : Fin 2560), (s.isRclk (k + 64) = true) ∧ ((s.cell k).syncPend = true) ∧ ((s.cell k).syncAt.toNat + 2 ≤ s.tick.toNat) ∧ (s.tick.toNat ≤ (s.cell k).syncAt.toNat + 4)) ∧
  (∃ (s : State) (k : Fin 2944) (p : Nat) (fn : Wide), (issues s k p fn 0x00) ∧ (slotType k ≠ .x)) ∧
  (∃ (s : State) (k : Fin 2944) (p : Nat) (fn : Wide), (issues s k p fn 0x00) ∧ (slotType k = .x)) ∧
  (∃ (s : State) (m : Fin 256) (p : Nat) (fn : Wide) (ad : FWord), let a := (ad.data.toNat + getBits fn 0 12) % 4096; let w := s.mword m (s.physWord m a); (issues s (mSlot m) p fn 0x80) ∧ (getBits fn 38 2 = 1) ∧ (getBits fn 36 2 = 0) ∧ (s.operand p .m (s.cell (mSlot m)) 0 (getBits fn 52 4) = ad) ∧ (ad.v = true) ∧ (ad.s = false) ∧ (w.s = false) ∧ (w.bad = false)) ∧
  (∃ (s : State) (m : Fin 256) (p : Nat) (fn : Wide) (ad : FWord) (d : FWord), (issues s (mSlot m) p fn 0x80) ∧ (getBits fn 38 2 = 2) ∧ (getBits fn 36 2 = 0) ∧ (s.operand p .m (s.cell (mSlot m)) 0 (getBits fn 52 4) = ad) ∧ (ad.v = true) ∧ (ad.s = false) ∧ (s.operand p .m (s.cell (mSlot m)) 0 (getBits fn 48 4) = d) ∧ (d.v = true)) ∧
  (∃ (s : State) (x : Fin 128) (p : Nat) (fn : Wide), (issues s (xSlot x) p fn 0xC0) ∧ (getBits fn 39 1 = 1) ∧ (getBits fn 38 1 = 0)) ∧
  (∃ (s : State) (x : Fin 128) (r : CellRegs) (w : Word) (ws : List Word), let p := posOfSlot (xSlot x); let fn := s.workWord p (s.activeCtx p); (s.cellNxt (xSlot x) = some r) ∧ (s.ctxGood p (s.activeCtx p) = true) ∧ (getBits fn 37 1 = 1) ∧ (xSlot x ∉ s.fab.slipped) ∧ ((s.xsBuf x).popAt ≠ some s.tick) ∧ (getBits (s.staticWord p) 1 1 = 1) ∧ ((s.xsBuf x).words = w :: ws)) :=
  ⟨⟨((cellState (sB) 65 (fnWord 0x43 0 0 0) 13 (cellRegs)).setRclkLvl 65 true), 65, 129, (fnWord 0x43 0 0 0), by decide⟩,
   ⟨(cellState (sB) 65 (fnWord 0x43 0 0 0) 5 (cellRegs)), 65, 129, by decide⟩,
   ⟨(cellState (sB) 65 (fnWord 0x43 0 0 0) 5 ({ cellRegs with syncPend := true, syncAt := 0 })).withTick 2, 65, by decide⟩,
   ⟨(cellState (sB) 65 (0) 1 (cellRegs)), 65, 129, 0, by decide⟩,
   ⟨(cellState (sB) 2816 (0) 1 ({ cellRegs with xde := fw 3 })), 2816, 0, 0, by decide⟩,
   ⟨(cellState (sB) (mSlot 0) (BitVec.ofNat 64 (0x80 * 2^56 + 0xA * 2^52 + 0x8 * 2^48 + 1 * 2^38 + 0xFFF)) 1 (cellRegs)).setMword 0 4095 { MWord.zero with data := 0x77 }, 0, mSlot 0 + 64, (BitVec.ofNat 64 (0x80 * 2^56 + 0xA * 2^52 + 0x8 * 2^48 + 1 * 2^38 + 0xFFF)), fw 0, by dsimp only; decide⟩,
   ⟨(cellState (sB) (mSlot 0) (BitVec.ofNat 64 (0x80 * 2^56 + 0xA * 2^52 + 0x8 * 2^48 + 2 * 2^38 + 0xFFF)) 1 (cellRegs)), 0, mSlot 0 + 64, (BitVec.ofNat 64 (0x80 * 2^56 + 0xA * 2^52 + 0x8 * 2^48 + 2 * 2^38 + 0xFFF)), fw 0, fw 0x10, by decide⟩,
   ⟨(cellState (sB) 2816 (BitVec.ofNat 64 (0xC0 * 2^56 + 0xAA * 2^48 + 1 * 2^39)) 1 (cellRegs)), 0, 0, (BitVec.ofNat 64 (0xC0 * 2^56 + 0xAA * 2^48 + 1 * 2^39)), by decide⟩,
   ⟨((cellState (sB) 2816 (BitVec.ofNat 64 (0xC0 * 2^56 + 1 * 2^37)) 3 (cellRegs)).setNxt 2816 cellRegs).setXsBuf 0 { XsBuf.zero with words := [0x99, 5] }, 0, cellRegs, 0x99, [5], by dsimp only; decide⟩⟩

/-- The hypotheses of every clause of Obligations.ContextsAndStreamBuffers are met together. -/
theorem test_witness_ContextsAndStreamBuffers :
  (∃ (n : Fin 16) (s : State), (s.regsWf) ∧ (s.bit (F.FAB_CTXSEL.PEND n) = true) ∧ ((s.getPsq n).rep = 1) ∧ ((mget (fun _ => (0 : Wide)) n s.fab.selSince).toNat + 2 ≤ s.tick.toNat)) ∧
  (∃ (n : Fin 16) (s : State), (s.bit (F.FAB_CTXSEL.PEND n) = false)) ∧
  (∃ (p : Fin 2688) (i : Fin 3) (s : State), (s.routeFault p (s.activeCtx p) i = false)) ∧
  (∃ (p : Fin 2688) (i : Fin 3) (s : State), (s.routeFault p (s.activeCtx p) i = true)) ∧
  (∃ (x : Fin 128) (s : State), (s.regsWf) ∧ (s.xsRefused x = false) ∧ (0 < s.fld (F.FAB_XS_LEN.WORDS x)) ∧ (s.fld (F.FAB_XS_LEN.WORDS x) % 16 = 0)) ∧
  (∃ (x : Fin 128) (s : State), (s.regsWf) ∧ (s.xsRefused x = false)) ∧
  (∃ (x : Fin 128) (s : State), (s.xsRefused x = true)) ∧
  (∃ (x : Fin 128) (n : Fin 65) (s : State), (s.bit (F.FAB_XS_STAT.BUSY x) = true) ∧ (1 ≤ n.val) ∧ ((s.xsBuf x).words.length + n ≤ 1024) ∧ ((s.xsBuf x).fetched + n < s.fld (F.FAB_XS_LEN.WORDS x)) ∧ (memCheck s x (s.fld (F.FAB_XS_ADDR.ADDR x) * 64 + 4 * (s.xsBuf x).fetched) (4 * n) false = 0)) :=
  ⟨⟨15, (((sB.setFlds [(F.FAB_CTXSEL.PEND 15,1),(F.FAB_CTXSEL.PENDING 15,7)]).withTick 2).setPsq 15 Psq.reset), by decide⟩,
   ⟨0, (sB.setFlds [((F.FAB_CTXSEL.PEND ((0 : Fin 16))), 0)]), by decide⟩,
   ⟨0, 0, sB, by decide⟩,
   ⟨0, 0, ((sB.setFlds []).setRouteBad), by decide⟩,
   ⟨127, ((sB.setStoreWord (xSlot 127) 8 2).setFlds [(F.FAB_XS_LEN.WORDS 127,16)]), by decide⟩,
   ⟨127, ((sB.setStoreWord (xSlot 127) 8 2).setFlds [(F.FAB_XS_LEN.WORDS 127,16)]), by decide⟩,
   ⟨0, sB, by decide⟩,
   ⟨127, 64, ((memUp sB).setFlds [(F.FAB_XS_STAT.BUSY 127,1),(F.FAB_XS_LEN.WORDS 127,80)]), by decide⟩⟩

/-- The hypotheses of every clause of Obligations.FabricSettingsAndReadBack are met together. -/
theorem test_witness_FabricSettingsAndReadBack :
  (∃ (n : Fin 16) (s : State), (s.regsWf) ∧ (s.siteActive n = false)) ∧
  (∃ (n : Fin 16) (s : State), (s.siteActive n = true)) ∧
  (∃ (m : Fin 256) (s : State), (s.regsWf) ∧ (s.chunkTested m = false) ∧ (s.rgnState (s.fld (F.FAB_RGN_MAP.REGION m)) = 0 ∨ s.rgnState (s.fld (F.FAB_RGN_MAP.REGION m)) = 2)) ∧
  (∃ (m : Fin 256) (s : State), (s.chunkTested m = false) ∧ (s.rgnState (s.fld (F.FAB_RGN_MAP.REGION m)) = 1 ∨ s.rgnState (s.fld (F.FAB_RGN_MAP.REGION m)) = 3)) ∧
  (∃ (req : Requester) (s : State), (s.regsWf) ∧ (s.bist.slices = []) ∧ (s.bist.held = []) ∧ (s.allows req .readBack = true) ∧ (s.readBackOk = true)) ∧
  (∃ (req : Requester) (s : State), (s.bist.slices = []) ∧ (s.bist.held = []) ∧ (s.allows req .readBack = true) ∧ (s.readBackOk = false)) ∧
  (∃ (req : Requester) (s : State), (s.bist.slices = []) ∧ (s.bist.held = []) ∧ (s.allows req .readBack = false)) :=
  ⟨⟨0, sB, by decide⟩,
   ⟨15, (site sB 15 .armed), by decide⟩,
   ⟨0, sB, by decide⟩,
   ⟨255, ((rgn sB 63 1 0).setFlds [(F.FAB_RGN_MAP.REGION 255,63)]), by decide⟩,
   ⟨.host, ({ sB with bist := { sB.bist with slices := [], held := [] } } : State), by decide⟩,
   ⟨.host, (site sB 15 .running), by decide⟩,
   ⟨.host, ({ sB with dev := .boot } : State), by decide⟩⟩

/-- The hypotheses of every clause of Obligations.FreezeAndThaw are met together. -/
theorem test_witness_FreezeAndThaw :
  (∃ (req : Requester) (g : Fin 64) (s : State), (s.regsWf) ∧ (s.allows req .freezeThaw = true) ∧ (s.bit F.FAB_RGN_CMD_STAT.BUSY = false) ∧ (s.rgnState g = 2 ∨ s.rgnState g = 3)) ∧
  (∃ (req : Requester) (g : Fin 64) (s : State), (s.regsWf) ∧ (s.allows req .freezeThaw = true) ∧ (s.bit F.FAB_RGN_CMD_STAT.BUSY = false) ∧ (s.rgnState g = 2) ∧ (s.bit (F.FAB_RGN_DESC.FROZEN g) = true) ∧ (s.bit (F.FAB_RGN_DESC.FAILED g) = false)) ∧
  (∃ (req : Requester) (g : Fin 64) (s : State), (s.regsWf) ∧ (s.allows req .freezeThaw = true) ∧ (s.rgnState g = 0)) ∧
  (∃ (s : State) (r : RgnPend), (s.regsWf) ∧ (s.fab.rgnPend = some r) ∧ (1 ≤ r.region) ∧ (r.region < 64) ∧ (r.thaw = false) ∧ (r.tick.toNat + 1 ≤ s.tick.toNat) ∧ (s.rgnTick (s.rgnSite r.region) = true) ∧ (s.handoverIn r.region = false) ∧ (s.rgnState r.region = 3)) ∧
  (∃ (s : State) (r : RgnPend), (s.regsWf) ∧ (s.fab.rgnPend = some r) ∧ (1 ≤ r.region) ∧ (r.region < 64) ∧ (r.thaw = true) ∧ (r.copied = true) ∧ (r.tick.toNat + 2 ≤ s.tick.toNat) ∧ (s.rgnTick (s.rgnSite r.region) = true) ∧ (s.siteActive (s.rgnSite r.region) = true) ∧ (s.rgnState r.region = 2)) :=
  ⟨⟨.host, 63, (rgn sB 63 2 0), by decide⟩,
   ⟨.host, 63, ((rgn sB 63 2 0).setFlds [(F.FAB_RGN_DESC.FROZEN 63,1)]), by decide⟩,
   ⟨.host, 0, sB, by decide⟩,
   ⟨((rgn ({ sB with fab := { sB.fab with rgnPend := some ⟨false, 63, 0, false⟩ }, tick := 1 } : State) 63 3 0).setFld F.FAB_RGN_CMD_STAT.BUSY 1), ⟨false, 63, 0, false⟩, by decide⟩,
   ⟨(site ((rgn ({ sB with fab := { sB.fab with rgnPend := some ⟨true, 1, 0, true⟩ }, tick := 2 } : State) 1 2 0).setFld F.FAB_RGN_CMD_STAT.BUSY 1) 0 .paused), ⟨true, 1, 0, true⟩, by decide⟩⟩

/-- The hypotheses of every clause of Obligations.StarfixCaptureAndUnload are met together. -/
theorem test_witness_StarfixCaptureAndUnload :
  (∃ (req : Requester) (s : State), (s.regsWf) ∧ (s.allows req .starfixArm = true) ∧ (s.fld F.FAB_SFX_STAT.STATE = 0) ∧ (s.tick.toNat + 4 ≤ (s.reg R.FAB_SFX_TICK).toNat)) ∧
  (∃ (req : Requester) (s : State), (s.regsWf) ∧ (s.allows req .starfixArm = true) ∧ (s.fld F.FAB_SFX_STAT.STATE = 0) ∧ ((s.reg R.FAB_SFX_TICK).toNat < s.tick.toNat + 4)) ∧
  (∃ (s : State), (s.regsWf) ∧ (s.fld F.FAB_SFX_STAT.STATE = 1)) ∧
  (∃ (s : State), let s0 : State := { s with dump := { s.dump with marks := s.dump.marks ||| 4 } }; (s.regsWf) ∧ (s.fld F.FAB_SFX_STAT.STATE = 1) ∧ (s.fab.sfx.armed = some s.tick) ∧ (s.bit F.FAB_SFX_CTRL.MODE = false)) ∧
  (∃ (s : State), (s.regsWf) ∧ (s.fld F.FAB_SFX_STAT.STATE = 2)) ∧
  (∃ (s : State), (s.regsWf) ∧ (2 ≤ s.fld F.FAB_SFX_STAT.STATE)) ∧
  (∃ (s : State), (s.regsWf) ∧ (s.bit F.FAB_SFX_STAT.ARRAYS_HELD = true) ∧ (s.bit F.FAB_SFX_STAT.UNLOAD_BUSY = false)) ∧
  (∃ (s : State), (s.bit F.FAB_SFX_STAT.UNLOAD_BUSY = true) ∧ (∀ m < 256, s.chunkTested m = false)) :=
  ⟨⟨.host, (sB.setReg R.FAB_SFX_TICK 4), by decide⟩,
   ⟨.host, (sB.setFlds [(F.FAB_SFX_STAT.STATE, 0)]), by decide⟩,
   ⟨(sB.setFlds [(F.FAB_SFX_STAT.STATE, 1)]), by decide⟩,
   ⟨(({ sB with fab := { sB.fab with sfx := { Starfix.idle with armed := some 0 } } } : State).setFld F.FAB_SFX_STAT.STATE 1), by decide⟩,
   ⟨(sB.setFlds [(F.FAB_SFX_STAT.STATE, 2)]), by decide⟩,
   ⟨(sB.setFld F.FAB_SFX_STAT.STATE 2), by decide⟩,
   ⟨(sB.setFlds [(F.FAB_SFX_STAT.ARRAYS_HELD, 1), (F.FAB_SFX_STAT.UNLOAD_BUSY, 0)]), by decide⟩,
   ⟨(sB.setFlds [(F.FAB_SFX_STAT.UNLOAD_BUSY, 1)]), by decide⟩⟩

/-- The hypotheses of every clause of Obligations.SiteCommandsAreAccepted are met together. -/
theorem test_witness_SiteCommandsAreAccepted :
  (∃ (req : Requester) (n : Fin 16) (s : State), (s.regsWf) ∧ (s.armOpen req n = true) ∧ (s.pairsAgree n = true) ∧ (s.voting n = false) ∧ (s.captureBad n = none) ∧ (s.creditsFit n = true) ∧ (∀ e ∈ s.siteTaps n, s.tapsOk e.1 e.2 = true) ∧ (∀ g ∈ s.siteRegions n, ∀ c ∈ s.rgnClusters g, s.chunkTested c = false)) ∧
  (∃ (req : Requester) (n : Fin 16) (s : State), (s.regsWf) ∧ (s.cmdOpen req n = true) ∧ ((s.getPsq n).mode = .armed) ∧ (s.voting n = false)) ∧
  (∃ (req : Requester) (n : Fin 16) (s : State), (s.regsWf) ∧ (s.cmdOpen req n = true) ∧ ((s.getPsq n).mode = .armed) ∧ (s.voting n = false) ∧ (s.tick.toNat + 8 ≤ (s.reg (R.PSQ_START_TICK n)).toNat)) ∧
  (∃ (req : Requester) (n : Fin 16) (s : State), (s.regsWf) ∧ (s.cmdOpen req n = true) ∧ ((s.getPsq n).mode = .running)) ∧
  (∃ (req : Requester) (n : Fin 16) (s : State), (s.regsWf) ∧ (s.cmdOpen req n = true) ∧ ((s.getPsq n).mode = .paused) ∧ (s.voting n = false) ∧ (s.bit F.FAB_SFX_STAT.UNLOAD_BUSY = false)) ∧
  (∃ (req : Requester) (n : Fin 16) (s : State), (s.regsWf) ∧ (s.cmdOpen req n = true) ∧ ((s.getPsq n).mode = .armed ∨ (s.getPsq n).mode = .running ∨ (s.getPsq n).mode = .paused ∨ (s.getPsq n).mode = .safeHold)) :=
  ⟨⟨.host, 15, (rgn sB 63 2 15), by decide⟩,
   ⟨.host, 0, (sB.setPsq ((0 : Fin 16)) { Psq.reset with mode := .armed }), by decide⟩,
   ⟨.host, 15, ((site sB 15 .armed).setReg (R.PSQ_START_TICK 15) 8), by decide⟩,
   ⟨.host, 0, (sB.setPsq ((0 : Fin 16)) { Psq.reset with mode := .running }), by decide⟩,
   ⟨.host, 0, ((sB.setFlds [(F.FAB_SFX_STAT.UNLOAD_BUSY, 0)]).setPsq ((0 : Fin 16)) { Psq.reset with mode := .paused }), by decide⟩,
   ⟨.host, 15, (site sB 15 .safeHold), by decide⟩⟩

/-- The hypotheses of every clause of Obligations.HoldServiceAndRunBegin are met together. -/
theorem test_witness_HoldServiceAndRunBegin :
  (∃ (req : Requester) (n : Fin 16) (s : State), (s.regsWf) ∧ (s.cmdOpen req n = true) ∧ (s.siteActive n = true) ∧ ((s.getPsq n).next = none)) ∧
  (∃ (req : Requester) (n : Fin 16) (s : State), (s.regsWf) ∧ (s.cmdOpen req n = true) ∧ (s.siteCode n = 0 ∨ s.siteCode n = 1 ∨ s.siteCode n = 5) ∧ ((s.getPsq n).exec = .stop) ∧ ((s.getPsq n).next = none) ∧ (s.loadWrites n = false) ∧ (s.fld F.BIST_STAT.NF ≠ 1)) ∧
  (∃ (req : Requester) (n : Fin 16) (s : State), (s.regsWf) ∧ (s.cmdOpen req n = true) ∧ ((s.getPsq n).exec = .svc ∨ (s.getPsq n).exec = .wait)) ∧
  (∃ (n : Fin 16) (s : State), ((s.getPsq n).svcEnd = true) ∧ ((s.getPsq n).exec = .svc ∨ (s.getPsq n).exec = .wait) ∧ ((s.getPsq n).access = none)) ∧
  (∃ (n : Fin 16) (s : State), ((s.getPsq n).runAt = some s.tick) ∧ (s.fckOn = true) ∧ ((s.getPsq n).mode = .armed)) ∧
  (∃ (n : Fin 16) (s : State), ((s.getPsq n).runAt = some s.tick) ∧ (s.fckOn = true) ∧ ((s.getPsq n).mode = .paused)) ∧
  (∃ (n : Fin 16) (s : State), ((s.getPsq n).runAt ≠ some s.tick)) :=
  ⟨⟨.host, 0, (sB.setPsq ((0 : Fin 16)) { Psq.reset with mode := .running }), by decide⟩,
   ⟨.host, 0, sB, by decide⟩,
   ⟨.host, 15, (sB.setPsq 15 { Psq.reset with exec := .wait }), by decide⟩,
   ⟨15, (sB.setPsq 15 { Psq.reset with exec := .wait, svcEnd := true }), by decide⟩,
   ⟨15, (sB.setPsq 15 { Psq.reset with mode := .armed, runAt := some 0 }), by decide⟩,
   ⟨15, (sB.setPsq 15 { Psq.reset with mode := .paused, runAt := some 0 }), by decide⟩,
   ⟨0, sB, by decide⟩⟩

/-- The hypotheses of every clause of Obligations.SiteCommandsAreRefusedOutOfState are met together. -/
theorem test_witness_SiteCommandsAreRefusedOutOfState :
  (∃ (n : Fin 16) (s : State), (s.regsWf) ∧ ((s.getPsq n).mode ≠ .none) ∧ (∀ g ∈ s.siteRegions n, ∀ c ∈ s.rgnClusters g, s.chunkTested c = false)) ∧
  (∃ (n : Fin 16) (s : State), (s.regsWf) ∧ ((s.getPsq n).mode ≠ .armed)) ∧
  (∃ (n : Fin 16) (s : State), (s.regsWf) ∧ ((s.getPsq n).mode ≠ .running)) ∧
  (∃ (n : Fin 16) (s : State), (s.regsWf) ∧ ((s.getPsq n).mode ≠ .paused)) ∧
  (∃ (n : Fin 16) (s : State), (s.regsWf) ∧ ((s.getPsq n).mode = .none)) ∧
  (∃ (n : Fin 16) (s : State), (s.regsWf) ∧ (s.siteActive n = false)) ∧
  (∃ (n : Fin 16) (s : State), (s.regsWf) ∧ (s.siteActive n = true)) ∧
  (∃ (n : Fin 16) (s : State), (s.regsWf) ∧ ((s.getPsq n).exec = .stop)) :=
  ⟨⟨15, (site sB 15 .safeHold), by decide⟩,
   ⟨0, sB, by decide⟩,
   ⟨0, sB, by decide⟩,
   ⟨0, sB, by decide⟩,
   ⟨0, (sB.setPsq ((0 : Fin 16)) { Psq.reset with mode := .none }), by decide⟩,
   ⟨0, sB, by decide⟩,
   ⟨0, (sB.setPsq ((0 : Fin 16)) { Psq.reset with mode := .running }), by decide⟩,
   ⟨0, sB, by decide⟩⟩

/-- The hypotheses of every clause of Obligations.SequencerComputesAndEmits are met together. -/
theorem test_witness_SequencerComputesAndEmits :
  (∃ (s : State) (n : Fin 16) (w : Word), (issuesWord s n w 0x00)) ∧
  (∃ (s : State) (n : Fin 16) (w : Word), (issuesWord s n w 0x01)) ∧
  (∃ (s : State) (n : Fin 16) (w : Word), (issuesWord s n w 0x02)) ∧
  (∃ (s : State) (n : Fin 16) (w : Word), (issuesWord s n w 0x03)) ∧
  (∃ (s : State) (n : Fin 16) (w : Word), (issuesWord s n w 0x04)) ∧
  (∃ (s : State) (n : Fin 16) (w : Word), (issuesWord s n w 0x05)) ∧
  (∃ (s : State) (n : Fin 16) (w : Word), (issuesWord s n w 0x06)) ∧
  (∃ (s : State) (n : Fin 16) (w : Word), (issuesWord s n w 0x07)) :=
  ⟨⟨(seqState (sB) 15 (sqw 0x00 1 0 0 0) (seqP .frame)), 15, (sqw 0x00 1 0 0 0), by decide⟩,
   ⟨(seqState (sB) 15 (sqw 0x01 1 0 2 0xFFFF) (seqP .frame)), 15, (sqw 0x01 1 0 2 0xFFFF), by decide⟩,
   ⟨(seqState (sB) 15 (sqw 0x02 1 4 1 0x8000) (seqP .frame)), 15, (sqw 0x02 1 4 1 0x8000), by decide⟩,
   ⟨(seqState (sB) 15 (sqw 0x03 1 2 2 0x3700) (seqP .frame)), 15, (sqw 0x03 1 2 2 0x3700), by decide⟩,
   ⟨(seqState (sB) 15 (sqw 0x04 1 2 2 0x8000) (seqP .frame)), 15, (sqw 0x04 1 2 2 0x8000), by decide⟩,
   ⟨(seqState (sB) 15 (sqw 0x05 1 2 2 0xF00F) (seqP .frame)), 15, (sqw 0x05 1 2 2 0xF00F), by decide⟩,
   ⟨(seqState (sB) 15 (sqw 0x06 1 2 2 0x8001) (seqP .frame)), 15, (sqw 0x06 1 2 2 0x8001), by decide⟩,
   ⟨(seqState (sB) 15 (sqw 0x07 1 2 0 0x10) (seqP .frame)), 15, (sqw 0x07 1 2 0 0x10), by decide⟩⟩

/-- The hypotheses of every clause of Obligations.SequencerBranchesAndRepeats are met together. -/
theorem test_witness_SequencerBranchesAndRepeats :
  (∃ (s : State) (n : Fin 16) (w : Word), (issuesWord s n w 0x08)) ∧
  (∃ (s : State) (n : Fin 16) (w : Word), (issuesWord s n w 0x09)) ∧
  (∃ (s : State) (n : Fin 16) (w : Word), (issuesWord s n w 0x0A)) ∧
  (∃ (s : State) (n : Fin 16) (w : Word), (issuesWord s n w 0x0F) ∧ ((s.getPsq n).exec = .frame) ∧ (fieldOf w 20 20 = 0)) ∧
  (∃ (s : State) (n : Fin 16) (w : Word), (issuesWord s n w 0x10) ∧ ((s.getPsq n).exec = .frame)) ∧
  (∃ (s : State) (n : Fin 16) (w : Word), (issuesWord s n w 0x11) ∧ ((s.getPsq n).exec = .frame) ∧ (s.effBit n (F.PSQ_VOTE_CFG.EN n) = true) ∧ (fieldOf w 20 20 = 0)) ∧
  (∃ (s : State) (n : Fin 16) (w : Word), (issuesWord s n w 0x0E) ∧ ((s.getPsq n).exec = .frame)) ∧
  (∃ (s : State) (n : Fin 16) (w : Word), (issuesWord s n w 0x0E) ∧ ((s.getPsq n).exec = .svc)) ∧
  (∃ (s : State) (n : Fin 16) (w : Word) (k : Nat), (s.issuesNow n = true) ∧ (s.pageValid n ((s.getPsq n).pc.toNat / 4096) = true) ∧ ((s.getPsq n).fetch = w) ∧ (fieldOf w 31 27 = 0x04) ∧ (badEncoding w = false) ∧ ((s.getPsq n).repLeft = k + 1)) :=
  ⟨⟨(seqState (sB) 15 (sqw 0x08 1 1 3 0xFFFF) (seqP .frame)), 15, (sqw 0x08 1 1 3 0xFFFF), by decide⟩,
   ⟨(seqState (sB) 15 (sqw 0x09 1 2 0 0x1234) (seqP .frame)), 15, (sqw 0x09 1 2 0 0x1234), by decide⟩,
   ⟨(seqState (sB) 15 (sqw 0x0A 1 0 2 2) (seqP .frame)), 15, (sqw 0x0A 1 0 2 2), by decide⟩,
   ⟨(seqState (sB) 15 (sqw 0x0F 1 0 0 0x10) (seqP .frame)), 15, (sqw 0x0F 1 0 0 0x10), by decide⟩,
   ⟨(seqState (sB) 15 (sqw 0x10 1 0 0 0x10) (seqP .frame)), 15, (sqw 0x10 1 0 0 0x10), by decide⟩,
   ⟨(seqState (sB.setFld (F.PSQ_VOTE_CFG.EN 15) 1) 15 (sqw 0x11 1 0 0 0x20) (seqP .frame)), 15, (sqw 0x11 1 0 0 0x20), by decide⟩,
   ⟨(seqState (sB) 15 (sqw 0x0E 1 2 0 0) (seqP .frame)), 15, (sqw 0x0E 1 2 0 0), by decide⟩,
   ⟨(seqState (sB) 15 (sqw 0x0E 1 1 8 0) (seqP .svc)), 15, (sqw 0x0E 1 1 8 0), by decide⟩,
   ⟨(seqState (sB) 15 (sqw 0x04 1 2 2 0x7FFF) ({ seqP .frame with repLeft := 1 })), 15, (sqw 0x04 1 2 2 0x7FFF), 0, by decide⟩⟩

/-- The hypotheses of every clause of Obligations.SequencerCallsAndReturns are met together. -/
theorem test_witness_SequencerCallsAndReturns :
  (∃ (s : State) (n : Fin 16) (w : Word), (issuesWord s n w 0x0B) ∧ ((s.getPsq n).cur ≠ 15) ∧ ((s.getPsq n).depth + 1 ≤ s.depthLimit n) ∧ ((s.getPsq n).frameIn (((s.getPsq n).depth + 1) % 15) = none)) ∧
  (∃ (s : State) (n : Fin 16) (w : Word), (issuesWord s n w 0x0B) ∧ ((s.getPsq n).trap = false) ∧ (s.depthLimit n < (s.getPsq n).depth + 1)) ∧
  (∃ (s : State) (n : Fin 16) (w : Word) (h : FrameHdr), (issuesWord s n w 0x0C) ∧ ((s.getPsq n).curFrame = some h) ∧ (h.kind = 1) ∧ ((s.getPsq n).returnFault ((s.getPsq n).depth - 1) = none)) ∧
  (∃ (s : State) (n : Fin 16) (w : Word) (h : FrameHdr), (issuesWord s n w 0x0D) ∧ (w.getLsbD 0 = false) ∧ ((s.getPsq n).priv = true) ∧ ((s.getPsq n).curFrame = some h) ∧ (h.kind = 2) ∧ ((s.getPsq n).returnFault ((s.getPsq n).depth - 1) = none)) ∧
  (∃ (s : State) (n : Fin 16) (w : Word), (issuesWord s n w 0x0D) ∧ (w.getLsbD 0 = true) ∧ ((s.getPsq n).priv = true) ∧ ((s.getPsq n).trap = true) ∧ ((s.getPsq n).cur = 15)) :=
  ⟨⟨(seqState (sB) 15 (sqw 0x0B 1 0 0 0xFFFF) ({ seqP .frame with depth := 14, cur := 14, frames := [] })), 15, (sqw 0x0B 1 0 0 0xFFFF), by decide⟩,
   ⟨(seqState (sB) 15 (sqw 0x0B 1 0 0 0xFFFF) ({ seqP .frame with depth := 20, cur := 5, pc := 7 })), 15, (sqw 0x0B 1 0 0 0xFFFF), by decide⟩,
   ⟨(seqState (sB) 15 (sqw 0x0C 1 0 0 0) ({ seqP .frame with depth := 5, cur := 5, frames := [(4, some ⟨4, 1, 0x21, 0, 0, 0⟩), (5, some ⟨5, 1, 0x321, 0, 0, 0⟩)] })), 15, (sqw 0x0C 1 0 0 0), ⟨5, 1, 0x321, 0, 0, 0⟩, by decide⟩,
   ⟨(seqState (sB) 15 (sqw 0x0D 1 0 0 0) ({ seqP .svc with depth := 5, cur := 5, frames := [(4, some ⟨4, 1, 0x21, 0, 0, 0⟩), (5, some ⟨5, 2, 0x321, 3, 0x10001, 0x4⟩)] })), 15, (sqw 0x0D 1 0 0 0), ⟨5, 2, 0x321, 3, 0x10001, 0x4⟩, by decide⟩,
   ⟨(seqState (sB) 15 (sqw 0x0D 1 0 0 1) ({ seqP .svc with cur := 15, trap := true, epc := 0x55, tstatus := 1, tlmstate := 3, tlmbase := 8 })), 15, (sqw 0x0D 1 0 0 1), by decide⟩⟩

/-- The hypotheses of every clause of Obligations.SequencerTraps are met together. -/
theorem test_witness_SequencerTraps :
  (∃ (s : State) (n : Fin 16) (w : Word), (issuesWord s n w 0x1E) ∧ (fieldOf w 23 16 = 0) ∧ ((s.getPsq n).exec = .svc) ∧ ((s.getPsq n).trap = false)) ∧
  (∃ (s : State) (n : Fin 16), (s.issuesNow n = true) ∧ (s.pageValid n ((s.getPsq n).pc.toNat / 4096) = true) ∧ (fieldOf (s.getPsq n).fetch 31 27 = 0x1F) ∧ ((s.getPsq n).exec = .svc) ∧ ((s.getPsq n).trap = false) ∧ ((s.getPsq n).repLeft = 0)) ∧
  (∃ (s : State) (n : Fin 16) (w : Word), (issuesWord s n w 0x1A) ∧ ((s.getPsq n).exec = .frame) ∧ ((s.getPsq n).trap = false)) ∧
  (∃ (s : State) (n : Fin 16), (s.issuesNow n = true) ∧ (s.pageValid n ((s.getPsq n).pc.toNat / 4096) = false) ∧ ((s.getPsq n).trap = false) ∧ ((s.getPsq n).repLeft = 0)) ∧
  (∃ (s : State) (n : Fin 16) (w : Word), (issuesWord s n w 0x1E) ∧ (fieldOf w 23 16 = 0) ∧ ((s.getPsq n).exec = .svc) ∧ ((s.getPsq n).trap = true)) :=
  ⟨⟨(seqState (sB) 15 (sqw 0x1E 0 0 0 0x1234) (seqP .svc)), 15, (sqw 0x1E 0 0 0 0x1234), by decide⟩,
   ⟨(seqState (sB) 15 (sqw 0x1F 0 0 0 0) (seqP .svc)), 15, by decide⟩,
   ⟨(seqState (sB) 15 (sqw 0x1A 1 2 1 0x4) (seqP .frame)), 15, (sqw 0x1A 1 2 1 0x4), by decide⟩,
   ⟨(((seqState (sB) 15 (sqw 0x04 1 2 1 0) (seqP .frame))).setFld (pageFld 15 0) 0), 15, by decide⟩,
   ⟨(seqState (sB) 15 (sqw 0x1E 0 0 0 0x1234) ({ seqP .svc with trap := true, cur := 15 })), 15, (sqw 0x1E 0 0 0 0x1234), by decide⟩⟩

/-- The hypotheses of every clause of Obligations.SequencerScratchAndSpecial are met together. -/
theorem test_witness_SequencerScratchAndSpecial :
  (∃ (s : State) (n : Fin 16) (w : Word), let a := ((s.getPsq n).g (fieldOf w 19 16) + immS w) &&& 0x3FFF; (a.toNat % 4 = 0) ∧ (issuesWord s n w 0x12)) ∧
  (∃ (s : State) (n : Fin 16) (w : Word), let a := ((s.getPsq n).g (fieldOf w 19 16) + immS w) &&& 0x3FFF; (a.toNat % 4 = 0) ∧ (issuesWord s n w 0x13)) ∧
  (∃ (s : State) (n : Fin 16) (w : Word), let a := ((s.getPsq n).g (fieldOf w 19 16) + immS w) &&& 0x3FFF; (a.toNat % 4 ≠ 0) ∧ ((s.getPsq n).trap = false) ∧ (issuesWord s n w 0x12)) ∧
  (∃ (s : State) (n : Fin 16) (w : Word), (issuesWord s n w 0x14) ∧ (fieldOf w 11 0 = 0x009)) ∧
  (∃ (s : State) (n : Fin 16) (w : Word), (issuesWord s n w 0x14) ∧ (fieldOf w 11 0 = 0x00F)) ∧
  (∃ (s : State) (n : Fin 16) (w : Word), (issuesWord s n w 0x14) ∧ (fieldOf w 11 0 = 0x002)) ∧
  (∃ (s : State) (n : Fin 16) (w : Word), (issuesWord s n w 0x15) ∧ ((s.getPsq n).priv = true) ∧ ((s.getPsq n).sealFlag = false) ∧ (fieldOf w 11 0 = 0x003)) ∧
  (∃ (s : State) (n : Fin 16) (w : Word), (issuesWord s n w 0x15) ∧ ((s.getPsq n).priv = true) ∧ ((s.getPsq n).sealFlag = false) ∧ (fieldOf w 11 0 = 0x00A)) ∧
  (∃ (s : State) (n : Fin 16) (w : Word), (issuesWord s n w 0x16) ∧ ((s.getPsq n).sealFlag = false) ∧ ((s.getPsq n).priv = true) ∧ (w.getLsbD 15 = true)) ∧
  (∃ (s : State) (n : Fin 16) (w : Word), (issuesWord s n w 0x16) ∧ ((s.getPsq n).sealFlag = false) ∧ ((s.getPsq n).priv = true) ∧ (w.getLsbD 15 = false)) ∧
  (∃ (s : State) (n : Fin 16) (m : Fin 16) (w : Word), (s.regsWf) ∧ (issuesWord s n w 0x17) ∧ (m ≠ n) ∧ (fieldOf w 19 16 = m) ∧ (w.getLsbD 15 = false)) ∧
  (∃ (s : State) (n : Fin 16) (w : Word) (c : Word), (s.regsWf) ∧ (issuesWord s n w 0x18) ∧ (s.fld F.FAB_SFX_STAT.STATE = 0) ∧ (c = (s.getPsq n).g (fieldOf w 19 16)) ∧ (s.tick.toNat + c.toNat + (immZ w).toNat < 2 ^ 64) ∧ (4 ≤ c.toNat + (immZ w).toNat)) ∧
  (∃ (s : State) (n : Fin 16) (w : Word), (s.regsWf) ∧ (issuesWord s n w 0x19) ∧ ((s.getPsq n).pc.toNat / 4096 ≠ fieldOf w 23 20) ∧ (s.fld (pageFld n (fieldOf w 23 20)) ≠ 1)) :=
  ⟨⟨(seqState (sB) 15 (sqw 0x12 1 2 3 0) ({ seqP .frame with pc := 0, scratch := [(64, 0x1234), (4095, 7)] })), 15, (sqw 0x12 1 2 3 0), by decide⟩,
   ⟨(seqState (sB) 15 (sqw 0x13 1 2 3 0x3EFC) ({ seqP .frame with pc := 0, scratch := [(64, 0x1234), (4095, 7)] })), 15, (sqw 0x13 1 2 3 0x3EFC), by decide⟩,
   ⟨(seqState (sB) 15 (sqw 0x12 1 2 2 0) (seqP .frame)), 15, (sqw 0x12 1 2 2 0), by decide⟩,
   ⟨(seqState (sB) 15 (sqw 0x14 1 2 0 0x009) ({ seqP .frame with depth := 3, cur := 3 })), 15, (sqw 0x14 1 2 0 0x009), by decide⟩,
   ⟨(seqState (sB.withTick 0x123456789) 15 (sqw 0x14 1 2 0 0x00F) (seqP .frame)), 15, (sqw 0x14 1 2 0 0x00F), by decide⟩,
   ⟨(seqState (sB) 15 (sqw 0x14 1 2 0 0x002) ({ seqP .svc with ecause := 9 })), 15, (sqw 0x14 1 2 0 0x002), by decide⟩,
   ⟨(seqState (sB) 15 (sqw 0x15 1 0 1 0x003) ({ seqP .svc with eval := 9 })), 15, (sqw 0x15 1 0 1 0x003), by decide⟩,
   ⟨(seqState (sB) 15 (sqw 0x15 1 0 1 0x00A) ({ seqP .svc with eval := 9 })), 15, (sqw 0x15 1 0 1 0x00A), by decide⟩,
   ⟨(seqState (sB) 15 (sqw 0x16 1 2 1 0x8000) ({ seqP .svc with winsel := 5 })), 15, (sqw 0x16 1 2 1 0x8000), by decide⟩,
   ⟨(seqState (sB) 15 (sqw 0x16 1 2 1 0) ({ (seqP .svc).setBankReg 5 1 0x77 with winsel := 5 })), 15, (sqw 0x16 1 2 1 0), by decide⟩,
   ⟨(seqState (sB) 15 (sqw 0x17 1 0 0 0xFF) (seqP .frame)), 15, 0, (sqw 0x17 1 0 0 0xFF), by decide⟩,
   ⟨(seqState (sB) 15 (sqw 0x18 1 0 2 1) (seqP .frame)), 15, (sqw 0x18 1 0 2 1), 3, by decide⟩,
   ⟨(seqState (sB) 15 (sqw 0x19 1 15 1 0) (seqP .frame)), 15, (sqw 0x19 1 15 1 0), by decide⟩⟩

/-- The hypotheses of every clause of Obligations.SequencerServiceInstructions are met together. -/
theorem test_witness_SequencerServiceInstructions :
  (∃ (s : State) (n : Fin 16) (w : Word) (a : Word), ((s.getPsq n).exec = .svc) ∧ (a = (s.getPsq n).g (fieldOf w 19 16) + immS w) ∧ (a.toNat < 0x4000) ∧ (a.toNat % 4 = 0) ∧ (issuesWord s n w 0x1A)) ∧
  (∃ (s : State) (n : Fin 16) (w : Word) (a : Word), ((s.getPsq n).exec = .svc) ∧ (a = (s.getPsq n).g (fieldOf w 19 16) + immS w) ∧ (a.toNat < 0x4000) ∧ (a.toNat % 4 = 0) ∧ (issuesWord s n w 0x1B)) ∧
  (∃ (s : State) (n : Fin 16) (w : Word) (a : Word), ((s.getPsq n).exec = .svc) ∧ (a = (s.getPsq n).g (fieldOf w 19 16) + immS w) ∧ (0x80000000 ≤ a.toNat) ∧ (a.toNat % 4 = 0) ∧ (issuesWord s n w 0x1A)) ∧
  (∃ (s : State) (n : Fin 16) (w : Word) (a : Word), ((s.getPsq n).exec = .svc) ∧ (a = (s.getPsq n).g (fieldOf w 19 16) + immS w) ∧ (0x80000000 ≤ a.toNat) ∧ (a.toNat % 4 = 0) ∧ (issuesWord s n w 0x1B)) ∧
  (∃ (s : State) (n : Fin 16) (w : Word) (a : Word), ((s.getPsq n).exec = .svc) ∧ (a = (s.getPsq n).g (fieldOf w 19 16) + immS w) ∧ (0x4000 ≤ a.toNat) ∧ (a.toNat < 0x10000) ∧ (a.toNat % 4 = 0) ∧ ((s.getPsq n).trap = false) ∧ (issuesWord s n w 0x1A)) ∧
  (∃ (s : State) (n : Fin 16) (w : Word) (k : Nat) (rest : List Nat), ((s.getPsq n).exec = .svc) ∧ ((s.getPsq n).lmstate = 0) ∧ (onesFrom 16 0 (w.toNat % 2 ^ 16) = k :: rest) ∧ (((s.getPsq n).g (fieldOf w 19 16)).toNat < 0x4000) ∧ (((s.getPsq n).g (fieldOf w 19 16)).toNat % 4 = 0) ∧ (issuesWord s n w 0x1C)) ∧
  (∃ (s : State) (n : Fin 16) (w : Word) (k : Nat) (rest : List Nat), ((s.getPsq n).exec = .svc) ∧ ((s.getPsq n).lmstate = 0) ∧ (onesFrom 16 0 (w.toNat % 2 ^ 16) = k :: rest) ∧ (((s.getPsq n).g (fieldOf w 19 16)).toNat < 0x4000) ∧ (((s.getPsq n).g (fieldOf w 19 16)).toNat % 4 = 0) ∧ (issuesWord s n w 0x1D)) ∧
  (∃ (s : State) (n : Fin 16) (x : DataAccess), ((s.getPsq n).access = some x) ∧ (x.multi = false) ∧ (memCheck s (128 + n) (s.dataDpa n x.addr) 4 x.store = 0) ∧ (x.store = false)) ∧
  (∃ (s : State) (n : Fin 16) (x : DataAccess), ((s.getPsq n).access = some x) ∧ (x.multi = false) ∧ (memCheck s (128 + n) (s.dataDpa n x.addr) 4 x.store = 0) ∧ (x.store = true)) ∧
  (∃ (s : State) (n : Fin 16) (w : Word), (issuesWord s n w 0x1E) ∧ ((s.getPsq n).exec = .svc) ∧ (fieldOf w 23 16 = 1)) ∧
  (∃ (s : State) (n : Fin 16) (w : Word), (issuesWord s n w 0x1E) ∧ ((s.getPsq n).exec = .svc) ∧ (fieldOf w 23 16 = 2)) ∧
  (∃ (s : State) (n : Fin 16) (w : Word), (issuesWord s n w 0x1E) ∧ ((s.getPsq n).exec = .svc) ∧ (fieldOf w 23 16 = 3)) :=
  ⟨⟨(seqState (sB) 15 (sqw 0x1A 0 2 3 0x3EFC) ({ seqP .svc with pc := 0, scratch := [(64, 0x1234), (4095, 7)] })), 15, (sqw 0x1A 0 2 3 0x3EFC), 0x3FFC, by decide⟩,
   ⟨(seqState (sB) 15 (sqw 0x1B 0 2 3 0x0000) ({ seqP .svc with pc := 0, scratch := [(64, 0x1234), (4095, 7)] })), 15, (sqw 0x1B 0 2 3 0x0000), 0x100, by decide⟩,
   ⟨(seqState (sB) 15 (sqw 0x1A 0 2 1 0xFFF9) (seqP .svc)), 15, (sqw 0x1A 0 2 1 0xFFF9), 0x80000000, by decide⟩,
   ⟨(seqState (sB) 15 (sqw 0x1B 0 2 5 0xFFFD) (seqP .svc)), 15, (sqw 0x1B 0 2 5 0xFFFD), 0xFFFFFFFC, by decide⟩,
   ⟨(seqState (sB) 15 (sqw 0x1A 0 2 3 0x3F00) (seqP .svc)), 15, (sqw 0x1A 0 2 3 0x3F00), 0x4000, by decide⟩,
   ⟨(seqState (sB) 15 (sqw 0x1C 0 0 3 0x8004) ({ seqP .svc with pc := 0, scratch := [(64, 0x1234), (4095, 7)] })), 15, (sqw 0x1C 0 0 3 0x8004), 2, [15], by decide⟩,
   ⟨(seqState (sB) 15 (sqw 0x1D 0 0 3 0x8000) ({ seqP .svc with pc := 0, scratch := [(64, 0x1234), (4095, 7)] })), 15, (sqw 0x1D 0 0 3 0x8000), 15, [], by decide⟩,
   ⟨(memUp ((sB.setPsq 15 { seqP .svc with access := some ⟨false, 2, 0x80000010, 0, false⟩ }).setDpaBytes 0x10 [1, 2, 3, 4])), 15, ⟨false, 2, 0x80000010, 0, false⟩, by decide⟩,
   ⟨(memUp ((sB.setPsq 15 { seqP .svc with access := some ⟨true, 2, 0x80000010, 0x11223344, false⟩ }).setDpaBytes 0x10 [1, 2, 3, 4])), 15, ⟨true, 2, 0x80000010, 0x11223344, false⟩, by decide⟩,
   ⟨(seqState (sB) 15 (sqw 0x1E 0 0 1 0) (seqP .svc)), 15, (sqw 0x1E 0 0 1 0), by decide⟩,
   ⟨(seqState (sB) 15 (sqw 0x1E 0 0 2 0) (seqP .svc)), 15, (sqw 0x1E 0 0 2 0), by decide⟩,
   ⟨(seqState (sB) 15 (sqw 0x1E 0 0 3 0) (seqP .svc)), 15, (sqw 0x1E 0 0 3 0), by decide⟩⟩

/-- The hypotheses of every clause of Obligations.SequencerInterrupts are met together. -/
theorem test_witness_SequencerInterrupts :
  (∃ (s : State), (s.regsWf)) ∧
  (∃ (n : Fin 16) (s : State), (s.fckOn = true) ∧ (s.issueTick n 0 = true) ∧ ((s.reg (R.PSQ_FRAMECNT n)).toNat % 2 ^ 32 = (s.reg (R.PSQ_TIMER n)).toNat % 2 ^ 32)) ∧
  (∃ (n : Fin 16) (s : State), ((s.reg (R.PSQ_FRAMECNT n)).toNat % 2 ^ 32 ≠ (s.reg (R.PSQ_TIMER n)).toNat % 2 ^ 32)) ∧
  (∃ (n : Fin 16) (s : State) (src : Nat), (s.atBoundary n = true ∨ ((s.getPsq n).exec = .wait ∧ s.fckOn = true)) ∧ (s.irqDue n = some (src, none)) ∧ ((s.getPsq n).svcEnd = false)) ∧
  (∃ (n : Fin 16) (s : State) (src : Nat) (e : Nat), (s.atBoundary n = true) ∧ (s.irqDue n = some (src, some e)) ∧ ((s.getPsq n).svcEnd = false) ∧ ((s.getPsq n).exec = .svc) ∧ ((s.getPsq n).trap = false)) ∧
  (∃ (n : Fin 16) (s : State), (s.irqDue n = none)) :=
  ⟨⟨sB, by decide⟩,
   ⟨15, ((site sB 15 .running).setFlds [(F.FAB_RGN_DESC.STATE 1,3)]).setReg (R.PSQ_TIMER 15) 0, by decide⟩,
   ⟨0, sB, by decide⟩,
   ⟨15, ((((sB.withTick 2).setFlds [(F.PSQ_IRQ.EN 15, 0x1F), (F.PSQ_SPILL_LIMIT.DEPTH 15, 20), (F.PSQ_CFG.IVBASE 15, 255), (F.PSQ_CFG.IRQ_PRIV 15, 1)])).setPsq 15 { seqP .svc with ie := true, irq := [(4, some 0)], irqCheck := some (4, none), pc := 7, depth := 14, cur := 14, frames := [] }), 4, by decide⟩,
   ⟨15, ((((sB.withTick 2).setFlds [(F.PSQ_IRQ.EN 15, 0x1F), (F.PSQ_SPILL_LIMIT.DEPTH 15, 20), (F.PSQ_CFG.IVBASE 15, 255), (F.PSQ_CFG.IRQ_PRIV 15, 1)])).setPsq 15 { seqP .svc with ie := true, irq := [(4, some 0)], irqCheck := some (4, some 1), pc := 7, depth := 14, cur := 14, frames := [] }), 4, 1, by decide⟩,
   ⟨0, sB, by decide⟩⟩

/-- The hypotheses of every clause of Obligations.PageFillsAndWindowMoves are met together. -/
theorem test_witness_PageFillsAndWindowMoves :
  (∃ (n : Fin 16) (pg : Fin 16) (s : State), (s.regsWf) ∧ ((s.getPsq n).pc.toNat / 4096 ≠ pg.val) ∧ (s.fld (pageFld n pg) ≠ 1)) ∧
  (∃ (n : Fin 16) (pg : Fin 16) (s : State), (s.regsWf) ∧ ((s.getPsq n).pc.toNat / 4096 = pg.val)) ∧
  (∃ (n : Fin 16) (pg : Fin 16) (s : State) (u : Nat), (s.regsWf) ∧ (mget (fun _ => none) pg.val (s.getPsq n).fills = some u) ∧ (memCheck s (128 + n) (u * 16384) 16384 false = 0)) ∧
  (∃ (n : Fin 16) (pg : Fin 16) (s : State) (u : Nat) (st : Half), (s.regsWf) ∧ (mget (fun _ => none) pg.val (s.getPsq n).fills = some u) ∧ (memStatus s (128 + n) (u * 16384) 16384 false st.toNat ≠ 0)) ∧
  (∃ (n : Fin 16) (s : State) (b : Nat) (h : FrameHdr), ((s.getPsq n).lowestResident = some (b, h)) ∧ (s.spillReady n = true) ∧ ((s.getPsq n).freeBanks < (s.aheads n).1) ∧ ((s.getPsq n).wstore.length < 512)) ∧
  (∃ (n : Fin 16) (s : State) (f : StoredFrame), ((s.getPsq n).wstore.getLast? = some f) ∧ (s.spillReady n = true) ∧ (s.spillDue n = false) ∧ (((List.range 15).filter (fun b => match (s.getPsq n).frameIn b with
      | some h => decide (h.depth < (s.getPsq n).depth)
      | none => false)).length < (s.aheads n).2) ∧ ((s.aheads n).1 + 1 ≤ (s.getPsq n).freeBanks) ∧ ((s.getPsq n).frameIn (f.hdr.depth % 15) = none) ∧ ((s.getPsq n).spillBad.contains f.hdr.depth = false) ∧ (f.bad = false)) ∧
  (∃ (n : Fin 16) (s : State) (f : StoredFrame), ((s.getPsq n).wstore.getLast? = some f) ∧ (s.spillReady n = true) ∧ (s.spillDue n = false) ∧ (((List.range 15).filter (fun b => match (s.getPsq n).frameIn b with
      | some h => decide (h.depth < (s.getPsq n).depth)
      | none => false)).length < (s.aheads n).2) ∧ ((s.aheads n).1 + 1 ≤ (s.getPsq n).freeBanks) ∧ ((s.getPsq n).frameIn (f.hdr.depth % 15) = none) ∧ ((s.getPsq n).spillBad.contains f.hdr.depth = false) ∧ (f.bad = true) ∧ (s.regsWf)) ∧
  (∃ (n : Fin 16) (s : State), let k := (s.getPsq n).wstore.length - (s.effFld n (F.PSQ_WCFG.STORE_HI n) - 32); let a := s.effFld n (F.PSQ_SPILL_BASE.ADDR n) * 128 + 128 * (s.getPsq n).inMem; ((s.getPsq n).sealFlag = false) ∧ ((s.getPsq n).windowsKept = false) ∧ (s.effFld n (F.PSQ_WCFG.STORE_HI n) < (s.getPsq n).wstore.length) ∧ (memCheck s (128 + n) a (128 * k) true = 0)) ∧
  (∃ (n : Fin 16) (s : State), ((s.getPsq n).sealFlag = true)) ∧
  (∃ (n : Fin 16) (s : State), let k := min (s.getPsq n).inMem (min (s.effFld n (F.PSQ_WCFG.STORE_LO n) + 32) 512 - (s.getPsq n).wstore.length); let a := s.effFld n (F.PSQ_SPILL_BASE.ADDR n) * 128 + 128 * ((s.getPsq n).inMem - k); ((s.getPsq n).windowsKept = false) ∧ ((s.getPsq n).wstore.length < s.effFld n (F.PSQ_WCFG.STORE_LO n)) ∧ (1 ≤ k) ∧ (memCheck s (128 + n) a (128 * k) false = 0)) :=
  ⟨⟨15, 15, sB, by decide⟩,
   ⟨0, 0, sB, by decide⟩,
   ⟨15, 15, ((memUp (sB.setFld (pageFld 15 15) 1)).setPsq 15 { Psq.reset with fills := [(15, some 1)] }), 1, by decide⟩,
   ⟨15, 15, ((sB.setFld (pageFld 15 15) 1).setPsq 15 { Psq.reset with fills := [(15, some 0xFFFFFF)] }), 0xFFFFFF, 0, by decide⟩,
   ⟨15, ((sB.setFlds [(F.PSQ_WCFG.SPILL_AHEAD 15, 2), (F.PSQ_WCFG.FILL_AHEAD 15, 2)]).setPsq 15 ({ seqP .frame with depth := 20, cur := 5, frames := fullBanks 6 })), 6, ⟨6, 1, 0x10, 0, 0, 0⟩, by decide⟩,
   ⟨15, ((sB.setFlds [(F.PSQ_WCFG.SPILL_AHEAD 15, 2), (F.PSQ_WCFG.FILL_AHEAD 15, 2)]).setPsq 15 { seqP .frame with depth := 4, cur := 4, frames := [(4, some ⟨4, 1, 0x10, 0, 0, 0⟩)], wstore := [⟨⟨3, 1, 0x20, 0, 0, 0⟩, [0, 1, 2, 3, 4, 5, 6, 7, 8, 9, 10, 11, 12, 13, 14, 15], false⟩] }), ⟨⟨3, 1, 0x20, 0, 0, 0⟩, [0, 1, 2, 3, 4, 5, 6, 7, 8, 9, 10, 11, 12, 13, 14, 15], false⟩, by decide⟩,
   ⟨15, ((sB.setFlds [(F.PSQ_WCFG.SPILL_AHEAD 15, 2), (F.PSQ_WCFG.FILL_AHEAD 15, 2)]).setPsq 15 { seqP .frame with depth := 4, cur := 4, frames := [(4, some ⟨4, 1, 0x10, 0, 0, 0⟩)], wstore := [⟨⟨3, 1, 0x20, 0, 0, 0⟩, [0, 1, 2, 3, 4, 5, 6, 7, 8, 9, 10, 11, 12, 13, 14, 15], true⟩] }), ⟨⟨3, 1, 0x20, 0, 0, 0⟩, [0, 1, 2, 3, 4, 5, 6, 7, 8, 9, 10, 11, 12, 13, 14, 15], true⟩, by decide⟩,
   ⟨15, ((memUp (sB.setFlds [(F.PSQ_WCFG.STORE_HI 15, 32)])).setPsq 15 { seqP .frame with wstore := List.replicate 33 ⟨⟨3, 1, 0x20, 0, 0, 0⟩, [0, 1, 2, 3, 4, 5, 6, 7, 8, 9, 10, 11, 12, 13, 14, 15], false⟩ }), by decide⟩,
   ⟨15, (sB.setPsq 15 { seqP .frame with sealFlag := true }), by decide⟩,
   ⟨15, ((memUp (sB.setFlds [(F.PSQ_WCFG.STORE_LO 15, 32)])).setPsq 15 { seqP .frame with wstore := List.replicate 31 ⟨⟨3, 1, 0x20, 0, 0, 0⟩, [0, 1, 2, 3, 4, 5, 6, 7, 8, 9, 10, 11, 12, 13, 14, 15], false⟩, inMem := 2 }), by decide⟩⟩

/-- The hypotheses of every clause of Obligations.SealDebugAndConfiguration are met together. -/
theorem test_witness_SealDebugAndConfiguration :
  (∃ (n : Fin 16) (s : State), ((s.getPsq n).sealFlag = false) ∧ ((s.getPsq n).exec = .susp)) ∧
  (∃ (n : Fin 16) (s : State), ((s.getPsq n).sealFlag = false) ∧ ((s.getPsq n).exec = .frame ∨ (s.getPsq n).exec = .svc)) ∧
  (∃ (n : Fin 16) (s : State), ((s.getPsq n).sealFlag = true) ∧ ((s.getPsq n).exec = .stop)) ∧
  (∃ (n : Fin 16) (s : State), (s.regsWf) ∧ (s.siteCode n = 0 ∨ s.siteCode n = 1 ∨ s.siteCode n = 5) ∧ ((s.getPsq n).exec = .stop)) ∧
  (∃ (n : Fin 16) (s : State), (s.siteCode n = 0 ∨ s.siteCode n = 1 ∨ s.siteCode n = 5) ∧ ((s.getPsq n).exec = .stop)) ∧
  (∃ (req : Requester) (n : Fin 16) (s : State), (s.cmdOpen req n = true) ∧ (s.siteCode n = 0 ∨ s.siteCode n = 1 ∨ s.siteCode n = 5) ∧ ((s.getPsq n).exec = .stop) ∧ ((s.getPsq n).next = none) ∧ (s.loadWrites n = false) ∧ (s.fld F.BIST_STAT.NF ≠ 1)) ∧
  (∃ (n : Fin 16) (s : State), (s.siteActive n = true)) :=
  ⟨⟨15, ((sB.setFlds [(F.PSQ_WDBG_ADDR.BANK 15, 0),(F.PSQ_WDBG_ADDR.REG 15, 5)]).setPsq 15 (seqP .susp)), by decide⟩,
   ⟨15, (sB.setPsq 15 (seqP .frame)), by decide⟩,
   ⟨15, (sB.setPsq 15 { seqP .stop with sealFlag := true, pc := 9 }), by decide⟩,
   ⟨15, sB, by decide⟩,
   ⟨0, sB, by decide⟩,
   ⟨.host, 0, sB, by decide⟩,
   ⟨15, (site sB 15 .armed), by decide⟩⟩

/-- The hypotheses of every clause of Obligations.SliceCompareMarksFails are met together. -/
theorem test_witness_SliceCompareMarksFails :
  (∃ (k : Fin 256) (h : Half) (l : Half) (s : State) (f : SliceFrame), (s.regsWf) ∧ ((s.slice k).frameAt s.tick = some f) ∧ (s.sliceState k = 2 ∨ s.sliceState k = 3 ∨ s.sliceState k = 4) ∧ ((s.slice k).now.compared = false) ∧ ((f.expect.v && !(sliceBit s k (F.PSL_CFG.SPOL k) && f.expect.s)) = true)) :=
  ⟨255, 0x1234, 0xF00F, ((((pslUp (sB.withTick 7) 255 3).setFlds [(F.FAB_RGN_DESC.STATE 1,3),(F.FAB_RGN_XMAP.REGION 127,1)]).setPsq 3 { Psq.reset with mode := .running }).setSlice 255 { Slice.reset with act := .active, frames := [⟨fw 0, fw 0x1B1B1B1B, 0, 7, [], [], false, false, 0, 0⟩] }), ⟨fw 0, fw 0x1B1B1B1B, 0, 7, [], [], false, false, 0, 0⟩, by decide⟩

/-- The hypotheses of every clause of Obligations.SliceCalibrationAndCounters are met together. -/
theorem test_witness_SliceCalibrationAndCounters :
  (∃ (req : Requester) (k : Fin 256) (s : State), (s.regsWf) ∧ (s.quadReady k = true) ∧ (s.allows req .pslCal = true) ∧ (s.fld F.BIST_STAT.NF ≠ 1) ∧ (s.sliceState k = 1) ∧ (s.bit (F.PSL_STAT.BOUND k) = true) ∧ (s.bit F.TICK_STAT.FCK_BUSY = false) ∧ (s.sliceBusy k = false)) ∧
  (∃ (req : Requester) (k : Fin 256) (s : State), (s.regsWf) ∧ (s.present k = true) ∧ (s.allows req .pslCal = false)) ∧
  (∃ (req : Requester) (k : Fin 256) (s : State), (s.regsWf) ∧ (s.present k = true) ∧ (s.allows req .pslCal = true) ∧ (s.bit (F.PSL_QSTAT.READY (k / 64)) = false)) ∧
  (∃ (k : Fin 256) (rH : BitVec 17) (rL : BitVec 17) (s : State), (s.regsWf) ∧ ((s.slice k).cal = true) ∧ (max rH.toNat rL.toNat - min rH.toNat rL.toNat ≤ 1023) ∧ (3 + (max rH.toNat rL.toNat + 64) / 128 / 16 ≤ 64) ∧ (mwf (fun _ => Slice.reset) s.slices = true)) ∧
  (∃ (k : Fin 256) (s : State), (s.regsWf) ∧ (mwf (fun _ => Slice.reset) s.slices = true) ∧ ((s.slice k).cal = true)) ∧
  (∃ (s : State), (s.regsWf)) :=
  ⟨⟨.host, 255, (pslUp sB 255 3), by decide⟩,
   ⟨.host, 255, ({ sB with dev := .boot } : State), by decide⟩,
   ⟨.host, 255, sB, by decide⟩,
   ⟨255, 124900, 123900, (sB.setSlice 255 { Slice.reset with cal := true }), by decide⟩,
   ⟨255, (sB.setSlice 255 { Slice.reset with cal := true }), by decide⟩,
   ⟨sB, by decide⟩⟩

/-- The hypotheses of every clause of Obligations.SliceSettingsAndBindings are met together. -/
theorem test_witness_SliceSettingsAndBindings :
  (∃ (k : Fin 256) (s : State), (s.f128 = true) ∧ (128 ≤ k.val)) ∧
  (∃ (k : Fin 256) (s : State), (s.regsWf) ∧ (s.present k = true) ∧ (s.sliceBusy k = false)) ∧
  (∃ (k : Fin 256) (s : State), (s.present k = true) ∧ (s.sliceBusy k = true)) ∧
  (∃ (req : Requester) (k : Fin 256) (v : Word) (s : State), (s.regsWf) ∧ (mwf (fun _ => Slice.reset) s.slices = true) ∧ (s.quadReady k = true) ∧ (s.allows req .pslCal = true) ∧ (s.sliceBusy k = false) ∧ ((s.slice k).lostAt ≠ some s.tick) ∧ (v.getLsbD 31 = true) ∧ (s.bindInvalid k v.toNat = false)) ∧
  (∃ (req : Requester) (k : Fin 256) (v : Word) (s : State), (s.regsWf) ∧ (mwf (fun _ => Slice.reset) s.slices = true) ∧ (s.quadReady k = true) ∧ (s.allows req .pslCal = true) ∧ (s.sliceBusy k = false) ∧ ((s.slice k).lostAt ≠ some s.tick) ∧ (v.getLsbD 31 = false)) ∧
  (∃ (req : Requester) (k : Fin 256) (v : Word) (s : State), (s.regsWf) ∧ (mwf (fun _ => Slice.reset) s.slices = true) ∧ (s.quadReady k = true) ∧ (s.allows req .pslCal = true) ∧ (s.sliceBusy k = false) ∧ ((s.slice k).lostAt ≠ some s.tick) ∧ (v.getLsbD 31 = true) ∧ (s.bindInvalid k v.toNat = true)) ∧
  (∃ (req : Requester) (k : Fin 256) (s : State), (s.regsWf) ∧ (s.present k = true) ∧ (s.allows req .pslCal = false ∨ s.sliceBusy k = true)) :=
  ⟨⟨128, ({ sB with f128 := true } : State), by decide⟩,
   ⟨0, sB, by decide⟩,
   ⟨255, (site (pslUp sB 255 15) 15 .armed), by decide⟩,
   ⟨.host, 255, 0x8000050F, (ptUp (quadsUp sB) 5), by decide⟩,
   ⟨.host, 255, 0x50F, (pslUp sB 255 0), by decide⟩,
   ⟨.host, 255, 0x80000510, (ptUp (quadsUp sB) 5), by decide⟩,
   ⟨.host, 255, (site (pslUp sB 255 15) 15 .armed), by decide⟩⟩

/-- The hypotheses of every clause of Obligations.SignalsPartnersAndQuadrants are met together. -/
theorem test_witness_SignalsPartnersAndQuadrants :
  (∃ (k : Fin 256) (onH : Bool) (onL : Bool) (s : State), (s.regsWf) ∧ (s.quadReady k = true) ∧ ((onH || onL) = true) ∧ (s.bit (F.PSL_STAT.BOUND k) = true) ∧ (sliceBit s k (F.PSL_CFG.LOS_EN k) = true) ∧ (noBindNow s k)) ∧
  (∃ (k : Fin 256) (s : State), (s.regsWf) ∧ (s.quadReady k = true) ∧ (s.bit (F.PSL_STAT.BOUND k) = false)) ∧
  (∃ (s : State), (s.regsWf)) ∧
  (∃ (e : Fin 64) (s : State), (s.regsWf) ∧ (s.ptState e = 2) ∧ (∀ k < 256, noBindNow s k)) ∧
  (∃ (e : Fin 64) (s : State), (s.regsWf) ∧ (s.ptState e = 2) ∧ (s.dev = .loaded) ∧ (s.ptByte e 14 < 24) ∧ (s.fld (F.AUX_GPIO_CFG.FUNC (s.ptByte e 14)) = 2) ∧ (∀ k < 256, noBindNow s k)) ∧
  (∃ (e : Fin 64) (k : Fin 256) (b : BindRec) (s : State), (s.regsWf) ∧ (mwf (fun _ => Slice.reset) s.slices = true) ∧ (s.fckOn = true) ∧ (s.ptState e = 2) ∧ ((s.slice k).bindRec = some b) ∧ (b.tick = s.tick) ∧ (b.bound = 0) ∧ (b.stale = 0) ∧ (s.bit (F.PSL_STAT.BOUND k) = true) ∧ (s.fld (F.PSL_BIND.PARTNER k) = e)) ∧
  (∃ (e : Fin 64) (s : State), (s.ptState e ≠ 2)) ∧
  (∃ (q : Fin 4) (s : State), (s.f128 = true) ∧ (2 ≤ q.val)) ∧
  (∃ (req : Requester) (q : Fin 4) (s : State), (s.regsWf) ∧ (s.f128 = false ∨ q.val < 2) ∧ (s.allows req .pwrEn = true)) ∧
  (∃ (req : Requester) (q : Fin 4) (s : State), (s.regsWf) ∧ (s.f128 = false ∨ q.val < 2) ∧ (s.allows req .pwrEn = true) ∧ (s.fld F.BIST_STAT.NF ≠ 1) ∧ (∀ i < 64, (s.slice (64 * q + i)).cal = false ∧ s.sliceBusy (64 * q + i) = false)) ∧
  (∃ (req : Requester) (q : Fin 4) (s : State), (s.regsWf) ∧ (s.f128 = false ∨ q.val < 2) ∧ (s.allows req .pwrEn = true) ∧ (∃ i < 64, s.sliceBusy (64 * q + i) = true)) ∧
  (∃ (q : Fin 4) (s : State), (s.regsWf) ∧ (s.bit (F.PSL_QSTAT.PWR_GOOD q) = true) ∧ (s.bit (F.PSL_QSTAT.READY q) = false) ∧ ((s.fld F.CLK_STAT.LOCK).testBit (1 + q / 2) = true)) ∧
  (∃ (q : Fin 4) (s : State), (s.regsWf) ∧ (s.bit (F.PSL_QCTRL.PWR_EN q) = true) ∧ (s.bit (F.PSL_QSTAT.READY q) = false) ∧ (q.val ∉ s.pwr.quadUp)) :=
  ⟨⟨255, false, true, (site ((pslUp sB 255 15).setFld (F.PSL_CFG.LOS_EN 255) 1) 15 .running), by decide⟩,
   ⟨255, ((pslUp sB 255 15).setFld (F.PSL_STAT.BOUND 255) 0), by decide⟩,
   ⟨sB, by decide⟩,
   ⟨5, (pslUp (ptUp sB 5) 255 15), by decide⟩,
   ⟨5, ((({ (pslUp (ptUp sB 5) 255 15) with dev := .loaded } : State).setPtByte 5 14 23).setFld (F.AUX_GPIO_CFG.FUNC 23) 2), by decide⟩,
   ⟨5, 255, ⟨0, 0x77, 0, 0⟩, ((pslUp (ptUp sB 5) 255 15).setSlice 255 { Slice.reset with bindRec := some ⟨0, 0x77, 0, 0⟩ }), by decide⟩,
   ⟨5, sB, by decide⟩,
   ⟨2, ({ sB with f128 := true } : State), by decide⟩,
   ⟨.host, 3, sB, by decide⟩,
   ⟨.host, 3, (quadsUp sB), by decide⟩,
   ⟨.host, 3, (site (pslUp sB 255 15) 15 .paused), by decide⟩,
   ⟨3, (sB.setFlds [(F.PSL_QCTRL.PWR_EN 3,1),(F.PSL_QSTAT.PWR_GOOD 3,1),(F.CLK_STAT.LOCK,4)]), by decide⟩,
   ⟨3, (sB.setFlds [(F.PSL_QCTRL.PWR_EN 3,1)]), by decide⟩⟩

/-- The hypotheses of every clause of Obligations.FailPacketsCreditsAndSaturation are met together. -/
theorem test_witness_FailPacketsCreditsAndSaturation :
  (∃ (x : Fin 128) (tick : Wide) (e : Half) (o : Half) (src : Nat) (f : Byte) (site : Nat) (ctx : Nat) (ps : List CapPkt) (s : State), (s.xPkt x = .fail tick e o src f site ctx :: ps) ∧ ((s.source x).saturated = false) ∧ (0 < (s.source x).cr) ∧ ((s.queue (s.srcQueueOf x)).st = .run ∨ (s.queue (s.srcQueueOf x)).st = .flush)) ∧
  (∃ (x : Fin 128) (tick : Wide) (e : Half) (o : Half) (src : Nat) (f : Byte) (site : Nat) (ctx : Nat) (ps : List CapPkt) (s : State), (s.regsWf) ∧ (s.xPkt x = .fail tick e o src f site ctx :: ps) ∧ ((s.source x).saturated = false) ∧ ((s.source x).cr = 0) ∧ ((s.queue (s.srcQueueOf x)).st = .run)) ∧
  (∃ (x : Fin 128) (s : State), (s.srcLive x = true) ∧ (256 ≤ s.accNext x)) ∧
  (∃ (x : Fin 128) (s : State), (s.srcLive x = false ∨ s.accNext x < 256)) ∧
  (∃ (x : Fin 128) (s : State), ((s.source x).saturated = true) ∧ (s.fld (F.FCQ_SRC_CRED.SAT_EXIT x) ≤ (s.source x).cr) ∧ ((s.queue (s.srcQueueOf x)).st ≠ .reset)) ∧
  (∃ (x : Fin 128) (s : State), ((s.source x).saturated = false)) ∧
  (∃ (x : Nat) (s : State), (mwf (fun _ => Source.reset) s.sources = true) ∧ ((s.source x).refill = false)) ∧
  (∃ (x : Nat) (s : State), (mwf (fun _ => Source.reset) s.sources = true) ∧ ((s.source x).refill = true) ∧ (∀ y, y ≠ x → (s.source y).refill = false) ∧ (s.srcLive x = true) ∧ (s.fld (F.FCQ_SRC_CRED.CAP x) ≤ (s.source x).cr)) ∧
  (∃ (x : Nat) (s : State), (mwf (fun _ => Source.reset) s.sources = true) ∧ ((s.source x).refill = true) ∧ (∀ y, y ≠ x → (s.source y).refill = false) ∧ (s.srcLive x = true) ∧ ((s.source x).cr < s.fld (F.FCQ_SRC_CRED.CAP x)) ∧ ((s.queue (s.srcQueueOf x)).st ≠ .reset) ∧ (4 ≤ s.freeItems (s.srcQueueOf x))) ∧
  (∃ (x : Nat) (s : State), (mwf (fun _ => Source.reset) s.sources = true) ∧ ((s.source x).refill = true) ∧ (∀ y, y ≠ x → (s.source y).refill = false) ∧ (s.srcLive x = true) ∧ ((s.source x).cr < s.fld (F.FCQ_SRC_CRED.CAP x)) ∧ ((s.queue (s.srcQueueOf x)).st = .reset ∨ s.freeItems (s.srcQueueOf x) < 4)) :=
  ⟨⟨127, 77, 0x8001, 0, 127, 1, 3, 2, [], (((srcUp (sB) 127 63 (capQ .flush)).setSource 127 { Source.reset with cr := 1 }).setXPkt 127 [failPkt]), by decide⟩,
   ⟨127, 77, 0x8001, 0, 127, 1, 3, 2, [], (((srcUp (sB) 127 63 (capQ .run)).setSource 127 { Source.reset with acc := 256 }).setXPkt 127 [failPkt]), by decide⟩,
   ⟨127, ((srcUp (sB) 127 63 (capQ .flush)).setSource 127 { Source.reset with armed := true, acc := 511, cr := 10 }), by decide⟩,
   ⟨127, sB, by decide⟩,
   ⟨127, ((srcUp (sB) 127 63 (capQ .run)).setSource 127 { Source.reset with saturated := true, cr := 5 }), by decide⟩,
   ⟨127, sB, by decide⟩,
   ⟨0, sB, by decide⟩,
   ⟨127, (({ (srcUp sB 127 3 (capQ .run)) with sources := [(127, { Source.reset with refill := true, armed := true, cr := 10, acc := 300 })] } : State).setFlds [(F.FAB_RGN_DESC.STATE 1, 3), (F.FAB_RGN_XMAP.REGION 127, 1)]), ⟨by decide, by decide, only_refill rfl, by decide, by decide⟩⟩,
   ⟨127, (({ (srcUp sB 127 3 (capQ .run)) with sources := [(127, { Source.reset with refill := true, armed := true, cr := 9, acc := 300 })] } : State).setFlds [(F.FAB_RGN_DESC.STATE 1, 3), (F.FAB_RGN_XMAP.REGION 127, 1)]), ⟨by decide, by decide, only_refill rfl, by decide, by decide, by decide, by decide⟩⟩,
   ⟨127, (({ (srcUp sB 127 3 (capQ .reset)) with sources := [(127, { Source.reset with refill := true, armed := true, cr := 9, acc := 300 })] } : State).setFlds [(F.FAB_RGN_DESC.STATE 1, 3), (F.FAB_RGN_XMAP.REGION 127, 1)]), ⟨by decide, by decide, only_refill rfl, by decide, by decide, by decide⟩⟩⟩

/-- The hypotheses of every clause of Obligations.DrainAndFlush are met together. -/
theorem test_witness_DrainAndFlush :
  (∃ (k : Fin 64) (tick : Wide) (e : Half) (o : Half) (src : Nat) (f : Byte) (site : Nat) (ctx : Nat) (s : State), ((s.queue k).st = .run ∨ (s.queue k).st = .flush) ∧ ((s.queue k).pktAt (s.queue k).rptr = some (.fail tick e o src f site ctx)) ∧ (s.fld (F.FCQ_Q_CFG.FORM k) = 1) ∧ (¬(e = 0 ∧ o = 0)) ∧ (recordsGoOut s k 16) ∧ (s.fld (F.FCQ_Q_CFG.FIRST_N k) = 0 ∨ (s.source src).firsts < s.fld (F.FCQ_Q_CFG.FIRST_N k))) ∧
  (∃ (k : Fin 64) (s : State), ((s.queue k).st = .flush) ∧ ((s.queue k).ended = false) ∧ ((s.queue k).rptr = (s.queue k).wptr) ∧ ((s.queue k).pktAt (s.queue k).rptr = none) ∧ ((s.queue k).inFlight = []) ∧ (recordsGoOut s k 32) ∧ ((s.queue k).counted = false) ∧ (∀ x, (s.queue k).run x = none)) ∧
  (∃ (k : Fin 64) (s : State), ((s.queue k).st = .flush) ∧ ((s.queue k).ended = false) ∧ ((s.queue k).rptr = (s.queue k).wptr) ∧ ((s.queue k).pktAt (s.queue k).rptr = none) ∧ ((s.queue k).inFlight = []) ∧ (recordsGoOut s k 32) ∧ ((s.queue k).counted = true) ∧ ((s.queue k).writes = [])) ∧
  (∃ (k : Fin 64) (s : State), ((s.queue k).st = .flush) ∧ ((s.queue k).ended = false) ∧ ((s.queue k).rptr = (s.queue k).wptr) ∧ ((s.queue k).pktAt (s.queue k).rptr = none) ∧ ((s.queue k).inFlight = []) ∧ (recordsGoOut s k 32) ∧ ((s.queue k).counted = true) ∧ ((s.queue k).writes ≠ [])) ∧
  (∃ (k : Fin 64) (bs : List Byte) (rs : List (List Byte)) (s : State), (s.regsWf) ∧ ((s.queue k).writes = bs :: rs) ∧ (recordKind bs ≠ 4) ∧ (recordKind bs ≠ 5) ∧ (32 ≤ s.frArea k) ∧ (bs.length ≤ 32) ∧ ((s.reg (R.FCQ_FR_WTOTAL k)).toNat % s.frArea k + bs.length ≤ s.frArea k) ∧ (s.bit (F.FCQ_Q_CFG.WRAP k) = true ∨ (s.reg (R.FCQ_FR_WTOTAL k)).toNat + bs.length ≤ s.frArea k) ∧ (∀ m < 4, s.bit (F.FCQ_FR_MARK.VALID k m) = false) ∧ (memCheck s (drainNi k) (s.frBase k + 0x1000 + (s.reg (R.FCQ_FR_WTOTAL k)).toNat % s.frArea k) bs.length true = 0)) ∧
  (∃ (k : Fin 64) (s : State), ((s.queue k).writes = [])) ∧
  (∃ (k : Fin 64) (s : State), (s.fld (F.FCQ_Q_CFG.CP k) ≠ 0) ∧ (s.tick.toNat % 2 ^ (s.fld (F.FCQ_Q_CFG.CP k) + 10) = 0) ∧ ((s.queue k).st ≠ .off) ∧ (recordsGoOut s k 32)) ∧
  (∃ (k : Fin 64) (t0 : Wide) (s : State), ((s.queue k).leftAt = some t0) ∧ ((s.queue k).st = .run) ∧ (t0.toNat + 8 ≤ s.tick.toNat) ∧ (∀ x ∈ s.queueSources k, (s.source x).saturated = false)) ∧
  (∃ (k : Fin 64) (s : State), (s.regsWf) ∧ ((s.queue k).st = .flush) ∧ ((s.queue k).ended = true) ∧ ((s.queue k).writes = []) ∧ ((s.queue k).inFlight = []) ∧ ((s.queue k).rptr = (s.queue k).wptr) ∧ (s.bit (F.FCQ_Q_CFG.TAP_EN k) = true → (s.queue k).tptr = (s.queue k).wptr) ∧ (memCheck s (drainNi k) (s.frBase k) 64 true = 0)) ∧
  (∃ (k : Fin 64) (bs : List Byte) (s : State), (s.regsWf) ∧ (bs.length = 32) ∧ (s.bit (F.FCQ_Q_CFG.WRAP k) = true) ∧ (32 ≤ s.frArea k) ∧ (s.totalAhead k % s.frArea k = s.frArea k - 16) ∧ (∀ m < 4, s.bit (F.FCQ_FR_MARK.VALID k m) = false)) ∧
  (∃ (k : Fin 64) (bs : List Byte) (s : State), (s.regsWf) ∧ (bs.length = 32) ∧ (s.bit (F.FCQ_Q_CFG.WRAP k) = true) ∧ (32 ≤ s.frArea k) ∧ (s.totalAhead k % s.frArea k = s.frArea k - 16) ∧ (∀ m < 4, s.bit (F.FCQ_FR_MARK.VALID k m) = false) ∧ (s.bit (F.FCQ_Q_CFG.MIRROR k) = false)) ∧
  (∃ (k : Fin 64) (bs : List Byte) (s : State), (s.regsWf) ∧ (bs.length = 32) ∧ (s.bit (F.FCQ_Q_CFG.WRAP k) = true) ∧ (32 ≤ s.frArea k) ∧ (s.totalAhead k % s.frArea k = s.frArea k - 16) ∧ (∀ m < 4, s.bit (F.FCQ_FR_MARK.VALID k m) = false) ∧ (s.bit (F.FCQ_Q_CFG.MIRROR k) = true) ∧ (s.streamTakes (s.fld (F.FCQ_Q_CFG.MSQ k)) 12 = true)) ∧
  (∃ (k : Fin 64) (pad : List Byte) (bs : List Byte) (rs : List (List Byte)) (s : State), (s.regsWf) ∧ ((s.queue k).writes = (pad ++ bs) :: rs) ∧ (pad.length = 16) ∧ (bs.length = 32) ∧ (recordKind bs ≠ 4) ∧ (recordKind bs ≠ 5) ∧ (32 ≤ s.frArea k) ∧ ((s.reg (R.FCQ_FR_WTOTAL k)).toNat % s.frArea k = s.frArea k - 16) ∧ ((s.reg (R.FCQ_FR_WTOTAL k)).toNat + 48 < 2 ^ 64) ∧ (s.bit (F.FCQ_Q_CFG.WRAP k) = true) ∧ (∀ m < 4, s.bit (F.FCQ_FR_MARK.VALID k m) = false) ∧ (memCheck s (drainNi k) (s.frBase k + 0x1000) 32 true = 0) ∧ (dpaRange (s.frBase k + 0x1000) 32 ≠ some .hostMem)) :=
  ⟨⟨63, 77, 0x8001, 0, 127, 1, 3, 2, ((srcUp ((sB.setFlds [(F.FCQ_Q_CFG.FORM 63, 1)]).setFlds [(F.FCQ_Q_CFG.WRAP 63, 1), (F.FCQ_FR_SIZE.SIZE 63, 2)]) 127 63 { capQ .run with pkts := [⟨0, failPkt⟩], wptr := 4 })), by decide⟩,
   ⟨63, (srcUp ((sB).setFlds [(F.FCQ_Q_CFG.WRAP 63, 1), (F.FCQ_FR_SIZE.SIZE 63, 2)]) 127 63 { capQ .flush with counted := false }), ⟨by decide, by decide, by decide, by decide, by decide, by decide, by decide, fun _ => rfl⟩⟩,
   ⟨63, (srcUp ((sB).setFlds [(F.FCQ_Q_CFG.WRAP 63, 1), (F.FCQ_FR_SIZE.SIZE 63, 2)]) 127 63 { capQ .flush with counted := true }), by decide⟩,
   ⟨63, (srcUp ((sB).setFlds [(F.FCQ_Q_CFG.WRAP 63, 1), (F.FCQ_FR_SIZE.SIZE 63, 2)]) 127 63 { capQ .flush with counted := true, writes := [List.replicate 32 1] }), by decide⟩,
   ⟨63, (failPkt.bytes), [], ((memUp (sB.setFlds [(F.FCQ_FR_SIZE.SIZE 63, 2), (F.FCQ_FR_BASE.ADDR 63, 1)])).setQueue 63 { capQ .flush with writes := [failPkt.bytes] }), by decide⟩,
   ⟨0, sB, by decide⟩,
   ⟨63, (srcUp (((sB.withTick 2048).setFld (F.FCQ_Q_CFG.CP 63) 1).setFlds [(F.FCQ_Q_CFG.WRAP 63, 1), (F.FCQ_FR_SIZE.SIZE 63, 2)]) 127 63 (capQ .run)), by decide⟩,
   ⟨63, 0, (srcUp (sB.withTick 8) 127 63 { capQ .run with leftAt := some 0 }), by decide⟩,
   ⟨63, (memUp (sB.setQueue 63 { capQ .flush with ended := true })), by decide⟩,
   ⟨63, failPkt.bytes ++ List.replicate 16 0, (((memUp sB).setFlds [(F.FCQ_Q_CFG.WRAP 63, 1), (F.FCQ_FR_SIZE.SIZE 63, 2), (F.FCQ_Q_CFG.MIRROR 63, 0), (F.FCQ_SQ_CFG.EN 0, 1)]).setReg (R.FCQ_FR_WTOTAL 63) 4080), by decide⟩,
   ⟨63, failPkt.bytes ++ List.replicate 16 0, (((memUp sB).setFlds [(F.FCQ_Q_CFG.WRAP 63, 1), (F.FCQ_FR_SIZE.SIZE 63, 2), (F.FCQ_Q_CFG.MIRROR 63, 0), (F.FCQ_SQ_CFG.EN 0, 1)]).setReg (R.FCQ_FR_WTOTAL 63) 4080), by decide⟩,
   ⟨63, failPkt.bytes ++ List.replicate 16 0, (((memUp sB).setFlds [(F.FCQ_Q_CFG.WRAP 63, 1), (F.FCQ_FR_SIZE.SIZE 63, 2), (F.FCQ_Q_CFG.MIRROR 63, 1), (F.FCQ_SQ_CFG.EN 0, 1)]).setReg (R.FCQ_FR_WTOTAL 63) 4080), by decide⟩,
   ⟨63, (List.replicate 16 9), (List.replicate 32 1), [[5]], ((((memUp sB).setFlds [(F.FCQ_Q_CFG.WRAP 63, 1), (F.FCQ_FR_SIZE.SIZE 63, 2), (F.FCQ_Q_CFG.MIRROR 63, 0), (F.FCQ_SQ_CFG.EN 0, 1)]).setReg (R.FCQ_FR_WTOTAL 63) 4080).setQueue 63 { capQ .run with writes := [List.replicate 16 9 ++ List.replicate 32 1, [5]] }), by decide⟩⟩

/-- The hypotheses of every clause of Obligations.CaptureQueueControl are met together. -/
theorem test_witness_CaptureQueueControl :
  (∃ (k : Fin 64) (s : State), (s.regsWf) ∧ ((s.queue k).st = .ready)) ∧
  (∃ (k : Fin 64) (v : Wide) (s : State), (s.regsWf) ∧ ((s.queue k).st = .ready) ∧ (v.getLsbD 31 = false)) ∧
  (∃ (reg : FcqReg) (s : State), ((s.queue (s.fcqTarget reg).2).st = .run ∨ (s.queue (s.fcqTarget reg).2).st = .flush)) ∧
  (∃ (req : Requester) (k : Fin 64) (s : State), (s.regsWf) ∧ (s.allows req .fcq = true) ∧ ((s.queue k).st = .run ∨ (s.queue k).st = .ready) ∧ (recordsGoOut s k 32)) ∧
  (∃ (req : Requester) (k : Fin 64) (s : State), (s.regsWf) ∧ (s.allows req .fcq = true) ∧ ((s.queue k).st = .ready)) ∧
  (∃ (req : Requester) (k : Fin 64) (s : State), (s.regsWf) ∧ (s.allows req .fcq = true) ∧ (s.bit (F.FCQ_Q_CFG.TAP_EN k) = true)) ∧
  (∃ (req : Requester) (k : Fin 64) (s : State), (s.regsWf) ∧ (s.allows req .fcq = true) ∧ ((s.queue k).st = .run ∨ (s.queue k).st = .ready)) ∧
  (∃ (req : Requester) (s : State), (s.regsWf) ∧ (s.allows req .fcq = true)) ∧
  (∃ (req : Requester) (k : Fin 64) (s : State), (s.regsWf) ∧ (s.allows req .fcq = false ∨ (s.queue k).st = .flush)) ∧
  (∃ (k : Fin 64) (c1 : Word) (c2 : Word) (s : State), (s.regsWf) ∧ (c1 ≠ c2) ∧ ((s.queue k).st = .run)) ∧
  (∃ (k : Fin 64) (s : State), ((s.queue k).st = .reset) ∧ ((s.queue k).back = .run)) :=
  ⟨⟨63, (sB.setQueue 63 (capQ .ready)), by decide⟩,
   ⟨63, 0, ((sB.setQueue 63 (capQ .ready)).setFld (F.FCQ_Q_CFG.EN 63) 1), by decide⟩,
   ⟨.srcCred 127, (srcUp sB 127 63 (capQ .flush)), by decide⟩,
   ⟨.host, 63, (srcUp ((sB).setFlds [(F.FCQ_Q_CFG.WRAP 63, 1), (F.FCQ_FR_SIZE.SIZE 63, 2)]) 127 63 (capQ .ready)), by decide⟩,
   ⟨.host, 63, (srcUp sB 127 63 { capQ .ready with pkts := [⟨0, failPkt⟩], wptr := 4 }), by decide⟩,
   ⟨.host, 0, (sB.setFlds [((F.FCQ_Q_CFG.TAP_EN ((0 : Fin 64))), 1)]), by decide⟩,
   ⟨.host, 63, ((srcUp sB 127 63 (capQ .run)).setReg (R.FCQ_FR_WTOTAL 63) 0x1234), by decide⟩,
   ⟨.host, sB, by decide⟩,
   ⟨.host, 63, (sB.setQueue 63 (capQ .flush)), by decide⟩,
   ⟨63, 4, 8, (srcUp sB 127 63 { capQ .run with pkts := [⟨0, failPkt⟩], wptr := 4 }), by decide⟩,
   ⟨63, (srcUp sB 127 63 { capQ .reset with back := .run, discarded := 3 }), by decide⟩⟩

/-- The hypotheses of every clause of Obligations.StreamQueues are met together. -/
theorem test_witness_StreamQueues :
  (∃ (j : Fin 8) (ws : List Word) (s : State), (s.regsWf) ∧ (wfItems ws = true) ∧ (s.bit (F.FCQ_SQ_CFG.EN j) = true) ∧ ((s.stream j).reset = false) ∧ ((s.stream j).items.length + ws.length ≤ 4096) ∧ ((s.stream j).filling = 0) ∧ ((s.stream j).dropping = false)) ∧
  (∃ (j : Fin 8) (ws : List Word) (s : State), (wfItems ws = true) ∧ (s.streamRoom j ws.length = true) ∧ ((s.stream j).filling + ws.length ≤ 1024) ∧ ((s.stream j).dropping = false)) ∧
  (∃ (j : Fin 8) (ws : List Word) (s : State), (wfItems ws = true) ∧ (s.streamRoom j ws.length = true) ∧ ((s.stream j).filling + ws.length ≤ 1024) ∧ ((s.stream j).dropping = true)) ∧
  (∃ (j : Fin 8) (ws : List Word) (s : State), (wfItems ws = true) ∧ (s.bit (F.FCQ_SQ_CFG.EN j) = false ∨ (s.stream j).reset = true ∨ 4096 < (s.stream j).items.length + ws.length)) ∧
  (∃ (j : Fin 8) (i : StreamItem) (is : List StreamItem) (s : State), (s.bit (F.FCQ_SQ_CFG.CONSUMER j) = false) ∧ (s.streamReadable j = true) ∧ ((s.stream j).items = i :: is) ∧ ((s.stream j).high = true → s.fld (F.FCQ_SQ_WM.LO j) < is.length) ∧ ((s.stream j).high = false → is.length < s.fld (F.FCQ_SQ_WM.HI j))) ∧
  (∃ (j : Fin 8) (s : State), (s.streamReadable j = false ∨ s.bit (F.FCQ_SQ_CFG.CONSUMER j) = true)) ∧
  (∃ (req : Requester) (j : Fin 8) (s : State), (s.allows req .fcq = true) ∧ (s.bit (F.FCQ_SQ_CFG.EN j) = true) ∧ ((s.stream j).reset = false) ∧ ((s.stream j).readIn ≠ 0) ∧ ((s.stream j).high = true → s.fld (F.FCQ_SQ_WM.LO j) < (afterPacket (s.stream j).items).length) ∧ ((s.stream j).high = false → (afterPacket (s.stream j).items).length < s.fld (F.FCQ_SQ_WM.HI j))) ∧
  (∃ (req : Requester) (j : Fin 8) (s : State), (s.regsWf) ∧ (s.allows req .fcq = true) ∧ (s.bit (F.FCQ_SQ_CFG.EN j) = true) ∧ ((s.stream j).reset = false) ∧ (∀ l < 16, ∀ v, (s.lane l).waiting = some v → v.queue ≠ j)) ∧
  (∃ (req : Requester) (s : State), (s.allows req .fcq = false)) ∧
  (∃ (j : Fin 8) (ptr : PtrId) (c1 : Word) (c2 : Word) (s : State), (s.regsWf) ∧ (c1 ≠ c2) ∧ (ptr ≠ .tptr) ∧ (s.bit (F.FCQ_SQ_CFG.EN j) = true) ∧ ((s.stream j).reset = false)) ∧
  (∃ (v : Word) (s : State), (s.regsWf) ∧ (v.toNat % 2 ^ 13 < v.toNat / 2 ^ 16 % 2 ^ 13) ∧ (v.toNat / 2 ^ 16 % 2 ^ 13 ≤ 4096)) ∧
  (∃ (v : Word) (s : State), (s.regsWf) ∧ (v.toNat / 2 ^ 16 % 2 ^ 13 ≤ v.toNat % 2 ^ 13)) :=
  ⟨⟨7, [1, 2], (sB.setFlds [(F.FCQ_SQ_CFG.EN 7, 1),(F.FCQ_SQ_WM.HI 7, 2)]), by decide⟩,
   ⟨7, [1, 2], (sB.setFlds [(F.FCQ_SQ_CFG.EN 7, 1),(F.FCQ_SQ_WM.HI 7, 2)]), by decide⟩,
   ⟨7, [1, 2], ((sB.setFlds [(F.FCQ_SQ_CFG.EN 7, 1),(F.FCQ_SQ_WM.HI 7, 2)]).setStream 7 { StreamQueue.initial with filling := 2, dropping := true }), by decide⟩,
   ⟨7, [1, 2], sB, by decide⟩,
   ⟨7, ⟨5, true, false⟩, [⟨6, false, true⟩], ((sB.setFlds [(F.FCQ_SQ_CFG.EN 7, 1),(F.FCQ_SQ_WM.HI 7, 2)]).setStream 7 { StreamQueue.initial with items := [⟨5, true, false⟩, ⟨6, false, true⟩], wptr := 2 }), by decide⟩,
   ⟨7, sB, by decide⟩,
   ⟨.host, 7, ((sB.setFlds [(F.FCQ_SQ_CFG.EN 7, 1),(F.FCQ_SQ_WM.HI 7, 2)]).setStream 7 { StreamQueue.initial with items := [⟨6, false, true⟩, ⟨5, true, false⟩], wptr := 3, readIn := 1 }), by decide⟩,
   ⟨.host, 7, ((sB.setFlds [(F.FCQ_SQ_CFG.EN 7, 1)]).setStream 7 { StreamQueue.initial with items := [⟨6, false, true⟩, ⟨5, true, false⟩], wptr := 3 }), by decide⟩,
   ⟨.host, State.reset, by decide⟩,
   ⟨7, .rptr, 1, 2, ((sB.setFlds [(F.FCQ_SQ_CFG.EN 7, 1)]).setStream 7 { StreamQueue.initial with items := [⟨6, false, true⟩, ⟨5, true, false⟩], wptr := 3 }), by decide⟩,
   ⟨0x10000FFF, ((sB.setFlds [(F.FCQ_SQ_CFG.EN 7, 1)]).setStream 7 { StreamQueue.initial with items := [⟨6, false, true⟩, ⟨5, true, false⟩], wptr := 3 }), by decide⟩,
   ⟨0, sB, by decide⟩⟩

/-- The hypotheses of every clause of Obligations.SolverCommands are met together. -/
theorem test_witness_SolverCommands :
  (∃ (l : Fin 16) (s : State), (s.regsWf) ∧ (slvTakes s) ∧ ((s.lane l).map.isSome = true) ∧ ((s.lane l).collect = false)) ∧
  (∃ (l : Fin 16) (m : LaneMap) (s : State), (s.regsWf) ∧ (slvTakes s) ∧ ((s.lane l).collect = false) ∧ (memCheck s (solverNi l) (s.reg R.SLV_CMD_ARG).toNat 2368 false = 0) ∧ ((s.reg R.SLV_CMD_ARG).toNat % 64 = 0) ∧ (parseMap (s.dpaBytes (s.reg R.SLV_CMD_ARG).toNat 2368) = some m)) ∧
  (∃ (g : Fin 4096) (cnt : Fin 4096) (s : State), (s.regsWf) ∧ (slvTakes s) ∧ (∀ r ∈ regionRange g cnt, (s.srgn r).st = .free ∧ (s.readDesc r 0).1 = 0)) ∧
  (∃ (g : Fin 4096) (cnt : Fin 4096) (s : State), (s.regsWf) ∧ (slvTakes s) ∧ (∃ r ∈ regionRange g cnt, (s.srgn r).st = .opened)) ∧
  (∃ (g : Fin 4096) (cnt : Fin 4096) (s : State), (s.regsWf) ∧ (slvTakes s) ∧ (∃ r ∈ regionRange g cnt, (s.srgn r).st = .closed)) ∧
  (∃ (g : Fin 4096) (cnt : Fin 4096) (s : State), (s.regsWf) ∧ (slvTakes s) ∧ (∀ r ∈ regionRange g cnt, (s.srgn r).st = .free)) ∧
  (∃ (g : Fin 4096) (cnt : Fin 4096) (s : State), (s.regsWf) ∧ (slvTakes s) ∧ (∃ r ∈ regionRange g cnt, (s.srgn r).st = .queued ∨ (s.srgn r).st = .solving ∨ (s.srgn r).st = .replay)) ∧
  (∃ (g : Fin 4096) (cnt : Fin 4096) (s : State), (s.regsWf) ∧ (slvTakes s) ∧ (mwf (fun _ => SlvRgn.reset) s.slv.rgns = true) ∧ (∃ r ∈ regionRange g cnt, (s.srgn r).st = .opened ∨ (s.srgn r).st = .closed ∨ (s.srgn r).st = .solved)) ∧
  (∃ (g : Fin 4096) (s : State), (s.regsWf) ∧ (slvTakes s) ∧ ((s.srgn g).st = .solved) ∧ ((s.readDesc g 0).1 = 0) ∧ ((s.readDesc g 0).2.lane = (s.srgn g).desc.lane) ∧ ((s.reg R.SLV_CMD_ARG).getLsbD 0 = false) ∧ ((s.srgn g).storeFits (s.readDesc g 0).2 = true)) ∧
  (∃ (g : Fin 4096) (s : State), (s.regsWf) ∧ (slvTakes s) ∧ ((s.srgn g).st = .solved) ∧ ((s.readDesc g 0).1 = 0) ∧ ((s.readDesc g 0).2.lane = (s.srgn g).desc.lane) ∧ ((s.reg R.SLV_CMD_ARG).getLsbD 0 = false) ∧ ((s.srgn g).storeFits (s.readDesc g 0).2 = false)) ∧
  (∃ (s : State), (s.bit F.SLV_CMD_STAT.BUSY = true)) ∧
  (∃ (o : SlvOutcome) (s : State), (s.regsWf) ∧ (s.slv.cmd = some o)) :=
  ⟨⟨15, ((slvUp sB).setLane 15 { SlvLane.reset with map := some laneMap, taps := [⟨63, 3, 50, 1⟩] }), by decide⟩,
   ⟨15, laneMap, (((memUp (slvUp sB)).setFld F.MEMC_MAP.GRAN 1).setDpaBytes 0 mapBytes), by decide +kernel⟩,
   ⟨4094, 5, (memUp (slvUp sB)), by decide⟩,
   ⟨4094, 5, (((slvUp sB).setSrgn 4094 ({ SlvRgn.reset with st := .opened, desc := desc 15 })).setSrgn 4095 ({ SlvRgn.reset with st := .closed, desc := desc 15 })), by decide⟩,
   ⟨4094, 5, (((slvUp sB).setSrgn 4094 ({ SlvRgn.reset with st := .opened, desc := desc 15 })).setSrgn 4095 ({ SlvRgn.reset with st := .closed, desc := desc 15 })), by decide⟩,
   ⟨4094, 5, ((slvUp sB).setSrgn 4093 ({ SlvRgn.reset with st := .closed, desc := desc 15 })), by decide⟩,
   ⟨4094, 5, ((((slvUp sB).setSrgn 4094 ({ SlvRgn.reset with st := .solving, desc := desc 15 })).setSrgn 4095 ({ SlvRgn.reset with st := .replay, desc := desc 15 })).setLane 15 { SlvLane.reset with solving := some (4094, 0), replays := [⟨4095, none, 0, [], false⟩] }), by decide⟩,
   ⟨4094, 5, (((slvUp sB).setSrgn 4094 ({ SlvRgn.reset with st := .opened, desc := desc 15 })).setSrgn 4095 ({ SlvRgn.reset with st := .solved, desc := desc 15 })), by decide⟩,
   ⟨4095, ((memUp (slvUp sB)).setSrgn 4095 ({ SlvRgn.reset with st := .solved, prev := some RgnDesc.zero, kept := true })), by decide⟩,
   ⟨4095, ((memUp (slvUp sB)).setSrgn 4095 ({ SlvRgn.reset with st := .solved, prev := none, kept := true })), by decide⟩,
   ⟨(sB.setFlds [(F.SLV_CMD_STAT.BUSY, 1)]), by decide⟩,
   ⟨⟨0x1234, 7, some 4095⟩, ({ sB with slv := { sB.slv with cmd := some ⟨0x1234, 7, some 4095⟩ } } : State).setFld F.SLV_CMD_STAT.BUSY 1, by decide⟩⟩

/-- The hypotheses of every clause of Obligations.SolverRuns are met together. -/
theorem test_witness_SolverRuns :
  (∃ (l : Fin 16) (g : Nat) (gs : List Nat) (s : State), ((s.lane l).solving = none) ∧ ((s.lane l).queue = g :: gs)) ∧
  (∃ (l : Fin 16) (g : Nat) (start : Wide) (s : State) (a : Answer), (s.regsWf) ∧ ((s.lane l).solving = some (g, start)) ∧ ((s.lane l).waiting = none) ∧ ((s.srgn g).desc.resultAddr ≠ 0) ∧ (s.bit F.SLV_CFG.RSQ_EN = false) ∧ (s.bit F.HIF_EVQ_CTRL.EN = false) ∧ (a = solveRegion (s.srgn g).desc (s.srgn g).cells (s.srgn g).mustRows (s.srgn g).mustCols (s.srgn g).early
        ((s.srgn g).inputLoss || (s.srgn g).storeLoss)) ∧ (memCheck s (solverNi l) (s.srgn g).desc.resultAddr (s.slvRecord l g start a).length true = 0)) ∧
  (∃ (l : Fin 16) (v : SlvResult) (s : State), (s.regsWf) ∧ ((s.lane l).waiting = some v) ∧ (v.queue < 8) ∧ (s.bit (F.FCQ_SQ_CFG.EN v.queue) = true) ∧ ((s.stream v.queue).reset = false) ∧ (s.bit F.HIF_EVQ_CTRL.EN = false) ∧ (v.bytes ≠ []) ∧ (v.bytes.length % 4 = 0) ∧ ((s.stream v.queue).items.length + v.bytes.length / 4 ≤ 4096) ∧ ((s.stream v.queue).filling = 0)) ∧
  (∃ (l : Fin 16) (v : SlvResult) (s : State), (s.regsWf) ∧ ((s.lane l).waiting = some v) ∧ (v.queue < 8) ∧ (s.bit (F.FCQ_SQ_CFG.EN v.queue) = true) ∧ ((s.stream v.queue).reset = false) ∧ (s.bit F.HIF_EVQ_CTRL.EN = false) ∧ (4096 < (s.stream v.queue).items.length + v.bytes.length / 4)) ∧
  (∃ (l : Fin 16) (v : SlvResult) (s : State), (s.regsWf) ∧ ((s.lane l).waiting = some v) ∧ (v.queue < 8) ∧ (s.bit (F.FCQ_SQ_CFG.EN v.queue) = true) ∧ ((s.stream v.queue).reset = false) ∧ (s.bit F.HIF_EVQ_CTRL.EN = false) ∧ ((s.stream v.queue).filling ≠ 0)) ∧
  (∃ (l : Fin 16) (v : SlvResult) (s : State), (s.regsWf) ∧ ((s.lane l).waiting = some v) ∧ (v.queue < 8) ∧ (s.bit (F.FCQ_SQ_CFG.EN v.queue) = false) ∧ (s.bit F.HIF_EVQ_CTRL.EN = false)) ∧
  (∃ (l : Fin 16) (r : SlvReplay) (rs : List SlvReplay) (s : State), ((s.lane l).replays = r :: rs) ∧ (s.replayStatus l 0 r.srcs = 0) ∧ (r.lost = false) ∧ (∀ q ∈ r.srcs, s.bit (F.FCQ_FR_MARK.VALID q.tap.queue r.mark) = true)) ∧
  (∃ (l : Fin 16) (st : Half) (r : SlvReplay) (rs : List SlvReplay) (s : State), ((s.lane l).replays = r :: rs) ∧ (s.replayStatus l st.toNat r.srcs ≠ 0) ∧ (st.toNat ≠ C.MEM_UE)) ∧
  (∃ (l : Fin 16) (r : SlvReplay) (rs : List SlvReplay) (s : State), ((s.lane l).replays = r :: rs) ∧ (s.replayStatus l 0 r.srcs = 0) ∧ (r.lost = true ∨ ∃ q ∈ r.srcs, s.bit (F.FCQ_FR_MARK.VALID q.tap.queue r.mark) = false)) ∧
  (∃ (s : State), (s.regsWf)) ∧
  (∃ (s : State), (s.regsWf) ∧ (∀ e ∈ s.slv.lanes, e.2.map = none) ∧ (∀ e ∈ s.slv.rgns, e.2.st = .free)) ∧
  (∃ (s : State), (s.regsWf) ∧ (∃ e ∈ s.slv.lanes, e.2.map.isSome = true)) ∧
  (∃ (l : Fin 16) (s : State), (s.regsWf) ∧ ((s.lane l).collect = false)) ∧
  (∃ (l : Fin 16) (s : State), (s.regsWf) ∧ ((s.lane l).collect = true)) :=
  ⟨⟨15, 4095, [7], (((slvUp sB).setSrgn 4095 ({ SlvRgn.reset with st := .queued, desc := desc 15 })).setLane 15 { SlvLane.reset with queue := [4095, 7] }), by decide⟩,
   ⟨15, 4095, 0, (((memUp (slvUp sB)).setSrgn 4095 ({ SlvRgn.reset with st := .solving, desc := desc 15, cells := [3, 65541, 65550] })).setLane 15 { SlvLane.reset with solving := some (4095, 0) }), solveRegion (((((memUp (slvUp sB)).setSrgn 4095 ({ SlvRgn.reset with st := .solving, desc := desc 15, cells := [3, 65541, 65550] })).setLane 15 { SlvLane.reset with solving := some (4095, 0) })).srgn (4095)).desc (((((memUp (slvUp sB)).setSrgn 4095 ({ SlvRgn.reset with st := .solving, desc := desc 15, cells := [3, 65541, 65550] })).setLane 15 { SlvLane.reset with solving := some (4095, 0) })).srgn (4095)).cells (((((memUp (slvUp sB)).setSrgn 4095 ({ SlvRgn.reset with st := .solving, desc := desc 15, cells := [3, 65541, 65550] })).setLane 15 { SlvLane.reset with solving := some (4095, 0) })).srgn (4095)).mustRows (((((memUp (slvUp sB)).setSrgn 4095 ({ SlvRgn.reset with st := .solving, desc := desc 15, cells := [3, 65541, 65550] })).setLane 15 { SlvLane.reset with solving := some (4095, 0) })).srgn (4095)).mustCols (((((memUp (slvUp sB)).setSrgn 4095 ({ SlvRgn.reset with st := .solving, desc := desc 15, cells := [3, 65541, 65550] })).setLane 15 { SlvLane.reset with solving := some (4095, 0) })).srgn (4095)).early ((((((memUp (slvUp sB)).setSrgn 4095 ({ SlvRgn.reset with st := .solving, desc := desc 15, cells := [3, 65541, 65550] })).setLane 15 { SlvLane.reset with solving := some (4095, 0) })).srgn (4095)).inputLoss || (((((memUp (slvUp sB)).setSrgn 4095 ({ SlvRgn.reset with st := .solving, desc := desc 15, cells := [3, 65541, 65550] })).setLane 15 { SlvLane.reset with solving := some (4095, 0) })).srgn (4095)).storeLoss), by decide⟩,
   ⟨15, ⟨7, 4095, 1, [1, 2, 3, 4, 5, 6, 7, 8]⟩, ((((slvUp sB).setFlds [(F.SLV_CFG.RSQ, 7), (F.FCQ_SQ_CFG.EN 7, 1)]).setSrgn 4095 ({ SlvRgn.reset with st := .solving, desc := desc 15 })).setLane 15 { SlvLane.reset with solving := none, waiting := some ⟨7, 4095, 1, [1, 2, 3, 4, 5, 6, 7, 8]⟩ }), by decide⟩,
   ⟨15, ⟨7, 4095, 1, [1, 2, 3, 4, 5, 6, 7, 8]⟩, (((((slvUp sB).setFlds [(F.SLV_CFG.RSQ, 7), (F.FCQ_SQ_CFG.EN 7, 1)]).setStream 7 { StreamQueue.initial with items := fullItems }).setSrgn 4095 ({ SlvRgn.reset with st := .solving, desc := desc 15 })).setLane 15 { SlvLane.reset with solving := none, waiting := some ⟨7, 4095, 1, [1, 2, 3, 4, 5, 6, 7, 8]⟩ }), ⟨by decide, by decide, by decide, by decide, by decide, by decide, by refine no_room ?_ ?_; exact rfl; decide⟩⟩,
   ⟨15, ⟨7, 4095, 1, [1, 2, 3, 4, 5, 6, 7, 8]⟩, (((((slvUp sB).setFlds [(F.SLV_CFG.RSQ, 7), (F.FCQ_SQ_CFG.EN 7, 1)]).setStream 7 { StreamQueue.initial with filling := 1 }).setSrgn 4095 ({ SlvRgn.reset with st := .solving, desc := desc 15 })).setLane 15 { SlvLane.reset with solving := none, waiting := some ⟨7, 4095, 1, [1, 2, 3, 4, 5, 6, 7, 8]⟩ }), by decide⟩,
   ⟨15, ⟨7, 4095, 1, [1, 2, 3, 4, 5, 6, 7, 8]⟩, ((((slvUp sB).setFlds [(F.SLV_CFG.RSQ, 7)]).setSrgn 4095 ({ SlvRgn.reset with st := .solving, desc := desc 15 })).setLane 15 { SlvLane.reset with solving := none, waiting := some ⟨7, 4095, 1, [1, 2, 3, 4, 5, 6, 7, 8]⟩ }), by decide⟩,
   ⟨15, ⟨4095, none, 0, [⟨⟨63, 3, 50, 1⟩, 0, 0⟩], false⟩, [], ((((slvUp sB).setFld (F.FCQ_FR_MARK.VALID 63 0) 1).setSrgn 4095 ({ SlvRgn.reset with st := .replay, desc := desc 15 })).setLane 15 { SlvLane.reset with replays := [⟨4095, none, 0, [⟨⟨63, 3, 50, 1⟩, 0, 0⟩], false⟩] }), by decide⟩,
   ⟨15, 0, ⟨4095, none, 0, [⟨⟨63, 3, 50, 1⟩, 0, 16⟩], false⟩, [], (((slvUp sB).setSrgn 4095 ({ SlvRgn.reset with st := .replay, desc := desc 15 })).setLane 15 { SlvLane.reset with replays := [⟨4095, none, 0, [⟨⟨63, 3, 50, 1⟩, 0, 16⟩], false⟩] }), by decide⟩,
   ⟨15, ⟨4095, none, 0, [⟨⟨63, 3, 50, 1⟩, 0, 0⟩], true⟩, [], (((slvUp sB).setSrgn 4095 ({ SlvRgn.reset with st := .replay, desc := desc 15 })).setLane 15 { SlvLane.reset with replays := [⟨4095, none, 0, [⟨⟨63, 3, 50, 1⟩, 0, 0⟩], true⟩] }), by decide⟩,
   ⟨sB, by decide⟩,
   ⟨sB, by decide⟩,
   ⟨((slvUp sB).setLane 15 { SlvLane.reset with map := some laneMap }), by decide⟩,
   ⟨15, sB, by decide⟩,
   ⟨15, ((slvUp sB).setLane 15 { SlvLane.reset with map := some laneMap, collect := true }), by decide⟩⟩

/-- The hypotheses of every clause of Obligations.CollectorMapsFails are met together. -/
theorem test_witness_CollectorMapsFails :
  (∃ (l : Fin 16) (k : Fin 64) (tick : Wide) (src : Nat) (j : Fin 16) (f : Byte) (site : Nat) (ctx : Nat) (e : TapEntry) (m : LaneMap) (p : MapPin) (g : MapSeg) (s : State) (i : Nat) (row : Nat) (col : Nat) (rg : Nat), (s.regsWf) ∧ (s.tapPacket l k = some (.fail tick (1 <<< j.val) 0 src f site ctx, e, m)) ∧ (f.getLsbD 0 = true) ∧ (f.getLsbD 1 = false) ∧ (f.getLsbD 2 = false) ∧ (f.getLsbD 4 = false) ∧ (m.pin src 0 = some p) ∧ (e.t0 ≤ tick.toNat) ∧ (m.seg ((tick.toNat - e.t0) / e.rep) = some g) ∧ (i = (tick.toNat - e.t0) / e.rep - g.fStart) ∧ (row = (g.row0 + i / g.fpr * g.rstep) % 65536) ∧ (col = (g.col0 + i % g.fpr * g.cstep + p.colOfs + j.val * p.uiCstep) % 16384) ∧ (rg = g.rgnBase + p.rgnOfs) ∧ (rg ≤ 4095) ∧ ((s.srgn rg).st = .opened) ∧ ((s.srgn rg).desc.lane = l.val) ∧ (row ≤ (s.srgn rg).desc.rowsM1) ∧ (col ≤ (s.srgn rg).desc.colsM1)) ∧
  (∃ (l : Fin 16) (k : Fin 64) (tick : Wide) (src : Nat) (j : Fin 16) (f : Byte) (site : Nat) (ctx : Nat) (e : TapEntry) (m : LaneMap) (p : MapPin) (g : MapSeg) (s : State) (i : Nat) (row : Nat) (col : Nat) (rg : Nat), (s.regsWf) ∧ (s.tapPacket l k = some (.fail tick (1 <<< j.val) 0 src f site ctx, e, m)) ∧ (f.getLsbD 0 = true) ∧ (f.getLsbD 1 = false) ∧ (f.getLsbD 2 = false) ∧ (f.getLsbD 4 = false) ∧ (m.pin src 0 = some p) ∧ (e.t0 ≤ tick.toNat) ∧ (m.seg ((tick.toNat - e.t0) / e.rep) = some g) ∧ (i = (tick.toNat - e.t0) / e.rep - g.fStart) ∧ (row = (g.row0 + i / g.fpr * g.rstep) % 65536) ∧ (col = (g.col0 + i % g.fpr * g.cstep + p.colOfs + j.val * p.uiCstep) % 16384) ∧ (rg = g.rgnBase + p.rgnOfs) ∧ ((s.srgn rg).st ≠ .opened)) ∧
  (∃ (l : Fin 16) (k : Fin 64) (tick : Wide) (src : Nat) (w : Half) (f : Byte) (site : Nat) (ctx : Nat) (e : TapEntry) (m : LaneMap) (s : State), (s.regsWf) ∧ (s.tapPacket l k = some (.fail tick w 0 src f site ctx, e, m)) ∧ (w ≠ 0) ∧ (f.getLsbD 0 = true) ∧ (f.getLsbD 1 = false) ∧ (f.getLsbD 2 = false) ∧ (f.getLsbD 4 = false) ∧ (m.pin src 0 = none)) ∧
  (∃ (l : Fin 16) (k : Fin 64) (t1 : Wide) (t2 : Wide) (n : Nat) (src : Nat) (cause : Nat) (site : Nat) (ui : Nat) (e : TapEntry) (m : LaneMap) (s : State), (s.tapPacket l k = some (.sat t1 n src cause site t2 ui, e, m))) ∧
  (∃ (l : Fin 16) (k : Fin 64) (tk : Wide) (n : Nat) (site : Nat) (e : TapEntry) (m : LaneMap) (s : State), (s.tapPacket l k = some (.reset tk n site, e, m))) ∧
  (∃ (g : Fin 4096) (u : StoreUnit) (s : State), (s.regsWf) ∧ ((s.srgn g).spilled = false) ∧ ((s.srgn g).holds u = true)) :=
  ⟨⟨15, 63, 77, 127, 15, 1, 3, 2, ⟨63, 3, 50, 1⟩, laneMap, ⟨127, 0, 5, 0, 1⟩, ⟨0, 1000, 16, 5, 1, 0, 16, 4090⟩, ((tapUp sB 15 (.fail 77 (1 <<< (15 : Fin 16).val) 0 127 1 3 2)).setSrgn 4095 ({ SlvRgn.reset with st := .opened, desc := { desc 15 with colsM1 := 255 } })), 27, 6, 191, 4095, by decide⟩,
   ⟨15, 63, 77, 127, 15, 1, 3, 2, ⟨63, 3, 50, 1⟩, laneMap, ⟨127, 0, 5, 0, 1⟩, ⟨0, 1000, 16, 5, 1, 0, 16, 4090⟩, ((tapUp sB 15 (.fail 77 (1 <<< (15 : Fin 16).val) 0 127 1 3 2)).setSrgn 4095 ({ SlvRgn.reset with st := .closed, desc := desc 15 })), 27, 6, 191, 4095, by decide⟩,
   ⟨15, 63, 77, 126, 0x8001, 1, 3, 2, ⟨63, 3, 50, 1⟩, laneMap, (tapUp sB 15 (.fail 77 0x8001 0 126 1 3 2)), by decide⟩,
   ⟨15, 63, 60, 70, 3, 127, 1, 3, 4, ⟨63, 3, 50, 1⟩, laneMap, ((tapUp sB 15 (.sat 60 3 127 1 3 70 4)).setSrgn 4095 ({ SlvRgn.reset with st := .opened, desc := { desc 15 with colsM1 := 255 } })), by decide⟩,
   ⟨15, 63, 60, 3, 3, ⟨63, 3, 50, 1⟩, laneMap, ((tapUp sB 15 (.reset 60 3 3)).setSrgn 4095 ({ SlvRgn.reset with st := .opened, desc := { desc 15 with colsM1 := 255 } })), by decide⟩,
   ⟨4095, .rowCells 1, ((slvUp sB).setSrgn 4095 ({ SlvRgn.reset with st := .solving, desc := desc 15, cells := [3, 65541, 65550] })), by decide⟩⟩

/-- The hypotheses of every clause of Obligations.AttachedMemoryReadsBack are met together. -/
theorem test_witness_AttachedMemoryReadsBack :
  (∃ (s : State) (a : Nat) (b : Nat), (a < 0x4000000000) ∧ (b < 0x4000000000) ∧ (mwf memDefault s.mem = true)) ∧
  (∃ (s : State) (a : Nat) (b : Nat), (a < 0x4000000000) ∧ (b < 0x4000000000) ∧ (mwf memDefault s.mem = true) ∧ (b ≠ a)) :=
  ⟨⟨sB, 0x3FFFFFFFFF, 0, by decide⟩,
   ⟨sB, 0x3FFFFFFFFF, 0, by decide⟩⟩

/-- The hypotheses of every clause of Obligations.NetworkCarriesRequests are met together. -/
theorem test_witness_NetworkCarriesRequests :
  (∃ (ni : Fin 177) (tag : Byte) (w : Option (List Byte)) (a : BitVec 48) (n : Fin 257) (r : DpaRange) (x : Wide) (alt : Bool) (s : State), (wfRequest w n = true) ∧ (s.nocWaits ni tag.toNat a.toNat n = false) ∧ (memCheck s ni a.toNat n w.isSome = 0) ∧ (dpaRange a.toNat n = some r) ∧ (s.injectRoute ni (targetNi s a.toNat r) = some (x, alt))) ∧
  (∃ (ni : Fin 177) (dst : Nat) (tag : Byte) (a : BitVec 48) (len : Nat) (u : Nat) (k : ReqKind) (x : Wide) (alt : Bool), (1 ≤ len) ∧ (len ≤ 256) ∧ (u < 8)) ∧
  (∃ (ni : Fin 177) (tag : Byte) (w : Option (List Byte)) (a : BitVec 48) (n : Fin 257) (s : State), (wfRequest w n = true) ∧ (s.nocWaits ni tag.toNat a.toNat n = false) ∧ (memCheck s ni a.toNat n w.isSome = C.NOC_ADDR_PROTECTED)) ∧
  (∃ (ni : Fin 177) (tag : Byte) (w : Option (List Byte)) (a : BitVec 48) (n : Fin 257) (r : DpaRange) (s : State), (s.regsWf) ∧ (wfRequest w n = true) ∧ (s.nocWaits ni tag.toNat a.toNat n = false) ∧ (memCheck s ni a.toNat n w.isSome = 0) ∧ (dpaRange a.toNat n = some r) ∧ (routeValid (s.route ni (targetNi s a.toNat r) false) = false) ∧ (routeValid (s.route ni (targetNi s a.toNat r) true) = false)) ∧
  (∃ (q : NocReq) (s : State), (s.noc.reqs = [q]) ∧ (q.unserved = true) ∧ (q.stamp = none) ∧ (q.pkt.poison = false) ∧ (q.snoop = false) ∧ (q.pkt.lost = false) ∧ (q.pkt.ahead.length ≤ 18) ∧ (∀ r ∈ q.pkt.ahead, s.withdrawn r = false) ∧ ((s.attachedDpa q.addr q.len).isSome = true)) ∧
  (∃ (c : Fin 8) (cycles : Half) (q : NocReq) (a : Nat) (s : State), (s.noc.filter = []) ∧ ((s.ageHeads cycles.toNat).nextAt c = some (q, a))) ∧
  (∃ (s : State), (s.noc.scrubs = [])) ∧
  (∃ (c : Nat) (l : Nat) (n : Nat) (fs : List MemFault) (s : State), (s.noc.scrubs = [(c, l, fs, n)]) ∧ (s.atChannel c = [])) ∧
  (∃ (c : Fin 8) (cycles : Half) (s : State), (s.noc.filter = []) ∧ ((s.ageHeads cycles.toNat).nextAt c = none)) ∧
  (∃ (q : NocReq) (a : Nat) (s : State), (s.attachedDpa q.addr q.len = some a) ∧ (1 ≤ q.len) ∧ (q.kind = .rd) ∧ (q.ni < 169) ∧ (chansReady s a q.len = true)) ∧
  (∃ (q : NocReq) (a : Nat) (s : State), (s.attachedDpa q.addr q.len = some a) ∧ (1 ≤ q.len) ∧ (q.kind = .wr) ∧ (q.data.length = q.len) ∧ (chansReady s a q.len = true)) ∧
  (∃ (q : NocReq) (a : Nat) (fs : List MemFault) (s : State), (s.regsWf) ∧ (1 ≤ q.len) ∧ (a / 64 = (a + q.len - 1) / 64) ∧ (q.kind = .rd) ∧ (q.ni < 169) ∧ (chansReady s a q.len = true) ∧ (s.erasureAt (dpaChannel s (a / 64 * 64)).1 (dpaChannel s (a / 64 * 64)).2 = none) ∧ (5 ≤ (symbolsIn fs).length) ∧ ((symbolsIn fs).length ≤ 12)) ∧
  (∃ (q : NocReq) (a : Nat) (fs : List MemFault) (s : State), (s.regsWf) ∧ (1 ≤ q.len) ∧ (a / 64 = (a + q.len - 1) / 64) ∧ (q.kind = .rd) ∧ (q.ni < 169) ∧ (chansReady s a q.len = true) ∧ (s.erasureAt (dpaChannel s (a / 64 * 64)).1 (dpaChannel s (a / 64 * 64)).2 = none) ∧ (1 ≤ (symbolsIn fs).length) ∧ ((symbolsIn fs).length ≤ 4)) ∧
  (∃ (ni : Fin 177) (tag : Byte) (q : NocReq) (c : Nat) (s : State), (s.nocReq ni tag.toNat = some q) ∧ (q.served = some c) ∧ (q.pkt.arrived = true) ∧ (q.snoop = false) ∧ (q.dead = false)) ∧
  (∃ (ni : Fin 177) (tag : Byte) (q : NocReq) (c : Nat) (s : State), (s.nocReq ni tag.toNat = some q) ∧ (q.served = some c) ∧ (q.pkt.arrived = false)) ∧
  (∃ (ni : Fin 177) (tag : Byte) (q : NocReq) (c : Nat) (r : Fin 64) (s : State), (s.regsWf) ∧ (s.nocReq ni tag.toNat = some q) ∧ (q.served = some c) ∧ (q.pkt.arrived = true) ∧ (q.snoop = false) ∧ (q.dead = false) ∧ (r.val ∈ q.pkt.entered)) ∧
  (∃ (ni : Fin 177) (tag : Byte) (q : NocReq) (s : State), (s.regsWf) ∧ (s.nocReq ni tag.toNat = some q) ∧ (q.dead = false) ∧ (q.snoop = false)) ∧
  (∃ (ni : Fin 177) (tag : Byte) (q : NocReq) (h : Fin 64) (r : Nat) (rs : List Nat) (s : State), (s.regsWf) ∧ (s.nocReq ni tag.toNat = some q) ∧ (q.pkt.here = some h.val) ∧ (q.pkt.ahead = r :: rs) ∧ (q.unserved = true) ∧ (q.pkt.lost = false) ∧ (s.withdrawn r = true)) ∧
  (∃ (ni : Fin 177) (tag : Byte) (q : NocReq) (s : State), (s.regsWf) ∧ (s.nocReq ni tag.toNat = some q) ∧ (q.pkt.isNack = true) ∧ (q.pkt.arrived = true) ∧ (q.dead = false) ∧ (s.proxied q = false) ∧ (s.earlierNack q = true)) ∧
  (∃ (ni : Fin 177) (tag : Byte) (q : NocReq) (s : State), (s.regsWf) ∧ (s.nocReq ni tag.toNat = some q) ∧ (q.pkt.isNack = true) ∧ (q.pkt.arrived = true) ∧ (q.dead = false) ∧ (s.proxied q = false) ∧ (s.earlierNack q = false) ∧ (routeValid (s.route q.ni q.dst true) = true) ∧ (q.resent = false)) ∧
  (∃ (ni : Fin 177) (tag : Byte) (q : NocReq) (s : State), (s.regsWf) ∧ (s.nocReq ni tag.toNat = some q) ∧ (q.pkt.isNack = true) ∧ (q.pkt.arrived = true) ∧ (q.dead = false) ∧ (s.proxied q = false) ∧ (s.earlierNack q = false) ∧ (routeValid (s.route q.ni q.dst true) = false ∨ q.resent = true)) ∧
  (∃ (ni : Fin 177) (tag : Byte) (q : NocReq) (s : State), (s.nocReq ni tag.toNat = some q) ∧ (q.unserved = true) ∧ (q.stamp.isSome = true) ∧ (dpaRange q.addr q.len = some .hostMem) ∧ (s.hostReachable = true)) :=
  ⟨⟨169, 0xFF, some [1, 2, 3, 4], 0x3F7FFFFFFC, 4, .interleaved, (sB.route 169 (targetNi sB 0x3F7FFFFFFC .interleaved) false), false, (memUp sB), by decide⟩,
   ⟨169, 0, 7, 0x100, 256, 5, .snpInv, (sB.route 169 (targetNi sB 0x100 .interleaved) false), true, by decide⟩,
   ⟨152, 0xFF, some [1, 2, 3, 4], 0x3F80000000, 4, (memUp sB), by decide⟩,
   ⟨169, 0xFF, none, 0x100, 4, .interleaved, (((memUp sB).setRoute 169 (targetNi sB 0x100 .interleaved) false 0).setRoute 169 (targetNi sB 0x100 .interleaved) true 0), by decide⟩,
   ⟨req0, ((nocUp (req0))), by decide⟩,
   ⟨0, 3, { ({ req0 with pkt := { req0.pkt with here := some 1, ahead := [] }, stamp := some 0 }) with pkt := (({ req0 with pkt := { req0.pkt with here := some 1, ahead := [] }, stamp := some 0 }).pkt).age 3 (max 1 (sB.fld F.NOC_CFG.AGE_STEP)) }, 0x100, ((nocUp ({ req0 with pkt := { req0.pkt with here := some 1, ahead := [] }, stamp := some 0 }))), by decide⟩,
   ⟨({ sB with noc := { sB.noc with scrubs := [] } } : State), by decide⟩,
   ⟨0, 0, 0, [], ({ sB with noc := { sB.noc with scrubs := [((0), (0), ([]), (0))] } } : State), by decide⟩,
   ⟨0, 0, ({ sB with noc := { sB.noc with filter := [] } } : State), by decide⟩,
   ⟨{ ({ req0 with pkt := { req0.pkt with here := some 1, ahead := [] }, stamp := some 0 }) with ni := 153 }, 0x100, ((nocUp ({ ({ req0 with pkt := { req0.pkt with here := some 1, ahead := [] }, stamp := some 0 }) with ni := 153 }))), by decide⟩,
   ⟨{ req0 with kind := .wr, data := [1, 2, 3, 4], pkt := { req0.pkt with header := putBits req0.pkt.header 44 4 2, here := some 1, ahead := [] }, stamp := some 0 }, 0x100, ((nocUp ({ req0 with kind := .wr, data := [1, 2, 3, 4], pkt := { req0.pkt with header := putBits req0.pkt.header 44 4 2, here := some 1, ahead := [] }, stamp := some 0 }))), by decide⟩,
   ⟨{ ({ req0 with pkt := { req0.pkt with here := some 1, ahead := [] }, stamp := some 0 }) with ni := 153 }, 0x100, (List.range 5).map (fun i => ⟨0, BitVec.toFin (BitVec.ofNat 4 i)⟩), ((nocUp ({ ({ req0 with pkt := { req0.pkt with here := some 1, ahead := [] }, stamp := some 0 }) with ni := 153 }))), by decide⟩,
   ⟨{ ({ req0 with pkt := { req0.pkt with here := some 1, ahead := [] }, stamp := some 0 }) with ni := 153 }, 0x100, [⟨4, 15⟩, ⟨0, 3⟩], ((nocUp ({ ({ req0 with pkt := { req0.pkt with here := some 1, ahead := [] }, stamp := some 0 }) with ni := 153 }))), by decide⟩,
   ⟨169, 7, { req0 with data := [9, 8, 7, 6], pkt := { newPacket req0.dst 169 (sB.route req0.dst 169 false) false 2 3 169 7 0 with here := some 4, ahead := [] } }, 0, ((nocUp ({ req0 with data := [9, 8, 7, 6], pkt := { newPacket req0.dst 169 (sB.route req0.dst 169 false) false 2 3 169 7 0 with here := some 4, ahead := [] } }))), by decide⟩,
   ⟨169, 7, { req0 with data := [9, 8, 7, 6], pkt := newPacket req0.dst 169 (sB.route req0.dst 169 false) false 2 3 169 7 0 }, 0, ((nocUp ({ req0 with data := [9, 8, 7, 6], pkt := newPacket req0.dst 169 (sB.route req0.dst 169 false) false 2 3 169 7 0 }))), by decide⟩,
   ⟨169, 7, { req0 with data := [9, 8, 7, 6], pkt := { newPacket req0.dst 169 (sB.route req0.dst 169 false) false 2 3 169 7 0 with here := some 4, ahead := [] } }, 0, 4, ((nocUp ({ req0 with data := [9, 8, 7, 6], pkt := { newPacket req0.dst 169 (sB.route req0.dst 169 false) false 2 3 169 7 0 with here := some 4, ahead := [] } }))), by decide⟩,
   ⟨169, 7, req0, ((nocUp (req0))), by decide⟩,
   ⟨169, 7, { req0 with pkt := { req0.pkt with here := some 4, ahead := [3, 2, 1] } }, 4, 3, [2, 1], ((nocUp ({ req0 with pkt := { req0.pkt with here := some 4, ahead := [3, 2, 1] } })).setReg R.NOC_RTR_WITHDRAWN 8), by decide⟩,
   ⟨169, 7, { req0 with pkt := { req0.pkt with header := putBits req0.pkt.header 44 4 5, here := some 4, ahead := [] } }, ({ memUp sB with noc := { sB.noc with reqs := [{ ({ req0 with pkt := { req0.pkt with header := putBits req0.pkt.header 44 4 5, here := some 4, ahead := [] } }) with tag := 6 }, { req0 with pkt := { req0.pkt with header := putBits req0.pkt.header 44 4 5, here := some 4, ahead := [] } }] } } : State), by decide⟩,
   ⟨153, 7, { ({ req0 with pkt := { req0.pkt with header := putBits req0.pkt.header 44 4 5, here := some 4, ahead := [] } }) with ni := 153, dst := (targetNi sB 0x100 .interleaved) }, ((nocUp ({ ({ req0 with pkt := { req0.pkt with header := putBits req0.pkt.header 44 4 5, here := some 4, ahead := [] } }) with ni := 153, dst := (targetNi sB 0x100 .interleaved) }))), by decide⟩,
   ⟨169, 7, { ({ req0 with pkt := { req0.pkt with header := putBits req0.pkt.header 44 4 5, here := some 4, ahead := [] } }) with resent := true }, ((nocUp ({ ({ req0 with pkt := { req0.pkt with header := putBits req0.pkt.header 44 4 5, here := some 4, ahead := [] } }) with resent := true }))), by decide⟩,
   ⟨169, 7, { req0 with addr := 0x100000000000, pkt := { req0.pkt with here := some 1, ahead := [] }, stamp := some 0 }, ((({ nocUp ({ req0 with addr := 0x100000000000, pkt := { req0.pkt with here := some 1, ahead := [] }, stamp := some 0 }) with msix := { sB.msix with busMaster := true } } : State)).setFlds [(F.HIF_LINK.UP, 1)]), by decide⟩⟩

/-- The hypotheses of every clause of Obligations.RoutersFencesAndRoutes are met together. -/
theorem test_witness_RoutersFencesAndRoutes :
  (∃ (r : Fin 64) (s : State), (s.regsWf) ∧ (s.withdrawn r = false) ∧ (s.withdrawnCount ≤ 1)) ∧
  (∃ (r : Fin 64) (s : State), (s.regsWf) ∧ (s.withdrawn r = true ∨ 2 ≤ s.withdrawnCount)) ∧
  (∃ (r : Fin 64) (s : State), (s.regsWf) ∧ (s.withdrawn r = true) ∧ (s.routerHolds r = false)) ∧
  (∃ (r : Fin 64) (s : State), (s.regsWf) ∧ (s.withdrawn r = true) ∧ (s.routerHolds r = true)) ∧
  (∃ (r : Fin 64) (s : State), (s.regsWf) ∧ (s.withdrawn r = true)) ∧
  (∃ (d : Fin 32) (s : State), (s.regsWf) ∧ (fenceable d = true) ∧ ((d.val ≠ 4 ∧ d.val ≠ 11) ∨ (∀ n < 16, s.siteActive n = false))) ∧
  (∃ (d : Fin 32) (s : State), (s.regsWf) ∧ (fenceable d = true) ∧ (bitOf (s.fld F.NOC_FENCE_STAT.PENDING) d = true) ∧ (s.domainBusy d = false)) ∧
  (∃ (d : Fin 32) (s : State), (s.regsWf) ∧ (fenceable d = true) ∧ (bitOf (s.fld F.NOC_FENCE_STAT.FENCED) d = true) ∧ (bitOf (s.fld F.PWR_DOM_STAT.ON) d = true)) ∧
  (∃ (d : Fin 32) (s : State), (s.regsWf) ∧ (fenceable d = false)) ∧
  (∃ (src : Byte) (dst : Byte) (s : State), (s.regsWf) ∧ (src.toNat ≤ 176) ∧ (dst.toNat ≤ 176) ∧ (routeValid (s.reg R.NOC_RT_PRI) = true) ∧ (routeValid (s.reg R.NOC_RT_ALT) = true) ∧ (routeLegal src.toNat dst.toNat (s.reg R.NOC_RT_PRI) = true) ∧ (routeLegal src.toNat dst.toNat (s.reg R.NOC_RT_ALT) = true)) ∧
  (∃ (src : Byte) (dst : Byte) (s : State), (s.regsWf) ∧ (src.toNat ≤ 176) ∧ (dst.toNat ≤ 176) ∧ (routeValid (s.reg R.NOC_RT_PRI) = true) ∧ (routeValid (s.reg R.NOC_RT_ALT) = true) ∧ (routeLegal src.toNat dst.toNat (s.reg R.NOC_RT_PRI) = false)) ∧
  (∃ (s : State), (s.regsWf)) ∧
  (∃ (v : Word) (s : State), (s.regsWf) ∧ (v.toNat / 2 ^ 20 ≠ 0) ∧ (v.toNat / 2 ^ 20 < v.toNat % 2 ^ 20)) ∧
  (∃ (v : Word) (s : State), (s.regsWf) ∧ (v.toNat / 2 ^ 20 = 0 ∨ v.toNat % 2 ^ 20 ≤ v.toNat / 2 ^ 20)) :=
  ⟨⟨0, sB, by decide⟩,
   ⟨63, (sB.setReg R.NOC_RTR_WITHDRAWN 3), by decide⟩,
   ⟨63, (sB.setReg R.NOC_RTR_WITHDRAWN 0x8000000000000001), by decide⟩,
   ⟨63, ((nocUp ({ req0 with pkt := { req0.pkt with here := some 63, ahead := [62] } })).setReg R.NOC_RTR_WITHDRAWN 0x8000000000000001), by decide⟩,
   ⟨63, (sB.setReg R.NOC_RTR_WITHDRAWN 0x8000000000000001), by decide⟩,
   ⟨11, sB, by decide⟩,
   ⟨23, (sB.setFld F.NOC_FENCE_STAT.PENDING 0x800000), by decide⟩,
   ⟨23, (sB.setFlds [(F.NOC_FENCE_STAT.FENCED, 0x800000), (F.PWR_DOM_STAT.ON, 0x800000)]), by decide⟩,
   ⟨12, sB, by decide⟩,
   ⟨153, 160, ((sB.setReg R.NOC_RT_PRI (sB.route 153 160 false)).setReg R.NOC_RT_ALT (sB.route 153 160 true)), by decide⟩,
   ⟨176, 161, ((sB.setReg R.NOC_RT_PRI (sB.route 153 160 false)).setReg R.NOC_RT_ALT (sB.route 153 160 true)), by decide⟩,
   ⟨sB, by decide⟩,
   ⟨0x00100002, sB, by decide⟩,
   ⟨0, sB, by decide⟩⟩

/-- The hypotheses of every clause of Obligations.MemoryChannels are met together. -/
theorem test_witness_MemoryChannels :
  (∃ (c : Fin 8) (s : State), (s.regsWf) ∧ (trainingBegun s) ∧ (bitOf (s.fld F.PWR_DOM_STAT.ON) (chanDomain c) = true)) ∧
  (∃ (c : Fin 8) (s : State), (s.regsWf) ∧ (trainingBegun s) ∧ (s.chanState c = 1)) ∧
  (∃ (c : Fin 8) (s : State), (s.regsWf) ∧ (trainingBegun s) ∧ (s.chanState c = 2)) ∧
  (∃ (c : Fin 8) (s : State), (s.regsWf) ∧ (trainingBegun s) ∧ (s.chanState c = 3)) ∧
  (∃ (c : Fin 8) (s : State), (s.regsWf) ∧ (trainingBegun s) ∧ (s.chanState c ≠ 0)) ∧
  (∃ (c : Fin 8) (s : State) (comp : Fin 8), (s.regsWf) ∧ (trainingBegun s) ∧ (s.chanState c ≠ 0) ∧ (comp.val ≤ 4)) ∧
  (∃ (c : Fin 8) (s : State), (s.regsWf) ∧ (trainingBegun s) ∧ (s.chanState c ≠ 1)) ∧
  (∃ (s : State), (s.regsWf) ∧ (s.dev = .boot) ∧ (s.sec.testHold = false) ∧ (s.fld F.SEC_BOOT_STAT.STAGE = 5)) ∧
  (∃ (c : Fin 8) (s : State), (s.regsWf) ∧ (trainingBegun s) ∧ (s.chanState c = 1) ∧ (s.bit (F.MEMC_MR.BUSY c) = false)) ∧
  (∃ (c : Fin 8) (s : State), (s.regsWf) ∧ (s.bit (F.MEMC_MR.BUSY c) = true)) ∧
  (∃ (c : Fin 8) (l : BitVec 35) (s : State), (s.bit (F.MEMC_SCRUB_CFG.EN c) = true) ∧ (s.chanState c = 2) ∧ (∃ y ∈ s.atChannel c, s.touchesLocal c l.toNat y.1 y.2 = true)) ∧
  (∃ (c : Fin 8) (l : BitVec 35) (s : State), (s.regsWf) ∧ (s.bit (F.MEMC_SCRUB_CFG.EN c) = true) ∧ (s.chanState c = 2) ∧ (∀ y ∈ s.atChannel c, s.touchesLocal c l.toNat y.1 y.2 = false)) ∧
  (∃ (c : Fin 8) (l : BitVec 35) (fs : List MemFault) (s : State), (s.regsWf) ∧ (s.bit (F.MEMC_SCRUB_CFG.EN c) = true) ∧ (s.chanState c = 2) ∧ (∀ y ∈ s.atChannel c, s.touchesLocal c l.toNat y.1 y.2 = false) ∧ (s.erasureAt c l.toNat = none) ∧ (5 ≤ (symbolsIn fs).length) ∧ ((symbolsIn fs).length ≤ 12)) ∧
  (∃ (c : Fin 8) (l : BitVec 35) (fs : List MemFault) (s : State) (i : Nat) (is : List Nat), (s.regsWf) ∧ (s.bit (F.MEMC_SCRUB_CFG.EN c) = true) ∧ (s.chanState c = 2) ∧ (∀ y ∈ s.atChannel c, s.touchesLocal c l.toNat y.1 y.2 = false) ∧ (s.erasureAt c l.toNat = none) ∧ (symbolsIn fs = i :: is) ∧ (is.length < 4)) ∧
  (∃ (c : Fin 8) (l : BitVec 35) (fs : List MemFault) (s : State) (e : Nat), (s.regsWf) ∧ (s.bit (F.MEMC_SCRUB_CFG.EN c) = true) ∧ (s.chanState c = 2) ∧ (∀ y ∈ s.atChannel c, s.touchesLocal c l.toNat y.1 y.2 = false) ∧ (e < 5) ∧ (s.erasureAt c l.toNat = some e) ∧ (∀ i ∈ symbolsIn fs, i % 5 = e)) ∧
  (∃ (s : State), (s.regsWf)) ∧
  (∃ (v : Word) (s : State), (s.regsWf) ∧ (∀ c < 8, s.chanState c ≠ 2 ∧ s.chanState c ≠ 3) ∧ (v.toNat / 16 % 8 ≤ 4)) ∧
  (∃ (s : State), (s.regsWf) ∧ (∃ c < 8, s.chanState c = 2)) ∧
  (∃ (v : Word) (s : State), (s.regsWf) ∧ (v.toNat % 256 ≤ 192)) ∧
  (∃ (v : Word) (s : State), (s.regsWf) ∧ (192 < v.toNat % 256)) ∧
  (∃ (off : BitVec 36) (w : Option (List Byte)) (n : Fin 4097) (s : State), (wfTlp off.toNat w n = true) ∧ (s.bit F.HIF_LINK.UP = true) ∧ (memCheck s 168 (s.fld F.MEMC_BAR2_BASE.BASE * 2 ^ 30 + off.toNat) n w.isSome = 0)) ∧
  (∃ (off : BitVec 36) (w : Option (List Byte)) (n : Fin 4097) (s : State), (wfTlp off.toNat w n = true) ∧ (s.bit F.HIF_LINK.UP = true) ∧ (memCheck s 168 (s.fld F.MEMC_BAR2_BASE.BASE * 2 ^ 30 + off.toNat) n w.isSome ≠ 0)) ∧
  (∃ (off : BitVec 36) (n : Fin 4097) (s : State), (wfTlp off.toNat none n = true) ∧ (s.bit F.HIF_LINK.UP = true) ∧ (memCheck s 168 (s.fld F.MEMC_BAR2_BASE.BASE * 2 ^ 30 + off.toNat) n false = 0)) :=
  ⟨⟨7, (sB.setFld F.PWR_DOM_STAT.ON 0xFFFFFF), by decide⟩,
   ⟨7, (sB.setFld (F.MEMC_STAT.STATE 7) 1), by decide⟩,
   ⟨7, (sB.setFld (F.MEMC_STAT.STATE 7) 2), by decide⟩,
   ⟨7, (sB.setFld (F.MEMC_STAT.STATE 7) 3), by decide⟩,
   ⟨7, (sB.setFld (F.MEMC_STAT.STATE 7) 4), by decide⟩,
   ⟨7, (sB.setFld (F.MEMC_STAT.STATE 7) 4), 4, by decide⟩,
   ⟨0, sB, by decide⟩,
   ⟨(({ sB with dev := .boot, sec := { sB.sec with testHold := false } } : State).setFlds [(F.SEC_BOOT_STAT.STAGE, 5)]), by decide⟩,
   ⟨7, (sB.setFld (F.MEMC_STAT.STATE 7) 1), by decide⟩,
   ⟨0, (sB.setFlds [((F.MEMC_MR.BUSY ((0 : Fin 8))), 1)]), by decide⟩,
   ⟨((⟨(dpaChannel sB 0x100).1 % 8, by omega⟩ : Fin 8)), BitVec.ofNat 35 (dpaChannel sB 0x100).2, ((nocUp ({ req0 with pkt := { req0.pkt with here := some 1, ahead := [] }, stamp := some 0 })).setFlds [(F.MEMC_SCRUB_CFG.EN ((dpaChannel sB 0x100).1 % 8), 1)]), by decide⟩,
   ⟨7, 0x7FFFFFFFF, (sB.setFlds [(F.MEMC_STAT.STATE 7, 2), (F.MEMC_SCRUB_CFG.EN 7, 1)]), by decide⟩,
   ⟨7, 0x7FFFFFFFF, (List.range 5).map (fun i => ⟨0, BitVec.toFin (BitVec.ofNat 4 i)⟩), (sB.setFlds [(F.MEMC_STAT.STATE 7, 2), (F.MEMC_SCRUB_CFG.EN 7, 1)]), by decide⟩,
   ⟨7, 0x7FFFFFFFF, [⟨4, 0⟩], (sB.setFlds [(F.MEMC_STAT.STATE 7, 2), (F.MEMC_SCRUB_CFG.EN 7, 1)]), 4, [], by decide⟩,
   ⟨7, 0x7FFFFFFFF, [⟨4, 0⟩, ⟨4, 9⟩], ({ (sB.setFlds [(F.MEMC_STAT.STATE 7, 2), (F.MEMC_SCRUB_CFG.EN 7, 1)]) with noc := { sB.noc with erase := [(7, some (1, 4))] } } : State), 4, by decide⟩,
   ⟨sB, by decide⟩,
   ⟨0, sB, by decide⟩,
   ⟨(sB.setFld (F.MEMC_STAT.STATE 7) 2), by decide⟩,
   ⟨0, sB, by decide⟩,
   ⟨193, sB, by decide⟩,
   ⟨0xFFFFFFFFF, some [7], 1, ((memUp sB).setFlds [(F.HIF_LINK.UP, 1)]), by decide⟩,
   ⟨0xFC0000000, some [7], 1, ((memUp sB).setFlds [(F.HIF_LINK.UP, 1), (F.MEMC_BAR2_BASE.BASE, 191)]), by decide⟩,
   ⟨0x40, 64, ((memUp sB).setFlds [(F.HIF_LINK.UP, 1)]), by decide⟩⟩

/-- The hypotheses of every clause of Obligations.LoadsFromStartToCommit are met together. -/
theorem test_witness_LoadsFromStartToCommit :
  (∃ (src : Fin 8) (s : State), (s.regsWf) ∧ (s.loadBarred = none) ∧ (src.val < 2) ∧ (384 ≤ s.fld F.CFG_SRC_LEN.BYTES)) ∧
  (∃ (src : Fin 8) (s : State), (s.regsWf) ∧ (s.loadBarred = none) ∧ (2 ≤ src.val)) ∧
  (∃ (s : State), (s.regsWf) ∧ (s.loadBarred = some C.CFG_BUSY)) ∧
  (∃ (s : State), (s.regsWf) ∧ (s.loadBarred = some C.STATE_REFUSED)) ∧
  (∃ (req : Requester) (l : CfgLoad) (s : State), (s.regsWf) ∧ (s.allows req .cfgAbort = true) ∧ (s.cfg.load = some l) ∧ (s.cfg.chain = none) ∧ (loadInRange l)) ∧
  (∃ (req : Requester) (l : CfgLoad) (s : State), (s.regsWf) ∧ (s.allows req .cfgAbort = true) ∧ (s.cfg.load = some l) ∧ (s.cfg.chain = none) ∧ (loadInRange l) ∧ (s.portReady = true) ∧ (s.allows .host .cfgAbort = true)) ∧
  (∃ (l : CfgLoad), (l.src = 3)) ∧
  (∃ (l : CfgLoad), (l.src ≠ 3) ∧ (l.commit = none)) ∧
  (∃ (l : CfgLoad), (l.src ≠ 3) ∧ (l.commit = none) ∧ (0 < l.partLen)) ∧
  (∃ (bs : List Byte) (b : List Byte) (st : Half) (l : CfgLoad) (s : State) (s0 : State), (s.regsWf) ∧ (s.cfg.load = some l) ∧ (l.hdr = none) ∧ (l.src = 2 → 256 ≤ bs.length ∧ s.portDelivers = true) ∧ (s.srcRead l.src l.base 256 st.toNat bs = (0, b, s0)) ∧ (hdrFormatOk b l.avail = true) ∧ ((s0.setFld F.CFG_STAT.KIND (parseHdr b).kind).headerFault (parseHdr b) ((b.drop 64).take 48) (numAt b 8 1) (numAt b 10 2) = none) ∧ ((s0.setFld F.CFG_STAT.KIND (parseHdr b).kind).beginWaits (parseHdr b) = [])) ∧
  (∃ (bs : List Byte) (b : List Byte) (st : Half) (l : CfgLoad) (s : State) (s0 : State), (s.regsWf) ∧ (s.cfg.load = some l) ∧ (l.hdr = none) ∧ (l.src = 2 → 256 ≤ bs.length ∧ s.portDelivers = true) ∧ (s.srcRead l.src l.base 256 st.toNat bs = (0, b, s0)) ∧ (hdrFormatOk b l.avail = false)) ∧
  (∃ (cipher : List Byte) (tag : List Byte) (bs : List Byte) (st : Half) (size : Nat) (l : CfgLoad) (h : CfgHdr) (s : State) (s0 : State), (s.regsWf) ∧ (wfChunk cipher tag = true) ∧ (s.cfg.load = some l) ∧ (l.hdr = some h) ∧ (l.chunks < h.nchunk) ∧ (h.nchunk ≤ 65535) ∧ (size = (if l.chunks + 1 = h.nchunk then h.lastLen else 65536)) ∧ (size ≤ 65536) ∧ (loadInRange l) ∧ (s.imagePart l (256 + l.chunks * 65552) (size + 16) st.toNat (cipher ++ tag) = some (0, bs, s0)) ∧ (s.keyAvailable h.keysel = true) ∧ (noRetry l)) ∧
  (∃ (cipher : List Byte) (tag : List Byte) (st : Half) (size : Nat) (l : CfgLoad) (h : CfgHdr) (s : State) (x : Nat × List Byte × State), (s.regsWf) ∧ (wfChunk cipher tag = true) ∧ (s.cfg.load = some l) ∧ (l.hdr = some h) ∧ (l.chunks < h.nchunk) ∧ (h.nchunk ≤ 65535) ∧ (size = (if l.chunks + 1 = h.nchunk then h.lastLen else 65536)) ∧ (size ≤ 65536) ∧ (loadInRange l) ∧ (s.imagePart l (256 + l.chunks * 65552) (size + 16) st.toNat (cipher ++ tag) = some x) ∧ (s.keyAvailable h.keysel = false) ∧ (noRetry l)) ∧
  (∃ (cipher : List Byte) (tag : List Byte) (bs : List Byte) (st : Half) (size : Nat) (l : CfgLoad) (h : CfgHdr) (s : State) (s0 : State) (e : Nat), (s.regsWf) ∧ (wfChunk cipher tag = true) ∧ (s.cfg.load = some l) ∧ (l.hdr = some h) ∧ (l.chunks < h.nchunk) ∧ (h.nchunk ≤ 65535) ∧ (size = (if l.chunks + 1 = h.nchunk then h.lastLen else 65536)) ∧ (size ≤ 65536) ∧ (loadInRange l) ∧ (s.imagePart l (256 + l.chunks * 65552) (size + 16) st.toNat (cipher ++ tag) = some (e, bs, s0)) ∧ (e ≠ 0) ∧ (s.keyAvailable h.keysel = true) ∧ (noRetry l)) ∧
  (∃ (cipher : List Byte) (tag : List Byte) (st : Half) (size : Nat) (l : CfgLoad) (h : CfgHdr) (s : State), (s.regsWf) ∧ (wfChunk cipher tag = true) ∧ (s.cfg.load = some l) ∧ (l.hdr = some h) ∧ (l.chunks < h.nchunk) ∧ (h.nchunk ≤ 65535) ∧ (size = (if l.chunks + 1 = h.nchunk then h.lastLen else 65536)) ∧ (size ≤ 65536) ∧ (loadInRange l) ∧ (s.imagePart l (256 + l.chunks * 65552) (size + 16) st.toNat (cipher ++ tag) = none)) ∧
  (∃ (bytes : List Byte) (sig : List Byte) (st : Half) (l : CfgLoad) (h : CfgHdr) (s : State) (s0 : State), (s.regsWf) ∧ (wfSignature bytes = true) ∧ (s.cfg.load = some l) ∧ (l.hdr = some h) ∧ (h.nchunk ≤ l.chunks) ∧ (l.ended = true) ∧ (l.plain.all (· == 0) = true) ∧ (l.commit = none) ∧ (loadInRange l) ∧ (s.imagePart l (h.totalLen - 96) 96 st.toNat bytes = some (0, sig, s0))) ∧
  (∃ (bytes : List Byte) (st : Half) (l : CfgLoad) (h : CfgHdr) (s : State), (s.regsWf) ∧ (wfSignature bytes = true) ∧ (s.cfg.load = some l) ∧ (l.hdr = some h) ∧ (h.nchunk ≤ l.chunks) ∧ (l.ended = true) ∧ (l.plain.all (· == 0) = true) ∧ (l.commit = none) ∧ (loadInRange l) ∧ (s.imagePart l (h.totalLen - 96) 96 st.toNat bytes = none)) ∧
  (∃ (s : State), (s.fckOn = true)) ∧
  (∃ (l : CfgLoad) (h : CfgHdr) (d : List Byte) (s : State), (s.regsWf) ∧ (s.cfg.load = some l) ∧ (l.hdr = some h) ∧ (l.commit = some d) ∧ (loadInRange l)) ∧
  (∃ (l : CfgLoad) (h : CfgHdr) (d : List Byte) (s : State) (g : Nat), (s.regsWf) ∧ (s.cfg.load = some l) ∧ (l.hdr = some h) ∧ (l.commit = some d) ∧ (loadInRange l) ∧ (g ∈ l.regions) ∧ (g ≠ 0)) :=
  ⟨⟨1, (sB.setFld F.CFG_SRC_LEN.BYTES 384), by decide⟩,
   ⟨2, sB, by decide⟩,
   ⟨(loading sB load0), by decide⟩,
   ⟨({ sB with dev := .fault } : State), by decide⟩,
   ⟨.host, load0, (loading sB load0), by decide⟩,
   ⟨.host, { load0 with src := 2 }, ((loading sB { load0 with src := 2 }).setFld F.CFG_PORT_CTRL.EN 1), by decide⟩,
   ⟨{ load0 with src := 3, image := [1, 2] }, by decide⟩,
   ⟨load0, by decide⟩,
   ⟨load0, by decide⟩,
   ⟨(hdrBytes sB 1), (hdrBytes sB 1), 0, { load0 with src := 2, avail := some 4464 }, (({ (loading ((sB.setFlds [(F.SEC_KEY_STAT.KEY0, 1)])) ({ load0 with src := 2, avail := some 4464 })) with cfg := { (loading sB ({ load0 with src := 2, avail := some 4464 })).cfg with port := some (.load 4464) } } : State)), ((({ (loading ((sB.setFlds [(F.SEC_KEY_STAT.KEY0, 1)])) ({ load0 with src := 2, avail := some 4464 })) with cfg := { (loading sB ({ load0 with src := 2, avail := some 4464 })).cfg with port := some (.load 4464) } } : State))), by decide⟩,
   ⟨List.replicate 256 0, List.replicate 256 0, 0, { load0 with src := 2, avail := some 4464 }, (({ (loading ((sB.setFlds [(F.SEC_KEY_STAT.KEY0, 1)])) ({ load0 with src := 2, avail := some 4464 })) with cfg := { (loading sB ({ load0 with src := 2, avail := some 4464 })).cfg with port := some (.load 4464) } } : State)), ((({ (loading ((sB.setFlds [(F.SEC_KEY_STAT.KEY0, 1)])) ({ load0 with src := 2, avail := some 4464 })) with cfg := { (loading sB ({ load0 with src := 2, avail := some 4464 })).cfg with port := some (.load 4464) } } : State))), by decide⟩,
   ⟨(List.replicate 16 7), (List.replicate 16 7), (List.replicate 32 7), 0, 16, { load0 with src := 2, hdr := some ({ hdr 1 with lastLen := 16, totalLen := 384 }), recv := 256 }, { hdr 1 with lastLen := 16, totalLen := 384 }, (({ memUp (loading sB ({ load0 with src := 2, hdr := some ({ hdr 1 with lastLen := 16, totalLen := 384 }), recv := 256 })) with cfg := { (loading sB ({ load0 with src := 2, hdr := some ({ hdr 1 with lastLen := 16, totalLen := 384 }), recv := 256 })).cfg with port := some (.load 384) } } : State).setFld F.SEC_KEY_STAT.KEY0 1), ((({ memUp (loading sB ({ load0 with src := 2, hdr := some ({ hdr 1 with lastLen := 16, totalLen := 384 }), recv := 256 })) with cfg := { (loading sB ({ load0 with src := 2, hdr := some ({ hdr 1 with lastLen := 16, totalLen := 384 }), recv := 256 })).cfg with port := some (.load 384) } } : State).setFld F.SEC_KEY_STAT.KEY0 1)), ⟨by decide, by decide, rfl, rfl, by decide, by decide, by decide, by decide, by decide, rfl, by decide, by decide⟩⟩,
   ⟨(List.replicate 16 7), (List.replicate 16 7), 0, 16, { load0 with src := 2, hdr := some ({ hdr 1 with lastLen := 16, totalLen := 384 }), recv := 256 }, { hdr 1 with lastLen := 16, totalLen := 384 }, ({ memUp (loading sB ({ load0 with src := 2, hdr := some ({ hdr 1 with lastLen := 16, totalLen := 384 }), recv := 256 })) with cfg := { (loading sB ({ load0 with src := 2, hdr := some ({ hdr 1 with lastLen := 16, totalLen := 384 }), recv := 256 })).cfg with port := some (.load 384) } } : State), (0, ((List.replicate 16 7)) ++ ((List.replicate 16 7)), (({ memUp (loading sB ({ load0 with src := 2, hdr := some ({ hdr 1 with lastLen := 16, totalLen := 384 }), recv := 256 })) with cfg := { (loading sB ({ load0 with src := 2, hdr := some ({ hdr 1 with lastLen := 16, totalLen := 384 }), recv := 256 })).cfg with port := some (.load 384) } } : State))), ⟨by decide, by decide, rfl, rfl, by decide, by decide, by decide, by decide, by decide, rfl, by decide, by decide⟩⟩,
   ⟨[], [], (((memUp (loading sB ({ load0 with src := 1, hdr := some ({ hdr 1 with lastLen := 16, totalLen := 384 }), recv := 256 }))).setFld F.SEC_KEY_STAT.KEY0 1).flashBytes (0 + (256 + 0 * 65552)) (16 + 16)), 0x1234, 16, { load0 with src := 1, hdr := some ({ hdr 1 with lastLen := 16, totalLen := 384 }), recv := 256 }, { hdr 1 with lastLen := 16, totalLen := 384 }, ((memUp (loading sB ({ load0 with src := 1, hdr := some ({ hdr 1 with lastLen := 16, totalLen := 384 }), recv := 256 }))).setFld F.SEC_KEY_STAT.KEY0 1), (((memUp (loading sB ({ load0 with src := 1, hdr := some ({ hdr 1 with lastLen := 16, totalLen := 384 }), recv := 256 }))).setFld F.SEC_KEY_STAT.KEY0 1)), 0x1234, ⟨by decide, by decide, rfl, rfl, by decide, by decide, by decide, by decide, by decide, rfl, by decide, by decide, by decide⟩⟩,
   ⟨(List.replicate 16 7), (List.replicate 16 7), 0, 16, { load0 with src := 2, hdr := some ({ hdr 1 with lastLen := 16, totalLen := 384 }), recv := 256 }, { hdr 1 with lastLen := 16, totalLen := 384 }, (memUp (loading sB ({ load0 with src := 2, hdr := some ({ hdr 1 with lastLen := 16, totalLen := 384 }), recv := 256 }))), ⟨by decide, by decide, rfl, rfl, by decide, by decide, by decide, by decide, by decide, rfl⟩⟩,
   ⟨(List.replicate 96 7), (List.replicate 96 7), 0, { load0 with src := 2, hdr := some (hdr 2), chunks := 1, recv := 4368, ended := true, mapSeen := true, regions := [63], plain := [0, 0] }, (hdr 2), (rgn63 ({ memUp (loading sB ({ load0 with src := 2, hdr := some (hdr 2), chunks := 1, recv := 4368, ended := true, mapSeen := true, regions := [63], plain := [0, 0] })) with cfg := { (loading sB ({ load0 with src := 2, hdr := some (hdr 2), chunks := 1, recv := 4368, ended := true, mapSeen := true, regions := [63], plain := [0, 0] })).cfg with port := some (.load 4464) } } : State)), ((rgn63 ({ memUp (loading sB ({ load0 with src := 2, hdr := some (hdr 2), chunks := 1, recv := 4368, ended := true, mapSeen := true, regions := [63], plain := [0, 0] })) with cfg := { (loading sB ({ load0 with src := 2, hdr := some (hdr 2), chunks := 1, recv := 4368, ended := true, mapSeen := true, regions := [63], plain := [0, 0] })).cfg with port := some (.load 4464) } } : State))), ⟨by decide, by decide, rfl, rfl, by decide, by decide, by decide, by decide, by decide, rfl⟩⟩,
   ⟨(List.replicate 96 7), 0, { load0 with src := 2, hdr := some (hdr 2), chunks := 1, recv := 4368, ended := true, mapSeen := true, regions := [63], plain := [0, 0] }, (hdr 2), (rgn63 (loading sB ({ load0 with src := 2, hdr := some (hdr 2), chunks := 1, recv := 4368, ended := true, mapSeen := true, regions := [63], plain := [0, 0] }))), ⟨by decide, by decide, rfl, rfl, by decide, by decide, by decide, by decide, by decide, rfl⟩⟩,
   ⟨({ sB with fckOn := true } : State), by decide⟩,
   ⟨{ load0 with hdr := some (hdr 1), recv := 4464, ended := true, mapSeen := true, regions := [63], commit := some [1, 2] }, hdr 1, [1, 2], ((loading sB ({ load0 with hdr := some (hdr 1), recv := 4464, ended := true, mapSeen := true, regions := [63], commit := some [1, 2] })).setFld (F.FAB_RGN_DESC.STATE 63) 1), by decide⟩,
   ⟨{ load0 with hdr := some (hdr 1), recv := 4464, ended := true, mapSeen := true, regions := [63], commit := some [1, 2] }, hdr 1, [1, 2], ((loading sB ({ load0 with hdr := some (hdr 1), recv := 4464, ended := true, mapSeen := true, regions := [63], commit := some [1, 2] })).setFld (F.FAB_RGN_DESC.STATE 63) 1), 63, by decide⟩⟩

/-- The hypotheses of the further clauses of Obligations.LoadsFromStartToCommit are met together. -/
theorem test_witness_LoadsFromStartToCommit_part2 :
  (∃ (l : CfgLoad) (h : CfgHdr) (d : List Byte) (s : State), (s.regsWf) ∧ (s.cfg.load = some l) ∧ (l.hdr = some h) ∧ (l.commit = some d) ∧ (loadInRange l) ∧ (s.dev = .ready)) ∧
  (∃ (l : CfgLoad) (s : State), (s.regsWf) ∧ (s.cfg.load = some l) ∧ (l.waits = true) ∧ (noRetry l) ∧ (l.chained = false) ∧ (s.cfg.chain = none) ∧ (loadInRange l)) :=
  ⟨⟨{ load0 with hdr := some (hdr 1), recv := 4464, ended := true, mapSeen := true, regions := [63], commit := some [1, 2] }, hdr 1, [1, 2], ((loading sB ({ load0 with hdr := some (hdr 1), recv := 4464, ended := true, mapSeen := true, regions := [63], commit := some [1, 2] })).setFld (F.FAB_RGN_DESC.STATE 63) 1), by decide⟩,
   ⟨{ load0 with src := 2 }, (loading sB { load0 with src := 2 }), by decide⟩⟩

/-- The hypotheses of every clause of Obligations.FramesAreAppliedOrEndTheLoad are met together. -/
theorem test_witness_FramesAreAppliedOrEndTheLoad :
  (∃ (l : CfgLoad) (h : CfgHdr) (b : List Byte) (s : State), (s.regsWf) ∧ (nextFrame s l h 1 0 b) ∧ (s.checkMap l h 0 b = none) ∧ (s.frameWaits 1 0 b = [])) ∧
  (∃ (l : CfgLoad) (h : CfgHdr) (tgt : Nat) (b : List Byte) (s : State), (s.regsWf) ∧ (nextFrame s l h 2 tgt b) ∧ (s.checkDesc l h tgt b = none) ∧ (∀ n < 16, (s.getPsq n).sealFlag = false)) ∧
  (∃ (l : CfgLoad) (h : CfgHdr) (tgt : Nat) (b : List Byte) (s : State) (code : Nat), (s.regsWf) ∧ (nextFrame s l h 2 tgt b) ∧ (s.checkDesc l h tgt b = some code) ∧ (loadInRange l) ∧ (noRetry l)) ∧
  (∃ (l : CfgLoad) (h : CfgHdr) (tgt : Nat) (b : List Byte) (s : State), (s.regsWf) ∧ (nextFrame s l h 3 tgt b) ∧ (s.frameWaits 3 tgt b = []) ∧ (s.checkCellWords l h tgt b = none) ∧ (noLiveWrite s (posOfSlot (tgt % 4096)) (tgt / 2 ^ 16 % 16) (tgt / 2 ^ 24 % 16)) ∧ (tgt % 4096 < 2560 → s.fld (F.FAB_CL_STAT.U_STATE (clusterOf (tgt % 4096 % 64) (tgt % 4096 / 64))) = 0)) ∧
  (∃ (l : CfgLoad) (h : CfgHdr) (tgt : Nat) (b : List Byte) (s : State), (s.regsWf) ∧ (nextFrame s l h 3 tgt b) ∧ (s.frameWaits 3 tgt b = []) ∧ (s.checkCellWords l h tgt b = none) ∧ (tgt / 2 ^ 24 % 16 = 1) ∧ (tgt / 2 ^ 16 % 16 < 8) ∧ (s.liveWrite (posOfSlot (tgt % 4096)) (tgt / 2 ^ 16 % 16) = true) ∧ (tgt % 4096 < 2560 → s.fld (F.FAB_CL_STAT.U_STATE (clusterOf (tgt % 4096 % 64) (tgt % 4096 / 64))) = 0)) ∧
  (∃ (l : CfgLoad) (h : CfgHdr) (tgt : Nat) (b : List Byte) (s : State) (code : Nat), (s.regsWf) ∧ (nextFrame s l h 3 tgt b) ∧ (s.frameWaits 3 tgt b = []) ∧ (s.checkCellWords l h tgt b = some code) ∧ (loadInRange l) ∧ (noRetry l)) ∧
  (∃ (l : CfgLoad) (h : CfgHdr) (tgt : Nat) (b : List Byte) (s : State), (nextFrame s l h 4 tgt b) ∧ (s.frameWaits 4 tgt b = []) ∧ (s.checkRoutes l h tgt b = none) ∧ (noLiveWrite s (posOfSlot (tgt % 4096)) (tgt / 2 ^ 16 % 8) (tgt / 2 ^ 20 % 16))) ∧
  (∃ (l : CfgLoad) (h : CfgHdr) (tgt : Nat) (b : List Byte) (s : State), (nextFrame s l h 5 tgt b) ∧ (s.frameWaits 5 tgt b = []) ∧ (s.checkMcell l h tgt b = none)) ∧
  (∃ (l : CfgLoad) (h : CfgHdr) (tgt : Nat) (b : List Byte) (s : State), (s.regsWf) ∧ (mwf (fun _ => Psq.reset) s.psq = true) ∧ (nextFrame s l h 6 tgt b) ∧ (s.checkImem l h tgt b = none)) ∧
  (∃ (l : CfgLoad) (h : CfgHdr) (n : Nat) (b : List Byte) (s : State), (mwf (fun _ => Psq.reset) s.psq = true) ∧ (nextFrame s l h 7 n b) ∧ (s.checkPsqConfig l h n b = none)) ∧
  (∃ (l : CfgLoad) (h : CfgHdr) (b : List Byte) (s : State), (nextFrame s l h 8 0 b) ∧ (s.checkSliceSite l h 0 b = none)) ∧
  (∃ (l : CfgLoad) (h : CfgHdr) (k : Nat) (b : List Byte) (s : State), (nextFrame s l h 9 k b) ∧ (s.checkInit l h k b = none) ∧ (s.frameWaits 9 k b = [])) ∧
  (∃ (l : CfgLoad) (h : CfgHdr) (s : State), (nextFrame s l h 15 0 [])) ∧
  (∃ (l : CfgLoad) (h : CfgHdr) (s : State), (s.regsWf) ∧ (s.cfg.load = some l) ∧ (l.hdr = some h) ∧ (l.ended = false) ∧ (l.headBad h = true) ∧ (loadInRange l) ∧ (noRetry l)) :=
  ⟨⟨{ frameLoad 1 1 0 (List.replicate 256 63 ++ List.replicate 127 62 ++ [0]) with frames := 0 }, (hdr 1), List.replicate 256 63 ++ List.replicate 127 62 ++ [0], (loading (rgn63 sB) ({ frameLoad 1 1 0 (List.replicate 256 63 ++ List.replicate 127 62 ++ [0]) with frames := 0 })), by decide +kernel⟩,
   ⟨(frameLoad 2 2 63 (leBytes 1 15 ++ [3, 0, 0] ++ leBytes 4 0xDEADBEEF ++ List.replicate 8 0)), (hdr 2), 63, leBytes 1 15 ++ [3, 0, 0] ++ leBytes 4 0xDEADBEEF ++ List.replicate 8 0, (loading (rgn63 sB) ((frameLoad 2 2 63 (leBytes 1 15 ++ [3, 0, 0] ++ leBytes 4 0xDEADBEEF ++ List.replicate 8 0)))), by decide⟩,
   ⟨(frameLoad 2 2 62 (leBytes 1 15 ++ [3, 0, 0] ++ leBytes 4 0xDEADBEEF ++ List.replicate 8 0)), (hdr 2), 62, leBytes 1 15 ++ [3, 0, 0] ++ leBytes 4 0xDEADBEEF ++ List.replicate 8 0, (loading (rgn63 sB) ((frameLoad 2 2 62 (leBytes 1 15 ++ [3, 0, 0] ++ leBytes 4 0xDEADBEEF ++ List.replicate 8 0)))), C.CFG_SCOPE, by decide⟩,
   ⟨(frameLoad 2 3 0x02070000 (leBytes 8 0x0145600000000000 ++ leBytes 8 1)), (hdr 2), 0x02070000, leBytes 8 0x0145600000000000 ++ leBytes 8 1, (loading (rgn63 sB) ((frameLoad 2 3 0x02070000 (leBytes 8 0x0145600000000000 ++ leBytes 8 1)))), by decide⟩,
   ⟨(frameLoad 2 3 0x01070000 (leBytes 8 0x0145600000000000)), (hdr 2), 0x01070000, leBytes 8 0x0145600000000000, ((loading ((rgn63 sB).setFld (F.FAB_RGN_DESC.STATE 63) 3) (frameLoad 2 3 0x01070000 (leBytes 8 0x0145600000000000))).setCtx 0 { CtxRegs.zero with active := 7 }), by decide⟩,
   ⟨(frameLoad 2 3 0x01070000 (leBytes 8 0x4045600000000000)), (hdr 2), 0x01070000, leBytes 8 0x4045600000000000, (loading (rgn63 sB) ((frameLoad 2 3 0x01070000 (leBytes 8 0x4045600000000000)))), C.FAB_OP_INVALID, by decide⟩,
   ⟨(frameLoad 2 4 0x00170000 (leBytes 24 1)), (hdr 2), 0x00170000, leBytes 24 1, (loading (rgn63 sB) ((frameLoad 2 4 0x00170000 (leBytes 24 1)))), by decide⟩,
   ⟨(frameLoad 2 5 (0x0FFE0000 + mSlot 0) (leBytes 8 0x1122334455667788)), (hdr 2), (0x0FFE0000 + mSlot 0), leBytes 8 0x1122334455667788, (loading (rgn63 sB) ((frameLoad 2 5 (0x0FFE0000 + mSlot 0) (leBytes 8 0x1122334455667788)))), by decide⟩,
   ⟨(frameLoad 2 6 0xFFFE000F (leBytes 8 0x1122334455667788)), (hdr 2), 0xFFFE000F, leBytes 8 0x1122334455667788, (loading (rgn63 sB) ((frameLoad 2 6 0xFFFE000F (leBytes 8 0x1122334455667788)))), by decide⟩,
   ⟨(frameLoad 2 7 15 (List.replicate 48 0)), (hdr 2), 15, List.replicate 48 0, (loading (rgn63 sB) ((frameLoad 2 7 15 (List.replicate 48 0)))), by decide⟩,
   ⟨(frameLoad 2 8 0 (List.replicate 255 0 ++ [0x10])), (hdr 2), List.replicate 255 0 ++ [0x10], (loading (rgn63 sB) ((frameLoad 2 8 0 (List.replicate 255 0 ++ [0x10])))), by decide⟩,
   ⟨(frameLoad 2 9 0 (leBytes 8 0x80 ++ (List.range 56).map (fun i => BitVec.ofNat 8 (if i % 8 < 4 then i else 0)))), (hdr 2), 0, leBytes 8 0x80 ++ (List.range 56).map (fun i => BitVec.ofNat 8 (if i % 8 < 4 then i else 0)), (loading (rgn63 sB) ((frameLoad 2 9 0 (leBytes 8 0x80 ++ (List.range 56).map (fun i => BitVec.ofNat 8 (if i % 8 < 4 then i else 0)))))), by decide⟩,
   ⟨(frameLoad 2 15 0 ([])), (hdr 2), (loading (rgn63 sB) ((frameLoad 2 15 0 ([])))), by decide⟩,
   ⟨{ frameLoad 2 15 0 ([]) with plain := [11, 0, 0, 0, 0, 0, 0, 0, 0, 0, 0, 0, 0, 0, 0, 0] }, (hdr 2), (loading (rgn63 sB) ({ frameLoad 2 15 0 ([]) with plain := [11, 0, 0, 0, 0, 0, 0, 0, 0, 0, 0, 0, 0, 0, 0, 0] })), by decide⟩⟩

/-- The hypotheses of every clause of Obligations.ConfigurationPortAndChain are met together. -/
theorem test_witness_ConfigurationPortAndChain :
  (∃ (s : State), (s.regsWf) ∧ (s.portReady = true) ∧ (s.loadBarred = none)) ∧
  (∃ (s : State), (s.bit F.CFG_PORT_CTRL.EN = true) ∧ (∀ len, s.cfg.port ≠ some (.load len))) ∧
  (∃ (s : State), (s.bit F.CFG_PORT_CTRL.EN = false)) ∧
  (∃ (s : State), (s.portReady = true)) ∧
  (∃ (s : State), (s.portReady = true) ∧ (s.allows .host .readBack = false)) ∧
  (∃ (s : State), (s.portReady = true) ∧ (s.allows .host .readBack = true) ∧ (s.bit F.CFG_PORT_CTRL.RB_EN = false)) ∧
  (∃ (addr : Word) (s : State) (u : State), (s.regsWf) ∧ (s.portReady = true) ∧ (s.bit F.CFG_PORT_CTRL.RB_EN = true) ∧ (s.bist.slices = []) ∧ (s.bist.held = []) ∧ (s.allows .host .readBack = true) ∧ (s.readBackOk = true) ∧ (u = s.writePlain R.FAB_RB_ADDR (addr.setWidth 64) (maskBits 0 32))) ∧
  (∃ (s : State), (s.portReady = false)) ∧
  (∃ (bs : List Byte) (b : List Byte) (st : Half) (c : CfgChain) (s : State) (s0 : State), (s.regsWf) ∧ (s.cfg.chain = some c) ∧ (s.cfg.load = none) ∧ (c.left = 0) ∧ (c.src < 2) ∧ (shortOf c.avail 16 = false) ∧ (s.srcRead c.src c.base 16 st.toNat bs = (0, b, s0)) ∧ (b.length = 16) ∧ (b.take 4 = [0x55, 0x4D, 0x43, 0x45]) ∧ (s.bit F.CFG_CHAIN.DN_EN = false)) ∧
  (∃ (s : State), (s.regsWf) ∧ (s.bit F.CFG_STAT.CHAIN = false)) ∧
  (∃ (s : State), (s.regsWf) ∧ (s.bit F.CFG_STAT.CHAIN = true)) ∧
  (∃ (pre : List Byte), (∀ b ∈ pre, b ≠ 0x5A)) ∧
  (∃ (o : Byte), (o ∉ ([0x10, 0x20, 0x30, 0x40] : List Byte))) :=
  ⟨⟨sB, by decide⟩,
   ⟨(sB.setFlds [(F.CFG_PORT_CTRL.EN, 1)]), ⟨by decide, fun _ h => nomatch h⟩⟩,
   ⟨(sB.setFlds [(F.CFG_PORT_CTRL.EN, 0)]), by decide⟩,
   ⟨sB, by decide⟩,
   ⟨({ sB with dev := .boot } : State), by decide⟩,
   ⟨(sB.setFlds [(F.CFG_PORT_CTRL.RB_EN, 0)]), by decide⟩,
   ⟨0, (({ sB with bist := { sB.bist with slices := [], held := [] } } : State).setFlds [(F.CFG_PORT_CTRL.RB_EN, 1)]), sB, by decide⟩,
   ⟨(sB.setFld F.CFG_PORT_CTRL.EN 0), by decide⟩,
   ⟨[], [0x55, 0x4D, 0x43, 0x45, 0, 0, 0, 0, 0, 0, 0, 0, 0, 0, 0, 0], 0, ⟨some .host, 0, false, false, 0, none, [], 0, 0, false, 0⟩, ((memUp ({ sB with cfg := { sB.cfg with chain := some ⟨some .host, 0, false, false, 0, none, [], 0, 0, false, 0⟩ } } : State)).setDpaBytes 0 [0x55, 0x4D, 0x43, 0x45, 0, 0, 0, 0, 0, 0, 0, 0, 0, 0, 0, 0]), (((memUp ({ sB with cfg := { sB.cfg with chain := some ⟨some .host, 0, false, false, 0, none, [], 0, 0, false, 0⟩ } } : State)).setDpaBytes 0 [0x55, 0x4D, 0x43, 0x45, 0, 0, 0, 0, 0, 0, 0, 0, 0, 0, 0, 0])).tookFree, by decide⟩,
   ⟨(sB.setFlds [(F.CFG_STAT.CHAIN, 0)]), by decide⟩,
   ⟨(sB.setFlds [(F.CFG_STAT.CHAIN, 1)]), by decide⟩,
   ⟨[], by decide⟩,
   ⟨0, by decide⟩⟩

/-- The hypotheses of every clause of Obligations.StartAttempts are met together. -/
theorem test_witness_StartAttempts :
  (∃ (s : State), (s.regsWf) ∧ (s.dev = .off) ∧ (s.sec.vbatEvents = 0)) ∧
  (∃ (s : State), (s.regsWf) ∧ (s.dev ≠ .off)) ∧
  (∃ (s : State), (s.regsWf) ∧ (s.dev ≠ .off) ∧ (s.dev ≠ .boot) ∧ (s.sec.testHold = false)) ∧
  (∃ (s : State), (s.regsWf) ∧ (s.dev ≠ .off) ∧ (s.sec.testHold = true)) ∧
  (∃ (s : State), (s.regsWf) ∧ (s.dev ≠ .off) ∧ (s.dev ≠ .boot) ∧ (s.sec.testHold = false)) ∧
  (∃ (s : State), (s.regsWf) ∧ (s.dev = .boot) ∧ (s.sec.testHold = false) ∧ (s.bit F.SEC_BOOT_CFG.WDT_EN = true)) ∧
  (∃ (code : Half) (s : State), (s.regsWf) ∧ (s.dev = .boot) ∧ (s.sec.testHold = false) ∧ (s.sec.fwBad = none) ∧ (code ≠ 0)) ∧
  (∃ (x : SelfTest) (s : State), (s.regsWf) ∧ (s.dev = .boot) ∧ (s.sec.testHold = false) ∧ (s.sec.fwBad = none) ∧ (s.sec.slot ≠ 0xFF) ∧ (s.startLedger = none) ∧ (∀ c < 8, s.chanState c = 2) ∧ (x.tck.fails = []) ∧ (x.tck.complete = true)) ∧
  (∃ (x : SelfTest) (s : State), (s.regsWf) ∧ (s.dev = .boot) ∧ (s.sec.testHold = false) ∧ (s.sec.fwBad = none) ∧ (s.sec.slot ≠ 0xFF) ∧ (s.startLedger = none) ∧ (∀ c < 8, s.chanState c = 2) ∧ (x.tck.fails ≠ [])) ∧
  (∃ (s : State), (s.regsWf) ∧ (s.dev = .boot) ∧ (s.sec.testHold = false) ∧ (s.sec.fwBad = none) ∧ (s.sec.slot ≠ 0xFF) ∧ (∃ c < 8, s.chanState c = 4)) ∧
  (∃ (s : State), (s.regsWf) ∧ (s.dev = .boot) ∧ (s.sec.testHold = false) ∧ (s.sec.fwBad = none) ∧ (s.sec.slot ≠ 0xFF) ∧ (∀ c < 8, s.chanState c ≠ 4) ∧ (∃ c < 8, s.chanState c ≠ 2)) ∧
  (∃ (s : State), (s.regsWf) ∧ (s.dev = .boot) ∧ (s.sec.testHold = false) ∧ (s.sec.fwBad = none) ∧ (s.sec.slot = 0xFF)) ∧
  (∃ (s : State), (s.dev ≠ .boot)) :=
  ⟨⟨({ State.reset with dev := .off } : State), by decide⟩,
   ⟨sB, by decide⟩,
   ⟨sB, by decide⟩,
   ⟨({ sB with sec := { sB.sec with testHold := true } } : State), by decide⟩,
   ⟨(memUp sB), by decide⟩,
   ⟨(({ sB with dev := .boot } : State).setFld F.SEC_BOOT_CFG.WDT_EN 1), by decide⟩,
   ⟨0x1234, ({ sB with dev := .boot } : State), by decide⟩,
   ⟨selfOk, (({ State.reset with sec := { State.reset.sec with slot := 0 }, aux := { State.reset.aux with flash := [(0xEFE000, some 1), (0xEFF000, some 1)] } } : State).setFlds ((List.range 8).map (fun c => (F.MEMC_STAT.STATE c, 2)))), by decide⟩,
   ⟨{ selfOk with tck := ⟨[1], true, 0, 0⟩ }, (({ State.reset with sec := { State.reset.sec with slot := 0 }, aux := { State.reset.aux with flash := [(0xEFE000, some 1), (0xEFF000, some 1)] } } : State).setFlds ((List.range 8).map (fun c => (F.MEMC_STAT.STATE c, 2)))), by decide⟩,
   ⟨(({ State.reset with sec := { State.reset.sec with slot := 0 }, aux := { State.reset.aux with flash := [(0xEFE000, some 1), (0xEFF000, some 1)] } } : State).setFld (F.MEMC_STAT.STATE 7) 4), by decide⟩,
   ⟨(({ State.reset with sec := { State.reset.sec with slot := 0 } } : State).setFld F.SEC_BOOT_STAT.STAGE 5), by decide⟩,
   ⟨State.reset, by decide⟩,
   ⟨sB, by decide⟩⟩

/-- The hypotheses of every clause of Obligations.SecurityMailbox are met together. -/
theorem test_witness_SecurityMailbox :
  (∃ (s : State), (s.regsWf) ∧ (mboxReady s 1 0)) ∧
  (∃ (s : State), (s.regsWf) ∧ (mboxReady s 2 0)) ∧
  (∃ (s : State), (s.regsWf) ∧ (mboxReady s 3 0)) ∧
  (∃ (s : State), (s.regsWf) ∧ (mboxReady s 4 0)) ∧
  (∃ (s : State), (s.regsWf) ∧ (mboxReady s 6 0)) ∧
  (∃ (s : State), (s.regsWf) ∧ (mboxReady s 7 0)) ∧
  (∃ (s : State) (k : Byte), (s.regsWf) ∧ (mboxReady s 8 k.toNat)) ∧
  (∃ (s : State) (k : Byte), (s.regsWf) ∧ (mboxReady s 9 k.toNat)) ∧
  (∃ (s : State) (k : Byte), (s.regsWf) ∧ (mboxReady s 10 k.toNat)) ∧
  (∃ (s : State), (s.regsWf) ∧ (mboxReady s 11 0)) ∧
  (∃ (s : State), (s.regsWf) ∧ (mboxReady s 12 0)) ∧
  (∃ (s : State), (s.regsWf) ∧ (mboxReady s 5 0)) ∧
  (∃ (s : State), (s.regsWf) ∧ (s.bit F.SEC_MBOX_STAT.BUSY = true)) ∧
  (∃ (s : State), (s.regsWf) ∧ (s.bit F.SEC_MBOX_STAT.BUSY = false) ∧ (s.mboxOpen 4 0 = false)) ∧
  (∃ (m : MboxCmd) (s : State), (s.regsWf) ∧ (s.sec.mbox = some m) ∧ (s.dev ≠ .boot) ∧ (m.op = 12)) ∧
  (∃ (m : MboxCmd) (s : State), (s.regsWf) ∧ (s.sec.mbox = some m) ∧ (s.dev ≠ .boot) ∧ (m.op = 2) ∧ (s.sec.log.take (m.len / 96) ≠ []) ∧ ((s.sec.log.take (m.len / 96)).flatten ≠ []) ∧ (memCheck s s.mboxNi m.addr (s.sec.log.take (m.len / 96)).flatten.length true = 0)) ∧
  (∃ (m : MboxCmd) (s : State), (s.regsWf) ∧ (s.sec.mbox = some m) ∧ (s.dev ≠ .boot) ∧ (m.op = 6) ∧ (memCheck s s.mboxNi m.addr 192 false = 0) ∧ (s.bit F.SEC_FUSE_STAT.ENROL_LOCK = false) ∧ (s.fld F.SEC_FUSE_STAT.OWNER0 = 0)) ∧
  (∃ (m : MboxCmd) (s : State), (s.regsWf) ∧ (s.sec.mbox = some m) ∧ (s.dev ≠ .boot) ∧ (m.op = 10)) ∧
  (∃ (m : MboxCmd) (s : State), (s.regsWf) ∧ (s.sec.mbox = some m) ∧ (s.dev ≠ .boot) ∧ (m.op = 3) ∧ (memCheck s s.mboxNi m.addr 96 true = 0)) ∧
  (∃ (m : MboxCmd) (img : List Byte) (s : State), (s.regsWf) ∧ (s.sec.mbox = some m) ∧ (s.dev ≠ .boot) ∧ (m.op = 11) ∧ (m.len ≠ 0) ∧ (memCheck s s.mboxNi m.addr m.len false = 0) ∧ (img = s.dpaBytes m.addr m.len) ∧ (s.fwBadHeader img 1 1 (512 * 1024) = false) ∧ (224 + numAt img 16 4 ≤ m.len)) ∧
  (∃ (m : MboxCmd) (img : List Byte) (s : State), (s.regsWf) ∧ (s.sec.mbox = some m) ∧ (s.dev = .twilight) ∧ (m.op = 4) ∧ (m.len ≠ 0) ∧ (memCheck s s.mboxNi m.addr m.len false = 0) ∧ (img = s.dpaBytes m.addr m.len) ∧ (224 + numAt img 16 4 ≤ m.len)) ∧
  (∃ (s : State), (s.sec.mbox = none ∨ s.dev = .boot)) :=
  ⟨⟨(sB.setFlds [(F.SEC_MBOX_LEN.BYTES, 224)]), by decide⟩,
   ⟨(sB.setFlds [(F.SEC_MBOX_LEN.BYTES, 224)]), by decide⟩,
   ⟨(sB.setFlds [(F.SEC_MBOX_LEN.BYTES, 224)]), by decide⟩,
   ⟨(({ sB with dev := .twilight } : State).setFlds [(F.SEC_MBOX_LEN.BYTES, 224), (F.SEC_MBOX_ADDR.ADDR, 0x4000000000)]), by decide⟩,
   ⟨(sB.setFlds [(F.SEC_MBOX_LEN.BYTES, 224)]), by decide⟩,
   ⟨(sB.setFlds [(F.SEC_MBOX_LEN.BYTES, 224)]), by decide⟩,
   ⟨(sB.setFlds [(F.SEC_MBOX_LEN.BYTES, 224)]), 2, by decide⟩,
   ⟨(sB.setFlds [(F.SEC_MBOX_LEN.BYTES, 224)]), 1, by decide⟩,
   ⟨(sB.setFlds [(F.SEC_MBOX_LEN.BYTES, 224)]), 7, by decide⟩,
   ⟨(sB.setFlds [(F.SEC_MBOX_LEN.BYTES, 224)]), by decide⟩,
   ⟨(sB.setFlds [(F.SEC_MBOX_LEN.BYTES, 224)]), by decide⟩,
   ⟨(({ sB with dev := .twilight } : State).setFlds [(F.SEC_MBOX_LEN.BYTES, 224), (F.SEC_MBOX_ADDR.ADDR, 0x4000000000)]), by decide⟩,
   ⟨(sB.setFlds [(F.SEC_MBOX_STAT.BUSY, 1)]), by decide⟩,
   ⟨(sB.setFlds [(F.SEC_MBOX_STAT.BUSY, 0)]), by decide⟩,
   ⟨(mbox 12 0 0 0), (mboxUp sB (mbox 12 0 0 0)), by decide⟩,
   ⟨(mbox 2 0 0 96), (mboxUp ({ memUp sB with sec := { sB.sec with log := [[1, 2, 3, 4]] } } : State) (mbox 2 0 0 96)), by decide⟩,
   ⟨(mbox 6 0 0x1000 192), (mboxUp (memUp sB) (mbox 6 0 0x1000 192)), by decide⟩,
   ⟨(mbox 10 5 0 0), (mboxUp sB (mbox 10 5 0 0)), by decide⟩,
   ⟨mbox 3 0 0x1000 96, (mboxUp (memUp sB) (mbox 3 0 0x1000 96)), by decide⟩,
   ⟨mbox 11 0 0x1000 240, padTo 240 ([0x55, 0x4D, 0x46, 0x57, 1, 0, 0x80, 0, 0x5A, 0, 0x40, 0x88, 1, 1, 0, 0] ++ leBytes 4 16 ++ leBytes 4 0 ++ leBytes 4 0 ++ List.replicate 212 0), ((mboxUp (memUp sB) (mbox 11 0 0x1000 240)).setDpaBytes 0x1000 ([0x55, 0x4D, 0x46, 0x57, 1, 0, 0x80, 0, 0x5A, 0, 0x40, 0x88, 1, 1, 0, 0] ++ leBytes 4 16 ++ leBytes 4 0 ++ leBytes 4 0 ++ List.replicate 212 0)), by decide⟩,
   ⟨mbox 4 0 0x1000 240, padTo 240 ([0x55, 0x4D, 0x46, 0x57, 1, 0, 0x80, 0, 0x5A, 0, 0x40, 0x88, 1, 1, 0, 0] ++ leBytes 4 16 ++ leBytes 4 0 ++ leBytes 4 0 ++ List.replicate 212 0), ((mboxUp (memUp ({ sB with dev := .twilight } : State)) (mbox 4 0 0x1000 240)).setDpaBytes 0x1000 ([0x55, 0x4D, 0x46, 0x57, 1, 0, 0x80, 0, 0x5A, 0, 0x40, 0x88, 1, 1, 0, 0] ++ leBytes 4 16 ++ leBytes 4 0 ++ leBytes 4 0 ++ List.replicate 212 0)), by decide⟩,
   ⟨sB, by decide⟩⟩

/-- The hypotheses of every clause of Obligations.TamperTestModeAndTap are met together. -/
theorem test_witness_TamperTestModeAndTap :
  (∃ (s : State), (s.regsWf) ∧ (s.sec.tamperLow = false) ∧ (s.dev ≠ .off) ∧ (s.bit F.SEC_TAMPER_CFG.FATAL = false)) ∧
  (∃ (s : State), (s.regsWf) ∧ (s.sec.tamperLow = false) ∧ (s.dev = .off)) ∧
  (∃ (ir : Byte) (s : State), (s.regsWf) ∧ (boundaryScan ir = false) ∧ (s.dev ≠ .off) ∧ (s.bit F.SEC_FUSE_STAT.JTAG_LOCK = true)) ∧
  (∃ (ir : Byte) (s : State), (s.regsWf) ∧ (boundaryScan ir = false) ∧ (s.dev ≠ .off) ∧ (s.bit F.SEC_FUSE_STAT.JTAG_LOCK = false) ∧ (s.sec.testHold = false) ∧ (s.bist.blow = []) ∧ (s.sec.mbox = none)) ∧
  (∃ (trst : Bool) (ir : Byte) (s : State), (s.regsWf) ∧ (trst = true ∨ boundaryScan ir = true) ∧ (s.sec.testHold = true)) ∧
  (∃ (s : State), (s.dev ≠ .off) ∧ (s.sec.testHold = false)) ∧
  (∃ (s : State), (s.dev = .off)) :=
  ⟨⟨(({ sB with sec := { sB.sec with tamperLow := false } } : State).setFlds [(F.SEC_TAMPER_CFG.FATAL, 0)]), by decide⟩,
   ⟨({ sB with dev := .off } : State), by decide⟩,
   ⟨0x10, (sB.setFld F.SEC_FUSE_STAT.JTAG_LOCK 1), by decide⟩,
   ⟨0x10, (sB.setFld F.SEC_FUSE_STAT.JTAG_LOCK 0), by decide⟩,
   ⟨false, 0, ({ sB with sec := { sB.sec with testHold := true } } : State), by decide⟩,
   ⟨({ sB with sec := { sB.sec with testHold := false } } : State), by decide⟩,
   ⟨({ sB with dev := .off } : State), by decide⟩⟩

/-- The hypotheses of every clause of Obligations.CascadePortsAndBlocks are met together. -/
theorem test_witness_CascadePortsAndBlocks :
  (∃ (p : Fin 8) (s : State), (s.regsWf) ∧ (bitOf (s.fld F.CSC_CFG.PORT_EN) p = true) ∧ (bitOf (s.fld F.PWR_DOM_STAT.ON) 19 = true) ∧ ((s.cport p).lanes = 15) ∧ (s.portUp p = false)) ∧
  (∃ (p : Fin 8) (s : State), (s.regsWf) ∧ (s.portUp p = true) ∧ (s.fld (F.CSC_PORT_STAT.USE p) = 0) ∧ (s.fld F.CSC_STAT.CSTATE ≠ 1) ∧ (s.bit F.CSC_STAT.POLE = true → s.fld F.CSC_STAT.CSTATE ≠ 2 ∧ (s.cport p).cal = none)) ∧
  (∃ (p : Fin 8) (s : State), (s.regsWf) ∧ (s.portUp p = true) ∧ (s.fld (F.CSC_PORT_STAT.USE p) = 1) ∧ (s.fld F.CSC_STAT.CSTATE ≠ 1)) ∧
  (∃ (p : Fin 8) (s : State), (s.regsWf) ∧ (s.portUp p = true) ∧ ((s.cport p).unacked ≠ [])) ∧
  (∃ (p : Fin 8) (s : State), ((s.cport p).unacked = [])) ∧
  (∃ (b : BitVec 40) (v : Nat), (ctlField 0x1E b = some v)) ∧
  (∃ (p : Fin 8) (b : BitVec 40) (v : Nat) (s : State), (ctlField 0x2D b = some v) ∧ (s.portUp p = true)) ∧
  (∃ (b : BitVec 40) (s : State), (crc8 (b.toNat / 256) 32 0 ≠ b.toNat % 256) ∧ (s.regsWf)) ∧
  (∃ (p : Fin 8) (b : BitVec 40) (ta : Nat) (s : State), (ctlField 0x33 b = some ta) ∧ (s.portUp p = true) ∧ ((s.cport p).cal.isSome = true) ∧ ((s.cport p).loops.length < 63)) ∧
  (∃ (p : Fin 8) (b : BitVec 40) (ta : Nat) (s : State), (s.regsWf) ∧ (ctlField 0x33 b = some ta) ∧ (s.portUp p = true) ∧ ((s.cport p).cal.isSome = true) ∧ ((s.cport p).loops.length = 63) ∧ (s.bit F.CSC_STAT.POLE = false)) ∧
  (∃ (p : Fin 8) (seq : Fin 1024) (bs : List Byte) (k : CscPkt) (s : State), (wfPacket bs = true) ∧ (s.portUp p = true) ∧ (parsePacket bs = some k) ∧ (k.op.toNat ∈ packetOps) ∧ (k.dst = 0xFE) ∧ ((s.cport p).rxSeq = seq.val)) ∧
  (∃ (p : Fin 8) (bs : List Byte) (s : State), (s.regsWf) ∧ (wfPacket bs = true) ∧ (s.portUp p = true) ∧ (parsePacket bs = none)) ∧
  (∃ (p : Fin 8) (b : BitVec 40) (v : Nat) (n : Nat) (k : CscPkt) (rest : List (Nat × Nat × CscPkt)) (s : State), (ctlField 0x55 b = some v) ∧ ((s.cport p).unacked = (v % 1024, n, k) :: rest) ∧ (rest.length < 64)) ∧
  (∃ (p : Fin 8) (b : BitVec 40) (v : Nat) (n : Nat) (k : CscPkt) (rest : List (Nat × Nat × CscPkt)) (s : State), (s.regsWf) ∧ (ctlField 0x66 b = some v) ∧ ((s.cport p).unacked = (v % 1024, n, k) :: rest) ∧ (rest.length < 64) ∧ (∀ e ∈ (s.cport p).unacked, e.1 ≠ (v % 1024 + 1023) % 1024 ∧ e.2.1 < 7)) ∧
  (∃ (p : Fin 8) (f : BitVec 24) (tag : Nat) (grp : Byte) (s : State), (voteDecode f = some (true, tag, grp)) ∧ (voteFixes f = 0) ∧ (s.portUp p = true) ∧ (s.fld F.CSC_STAT.CSTATE ≠ 2) ∧ (s.fld (F.CSC_PORT_STAT.USE p) = 2) ∧ (s.formed = true → tag = s.dueTag p 2)) ∧
  (∃ (p : Fin 8) (f : BitVec 24) (tag : Nat) (grp : Byte) (s : State) (u : Nat), (voteDecode f = some (true, tag, grp)) ∧ (voteFixes f = 0) ∧ (s.portUp p = true) ∧ (s.fld F.CSC_STAT.CSTATE ≠ 2) ∧ (s.fld (F.CSC_PORT_STAT.USE p) = u) ∧ (u = 1 ∨ u = 2) ∧ (s.formed = true) ∧ (tag ≠ s.dueTag p u)) ∧
  (∃ (p : Fin 8) (f : BitVec 24) (tag : Nat) (grp : Byte) (s : State), (voteDecode f = some (true, tag, grp)) ∧ (voteFixes f = 0) ∧ (s.portUp p = true) ∧ (s.fld F.CSC_STAT.CSTATE ≠ 2) ∧ (s.fld (F.CSC_PORT_STAT.USE p) = 1) ∧ (s.csc.cutAt = none) ∧ (s.formed = false)) ∧
  (∃ (p : Fin 8) (f : BitVec 24) (tag : Nat) (grp : Byte) (s : State), (voteDecode f = some (true, tag, grp)) ∧ (voteFixes f = 0) ∧ (s.portUp p = true) ∧ (s.fld F.CSC_STAT.CSTATE ≠ 2) ∧ (s.fld (F.CSC_PORT_STAT.USE p) = 1) ∧ (s.csc.cutAt = none) ∧ (s.formed = true) ∧ (tag = s.dueTag p 1)) ∧
  (∃ (f : BitVec 24), (voteDecode f = none) ∧ (voteFixes f = 0)) ∧
  (∃ (f : BitVec 24) (s : State), (voteDecode f = none) ∧ (voteFixes f ≠ 0) ∧ (s.regsWf)) ∧
  (∃ (u : Nat), (u ≠ 1)) ∧
  (∃ (u : Nat), (u = 1)) ∧
  (∃ (p : Fin 8) (s : State), (s.formed = true) ∧ (p.val ∈ s.formedPorts) ∧ ((s.cport p).lostAt = some s.tick)) ∧
  (∃ (p : Fin 8) (s : State), (s.regsWf) ∧ (s.formed = true) ∧ (p.val ∈ s.formedPorts) ∧ ((s.cport p).lostAt = some (s.tick - 1))) ∧
  (∃ (p : Fin 8) (s : State), (s.formed = true) ∧ (p.val ∈ s.formedPorts) ∧ ((s.cport p).lostAt ≠ some (s.tick - 1)) ∧ ((s.cport p).lostAt ≠ some s.tick)) ∧
  (∃ (s : State), (s.formed = false)) ∧
  (∃ (p : Fin 8) (b : BitVec 40) (v : Nat) (s : State), (ctlField 0x78 b = some v) ∧ (s.formed = true) ∧ (p.val ∈ s.formedPorts) ∧ (∀ h ∈ s.csc.holds, h.eff ≠ BitVec.ofNat 64 (s.tagAhead (v / 2 ^ 16 % 64)) ∨ h.origin ≠ v % 32)) ∧
  (∃ (h : CscHold) (s : State), (s.regsWf) ∧ (s.csc.holds = [h]) ∧ (h.eff = s.tick) ∧ (h.kind < 4) ∧ (h.origin < 32) ∧ (h.code < 65536)) ∧
  (∃ (s : State), (∀ h ∈ s.csc.holds, s.tick.toNat < h.eff.toNat)) ∧
  (∃ (p : Fin 8) (b : BitVec 40) (v : Nat) (s : State), (s.regsWf) ∧ (ctlField 0x87 b = some v) ∧ (s.fld (F.CSC_PORT_STAT.USE p) = 2) ∧ (∀ n < 16, s.siteActive n = false) ∧ (s.cfg.chain = none) ∧ (s.bit F.CSC_STAT.POLE = false) ∧ (s.csc.members = []) ∧ (s.fld (F.CSC_PORT_STAT.PEER p) = v % 32)) ∧
  (∃ (p : Fin 8) (b : BitVec 40) (v : Nat) (s : State), (ctlField 0x87 b = some v) ∧ (s.fld (F.CSC_PORT_STAT.USE p) = 0)) :=
  ⟨⟨0, ((sB.setFlds [(F.CSC_CFG.PORT_EN, (2^(((0 : Fin 8)) : Nat))), (F.PWR_DOM_STAT.ON, (2^(19 : Nat))), ((F.CSC_PORT_STAT.LSTATE ((0 : Fin 8))), 0)]).setCport 0 { CscPort.reset with lanes := 15 }), by decide⟩,
   ⟨0, (sB.setFlds [((F.CSC_PORT_STAT.LSTATE ((0 : Fin 8))), 2), ((F.CSC_PORT_STAT.USE ((0 : Fin 8))), 0)]), by decide⟩,
   ⟨0, (sB.setFlds [((F.CSC_PORT_STAT.LSTATE ((0 : Fin 8))), 2), ((F.CSC_PORT_STAT.USE ((0 : Fin 8))), 1)]), by decide⟩,
   ⟨0, ((sB.setFlds [((F.CSC_PORT_STAT.LSTATE ((0 : Fin 8))), 2)]).setCport 0 { CscPort.reset with unacked := [(3, 1, pk 1 0 [])] }), by decide⟩,
   ⟨0, sB, by decide⟩,
   ⟨ctl 0x1E 2, 2, by decide⟩,
   ⟨0, ctl 0x2D 0x123, 0x123, (sB.setFlds [((F.CSC_PORT_STAT.LSTATE ((0 : Fin 8))), 2)]), by decide⟩,
   ⟨1, sB, by decide⟩,
   ⟨0, ctl 0x33 0x123, 0x123, ((sB.setFlds [((F.CSC_PORT_STAT.LSTATE ((0 : Fin 8))), 2)]).setCport 0 { CscPort.reset with cal := some 5 }), by decide⟩,
   ⟨0, ctl 0x33 0x123, 0x123, ((sB.setFlds [((F.CSC_PORT_STAT.LSTATE ((0 : Fin 8))), 2), (F.CSC_STAT.POLE, 0)]).setCport 0 { CscPort.reset with cal := some 5, loops := List.replicate 63 200 }), by decide⟩,
   ⟨0, 0, (pk 1 0x5 [1,2]).bytes, pk 1 0x5 [1,2], (sB.setFlds [((F.CSC_PORT_STAT.LSTATE ((0 : Fin 8))), 2)]), by set_option maxRecDepth 30000 in decide⟩,
   ⟨0, List.replicate 20 1, (sB.setFlds [((F.CSC_PORT_STAT.LSTATE ((0 : Fin 8))), 2)]), by decide⟩,
   ⟨0, ctl 0x55 3, 3, 1, pk 1 0 [], [(4,1,pk 2 0 [])], sB.setCport 0 { CscPort.reset with unacked := [(3,1,pk 1 0 []),(4,1,pk 2 0 [])] }, by decide⟩,
   ⟨0, ctl 0x66 3, 3, 1, pk 1 0 [], [(4,1,pk 2 0 [])], sB.setCport 0 { CscPort.reset with unacked := [(3,1,pk 1 0 []),(4,1,pk 2 0 [])] }, by decide⟩,
   ⟨0, voteField true 9 0x81, 9, 0x81, (sB.setFlds [((F.CSC_PORT_STAT.LSTATE ((0 : Fin 8))), 2), ((F.CSC_PORT_STAT.USE ((0 : Fin 8))), 2)]), by decide⟩,
   ⟨0, voteField true 9 0x81, 9, 0x81, (sB.setFlds [(F.CSC_PORT_STAT.LSTATE 0, 2), (F.CSC_PORT_STAT.USE 0, 1), (F.CSC_STAT.CSTATE, 3)]), 1, by decide⟩,
   ⟨0, voteField true 9 0x81, 9, 0x81, (({ sB with csc := { sB.csc with cutAt := none } } : State).setFlds [((F.CSC_PORT_STAT.LSTATE ((0 : Fin 8))), 2), ((F.CSC_PORT_STAT.USE ((0 : Fin 8))), 1), (F.CSC_STAT.CSTATE, 0)]), by decide⟩,
   ⟨0, voteField true 4 0x81, 4, 0x81, (({ sB with csc := { sB.csc with cutAt := none } } : State).setFlds [((F.CSC_PORT_STAT.LSTATE ((0 : Fin 8))), 2), ((F.CSC_PORT_STAT.USE ((0 : Fin 8))), 1), (F.CSC_STAT.CSTATE, 3)]), by decide⟩,
   ⟨0xF, by decide⟩,
   ⟨0x300F, sB, by decide⟩,
   ⟨0, by decide⟩,
   ⟨1, by decide⟩,
   ⟨0, (({ (sB.setFlds [(F.CSC_STAT.CSTATE, 3), (F.CSC_PORT_STAT.LSTATE 0, 2), (F.CSC_PORT_STAT.USE 0, 2)]) with tick := 5 } : State).setCport 0 { CscPort.reset with lostAt := some 5 }), by decide⟩,
   ⟨0, (({ (sB.setFlds [(F.CSC_STAT.CSTATE, 3), (F.CSC_PORT_STAT.LSTATE 0, 2), (F.CSC_PORT_STAT.USE 0, 2)]) with tick := 5 } : State).setCport 0 { CscPort.reset with lostAt := some 4 }), by decide⟩,
   ⟨0, ((sB.setFlds [(F.CSC_STAT.CSTATE, 3)]).setFld (F.CSC_PORT_STAT.USE 0) 1), by decide⟩,
   ⟨(sB.setFlds [(F.CSC_STAT.CSTATE, 0)]), by decide⟩,
   ⟨0, ctl 0x78 0x490301, 0x490301, ((sB.setFlds [(F.CSC_STAT.CSTATE, 3)]).setFld (F.CSC_PORT_STAT.USE 0) 1), by decide⟩,
   ⟨⟨1, 2, 3, 4, 0⟩, ({ sB with csc := { sB.csc with holds := [⟨1, 2, 3, 4, 0⟩] } } : State), by decide⟩,
   ⟨sB, by decide⟩,
   ⟨0, ctl 0x87 2, 2, ((({ sB with cfg := { sB.cfg with chain := none }, csc := { sB.csc with members := [] } } : State).setFlds [((F.CSC_PORT_STAT.USE ((0 : Fin 8))), 2), (F.CSC_STAT.POLE, 0), ((F.CSC_PORT_STAT.PEER ((0 : Fin 8))), (2) % 32)]).setFld (F.CSC_PORT_STAT.PEER 0) 2), by decide⟩,
   ⟨0, ctl 0x87 2, 2, (sB.setFlds [((F.CSC_PORT_STAT.USE ((0 : Fin 8))), 0)]), by decide⟩⟩

/-- The hypotheses of every clause of Obligations.CascadePacketsAreServed are met together. -/
theorem test_witness_CascadePacketsAreServed :
  (∃ (st : Half) (p : Nat) (k : CscPkt) (rest : List (Nat × CscPkt)) (s : State), (gets s p k rest) ∧ (k.op = 0x01) ∧ (s.formed = true) ∧ (st.toNat ≠ C.MEM_CE) ∧ (memStatus s (cascadeNi p) (k.arg.toNat % 2 ^ 38) (k.arg.toNat / 2 ^ 40 % 256 + 1) false st.toNat = 0)) ∧
  (∃ (st : Half) (p : Nat) (k : CscPkt) (rest : List (Nat × CscPkt)) (s : State), (gets s p k rest) ∧ (k.op = 0x02) ∧ (s.formed = true) ∧ (st.toNat ≠ C.MEM_CE) ∧ (memStatus s (cascadeNi p) (k.arg.toNat % 2 ^ 38) (k.arg.toNat / 2 ^ 40 % 256 + 1) true st.toNat = 0)) ∧
  (∃ (p : Nat) (k : CscPkt) (rest : List (Nat × CscPkt)) (s : State), (gets s p k rest) ∧ (s.formed = false) ∧ (k.op = 0x01)) ∧
  (∃ (p : Nat) (k : CscPkt) (rest : List (Nat × CscPkt)) (s : State), (gets s p k rest) ∧ (s.formed = false) ∧ (k.op = 0x02)) ∧
  (∃ (p : Nat) (k : CscPkt) (rest : List (Nat × CscPkt)) (s : State), (gets s p k rest) ∧ (k.op = 0x03)) ∧
  (∃ (s : State), (s.csc.inbox = [])) ∧
  (∃ (p : Nat) (k : CscPkt) (rest : List (Nat × CscPkt)) (s : State), (gets s p k rest) ∧ (k.op = 0x08) ∧ (s.bit F.CFG_CHAIN.UP_EN = false ∨ s.fld F.CFG_CHAIN.UP_PORT ≠ p)) ∧
  (∃ (p : Nat) (k : CscPkt) (rest : List (Nat × CscPkt)) (s : State) (c : CfgChain), (gets s p k rest) ∧ (k.op = 0x08) ∧ (s.bit F.CFG_CHAIN.UP_EN = true) ∧ (s.fld F.CFG_CHAIN.UP_PORT = p) ∧ (s.cfg.deaf = false) ∧ (s.cfg.chain = some c) ∧ (c.src = 3)) ∧
  (∃ (p : Nat) (k : CscPkt) (rest : List (Nat × CscPkt)) (s : State), (s.regsWf) ∧ (gets s p k rest) ∧ (k.op = 0x16)) ∧
  (∃ (g : Fin 16) (s : State), (∀ n < 16, s.siteActive n = false) ∧ (s.bit F.CSC_STAT.POLE = false) ∧ (8 ≤ g.val ∨ s.fld F.CSC_STAT.CSTATE = 0) ∧ (s.regsWf)) ∧
  (∃ (g : Fin 16) (n : Nat) (s : State), (n < 16) ∧ (s.siteActive n = true) ∧ (s.effFld n (F.PSQ_VOTE_CFG.GROUP n) = g.val)) ∧
  (∃ (p : Nat) (k : CscPkt) (rest : List (Nat × CscPkt)) (s : State), (gets s p k rest) ∧ (s.formed = false) ∧ (k.op = 0x18)) ∧
  (∃ (p : Nat) (k : CscPkt) (rest : List (Nat × CscPkt)) (s : State), (gets s p k rest) ∧ (s.formed = false) ∧ (k.op = 0x19)) ∧
  (∃ (p : Nat) (k : CscPkt) (rest : List (Nat × CscPkt)) (s : State), (gets s p k rest) ∧ (s.formed = true) ∧ (k.op = 0x18)) ∧
  (∃ (p : Nat) (k : CscPkt) (rest : List (Nat × CscPkt)) (s : State), (gets s p k rest) ∧ (s.formed = true) ∧ (k.op = 0x19) ∧ (remoteBarred (k.arg.toNat % 2 ^ 26) = false)) ∧
  (∃ (p : Nat) (k : CscPkt) (rest : List (Nat × CscPkt)) (s : State), (gets s p k rest) ∧ (s.formed = true) ∧ (k.op = 0x19) ∧ (remoteBarred (k.arg.toNat % 2 ^ 26) = true)) ∧
  (∃ (req : Requester) (s : State), (s.regsWf) ∧ (s.allows req .cscRemote = true) ∧ (s.bit F.CSC_RMT_STAT.BUSY = false) ∧ (s.formed = true) ∧ (s.bit F.CSC_STAT.POLE = false) ∧ (s.bit F.CSC_RMT_ADDR.WR = false) ∧ (s.fld F.CSC_RMT_ADDR.POSITION ≠ s.fld F.CSC_STAT.POSITION)) ∧
  (∃ (req : Requester) (s : State), (s.regsWf) ∧ (s.allows req .cscRemote = false ∨ s.bit F.CSC_RMT_STAT.BUSY = true)) ∧
  (∃ (p : Nat) (k : CscPkt) (rest : List (Nat × CscPkt)) (s : State), (s.regsWf) ∧ (gets s p k rest) ∧ (k.op = 0x1A) ∧ (s.csc.rmt = some k.tag.toNat) ∧ (k.arg.toNat / 2 ^ 32 = 0) ∧ (s.bit F.CSC_RMT_ADDR.WR = false)) ∧
  (∃ (g : Nat) (s : State), (s.regsWf) ∧ (s.csc.rmt = some g)) ∧
  (∃ (s : State), (s.csc.rmt = none)) :=
  ⟨⟨0, 0, (pk 1 (3 * 2^40 + 0x100) [1,2,3,4]), [], (({ (memUp (sB.setFld F.CSC_STAT.CSTATE 3)) with csc := { ((memUp (sB.setFld F.CSC_STAT.CSTATE 3))).csc with inbox := [(0, (pk 1 (3 * 2^40 + 0x100) [1,2,3,4]))] } } : State)), by decide⟩,
   ⟨0, 0, (pk 2 (3 * 2^40 + 0x100) [1,2,3,4]), [], (({ (memUp (sB.setFld F.CSC_STAT.CSTATE 3)) with csc := { ((memUp (sB.setFld F.CSC_STAT.CSTATE 3))).csc with inbox := [(0, (pk 2 (3 * 2^40 + 0x100) [1,2,3,4]))] } } : State)), by decide⟩,
   ⟨0, (pk 1 0 []), [], (({ sB with csc := { sB.csc with inbox := ((0), ((pk 1 0 []))) :: ([]) } } : State).setFlds [(F.CSC_STAT.CSTATE, 0)]), by decide⟩,
   ⟨0, (pk 2 0 []), [], (({ sB with csc := { sB.csc with inbox := ((0), ((pk 2 0 []))) :: ([]) } } : State).setFlds [(F.CSC_STAT.CSTATE, 0)]), by decide⟩,
   ⟨0, (pk 3 0 []), [], ({ sB with csc := { sB.csc with inbox := ((0), ((pk 3 0 []))) :: ([]) } } : State), by decide⟩,
   ⟨({ sB with csc := { sB.csc with inbox := [] } } : State), by decide⟩,
   ⟨0, (pk 8 0 []), [], ({ sB with csc := { sB.csc with inbox := ((0), ((pk 8 0 []))) :: ([]) } } : State), by decide⟩,
   ⟨0, (pk 8 0 [1,2]), [], (({ (({ sB with cfg := { sB.cfg with chain := some ⟨none,3,false,false,0,none,[],0,5000,false,0⟩ } } : State).setFlds [(F.CFG_CHAIN.UP_EN, 1)]) with csc := { ((({ sB with cfg := { sB.cfg with chain := some ⟨none,3,false,false,0,none,[],0,5000,false,0⟩ } } : State).setFlds [(F.CFG_CHAIN.UP_EN, 1)])).csc with inbox := [(0, (pk 8 0 [1,2]))] } } : State)), ⟨none,3,false,false,0,none,[],0,5000,false,0⟩, by decide⟩,
   ⟨0, (pk 0x16 0 []), [], ({ sB with csc := { sB.csc with inbox := ((0), ((pk 0x16 0 []))) :: ([]) } } : State), by decide⟩,
   ⟨0, (sB.setFlds [(F.CSC_STAT.POLE, 0)]), by decide⟩,
   ⟨0, 0, (sB.setPsq (0) { Psq.reset with mode := .running }), by decide⟩,
   ⟨0, (pk 0x18 0 []), [], (({ sB with csc := { sB.csc with inbox := ((0), ((pk 0x18 0 []))) :: ([]) } } : State).setFlds [(F.CSC_STAT.CSTATE, 0)]), by decide⟩,
   ⟨0, (pk 0x19 0 []), [], (({ sB with csc := { sB.csc with inbox := ((0), ((pk 0x19 0 []))) :: ([]) } } : State).setFlds [(F.CSC_STAT.CSTATE, 0)]), by decide⟩,
   ⟨0, (pk 0x18 0 []), [], (({ sB with csc := { sB.csc with inbox := ((0), ((pk 0x18 0 []))) :: ([]) } } : State).setFlds [(F.CSC_STAT.CSTATE, 3)]), by decide⟩,
   ⟨0, (pk 0x19 (0x3E10000) []), [], (({ sB with csc := { sB.csc with inbox := ((0), ((pk 0x19 (0x3E10000) []))) :: ([]) } } : State).setFlds [(F.CSC_STAT.CSTATE, 3)]), by decide⟩,
   ⟨0, (pk 0x19 0x10000 []), [], (({ sB with csc := { sB.csc with inbox := ((0), ((pk 0x19 0x10000 []))) :: ([]) } } : State).setFlds [(F.CSC_STAT.CSTATE, 3)]), by decide⟩,
   ⟨.host, ((sB.setFlds [(F.CSC_RMT_STAT.BUSY, 0), (F.CSC_STAT.CSTATE, 3), (F.CSC_STAT.POLE, 0), (F.CSC_RMT_ADDR.WR, 0)]).setFld F.CSC_RMT_ADDR.POSITION 2), by decide⟩,
   ⟨.host, (sB.setFld F.CSC_RMT_STAT.BUSY 1), by decide⟩,
   ⟨0, (pk 0x1A 0x77 []), [], (({ sB with csc := { sB.csc with inbox := ((0), ((pk 0x1A 0x77 []))) :: ([]), rmt := some ((pk 0x1A 0x77 [])).tag.toNat } } : State).setFlds [(F.CSC_RMT_ADDR.WR, 0)]), by decide⟩,
   ⟨0, ({ sB with csc := { sB.csc with rmt := some (0) } } : State), by decide⟩,
   ⟨({ sB with csc := { sB.csc with rmt := none } } : State), by decide⟩⟩

/-- The hypotheses of every clause of Obligations.ConstellationForms are met together. -/
theorem test_witness_ConstellationForms :
  (∃ (req : Requester) (s : State), (s.regsWf) ∧ (s.allows req .cscForm = true) ∧ (s.fld F.BIST_STAT.NF ≠ 1) ∧ (s.fld F.CSC_CFG.ROLE = 3)) ∧
  (∃ (req : Requester) (s : State), (s.regsWf) ∧ (s.allows req .cscForm = true) ∧ (s.fld F.BIST_STAT.NF ≠ 1) ∧ (s.fld F.CSC_CFG.ROLE < 2) ∧ (s.cscQuiet = true)) ∧
  (∃ (req : Requester) (s : State), (s.regsWf) ∧ (s.allows req .cscForm = true) ∧ (s.fld F.BIST_STAT.NF ≠ 1) ∧ (s.cscQuiet = false) ∧ (s.fld F.CSC_CFG.ROLE ≠ 3)) ∧
  (∃ (s : State), (s.regsWf) ∧ (s.csc.waits = true) ∧ (s.cscQuiet = true) ∧ (∀ p < 8, (s.cport p).cal = none)) ∧
  (∃ (req : Requester) (s : State), (s.regsWf) ∧ (s.allows req .cscForm = false)) ∧
  (∃ (req : Requester) (s : State), (s.regsWf) ∧ (s.allows req .cscLeave = true) ∧ (∀ n < 16, s.siteActive n = false)) ∧
  (∃ (s : State), (s.regsWf) ∧ (s.bit F.CSC_STAT.POLE = true) ∧ (s.formed = true) ∧ (s.membersQuiet = true) ∧ (∀ n < 16, s.siteActive n = false) ∧ (s.cfg.chain = none) ∧ (s.downPorts ≠ [])) ∧
  (∃ (s : State), (s.regsWf) ∧ (s.bit F.CSC_STAT.POLE = true) ∧ (s.formed = true) ∧ (s.membersQuiet = true) ∧ (∀ n < 16, s.siteActive n = false) ∧ (s.cfg.chain = none) ∧ (s.downPorts = [])) ∧
  (∃ (s : State), (s.regsWf) ∧ (s.bit F.CSC_STAT.POLE = false ∨ s.formed = false)) ∧
  (∃ (p : Fin 8) (k : CscPkt) (rest : List (Nat × CscPkt)) (s : State), (s.regsWf) ∧ (gets s p k rest) ∧ (k.op = 0x10) ∧ (k.src = 0xFF) ∧ (s.fld F.CSC_STAT.CSTATE ≠ 0) ∧ (s.csc.clash = false) ∧ (s.fld F.CSC_STAT.CSTATE = 1) ∧ (roleRank (numAt k.body 36 1) ≠ 0) ∧ (s.csc.cand = none) ∧ (s.bit F.CSC_STAT.POLE = false) ∧ (s.csc.up = none) ∧ (s.csc.role ≠ 1)) ∧
  (∃ (p : Fin 8) (k : CscPkt) (rest : List (Nat × CscPkt)) (s : State), (s.regsWf) ∧ (gets s p k rest) ∧ (k.op = 0x10) ∧ (k.src = 0xFF) ∧ (s.fld F.CSC_STAT.CSTATE ≠ 0) ∧ (s.csc.clash = false) ∧ (s.csc.role = 1) ∧ (roleRank (numAt k.body 36 1) = 2) ∧ (idAt k.body 20 ≠ s.deviceId)) ∧
  (∃ (s : State), (s.regsWf) ∧ (s.fld F.CSC_STAT.CSTATE = 1) ∧ (s.csc.clash = false) ∧ (s.bit F.CSC_STAT.POLE = false) ∧ (s.csc.up = none) ∧ (roleRank s.csc.role ≠ 0) ∧ (s.csc.cand = some (roleRank s.csc.role, s.deviceId)) ∧ (∃ p < 8, s.portUp p = true)) ∧
  (∃ (s : State), (s.fld F.CSC_STAT.CSTATE ≠ 1)) ∧
  (∃ (p : Fin 8) (k : CscPkt) (rest : List (Nat × CscPkt)) (s : State), (s.regsWf) ∧ (gets s p k rest) ∧ (k.op = 0x11) ∧ (s.csc.up = none) ∧ (s.bit F.CSC_STAT.POLE = false) ∧ (idAt k.body 0 = s.deviceId) ∧ (s.csc.role ≠ 3) ∧ (s.csc.clash = false) ∧ (s.fld F.CSC_STAT.CSTATE = 1) ∧ (s.cscQuiet = true)) ∧
  (∃ (p : Fin 8) (k : CscPkt) (rest : List (Nat × CscPkt)) (s : State), (s.regsWf) ∧ (gets s p k rest) ∧ (k.op = 0x11) ∧ (s.csc.up = none) ∧ (s.bit F.CSC_STAT.POLE = false) ∧ (idAt k.body 0 = s.deviceId) ∧ (s.csc.role ≠ 3) ∧ (s.csc.clash = false) ∧ (s.fld F.CSC_STAT.CSTATE = 1) ∧ (s.cscQuiet = false)) ∧
  (∃ (p : Fin 8) (k : CscPkt) (rest : List (Nat × CscPkt)) (s : State), (s.regsWf) ∧ (gets s p k rest) ∧ (k.op = 0x11) ∧ (s.csc.up = some p.val) ∧ (k.arg.toNat ≠ s.csc.epoch) ∧ (s.fld F.CSC_STAT.CSTATE ≠ 4) ∧ (s.cscQuiet = true)) ∧
  (∃ (p : Fin 8) (k : CscPkt) (rest : List (Nat × CscPkt)) (s : State), (s.regsWf) ∧ (gets s p k rest) ∧ (k.op = 0x11) ∧ (s.csc.up = some p.val) ∧ (k.arg.toNat ≠ s.csc.epoch) ∧ (s.fld F.CSC_STAT.CSTATE ≠ 4) ∧ (s.cscQuiet = false)) ∧
  (∃ (p : Fin 8) (k : CscPkt) (rest : List (Nat × CscPkt)) (s : State), (s.regsWf) ∧ (gets s p k rest) ∧ (k.op = 0x12) ∧ (numAt k.body 17 1 = 1) ∧ (s.fld (F.CSC_PORT_STAT.USE p) ≠ 2) ∧ (s.bit F.CSC_STAT.POLE = false) ∧ (s.downPorts ≠ [])) ∧
  (∃ (p : Fin 8) (k : CscPkt) (rest : List (Nat × CscPkt)) (s : State) (q : Nat), (s.regsWf) ∧ (gets s p k rest) ∧ (k.op = 0x12) ∧ (numAt k.body 17 1 = 1) ∧ (s.fld (F.CSC_PORT_STAT.USE p) ≠ 2) ∧ (s.downPorts = []) ∧ (s.bit F.CSC_STAT.POLE = false) ∧ (s.csc.up = some q) ∧ (s.portUp q = true) ∧ (q ≠ p.val)) ∧
  (∃ (p : Fin 8) (k : CscPkt) (rest : List (Nat × CscPkt)) (s : State), (s.regsWf) ∧ (gets s p k rest) ∧ (k.op = 0x12) ∧ (numAt k.body 17 1 = 1) ∧ (s.fld (F.CSC_PORT_STAT.USE p) ≠ 2) ∧ (s.bit F.CSC_STAT.POLE = true) ∧ (s.csc.members = []) ∧ (∀ q < 8, (s.cport q).cal = none) ∧ (s.fld F.CSC_STAT.CSTATE = 2 ∨ s.formed = true)) ∧
  (∃ (p : Fin 8) (k : CscPkt) (rest : List (Nat × CscPkt)) (s : State), (s.regsWf) ∧ (gets s p k rest) ∧ (k.op = 0x12) ∧ (numAt k.body 17 1 = 1) ∧ (s.fld (F.CSC_PORT_STAT.USE p) ≠ 2) ∧ (s.bit F.CSC_STAT.POLE = true) ∧ (s.csc.members = []) ∧ (s.fld F.CSC_STAT.CSTATE = 1)) ∧
  (∃ (p : Nat) (k : CscPkt) (rest : List (Nat × CscPkt)) (s : State), (s.regsWf) ∧ (gets s p k rest) ∧ (k.op = 0x13) ∧ (s.fld F.CSC_STAT.POSITION = 0) ∧ (s.bit F.CSC_STAT.POLE = false) ∧ (s.csc.posReq = 0 ∨ s.csc.posReq = k.arg.toNat % 32)) ∧
  (∃ (er : Byte) (p : Nat) (k : CscPkt) (rest : List (Nat × CscPkt)) (s : State), (s.regsWf) ∧ (gets s p k rest) ∧ (k.op = 0x14) ∧ (s.csc.up = some p) ∧ (s.formed = true) ∧ (absByte er ≤ 8)) ∧
  (∃ (er : Byte) (p : Nat) (k : CscPkt) (rest : List (Nat × CscPkt)) (s : State), (s.regsWf) ∧ (gets s p k rest) ∧ (k.op = 0x14) ∧ (s.csc.up = some p) ∧ (s.formed = true) ∧ (8 < absByte er)) ∧
  (∃ (p : Nat) (k : CscPkt) (rest : List (Nat × CscPkt)) (s : State), (s.regsWf) ∧ (gets s p k rest) ∧ (k.op = 0x14) ∧ (s.csc.up = some p) ∧ (s.fld F.CSC_STAT.CSTATE = 2)) ∧
  (∃ (p : Nat) (k : CscPkt) (rest : List (Nat × CscPkt)) (s : State), (s.regsWf) ∧ (gets s p k rest) ∧ (k.op = 0x15) ∧ (k.arg.toNat % 256 ≤ 40) ∧ (k.arg.toNat / 256 % 256 ≤ 40) ∧ (s.bit F.CSC_STAT.ALIGNED = true)) ∧
  (∃ (p : Nat) (k : CscPkt) (rest : List (Nat × CscPkt)) (s : State), (s.regsWf) ∧ (gets s p k rest) ∧ (k.op = 0x15) ∧ (40 < k.arg.toNat % 256)) ∧
  (∃ (p : Nat) (k : CscPkt) (rest : List (Nat × CscPkt)) (s : State), (s.regsWf) ∧ (gets s p k rest) ∧ (k.op = 0x17) ∧ (s.formed = true)) ∧
  (∃ (fb : Nat) (pd : Nat) (stop : Nat) (s : State), (s.regsWf) ∧ (s.csc.fckset = some (fb, pd, stop)) ∧ (stop ≤ s.tick.toNat) ∧ (s.fckNew = none) ∧ (s.fld F.CSC_STAT.CSTATE = 3)) ∧
  (∃ (fb : Nat) (pd : Nat) (stop : Nat) (s : State), (s.regsWf) ∧ (s.csc.fckset = some (fb, pd, stop)) ∧ (stop ≤ s.tick.toNat) ∧ (s.fckNew = none) ∧ (s.fld F.CSC_STAT.CSTATE ≠ 3)) ∧
  (∃ (s : State), (s.csc.fckset = none)) ∧
  (∃ (p : Nat) (s : State), (s.fld F.CSC_STAT.CSTATE = 1) ∧ (p < 8) ∧ (s.portUp p = true)) ∧
  (∃ (s : State), (s.fld F.CSC_STAT.CSTATE = 0)) ∧
  (∃ (s : State), (s.regsWf) ∧ (s.fld F.CSC_STAT.CSTATE = 1) ∧ (∀ p < 8, s.portUp p = false)) ∧
  (∃ (s : State) (c : Nat × Nat), (s.regsWf) ∧ (s.fld F.CSC_STAT.CSTATE = 1) ∧ (∃ p < 8, s.portUp p = true) ∧ (s.bit F.CSC_STAT.POLE = false) ∧ (s.csc.clash = false) ∧ (s.csc.cand = some c) ∧ (c ≠ (roleRank s.csc.role, s.deviceId))) ∧
  (∃ (p : Fin 8) (s : State), (s.regsWf) ∧ (s.fld F.CSC_STAT.CSTATE = 2) ∧ (s.bit F.CSC_STAT.POLE = false) ∧ (s.csc.up = some p.val) ∧ (s.fld F.CSC_STAT.POSITION = 0)) ∧
  (∃ (p : Fin 8) (s : State), (s.formed = true) ∧ (s.fld (F.CSC_PORT_STAT.USE p) = 2) ∧ (s.portUp p = true) ∧ (s.tick.toNat < (s.cport p).lastSync + 65536)) ∧
  (∃ (p : Fin 8) (s : State), (s.formed = true) ∧ (s.fld (F.CSC_PORT_STAT.USE p) = 2) ∧ (s.portUp p = true) ∧ ((s.cport p).lastSync + 65536 ≤ s.tick.toNat)) ∧
  (∃ (s : State), (s.formed = false)) :=
  ⟨⟨.host, (sB.setFlds [(F.CSC_CFG.ROLE, 3)]), by decide⟩,
   ⟨.host, sB, by decide⟩,
   ⟨.host, (sB.setPsq 3 { Psq.reset with mode := .running }), by decide⟩,
   ⟨({ sB with csc := { sB.csc with waits := true } } : State), by decide⟩,
   ⟨.host, ({ sB with dev := .boot } : State), by decide⟩,
   ⟨.host, sB, by decide⟩,
   ⟨((({ sB with cfg := { sB.cfg with chain := none } } : State).setFlds [(F.CSC_STAT.POLE, 1), (F.CSC_STAT.CSTATE, 3)]).setFld (F.CSC_PORT_STAT.USE 0) 2), by decide⟩,
   ⟨(({ sB with cfg := { sB.cfg with chain := none } } : State).setFlds [(F.CSC_STAT.POLE, 1), (F.CSC_STAT.CSTATE, 3)]), by decide⟩,
   ⟨sB, by decide⟩,
   ⟨0, ⟨0x10, 0xFF, 0xFE, 9, 0, (List.replicate 36 0 ++ [0])⟩, [], (({ sB with csc := { sB.csc with inbox := (((0 : Fin 8)), (⟨0x10, 0xFF, 0xFE, 9, 0, (List.replicate 36 0 ++ [0])⟩)) :: ([]), clash := false, cand := none, up := none } } : State).setFlds [(F.CSC_STAT.CSTATE, 1), (F.CSC_STAT.POLE, 0)]), by decide⟩,
   ⟨0, ⟨0x10, 0xFF, 0xFE, 9, 0, ([7] ++ List.replicate 19 0 ++ [7] ++ List.replicate 15 0 ++ [1])⟩, [], ((({ sB with csc := { (sB).csc with inbox := [(0, ⟨0x10, 0xFF, 0xFE, 9, 0, ([7] ++ List.replicate 19 0 ++ [7] ++ List.replicate 15 0 ++ [1])⟩)], role := 1 } } : State)).setFld F.CSC_STAT.CSTATE 1), by decide⟩,
   ⟨(({ sB with csc := { sB.csc with cand := some (1, sB.deviceId) } } : State).setFlds [(F.CSC_STAT.CSTATE, 1), (F.CSC_PORT_STAT.LSTATE 0, 2)]), by decide⟩,
   ⟨sB, by decide⟩,
   ⟨0, (pk 0x11 5 []), [], (({ sB with csc := { sB.csc with inbox := (((0 : Fin 8)), ((pk 0x11 5 []))) :: ([]), up := none, clash := false } } : State).setFlds [(F.CSC_STAT.POLE, 0), (F.CSC_STAT.CSTATE, 1)]), by decide⟩,
   ⟨0, (pk 0x11 5 []), [], ((({ sB with csc := { sB.csc with inbox := (((0 : Fin 8)), ((pk 0x11 5 []))) :: ([]), up := none, clash := false } } : State).setFlds [(F.CSC_STAT.POLE, 0), (F.CSC_STAT.CSTATE, 1)]).setPsq 3 { Psq.reset with mode := .running }), by decide⟩,
   ⟨0, (pk 0x11 5 []), [], (({ sB with csc := { sB.csc with inbox := (((0 : Fin 8)), ((pk 0x11 5 []))) :: ([]), up := some ((0 : Fin 8)).val } } : State).setFld F.CSC_STAT.CSTATE 3), by decide⟩,
   ⟨0, (pk 0x11 5 []), [], (({ sB with csc := { sB.csc with inbox := (((0 : Fin 8)), ((pk 0x11 5 []))) :: ([]), up := some ((0 : Fin 8)).val } } : State).setPsq 3 { Psq.reset with mode := .running }), by decide⟩,
   ⟨0, (pk 0x12 5 (List.replicate 16 0 ++ [3, 1])), [], ((({ sB with csc := { sB.csc with inbox := (((0 : Fin 8)), ((pk 0x12 5 (List.replicate 16 0 ++ [3, 1])))) :: ([]) } } : State).setFlds [(F.CSC_STAT.POLE, 0)]).setFlds [(F.CSC_PORT_STAT.LSTATE 1, 2), (F.CSC_PORT_STAT.USE 1, 2)]), by decide⟩,
   ⟨0, (pk 0x12 5 (List.replicate 16 0 ++ [3, 1])), [], (({ sB with csc := { sB.csc with inbox := [(0, (pk 0x12 5 (List.replicate 16 0 ++ [3, 1])))], up := some 1 } } : State).setFld (F.CSC_PORT_STAT.LSTATE 1) 2), 1, by decide⟩,
   ⟨0, (pk 0x12 5 (List.replicate 16 0 ++ [3, 1])), [], ((({ sB with csc := { sB.csc with inbox := (((0 : Fin 8)), ((pk 0x12 5 (List.replicate 16 0 ++ [3, 1])))) :: ([]), members := [] } } : State).setFlds [(F.CSC_STAT.POLE, 1)]).setFld F.CSC_STAT.CSTATE 3), by decide⟩,
   ⟨0, (pk 0x12 5 (List.replicate 16 0 ++ [3, 1])), [], (({ sB with csc := { sB.csc with inbox := (((0 : Fin 8)), ((pk 0x12 5 (List.replicate 16 0 ++ [3, 1])))) :: ([]), members := [] } } : State).setFlds [(F.CSC_STAT.POLE, 1), (F.CSC_STAT.CSTATE, 1)]), by decide⟩,
   ⟨0, (pk 0x13 5 []), [], (({ sB with csc := { sB.csc with inbox := ((0), ((pk 0x13 5 []))) :: ([]) } } : State).setFlds [(F.CSC_STAT.POSITION, 0), (F.CSC_STAT.POLE, 0)]), by decide⟩,
   ⟨3, 0, (pk 0x14 5 []), [], (({ sB with csc := { sB.csc with inbox := ((0), ((pk 0x14 5 []))) :: ([]), up := some (0) } } : State).setFlds [(F.CSC_STAT.CSTATE, 3)]), by decide⟩,
   ⟨9, 0, (pk 0x14 5 []), [], (({ sB with csc := { sB.csc with inbox := ((0), ((pk 0x14 5 []))) :: ([]), up := some (0) } } : State).setFlds [(F.CSC_STAT.CSTATE, 3)]), by decide⟩,
   ⟨0, (pk 0x14 5 []), [], (({ sB with csc := { sB.csc with inbox := ((0), ((pk 0x14 5 []))) :: ([]), up := some (0) } } : State).setFlds [(F.CSC_STAT.CSTATE, 2)]), by decide⟩,
   ⟨0, (pk 0x15 0x0304 []), [], (({ sB with csc := { sB.csc with inbox := ((0), ((pk 0x15 0x0304 []))) :: ([]) } } : State).setFlds [(F.CSC_STAT.ALIGNED, 1)]), by decide⟩,
   ⟨0, (pk 0x15 0x0329 []), [], ({ sB with csc := { sB.csc with inbox := ((0), ((pk 0x15 0x0329 []))) :: ([]) } } : State), by decide⟩,
   ⟨0, (pk 0x17 0x120305 []), [], (({ sB with csc := { sB.csc with inbox := ((0), ((pk 0x17 0x120305 []))) :: ([]) } } : State).setFlds [(F.CSC_STAT.CSTATE, 3)]), by decide⟩,
   ⟨0, 0, 0, (({ sB with fckNew := none, csc := { sB.csc with fckset := some ((0), (0), (0)) } } : State).setFlds [(F.CSC_STAT.CSTATE, 3)]), by decide⟩,
   ⟨0, 0, 0, ({ sB with fckNew := none, csc := { sB.csc with fckset := some ((0), (0), (0)) } } : State), by decide⟩,
   ⟨({ sB with csc := { sB.csc with fckset := none } } : State), by decide⟩,
   ⟨0, (sB.setFlds [(F.CSC_STAT.CSTATE, 1), ((F.CSC_PORT_STAT.LSTATE (0)), 2)]), by decide⟩,
   ⟨(sB.setFlds [(F.CSC_STAT.CSTATE, 0)]), by decide⟩,
   ⟨(sB.setFlds [(F.CSC_STAT.CSTATE, 1)]), by decide⟩,
   ⟨(({ sB with csc := { sB.csc with cand := some (2, 5) } } : State).setFlds [(F.CSC_STAT.CSTATE, 1), (F.CSC_PORT_STAT.LSTATE 0, 2)]), (2, 5), by decide⟩,
   ⟨0, (({ sB with csc := { sB.csc with up := some ((0 : Fin 8)).val } } : State).setFlds [(F.CSC_STAT.CSTATE, 2), (F.CSC_STAT.POLE, 0), (F.CSC_STAT.POSITION, 0)]), by decide⟩,
   ⟨0, (sB.setFlds [(F.CSC_STAT.CSTATE, 3), ((F.CSC_PORT_STAT.USE ((0 : Fin 8))), 2), ((F.CSC_PORT_STAT.LSTATE ((0 : Fin 8))), 2)]), by decide⟩,
   ⟨0, (({ sB with tick := 65536 } : State).setFlds [(F.CSC_STAT.CSTATE, 3), (F.CSC_PORT_STAT.USE 0, 2), (F.CSC_PORT_STAT.LSTATE 0, 2)]), by decide⟩,
   ⟨(sB.setFlds [(F.CSC_STAT.CSTATE, 0)]), by decide⟩⟩

/-- The hypotheses of every clause of Obligations.SelfTestEngine are met together. -/
theorem test_witness_SelfTestEngine :
  (∃ (cl : Fin 256) (j : Fin 10) (s : State), (s.inService = true) ∧ (s.nextSlice (cl.val / 32) = some (10 * cl.val + j.val)) ∧ (s.bist.slices.length < 64) ∧ ((s.bist.slices.filter (fun x => x.cl / 32 == cl.val / 32)).length < s.stripeMax) ∧ ((s.sliceParts cl j).1 ≠ .none) ∧ ((s.sliceParts cl j).2 ≠ .none ∨ j = 9) ∧ ((s.sliceParts cl j).1 = .rotated → s.fckOn = true ∧ s.freezePends cl = false)) ∧
  (∃ (cl : Fin 256) (j : Fin 10) (s : State), (s.regsWf) ∧ (s.inService = true) ∧ (s.nextSlice (cl.val / 32) = some (10 * cl.val + j.val)) ∧ (s.bist.slices.length < 64) ∧ ((s.bist.slices.filter (fun x => x.cl / 32 == cl.val / 32)).length < s.stripeMax) ∧ (s.sliceParts cl j = (.none, .none)) ∧ (j ≠ 9)) ∧
  (∃ (s : State), (s.inService = false)) ∧
  (∃ (cl : Fin 256) (j : Fin 10) (s : State), (s.nextSlice (cl.val / 32) ≠ some (10 * cl.val + j.val))) ∧
  (∃ (cl : Fin 256) (j : Fin 10) (s : State), (s.cfg.load.isSome = true) ∧ (cl.val ∈ s.cfg.waits) ∧ ((s.sliceParts cl j).1.isDirect = true ∨ (s.sliceParts cl j).2 ≠ .none)) ∧
  (∃ (cl : Fin 256) (lo : PartEnd) (ch : PartEnd) (x : BistSlice) (s : State), (s.sliceIn cl = some x) ∧ (x.takeover = none) ∧ (x.back = none) ∧ (s.bist.held = []) ∧ (x.cl = cl.val) ∧ (x.logic = .rotated) ∧ (x.chunk = .chunk) ∧ (x.logicEnd = none) ∧ (x.chunkEnd = false) ∧ (lo.runs = false) ∧ (ch.runs = false) ∧ (lo.ok = true) ∧ (16384 ≤ lo.count.toNat) ∧ (ch.ok = true) ∧ (5120 ≤ ch.count.toNat)) ∧
  (∃ (cl : Fin 256) (lo : PartEnd) (x : BistSlice) (s : State), (s.regsWf) ∧ (s.sliceIn cl = some x) ∧ (x.takeover = none) ∧ (x.back = none) ∧ (s.bist.held = []) ∧ (x.cl = cl.val) ∧ (x.j < 9) ∧ (x.logic = .direct) ∧ (x.chunk = .none) ∧ (x.logicEnd = none) ∧ (lo.runs = false) ∧ (lo.ok = false)) ∧
  (∃ (cl : Fin 256) (lo : PartEnd) (ch : PartEnd) (x : BistSlice) (s : State), (s.regsWf) ∧ (s.sliceIn cl = some x) ∧ (x.takeover = none) ∧ (x.back = none) ∧ (x.cl = cl.val) ∧ (x.j < 9) ∧ (x.logic = .direct) ∧ (x.chunk ≠ .none) ∧ (x.logicEnd = none) ∧ (x.chunkEnd = false) ∧ (lo.runs = false) ∧ (lo.ok = false) ∧ (ch.runs = true)) ∧
  (∃ (cl : Fin 256) (ch : PartEnd) (r : Fin 256) (x : BistSlice) (s : State) (k : Fin 16), (s.regsWf) ∧ (s.sliceIn cl = some x) ∧ (x.takeover = none) ∧ (x.back = none) ∧ (s.bist.held = []) ∧ (x.cl = cl.val) ∧ (x.j = r.val / 32) ∧ (x.logic = .none) ∧ (x.chunk = .chunk) ∧ (x.chunkEnd = false) ∧ (ch.runs = false) ∧ (ch.ok = false) ∧ (s.chunkSpares cl x.j = []) ∧ (bitOf (s.sparesOk cl) k = true) ∧ (bitOf (s.fld (F.BIST_CL.SPARE_BAD cl)) k = false) ∧ (s.bit (F.FAB_MREP.EN cl k) = false) ∧ (∀ i < k.val, s.bit (F.FAB_MREP.EN cl i) = true ∨ bitOf (s.fld (F.BIST_CL.SPARE_BAD cl)) i = true)) ∧
  (∃ (cl : Fin 256) (ch : PartEnd) (r : Fin 256) (x : BistSlice) (s : State), (s.regsWf) ∧ (s.sliceIn cl = some x) ∧ (x.takeover = none) ∧ (x.back = none) ∧ (s.bist.held = []) ∧ (x.cl = cl.val) ∧ (x.j = r.val / 32) ∧ (x.logic = .none) ∧ (x.chunk = .chunk) ∧ (x.chunkEnd = false) ∧ (ch.runs = false) ∧ (ch.ok = false) ∧ (s.chunkSpares cl x.j = []) ∧ (∀ i < 16, s.bit (F.FAB_MREP.EN cl i) = true ∨ bitOf (s.fld (F.BIST_CL.SPARE_BAD cl)) i = true ∨ bitOf (s.sparesOk cl) i = false)) ∧
  (∃ (cl : Fin 256) (x : BistSlice) (s : State), (s.regsWf) ∧ (s.sliceIn cl = some x) ∧ (x.back = none) ∧ (x.logic = .direct) ∧ (x.logicEnd = none) ∧ (x.chunk = .none) ∧ (x.cl = cl.val) ∧ (s.cfg.load.isSome = true) ∧ (cl.val ∈ s.cfg.waits) ∧ (s.bist.held = [])) ∧
  (∃ (cl : Fin 256) (x : BistSlice) (s : State), (s.regsWf) ∧ (s.sliceIn cl = some x) ∧ (x.back = none) ∧ (x.takeover = none) ∧ (x.logic = .rotated) ∧ (x.logicEnd ≠ some 1) ∧ (x.chunk ≠ .none) ∧ (x.cl = cl.val) ∧ (s.cfg.load.isSome = true) ∧ (cl.val ∈ s.cfg.waits) ∧ (s.bist.held = [])) ∧
  (∃ (cl : Fin 256) (s : State), (s.sliceIn cl = none)) ∧
  (∃ (cl : Fin 256) (x : BistSlice) (s : State), (s.sliceIn cl = some x) ∧ (s.wanted x.cl x.logic.isDirect (x.chunk != .none) = false)) ∧
  (∃ (s : State), (s.regsWf) ∧ (accepted .nightfall s.glbState = true) ∧ (s.bist.slices = []) ∧ (s.bist.held = []) ∧ (s.cfg.load = none)) ∧
  (∃ (s : State), (s.regsWf) ∧ (accepted .nightfall s.glbState = false)) ∧
  (∃ (s : State), (s.regsWf) ∧ (s.fld F.BIST_STAT.NF = 1)) ∧
  (∃ (s : State), (s.fld F.BIST_STAT.NF ≠ 1)) ∧
  (∃ (s : State) (i : Nat), (s.regsWf) ∧ (s.glbState = 3) ∧ (s.fld F.BIST_STAT.NF ≠ 1) ∧ (s.fld F.BIST_FUSE_STAT.USED + s.bist.blow.length < 64) ∧ (i < 64) ∧ (s.recAhead i = 0) ∧ (∀ j < i, s.recAhead j ≠ 0) ∧ (recordOk s.recsAhead s.sliceCount (s.fld F.BIST_FUSE_DATA.RECORD) = true)) ∧
  (∃ (s : State), (s.regsWf) ∧ (s.glbState = 3) ∧ (s.fld F.BIST_STAT.NF ≠ 1) ∧ (s.fld F.BIST_FUSE_STAT.USED + s.bist.blow.length < 64) ∧ (recordOk s.recsAhead s.sliceCount (s.fld F.BIST_FUSE_DATA.RECORD) = false)) ∧
  (∃ (s : State) (i : Fin 64), (s.regsWf) ∧ (s.glbState = 3) ∧ (s.fld F.BIST_STAT.NF ≠ 1) ∧ (s.fld F.BIST_FUSE_STAT.USED + s.bist.blow.length < 64) ∧ (s.recState i = 1) ∧ (∀ b ∈ s.bist.blow, b.2.1 ≠ i.val)) ∧
  (∃ (s : State) (i : Fin 64), (s.regsWf) ∧ (s.glbState = 3) ∧ (s.fld F.BIST_STAT.NF ≠ 1) ∧ (s.fld F.BIST_FUSE_STAT.USED + s.bist.blow.length < 64) ∧ (s.recAhead i ≠ 1)) ∧
  (∃ (s : State), (s.bist.blow = [])) ∧
  (∃ (s : State), (s.regsWf) ∧ (s.glbState = 3) ∧ (s.fld F.BIST_STAT.NF ≠ 1) ∧ (64 ≤ s.fld F.BIST_FUSE_STAT.USED + s.bist.blow.length)) ∧
  (∃ (s : State), (s.regsWf) ∧ (s.glbState ≠ 3 ∨ s.fld F.BIST_STAT.NF = 1)) ∧
  (∃ (i : Fin 64) (op : Nat) (r : Word) (rest : List (Nat × Nat × Word)) (s : State), (s.regsWf) ∧ (s.bist.blow = (op, i.val, r) :: rest) ∧ (op = 1 ∨ op = 2) ∧ (s.fld F.BIST_FUSE_STAT.USED < 127)) ∧
  (∃ (d : Word) (v : BitVec 3), (d ≠ 0) ∧ (popNat 3 v.toNat < 2)) ∧
  (∃ (d : Word) (v : BitVec 3), (d ≠ 0) ∧ (2 ≤ popNat 3 v.toNat)) :=
  ⟨⟨0, 0, ((sB.setFlds [(F.BIST_CFG.EN, 1), (F.PWR_DOM_STAT.ON, 0xFFFFFF)])), by decide⟩,
   ⟨0, 0, ((sB.setFlds [(F.BIST_CFG.EN, 1)])), by decide⟩,
   ⟨sB, by decide⟩,
   ⟨0, 1, (sB.setFlds [(F.BIST_CFG.EN, 1), (F.PWR_DOM_STAT.ON, 0xFFFFFF)]), by decide⟩,
   ⟨0, 0, ((({ loading (sB.setFlds [(F.BIST_CFG.EN, 1), (F.PWR_DOM_STAT.ON, 0xFFFFFF)]) load0 with cfg := { (loading sB load0).cfg with waits := [0] } } : State))), by decide⟩,
   ⟨0, ⟨false, 0x4000, true, 0x77⟩, ⟨false, 0x4000, true, 0x77⟩, ⟨0, 0, .rotated, .chunk, none, none, none, false, none, false⟩, ({ sB with bist := { sB.bist with slices := [⟨0, 0, .rotated, .chunk, none, none, none, false, none, false⟩] } } : State), by decide⟩,
   ⟨0, ⟨false, 0x40, false, 0x77⟩, ⟨0, 0, .direct, .none, none, none, none, false, none, false⟩, ({ sB with bist := { sB.bist with slices := [⟨0, 0, .direct, .none, none, none, none, false, none, false⟩] } } : State), by decide⟩,
   ⟨0, ⟨false, 0x40, false, 0x77⟩, ⟨true, 0, true, 0⟩, ⟨0, 0, .direct, .chunk, none, none, none, false, none, false⟩, ({ sB with bist := { sB.bist with slices := [⟨0, 0, .direct, .chunk, none, none, none, false, none, false⟩] } } : State), by decide⟩,
   ⟨0, ⟨false, 0x40, false, 0x77⟩, 7, ⟨0, 0, .none, .chunk, none, none, none, false, none, false⟩, (({ sB with bist := { sB.bist with slices := [⟨0, 0, .none, .chunk, none, none, none, false, none, false⟩], sparesOk := [(0, 4)] } } : State).setFlds [(F.BIST_CL.SPARE_BAD 0, 3)]), 2, by decide⟩,
   ⟨0, ⟨false, 0x40, false, 0x77⟩, 7, ⟨0, 0, .none, .chunk, none, none, none, false, none, false⟩, ({ sB with bist := { sB.bist with slices := [⟨0, 0, .none, .chunk, none, none, none, false, none, false⟩] } } : State), by decide⟩,
   ⟨0, ⟨0, 0, .direct, .none, none, none, none, false, none, false⟩, ({ ({ loading sB load0 with cfg := { (loading sB load0).cfg with waits := [0] } } : State) with bist := { sB.bist with slices := [⟨0, 0, .direct, .none, none, none, none, false, none, false⟩] } } : State), by decide⟩,
   ⟨0, ⟨0, 0, .rotated, .chunk, none, none, none, false, none, false⟩, ({ ({ loading sB load0 with cfg := { (loading sB load0).cfg with waits := [0] } } : State) with bist := { sB.bist with slices := [⟨0, 0, .rotated, .chunk, none, none, none, false, none, false⟩] } } : State), by decide⟩,
   ⟨0, sB, by decide⟩,
   ⟨0, ⟨0, 0, .rotated, .chunk, none, none, none, false, none, false⟩, ({ sB with bist := { sB.bist with slices := [⟨0, 0, .rotated, .chunk, none, none, none, false, none, false⟩] } } : State), by decide⟩,
   ⟨({ sB with bist := { sB.bist with slices := [], held := [] }, cfg := { sB.cfg with load := none } } : State), by decide⟩,
   ⟨({ sB with dev := .boot } : State), by decide⟩,
   ⟨(sB.setFlds [(F.BIST_STAT.NF, 1)]), by decide⟩,
   ⟨sB, by decide⟩,
   ⟨(sB.setFld F.BIST_FUSE_DATA.RECORD 0x40000000), 0, by decide⟩,
   ⟨sB, by decide⟩,
   ⟨(sB.setFld (F.BIST_FUSE_REC.STATE 0) 1), 0, by decide⟩,
   ⟨sB, 0, by decide⟩,
   ⟨({ sB with bist := { sB.bist with blow := [] } } : State), by decide⟩,
   ⟨(sB.setFld F.BIST_FUSE_STAT.USED 64), by decide⟩,
   ⟨({ sB with dev := .boot } : State), by decide⟩,
   ⟨63, 2, 7, [(1, 3, 4)], ({ sB with bist := { sB.bist with blow := ((2), ((63 : Fin 64)).val, (7)) :: ([(1, 3, 4)]) } } : State), by decide⟩,
   ⟨5, 1, by decide⟩,
   ⟨5, 6, by decide⟩⟩

/-- The hypotheses of every clause of Obligations.ErrorLogAndDump are met together. -/
theorem test_witness_ErrorLogAndDump :
  (∃ (code : Half) (s : State), (s.codeClass code.toNat ≠ .fatal)) ∧
  (∃ (r : ErrReport) (e : ErrState), (e.heldOf (reporterOf r.code.toNat r.detail.toNat) = none) ∧ (e.intake.length < 64)) ∧
  (∃ (r : ErrReport) (p : ErrReport) (e : ErrState), (e.heldOf (reporterOf r.code.toNat r.detail.toNat) = some p) ∧ (p.code ≠ r.code ∨ p.source ≠ r.source)) ∧
  (∃ (r : ErrReport) (rs : List ErrReport) (s : State), (s.err.intake = r :: rs) ∧ (s.err.held = []) ∧ (s.err.kind r.code r.source = none) ∧ (s.err.kinds.length < 1024) ∧ (65 < s.ringFree) ∧ (r.count = 1) ∧ (s.hif.window = true)) ∧
  (∃ (r : ErrReport) (rs : List ErrReport) (k : KindEntry) (s : State), (s.err.intake = r :: rs) ∧ (s.err.held = []) ∧ (s.err.kind r.code r.source = some k) ∧ (k.full = 8) ∧ (r.count ≠ 0) ∧ (k.pending + r.count ≤ 0xFFFFFFFF) ∧ (k.total + r.count ≤ 0xFFFFFFFF)) ∧
  (∃ (r : ErrReport) (rs : List ErrReport) (s : State), (s.err.intake = r :: rs) ∧ (s.err.held = []) ∧ (s.err.kind r.code r.source = none) ∧ (1024 ≤ s.err.kinds.length)) ∧
  (∃ (s : State), (s.err.intake = [])) ∧
  (∃ (req : Requester) (k : KindEntry) (s : State), (s.regsWf) ∧ (s.err.kinds = [k]) ∧ (k.pending ≠ 0) ∧ (65 < s.ringFree) ∧ (s.hif.window = true) ∧ (s.allows req .errCmd = true) ∧ (s.fld F.ERR_CFG.SUM_EXP ≠ 0) ∧ (s.tick.toNat % 2 ^ (s.fld F.ERR_CFG.SUM_EXP + 20) = 0)) ∧
  (∃ (req : Requester) (k : KindEntry) (s : State), (s.regsWf) ∧ (s.err.kinds = [k]) ∧ (k.pending ≠ 0) ∧ (65 < s.ringFree) ∧ (s.hif.window = true) ∧ (s.allows req .errCmd = true)) ∧
  (∃ (s : State), (s.fld F.ERR_CFG.SUM_EXP = 0 ∨ s.tick.toNat % 2 ^ (s.fld F.ERR_CFG.SUM_EXP + 20) ≠ 0)) ∧
  (∃ (req : Requester) (s : State), (s.regsWf) ∧ (s.allows req .errCmd = true) ∧ (∀ k ∈ s.err.kinds, k.pending = 0)) ∧
  (∃ (req : Requester) (s : State), (s.regsWf) ∧ (s.allows req .errCmd = true) ∧ (∀ k ∈ s.err.kinds, k.pending = 0)) ∧
  (∃ (req : Requester) (s : State), (s.regsWf) ∧ (s.allows req .errCmd = false)) ∧
  (∃ (req : Requester) (s : State), (s.regsWf) ∧ (s.allows req .errCmd = true)) ∧
  (∃ (req : Requester) (v : Word) (s : State), (s.allows req .errCmd = true) ∧ ((v - s.err.rptr).toNat ≤ (s.err.wptr - s.err.rptr).toNat)) ∧
  (∃ (req : Requester) (v : Word) (s : State), (s.allows req .errCmd = true) ∧ ((s.err.wptr - s.err.rptr).toNat < (v - s.err.rptr).toNat)) ∧
  (∃ (s : State), (s.bit F.ERR_CFG.MIRROR = false)) ∧
  (∃ (st : Half) (s : State), (s.bit F.ERR_CFG.MIRROR = true) ∧ (st.toNat ≠ C.MEM_CE) ∧ (memStatus s 169 0x3F90000000 0x20008 true st.toNat = 0)) ∧
  (∃ (st : Half) (s : State), (s.bit F.ERR_CFG.MIRROR = true) ∧ (st.toNat ≠ C.MEM_UE) ∧ (memStatus s 169 0x3F90000000 0x20008 true st.toNat ≠ 0)) ∧
  (∃ (code : Half) (source : Word) (s : State), (s.regsWf) ∧ (s.codeClass code.toNat = .fatal) ∧ (s.dev = .ready ∨ s.dev = .loaded) ∧ (s.devFault = false) ∧ (s.fckOn = true) ∧ (coreOf source.toNat = none) ∧ (s.fld F.ERR_FATAL.CODE = 0) ∧ (s.bist.slices = []) ∧ (s.cfg.load = none) ∧ (∀ n < 16, s.siteActive n = false) ∧ (code ≠ 0)) ∧
  (∃ (code : Half) (source : Word) (s : State), (s.codeClass code.toNat = .fatal) ∧ (s.dev = .fault ∧ s.fckOn = true ∨ s.dev = .twilight) ∧ (coreOf source.toNat = none ∨ code.toNat ≠ C.ERR_FW_FATAL)) ∧
  (∃ (code : Half) (source : Word) (s : State) (m : Nat), (s.codeClass code.toNat = .fatal) ∧ (s.dev = .fault ∧ s.fckOn = true ∨ s.dev = .twilight) ∧ (coreOf source.toNat = some m) ∧ (code.toNat = C.ERR_FW_FATAL)) ∧
  (∃ (code : Half) (source : Word) (old : Nat) (before : Nat) (active : Nat) (s : State), (s.regsWf) ∧ (s.codeClass code.toNat = .fatal) ∧ (s.dev = .ready ∨ s.dev = .loaded) ∧ (s.devFault = true) ∧ (s.dump.fatal = some (old, before, active)) ∧ (coreOf source.toNat = none) ∧ (s.dump.stopAt = some (s.tick + 15)) ∧ (code.toNat < old) ∧ (code ≠ 0) ∧ (s.fld F.ERR_FATAL.CODE = old) ∧ (s.reg R.ERR_FATAL_TICK = s.tick) ∧ (∀ n < 16, s.siteActive n = false)) ∧
  (∃ (code : Half) (source : Word) (old : Nat) (before : Nat) (active : Nat) (s : State), (s.regsWf) ∧ (s.codeClass code.toNat = .fatal) ∧ (s.dev = .ready ∨ s.dev = .loaded) ∧ (s.devFault = true) ∧ (s.dump.fatal = some (old, before, active)) ∧ (coreOf source.toNat = none) ∧ (s.dump.stopAt ≠ some (s.tick + 15) ∨ old ≤ code.toNat)) ∧
  (∃ (a : Half) (b : Half) (code : Nat) (before : Nat) (act : Nat) (dest : Nat) (at_ : Nat) (s : State), (s.regsWf) ∧ (s.dump.fatal = some (code, before, act)) ∧ (s.dev = .fault) ∧ (s.dump.cores % 4 ≠ 3) ∧ (s.err.kinds = []) ∧ (s.bit F.HIF_EVQ_CTRL.EN = false) ∧ (s.dumpDest s.dumpNi a.toNat b.toNat = (dest, false, at_)) ∧ (dest < 2)) ∧
  (∃ (a : Half) (b : Half) (code : Nat) (before : Nat) (act : Nat) (at_ : Nat) (s : State), (s.regsWf) ∧ (s.dump.fatal = some (code, before, act)) ∧ (s.dev = .fault) ∧ (s.dump.cores % 4 ≠ 3) ∧ (s.err.kinds = []) ∧ (s.bit F.HIF_EVQ_CTRL.EN = false) ∧ (s.dumpDest s.dumpNi a.toNat b.toNat = (2, true, at_))) ∧
  (∃ (a : Half) (b : Half) (code : Nat) (before : Nat) (act : Nat) (at_ : Nat) (s : State) (dv : Bool), (s.regsWf) ∧ (s.dump.fatal = some (code, before, act)) ∧ (s.dev = .fault) ∧ (s.dump.cores % 4 ≠ 3) ∧ (s.err.kinds = []) ∧ (s.bit F.HIF_EVQ_CTRL.EN = false) ∧ (s.dumpDest s.dumpNi a.toNat b.toNat = (3, dv, at_))) ∧
  (∃ (s : State), (s.dump.fatal = none)) ∧
  (∃ (s : State), (s.regsWf) ∧ (s.dumpDone = true) ∧ (s.bit F.ERR_CFG.AUTO_RESET = true)) ∧
  (∃ (s : State), (s.regsWf) ∧ (s.dumpDone = false)) :=
  ⟨⟨0, sB, by decide⟩,
   ⟨⟨0x0201, 5, 6, 7, 8, 1, 0⟩, sB.err, by decide⟩,
   ⟨⟨0x0201, 5, 6, 7, 8, 1, 0⟩, ⟨0x0202, 5, 6, 7, 8, 1, 0⟩, { sB.err with held := [(reporterOf 0x201 6, some ⟨0x0202, 5, 6, 7, 8, 1, 0⟩)] }, by decide⟩,
   ⟨⟨0x0201, 5, 6, 7, 8, 1, 0⟩, [], ({ sB with err := { sB.err with intake := [⟨0x0201, 5, 6, 7, 8, 1, 0⟩] }, hif := { sB.hif with window := true } } : State), by decide⟩,
   ⟨⟨0x0201, 5, 6, 7, 8, 1, 0⟩, [], ⟨0x0201, 5, 1, 2, 8, 20, 12, 3, 4, false⟩, ({ sB with err := { sB.err with intake := [⟨0x0201, 5, 6, 7, 8, 1, 0⟩], kinds := [⟨0x0201, 5, 1, 2, 8, 20, 12, 3, 4, false⟩] } } : State), by decide⟩,
   ⟨⟨0x0201, 5, 6, 7, 8, 1, 0⟩, [], ({ sB with err := { sB.err with intake := [⟨0x0201, 5, 6, 7, 8, 1, 0⟩], kinds := List.replicate 1024 ⟨0x0202, 5, 1, 2, 8, 20, 12, 3, 4, false⟩ } } : State), by decide +kernel⟩,
   ⟨({ sB with err := { sB.err with intake := [] } } : State), by decide⟩,
   ⟨.host, ⟨0x0201, 5, 1, 2, 8, 20, 12, 3, 4, false⟩, (({ sB with err := { sB.err with kinds := [⟨0x0201, 5, 1, 2, 8, 20, 12, 3, 4, false⟩] }, hif := { sB.hif with window := true } } : State).setFlds [(F.ERR_CFG.SUM_EXP, 2)]), by decide⟩,
   ⟨.host, ⟨0x0201, 5, 1, 2, 8, 20, 12, 3, 4, false⟩, (({ sB with err := { sB.err with kinds := [⟨0x0201, 5, 1, 2, 8, 20, 12, 3, 4, false⟩] }, hif := { sB.hif with window := true } } : State).setFlds [(F.ERR_CFG.SUM_EXP, 2)]), by decide⟩,
   ⟨sB, by decide⟩,
   ⟨.host, sB, by decide⟩,
   ⟨.host, ((memUp sB).setFld F.ERR_CFG.MIRROR 1), by decide⟩,
   ⟨.host, ({ sB with dev := .off } : State), by decide⟩,
   ⟨.host, ({ sB with dev := .fault } : State), by decide⟩,
   ⟨.host, 0, (({ memUp sB with dev := .fault, dump := { sB.dump with fatal := some (7, 3, 0) } } : State)), by decide⟩,
   ⟨.host, 5, sB, by decide⟩,
   ⟨(sB.setFlds [(F.ERR_CFG.MIRROR, 0)]), by decide⟩,
   ⟨0, ((memUp sB).setFld F.ERR_CFG.MIRROR 1), by decide⟩,
   ⟨0, (sB.setFlds [(F.ERR_CFG.MIRROR, 1)]), by decide⟩,
   ⟨BitVec.ofNat 16 C.PWR_RAIL_FAULT, 0, (({ sB with devFault := false, fckOn := true, bist := { sB.bist with slices := [] }, cfg := { sB.cfg with load := none } } : State).setFlds [(F.ERR_FATAL.CODE, 0)]), by decide⟩,
   ⟨BitVec.ofNat 16 C.PWR_RAIL_FAULT, 0, ({ sB with dev := .fault } : State), by decide⟩,
   ⟨BitVec.ofNat 16 C.ERR_FW_FATAL, 0xD0000001, ({ sB with dev := .twilight } : State), 1, by decide⟩,
   ⟨(BitVec.ofNat 16 C.PWR_RAIL_FAULT), 0, 0xFFFF, 3, 0, (({ sB with devFault := true, dump := { sB.dump with fatal := some (0xFFFF, 3, 0), stopAt := some 15 } } : State).setFlds [(F.ERR_FATAL.CODE, 0xFFFF)]), by decide⟩,
   ⟨(BitVec.ofNat 16 C.PWR_RAIL_FAULT), 0, 1, 3, 0, (({ sB with devFault := true, dump := { sB.dump with fatal := some (1, 3, 0), stopAt := some 15 } } : State).setFlds [(F.ERR_FATAL.CODE, 1)]), by decide⟩,
   ⟨0, 0, 7, 3, 0, 0, 0x3F80000000, (({ memUp sB with dev := .fault, dump := { sB.dump with fatal := some (7, 3, 0) } } : State)), ⟨by decide, rfl, rfl, by decide, rfl, by decide, dumpDest_slot0 _ (by decide) (by decide) (by decide) (by decide), by decide⟩⟩,
   ⟨0, 0, 7, 3, 0, 0x100000000000, ((({ memUp sB with dev := .fault, msix := { sB.msix with busMaster := true }, dump := { sB.dump with fatal := some (7, 3, 0) } } : State).setFlds [(F.NOC_FENCE_STAT.FENCED, 0x30000), (F.ERR_CFG.HOST_DUMP, 1), (F.ERR_DUMP_HOST.EN, 1), (F.ERR_DUMP_HOST.ADDR, 0x100000000), (F.HIF_LINK.UP, 1)])), by decide⟩,
   ⟨0, 0, 7, 3, 0, 0x3F80000000, ((({ sB with dev := .fault, dump := { sB.dump with fatal := some (7, 3, 0) } } : State).setFld F.NOC_FENCE_STAT.FENCED 0xFFFFFF)), false, by decide⟩,
   ⟨({ sB with dump := { sB.dump with fatal := none } } : State), by decide⟩,
   ⟨(({ sB with dev := .fault } : State).setFld F.ERR_CFG.AUTO_RESET 1), by decide⟩,
   ⟨sB, by decide⟩⟩

/-- The hypotheses of every clause of Obligations.HostLinkEventsAndUpload are met together. -/
theorem test_witness_HostLinkEventsAndUpload :
  (∃ (s : State), (s.regsWf) ∧ (s.noc.reqs = []) ∧ (s.bit F.HIF_CFG.HOLD_ON_LINK = false) ∧ (s.bit F.HIF_LINK.UP = true)) ∧
  (∃ (s : State), (s.regsWf) ∧ (s.noc.reqs = []) ∧ (s.bit F.HIF_CFG.HOLD_ON_LINK = false) ∧ (s.bit F.HIF_LINK.UP = false)) ∧
  (∃ (s : State), (s.regsWf) ∧ (s.noc.reqs = []) ∧ (s.bit F.HIF_CFG.HOLD_ON_LINK = true) ∧ (s.bit F.HIF_LINK.UP = true)) ∧
  (∃ (s : State), (s.regsWf) ∧ (s.dev ≠ .off) ∧ (s.dev ≠ .boot)) ∧
  (∃ (m : Msix) (s : State), (s.msix = m) ∧ (m.pba = [])) ∧
  (∃ (v : Nat) (s : State), (s.msix.pba = [(v, true)]) ∧ (v < 256) ∧ (s.msix.enabled = true) ∧ (s.msix.fmask = false) ∧ ((mget (fun k => if k % 4 = 3 then 1 else 0) (4 * v + 3) s.msix.table : Word).toNat % 2 = 0)) ∧
  (∃ (s : State), (s.regsWf) ∧ (s.dev = .boot) ∧ (s.sec.testHold = false) ∧ (s.sec.fwBad = none) ∧ (s.fld F.SEC_BOOT_STAT.STAGE < 2)) ∧
  (∃ (s : State), (s.regsWf) ∧ (s.dev ≠ .off) ∧ (s.dev ≠ .boot) ∧ (s.sec.testHold = false) ∧ (s.aux.xspi = none)) ∧
  (∃ (v : Word) (s : State), (s.regsWf) ∧ (s.dev ≠ .off) ∧ (s.dev ≠ .boot) ∧ (s.sec.testHold = false) ∧ (s.aux.xspi = none) ∧ (v.toNat / 2 ^ 24 = 0xC3) ∧ (bitOf v.toNat 0 = true)) ∧
  (∃ (v : Word), (v.toNat / 2 ^ 24 ≠ 0xC3)) ∧
  (∃ (s : State), (s.hif.window = true) ∧ (s.hif.late = false)) ∧
  (∃ (s : State), (s.hif.window = true) ∧ (s.hif.late = true) ∧ (s.bit F.HIF_EVQ_CTRL.EN = false)) ∧
  (∃ (s : State), (s.hif.window = false)) ∧
  (∃ (s : State), (s.regsWf)) ∧
  (∃ (j : Fin 8) (s : State), let size := 2 ^ s.fld (F.HIF_UPL_CTRL.SIZE_EXP j); let w := s.fld (F.HIF_UPL_PTR.WPTR j); let n := 8 + (4 * (frontPacket (s.stream j).items).length + 7) / 8 * 8; let a := s.fld (F.HIF_UPL_BASE.ADDR j) * 4096 + w % size; (s.regsWf) ∧ (s.dev ≠ .off) ∧ ((s.stream j).headComplete = true) ∧ (s.bit (F.FCQ_SQ_CFG.EN j) = true) ∧ (s.bit (F.FCQ_SQ_CFG.CONSUMER j) = true) ∧ ((s.stream j).reset = false) ∧ (s.bit (F.HIF_UPL_CTRL.EN j) = true) ∧ (s.bit (F.HIF_UPL_CTRL.STOPPED j) = false) ∧ (w % size + n ≤ size) ∧ ((w + 2 ^ 32 - s.fld (F.HIF_UPL_PTR.RPTR j)) % 2 ^ 32 + n ≤ size) ∧ (memStatus s 152 a n true 0 = 0)) ∧
  (∃ (j : Fin 8) (s : State), (s.bit (F.HIF_UPL_CTRL.STOPPED j) = true)) :=
  ⟨⟨(({ sB with noc := { sB.noc with reqs := [] } } : State).setFlds [(F.HIF_CFG.HOLD_ON_LINK, 0), (F.HIF_LINK.UP, 1)]), by decide⟩,
   ⟨(({ sB with noc := { sB.noc with reqs := [] } } : State).setFlds [(F.HIF_CFG.HOLD_ON_LINK, 0), (F.HIF_LINK.UP, 0)]), by decide⟩,
   ⟨(({ sB with noc := { sB.noc with reqs := [] } } : State).setFlds [(F.HIF_CFG.HOLD_ON_LINK, 1), (F.HIF_LINK.UP, 1)]), by decide⟩,
   ⟨sB, by decide⟩,
   ⟨sB.msix, sB, by decide⟩,
   ⟨255, ({ sB with msix := { sB.msix with pba := [(255, true)], enabled := true, table := [(1023, 0)] } } : State), by decide⟩,
   ⟨({ sB with dev := .boot, sec := { sB.sec with testHold := false, fwBad := none } } : State), by decide⟩,
   ⟨({ sB with sec := { sB.sec with testHold := false }, aux := { sB.aux with xspi := none } } : State), by decide⟩,
   ⟨0xC3000001, ({ sB with sec := { sB.sec with testHold := false }, aux := { sB.aux with xspi := none } } : State), by decide⟩,
   ⟨0, by decide⟩,
   ⟨({ sB with hif := { sB.hif with window := true, late := false } } : State), by decide⟩,
   ⟨(({ sB with hif := { sB.hif with window := true, late := true } } : State).setFlds [(F.HIF_EVQ_CTRL.EN, 0)]), by decide⟩,
   ⟨({ sB with hif := { sB.hif with window := false } } : State), by decide⟩,
   ⟨sB, by decide⟩,
   ⟨0, (({ ((memUp sB).setFlds [(F.FCQ_SQ_CFG.EN 0, 1), (F.FCQ_SQ_CFG.CONSUMER 0, 1), (F.HIF_UPL_CTRL.EN 0, 1), (F.HIF_UPL_CTRL.SIZE_EXP 0, 12), (F.HIF_UPL_BASE.ADDR 0, 0x100000000), (F.HIF_LINK.UP, 1)]) with msix := { sB.msix with busMaster := true } } : State).setStream 0 { StreamQueue.initial with items := [⟨0x11223344, true, true⟩], reset := false }), by decide⟩,
   ⟨0, (sB.setFlds [((F.HIF_UPL_CTRL.STOPPED ((0 : Fin 8))), 1)]), by decide⟩⟩

/-- The hypotheses of every clause of Obligations.HostCommandQueues are met together. -/
theorem test_witness_HostCommandQueues :
  (∃ (q : Fin 8) (v : Word) (s : State), (s.regsWf) ∧ (bitOf v.toNat 31 = true) ∧ (s.fld (F.HIF_CMQ_CTRL.STATE q) ≠ 2)) ∧
  (∃ (v : Word) (s : State), (s.regsWf) ∧ (bitOf v.toNat 31 = false)) ∧
  (∃ (q : Fin 8) (v : Half) (s : State), (s.regsWf) ∧ (ringUsed v.toNat (s.fld (F.HIF_CMQ_PTR.HEAD q)) ≤ s.ringSize q)) ∧
  (∃ (q : Fin 8) (v : Half) (s : State), (s.regsWf) ∧ (s.ringSize q < ringUsed v.toNat (s.fld (F.HIF_CMQ_PTR.HEAD q)))) ∧
  (∃ (q : Fin 8) (v : Half) (s : State), (s.regsWf) ∧ (ringUsed v.toNat (s.fld (F.HIF_CPQ_PTR.HEAD q)) ≤ ringUsed (s.fld (F.HIF_CPQ_PTR.TAIL q)) (s.fld (F.HIF_CPQ_PTR.HEAD q)))) ∧
  (∃ (q : Fin 8) (v : Half) (s : State), (s.regsWf) ∧ (ringUsed (s.fld (F.HIF_CPQ_PTR.TAIL q)) (s.fld (F.HIF_CPQ_PTR.HEAD q)) < ringUsed v.toNat (s.fld (F.HIF_CPQ_PTR.HEAD q)))) ∧
  (∃ (q : Fin 8) (s : State), let a := s.fld (F.HIF_CMQ_BASE.ADDR q) * 4096 + 64 * (s.fld (F.HIF_CMQ_PTR.HEAD q) % s.ringSize q); let c : HifCmd := ⟨q.val, s.dpaBytes a 64, (s.fld (F.HIF_CMQ_PTR.HEAD q) + 1) % 65536, false, none, false⟩; (s.regsWf) ∧ (s.hostServed = true) ∧ (s.fld (F.HIF_CMQ_CTRL.STATE q) = 1) ∧ (s.fld (F.HIF_CMQ_PTR.HEAD q) ≠ s.fld (F.HIF_CMQ_PTR.TAIL q)) ∧ (ringUsed (s.fld (F.HIF_CPQ_PTR.TAIL q)) (s.fld (F.HIF_CPQ_PTR.HEAD q)) + (s.started q).length < s.ringSize q) ∧ (memStatus s 169 a 64 false 0 = 0) ∧ (bitOf (c.field 1 1) 0 = false ∨ s.started q = []) ∧ (c.field 0 1 ≤ 6) ∧ (c.wellFormed = true)) ∧
  (∃ (q : Fin 8) (s : State), let a := s.fld (F.HIF_CMQ_BASE.ADDR q) * 4096 + 64 * (s.fld (F.HIF_CMQ_PTR.HEAD q) % s.ringSize q); let c : HifCmd := ⟨q.val, s.dpaBytes a 64, (s.fld (F.HIF_CMQ_PTR.HEAD q) + 1) % 65536, false, none, false⟩; (s.regsWf) ∧ (s.hostServed = true) ∧ (s.fld (F.HIF_CMQ_CTRL.STATE q) = 1) ∧ (s.fld (F.HIF_CMQ_PTR.HEAD q) ≠ s.fld (F.HIF_CMQ_PTR.TAIL q)) ∧ (ringUsed (s.fld (F.HIF_CPQ_PTR.TAIL q)) (s.fld (F.HIF_CPQ_PTR.HEAD q)) + (s.started q).length < s.ringSize q) ∧ (memStatus s 169 a 64 false 0 = 0) ∧ (bitOf (c.field 1 1) 0 = false ∨ s.started q = []) ∧ (6 < c.field 0 1)) ∧
  (∃ (q : Fin 8) (s : State), let a := s.fld (F.HIF_CMQ_BASE.ADDR q) * 4096 + 64 * (s.fld (F.HIF_CMQ_PTR.HEAD q) % s.ringSize q); let c : HifCmd := ⟨q.val, s.dpaBytes a 64, (s.fld (F.HIF_CMQ_PTR.HEAD q) + 1) % 65536, false, none, false⟩; (s.regsWf) ∧ (s.hostServed = true) ∧ (s.fld (F.HIF_CMQ_CTRL.STATE q) = 1) ∧ (s.fld (F.HIF_CMQ_PTR.HEAD q) ≠ s.fld (F.HIF_CMQ_PTR.TAIL q)) ∧ (ringUsed (s.fld (F.HIF_CPQ_PTR.TAIL q)) (s.fld (F.HIF_CPQ_PTR.HEAD q)) + (s.started q).length < s.ringSize q) ∧ (memStatus s 169 a 64 false 0 = 0) ∧ (bitOf (c.field 1 1) 0 = false ∨ s.started q = []) ∧ (c.field 0 1 ≤ 6) ∧ (c.wellFormed = false)) ∧
  (∃ (q : Fin 8) (s : State), (s.fld (F.HIF_CMQ_CTRL.STATE q) ≠ 1)) ∧
  (∃ (q : Fin 8) (c : HifCmd) (s : State), (s.nextCmd q 0 = some c) ∧ (c.lost = false)) ∧
  (∃ (q : Fin 8) (c : HifCmd) (s : State), (s.nextCmd q 1 = some c) ∧ (c.lost = false) ∧ (c.field 8 1 = 1)) ∧
  (∃ (q : Fin 8) (c : HifCmd) (s : State), (s.nextCmd q 2 = some c) ∧ (c.lost = false) ∧ (bitOf (c.field 12 1) 0 = false)) ∧
  (∃ (q : Fin 8) (c : HifCmd) (s : State), let src := c.field 8 8; let dst := c.field 16 8; let len := c.field 24 4; (s.nextCmd q 3 = some c) ∧ (c.lost = false) ∧ (copyRights false src (len / 64) = true) ∧ (copyRights true dst (len / 64) = true) ∧ (s.copyStop src dst 0 (len / 64) = none) ∧ (dst + len ≤ src ∨ src + len ≤ dst)) ∧
  (∃ (q : Fin 8) (c : HifCmd) (s : State) (x : Nat) (k : Nat) (at_ : Nat), let src := c.field 8 8; let dst := c.field 16 8; let len := c.field 24 4; (s.nextCmd q 3 = some c) ∧ (c.lost = false) ∧ (copyRights false src (len / 64) = true) ∧ (copyRights true dst (len / 64) = true) ∧ (s.copyStop src dst 0 (len / 64) = some (at_, x, k)) ∧ (dst + len ≤ src ∨ src + len ≤ dst)) ∧
  (∃ (q : Fin 8) (n : Word) (c : HifCmd) (s : State), let src := c.field 8 8; let dst := c.field 16 8; let len := c.field 24 4; (s.nextCmd q 3 = some c) ∧ (c.lost = false) ∧ (copyRights false src (len / 64) = true) ∧ (copyRights true dst (len / 64) = true) ∧ (s.copyStop src dst 0 (len / 64) = none) ∧ (dst + len ≤ src ∨ src + len ≤ dst) ∧ (n.toNat ≤ len)) ∧
  (∃ (q : Fin 8) (c : HifCmd) (s : State), let src := c.field 8 8; let dst := c.field 16 8; let len := c.field 24 4; (s.nextCmd q 3 = some c) ∧ (c.lost = false) ∧ (copyRights false src (len / 64) = false ∨ copyRights true dst (len / 64) = false)) ∧
  (∃ (q : Fin 8) (c : HifCmd) (s : State), (s.nextCmd q 4 = some c) ∧ (c.lost = false)) ∧
  (∃ (q : Fin 8) (n : Fin 16) (c : HifCmd) (s : State), (s.nextCmd q 5 = some c) ∧ (c.lost = false) ∧ (c.field 9 1 = 0) ∧ (c.field 10 2 = 2 ^ n.val)) ∧
  (∃ (n : Fin 16) (c : HifCmd), (c.acted = true) ∧ (c.answer = none) ∧ (c.field 0 1 = 5) ∧ (c.field 10 2 = 2 ^ n.val)) ∧
  (∃ (n : Fin 16) (c : HifCmd) (s : State), (c.acted = true) ∧ (c.answer = none) ∧ (c.field 0 1 = 5) ∧ (c.field 10 2 = 2 ^ n.val) ∧ (s.fckOn = true)) ∧
  (∃ (n : Fin 16) (c : HifCmd) (s : State), (c.acted = true) ∧ (c.answer = none) ∧ (c.field 0 1 = 5) ∧ (c.field 10 2 = 2 ^ n.val) ∧ (s.hif.cmds = [c]) ∧ (s.bist.held = [])) ∧
  (∃ (q : Fin 8) (c : HifCmd) (s : State), (s.nextCmd q 6 = some c) ∧ (c.lost = false)) ∧
  (∃ (q : Fin 8) (cid : Half) (c : HifCmd) (st : Nat) (res : Nat) (s : State), let tail := s.fld (F.HIF_CPQ_PTR.TAIL q); let a := s.fld (F.HIF_CPQ_BASE.ADDR q) * 4096 + 16 * (tail % s.ringSize q); (s.regsWf) ∧ ((s.started q).find? (fun d => d.cid == cid.toNat && (s.cmdAnswer d).isSome) = some c) ∧ (s.cmdAnswer c = some (st, res)) ∧ (memStatus s 169 a 16 true 0 = 0)) ∧
  (∃ (s : State), (s.hif.cmds = [])) :=
  ⟨⟨0, 0x80040000, sB, by decide⟩,
   ⟨0, sB, by decide⟩,
   ⟨0, 0, sB, by decide⟩,
   ⟨0, 0x8000, sB, by decide⟩,
   ⟨0, 0, sB, by decide⟩,
   ⟨0, 5, sB, by decide⟩,
   ⟨0, ((memUp sB).setFlds [(F.HIF_CMQ_CTRL.STATE 0, 1), (F.HIF_CMQ_CTRL.SIZE_EXP 0, 4), (F.HIF_CMQ_PTR.TAIL 0, 1), (F.HIF_CMQ_BASE.ADDR 0, 0x10), (F.HIF_LINK.UP, 1)]).setDpaBytes 0x10000 [0, 0, 7, 0], by decide⟩,
   ⟨0, ((memUp sB).setFlds [(F.HIF_CMQ_CTRL.STATE 0, 1), (F.HIF_CMQ_CTRL.SIZE_EXP 0, 4), (F.HIF_CMQ_PTR.TAIL 0, 1), (F.HIF_CMQ_BASE.ADDR 0, 0x10), (F.HIF_LINK.UP, 1)]).setDpaBytes 0x10000 [9, 0, 7, 0], by decide⟩,
   ⟨0, ((memUp sB).setFlds [(F.HIF_CMQ_CTRL.STATE 0, 1), (F.HIF_CMQ_CTRL.SIZE_EXP 0, 4), (F.HIF_CMQ_PTR.TAIL 0, 1), (F.HIF_CMQ_BASE.ADDR 0, 0x10), (F.HIF_LINK.UP, 1)]).setDpaBytes 0x10000 [0, 8, 7, 0], by decide⟩,
   ⟨0, sB, by decide⟩,
   ⟨0, ⟨0, padTo 64 [0,2,7,0], 1, false, none, false⟩, ({ sB with hif := { sB.hif with cmds := [⟨0, padTo 64 [0,2,7,0], 1, false, none, false⟩] } } : State), by decide⟩,
   ⟨0, ⟨0, padTo 64 ([1,2,7,0,0,0,0,0,1,0,0,0,0,0,0,0] ++ leBytes 4 0x700000 ++ leBytes 4 0x00FF0001), 1, false, none, false⟩, ({ sB with hif := { sB.hif with cmds := [⟨0, padTo 64 ([1,2,7,0,0,0,0,0,1,0,0,0,0,0,0,0] ++ leBytes 4 0x700000 ++ leBytes 4 0x00FF0001), 1, false, none, false⟩] } } : State), by decide⟩,
   ⟨0, ⟨0, padTo 64 ([2,0,7,0,0,0,0,0] ++ leBytes 4 0x40010), 1, false, none, false⟩, ({ sB with hif := { sB.hif with cmds := [⟨0, padTo 64 ([2,0,7,0,0,0,0,0] ++ leBytes 4 0x40010), 1, false, none, false⟩] } } : State), by decide⟩,
   ⟨0, ⟨0, padTo 64 ([3,0,7,0,0,0,0,0] ++ leBytes 8 0x10000 ++ leBytes 8 0x20000 ++ leBytes 4 64), 1, false, none, false⟩, ({ memUp sB with hif := { sB.hif with cmds := [⟨0, padTo 64 ([3,0,7,0,0,0,0,0] ++ leBytes 8 0x10000 ++ leBytes 8 0x20000 ++ leBytes 4 64), 1, false, none, false⟩] } } : State), by decide⟩,
   ⟨0, ⟨0, padTo 64 ([3,0,7,0,0,0,0,0] ++ leBytes 8 0x10000 ++ leBytes 8 0x100000000000 ++ leBytes 4 64), 1, false, none, false⟩, ({ memUp sB with hif := { sB.hif with cmds := [⟨0, padTo 64 ([3,0,7,0,0,0,0,0] ++ leBytes 8 0x10000 ++ leBytes 8 0x100000000000 ++ leBytes 4 64), 1, false, none, false⟩] } } : State), 0x100000000000, C.HIF_DMA_ERR, 0, by decide⟩,
   ⟨0, 32, ⟨0, padTo 64 ([3,0,7,0,0,0,0,0] ++ leBytes 8 0x10000 ++ leBytes 8 0x20000 ++ leBytes 4 64), 1, false, none, false⟩, ({ memUp sB with hif := { sB.hif with cmds := [⟨0, padTo 64 ([3,0,7,0,0,0,0,0] ++ leBytes 8 0x10000 ++ leBytes 8 0x20000 ++ leBytes 4 64), 1, false, none, false⟩] } } : State), by decide⟩,
   ⟨0, ⟨0, padTo 64 ([3,0,7,0,0,0,0,0] ++ leBytes 8 0x10000 ++ leBytes 8 0x3F80000000 ++ leBytes 4 64), 1, false, none, false⟩, ({ memUp sB with hif := { sB.hif with cmds := [⟨0, padTo 64 ([3,0,7,0,0,0,0,0] ++ leBytes 8 0x10000 ++ leBytes 8 0x3F80000000 ++ leBytes 4 64), 1, false, none, false⟩] } } : State), by decide⟩,
   ⟨0, ⟨0, padTo 64 ([4,0,7,0,0,0,0,0] ++ leBytes 8 0x10000 ++ leBytes 4 0x1000 ++ [0]), 1, false, none, false⟩, ({ sB with hif := { sB.hif with cmds := [⟨0, padTo 64 ([4,0,7,0,0,0,0,0] ++ leBytes 8 0x10000 ++ leBytes 4 0x1000 ++ [0]), 1, false, none, false⟩] } } : State), by decide⟩,
   ⟨0, 2, ⟨0, padTo 64 ([5,0,7,0,0,0,0,0] ++ [1,0,4,0]), 1, false, none, false⟩, ({ sB with hif := { sB.hif with cmds := [⟨0, padTo 64 ([5,0,7,0,0,0,0,0] ++ [1,0,4,0]), 1, false, none, false⟩] } } : State), by decide⟩,
   ⟨2, ⟨0, padTo 64 ([5,0,7,0,0,0,0,0] ++ [1,0,4,0]), 1, true, none, false⟩, by decide⟩,
   ⟨2, ⟨0, padTo 64 ([5,0,7,0,0,0,0,0] ++ [1,0,4,0]), 1, true, none, false⟩, ({ sB with hif := { sB.hif with cmds := [⟨0, padTo 64 ([5,0,7,0,0,0,0,0] ++ [1,0,4,0]), 1, true, none, false⟩] } } : State), by decide⟩,
   ⟨2, ⟨0, padTo 64 ([5,0,7,0,0,0,0,0] ++ [1,0,4,0]), 1, true, none, false⟩, ({ sB with hif := { sB.hif with cmds := [⟨0, padTo 64 ([5,0,7,0,0,0,0,0] ++ [1,0,4,0]), 1, true, none, false⟩] } } : State), by decide⟩,
   ⟨0, ⟨0, padTo 64 ([6,0,7,0,0,0,0,0] ++ leBytes 8 0x10000 ++ leBytes 4 0x10000000), 1, false, none, false⟩, ({ sB with hif := { sB.hif with cmds := [⟨0, padTo 64 ([6,0,7,0,0,0,0,0] ++ leBytes 8 0x10000 ++ leBytes 4 0x10000000), 1, false, none, false⟩] } } : State), by decide⟩,
   ⟨0, 7, ⟨0, padTo 64 [0,2,7,0], 1, true, some (0, 5), false⟩, 0, 5, ((memUp ({ sB with hif := { sB.hif with cmds := [⟨0, padTo 64 [0,2,7,0], 1, true, some (0, 5), false⟩] } } : State)).setFlds [(F.HIF_CMQ_CTRL.STATE 0, 1), (F.HIF_CMQ_CTRL.SIZE_EXP 0, 4), (F.HIF_CPQ_PTR.TAIL 0, 17), (F.HIF_CPQ_BASE.ADDR 0, 0x10), (F.HIF_LINK.UP, 1)]), by dsimp only; decide⟩,
   ⟨({ sB with hif := { sB.hif with cmds := [] } } : State), by decide⟩⟩

/-- The hypotheses of every clause of Obligations.SidebandPorts are met together. -/
theorem test_witness_SidebandPorts :
  (∃ (bus : Bool) (pid : BitVec 48) (x : Byte) (desc : BitVec 128) (e : Nat) (s : State), (s.regsWf) ∧ (s.dev ≠ .off) ∧ (s.dev ≠ .twilight) ∧ (bitOf (s.fld F.AUX_I3C_CFG.BUS_EN) (b2n bus) = true) ∧ (∀ i < 64, s.ptState i = 2 → s.ptPid i ≠ pid.toNat) ∧ (s.bit F.AUX_I3C_XFER.BUSY = false) ∧ (s.joinEntry pid.toNat = some e) ∧ (dynamicAddr x.toNat = true) ∧ (∀ i < 64, s.ptState i = 2 → s.ptByte i 11 = b2n bus → s.ptByte i 10 ≠ x.toNat) ∧ (descValid desc = true) ∧ (s.bit F.HIF_EVQ_CTRL.EN = false)) ∧
  (∃ (bus : Bool) (pid : BitVec 48) (x : Byte) (desc : BitVec 128) (e : Nat) (s : State), (s.regsWf) ∧ (s.dev ≠ .off) ∧ (s.dev ≠ .twilight) ∧ (bitOf (s.fld F.AUX_I3C_CFG.BUS_EN) (b2n bus) = true) ∧ (∀ i < 64, s.ptState i = 2 → s.ptPid i ≠ pid.toNat) ∧ (s.bit F.AUX_I3C_XFER.BUSY = false) ∧ (s.joinEntry pid.toNat = some e) ∧ (dynamicAddr x.toNat = true) ∧ (∀ i < 64, s.ptState i = 2 → s.ptByte i 11 = b2n bus → s.ptByte i 10 ≠ x.toNat) ∧ (descValid desc = false)) ∧
  (∃ (bus : Bool) (pid : BitVec 48) (x : Byte) (e : Nat) (s : State), (s.regsWf) ∧ (s.dev ≠ .off) ∧ (s.dev ≠ .twilight) ∧ (bitOf (s.fld F.AUX_I3C_CFG.BUS_EN) (b2n bus) = true) ∧ (∀ i < 64, s.ptState i = 2 → s.ptPid i ≠ pid.toNat) ∧ (s.bit F.AUX_I3C_XFER.BUSY = false) ∧ (s.joinEntry pid.toNat = some e) ∧ (dynamicAddr x.toNat = true) ∧ (∀ i < 64, s.ptState i = 2 → s.ptByte i 11 = b2n bus → s.ptByte i 10 ≠ x.toNat)) ∧
  (∃ (s : State), (s.dev = .off ∨ s.dev = .twilight)) ∧
  (∃ (bus : Bool) (s : State), (s.dev ≠ .off) ∧ (s.dev ≠ .twilight) ∧ (bitOf (s.fld F.AUX_I3C_CFG.BUS_EN) (b2n bus) = true) ∧ (s.bit F.AUX_I3C_XFER.BUSY = true)) ∧
  (∃ (j : JoinReq) (s : State), (s.bit F.AUX_I3C_XFER.BUSY = true) ∧ (s.aux.joins = [j])) ∧
  (∃ (s : State), (s.regsWf)) ∧
  (∃ (e : Fin 64) (s : State), (s.regsWf) ∧ (s.ptState e = 2) ∧ (∀ i < 64, i ≠ e.val → s.ptState i ≠ 2) ∧ (s.ptByte e 15 < 2)) ∧
  (∃ (e : Fin 64) (s : State), (s.regsWf) ∧ (s.ptState e = 2) ∧ (∀ i < 64, i ≠ e.val → s.ptState i ≠ 2) ∧ (2 ≤ s.ptByte e 15) ∧ (s.ptByte e 15 < 255) ∧ (s.boundTo e = []) ∧ (s.bit F.HIF_EVQ_CTRL.EN = false)) ∧
  (∃ (v : Word) (s : State), (s.regsWf) ∧ (s.bit F.AUX_I3C_XFER.BUSY = false) ∧ (bitOf v.toNat 31 = true) ∧ (s.ptState (v.toNat % 64) = 2) ∧ (1 ≤ v.toNat / 2 ^ 16 % 64) ∧ (v.toNat / 2 ^ 16 % 64 ≤ 32)) ∧
  (∃ (v : Word) (s : State), (s.regsWf) ∧ (s.bit F.AUX_I3C_XFER.BUSY = false) ∧ (bitOf v.toNat 31 = true) ∧ (s.ptState (v.toNat % 64) ≠ 2)) ∧
  (∃ (s : State), (s.regsWf) ∧ (s.bit F.AUX_I3C_XFER.BUSY = true) ∧ (s.aux.joins = []) ∧ (s.bit F.AUX_I3C_XFER.DIR = false)) ∧
  (∃ (s : State), (s.regsWf) ∧ (s.bit F.AUX_I3C_XFER.BUSY = true) ∧ (s.aux.joins = []) ∧ (s.bit F.AUX_I3C_XFER.DIR = true) ∧ (s.fld F.AUX_I3C_XFER.LEN ≤ 32)) ∧
  (∃ (s : State), (s.regsWf) ∧ (s.bit F.AUX_I3C_XFER.BUSY = true) ∧ (s.aux.joins = [])) ∧
  (∃ (s : State), (s.bit F.AUX_I3C_XFER.BUSY = false)) ∧
  (∃ (op : Fin 4) (s : State), (s.regsWf) ∧ (s.bit F.AUX_XSPI_CMD.BUSY = false) ∧ (s.fld F.AUX_XSPI_ARGS.ADDR % xspiUnit (op.val + 1) = 0 ∧ s.fld F.AUX_XSPI_ARGS.LEN % xspiUnit (op.val + 1) = 0 ∧
        s.fld F.AUX_XSPI_ARGS.LEN ≤ 0x1000000)) ∧
  (∃ (op : Fin 4) (s : State), (s.regsWf) ∧ (s.bit F.AUX_XSPI_CMD.BUSY = false) ∧ (s.fld F.AUX_XSPI_ARGS.ADDR % xspiUnit (op.val + 1) ≠ 0 ∨ 0x1000000 < s.fld F.AUX_XSPI_ARGS.LEN)) ∧
  (∃ (x : XspiCmd) (s : State), (s.regsWf) ∧ (s.aux.xspi = some x) ∧ (s.xspiMem x 0 = 0) ∧ (x.op = 1)) ∧
  (∃ (x : XspiCmd) (s : State), (s.regsWf) ∧ (s.aux.xspi = some x) ∧ (s.xspiMem x 0 = 0) ∧ (3 ≤ x.op)) ∧
  (∃ (x : XspiCmd) (s : State), (s.regsWf) ∧ (s.aux.xspi = some x) ∧ (s.xspiMem x 0 = 0) ∧ (x.op = 2) ∧ (∀ i < x.len, s.flashAt (x.addr + i) = 0xFF)) ∧
  (∃ (x : XspiCmd) (s : State), (s.regsWf) ∧ (s.aux.xspi = some x)) ∧
  (∃ (s : State), (s.aux.xspi = none)) :=
  ⟨⟨false, 0x123456789, 8, 0x01015055, 0, (({ sB with dev := .ready } : State).setFlds [(F.AUX_I3C_CFG.BUS_EN, 3)]), by decide⟩,
   ⟨false, 0x123456789, 8, 0x01015054, 0, (({ sB with dev := .ready } : State).setFlds [(F.AUX_I3C_CFG.BUS_EN, 3)]), by decide⟩,
   ⟨false, 0x123456789, 8, 0, (({ sB with dev := .ready } : State).setFlds [(F.AUX_I3C_CFG.BUS_EN, 3)]), by decide⟩,
   ⟨({ sB with dev := .off } : State), by decide⟩,
   ⟨false, (sB.setFlds [(F.AUX_I3C_CFG.BUS_EN, 3), (F.AUX_I3C_XFER.BUSY, 1)]), by decide⟩,
   ⟨⟨false, 0x123456789, 0, 0, 0x01015055, some 8⟩, (({ sB with aux := { sB.aux with joins := [⟨false, 0x123456789, 0, 0, 0x01015055, some 8⟩] } } : State).setFlds [(F.AUX_I3C_CFG.BUS_EN, 3), (F.AUX_I3C_XFER.BUSY, 1)]), by decide⟩,
   ⟨sB, by decide⟩,
   ⟨3, (sB.setPtByte 3 8 2), by decide⟩,
   ⟨3, ((sB.setPtByte 3 8 2).setPtByte 3 15 2), by decide⟩,
   ⟨0x80070003, (sB.setPtByte 3 8 2), by decide⟩,
   ⟨0x80070003, (sB.setFlds [(F.AUX_I3C_XFER.BUSY, 0)]), by decide⟩,
   ⟨(({ sB with aux := { sB.aux with joins := [] } } : State).setFlds [(F.AUX_I3C_XFER.BUSY, 1), (F.AUX_I3C_XFER.DIR, 0)]), by decide⟩,
   ⟨(({ sB with aux := { sB.aux with joins := [] } } : State).setFlds [(F.AUX_I3C_XFER.BUSY, 1), (F.AUX_I3C_XFER.DIR, 1)]), by decide⟩,
   ⟨(({ sB with aux := { sB.aux with joins := [] } } : State).setFlds [(F.AUX_I3C_XFER.BUSY, 1)]), by decide⟩,
   ⟨(sB.setFlds [(F.AUX_I3C_XFER.BUSY, 0)]), by decide⟩,
   ⟨0, (sB.setFlds [(F.AUX_XSPI_CMD.BUSY, 0)]), by decide⟩,
   ⟨2, (sB.setFlds [(F.AUX_XSPI_ARGS.ADDR, 5)]), by decide⟩,
   ⟨⟨1, 0x1000, 2, 0x2000⟩, ({ memUp sB with aux := { sB.aux with flash := [(0x1000, some 0xFF), (0x1001, some 0xFF)], xspi := some ⟨1, 0x1000, 2, 0x2000⟩ } } : State), by decide⟩,
   ⟨⟨3, 0x1000, 2, 0x2000⟩, ({ memUp sB with aux := { sB.aux with flash := [(0x1000, some 0xFF), (0x1001, some 0xFF)], xspi := some ⟨3, 0x1000, 2, 0x2000⟩ } } : State), by decide⟩,
   ⟨⟨2, 0x1000, 2, 0x2000⟩, ({ memUp sB with aux := { sB.aux with flash := [(0x1000, some 0xFF), (0x1001, some 0xFF)], xspi := some ⟨2, 0x1000, 2, 0x2000⟩ } } : State), by decide⟩,
   ⟨⟨3, 0x1000, 2, 0x2000⟩, ({ (memUp sB) with aux := { sB.aux with xspi := some ⟨3, 0x1000, 2, 0x2000⟩ } } : State), by decide⟩,
   ⟨({ sB with aux := { sB.aux with xspi := none } } : State), by decide⟩⟩

/-- The hypotheses of every clause of Obligations.PowerClocksAndTemperature are met together. -/
theorem test_witness_PowerClocksAndTemperature :
  (∃ (d : Fin 32) (s : State), (s.regsWf) ∧ (s.bit F.PWR_DOM_CMDSTAT.BUSY = false) ∧ (s.pwrAllowed d = true) ∧ (bitOf (s.fld F.PWR_DOM_STAT.ON) d = false)) ∧
  (∃ (d : Fin 32) (s : State), (s.regsWf) ∧ (s.bit F.PWR_DOM_CMDSTAT.BUSY = false) ∧ (s.pwrAllowed d = true) ∧ (bitOf (s.fld F.PWR_DOM_STAT.ON) d = true) ∧ (s.mayPowerOff d = true) ∧ (s.bist.slices = [])) ∧
  (∃ (d : Fin 32) (s : State), (s.regsWf) ∧ (s.bit F.PWR_DOM_CMDSTAT.BUSY = false) ∧ (s.pwrAllowed d = true) ∧ (s.mayPowerOff d = false)) ∧
  (∃ (d : Fin 32) (s : State), (s.regsWf) ∧ (s.bit F.PWR_DOM_CMDSTAT.BUSY = false) ∧ (s.pwrAllowed d = false)) ∧
  (∃ (d : Nat) (s : State), (s.regsWf) ∧ (commandDomain d = true) ∧ (s.pwr.switching = some (d, true))) ∧
  (∃ (d : Nat) (s : State), (s.regsWf) ∧ (commandDomain d = true) ∧ (s.pwr.switching = some (d, false)) ∧ (ownsNis d = false ∨ bitOf (s.fld F.NOC_FENCE_STAT.FENCED) d = true)) ∧
  (∃ (d : Nat) (s : State), (s.regsWf) ∧ (commandDomain d = true) ∧ (s.pwr.switching = some (d, false)) ∧ (ownsNis d = true) ∧ (bitOf (s.fld F.NOC_FENCE_STAT.FENCED) d = false)) ∧
  (∃ (d : Nat) (s : State) (on : Bool) (q : Nat), (s.regsWf) ∧ (commandDomain d = true) ∧ (q < 4) ∧ (s.pwr.switching = some (d, on)) ∧ (on = true ∨ ownsNis d = false) ∧ (s.bit (F.PSL_QCTRL.PWR_EN q) = true)) ∧
  (∃ (d : Nat) (s : State) (on : Bool), (s.regsWf) ∧ (commandDomain d = true) ∧ (s.pwr.switching = some (d, on))) ∧
  (∃ (s : State), (s.pwr.switching = none)) ∧
  (∃ (s : State), (s.regsWf) ∧ (s.dev ≠ .off) ∧ (s.bit F.TICK_STAT.LOCK = false)) ∧
  (∃ (s : State), (s.regsWf) ∧ (s.dev ≠ .off) ∧ (s.bit F.TICK_STAT.LOCK = true) ∧ (s.bit F.TICK_STAT.FCK_BUSY = false)) ∧
  (∃ (p : Fin 10) (s : State), (s.regsWf) ∧ (3 ≤ p.val) ∧ (p.val ≠ 7) ∧ (p.val ≠ 8) ∧ (bitOf (s.fld F.CLK_STAT.LOCK) p = true)) ∧
  (∃ (p : Fin 10) (s : State), (s.regsWf) ∧ (3 ≤ p.val) ∧ (p.val ≠ 7) ∧ (p.val ≠ 8) ∧ (bitOf (s.fld F.CLK_STAT.LOCK) p = false) ∧ (s.dev ≠ .off)) ∧
  (∃ (s : State), (s.regsWf) ∧ (s.dev ≠ .off) ∧ (bitOf (s.fld F.CLK_STAT.LOCK) 0 = false) ∧ (s.flightsKnown = false)) ∧
  (∃ (q : Nat) (s : State), (s.regsWf) ∧ (q < 2) ∧ (bitOf (s.fld F.CLK_STAT.LOCK) 1 = true) ∧ (s.bit (F.PSL_QSTAT.READY q) = true)) ∧
  (∃ (q : Nat) (s : State), (s.regsWf) ∧ (q < 2) ∧ (s.dev ≠ .off) ∧ (bitOf (s.fld F.CLK_STAT.LOCK) 1 = false) ∧ (q ∈ s.pwr.quadUp)) ∧
  (∃ (s : State), (s.regsWf) ∧ (s.dev = .ready ∨ s.dev = .loaded) ∧ (s.devFault = false) ∧ (s.fckOn = true) ∧ (s.fld F.ERR_FATAL.CODE = 0) ∧ (s.bist.slices = []) ∧ (s.cfg.load = none) ∧ (∀ n < 16, s.siteActive n = false)) ∧
  (∃ (s : State), (s.regsWf) ∧ (s.dev = .boot ∨ s.dev = .fault)) ∧
  (∃ (c : Half) (s : State), (s.regsWf) ∧ (s.dev ≠ .off) ∧ (16 * s.warnAt ≤ degrees c)) ∧
  (∃ (c : Half) (s : State), (s.regsWf) ∧ (s.dev ≠ .off) ∧ (degrees c < 16 * s.warnAt)) ∧
  (∃ (c : Half) (s : State), (s.regsWf) ∧ (s.dev ≠ .off) ∧ (16 * 125 ≤ degrees c)) ∧
  (∃ (c : Half) (s : State), (s.regsWf) ∧ (s.dev ≠ .off) ∧ (16 * 110 ≤ degrees c) ∧ (s.dev = .fault) ∧ (s.fckOn = true)) ∧
  (∃ (v : BitVec 128) (s : State), (s.regsWf) ∧ (s.dev ≠ .off) ∧ (∀ k < 8, degrees (BitVec.ofNat 16 (v.toNat / 2 ^ (16 * k))) < 16 * (s.warnAt - s.fld F.PWR_THERM_CFG.HYST))) :=
  ⟨⟨20, (sB), by decide⟩,
   ⟨20, (sB.setFlds [(F.PWR_DOM_STAT.ON, 0x100001)]), by decide⟩,
   ⟨20, (sB.setFlds [(F.SLV_CTRL.EN, 1)]), by decide⟩,
   ⟨0, (sB.setFlds [(F.PWR_DOM_CMDSTAT.BUSY, 0)]), by decide⟩,
   ⟨21, ({ sB with pwr := { sB.pwr with switching := some (21, true) } } : State), by decide⟩,
   ⟨21, ({ (sB.setFlds [(F.PWR_DOM_STAT.ON, 0xFFFFFF), (F.NOC_FENCE_STAT.FENCED, 0x200000)]) with pwr := { sB.pwr with switching := some (21, false) } } : State), by decide⟩,
   ⟨21, ({ (sB.setFlds [(F.PWR_DOM_STAT.ON, 0xFFFFFF), (F.NOC_FENCE_STAT.FENCED, 0)]) with pwr := { sB.pwr with switching := some (21, false) } } : State), by decide⟩,
   ⟨21, (({ sB with pwr := { sB.pwr with switching := some (21, true) } } : State).setFlds [(F.PSL_QCTRL.PWR_EN 3, 1)]), true, 3, by decide⟩,
   ⟨21, ({ (sB.setFlds [(F.PWR_DOM_STAT.ON, 0xFFFFFF)]) with pwr := { sB.pwr with switching := some (21, false) } } : State), false, by decide⟩,
   ⟨({ sB with pwr := { sB.pwr with switching := none } } : State), by decide⟩,
   ⟨(sB.setFlds [(F.TICK_STAT.LOCK, 0)]), by decide⟩,
   ⟨(sB.setFlds [(F.TICK_STAT.LOCK, 1), (F.TICK_STAT.FCK_BUSY, 0)]), by decide⟩,
   ⟨4, (sB.setFlds [(F.CLK_STAT.LOCK, 0x3FF)]), by decide⟩,
   ⟨4, (sB.setFlds [(F.CLK_STAT.LOCK, 0x3)]), by decide⟩,
   ⟨sB, by decide⟩,
   ⟨0, (sB.setFlds [(F.CLK_STAT.LOCK, (2^(1 : Nat))), ((F.PSL_QSTAT.READY (0)), 1)]), by decide⟩,
   ⟨1, ((({ sB with pwr := { sB.pwr with quadUp := [1] } } : State)).setFlds [(F.PSL_QCTRL.PWR_EN 1, 1), (F.CLK_STAT.LOCK, 1)]), by decide⟩,
   ⟨(({ sB with devFault := false, fckOn := true, bist := { sB.bist with slices := [] }, cfg := { sB.cfg with load := none } } : State).setFlds [(F.ERR_FATAL.CODE, 0)]), by decide⟩,
   ⟨({ sB with dev := .boot } : State), by decide⟩,
   ⟨0x7D0, sB, by decide⟩,
   ⟨0, sB, by decide⟩,
   ⟨0x7D0, sB, by decide⟩,
   ⟨0x7D0, ({ sB with dev := .fault } : State), by decide⟩,
   ⟨0, sB, by decide⟩⟩

/-- The hypotheses of every clause of Obligations.SplitReadsReturnOneValue are met together. -/
theorem test_witness_SplitReadsReturnOneValue :
  (∃ (off : BitVec 26) (hi : BitVec 26) (r : RegRow) (s : State), (s.dev ≠ .off) ∧ (wideReg off.toNat r) ∧ (regAt (off.toNat + 4) = some (r, true)) ∧ (hi.toNat = off.toNat + 4) ∧ (off.toNat % 8 = 0) ∧ (hi.toNat % 4 = 0) ∧ (inWindow hi.toNat = false) ∧ (actingRead hi.toNat = false)) :=
  ⟨0x40010, 0x40014, (match regAt 0x40010 with | some (r, _) => r | none => ⟨"", 0, [], false, .por, []⟩), sB, by decide⟩

/-- The hypotheses of every clause of Obligations.RegisterAccesses are met together. -/
theorem test_witness_RegisterAccesses :
  (∃ (s : State), (s.dev = .off)) ∧
  (∃ (off : BitVec 26), (off.toNat % 4 ≠ 0)) ∧
  (∃ (off : BitVec 26), (0x800000 ≤ off.toNat)) ∧
  (∃ (off : BitVec 26) (s : State), (s.dev ≠ .off) ∧ (0x800000 ≤ off.toNat) ∧ (off.toNat % 4 = 0)) ∧
  (∃ (off : BitVec 26) (w : Bool) (s : State), (s.dev ≠ .off) ∧ (off.toNat % 8 + (if w then 8 else 4) ≤ 8)) ∧
  (∃ (off : BitVec 26) (w : Bool) (s : State), (s.dev ≠ .off) ∧ (8 < off.toNat % 8 + (if w then 8 else 4))) ∧
  (∃ (s : State), (s.regsWf) ∧ (s.dev ≠ .off)) ∧
  (∃ (s : State), (s.dev ≠ .off)) :=
  ⟨⟨({ sB with dev := .off } : State), by decide⟩,
   ⟨2, by decide⟩,
   ⟨0x800000, by decide⟩,
   ⟨0x800000, sB, by decide⟩,
   ⟨0, false, sB, by decide⟩,
   ⟨6, false, sB, by decide⟩,
   ⟨sB, by decide⟩,
   ⟨sB, by decide⟩⟩

end Sys2Proof.Tests
end

section
/-! THE CANONICAL FORMS. What every part of the model keeps of the canonical form of a state, from the accessors up to `step`, in the order of the
model. One lemma for each function: its proof follows the branches of the definition and cites the lemmas of what it calls. For the meaning of a
command the lemma is `Keeps`, which says in one that the command completes and that it keeps the form. -/

open Sys2Proof.Claims

namespace Sys2Proof.Machine

/-- `Claims.psqWf` of a sequencer, as a predicate to chain lemmas on. -/
def Psq.Wf (p : Psq) : Prop := psqWf p

/-- `Claims.canonical` of a state, as a predicate to chain lemmas on. -/
def Canon (s : State) : Prop := canonical s

/-- The load in progress, if there is one, names regions, sequencers and pages that exist. -/
def LoadOk (l : Option CfgLoad) : Prop := ∀ x, l = some x → loadInRange x

/-- From `s` the command comes to a next state, and that one is canonical when `s` is. -/
def Keeps (s : State) (o : Host.Outcome State Fault Refusal) : Prop := ∃ t, o = .next t ∧ (Canon s → Canon t)

section

variable {s s0 t c u st : State} {p : Psq}

/-- The empty map is in canonical form. -/
theorem mwf_nil {α : Type} [DecidableEq α] (d : Nat → α) : mwf d [] = true := rfl

theorem mabove_mmap {α : Type} [DecidableEq α] (d : Nat → α) (f : Nat → α → α) (k : Nat) :
    ∀ m : List (Nat × α), mabove k m = true → mabove k (mmap d f m) = true
  | [], _ => rfl
  | (j, v) :: m, h => by
    simp only [mabove, Bool.and_eq_true, decide_eq_true_eq] at h
    unfold mmap
    split
    · exact mabove_mmap d f k m h.2
    · simp [mabove, h.1, mabove_mmap d f k m h.2]

/-- Rewriting the values of a map keeps the canonical form. -/
theorem mwf_mmap {α : Type} [DecidableEq α] (d : Nat → α) (f : Nat → α → α) :
    ∀ m : List (Nat × α), mwf d m = true → mwf d (mmap d f m) = true
  | [], _ => rfl
  | (j, v) :: m, h => by
    simp only [mwf, Bool.and_eq_true, decide_eq_true_eq] at h
    unfold mmap
    split
    · exact mwf_mmap d f m h.2
    · next hv => simp [mwf, hv, mabove_mmap d f j m h.1.1, mwf_mmap d f m h.2]

/-- A key of a map rewritten by `f` reads the default or `f` of what it read. -/
theorem mget_mmap {α : Type} [DecidableEq α] (d : Nat → α) (f : Nat → α → α) (k : Nat) :
    ∀ m : List (Nat × α), mwf d m = true → mget d k (mmap d f m) = d k ∨ mget d k (mmap d f m) = f k (mget d k m)
  | [], _ => .inl rfl
  | (j, v) :: m, h => by
    simp only [mwf, Bool.and_eq_true, decide_eq_true_eq] at h
    by_cases hj : j = k
    · subst hj
      by_cases hv : f j v = d j
      · exact .inl (by simp [mmap, hv, mget_of_mabove d j _ (mabove_mmap d f j m h.1.1)])
      · exact .inr (by simp [mmap, hv, mget])
    · by_cases hv : f j v = d j <;> simpa [mmap, hv, mget, hj] using mget_mmap d f k m h.2

namespace Psq.Wf

theorem mk (hb : mwf (fun _ => 0) p.banks = true) (hf : mwf (fun _ => none) p.frames = true) (hi : mwf (fun _ => none) p.irq = true) : p.Wf :=
  ⟨hb, hf, hi⟩

theorem banks (h : p.Wf) : mwf (fun _ => 0) p.banks = true := h.1
theorem frames (h : p.Wf) : mwf (fun _ => none) p.frames = true := h.2.1
theorem irq (h : p.Wf) : mwf (fun _ => none) p.irq = true := h.2.2
theorem reset : Psq.reset.Wf := ⟨rfl, rfl, rfl⟩
/-- Nothing but the banks, the frame headers and the pending interrupts bears on the form of a sequencer. -/
theorem other {mode next cmdNow runAt slipAt exec faulted svcAt svcEnd nRun s0 rep issuedAt pc cur depth wstore inMem spillBad ie priv trap
    sealFlag epc ecause eval tstatus lmstate lmbase tlmstate tlmbase winsel tickHi sfail acc vote vc vwr vout repLeft movedAt masks
    scratch imem fills irqCheck access held} (h : p.Wf) :
    Psq.Wf { p with mode, next, cmdNow, runAt, slipAt, exec, faulted, svcAt, svcEnd, nRun, s0, rep, issuedAt, pc, cur, depth,
                    wstore, inMem, spillBad, ie, priv, trap, sealFlag, epc, ecause, eval, tstatus, lmstate, lmbase, tlmstate,
                    tlmbase, winsel, tickHi, sfail, acc, vote, vc, vwr, vout, repLeft, movedAt, masks, scratch, imem, fills,
                    irqCheck, access, held } := h

theorem ite {c : Prop} [Decidable c] {p q : Psq} (hp : p.Wf) (hq : q.Wf) : (if c then p else q).Wf := by split <;> assumption

end Psq.Wf

/-- The seven parts that the canonical form of a state speaks of. -/
theorem canon_iff : Canon s ↔ mwf memDefault s.mem = true ∧ mwf memDefault s.hmem = true ∧ mwf resetVal s.regs = true ∧
    mwf (fun _ => Slice.reset) s.slices = true ∧ mwf (fun _ => Psq.reset) s.psq = true ∧ mwf (fun _ => SlvRgn.reset) s.slv.rgns = true ∧
    (∀ n, (s.getPsq n).Wf) ∧ LoadOk s.cfg.load := Iff.rfl

theorem LoadOk.none : LoadOk Option.none := nofun

namespace Canon

theorem ite {c : Prop} [Decidable c] {s t : State} (hs : Canon s) (ht : Canon t) : Canon (if c then s else t) := by split <;> assumption

section
variable {pending free f128 dev devFault tick fckOn fckStop fckSet fckNew latch msix err fab pslLost sources queues streams xPkts csc bist sec
  dump noc hif jtag aux pwr rdata}

/-- No other part of the state bears on its canonical form. -/
theorem other (h : Canon s) :
    Canon { s with pending, free, f128, dev, devFault, tick, fckOn, fckStop, fckSet, fckNew, latch, msix, err, fab, pslLost, sources, queues,
                   streams, xPkts, csc, bist, sec, dump, noc, hif, jtag, aux, pwr, rdata } := h

/-- Of the solver only its regions bear on the canonical form. -/
theorem otherSlv {lanes cmd} (h : Canon s) :
    Canon { s with pending, free, f128, dev, devFault, tick, fckOn, fckStop, fckSet, fckNew, latch, msix, err, fab, pslLost, sources, queues,
                   streams, xPkts, slv := ⟨lanes, s.slv.rgns, cmd⟩, csc, bist, sec, dump, noc, hif, jtag, aux, pwr, rdata } := h

/-- Of the configuration block only the load bears on the canonical form. -/
theorem otherCfg {chain pmins port inbuf deaf waits committed} (h : Canon s) :
    Canon { s with pending, free, f128, dev, devFault, tick, fckOn, fckStop, fckSet, fckNew, latch, msix, err, fab, pslLost, sources, queues,
                   streams, xPkts, csc, bist, sec, dump, noc, cfg := ⟨s.cfg.load, chain, pmins, port, inbuf, deaf, waits, committed⟩, hif, jtag,
                   aux, pwr, rdata } := h

theorem setMem {m} (h : Canon s) (hm : mwf memDefault m = true) :
    Canon { s with pending, free, f128, dev, devFault, tick, fckOn, fckStop, fckSet, fckNew, latch, mem := m, msix, err, fab, pslLost, sources,
                   queues, streams, xPkts, csc, bist, sec, dump, noc, hif, jtag, aux, pwr, rdata } :=
  canon_iff.2 ⟨hm, (canon_iff.1 h).2⟩

theorem setCfg {cfg} (h : Canon s) (hl : LoadOk cfg.load) :
    Canon { s with pending, free, f128, dev, devFault, tick, fckOn, fckStop, fckSet, fckNew, latch, msix, err, fab, pslLost, sources, queues,
                   streams, xPkts, csc, bist, sec, dump, noc, cfg, hif, jtag, aux, pwr, rdata } := by
  obtain ⟨hm, hh, hr, hs, hq, hg, hw, -⟩ := canon_iff.1 h
  exact canon_iff.2 ⟨hm, hh, hr, hs, hq, hg, hw, hl⟩

/-- What a reset keeps of memory and registers is all that the canonical form asks of the state that it leaves. -/
theorem ofReset {regs mem hmem} (hm : mwf memDefault mem = true) (hh : mwf memDefault hmem = true) (hr : mwf resetVal regs = true) :
    Canon { State.reset with pending, free, f128, dev, devFault, tick, fckOn, fckStop, fckSet, fckNew, regs, latch, mem, hmem, msix, err, fab,
                             pslLost, sources, queues, streams, xPkts, csc, bist, sec, dump, noc, hif, jtag, aux, pwr, rdata } :=
  canon_iff.2 ⟨hm, hh, hr, mwf_nil _, mwf_nil _, mwf_nil _, fun _ => .reset, .none⟩

end

theorem mem (h : Canon s) : mwf memDefault s.mem = true := (canon_iff.1 h).1
theorem hmem (h : Canon s) : mwf memDefault s.hmem = true := (canon_iff.1 h).2.1
theorem regs (h : Canon s) : mwf resetVal s.regs = true := (canon_iff.1 h).2.2.1
theorem load (h : Canon s) : LoadOk s.cfg.load := (canon_iff.1 h).2.2.2.2.2.2.2

theorem foldl {α : Type} {f : State → α → State} {l : List α} (h : Canon s) (hf : ∀ t x, Canon t → Canon (f t x)) : Canon (l.foldl f s) := by
  induction l generalizing s with
  | nil => exact h
  | cons x l ih => exact ih (hf s x h)

end Canon

theorem Psq.Wf.foldl {α : Type} {f : Psq → α → Psq} {l : List α} (h : p.Wf) (hf : ∀ q x, q.Wf → (f q x).Wf) : (l.foldl f p).Wf := by
  induction l generalizing p with
  | nil => exact h
  | cons x l ih => exact ih (hf p x h)

theorem Psq.Wf.getPsq {n : Nat} (h : Canon s) : (s.getPsq n).Wf := (canon_iff.1 h).2.2.2.2.2.2.1 n

/-- The state in a pair of a state and something else is canonical. -/
def FstCanon {α : Type} (r : State × α) : Prop := Canon r.1

/-- The state in a pair of something else and a state is canonical. -/
def SndCanon {α : Type} (r : α × State) : Prop := Canon r.2

/-- The state that ends a triple is canonical. -/
def ThdCanon {α β : Type} (r : α × β × State) : Prop := Canon r.2.2

section
variable {α β : Type} {a : α} {b : β} {c : Prop} [Decidable c]

theorem FstCanon.mk (h : Canon s) : FstCanon (s, a) := h
theorem FstCanon.ite {r r' : State × α} (h : FstCanon r) (h' : FstCanon r') : FstCanon (if c then r else r') := by split <;> assumption
theorem FstCanon.foldl {γ : Type} {f : State × α → γ → State × α} {l : List γ} {r : State × α} (h : FstCanon r)
    (hf : ∀ r x, FstCanon r → FstCanon (f r x)) : FstCanon (l.foldl f r) := by
  induction l generalizing r with
  | nil => exact h
  | cons x l ih => exact ih (hf r x h)

theorem SndCanon.mk (h : Canon s) : SndCanon (a, s) := h
theorem SndCanon.ite {r r' : α × State} (h : SndCanon r) (h' : SndCanon r') : SndCanon (if c then r else r') := by split <;> assumption
theorem ThdCanon.mk (h : Canon s) : ThdCanon (a, b, s) := h
theorem ThdCanon.ite {r r' : α × β × State} (h : ThdCanon r) (h' : ThdCanon r') : ThdCanon (if c then r else r') := by split <;> assumption
theorem Canon.fst {r : State × α} (h : FstCanon r) : Canon r.1 := h
theorem Canon.snd {r : α × State} (h : SndCanon r) : Canon r.2 := h
theorem Canon.of_snd {r : α × State} (e : r = (a, s)) (h : SndCanon r) : Canon s := by rw [e] at h; exact h
theorem Canon.of_thd {r : α × β × State} (e : r = (a, b, s)) (h : ThdCanon r) : Canon s := by rw [e] at h; exact h

end

namespace Keeps

theorem next {s t : State} (h : Canon s → Canon t) : Keeps s (.next t) := ⟨t, rfl, h⟩
theorem ite {c : Prop} [Decidable c] {o o' : Host.Outcome State Fault Refusal} (h : Keeps s o) (h' : Keeps s o') :
    Keeps s (if c then o else o') := by split <;> assumption
theorem ite_wf {b : Bool} {r : Refusal} {o : Host.Outcome State Fault Refusal} (hb : b = true) (h : Keeps s o) :
    Keeps s (if !b then .refused r else o) := by
  rw [hb]
  exact h
theorem of {s t : State} {o : Host.Outcome State Fault Refusal} (hst : Canon s → Canon t) (h : Keeps t o) : Keeps s o :=
  let ⟨u, e, hu⟩ := h
  ⟨u, e, hu ∘ hst⟩

end Keeps

/-! ### What Machine/Regs.lean defines -/

theorem Canon.setReg (h : Canon s) {off v} : Canon (s.setReg off v) := by
  obtain ⟨hm, hh, hr, rest⟩ := canon_iff.1 h
  exact canon_iff.2 ⟨hm, hh, mwf_mset _ off v _ hr, rest⟩

theorem Canon.setFld (h : Canon s) {f x} : Canon (s.setFld f x) := .setReg h

theorem Canon.setFlds (h : Canon s) {xs} : Canon (s.setFlds xs) := .foldl h fun _ _ h => .setFld h

theorem Canon.addSat (h : Canon s) {f n} : Canon (s.addSat f n) := .setFld h

theorem Canon.iff (h : Canon s) {b f} (hf : Canon (f s)) : Canon (s.iff b f) := .ite hf h

theorem Canon.tookFree (h : Canon s) : Canon (s.tookFree) := .other h

theorem Canon.setPsq (h : Canon s) {n p} (hp : p.Wf) : Canon (s.setPsq n p) := by
  obtain ⟨hm, hh, hr, hs, hq, hg, hw, hl⟩ := canon_iff.1 h
  refine canon_iff.2 ⟨hm, hh, hr, hs, mwf_mset _ n p _ hq, hg, fun k => ?_, hl⟩
  by_cases hk : k = n
  · rw [hk, State.getPsq_setPsq n p hq]
    exact hp
  · rw [State.getPsq_setPsq_ne s p hk]
    exact hw k

theorem Canon.mapPsq {f} (h : Canon s) (hf : ∀ k p, p.Wf → (f k p).Wf) : Canon { s with psq := mmap (fun _ => Psq.reset) f s.psq } := by
  obtain ⟨hm, hh, hr, hs, hq, hg, hw, hl⟩ := canon_iff.1 h
  refine canon_iff.2 ⟨hm, hh, hr, hs, mwf_mmap _ f _ hq, hg, fun k => ?_, hl⟩
  obtain e | e := mget_mmap (fun _ => Psq.reset) f k s.psq hq
  · exact (congrArg Psq.Wf e).mpr .reset
  · exact (congrArg Psq.Wf e).mpr (hf k _ (hw k))

theorem Canon.holdReg (h : Canon s) {n off} : Canon (s.holdReg n off) := .ite h (.setPsq h (.other (.getPsq h)))

theorem Canon.setSlices {m} (h : Canon s) (hm : mwf (fun _ => Slice.reset) m = true) : Canon { s with slices := m } := by
  obtain ⟨hm', hh, hr, -, rest⟩ := canon_iff.1 h
  exact canon_iff.2 ⟨hm', hh, hr, hm, rest⟩

theorem Canon.slices (h : Canon s) : mwf (fun _ => Slice.reset) s.slices = true := (canon_iff.1 h).2.2.2.1

theorem Canon.setSlice (h : Canon s) {k x} : Canon (s.setSlice k x) := .setSlices h (mwf_mset _ k x _ h.slices)

theorem Canon.setSource (h : Canon s) {x v} : Canon (s.setSource x v) := .other h

theorem Canon.setQueue (h : Canon s) {k q} : Canon (s.setQueue k q) := .other h

theorem Canon.setStream (h : Canon s) {j q} : Canon (s.setStream j q) := .other h

theorem Canon.setXPkt (h : Canon s) {x l} : Canon (s.setXPkt x l) := .other h

theorem Canon.setCell (h : Canon s) {k c} : Canon (s.setCell k c) := .other h

theorem Canon.setNxt (h : Canon s) {k c} : Canon (s.setNxt k c) := .other h

theorem Canon.setCtx (h : Canon s) {k c} : Canon (s.setCtx k c) := .other h

theorem Canon.setSelWaiting (h : Canon s) {n c} : Canon (s.setSelWaiting n c) := .other h

theorem Canon.setStoreWord (h : Canon s) {k w v} : Canon (s.setStoreWord k w v) := .other h

theorem Canon.setLoadedFlag (h : Canon s) {k c b} : Canon (s.setLoadedFlag k c b) := .other h

theorem Canon.setRouteThird (h : Canon s) {p c t v} : Canon (s.setRouteThird p c t v) := .other h

theorem Canon.setMword (h : Canon s) {m a v} : Canon (s.setMword m a v) := .other h

theorem Canon.setXsBuf (h : Canon s) {x b} : Canon (s.setXsBuf x b) := .other h

theorem Canon.setLane (h : Canon s) {l v} : Canon (s.setLane l v) := .otherSlv h

theorem Canon.setRgns {m} (h : Canon s) (hm : mwf (fun _ => SlvRgn.reset) m = true) : Canon { s with slv := { s.slv with rgns := m } } := by
  obtain ⟨hm', hh, hr, hs, hq, -, rest⟩ := canon_iff.1 h
  exact canon_iff.2 ⟨hm', hh, hr, hs, hq, hm, rest⟩

theorem Canon.rgns (h : Canon s) : mwf (fun _ => SlvRgn.reset) s.slv.rgns = true := (canon_iff.1 h).2.2.2.2.2.1

theorem Canon.setSrgn (h : Canon s) {g v} : Canon (s.setSrgn g v) := .setRgns h (mwf_mset _ g v _ h.rgns)

theorem Canon.setCport (h : Canon s) {p v} : Canon (s.setCport p v) := .other h

/-! ### What Machine/Memory.lean defines -/

theorem Canon.setMemByte (h : Canon s) {a b} : Canon (s.setMemByte a b) := .setMem h (mwf_mset _ _ b _ h.mem)

theorem SndCanon.readDpa (h : Canon s) {a n} : SndCanon (s.readDpa a n) := .mk (.tookFree h)

theorem Canon.setHmem {m} (h : Canon s) (hm : mwf memDefault m = true) : Canon { s with hmem := m } := by
  obtain ⟨hm', -, rest⟩ := canon_iff.1 h
  exact canon_iff.2 ⟨hm', hm, rest⟩

theorem Canon.setDpaByte (h : Canon s) {a b} : Canon (s.setDpaByte a b) := by
  unfold State.setDpaByte
  split
  · exact .setMemByte h
  · exact .setMemByte h
  · exact .setHmem h (mwf_mset _ _ b _ h.hmem)
  · exact .ite (.setMemByte h) h
  · exact h

theorem Canon.setDpaBytes (h : Canon s) {a bs} : Canon (s.setDpaBytes a bs) := by
  induction bs generalizing s a with
  | nil => exact h
  | cons b bs ih => exact ih (.setDpaByte h)

theorem Canon.snoopInv (h : Canon s) {ni a n} : Canon (s.snoopInv ni a n) := by
  unfold State.snoopInv
  split
  · exact .other h
  · exact h

theorem Canon.unitWrite (h : Canon s) {ni a bs} : Canon (s.unitWrite ni a bs) := .setDpaBytes (.snoopInv h)

/-! ### What Machine/ErrLog.lean defines -/

theorem Canon.report (h : Canon s) {code source detail} : Canon (s.report code source detail) := .other h

theorem Canon.logRefused (h : Canon s) {req off op} : Canon (s.logRefused req off op) := .report h

theorem Canon.accLog (h : Canon s) {ni a c} : Canon (s.accLog ni a c) := .ite (.report h) (.ite (.ite (.report h) (.report h)) h)

theorem Canon.memCe (h : Canon s) {c l ni symbols comp scrub} : Canon (s.memCe c l ni symbols comp scrub) := .report (.setReg (.addSat h))

theorem Canon.memUe (h : Canon s) {c l ni scrub} : Canon (s.memUe c l ni scrub) := .report (.setReg (.addSat h))

theorem Canon.eccSeen (h : Canon s0) {ni a n write status} : Canon (s0.eccSeen ni a n write status) :=
  .ite
    (.ite (.other h) h)
    (by split; exacts [.ite (.other h) h, .ite (.tookFree (.memCe (.ite (.other h) h))) (.tookFree (.memUe (.ite (.other h) h)))])

theorem Canon.signal (h : Canon s) {v} : Canon (s.signal v) := .ite (.other h) (.other h)

theorem Canon.flushVectors (h : Canon s) : Canon (s.flushVectors) := .foldl h fun _ _ h1 => .ite (.signal (.other h1)) h1

theorem Canon.hostCpl (h : Canon s) {b c} : Canon (s.hostCpl b c) := .ite (.other h) h

theorem Canon.answerCmds (h : Canon s) {op f} : Canon (s.answerCmds op f) := .other h

theorem Canon.siteAnswers (h : Canon s) : Canon (s.siteAnswers) := .answerCmds h

theorem Canon.cfgAnswers (h : Canon s) : Canon (s.cfgAnswers) := .ite h (.answerCmds h)

theorem Canon.postEvent (h : Canon s) {typ arg0 arg1 vec} : Canon (s.postEvent typ arg0 arg1 vec) :=
  .ite (.signal h) (.ite (.signal (.setFld (.ite (.unitWrite h) (.accLog h)))) (.signal (.addSat h)))

/-! ### What Machine/Fabric.lean defines -/

theorem Canon.latchBorders (h : Canon s) {g} : Canon (s.latchBorders g) := .other h

theorem Canon.setRgnState (h : Canon s) {g st} : Canon (s.setRgnState g st) := .setFld h

theorem Canon.rgnLeaveLive (h : Canon s) {g} : Canon (s.rgnLeaveLive g) := .ite (.setRgnState (.latchBorders h)) h

theorem Canon.muxFault (h : Canon s) {p c mux parity} : Canon (s.muxFault p c mux parity) :=
  .report (.setReg (.setReg (.ite (.addSat h) (.addSat h))))

/-! ### What Machine/CellOps.lean defines -/

theorem Canon.logActivation (h : Canon s) {k p c} : Canon (s.logActivation k p c) := .ite h (.ite (.report (.setFld h)) (.report (.setFld h)))

theorem Canon.logMuxFaults (h : Canon s) {p c} : Canon (s.logMuxFaults p c) := .foldl h fun _ _ h1 => .muxFault h1

theorem Canon.activate (h : Canon s) {k c} : Canon (s.activate k c) := by
  unfold State.activate
  split
  · exact .setCtx h
  · exact .ite (.logMuxFaults (.logActivation h)) (.logMuxFaults (.logActivation (.setCtx h)))

theorem Canon.setRclkLvl (h : Canon s) {k b} : Canon (s.setRclkLvl k b) := .other h

theorem Canon.rclkStep (h : Canon s) {k p fn op} : Canon (s.rclkStep k p fn op) :=
  .ite (.setCell (.setRclkLvl h)) (.ite (.report (.setFld (.setCell (.setRclkLvl h)))) (.setCell (.setRclkLvl h)))

theorem Canon.cellIssue (h : Canon s) {k o f} (hf : ∀ p w, Canon (f p w)) : Canon (s.cellIssue k o f) := by
  unfold State.cellIssue
  split
  · exact h
  · exact .ite h (.ite (.ite (.setNxt h) h) (.ite (hf _ _) h))

theorem Canon.cellStep (h : Canon s) {k o op} : Canon (s.cellStep k o op) := by
  unfold State.cellStep
  split
  · exact h
  · exact .ite (.ite h (.ite (.rclkStep h) h)) (.cellIssue h fun _ _ => .setNxt h)

/-! ### What Machine/FcqOps.lean defines -/

theorem Canon.freeRead (h : Canon s) {k} : Canon (s.freeRead k) := .foldl (.setQueue h) fun _ _ h1 => (by split; exacts [.setSource h1, h1])

theorem Canon.putPkt (h : Canon s) {k p} : Canon (s.putPkt k p) := .setQueue h

theorem Canon.landPkt (h : Canon s) {k p} : Canon (s.landPkt k p) := by
  unfold State.landPkt
  split
  · exact .putPkt (.setSource h)
  · exact .putPkt h

theorem Canon.landFlight (h : Canon s) : Canon (s.landFlight) := .foldl h fun _ _ h1 => .foldl (.setQueue h1) fun _ _ h2 => .landPkt h2

theorem Canon.takeRefill (h : Canon s) {x} : Canon (s.takeRefill x) := .ite (.setSource h) (.ite (.setSource h) (.setSource h))

theorem Canon.stepCredits (h : Canon s) : Canon (s.stepCredits) := .foldl (.other h) fun _ _ h1 => .takeRefill h1

theorem Canon.refill (h : Canon s) {x} : Canon (s.refill x) := .ite h (.setSource h)

theorem Canon.endEpisode (h : Canon s) {x flush} : Canon (s.endEpisode x flush) := .putPkt (.setSource h)

theorem Canon.refusePkt (h : Canon s) {x tick ui} : Canon (s.refusePkt x tick ui) :=
  .setQueue (.setSource (.addSat (.addSat (.setReg (.ite h (.report (.setFld (.setReg (.setReg (.setReg h))))))))))

theorem Canon.handOver (h : Canon s0) {x tick e o p} : Canon (s0.handOver x tick e o p) :=
  .ite (.refusePkt (.ite (.endEpisode h) h)) (.setQueue (.setSource (.ite (.endEpisode h) h)))

theorem Canon.writeHeader (h : Canon s) {k} : Canon (s.writeHeader k) := .ite (.unitWrite h) (.accLog h)

theorem Canon.crossings (h : Canon s) {j} : Canon (s.crossings j) :=
  .ite (.addSat (.setFld (.setStream h))) (.ite (.addSat (.setFld (.setStream h))) h)

theorem Canon.streamPut (h : Canon s) {j ws} : Canon (s.streamPut j ws) := .crossings (.setStream h)

theorem Canon.mirrorRecord (h : Canon s) {k bs} : Canon (s.mirrorRecord k bs) := .ite (.ite (.streamPut h) (.addSat h)) h

theorem Canon.overtakeMarks (h : Canon s) {k e} : Canon (s.overtakeMarks k e) := .foldl h fun _ _ h1 => .ite (.report (.setFld (.setFld h1))) h1

theorem Canon.recordNotPlaced (h : Canon s) {k code} : Canon (s.recordNotPlaced k code) :=
  .ite (.ite (.addSat h) (.report (.setQueue (.addSat h)))) (.report (.addSat h))

theorem Canon.pushRecord (h : Canon s) {k bs} : Canon (s.pushRecord k bs) :=
  .ite (.recordNotPlaced h) (.ite (.mirrorRecord (.setQueue (.overtakeMarks h))) (.mirrorRecord (.tookFree (.mirrorRecord (.setQueue (.overtakeMarks
    h))))))

theorem Canon.closeRun (h : Canon s) {k x} : Canon (s.closeRun k x) := by
  unfold State.closeRun
  split
  · exact h
  · exact .setQueue (.pushRecord h)

theorem Canon.closeRuns (h : Canon s) {k} : Canon (s.closeRuns k) := .foldl h fun _ _ h1 => .closeRun h1

theorem Canon.writeCounts (h : Canon s) {k} : Canon (s.writeCounts k) := .foldl h fun _ _ h1 => .pushRecord h1

theorem Canon.rlePacket (h : Canon s) {k x tick e o flags siteCtx} : Canon (s.rlePacket k x tick e o flags siteCtx) := by
  unfold State.rlePacket
  dsimp only
  split
  · exact .ite (.ite (.closeRun (.setQueue h)) (.setQueue h)) (.setQueue (.closeRun h))
  · exact .setQueue h

theorem Canon.setMemBit (h : Canon s) {base b} : Canon (s.setMemBit base b) := .setDpaByte h

theorem Canon.bitmapPacket (h : Canon s) {k x tick e o flags} : Canon (s.bitmapPacket k x tick e o flags) :=
  .ite (.addSat h) (.foldl h fun _ _ h1 => .ite (.setMemBit h1) (.report (.addSat (.accLog h1))))

theorem Canon.drainPkt (h : Canon s) {k p} : Canon (s.drainPkt k p) := by
  unfold State.drainPkt
  split
  · exact .ite (.ite h (.ite (.pushRecord (.setSource h)) (.setSource h))) (.ite (.bitmapPacket h) (.ite (.rlePacket h) h))
  · exact .pushRecord (.closeRun h)
  · exact .pushRecord (.closeRuns h)

theorem Canon.placeRecord (h : Canon s) {k bs} : Canon (s.placeRecord k bs) := .setQueue (.setReg (.unitWrite (.overtakeMarks h)))

theorem Canon.writeRecord (h : Canon s) {k entry status} : Canon (s.writeRecord k entry status) := by
  unfold State.writeRecord
  split
  exact .ite
    (.recordNotPlaced h)
    (.ite
      (.recordNotPlaced (.accLog (.eccSeen h)))
      (.ite
        (.setQueue
          (.placeRecord
            (.ite (.eccSeen h) (by split; exacts [.placeRecord (.eccSeen h), .tookFree (.mirrorRecord (.placeRecord (.eccSeen h)))]))))
        (.placeRecord
          (.ite (.eccSeen h) (by split; exacts [.placeRecord (.eccSeen h), .tookFree (.mirrorRecord (.placeRecord (.eccSeen h)))])))))

theorem Canon.armQueue (h : Canon s) {k} : Canon (s.armQueue k) :=
  .ite (.unitWrite (.writeHeader (.foldl (.setReg (.setReg (.foldl (.setQueue h) fun _ _ h1 => .setSource h1))) fun _ _ h1 => .setFld h1)))
    (.writeHeader (.foldl (.setReg (.setReg (.foldl (.setQueue h) fun _ _ h1 => .setSource h1))) fun _ _ h1 => .setFld h1))

theorem Canon.leaveQueues (h : Canon s) {n} : Canon (s.leaveQueues n) := .foldl h fun _ _ h1 => .ite (.setQueue h1) h1

theorem Canon.resetQueue (h : Canon s) {k lvl} : Canon (s.resetQueue k lvl) := .setFld (.addSat (.foldl (.setQueue h) fun _ _ h1 => .setSource h1))

theorem Canon.resetStream (h : Canon s) {j} : Canon (s.resetStream j) := .crossings (.setFld (.setStream h))

/-! ### What Machine/PslOps.lean defines -/

theorem Canon.safeNow (h : Canon s) {ks} : Canon (s.safeNow ks) := .setSlices h (mwf_mmap _ _ _ h.slices)

theorem Canon.calEnd (h : Canon s) {k status} : Canon (s.calEnd k status) :=
  .ite (.report (.setFld (.setSlice (.ite h (.setReg h))))) (.setFld (.setSlice (.ite h (.setReg h))))

theorem Canon.calFailAll (h : Canon s) : Canon (s.calFailAll) := .foldl h fun _ _ h1 => .calEnd h1

theorem Canon.loadFrame (h : Canon s) {k de ex} : Canon (s.loadFrame k de ex) :=
  .ite h (.ite (.report (.ite (.setFld (.ite (.setFld (.setSlice h)) (.setSlice h))) (.ite (.setFld (.setSlice h)) (.setSlice h)))) (.ite (.setFld
    (.ite (.setFld (.setSlice h)) (.setSlice h))) (.ite (.setFld (.setSlice h)) (.setSlice h))))

theorem Canon.countGaps (h : Canon s) : Canon (s.countGaps) := .foldl h fun _ _ h1 => .ite (.addSat h1) h1

theorem Canon.stepSlices (h : Canon s) : Canon s.stepSlices := .setSlices h (mwf_mmap _ _ _ h.slices)

theorem Canon.safeBy (h : Canon s) {k t n} : Canon (s.safeBy k t n) := .tookFree (.setSlice h)

theorem Canon.noteSafe (h : Canon s) {k} : Canon (s.noteSafe k) := .ite h (.safeBy (.setSlice h))

theorem Canon.noteSafes (h : Canon s) : Canon (s.noteSafes) := .foldl h fun _ _ h1 => .noteSafe h1

theorem Canon.settleSlice (h : Canon s0) {k} : Canon (s0.settleSlice k) := by
  unfold State.settleSlice
  extract_lets _ s
  have hs : Canon s := .ite (.safeBy h) h
  exact .ite (.ite (.setSlice hs) hs) (.ite (.setSlice hs) (by split; exacts [.ite (.setSlice hs) hs, .ite (.ite (.setSlice hs) hs) hs]))

theorem Canon.settleSlices (h : Canon s) : Canon (s.settleSlices) := .foldl h fun _ _ h1 => .settleSlice h1

theorem Canon.returnFails (h : Canon s) {x} : Canon (s.returnFails x) := .ite h (.ite (.setXPkt (.ite h (.setNxt h))) (.ite h (.setNxt h)))

/-! ### What Machine/SlvOps.lean defines -/

theorem Canon.spillWrite (h : Canon s) {l} : Canon (s.spillWrite l) := .ite h (.tookFree (.unitWrite h))

theorem FstCanon.slvRoom {l g n k} (h : Canon s) : FstCanon (State.slvRoom l g n k s) := by
  induction k generalizing s with
  | zero => exact h
  | succ k ih => exact .ite h (.ite h (.ite (ih (.spillWrite (.setSrgn h))) h))

theorem Canon.freeUnits (h : Canon s) {g} : Canon (s.freeUnits g) := .setSrgn h

theorem Canon.slvApply (h : Canon s) {l g gr gc live} : Canon (s.slvApply l g gr gc live) := by
  unfold State.slvApply
  extract_lets s0 _ r key s1 after
  have h0 : Canon s0 := .ite (.addSat h) h
  have h1 : Canon s1 := .setSrgn h0
  have hr : FstCanon (if after.units ≤ r.units then (s1, true) else State.slvRoom l g (after.units - r.units) 4 s1) :=
    .ite h1 (.slvRoom h1)
  refine .ite h1 ?_
  split
  next s2 room e =>
    rw [e] at hr
    have h2 : Canon s2 := hr
    refine .ite (.ite (.spillWrite (.setSrgn h2)) (.setSrgn h2)) ?_
    extract_lets s3 s4
    have h4 : Canon s4 := .ite (.addSat (.setFld (.setSrgn h2))) (.setFld (.setSrgn h2))
    exact .ite h4 (.report h4)

theorem Canon.dropBits (h : Canon s) {only f n} : Canon (s.dropBits only f n) := .ite (.addSat h) h

theorem Canon.collectSide (h : Canon s) {l only m e t src side fw stale} : Canon (s.collectSide l only m e t src side fw stale) := by
  unfold State.collectSide
  extract_lets 
  exact .ite
    h
    (.ite
      (.dropBits h)
      (by split; exacts [.dropBits h,
          .ite
            (.dropBits h)
            (by split; exacts [.dropBits h, .foldl h fun _ _ h1 => .ite (.dropBits h1) (.ite (.dropBits h1) (.slvApply h1))])]))

theorem Canon.collectFail (h : Canon s) {l only m e t src fwE fwO flags} : Canon (s.collectFail l only m e t src fwE fwO flags) :=
  .ite (.collectSide (.ite (.collectSide h) h)) (.ite (.collectSide h) h)

theorem Canon.markLoss (h : Canon s) {l g} : Canon (s.markLoss l g) := .ite (.setSrgn h) (.report (.setSrgn h))

theorem Canon.collectSat (h : Canon s) {l only m e src t1 t2} : Canon (s.collectSat l only m e src t1 t2) :=
  .foldl h fun _ _ h1 => .ite (.markLoss h1) h1

theorem Canon.collectReset (h : Canon s) {l only} : Canon (s.collectReset l only) := by
  unfold State.collectReset
  split
  · exact .markLoss h
  · exact .foldl h fun _ _ h1 => .ite (.markLoss h1) h1

theorem Canon.clearLaneCounts (h : Canon s) {l} : Canon (s.clearLaneCounts l) := .setReg (.setReg (.setReg (.setReg (.setReg (.setReg h)))))

theorem Canon.newRun (h : Canon s) {l} : Canon (s.newRun l) := .setRgns h (mwf_mmap _ _ _ h.rgns)

theorem Canon.loseReplays (h : Canon s) {k} : Canon (s.loseReplays k) := .otherSlv h

theorem Canon.acceptTap (h : Canon s) {l k n} : Canon (s.acceptTap l k n) :=
  .ite (.setFld (.setFld (.setLane (.ite h (.newRun (.clearLaneCounts h)))))) (.setLane (.ite h (.newRun (.clearLaneCounts h))))

theorem Canon.tapStart (h : Canon s) {n s0} : Canon (s.tapStart n s0) :=
  .foldl
    h
    fun _ _ h1 =>
      (by
        dsimp only
        split; exacts [.ite (.setLane h1) h1, h1])

theorem Canon.queueRgn (h : Canon s) {g} : Canon (s.queueRgn g) := .setLane (.setSrgn h)

theorem Canon.closeRgn (h : Canon s) {g} : Canon (s.closeRgn g) := .ite (.queueRgn (.setSrgn h)) (.setSrgn h)

theorem Canon.settleLane (h : Canon s) {l} : Canon (s.settleLane l) := .ite (.foldl (.setLane h) fun _ _ h1 => .ite (.closeRgn h1) h1) h

theorem Canon.settleLanes (h : Canon s) : Canon (s.settleLanes) := .foldl h fun _ _ h1 => .settleLane h1

theorem Canon.finishSolve (h : Canon s) {l g cls} : Canon (s.finishSolve l g cls) :=
  .postEvent (.ite (.setLane (.setSrgn h)) (.freeUnits (.setLane (.setSrgn h))))

theorem Canon.dropResult (h : Canon s) {l v code} : Canon (s.dropResult l v code) := .finishSolve (.report (.addSat h))

theorem Canon.tryResult (h : Canon s) {l} : Canon (s.tryResult l) := by
  unfold State.tryResult
  split
  · exact h
  · exact .ite (.dropResult h) (.ite (.dropResult h) (.ite (.finishSolve (.streamPut h)) h))

theorem Canon.resultQueueGone (h : Canon s) {j code} : Canon (s.resultQueueGone j code) :=
  .foldl h fun _ _ h1 => (by split; exacts [.ite (.dropResult h1) h1, h1])

theorem Canon.replayRecords {l g m e fuel pos fin} (h : Canon s) : Canon (State.replayRecords l g m e fuel pos fin s) := by
  induction fuel generalizing s pos with
  | zero => exact h
  | succ fuel ih =>
    exact .ite h (.ite (ih (.collectFail h)) (.ite (ih (.foldl h fun _ _ h => .collectFail h)) (.ite (ih (.collectSat h)) (.ite (ih (.collectReset h))
      (.ite (ih h) (ih h))))))

/-! ### What Machine/CscOps.lean defines -/

theorem Canon.sendAt (h : Canon s) {t ps b} : Canon (s.sendAt t ps b) := .other h

theorem Canon.sendNow (h : Canon s) {p b} : Canon (s.sendNow p b) := .other h

theorem Canon.raiseCscHold (h : Canon s) {kind grp code} : Canon (s.raiseCscHold kind grp code) :=
  .ite h (.ite (.sendAt (.other (.other h))) (.other h))

theorem Canon.keepVotes (h : Canon s) : Canon (s.keepVotes) := .ite (.other (.other h)) (.other h)

theorem Canon.enterDiscover (h : Canon s) : Canon (s.enterDiscover) := .other (.setReg (.setFlds (.foldl h fun _ _ h1 => .setFld (.setCport h1))))

theorem Canon.enterAlone (h : Canon s) : Canon (s.enterAlone) := .other (.setReg (.setReg (.setFld (.enterDiscover h))))

theorem Canon.sendPkt (h : Canon s) {p k} : Canon (s.sendPkt p k) := .ite h (.ite (.sendNow (.setCport h)) (.setCport h))

theorem Canon.sendTo (h : Canon s) {d k} : Canon (s.sendTo d k) := .ite (.foldl h fun _ _ h1 => .sendPkt h1) (by split; exacts [.sendPkt h, h])

theorem Canon.sendReport (h : Canon s) : Canon (s.sendReport) := by
  unfold State.sendReport
  split
  · exact h
  · exact .sendPkt h

theorem Canon.tellPole (h : Canon s) : Canon (s.tellPole) := .ite h (.sendReport (.other h))

theorem Canon.sendSyncs (h : Canon s) : Canon (s.sendSyncs) :=
  .foldl h fun _ _ h1 => (by split; exacts [.ite (.tookFree (.sendNow (.setCport h1))) h1, h1])

theorem Canon.stepCsc (h : Canon s0) : Canon s0.stepCsc := by
  unfold State.stepCsc
  extract_lets _ _ sa sb s _ _ _ _ s1
  have ha : Canon sa := .other h
  have hb : Canon sb := .sendSyncs ha
  have hs : Canon s := .ite (.enterDiscover hb) (.tellPole hb)
  have h1 : Canon s1 := .ite (.other hs) hs
  refine .ite hs (.ite (.ite ?_ h1) (.ite hs (.foldl hs fun _ _ h => .sendNow h)))
  split
  · exact .foldl h1 fun _ _ h => .sendNow h
  · exact h1

/-! ### What Machine/Sites.lean defines -/

theorem Psq.Wf.pend (h : p.Wf) {src t} : Psq.Wf (p.pend src t) := by
  unfold Psq.pend
  split
  · exact h
  · exact .mk h.banks h.frames (mwf_mset _ src _ _ h.irq)

theorem Canon.pendIrq (h : Canon s) {n src} : Canon (s.pendIrq n src) := .setPsq h (.pend (.getPsq h))

theorem Psq.Wf.unseal (h : p.Wf) : p.unseal.Wf := by
  unfold Psq.unseal
  split
  · exact .mk rfl h.frames h.irq
  · exact h

theorem Canon.unsealIdle (h : Canon s) {s0 n} : Canon (s.unsealIdle s0 n) := .ite (.setPsq h (.unseal (.getPsq h))) h

theorem Canon.cmdStatus (h : Canon s) {n code} : Canon (s.cmdStatus n code) := .setFld h

theorem Canon.refuseCmd (h : Canon s) {req n op} : Canon (s.refuseCmd req n op) := .logRefused (.cmdStatus h)

theorem Canon.raiseHold (h : Canon s) {n code} : Canon (s.raiseHold n code) :=
  .ite h (.setPsq (by split; exacts [.refuseCmd h, h]) (.other (.getPsq (by split; exacts [.refuseCmd h, h]))))

theorem Canon.holdAll (h : Canon s) {code} : Canon (s.holdAll code) := .foldl h fun _ _ h1 => .raiseHold h1

theorem Canon.holdSites (h : Canon s) {ns code} : Canon (s.holdSites ns code) := .foldl h fun _ _ h1 => .raiseHold h1

theorem Canon.leaveActive (h : Canon s) {n} : Canon (s.leaveActive n) := .leaveQueues (.foldl h fun _ _ h1 => .rgnLeaveLive h1)

theorem Canon.reportPsq (h : Canon s) {n code} : Canon (s.reportPsq n code) := .report h

theorem Canon.commitHold (h : Canon s) {n code} : Canon (s.commitHold n code) := by
  unfold State.commitHold
  extract_lets p s1 s2 s3 s4
  have hp : Psq.Wf p := .getPsq h
  have hs1 : Canon s1 := .setPsq (.ite (.leaveActive h) h) (.other hp)
  have hs2 : Canon s2 := .setReg (.setFld hs1)
  have hs3 : Canon s3 := .postEvent hs2
  have hs4 : Canon s4 := .ite (.reportPsq hs3) hs3
  exact .ite (.raiseCscHold hs4) hs4

theorem Canon.commitStop (h : Canon s) {n} : Canon (s.commitStop n) := .unsealIdle (.setPsq (.ite (.leaveActive h) h) (.other (.getPsq h)))

theorem Psq.Wf.armed (h : p.Wf) {rep ie priv pc} : Psq.Wf (p.armed rep ie priv pc) := .mk h.banks rfl h.irq

theorem Canon.acceptTaps (h : Canon s) {n} : Canon (s.acceptTaps n) := .foldl h fun _ _ h1 => .ite (.acceptTap (.loseReplays h1)) (.loseReplays h1)

theorem Canon.commitArm (h : Canon s) {n} : Canon (s.commitArm n) := by
  unfold State.commitArm
  extract_lets s1 s2 _ s3 s4 s5 s6
  have h1 : Canon s1 := .setPsq h (.armed (.getPsq h))
  have h2 : Canon s2 := .foldl h1 fun _ _ h => .ite (.setRgnState h) h
  have h4 : Canon s4 := .foldl (.setSelWaiting (.setFld (.setFld h2))) fun _ _ h => .foldl h fun _ _ h => .activate h
  have h5 : Canon s5 := .acceptTaps (.foldl h4 fun _ _ h => .armQueue h)
  have h6 : Canon s6 := .foldl h5 fun _ _ h => .foldl h fun _ _ h => .ite (.report h) h
  exact .setSlices h6 (mwf_mmap _ _ _ h6.slices)

theorem Canon.commitStart (h : Canon s) {n t0} : Canon (s.commitStart n t0) := .tapStart (.setReg (.setPsq h (.other (.getPsq h))))

theorem Canon.commitSite (h : Canon s) {n} : Canon (s.commitSite n) := by
  unfold State.commitSite
  dsimp only
  split
  · exact h
  · exact .commitArm h
  · exact .commitStart h
  · exact .setPsq h (.other (.getPsq h))
  · exact .setPsq h (.other (.getPsq h))
  · exact .setPsq h (.other (.getPsq h))
  · exact .commitStop h
  · exact .commitHold h

theorem Canon.pendSelect (h : Canon s) {n c since} : Canon (s.pendSelect n c since) :=
  .other (.foldl (.setFld (.setFld h)) fun _ _ h1 => .ite (.foldl h1 fun _ _ h2 => (by split; exacts [.ite h2 (.setCtx h2), h2])) h1)

theorem Canon.releaseSelect (h : Canon s) {n since} : Canon (s.releaseSelect n since) := by
  unfold State.releaseSelect
  split
  · exact .pendSelect (.setSelWaiting h)
  · exact h

theorem Canon.commitSelects (h : Canon s) : Canon (s.commitSelects) :=
  .foldl
    h
    fun _ _ h1 =>
      (by
        dsimp only
        split; exacts [.releaseSelect h1, .ite (.setSelWaiting (.releaseSelect h1)) (.pendSelect (.releaseSelect h1))])

theorem Canon.stepMatch (h : Canon s) {n issued decs} : Canon (s.stepMatch n issued decs) :=
  .ite (.setReg (.foldl (.setPsq h (.ite (.pend (.other (.other (.getPsq h)))) (.other (.other (.getPsq h))))) fun _ _ h1 => .setReg h1)) (.foldl
    (.setPsq h (.ite (.pend (.other (.other (.getPsq h)))) (.other (.other (.getPsq h))))) fun _ _ h1 => .setReg h1)

theorem Canon.chooseIrq (h : Canon s) {n} : Canon (s.chooseIrq n) := .setPsq h (.other (.getPsq h))

theorem Canon.seeClocks (h : Canon s) : Canon (s.seeClocks) := .foldl h fun _ _ h1 => .setRclkLvl h1

theorem Canon.commitCells (h : Canon s) : Canon (s.commitCells) := .other h

theorem Canon.thawCopy (h : Canon s) : Canon (s.thawCopy) := by
  unfold State.thawCopy
  split
  · exact .ite
      (.foldl
        (.setFld (.other h))
        fun _ _ h1 =>
          (by
            dsimp only
            split; exacts [.ite (.activate h1) (.setCtx (.activate h1)), .activate h1]))
      h
  · exact h

theorem Canon.holdFaulty (h : Canon s) {gs} : Canon (s.holdFaulty gs) :=
  .foldl h fun _ _ h1 => .foldl h1 fun _ _ h2 => (by split; exacts [.raiseHold h2, h2])

theorem Canon.loadFrames (h : Canon s) {xs} : Canon (s.loadFrames xs) := .foldl h fun _ _ h1 => .loadFrame (.loadFrame h1)

theorem Canon.cutOffHold (h : Canon s) : Canon (s.cutOffHold) := by
  unfold State.cutOffHold
  split
  · exact .ite (.holdAll h) h
  · exact h

theorem Canon.latchFreezing (h : Canon s) : Canon (s.latchFreezing) := by
  unfold State.latchFreezing
  split
  · exact .ite (.latchBorders h) h
  · exact h

theorem Canon.sliceDone (h : Canon s) {x} : Canon (s.sliceDone x) := .ite h (.other h)

theorem Canon.passCheck (h : Canon s) : Canon (s.passCheck) := .ite (.setReg (.setFld (.other h))) h

theorem Canon.loadUcell (h : Canon s) {m i st} : Canon (s.loadUcell m i st) := .setFlds (.setCtx (.setCell h))

theorem FstCanon.stepStandIn (h : Canon s) {m w} : FstCanon (s.stepStandIn m w) := by
  unfold State.stepStandIn
  split
  · exact .ite (.mk (.loadUcell h)) (.mk (.loadUcell h))
  · exact .ite (.mk h) (.mk (.loadUcell h))
  · exact .mk h

theorem Canon.stepStandIns (h : Canon s) : Canon s.stepStandIns :=
  .other (.fst (.foldl h fun _ _ h => .stepStandIn h))

theorem FstCanon.stepHandover (h : Canon s) {x} : FstCanon (s.stepHandover x) := by
  unfold State.stepHandover
  dsimp only
  split
  · exact .ite (.mk (.other (.setFld (.report (.addSat h))))) (.ite (.mk (.setFld (.loadUcell h))) (.mk (.loadUcell h)))
  · exact .ite (.ite (.mk (.sliceDone (.setFld (.report (.addSat h))))) (.mk (.report (.addSat h)))) (.ite (.mk (.sliceDone (.setFld (.setCtx (.setCell
      h))))) (.mk (.setCtx (.setCell h))))
  · exact .mk h

theorem Canon.stepHandovers (h : Canon s) : Canon s.stepHandovers :=
  .passCheck (.other (.fst (.foldl h fun _ _ h => .stepHandover h)))

theorem Canon.pushTrace (h : Canon s) {r t} : Canon (s.pushTrace r t) := .ite (.other h) (.other h)

theorem Canon.faultHold (h : Canon s) {entered} : Canon (s.faultHold entered) := .ite (.raiseCscHold h) h

theorem Canon.fckEdge (h : Canon s) : Canon s.fckEdge := by
  unfold State.fckEdge
  extract_lets s1 _ _ _ s2 s4 s5 _ s6 s7 s8 s9 s10
  have h1 : Canon s1 := .commitSelects (.landFlight (.stepCredits (.seeClocks (.latchFreezing (.countGaps (.noteSafes h))))))
  have h2 : Canon s2 := .mapPsq h1 fun _ _ h => .ite h h
  have h4 : Canon s4 := .foldl (.keepVotes h2) fun _ _ h => .commitSite h
  have h5 : Canon s5 := .foldl h4 fun _ _ h => .chooseIrq (.stepMatch h)
  have h6 : Canon s6 := .foldl h5 fun _ _ h => .returnFails h
  have h7 : Canon s7 := .commitCells (.stepSlices h6)
  have h8 : Canon s8 := .other h7
  have h9 : Canon s9 := .settleSlices (.loadFrames (.thawCopy (.stepStandIns (.stepHandovers h8))))
  have h10 : Canon s10 := .foldl h9 fun _ _ h => .holdFaulty h
  exact .pushTrace (.stepCsc (.faultHold (.holdSites (.cutOffHold (.holdFaulty h10)))))

/-! ### What Machine/CellExec.lean defines -/

@[simp] theorem Keeps.execCellNop {slot} : Keeps s (execCellNop slot s) := .next fun h => .cellIssue h fun _ _ => .ite (.setNxt h) (.setNxt h)

@[simp] theorem Keeps.execCellMov {slot} : Keeps s (execCellMov slot s) := .next fun h => .cellStep h

@[simp] theorem Keeps.execCellAdd {slot} : Keeps s (execCellAdd slot s) := .next fun h => .cellStep h

@[simp] theorem Keeps.execCellAddc {slot} : Keeps s (execCellAddc slot s) := .next fun h => .cellStep h

@[simp] theorem Keeps.execCellSub {slot} : Keeps s (execCellSub slot s) := .next fun h => .cellStep h

@[simp] theorem Keeps.execCellSubb {slot} : Keeps s (execCellSubb slot s) := .next fun h => .cellStep h

@[simp] theorem Keeps.execCellMin {slot} : Keeps s (execCellMin slot s) := .next fun h => .cellStep h

@[simp] theorem Keeps.execCellMax {slot} : Keeps s (execCellMax slot s) := .next fun h => .cellStep h

@[simp] theorem Keeps.execCellCmp {slot} : Keeps s (execCellCmp slot s) := .next fun h => .cellStep h

@[simp] theorem Keeps.execCellSel {slot} : Keeps s (execCellSel slot s) := .next fun h => .cellStep h

@[simp] theorem Keeps.execCellAnd {slot} : Keeps s (execCellAnd slot s) := .next fun h => .cellStep h

@[simp] theorem Keeps.execCellOr {slot} : Keeps s (execCellOr slot s) := .next fun h => .cellStep h

@[simp] theorem Keeps.execCellXor {slot} : Keeps s (execCellXor slot s) := .next fun h => .cellStep h

@[simp] theorem Keeps.execCellAndn {slot} : Keeps s (execCellAndn slot s) := .next fun h => .cellStep h

@[simp] theorem Keeps.execCellShl {slot} : Keeps s (execCellShl slot s) := .next fun h => .cellStep h

@[simp] theorem Keeps.execCellShr {slot} : Keeps s (execCellShr slot s) := .next fun h => .cellStep h

@[simp] theorem Keeps.execCellSra {slot} : Keeps s (execCellSra slot s) := .next fun h => .cellStep h

@[simp] theorem Keeps.execCellRol {slot} : Keeps s (execCellRol slot s) := .next fun h => .cellStep h

@[simp] theorem Keeps.execCellMul {slot} : Keeps s (execCellMul slot s) := .next fun h => .cellStep h

@[simp] theorem Keeps.execCellMac {slot} : Keeps s (execCellMac slot s) := .next fun h => .cellStep h

@[simp] theorem Keeps.execCellMacl {slot} : Keeps s (execCellMacl slot s) := .next fun h => .cellStep h

@[simp] theorem Keeps.execCellAccr {slot} : Keeps s (execCellAccr slot s) := .next fun h => .cellStep h

@[simp] theorem Keeps.execCellCntm {slot} : Keeps s (execCellCntm slot s) := .next fun h => .cellStep h

@[simp] theorem Keeps.execCellCnte {slot} : Keeps s (execCellCnte slot s) := .next fun h => .cellStep h

@[simp] theorem Keeps.execCellBfm {slot} : Keeps s (execCellBfm slot s) := .next fun h => .cellStep h

@[simp] theorem Keeps.execCellGray {slot} : Keeps s (execCellGray slot s) := .next fun h => .cellStep h

@[simp] theorem Keeps.execCellXtap {slot} : Keeps s (execCellXtap slot s) := .next fun h => .cellStep h

@[simp] theorem Keeps.execCellBrev {slot} : Keeps s (execCellBrev slot s) := .next fun h => .cellStep h

@[simp] theorem Keeps.execCellWld {slot} : Keeps s (execCellWld slot s) := .next fun h => .cellStep h

@[simp] theorem Keeps.execCellWand {slot} : Keeps s (execCellWand slot s) := .next fun h => .cellStep h

@[simp] theorem Keeps.execCellWor {slot} : Keeps s (execCellWor slot s) := .next fun h => .cellStep h

@[simp] theorem Keeps.execCellWxor {slot} : Keeps s (execCellWxor slot s) := .next fun h => .cellStep h

@[simp] theorem Keeps.execCellWandn {slot} : Keeps s (execCellWandn slot s) := .next fun h => .cellStep h

@[simp] theorem Keeps.execCellWnot {slot} : Keeps s (execCellWnot slot s) := .next fun h => .cellStep h

@[simp] theorem Keeps.execCellWrol {slot} : Keeps s (execCellWrol slot s) := .next fun h => .cellStep h

@[simp] theorem Keeps.execCellWshl {slot} : Keeps s (execCellWshl slot s) := .next fun h => .cellStep h

@[simp] theorem Keeps.execCellWshr {slot} : Keeps s (execCellWshr slot s) := .next fun h => .cellStep h

@[simp] theorem Keeps.execCellWbfly {slot} : Keeps s (execCellWbfly slot s) := .next fun h => .cellStep h

@[simp] theorem Keeps.execCellLfsr {slot} : Keeps s (execCellLfsr slot s) := .next fun h => .cellStep h

@[simp] theorem Keeps.execCellCrc32 {slot} : Keeps s (execCellCrc32 slot s) := .next fun h => .cellStep h

@[simp] theorem Keeps.execCellPopc {slot} : Keeps s (execCellPopc slot s) := .next fun h => .cellStep h

@[simp] theorem Keeps.execCellPar {slot} : Keeps s (execCellPar slot s) := .next fun h => .cellStep h

@[simp] theorem Keeps.execCellClz {slot} : Keeps s (execCellClz slot s) := .next fun h => .cellStep h

@[simp] theorem Keeps.execCellLutn {slot} : Keeps s (execCellLutn slot s) := .next fun h => .cellStep h

@[simp] theorem Keeps.execCellLutw {slot} : Keeps s (execCellLutw slot s) := .next fun h => .cellStep h

@[simp] theorem Keeps.execCellWlutn {slot} : Keeps s (execCellWlutn slot s) := .next fun h => .cellStep h

theorem Canon.parityLog (h : Canon s) {m a} : Canon (s.parityLog m a) := .report (.setFld (.addSat h))

theorem Canon.portWrite (h : Canon s) {m x} : Canon (s.portWrite m x) := .ite (.setMword h) h

@[simp] theorem Keeps.execCellMem {cl} : Keeps s (execCellMem cl s) :=
  .next
    fun h =>
      .cellIssue
        h
        fun _ _ =>
          (by
            split
            exact .ite (.report (.setFld (.addSat (.portWrite (.ite (.parityLog (.ite (.parityLog (.setNxt h)) (.setNxt h))) (.ite (.parityLog (.setNxt h))
              (.setNxt h))))))) (.portWrite (.portWrite (.ite (.parityLog (.ite (.parityLog (.setNxt h)) (.setNxt h))) (.ite (.parityLog (.setNxt
              h)) (.setNxt h))))))

@[simp] theorem Keeps.execCellXio {x} : Keeps s (execCellXio x s) := .next fun h => .cellIssue h fun _ _ => .setNxt h

@[simp] theorem Keeps.execStreamPop {x} : Keeps s (execStreamPop x s) := by
  unfold Machine.execStreamPop
  dsimp only
  split
  · exact .next fun h => h
  · exact .ite
      (.next fun h => h)
      (.ite
        (.next fun h => .setNxt h)
        (by split; exacts [.next fun h => .setNxt (.setXsBuf h),
            .next fun h => .holdSites (.report (.setFld (.setFld (.setNxt (.setXsBuf h)))))]))

@[simp] theorem Keeps.execRclkSyncTransfer {slot} : Keeps s (execRclkSyncTransfer slot s) := .ite (.next fun h => .setCell h) (.next fun h => h)

/-! ### What Machine/Starfix.lean defines -/

theorem Canon.setSfx (h : Canon s) {x} : Canon (s.setSfx x) := .other h

theorem Canon.sfxTrigger (h : Canon s) {t cause src named} : Canon (s.sfxTrigger t cause src named) :=
  .ite (.report (.setFld h)) (.ite (.report (.setFld h)) (.setFld (.setFld (.setSfx h))))

theorem Canon.rbDataRead (h : Canon s) {req} : Canon (s.rbDataRead req) :=
  .ite (.logRefused (.other h)) (.ite (.report (.other h)) (.setFld (.other h)))

theorem Canon.copyOut (h : Canon s) {a bs} : Canon (s.copyOut a bs) := .ite (.unitWrite h) (.accLog h)

theorem Canon.unloadArrays (h : Canon s) : Canon (s.unloadArrays) := .foldl (.foldl h fun _ _ h1 => .copyOut h1) fun _ _ h1 => .copyOut h1

/-! ### What Machine/FabExec.lean defines -/

theorem Canon.switchCell (h : Canon s) {k} : Canon (s.switchCell k) := .ite h (.ite (.setCtx h) (.activate h))

@[simp] theorem Keeps.execContextSwitch {site} : Keeps s (execContextSwitch site s) :=
  .ite
    (.next fun h => h)
    (.next
      fun h =>
        .releaseSelect
          (.foldl
            (.foldl (.setFld (.setFld h)) fun _ _ h1 => .switchCell h1)
            fun _ _ h1 =>
              (by
                split
                · split; exacts [.raiseHold h1,
                    h1]
                · exact h1)))

@[simp] theorem Keeps.execFabStoreParity {pos third} : Keeps s (execFabStoreParity pos third s) :=
  .ite (.next fun h => h) (.next fun h => .ite (.foldl (.other h) fun _ _ h1 => .muxFault h1) (.raiseHold (.foldl (.other h) fun _ _ h1 => .muxFault
    h1)))

@[simp] theorem Keeps.execXsStart {req x loop} : Keeps s (execXsStart req x loop s) :=
  .ite (.next fun h => .logRefused h) (.ite (.next fun h => .setFld h) (.next fun h => .setFld (.setFld (.setFld (.setFld (.setXsBuf h))))))

@[simp] theorem Keeps.execXsAbort {req x loop} : Keeps s (execXsAbort req x loop s) :=
  .ite (.next fun h => .logRefused h) (.next fun h => .setFld (.setFld (.setFld (.setFld (.setXsBuf h)))))

@[simp] theorem Keeps.execXsFillResponse {x words status} : Keeps s (execXsFillResponse x words status s) :=
  .ite
    (.next fun h => h)
    (.ite
      (.next fun h => .report (.setFld (.setFld (.eccSeen h))))
      (by
        split
        exact .next fun h => .ite (.setFld (.setFld (.setXsBuf (.of_snd ‹_› (.readDpa (.eccSeen h)))))) (.setXsBuf (.of_snd ‹_› (.readDpa (.eccSeen h))))))

@[simp] theorem Keeps.execFabCtxselWrite {req site value} : Keeps s (execFabCtxselWrite req site value s) :=
  .ite (.next fun h => .logRefused h) (.next fun h => .setFld h)

theorem Canon.holdRequest (h : Canon s) {i} : Canon (s.holdRequest i) := .other h

theorem Canon.mrepWrite (h : Canon s) {req m k value} : Canon (s.mrepWrite req m k value) := .ite (.setFld (.setFld h)) (.logRefused h)

@[simp] theorem Keeps.execFabMrepWrite {req cl k value} : Keeps s (execFabMrepWrite req cl k value s) :=
  .ite (.next fun h => .holdRequest h) (.next fun h => .mrepWrite h)

theorem Canon.refuseRgn (h : Canon s) {req op code} : Canon (s.refuseRgn req op code) := .ite (.logRefused (.setFld h)) (.report (.setFld h))

theorem Canon.acceptRgn (h : Canon s) {thaw g} : Canon (s.acceptRgn thaw g) := .setFld (.setFld (.other h))

@[simp] theorem Keeps.execFreeze {req g} : Keeps s (execFreeze req g s) :=
  .ite (.next fun h => .refuseRgn h) (.ite (.next fun h => .refuseRgn h) (.ite (.next fun h => .refuseRgn h) (.next fun h => .acceptRgn h)))

@[simp] theorem Keeps.execThaw {req g} : Keeps s (execThaw req g s) :=
  .ite (.next fun h => .refuseRgn h) (.ite (.next fun h => .refuseRgn h) (.ite (.next fun h => .refuseRgn h) (.next fun h => .acceptRgn h)))

theorem Canon.rgnDone (h : Canon s) : Canon (s.rgnDone) := .setReg (.setFld (.other h))

@[simp] theorem Keeps.execFreezeTakesEffect : Keeps s (execFreezeTakesEffect s) := by
  unfold Machine.execFreezeTakesEffect
  split
  · exact .ite (.next fun h => h) (.next fun h => .rgnDone (.setFld (.ite (.setRgnState h) h)))
  · exact .next fun h => h

@[simp] theorem Keeps.execThawTakesEffect : Keeps s (execThawTakesEffect s) := by
  unfold Machine.execThawTakesEffect
  split
  · exact .ite (.next fun h => h) (.next fun h => .rgnDone (.ite (.setRgnState h) h))
  · exact .next fun h => h

@[simp] theorem Keeps.execStarfixArm {req} : Keeps s (execStarfixArm req s) :=
  .ite (.next fun h => .logRefused (.setFld h)) (.next fun h => .sfxTrigger h)

@[simp] theorem Keeps.execStarfixCancel {_req} : Keeps s (execStarfixCancel _req s) := .ite (.next fun h => .setFld (.setSfx h)) (.next fun h => h)

@[simp] theorem Keeps.execStarfixCapture : Keeps s (execStarfixCapture s) :=
  .ite
    (.next fun h => h)
    (.ite
      (.next
        fun h =>
          .foldl
            (.setFld (.setFld (.setSfx (.other h))))
            fun _ _ h1 =>
              (by
                dsimp only
                split; exacts [.setPsq h1 (.other (.getPsq h1)), h1]))
      (.next fun h => .setFld (.setSfx (.other h))))

@[simp] theorem Keeps.execStarfixDrainDone : Keeps s (execStarfixDrainDone s) := .ite (.next fun h => .setFld h) (.next fun h => h)

@[simp] theorem Keeps.execStarfixRelease {_req} : Keeps s (execStarfixRelease _req s) := .ite (.next fun h => .setFld (.setSfx h)) (.next fun h => h)

@[simp] theorem Keeps.execStarfixUnload {req} : Keeps s (execStarfixUnload req s) :=
  .ite (.next fun h => .setFld h) (.next fun h => .logRefused (.setFld h))

@[simp] theorem Keeps.execStarfixUnloadDone : Keeps s (execStarfixUnloadDone s) := .ite (.next fun h => .setFld (.unloadArrays h)) (.next fun h => h)

/-! ### What Machine/Reset.lean defines -/

theorem Canon.bootRecord (h : Canon s) {code stage detail fails} : Canon (s.bootRecord code stage detail fails) :=
  .setFld (.foldl h fun _ _ h1 => .setReg h1)

theorem Canon.attemptFails (h : Canon s) {code stage detail counted} : Canon (s.attemptFails code stage detail counted) := .setFlds (.bootRecord h)

theorem Canon.attest (h : Canon s) {typ signer svn build digest} : Canon (s.attest typ signer svn build digest) :=
  .other (.ite (.addSat (.other h)) (.addSat (.other h)))

theorem Canon.enterTwilight (h : Canon s) : Canon s.enterTwilight := by
  unfold State.enterTwilight
  extract_lets s1 s2
  have h1 : Canon s1 := .setFlds (.bootRecord h)
  have h2 : Canon s2 := .foldl h1 fun _ _ h => .setFlds h
  exact .setMem h2 (mwf_nil _)

theorem Canon.powers (h : Canon s) {ds} : Canon (s.powers ds) := .setFld h

theorem Canon.romStart (h : Canon s) : Canon (s.romStart) := .ite h (.attest h)

theorem Canon.beginAttempt (h : Canon s) {cause} : Canon (s.beginAttempt cause) := by
  unfold State.beginAttempt
  extract_lets _ s0 s1 _ s3 t _ s4
  have h1 : Canon s1 := .powers (.other h)
  have h3 : Canon s3 := .romStart (.setFld h1)
  have h4 : Canon s4 := .ite (.report (.other (.attest h3))) h3
  exact .ite (.setFld (.other h1)) (.ite (.enterTwilight h4) h4)

theorem Canon.selfRefreshAll (h : Canon s) : Canon (s.selfRefreshAll) := .foldl h fun _ _ h1 => .ite (.setFlds h1) h1

theorem Canon.dumpCut (h : Canon s) : Canon (s.dumpCut) := .ite (.other (.setFlds h)) h

theorem Canon.cutBlow (h : Canon s) : Canon (s.cutBlow) := by
  unfold State.cutBlow
  split
  · exact .tookFree (.addSat (.setFlds (.other h)))
  · exact h

theorem Canon.warmCleared (h : Canon s0) : Canon s0.warmCleared := by
  unfold State.warmCleared
  extract_lets s q _ _ _ _ _ _ _ r
  have hs : Canon s := .dumpCut (.selfRefreshAll h)
  clear_value s
  have hr : Canon r := .ofReset hs.mem hs.hmem (mwf_mkeep _ _ _ hs.regs)
  clear_value r
  exact .setFld (.foldl hr fun _ _ h => .setFlds h)

theorem Canon.warmReset (h : Canon s) {cause} : Canon (s.warmReset cause) :=
  .beginAttempt (.ite (.setFld (.warmCleared (.ite (.attemptFails h) h))) (.warmCleared (.ite (.attemptFails h) h)))

theorem Canon.declareFailure (h : Canon s) {code detail} : Canon (s.declareFailure code detail) := .warmReset (.attemptFails h)

theorem Canon.powerOnCleared (h : Canon s) {cause} : Canon (s.powerOnCleared cause) := by
  unfold State.powerOnCleared
  extract_lets s1 s2 keep _ _ _ _ _ r
  have h2 : Canon s2 := .dumpCut (.cutBlow (.ite (.attemptFails h) h))
  clear_value s2
  have hr : Canon r := .ofReset (mwf_nil _) h2.hmem (mwf_mkeep _ _ _ h2.regs)
  clear_value r
  exact .setFlds hr

/-! ### What Machine/LogOps.lean defines -/

theorem Canon.elogEvent (h : Canon s) : Canon (s.elogEvent) := .ite (.other h) (.other (.postEvent h))

theorem Canon.putRecord (h : Canon s) {tick code flags source detail tail more} : Canon (s.putRecord tick code flags source detail tail more) :=
  .elogEvent (.other h)

theorem Canon.reserveCheck (h : Canon s) : Canon (s.reserveCheck) :=
  .ite
    (by
      dsimp only
      split; exacts [.putRecord (.other (.setFld h)), .putRecord (.setFld h)]) h

theorem Canon.fullRecord (h : Canon s) {tick code flags source detail n more} : Canon (s.fullRecord tick code flags source detail n more) :=
  .reserveCheck (.putRecord h)

theorem Canon.handleReport (h : Canon s) {r} : Canon (s.handleReport r) := by
  unfold State.handleReport
  split
  · exact .other h
  · exact .ite (.fullRecord (.other h)) (.other h)

theorem Canon.takeEntry (h : Canon s) : Canon (s.takeEntry) := by
  unfold State.takeEntry
  split
  · exact h
  · exact .handleReport (.other h)

theorem Canon.summary (h : Canon s) {k} : Canon (s.summary k) := .ite h (.reserveCheck (.other (.putRecord h)))

theorem Canon.summaries (h : Canon s) : Canon (s.summaries) := .foldl h fun _ _ h1 => .summary h1

theorem Canon.bootRecordLog (h : Canon s) {code detail} : Canon (s.bootRecordLog code detail) := by
  unfold State.bootRecordLog
  dsimp only
  split
  · exact .other h
  · exact .ite (.fullRecord (.other h)) (.other h)

/-! ### What Machine/CfgOps.lean defines -/

theorem Canon.setPage (h : Canon s) {n p st} : Canon (s.setPage n p st) := .setFld (.setPsq h (.other (.getPsq h)))

theorem Canon.updPmin (h : Canon s) : Canon (s.updPmin) := .setFld h

theorem LoadOk.some {l : CfgLoad} (h : loadInRange l) : LoadOk (Option.some l) := fun _ e => Option.some.inj e ▸ h

/-- A load that names no region, sequencer or page. -/
theorem LoadOk.fresh {l : CfgLoad} (hr : l.regions = []) (hq : l.psqCfg = []) (hp : l.pages = []) : LoadOk (Option.some l) :=
  .some ⟨by simp [hr], by simp [hq], by simp [hp]⟩

theorem LoadOk.map {l : Option CfgLoad} {f : CfgLoad → CfgLoad} (h : LoadOk l) (hf : ∀ x, loadInRange x → loadInRange (f x)) : LoadOk (l.map f) := by
  cases l with
  | none => exact .none
  | some x => exact .some (hf x (h x rfl))

theorem Canon.setLoad (h : Canon s) {l} (hl : LoadOk l) : Canon (s.setLoad l) := .setCfg h hl

theorem Canon.afterLoad (h : Canon s) : Canon (s.afterLoad) := .setFld h

theorem Canon.clearLoaded (h : Canon s) {g} : Canon (s.clearLoaded g) := .foldl h fun _ _ h1 => .foldl h1 fun _ _ h2 => .setLoadedFlag h2

theorem Canon.undoLoad (h : Canon s) {l w} : Canon (s.undoLoad l w) := by
  unfold State.undoLoad
  extract_lets s1 s2 s3 s4 s5
  have hs1 : Canon s1 := .foldl h fun _ _ h1 => .setFld (.setRgnState (.clearLoaded h1))
  have hs2 : Canon s2 := .foldl hs1 fun _ _ h1 => .setPage h1
  have hs3 : Canon s3 := .ite (.foldl hs2 fun _ _ h1 => .setFld h1) hs2
  have hs4 : Canon s4 := .foldl hs3 fun _ _ h1 => .foldl h1 fun _ _ h2 => .setFld h2
  have hs5 : Canon s5 := .updPmin (.setLoad hs4 .none)
  exact .ite (.other hs5) hs5

theorem Canon.cfgRecord (h : Canon s) {req code detail typ offset} : Canon (s.cfgRecord req code detail typ offset) := .report (.setReg (.setFld h))

theorem Canon.ownStatus (h : Canon s) {l code} : Canon (s.ownStatus l code) := .ite (.ite (.addSat (.setFld h)) (.setFld h)) h

theorem Canon.beginLoad (h : Canon s) {req src fallback golden chain base avail} :
    Canon (s.beginLoad req src fallback golden chain base avail) :=
  .ite (.otherCfg (.setFlds (.setFlds h))) (.setLoad (.setFlds h) (.fresh rfl rfl rfl))

theorem Canon.loadFail (h : Canon s) {code detail typ offset retry} : Canon (s.loadFail code detail typ offset retry) := by
  unfold State.loadFail
  split
  · exact h
  · extract_lets s1 s2 s3
    have h1 : Canon s1 := .ownStatus (.cfgRecord h)
    have h2 : Canon s2 := by
      unfold s2
      split
      · exact .undoLoad h1
      · exact .setLoad h1 .none
    have h3 : Canon s3 := .afterLoad h2
    exact .ite (.beginLoad (.otherCfg h3)) h3

theorem Canon.abortLoad (h : Canon s) {stream} : Canon (s.abortLoad stream) :=
  .ite (.setFlds (.otherCfg (by split; exacts [.tookFree (.loadFail h), h]))) (by split; exacts [.tookFree (.loadFail h), h])

/-! ### What Machine/BistOps.lean defines -/

theorem Canon.recordPart (h : Canon s) {id unit verdict abort count sig} : Canon (s.recordPart id unit verdict abort count sig) :=
  .setReg (.setReg (.setReg h))

theorem Canon.reportPart (h : Canon s) {code id unit} : Canon (s.reportPart code id unit) := .report h

theorem Canon.putSlice (h : Canon s) {cl y} : Canon (s.putSlice cl y) := .other h

theorem Canon.abortSlice (h : Canon s) {x counted count differs sig} : Canon (s.abortSlice x counted count differs sig) := by
  unfold State.abortSlice
  refine .ite h ?_
  extract_lets ids s1 s' s2 _ s3
  have h1 : Canon s1 := .foldl h fun _ _ h => .recordPart h
  have h2 : Canon s2 := .ite (.reportPart (.addSat (.addSat h1))) h1
  clear_value s2
  have h3 : Canon s3 := .other h2
  clear_value s3
  cases x.logic with
  | rotated =>
    cases x.takeover with
    | some _ => exact .putSlice (.setFld h3)
    | none => exact .putSlice h3
  | _ => exact .putSlice h3

theorem Canon.abortSlices (h : Canon s) {p counted} : Canon (s.abortSlices p counted) := .tookFree (.foldl h fun _ _ h1 => .tookFree (.abortSlice h1))

theorem Canon.leaveRclk (h : Canon s) {m} : Canon (s.leaveRclk m) := .ite (.setFlds (.putSlice (.abortSlices (.ite (.setCtx (.setCell h)) h)))) h

theorem Canon.standIn (h : Canon s) {m} : Canon (s.standIn m) := by
  unfold State.standIn
  split
  · exact .loadUcell h
  · exact h

theorem Canon.wantStandIn (h : Canon s) {m} : Canon (s.wantStandIn m) := .ite h (.other h)

/-! ### What Machine/Fatal.lean defines -/

theorem Canon.latchFatal (h : Canon s) {code source} : Canon (s.latchFatal code source) := .ite (.setReg (.setFlds h)) (.ite (.setFlds h) h)

theorem Canon.holdsNow (h : Canon s) : Canon (s.holdsNow) := .foldl h fun _ _ h1 => (by split; exacts [.commitHold h1, h1])

theorem Canon.dumpCapture (h : Canon s) : Canon (s.dumpCapture) := .ite (.other h) (.ite (.other h) (.other (.setFlds (.setSfx h))))

theorem Canon.faultWork (h : Canon s) : Canon (s.faultWork) :=
  .setFld (.dumpCapture (.ite (.setFld (.abortSlices (.abortLoad (.calFailAll h)))) (.abortSlices (.abortLoad (.calFailAll h)))))

theorem Canon.coreFault (h : Canon s) {code source} : Canon (s.coreFault code source) := by
  unfold State.coreFault
  split
  · exact .ite (.other h) h
  · exact h

theorem Canon.lowerHolds (h : Canon s) {old code} : Canon (s.lowerHolds old code) := .other (.foldl h fun _ _ h1 => .ite (.setFld h1) h1)

theorem Canon.secondFatal (h : Canon s) {code source} : Canon (s.secondFatal code source) := by
  unfold State.secondFatal
  split
  · exact .ite (.ite (.holdAll (.latchFatal (.other h))) (.lowerHolds (.latchFatal (.other h)))) h
  · exact h

theorem Canon.reportFatal (h : Canon s) {code source detail} : Canon (s.reportFatal code source detail) := by
  unfold State.reportFatal
  extract_lets s1 _ _ _ s2 s3 src
  have hs1 : Canon s1 := .coreFault (.report h)
  have hs2 : Canon s2 := .other hs1
  have hs3 : Canon s3 := .faultWork (.holdAll (.latchFatal hs2))
  have hsrc : Canon src := .holdsNow hs3
  split
  · exact hs1
  · exact hs1
  · exact .ite hs1 (.secondFatal hs1)
  · exact .ite hs1 (.declareFailure hs1)
  · exact .ite (.secondFatal hs1) (.ite hs3 (.faultHold (.other hsrc)))
  · exact .ite (.secondFatal hs1) (.ite hs3 (.faultHold (.other hsrc)))

theorem Canon.reportAny (h : Canon s) {code source detail} : Canon (s.reportAny code source detail) := .ite (.reportFatal h) (.report h)

theorem Canon.doubleFault (h : Canon s) {n cause} : Canon (s.doubleFault n cause) := .reportFatal (.raiseHold (.setPsq h (.other (.getPsq h))))

/-! ### What Machine/Mesh.lean defines -/

theorem Canon.setRoute (h : Canon s) {src dst alt w} : Canon (s.setRoute src dst alt w) := .other h

theorem Canon.meshCycle (h : Canon s) : Canon (s.meshCycle) := .other h

theorem Canon.putReq (h : Canon s) {q} : Canon (s.putReq q) := .other h

theorem Canon.dropReq (h : Canon s) {ni tag} : Canon (s.dropReq ni tag) := .other h

theorem Canon.complete (h : Canon s) {q status data} : Canon (s.complete q status data) := .putReq h

theorem Canon.sendPooled (h : Canon s) {q pos} : Canon (s.sendPooled q pos) := .sendTo (.putReq h)

theorem Canon.land (h : Canon s) {q0} : Canon (s.land q0) :=
  .ite
    (.complete (.putReq (.other h)))
    (.ite
      (.complete (.putReq (.other h)))
      (by split; exacts [.ite (.putReq (.other h)) (.sendPooled (.putReq (.other h))), .putReq (.other h)]))

theorem Canon.landAll (h : Canon s) : Canon (s.landAll) := .foldl h fun _ _ h1 => .land h1

theorem Canon.meshRun {n} (h : Canon s) : Canon (s.meshRun n) := by
  induction n generalizing s with
  | zero => exact h
  | succ n ih => exact .ite (ih (.landAll (.meshCycle h))) h

theorem Canon.settle (h : Canon s) : Canon (s.settle) := .meshRun (.landAll h)

theorem Canon.ageHeads (h : Canon s) {n} : Canon (s.ageHeads n) := .other h

/-! ### What Machine/CscLink.lean defines -/

theorem Canon.endCascade (h : Canon s) {p status data} : Canon (s.endCascade p status data) := .settle (.foldl h fun _ _ h1 => .complete h1)

theorem Canon.dropMembers (h : Canon s) {f} : Canon (s.dropMembers f) := .other (.foldl h fun _ _ h1 => (by split; exacts [.setReg (.setFld h1), h1]))

theorem Canon.loseMembers (h : Canon s) {f} : Canon (s.loseMembers f) := .dropMembers (.ite (.setFld h) h)

theorem Canon.sendVgrp (h : Canon s) : Canon (s.sendVgrp) := .sendTo h

theorem Canon.fixFlights (h : Canon s) : Canon (s.fixFlights) := by
  unfold State.fixFlights
  refine .ite h ?_
  extract_lets fuOf bad _ s0 ins fu fd s1 present s2 _ s3
  have h0 : Canon s0 := .other h
  have h1 : Canon s1 := .foldl h0 fun _ _ h => by
    split
    · exact .sendTo h
    · exact h
  have h2 : Canon s2 := .setFlds h1
  have h3 : Canon s3 := .ite (.setFld (.other h2)) h2
  exact .sendVgrp h3

theorem Canon.measureAnew (h : Canon s) : Canon (s.measureAnew) := .foldl h fun _ _ h1 => .setCport h1

theorem Canon.startCal (h : Canon s) {p} : Canon (s.startCal p) := .setCport h

theorem Canon.calNext (h : Canon s) : Canon (s.calNext) := by
  unfold State.calNext
  split
  · exact .startCal (.other h)
  · exact h

theorem Canon.forgetPort (h : Canon s0) {p} : Canon (s0.forgetPort p) := by
  unfold State.forgetPort
  extract_lets use _ s _ s1 s2 _ s3 s4 known
  have h1 : Canon s1 := .other (.setCport (.setFlds h))
  have h3 : Canon s3 := .other (.loseMembers h1)
  have h4 : Canon s4 := .setFlds h3
  exact .ite h1 (.ite h3 (.ite (.sendReport h4) h4))

theorem Canon.loseNeighbour (h : Canon s) {p} : Canon (s.loseNeighbour p) :=
  .ite h (.ite (.forgetPort (.raiseCscHold (.report h))) (.ite (.setFlds (.other (.other (.forgetPort (.raiseCscHold (.report h)))))) (.other (.other
    (.forgetPort (.raiseCscHold (.report h)))))))

theorem Canon.portDown (h : Canon s) {p} : Canon (s.portDown p) := by
  unfold State.portDown
  refine .ite h ?_
  extract_lets s1 s2 s3 s4 _ s5
  have h3 : Canon s3 := .loseNeighbour (.endCascade (.report h))
  have h4 : Canon s4 := .setCport (.setFlds h3)
  have h5 : Canon s5 := .other h4
  exact .ite (.enterAlone h5) (.ite (.fixFlights (.ite (.calNext h5) h5)) h5)

theorem Canon.calibrateAll (h : Canon s) : Canon (s.calibrateAll) := by
  unfold State.calibrateAll
  dsimp only
  split
  · exact .startCal (.other (.setFlds (.other h)))
  · exact .setFlds (.setFlds (.other h))

/-! ### What Machine/TickExec.lean defines -/

theorem Canon.refuseFck (h : Canon s) {req code} : Canon (s.refuseFck req code) :=
  .ite (.logRefused (.ite h (.setFld h))) (.report (.ite h (.setFld h)))

@[simp] theorem Keeps.execFckApply {req} : Keeps s (execFckApply req s) :=
  .ite (.next fun h => .refuseFck h) (.ite (.next fun h => .refuseFck h) (.ite (.next fun h => .refuseFck h) (.ite (.next fun h => .other (.sendTo
    (.setFld (.safeNow (.calFailAll h))))) (.next fun h => .other (.setFld (.safeNow (.calFailAll h)))))))

@[simp] theorem Keeps.execFckChangeComplete : Keeps s (execFckChangeComplete s) := by
  unfold Machine.execFckChangeComplete
  split
  · exact .next fun h => h
  · exact .ite
      (.next fun h => h)
      (by
        dsimp only
        split; exacts [.ite
            (.next fun h => .calibrateAll (.setFld (.measureAnew (.other (.setFlds (.other h))))))
            (.next fun h => .setFlds (.measureAnew (.other (.setFlds (.other h))))),
          .next fun h => .ite (.setFlds (.setFlds (.other h))) (.enterDiscover (.setFlds (.setFlds (.other h))))])

@[simp] theorem Keeps.execTickCntClr {_req} : Keeps s (execTickCntClr _req s) := .next fun h => .setReg h

@[simp] theorem Keeps.execTickUirepWrite {req site value} : Keeps s (execTickUirepWrite req site value s) :=
  .ite (.next fun h => .logRefused h) (.ite (.next fun h => h) (.next fun h => .setFld h))

theorem Canon.slipCell (h : Canon s) {k} : Canon (s.slipCell k) := .other (.setNxt h)

theorem Canon.slipHandover (h : Canon s) {u} : Canon (s.slipHandover u) := by
  unfold State.slipHandover
  split
  · dsimp only
    split; exacts [.ite (.other (.setFld (.putSlice h))) (.ite (.putSlice h) h),
      h]
  · split; exacts [.ite (.other (.setFld (.putSlice h))) (.ite (.putSlice h) h),
      .ite (.other (.setFld h)) h]
  · exact h

@[simp] theorem Keeps.execTickSlip {unit} : Keeps s (execTickSlip unit s) := by
  refine .ite (.next fun h => h) ?_
  extract_lets c src sites _ s1 s2 s3 s4 s5 s6
  refine .next fun h => ?_
  have h1 : Canon s1 := by
    unfold s1
    split
    · exact .other h
    · exact .slipCell h
    · exact h
  have h2 : Canon s2 := .setFld (.setReg (.setReg (.addSat h1)))
  have h3 : Canon s3 := .report h2
  have h4 : Canon s4 := .foldl h3 fun _ _ h => .setFld h
  have h5 : Canon s5 := .slipHandover (.holdSites h4)
  have h6 : Canon s6 := .ite (.sfxTrigger h5) h5
  exact .other h6

@[simp] theorem Keeps.execNearSlip {unit} : Keeps s (execNearSlip unit s) := .ite (.next fun h => h) (.next fun h => .other (.addSat h))

theorem Canon.fckUnlock (h : Canon s) : Canon (s.fckUnlock) :=
  .ite h (.ite (.setFlds h) (.other (.holdAll (.calFailAll (.report (.setFlds (.setFlds h)))))))

@[simp] theorem Keeps.execFckPllUnlock : Keeps s (execFckPllUnlock s) := .next fun h => .fckUnlock h

/-! ### What Machine/LogExec.lean defines -/

@[simp] theorem Keeps.execErrorReport {code source detail} : Keeps s (execErrorReport code source detail s) := .next fun h => .reportAny h

@[simp] theorem Keeps.execLoggerTakeEntry : Keeps s (execLoggerTakeEntry s) := .next fun h => .takeEntry h

@[simp] theorem Keeps.execSummaryPeriod : Keeps s (execSummaryPeriod s) := .ite (.next fun h => h) (.next fun h => .summaries h)

theorem Canon.refuseErr (h : Canon s) {req op} : Canon (s.refuseErr req op) := .logRefused (.setFld h)

@[simp] theorem Keeps.execErrRoll {req} : Keeps s (execErrRoll req s) := .ite (.next fun h => .refuseErr h) (.next fun h => .setFld (.summaries h))

@[simp] theorem Keeps.execErrClear {req} : Keeps s (execErrClear req s) :=
  .ite (.next fun h => .refuseErr h) (.next fun h => .setFld (.other (.summaries h)))

@[simp] theorem Keeps.execDumpAck {req} : Keeps s (execDumpAck req s) := .ite (.next fun h => .refuseErr h) (.next fun h => .setFlds (.setReg h))

@[simp] theorem Keeps.execErrRptrWrite {req value} : Keeps s (execErrRptrWrite req value s) :=
  .ite (.next fun h => .logRefused h) (.ite (.next fun h => .logRefused h) (.next fun h => .ite (.setFld (.other h)) (.other h)))

@[simp] theorem Keeps.execLogMirror {status} : Keeps s (execLogMirror status s) :=
  .ite (.next fun h => h) (.ite (.next fun h => .report (.eccSeen h)) (.next fun h => .unitWrite (.eccSeen h)))

@[simp] theorem Keeps.execFatalReport {code source detail} : Keeps s (execFatalReport code source detail s) :=
  .ite (.next fun h => h) (.next fun h => .reportFatal h)

/-! ### What Machine/SiteExec.lean defines -/

theorem Canon.acceptCmd (h : Canon s) {req n op x} : Canon (s.acceptCmd req n op x) := .cmdStatus (.setPsq h (.other (.getPsq h)))

theorem Canon.rejectCmd (h : Canon s) {n code src detail} : Canon (s.rejectCmd n code src detail) := .report (.cmdStatus h)

theorem Canon.armCmd (h : Canon s) {req n} : Canon (s.armCmd req n) :=
  .ite
    (.refuseCmd h)
    (.ite
      (.rejectCmd h)
      (.ite
        (.rejectCmd h)
        (by split; exacts [.rejectCmd h, .ite (.rejectCmd h) (by split; exacts [.acceptCmd h, .rejectCmd (.report h)])])))

@[simp] theorem Keeps.execPsqArm {req n} : Keeps s (execPsqArm req n s) := .ite (.next fun h => .holdRequest h) (.next fun h => .armCmd h)

@[simp] theorem Keeps.execPsqStart {req n at_} : Keeps s (execPsqStart req n at_ s) :=
  .ite (.next fun h => .refuseCmd h) (.ite (.next fun h => .rejectCmd h) (.ite (.next fun h => .rejectCmd h) (.next fun h => .acceptCmd h)))

@[simp] theorem Keeps.execSiteRunBegins {n} : Keeps s (execSiteRunBegins n s) :=
  .ite (.next fun h => .iff (.setPsq h (.other (.getPsq h))) (.setFld (.setPsq h (.other (.getPsq h))))) (.next fun h => h)

@[simp] theorem Keeps.execPsqPause {req n} : Keeps s (execPsqPause req n s) := .ite (.next fun h => .refuseCmd h) (.next fun h => .acceptCmd h)

@[simp] theorem Keeps.execPsqResume {req n at_} : Keeps s (execPsqResume req n at_ s) :=
  .ite (.next fun h => .refuseCmd h) (.ite (.next fun h => .rejectCmd h) (.ite (.next fun h => .rejectCmd h) (.next fun h => .acceptCmd h)))

@[simp] theorem Keeps.execPsqStop {req n} : Keeps s (execPsqStop req n s) := .ite (.next fun h => .refuseCmd h) (.next fun h => .acceptCmd h)

@[simp] theorem Keeps.execPsqHold {req n} : Keeps s (execPsqHold req n s) :=
  .ite (.next fun h => .refuseCmd h) (.next fun h => .setPsq (.cmdStatus (.raiseHold h)) (.other (.getPsq (.cmdStatus (.raiseHold h)))))

@[simp] theorem Keeps.execPsqService {req n} : Keeps s (execPsqService req n s) :=
  .ite (.next fun h => .refuseCmd h) (.next fun h => .cmdStatus (.setPsq h (.other (.getPsq h))))

@[simp] theorem Keeps.execPsqSvcEnd {req n} : Keeps s (execPsqSvcEnd req n s) :=
  .ite (.next fun h => .refuseCmd h) (.next fun h => .cmdStatus (.setPsq h (.other (.getPsq h))))

@[simp] theorem Keeps.execSvcStopAtBoundary {n} : Keeps s (execSvcStopAtBoundary n s) :=
  .ite (.next fun h => .setPsq h (.other (.getPsq h))) (.next fun h => h)

/-! ### What Machine/SeqRegs.lean defines -/

theorem Canon.outState {o} (h : Canon s) (k : Keeps s o) : Canon (outState s o) := by
  obtain ⟨t, rfl, ht⟩ := k
  exact ht h

theorem Canon.writePlain (h : Canon s) {off v mask} : Canon (s.writePlain off v mask) := by
  unfold State.writePlain
  split
  · exact .setReg h
  · exact h

theorem Canon.startFill (h : Canon s) {n page unit} : Canon (s.startFill n page unit) :=
  .ite (.reportPsq (.setFld h)) (.setFld (.setFld (.setPsq h (.other (.getPsq h)))))

@[simp] theorem Keeps.execPageFillDone {n page status} : Keeps s (execPageFillDone n page status s) := by
  unfold Machine.execPageFillDone
  extract_lets k p
  split
  · exact .next fun h => h
  · extract_lets a c s1 q
    have h1 (h : Canon s) : Canon s1 := .eccSeen h
    have hq (h : Canon s) : q.Wf := .pend (.other (.getPsq h))
    clear_value s1 q
    refine .ite (.next fun h => .report (.setFld (.setFld (.setPsq (.accLog (h1 h)) (hq h))))) ?_
    split
    exact .next fun h => .setFld (.setPsq (.of_snd ‹_› (.readDpa (h1 h))) (.other (hq h)))

@[simp] theorem Keeps.execPsqPgCmd {_req n page srcUnit} : Keeps s (execPsqPgCmd _req n page srcUnit s) := .next fun h => .startFill h

@[simp] theorem Keeps.execPsqDoorbell {_req n value} : Keeps s (execPsqDoorbell _req n value s) := .next fun h => .pendIrq (.setReg h)

@[simp] theorem Keeps.execPsqSealSet {_req n} : Keeps s (execPsqSealSet _req n s) := .next fun h => .setPsq h (.other (.getPsq h))

theorem Psq.Wf.setBankReg (h : p.Wf) {b r v} : Psq.Wf (p.setBankReg b r v) := .ite h (.mk (mwf_mset _ _ v _ h.banks) h.frames h.irq)

@[simp] theorem Keeps.execPsqWdbgAccess {req n write} : Keeps s (execPsqWdbgAccess req n write s) :=
  .ite
    (.next fun h => .iff (.iff (.other h) (.logRefused (.other h))) (.reportPsq (.iff (.other h) (.logRefused (.other h)))))
    (by split; exacts [.next fun h => .setPsq h (.setBankReg (.getPsq h)), .next fun h => .other h])

theorem Canon.psqCfgWrite (h : Canon s) {req n off v mask} : Canon (s.psqCfgWrite req n off v mask) := .ite (.writePlain (.holdReg h)) (.logRefused h)

@[simp] theorem Keeps.execPsqConfigWrite {req n reg value} : Keeps s (execPsqConfigWrite req n reg value s) := .next fun h => .psqCfgWrite h

theorem Canon.maskWrite (h : Canon s) {n k w v} : Canon (s.maskWrite n k w v) := .ite (.setPsq h (.other (.getPsq h))) (.setReg h)

theorem Canon.psqCmdWrite (h : Canon s) {req n v} : Canon (s.psqCmdWrite req n v) :=
  .outState
    h
    (by split; exacts [.execPsqArm,
        .execPsqStart,
        .execPsqPause,
        .execPsqResume,
        .execPsqStop,
        .execPsqHold,
        .execPsqService,
        .execPsqSvcEnd,
        .next fun _ => h])

theorem Canon.psqBlockWrite (h : Canon s) {req n o v mask} : Canon (s.psqBlockWrite req n o v mask) :=
  .ite h (.ite (.psqCmdWrite h) (.ite (.ite (.outState h .execPsqSealSet) h) (.ite (.outState h .execPsqDoorbell) (.ite (.startFill h) (.ite
    (.outState h .execPsqWdbgAccess) (.ite (.psqCfgWrite h) (.ite (.maskWrite h) (.writePlain h))))))))

/-! ### What Machine/SeqOps.lean defines -/

theorem Psq.Wf.setG (h : p.Wf) {r v} : Psq.Wf (p.setG r v) := .setBankReg h

theorem Psq.Wf.setVc (h : p.Wf) {k v} : Psq.Wf (p.setVc k v) := .other h

theorem Psq.Wf.goOn (h : p.Wf) {pc t} : Psq.Wf (p.goOn pc t) := .other h

theorem Psq.Wf.enterTrap (h : p.Wf) {ivbase cause detail eval epc t} : Psq.Wf (p.enterTrap ivbase cause detail eval epc t) := .goOn (.other h)

theorem Canon.trapAt (h : Canon s) {n cause eval detail} : Canon (s.trapAt n cause eval detail) :=
  .ite (.doubleFault h) (.setPsq h (.enterTrap (.getPsq h)))

theorem Canon.emitWord (h : Canon s) {n v} : Canon (s.emitWord n v) := .setPsq h (.other (.getPsq h))

/-- What an instruction does keeps the canonical form where it comes to a state. -/
def SeqOk : SeqResult → Prop
  | .done t => Canon t
  | .trap _ _ _ => True

theorem SeqOk.done (h : Canon s) : SeqOk (.done s) := h
theorem SeqOk.trap {c e d} : SeqOk (.trap c e d) := trivial
theorem SeqOk.ite {c : Prop} [Decidable c] {r r'} (h : SeqOk r) (h' : SeqOk r') : SeqOk (if c then r else r') := by split <;> assumption

theorem Canon.issue (h : Canon s) {n mine f} (hf : ∀ t p w, Canon t → p.Wf → SeqOk (f t p w)) : Canon (s.issue n mine f) := by
  unfold State.issue
  extract_lets _ w _ _ _ s1 s2
  have h1 : Canon s1 := .ite (.emitWord h) h
  have h2 : Canon s2 := .ite (.emitWord h1) h1
  refine .ite h (.ite (.trapAt (.ite (.emitWord h) h)) (.ite h (.ite (.trapAt h1) (.ite (.trapAt h1) ?_))))
  have hr := hf s2 (s2.getPsq n) w h2 (.getPsq h2)
  split
  next e => rwa [e] at hr
  · exact .trapAt h1

theorem SeqOk.seqNext (h : Canon s) {n p pc} (hp : p.Wf) : SeqOk (s.seqNext n p pc) :=
  .ite (.done (.setPsq h (.goOn (.other hp)))) (.done (.setPsq h (.goOn hp)))

theorem Canon.simple (h : Canon s) {n op f} (hf : ∀ p w, p.Wf → (f p w).Wf) : Canon (s.simple n op f) :=
  .issue h fun _ p w h hp => .seqNext h (hf p w hp)

theorem Canon.select (h : Canon s) {n c} : Canon (s.select n c) := .other h

theorem Psq.Wf.push (h : p.Wf) {kind retpc status lmstate lmbase inherit} : Psq.Wf (p.push kind retpc status lmstate lmbase inherit) := by
  unfold Psq.push
  extract_lets d b q
  have hq : q.Wf := .foldl h fun _ _ h => .setBankReg h
  clear_value q
  exact .mk hq.banks (mwf_mset _ b _ _ hq.frames) hq.irq

theorem Psq.Wf.pop (h : p.Wf) {b} : Psq.Wf (p.pop b) := .mk h.banks (mwf_mset _ _ none _ h.frames) h.irq

theorem SeqOk.of_returnFault {d r} (e : p.returnFault d = some r) : SeqOk r := by
  unfold Psq.returnFault at e
  split at e
  · cases e; trivial
  · split at e <;> cases e
    trivial

theorem SndCanon.sprRead (h : Canon s) {n r} : SndCanon (s.sprRead n r) :=
  .ite (.mk h) (.ite (.mk (.setPsq h (.other (.getPsq h)))) (.ite (.mk (.setPsq h (.other (.getPsq h)))) (.mk h)))

theorem Canon.sprWrite (h : Canon s) {n r v} : Canon (s.sprWrite n r v) :=
  .ite (.setPsq h (.setVc (.getPsq h))) (.ite (.setFld h) (.setPsq h (by split <;> exact .other (.getPsq h))))

theorem SeqOk.of_dataFault {w a r} (e : dataFault p w a = some r) : SeqOk r := by
  unfold dataFault at e
  split at e
  · cases e; trivial
  · split at e
    · cases e; trivial
    · split at e <;> cases e
      trivial

theorem SndCanon.blockLoad (h : Canon s) {n o} : SndCanon (s.blockLoad n o) := .ite (.mk (.other (.outState h .execPsqWdbgAccess))) (.mk h)

theorem Canon.blockStore (h : Canon s) {n o v} : Canon (s.blockStore n o v) := by
  unfold State.blockStore
  dsimp only
  split
  · exact .ite (.writePlain (.holdReg h)) (.psqBlockWrite h)
  · exact .ite (.writePlain (.holdReg h)) (.psqBlockWrite h)
  · exact h

theorem Canon.accessDone (h : Canon s) {n x v} : Canon (s.accessDone n x v) :=
  .ite (.setPsq h (.goOn (.other (.other (.ite (.getPsq h) (.setG (.getPsq h))))))) (.setPsq h (.goOn (.other (.ite (.getPsq h) (.setG (.getPsq
    h))))))

theorem Canon.startAccess (h : Canon s) {n x} : Canon (s.startAccess n x) := by
  unfold State.startAccess
  extract_lets p
  split
  · exact .ite (.accessDone (.setPsq h (.other (.getPsq h)))) (.accessDone h)
  · refine .ite (.blockStore (.accessDone h)) ?_
    split
    exact .accessDone (.of_snd ‹_› (.blockLoad h))
  · exact .setPsq h (.other (.getPsq h))

theorem SeqOk.multiStep (h : Canon s) {n p w store} (hp : p.Wf) : SeqOk (s.multiStep n p w store) := by
  unfold State.multiStep
  extract_lets mask again rem base q
  have hq : q.Wf := .other hp
  clear_value q
  split
  · exact .done (.setPsq h (.goOn hq))
  · extract_lets a
    split
    · exact .done (.trapAt (.setPsq h hq))
    · exact .done (.startAccess (.setPsq h hq))

/-! ### What Machine/SeqExec.lean defines -/

@[simp] theorem Keeps.execSeqNopv {n} : Keeps s (execSeqNopv n s) := .next fun h => .simple h fun _ _ h1 => h1

@[simp] theorem Keeps.execSeqEmit {n} : Keeps s (execSeqEmit n s) := .next fun h => .simple h fun _ _ h1 => .other (.setVc h1)

@[simp] theorem Keeps.execSeqVset {n} : Keeps s (execSeqVset n s) := .next fun h => .simple h fun _ _ h1 => .setVc h1

@[simp] theorem Keeps.execSeqAlu {n} : Keeps s (execSeqAlu n s) := .next fun h => .simple h fun _ _ h1 => .setG h1

@[simp] theorem Keeps.execSeqAddi {n} : Keeps s (execSeqAddi n s) := .next fun h => .simple h fun _ _ h1 => .setG h1

@[simp] theorem Keeps.execSeqAndi {n} : Keeps s (execSeqAndi n s) := .next fun h => .simple h fun _ _ h1 => .setG h1

@[simp] theorem Keeps.execSeqOri {n} : Keeps s (execSeqOri n s) := .next fun h => .simple h fun _ _ h1 => .setG h1

@[simp] theorem Keeps.execSeqLui {n} : Keeps s (execSeqLui n s) := .next fun h => .simple h fun _ _ h1 => .setG h1

@[simp] theorem Keeps.execSeqBr {n} : Keeps s (execSeqBr n s) := .next fun h => .issue h fun _ _ _ h1 h2 => .seqNext h1 h2

@[simp] theorem Keeps.execSeqDjnz {n} : Keeps s (execSeqDjnz n s) := .next fun h => .issue h fun _ _ _ h1 h2 => .seqNext h1 (.setG h2)

@[simp] theorem Keeps.execSeqRep {n} : Keeps s (execSeqRep n s) := .next fun h => .issue h fun _ _ _ h1 h2 => .done (.setPsq h1 (.goOn (.other h2)))

@[simp] theorem Keeps.execSeqCall {n} : Keeps s (execSeqCall n s) :=
  .next fun h => .issue h fun _ _ _ h1 h2 => (by split; exacts [.trap, .seqNext h1 (.push h2)])

@[simp] theorem Keeps.execSeqRet {n} : Keeps s (execSeqRet n s) := by
  refine .next fun h => .issue h fun t p w h hp => ?_
  split
  · exact .trap
  next f _ =>
    refine .ite .trap ?_
    extract_lets b q
    have hq : q.Wf := .setG (.setG (.setG (.pop hp)))
    split
    next r e =>
      split at e
      · exact .of_returnFault e
      · cases e
    · exact .seqNext h hq

@[simp] theorem Keeps.execSeqRetxInterrupt {n} : Keeps s (execSeqRetxInterrupt n s) :=
  .next
    fun h =>
      .issue
        h
        fun _ _ _ h1 h2 =>
          .ite .trap (by split; exacts [.trap, .ite .trap (by split; exacts [.of_returnFault ‹_›, .seqNext h1 (.other (.pop h2))])])

@[simp] theorem Keeps.execSeqRetxTrap {n} : Keeps s (execSeqRetxTrap n s) :=
  .next fun h => .issue h fun _ _ _ h1 h2 => .ite .trap (.ite .trap (.seqNext h1 (.other h2)))

@[simp] theorem Keeps.execSeqCtx {n} : Keeps s (execSeqCtx n s) := .next fun h => .issue h fun _ _ _ h1 h2 => .seqNext (.select h1) h2

theorem SeqOk.decide_ (h : Canon s) {n p w cond} (hp : p.Wf) : SeqOk (s.decide_ n p w cond) := .ite (.seqNext (.ite (.select h) h) hp) (.seqNext h hp)

@[simp] theorem Keeps.execSeqMatch {n} : Keeps s (execSeqMatch n s) := .next fun h => .issue h fun _ _ _ h1 h2 => .decide_ h1 h2

@[simp] theorem Keeps.execSeqMwait {n} : Keeps s (execSeqMwait n s) :=
  .next fun h => .issue h fun _ _ _ h1 h2 => .ite (.seqNext h1 h2) (.seqNext h1 (.setG h2))

@[simp] theorem Keeps.execSeqVmatch {n} : Keeps s (execSeqVmatch n s) := .next fun h => .issue h fun _ _ _ h1 h2 => .ite .trap (.decide_ h1 h2)

@[simp] theorem Keeps.execSeqLds {n} : Keeps s (execSeqLds n s) := .next fun h => .issue h fun _ _ _ h1 h2 => .ite .trap (.seqNext h1 (.setG h2))

@[simp] theorem Keeps.execSeqSts {n} : Keeps s (execSeqSts n s) := .next fun h => .issue h fun _ _ _ h1 h2 => .ite .trap (.seqNext h1 (.other h2))

@[simp] theorem Keeps.execSeqMfs {n} : Keeps s (execSeqMfs n s) :=
  .next
    fun h =>
      .issue h fun _ _ _ h1 _ => (by
        split
        exact .seqNext (.of_snd ‹_› (.sprRead h1)) (.setG (.getPsq (.of_snd ‹_› (.sprRead h1)))))

@[simp] theorem Keeps.execSeqMts {n} : Keeps s (execSeqMts n s) :=
  .next fun h => .issue h fun _ _ _ h1 _ => .ite .trap (.ite .trap (.seqNext (.sprWrite h1) (.getPsq (.sprWrite h1))))

@[simp] theorem Keeps.execSeqXmov {n} : Keeps s (execSeqXmov n s) :=
  .next fun h => .issue h fun _ _ _ h1 h2 => .ite .trap (.ite .trap (.seqNext h1 (.ite (.setBankReg h2) (.setG h2))))

theorem Canon.signalSeq (h : Canon s) {n m code host} : Canon (s.signalSeq n m code host) :=
  .ite (.postEvent (.pendIrq (.setReg h))) (.pendIrq (.setReg h))

@[simp] theorem Keeps.execSeqSig {n} : Keeps s (execSeqSig n s) := by
  refine .next fun h => .issue h fun t p w h hp => ?_
  have hr : SeqOk (t.seqNext n p (p.pc + 1)) := .seqNext h hp
  split
  next e =>
    rw [e] at hr
    exact .signalSeq hr
  · exact hr

@[simp] theorem Keeps.execSeqSfx {n} : Keeps s (execSeqSfx n s) := .next fun h => .issue h fun _ _ _ h1 h2 => .seqNext (.sfxTrigger h1) h2

@[simp] theorem Keeps.execSeqPgld {n} : Keeps s (execSeqPgld n s) :=
  .next fun h => .issue h fun _ _ _ h1 _ => .seqNext (.startFill h1) (.getPsq (.startFill h1))

theorem SeqOk.single (h : Canon s) {n p w store} : SeqOk (s.single n p w store) := by
  unfold State.single
  dsimp only
  split
  · exact .of_dataFault ‹_›
  · exact .done (.startAccess h)

@[simp] theorem Keeps.execSeqLd {n} : Keeps s (execSeqLd n s) := .next fun h => .issue h fun _ _ _ h1 _ => .single h1

@[simp] theorem Keeps.execSeqSt {n} : Keeps s (execSeqSt n s) := .next fun h => .issue h fun _ _ _ h1 _ => .single h1

@[simp] theorem Keeps.execSeqLdm {n} : Keeps s (execSeqLdm n s) := .next fun h => .issue h fun _ _ _ h1 h2 => .multiStep h1 h2

@[simp] theorem Keeps.execSeqStm {n} : Keeps s (execSeqStm n s) := .next fun h => .issue h fun _ _ _ h1 h2 => .multiStep h1 h2

@[simp] theorem Keeps.execDataAccessComplete {n status} : Keeps s (execDataAccessComplete n status s) := by
  unfold Machine.execDataAccessComplete
  extract_lets p
  split
  · exact .next fun h => h
  · extract_lets d c s1
    have h1 (h : Canon s) : Canon s1 := .eccSeen h
    clear_value s1
    refine .ite (.next fun h => .trapAt (.setPsq (.accLog (h1 h)) (.other (.getPsq h))))
      (.ite (.next fun h => .accessDone (.unitWrite (h1 h))) ?_)
    split
    exact .next fun h => .accessDone (.of_snd ‹_› (.readDpa (h1 h)))

@[simp] theorem Keeps.execSeqSysc {n} : Keeps s (execSeqSysc n s) := .next fun h => .issue h fun _ _ _ _ _ => .trap

@[simp] theorem Keeps.execSeqWaiti {n} : Keeps s (execSeqWaiti n s) :=
  .next fun h => .issue h fun _ _ _ h1 h2 => .done (.setPsq h1 (.other (.goOn h2)))

@[simp] theorem Keeps.execSeqFence {n} : Keeps s (execSeqFence n s) := .next fun h => .issue h fun _ _ _ h1 h2 => .seqNext h1 h2

@[simp] theorem Keeps.execSeqHalt {n} : Keeps s (execSeqHalt n s) := .next fun h => .issue h fun _ _ _ h1 h2 => .done (.setPsq h1 (.other (.goOn h2)))

@[simp] theorem Keeps.execSeqIllegal {n} : Keeps s (execSeqIllegal n s) := .next fun h => .issue h fun _ _ _ h1 h2 => .seqNext h1 h2

@[simp] theorem Keeps.execInterruptEntry {n} : Keeps s (execInterruptEntry n s) := by
  unfold Machine.execInterruptEntry
  extract_lets p
  split
  · exact .next fun h => h
  · refine .ite (.next fun h => h) ?_
    split
    · exact .next fun h => .trapAt (.ite (.emitWord h) h)
    · refine .next fun h => ?_
      have hp : p.Wf := .getPsq h
      have hq : Psq.Wf (p.push 2 p.pc p.status p.lmstate p.lmbase false) := .push hp
      exact .setPsq h (.mk hq.banks hq.frames (mwf_mset _ _ none _ hp.irq))

@[simp] theorem Keeps.execPsqTimer {n} : Keeps s (execPsqTimer n s) := .ite (.next fun h => .pendIrq h) (.next fun h => h)

/-! ### What Machine/SpillExec.lean defines -/

@[simp] theorem Keeps.execWindowSpill {n} : Keeps s (execWindowSpill n s) := by
  unfold Machine.execWindowSpill
  extract_lets p
  split
  · refine .ite (.next fun h => h) (.next fun h => ?_)
    have hp : p.Wf := .getPsq h
    exact .setPsq h (.mk hp.banks (mwf_mset _ _ none _ hp.frames) hp.irq)
  · exact .next fun h => h

theorem Canon.spillError (h : Canon s) {n code depths} : Canon (s.spillError n code depths) :=
  .setPsq (.report (.setFld h)) (.other (.getPsq (.report (.setFld h))))

@[simp] theorem Keeps.execWindowFill {n} : Keeps s (execWindowFill n s) := by
  unfold Machine.execWindowFill
  extract_lets p below
  split
  split
  · exact .next fun h => h
  next f _ =>
    extract_lets d q
    refine .ite (.next fun h => h) (.ite (.next fun h => .spillError h) (.next fun h => ?_))
    have hq : q.Wf := .foldl (.getPsq h) fun _ _ h => .setBankReg h
    clear_value q
    exact .setPsq h (.mk hq.banks (mwf_mset _ _ _ _ hq.frames) hq.irq)

@[simp] theorem Keeps.execWstoreToMemory {n status} : Keeps s (execWstoreToMemory n status s) :=
  .ite (.next fun h => h) (.ite (.next fun h => .spillError (.accLog h)) (.next fun h => .setPsq (.unitWrite h) (.other (.getPsq h))))

@[simp] theorem Keeps.execWstoreFromMemory {n status} : Keeps s (execWstoreFromMemory n status s) :=
  .ite
    (.next fun h => h)
    (.ite
      (.next fun h => .spillError (.accLog (.eccSeen h)))
      (by
        split
        exact .next fun h => .setPsq (.of_snd ‹_› (.readDpa (.eccSeen h))) (.other (.getPsq h))))

/-! ### What Machine/PartnerOps.lean defines -/

theorem Canon.setPtByte (h : Canon s) {e b v} : Canon (s.setPtByte e b v) := .setReg h

theorem Canon.unbindNow (h : Canon s) {k} : Canon (s.unbindNow k) := by
  unfold State.unbindNow
  split
  · exact .ite (.report (.setFlds (.setReg (.setSlice h)))) h
  · exact h

theorem Canon.loseBinding (h : Canon s0) {k} : Canon (s0.loseBinding k) :=
  .ite (.other (.report (.setFld (.setFld (.ite (.calEnd (.setSlice h)) (.setSlice h)))))) (.report (.setFld (.setFld (.ite (.calEnd (.setSlice h))
    (.setSlice h)))))

theorem Canon.partnerLoss (h : Canon s) {e} : Canon (s.partnerLoss e) :=
  .ite h (.postEvent (.report (.setPtByte (.foldl (.foldl h fun _ _ h1 => .unbindNow h1) fun _ _ h1 => .loseBinding h1))))

/-! ### What Machine/PslExec.lean defines -/

@[simp] theorem Keeps.execSliceCompare {sl w l} : Keeps s (execSliceCompare sl w l s) := by
  unfold Machine.execSliceCompare
  dsimp only
  split
  · exact .next fun h => h
  · exact .ite (.next fun h => h) (.next fun h => .ite (.setReg (.setReg (.ite (.report (.setFld (.addSat (.addSat (.addSat (.setSlice h)))))) (.addSat
      (.addSat (.setSlice h)))))) (.ite (.report (.setFld (.addSat (.addSat (.addSat (.setSlice h)))))) (.addSat (.addSat (.setSlice h)))))

theorem Canon.refusePsl (h : Canon s) {req k code off detail} : Canon (s.refusePsl req k code off detail) :=
  .ite (.logRefused (.setFld h)) (.report (.setFld h))

@[simp] theorem Keeps.execPslCal {req sl} : Keeps s (execPslCal req sl s) :=
  .ite (.next fun h => h) (.ite (.next fun h => .refusePsl h) (.ite (.next fun h => .refusePsl h) (.ite (.next fun h => .refusePsl h) (.next fun h =>
    .setFld (.setReg (.setSlice h))))))

@[simp] theorem Keeps.execCalDone {sl outcome} : Keeps s (execCalDone sl outcome s) :=
  .ite (.next fun h => h) (by split; exacts [.next fun h => .calEnd h, .ite (.next fun h => .calEnd h) (.next fun h => .calEnd (.setFlds h))])

@[simp] theorem Keeps.execPslCntClr {_req sl} : Keeps s (execPslCntClr _req sl s) := .next fun h => .setReg (.setReg (.setReg (.setReg (.setReg h))))

@[simp] theorem Keeps.execPslSettingWrite {req sl reg value} : Keeps s (execPslSettingWrite req sl reg value s) :=
  .ite (.next fun h => h) (.ite (.next fun h => .logRefused h) (.ite (.next fun h => h) (.next fun h => .writePlain h)))

@[simp] theorem Keeps.execPslBind {req sl value} : Keeps s (execPslBind req sl value s) :=
  .ite (.next fun h => h) (.ite (.next fun h => .refusePsl h) (.ite (.next fun h => .refusePsl h) (.ite (.next fun h => .refusePsl h) (.next fun h =>
    .setFlds (.writePlain (.setSlice h))))))

theorem Canon.setLos (h : Canon s) {k onH onL} : Canon (s.setLos k onH onL) := .setFlds h

@[simp] theorem Keeps.execLos {sl onH onL} : Keeps s (execLos sl onH onL s) :=
  .ite (.next fun h => h) (.next fun h => .ite (.ite (.loseBinding (.unbindNow (.setFld (.setLos h)))) (.unbindNow (.setFld (.setLos h)))) (.report
    (.setFld (.setLos h))))

@[simp] theorem Keeps.execLosRecovery {sl onH onL} : Keeps s (execLosRecovery sl onH onL s) := .next fun h => .setLos h

@[simp] theorem Keeps.execPresenceAbsent {partner} : Keeps s (execPresenceAbsent partner s) := .ite (.next fun h => h) (.next fun h => .partnerLoss h)

@[simp] theorem Keeps.execPslPartnerDrop {_req partner} : Keeps s (execPslPartnerDrop _req partner s) := .next fun h => .partnerLoss h

theorem Canon.quadOff (h : Canon s) {q} : Canon (s.quadOff q) := .other (.foldl (.setFlds h) fun _ _ h1 => .setSlice h1)

@[simp] theorem Keeps.execPwrEnWrite {req q en} : Keeps s (execPwrEnWrite req q en s) :=
  .ite (.next fun h => h) (.ite (.next fun h => .logRefused (.setFld h)) (.next fun h => .ite (.ite (.setFld (.setFld h)) (.setFlds (.setFld h)))
    (.quadOff (.setFld h))))

@[simp] theorem Keeps.execQuadrantReady {q} : Keeps s (execQuadrantReady q s) := .ite (.next fun h => .setFlds (.other h)) (.next fun h => h)

@[simp] theorem Keeps.execQuadrantTimeout {q} : Keeps s (execQuadrantTimeout q s) :=
  .ite (.next fun h => .report (.setFld (.quadOff h))) (.next fun h => h)

/-! ### What Machine/FcqExec.lean defines -/

@[simp] theorem Keeps.execFailPacketHandover {x} : Keeps s (execFailPacketHandover x s) := by
  unfold Machine.execFailPacketHandover
  split
  · exact .next fun h => h
  · dsimp only
    split; exacts [.next fun h => .handOver (.setXPkt h),
      .next fun h => .setXPkt h]

@[simp] theorem Keeps.execCreditRefill {x} : Keeps s (execCreditRefill x s) := .next fun h => .refill h

@[simp] theorem Keeps.execSaturationExit {x} : Keeps s (execSaturationExit x s) := .next fun h => .ite (.endEpisode h) h

theorem Canon.drainEnd (h : Canon s) {k} : Canon (s.drainEnd k) := .ite (.setQueue (.writeCounts (.closeRuns h))) (.ite (.setQueue (.pushRecord h)) h)

@[simp] theorem Keeps.execDrainRecord {k} : Keeps s (execDrainRecord k s) :=
  .ite (.next fun h => h) (by split; exacts [.next fun h => .freeRead (.setQueue (.drainPkt h)), .next fun h => .ite (.drainEnd h) h])

@[simp] theorem Keeps.execRecordWriteDone {k status} : Keeps s (execRecordWriteDone k status s) := by
  unfold Machine.execRecordWriteDone
  dsimp only
  split
  · exact .next fun h => h
  · exact .next fun h => .ite (.writeHeader (.writeRecord (.setQueue h))) (.writeRecord (.setQueue h))

@[simp] theorem Keeps.execCountPeriod {k} : Keeps s (execCountPeriod k s) := .ite (.next fun h => .writeCounts h) (.next fun h => h)

theorem Canon.flushBegin (h : Canon s) {k} : Canon (s.flushBegin k) := .foldl (.setQueue h) fun _ _ h1 => .ite (.endEpisode h1) h1

@[simp] theorem Keeps.execQueueFlushBegin {k} : Keeps s (execQueueFlushBegin k s) := by
  unfold Machine.execQueueFlushBegin
  split
  · exact .ite (.next fun h => .flushBegin h) (.next fun h => h)
  · exact .next fun h => h

@[simp] theorem Keeps.execFlushDone {k} : Keeps s (execFlushDone k s) :=
  .ite (.next fun h => .settleLanes (.setFld (.setQueue (.writeHeader h)))) (.next fun h => h)

theorem Canon.reportPtr (h : Canon s) {src ptr c1 c2} : Canon (s.reportPtr src ptr c1 c2) := .report h

theorem Canon.streamReset (h : Canon s) {j} : Canon (s.streamReset j) := .resultQueueGone (.resetStream h)

@[simp] theorem Keeps.execFcqPtrMismatch {q ptr copy1 copy2} : Keeps s (execFcqPtrMismatch q ptr copy1 copy2 s) :=
  .ite
    (.next fun h => h)
    (by split; exacts [.ite (.next fun h => h) (.next fun h => .reportPtr (.resetQueue (.setQueue h))),
        .ite (.next fun h => h) (.next fun h => .reportPtr (.streamReset (.setStream h)))])

@[simp] theorem Keeps.execQueueResetDone {q} : Keeps s (execQueueResetDone q s) := by
  unfold Machine.execQueueResetDone
  split
  · exact .ite (.next fun h => .settleLanes (.ite (.flushBegin (.putPkt (.setQueue h))) (.putPkt (.setQueue h)))) (.next fun h => h)
  · exact .next fun h => .setStream h

theorem Canon.queueEnable (h : Canon s) {k} : Canon (s.queueEnable k) := .ite (.setQueue h) (.ite (.setQueue h) h)

theorem Canon.fcqWrite (h : Canon s) {req off k isCfg v mask} : Canon (s.fcqWrite req off k isCfg v mask) :=
  .ite (.ite (.queueEnable (.writePlain h)) (.writePlain h)) (.logRefused h)

@[simp] theorem Keeps.execFcqConfigWrite {req reg value} : Keeps s (execFcqConfigWrite req reg value s) := .next fun h => .fcqWrite h

theorem Canon.queueCmd (h : Canon s) {req k op ok act} (ha : Canon (act s)) : Canon (s.queueCmd req k op ok act) :=
  .ite (.setFld ha) (.logRefused (.setFld h))

@[simp] theorem Keeps.execCkpt {req k} : Keeps s (execCkpt req k s) := .next fun h => .queueCmd h (.writeCounts h)

@[simp] theorem Keeps.execQReset {req k} : Keeps s (execQReset req k s) := .next fun h => .queueCmd h (.resetQueue h)

@[simp] theorem Keeps.execQDrop {req k} : Keeps s (execQDrop req k s) := .next fun h => .queueCmd h (.freeRead (.setQueue h))

theorem Canon.setMark (h : Canon s) {k m} : Canon (s.setMark k m) := .setFld (.setFld h)

@[simp] theorem Keeps.execMarkSet {req k m} : Keeps s (execMarkSet req k m s) := .next fun h => .queueCmd h (.setMark h)

@[simp] theorem Keeps.execMarkClr {req k m} : Keeps s (execMarkClr req k m s) := .next fun h => .queueCmd h (.setFld h)

theorem Canon.streamCmd (h : Canon s) {req j op act} (ha : Canon (act s)) : Canon (s.streamCmd req j op act) := .ite (.logRefused h) (.ite ha h)

theorem Canon.streamLeft (h : Canon s) {j items n} : Canon (s.streamLeft j items n) := .crossings (.setStream h)

@[simp] theorem Keeps.execSqDrop {req j} : Keeps s (execSqDrop req j s) := .next fun h => .streamCmd h (.ite h (.setStream (.streamLeft h)))

@[simp] theorem Keeps.execSqReset {req j} : Keeps s (execSqReset req j s) := .next fun h => .streamCmd h (.streamReset h)

@[simp] theorem Keeps.execSqWmWrite {req j value} : Keeps s (execSqWmWrite req j value s) :=
  .ite (.next fun h => .crossings (.setFlds h)) (.next fun h => .logRefused h)

theorem Canon.streamWrite (h : Canon s) {j items last} : Canon (s.streamWrite j items last) := .ite (.setStream h) (.crossings (.setStream h))

theorem Keeps.execStreamPacketWrite {j part} (hw : wfItems part.items = true) : Keeps s (execStreamPacketWrite j part s) :=
  .ite_wf hw (.next fun h => .ite (.streamWrite h) h)

@[simp] theorem Keeps.execSqPop {_req j} : Keeps s (execSqPop _req j s) :=
  .ite (.next fun h => .other h) (by split; exacts [.next fun h => .other h, .next fun h => .other (.streamLeft h)])

theorem Canon.sqCfgWrite (h : Canon s) {j v mask} : Canon (s.sqCfgWrite j v mask) :=
  .ite (.writePlain h) (.resultQueueGone (.crossings (.setStream (.writePlain h))))

/-! ### What Machine/SlvExec.lean defines -/

theorem Canon.tapAdvance (h : Canon s) {k p} : Canon (s.tapAdvance k p) := .freeRead (.setQueue h)

@[simp] theorem Keeps.execCollectPacket {l k} : Keeps s (execCollectPacket l k s) := by
  unfold Machine.execCollectPacket
  split
  · exact .next fun h => .tapAdvance (.collectFail h)
  · exact .next fun h => h

@[simp] theorem Keeps.execCollectMarker {l k} : Keeps s (execCollectMarker l k s) := by
  unfold Machine.execCollectMarker
  split
  · exact .next fun h => .tapAdvance (.collectSat h)
  · exact .next fun h => .tapAdvance (.collectReset h)
  · exact .next fun h => h

@[simp] theorem Keeps.execSlvStoreEcc {g unit} : Keeps s (execSlvStoreEcc g unit s) :=
  .ite (.next fun h => h) (.next fun h => .report (.setFld (.setSrgn h)))

theorem Canon.slvCommand (h : Canon s) {req op act} (ha : SndCanon (act s)) : Canon (s.slvCommand req op act) :=
  .ite
    (.logRefused h)
    (.ite
      (.logRefused (.setFlds h))
      (by
        split
        exact .ite (.logRefused (.setFld (.otherSlv (.of_snd ‹_› ha)))) (.setFld (.otherSlv (.of_snd ‹_› ha)))))

theorem SndCanon.slvFail (h : Canon s) {code lane g detail} : SndCanon (s.slvFail code lane g detail) := .mk (.report h)

theorem SndCanon.loadMap (h : Canon s) {l status} : SndCanon (s.loadMap l status) :=
  .ite
    (.mk (.ite h (.eccSeen h)))
    (.ite
      (.mk (.accLog (.ite h (.eccSeen h))))
      (by
        split
        · split; exacts [.slvFail (.of_snd ‹_› (.readDpa (.ite h (.eccSeen h)))),
            .mk (.setReg (.clearLaneCounts (.setLane (.of_snd ‹_› (.readDpa (.ite h (.eccSeen h)))))))]))

@[simp] theorem Keeps.execLaneMap {req l status} : Keeps s (execLaneMap req l status s) := .next fun h => .slvCommand h (.loadMap h)

@[simp] theorem Keeps.execLaneReset {req l} : Keeps s (execLaneReset req l s) :=
  .next fun h => .slvCommand h (.ite (.mk (.setReg (.setLane h))) (.mk h))

theorem SndCanon.openRegions (h : Canon s) {status gs} : SndCanon (s.openRegions status gs) := by
  unfold State.openRegions
  extract_lets s1
  have hs1 : Canon s1 := .foldl h fun _ _ h1 => .ite (.eccSeen h1) h1
  split
  · exact .ite (.slvFail (.tookFree hs1)) (.mk (.accLog (.tookFree hs1)))
  · exact .mk (.tookFree (.foldl hs1 fun _ _ h1 => .setSrgn h1))

@[simp] theorem Keeps.execSlvOpen {req g cnt status} : Keeps s (execSlvOpen req g cnt status s) := .next fun h => .slvCommand h (.openRegions h)

theorem SndCanon.rangeCmd (h : Canon s) {gs sel act} (ha : ∀ t g, Canon t → Canon (act t g)) : SndCanon (s.rangeCmd gs sel act) := .mk (.foldl h ha)

@[simp] theorem Keeps.execSlvClose {req g cnt} : Keeps s (execSlvClose req g cnt s) :=
  .next fun h => .slvCommand h (.rangeCmd h fun _ _ h1 => .closeRgn h1)

@[simp] theorem Keeps.execSlvSolve {req g cnt} : Keeps s (execSlvSolve req g cnt s) :=
  .next fun h => .slvCommand h (.rangeCmd h fun _ _ h1 => .queueRgn h1)

theorem SndCanon.replayBegin (h : Canon s) {g d} : SndCanon (s.replayBegin g d) :=
  .ite (.slvFail h) (by split; exacts [.mk (.report h), .mk (.setLane (.setSrgn h))])

theorem SndCanon.resolveRgn (h : Canon s) {g status} : SndCanon (s.resolveRgn g status) := by
  unfold State.resolveRgn
  extract_lets s1 r
  have h1 : Canon s1 := .eccSeen h
  clear_value s1
  split
  exact .ite (.mk (.accLog h1)) (.ite (.slvFail h1) (.ite (.replayBegin h1) (.ite (.mk (.queueRgn (.setSrgn h1))) (.slvFail h1))))

@[simp] theorem Keeps.execSlvResolve {req g cnt status} : Keeps s (execSlvResolve req g cnt status s) :=
  .next fun h => .slvCommand h (.ite (.mk h) (.mk (.tookFree (.snd (.resolveRgn h)))))

theorem Canon.abortRgn (h : Canon s) {g} : Canon (s.abortRgn g) := .setSrgn (.setLane h)

@[simp] theorem Keeps.execSlvAbort {req g cnt} : Keeps s (execSlvAbort req g cnt s) :=
  .next fun h => .slvCommand h (.rangeCmd h fun _ _ h1 => .abortRgn h1)

theorem Canon.releaseRgn (h : Canon s) {g} : Canon (s.releaseRgn g) := .setSrgn (.freeUnits h)

@[simp] theorem Keeps.execSlvRelease {req g cnt} : Keeps s (execSlvRelease req g cnt s) :=
  .next fun h => .slvCommand h (.rangeCmd h fun _ _ h1 => .releaseRgn h1)

@[simp] theorem Keeps.execSlvCmdComplete : Keeps s (execSlvCmdComplete s) := by
  unfold Machine.execSlvCmdComplete
  split
  · exact .next fun h => h
  · exact .next fun h => (by split; exacts [.setFld (.answerCmds (.setFlds (.otherSlv h))), .answerCmds (.setFlds (.otherSlv h))])

@[simp] theorem Keeps.execSolveBegin {l} : Keeps s (execSolveBegin l s) := by
  unfold Machine.execSolveBegin
  dsimp only
  split
  · exact .next fun h => .setSrgn (.setLane h)
  · exact .next fun h => h

@[simp] theorem Keeps.execSolveComplete {l status} : Keeps s (execSolveComplete l status s) := by
  unfold Machine.execSolveComplete
  extract_lets v
  split
  · extract_lets r a bytes s1 s2 addr c s3 s4
    have h1 (h : Canon s) : Canon s1 := .ite (.tookFree h) h
    have h2 (h : Canon s) : Canon s2 := .ite (.report (h1 h)) (h1 h)
    have h3 (h : Canon s) : Canon s3 := .ite (h2 h) (.eccSeen (h2 h))
    have h4 (h : Canon s) : Canon s4 := .ite (h3 h) (.ite (.unitWrite (h3 h)) (.report (.accLog (h3 h))))
    exact .ite (.next fun h => .tryResult (.setLane (h4 h))) (.next fun h => .finishSolve (h4 h))
  · exact .next fun h => h

@[simp] theorem Keeps.execResultEnqueue {l} : Keeps s (execResultEnqueue l s) := .next fun h => .tryResult h

theorem Canon.replayAll (h : Canon s) {l r} : Canon (s.replayAll l r) := by
  unfold State.replayAll
  split
  · exact .foldl h fun _ _ h1 => .replayRecords h1
  · exact h

@[simp] theorem Keeps.execReplayComplete {l status} : Keeps s (execReplayComplete l status s) := by
  unfold Machine.execReplayComplete
  dsimp only
  split
  · exact .next fun h => h
  · exact .ite (.next fun h => .queueRgn (.tookFree (.replayAll (.setLane (.foldl h fun _ _ h1 => .ite (.eccSeen h1) h1))))) (.next fun h => .ite
      (.setSrgn (.setLane (.foldl h fun _ _ h1 => .ite (.eccSeen h1) h1))) (.report (.setSrgn (.setLane (.foldl h fun _ _ h1 => .ite (.eccSeen h1)
      h1)))))

@[simp] theorem Keeps.execSlvCtrlWrite {req en} : Keeps s (execSlvCtrlWrite req en s) :=
  .ite (.next fun h => .setFld h) (.next fun h => .logRefused h)

@[simp] theorem Keeps.execSlvLaneCfgWrite {req l value} : Keeps s (execSlvLaneCfgWrite req l value s) :=
  .ite (.next fun h => .logRefused h) (.next fun h => .writePlain h)

/-! ### What Machine/NocOps.lean defines -/

theorem Canon.nocResult (h : Canon s) {ni tag status data} : Canon (s.nocResult ni tag status data) := .other h

theorem Canon.addReq (h : Canon s) {q} : Canon (s.addReq q) := .other h

theorem FstCanon.serveLine (h : Canon s) {q a i fs} : FstCanon (s.serveLine q a i fs) := by
  unfold State.serveLine
  dsimp only
  split
  · exact .ite (.mk (.setDpaBytes h)) (.mk h)
  · exact .ite (.mk (.setDpaBytes (.ite (.memCe h) h))) (.mk (.ite (.memCe h) h))
  · exact .ite (.mk (.tookFree (.memUe h))) (.ite (.mk (.setDpaBytes h)) (.mk h))
  · exact .ite (.ite (.mk (.setDpaBytes h)) (.mk h)) (.ite (.mk (.tookFree (.setDpaBytes (.setDpaBytes h)))) (.mk (.tookFree h)))

theorem FstCanon.serveLines {q a faults i n} (h : Canon s) : FstCanon (s.serveLines q a faults i n) := by
  induction n generalizing s i with
  | zero => exact h
  | succ n ih => exact ih (.fst (.serveLine h))

theorem Canon.nocCount (h : Canon s) {seen count} : Canon (s.nocCount seen count) := .addSat (.setFld h)

theorem Canon.unavailable (h : Canon s) {ni tag a} : Canon (s.unavailable ni tag a) := .report (.nocCount (.nocResult h))

theorem Canon.snoopLine (h : Canon s) {c q e} : Canon (s.snoopLine c q e) :=
  .ite h (.ite (.other h) (.ite (.nocResult (.putReq h)) (by split; exacts [.unavailable (.putReq h), .addReq (.putReq h)])))

theorem Canon.snoopFor (h : Canon s) {c q} : Canon (s.snoopFor c q) := by
  unfold State.snoopFor
  split
  · exact h
  · split; exacts [.ite h (.snoopLine h),
      h]

theorem Canon.scrubLine (h : Canon s) {c l faults} : Canon (s.scrubLine c l faults) := by
  unfold State.scrubLine
  split
  · exact .memCe h
  · exact .tookFree (.memUe h)
  · exact h
  · exact .tookFree h

/-! ### What Machine/NocExec.lean defines -/

theorem Canon.linkError (h : Canon s) {q r} : Canon (s.linkError q r) := .report (.nocCount h)

theorem Canon.inject (h : Canon s) {q link} : Canon (s.inject q link) := by
  unfold State.inject
  split
  · exact .ite (.settle (.linkError (.addReq h))) (.settle (.addReq h))
  · exact .ite (.settle (.linkError (.addReq h))) (.settle (.addReq h))
  · exact .settle (.addReq h)
  · exact .settle (.addReq h)

theorem Keeps.execNocRequest {ni tag body addr len} (hw : wfRequest body.write len.val = true) : Keeps s (execNocRequest ni tag body addr len s) :=
  .ite_wf
    hw
    (.ite
      (.next fun h => h)
      (.ite
        (.next fun h => .nocResult (.accLog h))
        (by split; exacts [.next fun h => (by split; exacts [.inject h, .unavailable h]), .next fun h => h])))

theorem Canon.serveMem (h : Canon s) {q a faults} : Canon (s.serveMem q a faults) :=
  .ite (.complete h) (.ite (.complete (.fst (.serveLines h))) (.ite (.other (.complete (.fst (.serveLines h)))) (.complete (.fst (.serveLines h)))))

theorem Canon.scrubsDue (h : Canon s) {c} : Canon (s.scrubsDue c) := .foldl (.other h) fun _ _ h1 => .scrubLine h1

@[simp] theorem Keeps.execMemAccess {c cycles faults} : Keeps s (execMemAccess c cycles faults s) := by
  unfold Machine.execMemAccess
  dsimp only
  split
  · exact .next fun h => .settle (.foldl (.ageHeads h) fun _ _ h1 => .snoopFor h1)
  · exact .next fun h => .scrubsDue (.settle (.serveMem (.foldl (.ageHeads h) fun _ _ h1 => .snoopFor h1)))

theorem Canon.hostServe (h : Canon s) {q fault} : Canon (s.hostServe q fault) :=
  .ite
    h
    (.ite
      (.settle (.complete (.accLog h)))
      (by split; exacts [.settle (.complete (.accLog (.other h))),
          .ite (.settle (.complete (.setDpaBytes h))) (.settle (.complete (.tookFree h)))]))

theorem Canon.endReq (h : Canon s) {q status data} : Canon (s.endReq q status data) :=
  .ite (.ite (.other (.dropReq h)) (.dropReq h)) (.ite (.dropReq h) (.nocResult (.dropReq h)))

theorem Canon.takeCompletion (h : Canon s) {q status link} : Canon (s.takeCompletion q status link) := by
  unfold State.takeCompletion
  dsimp only
  split
  · exact .ite (.ite (.dropReq (.linkError h)) (.putReq (.linkError h))) (.endReq h)
  · exact .ite (.endReq (.linkError h)) (.endReq h)
  · exact .endReq h
  · exact .endReq h

@[simp] theorem Keeps.execNocCompletion {ni tag link} : Keeps s (execNocCompletion ni tag link s) := by
  unfold Machine.execNocCompletion
  split
  · exact .next fun h => h
  · dsimp only
    split; exacts [.next fun h => .hostServe h,
      .next fun h => (by split; exacts [.ite (.takeCompletion (.hostServe h)) (.hostServe h), .hostServe h])]

@[simp] theorem Keeps.execNocTimeout {ni tag} : Keeps s (execNocTimeout ni tag s) := by
  unfold Machine.execNocTimeout
  split
  · exact .next fun h => h
  · exact .ite (.next fun h => h) (.next fun h => .ite (.ite (.dropReq (.nocCount h)) (.putReq (.nocCount h))) (.nocResult (.ite (.dropReq (.nocCount
      h)) (.putReq (.nocCount h)))))

@[simp] theorem Keeps.execRouteHoldExpiry {ni tag router} : Keeps s (execRouteHoldExpiry ni tag router s) := by
  unfold Machine.execRouteHoldExpiry
  split
  · exact .next fun h => h
  · split; exacts [.ite (.next fun h => .settle (.putReq (.nocCount h))) (.next fun h => h),
      .next fun h => h]

theorem Canon.takeNack (h : Canon s) {q} : Canon (s.takeNack q) :=
  .ite (.dropReq h) (.ite (.endReq h) (.ite (.settle (.putReq h)) (.unavailable (.dropReq h))))

@[simp] theorem Keeps.execNack {ni tag} : Keeps s (execNack ni tag s) := by
  unfold Machine.execNack
  split
  · exact .next fun h => h
  · exact .next fun h => .ite (.takeNack h) h

theorem Canon.setBitOf (h : Canon s) {off i b} : Canon (s.setBitOf off i b) := .setFld h

theorem Canon.refuseRouter (h : Canon s) {req op} : Canon (s.refuseRouter req op) := .logRefused (.setFld h)

@[simp] theorem Keeps.execNocBegin {req r} : Keeps s (execNocBegin req r s) :=
  .ite (.next fun h => .refuseRouter h) (.next fun h => .setBitOf (.setBitOf (.setFld h)))

@[simp] theorem Keeps.execRouterDrained {r} : Keeps s (execRouterDrained r s) := .next fun h => .ite (.setBitOf h) h

theorem Canon.routerBack (h : Canon s) {r} : Canon (s.routerBack r) := .settle (.setBitOf (.setBitOf h))

@[simp] theorem Keeps.execNocEnd {req r} : Keeps s (execNocEnd req r s) :=
  .ite (.next fun h => .setFld (.routerBack h)) (.next fun h => .refuseRouter h)

@[simp] theorem Keeps.execNocReconfTimeout {r} : Keeps s (execNocReconfTimeout r s) :=
  .ite (.next fun h => .report (.setFld (.routerBack h))) (.next fun h => h)

theorem Canon.refuseFence (h : Canon s) {req op} : Canon (s.refuseFence req op) := .logRefused (.setFld h)

theorem Canon.fenceBegin (h : Canon s) {d} : Canon (s.fenceBegin d) := .setFld h

@[simp] theorem Keeps.execNocFence {req d} : Keeps s (execNocFence req d s) :=
  .ite (.next fun h => .refuseFence h) (.next fun h => .fenceBegin (.setFld h))

@[simp] theorem Keeps.execDomainFenced {d} : Keeps s (execDomainFenced d s) := .ite (.next fun h => .setFlds h) (.next fun h => h)

@[simp] theorem Keeps.execNocUnfence {req d} : Keeps s (execNocUnfence req d s) := .ite (.next fun h => .setFlds h) (.next fun h => .refuseFence h)

@[simp] theorem Keeps.execRouteCommit {req src dest} : Keeps s (execRouteCommit req src dest s) :=
  .ite (.next fun h => .logRefused (.setFld h)) (.ite (.next fun h => .report (.setFld (.setFlds h))) (.next fun h => .setFld (.setRoute (.setRoute
    (.setFlds h)))))

@[simp] theorem Keeps.execRouteLoad {_req src dest} : Keeps s (execRouteLoad _req src dest s) := .next fun h => .setReg (.setReg (.setFlds h))

@[simp] theorem Keeps.execNocTimeoutWrite {req value} : Keeps s (execNocTimeoutWrite req value s) :=
  .ite (.next fun h => .logRefused h) (.next fun h => .setReg h)

/-! ### What Machine/MemcExec.lean defines -/

theorem Canon.trainStage (h : Canon s) : Canon (s.trainStage) := .ite h (.foldl (.setFlds (.powers h)) fun _ _ h1 => .ite (.setFld h1) h1)

theorem Canon.memcCmd (h : Canon s) {req c off op may act} (ha : ∀ t, Canon t → Canon (act t)) : Canon (s.memcCmd req c off op may act) :=
  .ite (.setFld (ha _ (.trainStage h))) (.logRefused (.setFld (.trainStage h)))

@[simp] theorem Keeps.execMemcInit {req c} : Keeps s (execMemcInit req c s) :=
  .next fun h => .memcCmd h fun _ h => .setFlds (.setMem h (mwf_mkeep _ _ _ h.mem))

@[simp] theorem Keeps.execMemcReady {req c} : Keeps s (execMemcReady req c s) := .next fun h => .memcCmd h fun _ h1 => .setFld h1

@[simp] theorem Keeps.execMemcSrEnter {req c} : Keeps s (execMemcSrEnter req c s) := .next fun h => .memcCmd h fun _ h1 => .setFld h1

@[simp] theorem Keeps.execMemcSrExit {req c} : Keeps s (execMemcSrExit req c s) := .next fun h => .memcCmd h fun _ h1 => .setFld h1

theorem Canon.setErasure (h : Canon s) {c e} : Canon (s.setErasure c e) := .setFld (.other h)

@[simp] theorem Keeps.execMemcErase {req c sub comp} : Keeps s (execMemcErase req c sub comp s) :=
  .ite (.next fun h => h) (.next fun h => .memcCmd h fun _ h1 => .setErasure h1)

@[simp] theorem Keeps.execMemcUnerase {req c} : Keeps s (execMemcUnerase req c s) := .next fun h => .memcCmd h fun _ h1 => .setErasure h1

@[simp] theorem Keeps.execMemcFail {req c} : Keeps s (execMemcFail req c s) := .next fun h => .memcCmd h fun _ h1 => .report (.setFld h1)

@[simp] theorem Keeps.execMemcMrGo {req c value} : Keeps s (execMemcMrGo req c value s) :=
  .next fun h => .memcCmd h fun _ h1 => .setFld (.writePlain h1)

@[simp] theorem Keeps.execMemcMrDone {c data} : Keeps s (execMemcMrDone c data s) :=
  .ite (.next fun h => h) (.next fun h => .ite (.setFld h) (.setFld (.setFld h)))

@[simp] theorem Keeps.execPatrolScrub {c laddr faults} : Keeps s (execPatrolScrub c laddr faults s) :=
  .ite (.next fun h => h) (.ite (.next fun h => .other h) (.next fun h => .scrubLine h))

@[simp] theorem Keeps.execDramTempReport {c celsius} : Keeps s (execDramTempReport c celsius s) :=
  .ite (.next fun h => .setFld h) (.ite (.next fun h => .setFld h) (.next fun h => h))

@[simp] theorem Keeps.execMemcMapWrite {req value} : Keeps s (execMemcMapWrite req value s) :=
  .ite (.next fun h => .logRefused h) (.next fun h => .writePlain h)

@[simp] theorem Keeps.execMemcBar2BaseWrite {req value} : Keeps s (execMemcBar2BaseWrite req value s) :=
  .ite (.next fun h => .logRefused h) (.next fun h => .setFld h)

theorem Keeps.execBar2Access {off write len status} (hw : wfTlp off.toNat write len.val = true) : Keeps s (execBar2Access off write len status s) :=
  .ite_wf
    hw
    (.ite
      (.next fun h => h)
      (.ite
        (.next fun h => .hostCpl (.nocResult (.report (.eccSeen h))))
        (.ite
          (.next fun h => .nocResult (.unitWrite (.eccSeen h)))
          (by
            split
            exact .next fun h => .hostCpl (.nocResult (.of_snd ‹_› (.readDpa (.eccSeen h))))))))

/-! ### What Machine/CfgFrames.lean defines -/

theorem Canon.clearSlots (h : Canon s) {ks} : Canon (s.clearSlots ks) := .foldl (.other h) fun _ _ h1 => .setFlds h1

theorem Canon.unsealAll (h : Canon s) {s0} : Canon (s.unsealAll s0) := .foldl h fun _ _ h1 => .unsealIdle h1

theorem Canon.emptyFabric (h : Canon s) : Canon (s.emptyFabric) :=
  .updPmin (.unsealAll (.otherCfg (.foldl (.foldl (.clearSlots (.foldl h fun _ _ h1 => .setRgnState h1)) fun _ _ h1 => .setFld h1) fun _ _ h1 =>
    .foldl h1 fun _ _ h2 => .setFld h2)))

/-- A load may change in everything but what it names. -/
theorem Canon.mapLoad (h : Canon s) {f} (hf : ∀ l, loadInRange l → loadInRange (f l) := by exact fun _ h => h) : Canon (s.mapLoad f) :=
  .setLoad h (.map h.load hf)

theorem lt_of_mem_onesFrom {n i v k : Nat} (h : k ∈ onesFrom n i v) : k < i + n := by
  induction n generalizing i v with
  | zero => cases h
  | succ n ih =>
    unfold onesFrom at h
    split at h
    · obtain rfl | h := List.mem_cons.1 h
      · omega
      · have := ih h
        omega
    · have := ih h
      omega

theorem Canon.imageBegins (h : Canon s) {w} : Canon (s.imageBegins w) := by
  unfold State.imageBegins
  extract_lets _ s0 s1 gs s2 s3 _ s4
  have h1 : Canon s1 := .setReg (.setFld (.otherCfg h))
  clear_value s1
  have h3 : Canon s3 := .clearSlots (.foldl h1 fun _ _ h => .setRgnState h)
  clear_value s3
  have h4 : Canon s4 := .otherCfg h3
  clear_value s4
  refine .ite (.setFld (.updPmin (.mapLoad (.emptyFabric h1) ?_))) (.setFld (.updPmin (.mapLoad h4 ?_)))
  · exact fun _ h => h
  · exact fun _ h => ⟨fun _ hg => by simpa using lt_of_mem_onesFrom hg, h.2⟩

theorem Canon.waitFor (h : Canon s) {cs} : Canon (s.waitFor cs) := .otherCfg h

theorem Canon.withMap (h : Canon s) {b} : Canon (s.withMap b) := .foldl (.foldl h fun _ _ h1 => .setFld h1) fun _ _ h1 => .setFld h1

theorem lt_of_mem_mapNamed {b : List Byte} {g : Nat} (h : g ∈ mapNamed b) : g < 64 := by
  unfold mapNamed at h
  exact List.mem_range.1 (List.mem_of_mem_filter h)

theorem Canon.applyMap (h : Canon s) {w _tgt b} : Canon (s.applyMap w _tgt b) := by
  unfold State.applyMap
  extract_lets named s3 s4
  have h3 : Canon s3 := .clearSlots (.withMap h)
  clear_value s3
  have h4 : Canon s4 := by
    refine .foldl h3 fun t g h => ?_
    extract_lets u v
    have hu : Canon u := .setFld h
    clear_value u
    have hv : Canon v := .setRgnState hu
    clear_value v
    exact .ite (.otherCfg hv) (.ite (.setReg (.setFlds hu)) hu)
  clear_value s4
  refine .updPmin (.unsealAll (.mapLoad h4 ?_))
  refine fun l hl => ⟨fun g hg => ?_, hl.2⟩
  dsimp only at hg
  split at hg
  · exact lt_of_mem_mapNamed hg
  · exact hl.1 g (List.mem_of_mem_filter hg)

theorem Canon.applyDesc (h : Canon s) {_h g b} : Canon (s.applyDesc _h g b) := .unsealAll (.setReg (.setFlds h))

theorem Canon.refuseLive (h : Canon s) {p} : Canon (s.refuseLive p) := .report h

theorem Canon.cfgStoreWrite (h : Canon s) {k w v} : Canon (s.cfgStoreWrite k w v) :=
  .ite (.setStoreWord h) (.ite (.refuseLive h) (.setLoadedFlag (.setStoreWord h)))

theorem Canon.applyCellWords (h : Canon s) {_h tgt b} : Canon (s.applyCellWords _h tgt b) :=
  .ite (.leaveRclk (.foldl h fun _ _ h1 => .cfgStoreWrite h1)) (.foldl h fun _ _ h1 => .cfgStoreWrite h1)

theorem Canon.applyRoutes (h : Canon s) {_h tgt b} : Canon (s.applyRoutes _h tgt b) :=
  .foldl h fun _ _ h1 => .ite (.refuseLive h1) (.foldl h1 fun _ _ h2 => .setRouteThird h2)

theorem Canon.applyMcell (h : Canon s) {_h tgt b} : Canon (s.applyMcell _h tgt b) := .foldl h fun _ _ h1 => .setMword h1

theorem Canon.applyImem (h : Canon s) {_w tgt b} : Canon (s.applyImem _w tgt b) := by
  unfold State.applyImem
  extract_lets n a q pages s1 s2
  have h1 : Canon s1 := .setPsq h (.other (.getPsq h))
  have h2 : Canon s2 := .foldl h1 fun _ _ h => .setPage h
  refine .mapLoad h2 fun l ⟨hg, hc, hp⟩ => ⟨hg, hc, fun e he => ?_⟩
  obtain he | he := List.mem_append.1 he
  · exact hp e he
  · obtain ⟨k, hk, rfl⟩ := List.mem_map.1 (List.mem_of_mem_filter he)
    exact ⟨Nat.mod_lt _ (by decide), List.mem_range.1 (List.mem_of_mem_filter hk)⟩

theorem Canon.applyPsqConfig (h : Canon s) {_w n b} (hn : n < 16) : Canon (s.applyPsqConfig _w n b) := by
  refine .mapLoad (.setPsq h (.other (.getPsq h))) fun l ⟨hg, hc, hp⟩ => ⟨hg, fun c hm => ?_, hp⟩
  obtain hm | hm := List.mem_append.1 hm
  · exact hc c (List.mem_of_mem_filter hm)
  · rw [List.mem_singleton.1 hm]
    exact hn

theorem lt_of_checkPsqConfig {l w n b} (h : s.checkPsqConfig l w n b = none) : n < 16 := by
  unfold State.checkPsqConfig at h
  dsimp only at h
  split at h
  · cases h
  next hn => omega

theorem Canon.applySliceSite (h : Canon s) {_h _tgt b} : Canon (s.applySliceSite _h _tgt b) := .mapLoad h fun _ h1 => h1

theorem Canon.applyInit (h : Canon s) {_h k b} : Canon (s.applyInit _h k b) := by
  unfold State.applyInit
  dsimp only
  split
  · exact .setCell h
  · exact .setCell h
  · exact .setCell h
  · exact .setCell h
  · exact .setXsBuf (.setCell h)

theorem Canon.applyEnd (h : Canon s) {_h _tgt _b} : Canon (s.applyEnd _h _tgt _b) := .mapLoad h fun _ h1 => h1

theorem Canon.frame (h : Canon s) {typ check apply}
    (ha : ∀ t l w tgt b, Canon t → check s l w tgt b = none → Canon (apply t w tgt b)) : Canon (s.frame typ check apply) := by
  unfold State.frame
  split
  · exact h
  · split
    · exact h
    · refine .ite h (.ite (.loadFail h) ?_)
      split
      · exact h
      · refine .ite h (.ite (.loadFail h) ?_)
        split
        · exact .loadFail h
        next hc => exact .ite (.waitFor h) (ha _ _ _ _ _ (.mapLoad (.waitFor h)) hc)

/-! ### What Machine/CfgExec.lean defines -/

theorem Canon.cfgRefuse (h : Canon s) {req op code} : Canon (s.cfgRefuse req op code) :=
  .ite (.logRefused (.setFld (.cfgAnswers h))) (.report (.setFld (.cfgAnswers h)))

theorem Canon.startLoad (h : Canon s) {req src chain fallback base len} : Canon (s.startLoad req src chain fallback base len) := by
  unfold State.startLoad
  split
  · exact .cfgRefuse h
  · exact .ite (.cfgRefuse h) (.beginLoad (.cfgAnswers h))

@[simp] theorem Keeps.execCfgLoad {req src chain fallback} : Keeps s (execCfgLoad req src chain fallback s) := .next fun h => .startLoad h

theorem Canon.cfgAbort (h : Canon s) {req} : Canon (s.cfgAbort req) := .ite (.abortLoad (.cfgRecord h)) (.abortLoad h)

@[simp] theorem Keeps.execCfgAbort {req} : Keeps s (execCfgAbort req s) :=
  .ite (.next fun h => .logRefused (.setFld (.cfgAnswers h))) (.next fun h => .cfgAbort h)

theorem ThdCanon.srcRead (h : Canon s) {src base n status bs} : ThdCanon (s.srcRead src base n status bs) :=
  .ite (.ite (.mk (.accLog (.eccSeen h))) (.mk (.tookFree (.eccSeen h)))) (.ite (.mk h) (.ite (.mk h) (.mk h)))

theorem Canon.endChain (h : Canon s) {early} : Canon (s.endChain early) := by
  unfold State.endChain
  split
  · exact h
  · exact .otherCfg (.setFlds h)

theorem Canon.sendChain {n bs} (h : Canon s) : Canon (s.sendChain n bs) := by
  induction n generalizing s bs with
  | zero => exact h
  | succ n ih => exact .ite h (ih (.sendPkt h))

theorem Canon.forward (h : Canon s) {bs} : Canon (s.forward bs) := .ite (.sendChain h) h

theorem Canon.chainIntake (h : Canon s) {bs} : Canon (s.chainIntake bs) := by
  unfold State.chainIntake
  split
  · exact h
  · extract_lets now s1 own got
    have h1 : Canon s1 := .ite (.forward h) h
    have ho : LoadOk own := .map h1.load fun _ h => by split <;> exact h
    clear_value own s1
    have hg : Canon got := by
      unfold got
      split
      · exact .ite (.setFld h1) h1
      · exact h1
    clear_value got
    exact .setCfg hg ho

theorem Canon.loadHeader (h : Canon s) {l b} : Canon (s.loadHeader l b) := by
  unfold State.loadHeader
  refine .ite (.loadFail h) ?_
  extract_lets w s1
  have h1 : Canon s1 := .setFld h
  clear_value s1
  split
  · exact .loadFail h1
  · exact .ite (.waitFor h) (.imageBegins (.mapLoad h1))

theorem Canon.skipImage (h : Canon s) {c code} : Canon (s.skipImage c code) := .ite (.setFld (.cfgRecord h)) (.setFld (.setFld (.cfgRecord h)))

theorem Canon.advanceChain (h : Canon s) {c b fwd taken} : Canon (s.advanceChain c b fwd taken) := .ite (.chainIntake (.otherCfg h)) (.otherCfg h)

theorem ThdCanon.chainBody (h : Canon s) {c n status bs b} : ThdCanon (s.chainBody c n status bs b) := .ite (.mk h) (.srcRead h)

theorem Canon.chainHeader (h : Canon s) {c status bs} : Canon (s.chainHeader c status bs) := by
  unfold State.chainHeader
  refine .ite (.endChain (.cfgRecord h)) ?_
  split
  next s0 e0 =>
    have h0 : Canon s0 := .of_thd e0 (.srcRead h)
    refine .ite (.endChain (.cfgRecord h0)) (.ite h ?_)
    extract_lets +onlyGivenNames total
    refine .ite (.endChain (.cfgRecord h0)) ?_
    extract_lets +onlyGivenNames pos own fwd short
    refine .ite (.waitFor h) (.ite h ?_)
    split
    next stb body sb eb =>
      have hb : Canon sb := .of_thd eb (.ite (.chainBody h0) (.mk h0))
      extract_lets s1 s2 l
      have h1 : Canon s1 := .ite hb (.ite (.forward (.addSat hb)) (.report hb))
      have h2 : Canon s2 := .setFld (.advanceChain h1)
      refine .ite (.endChain (.cfgRecord hb)) (.ite (.endChain (.cfgRecord h1)) (.ite h2 ?_))
      exact .ite (.skipImage h2) (.ite (.skipImage h2) (.loadHeader (.setLoad h2 (.fresh rfl rfl rfl))))

@[simp] theorem Keeps.execCfgHeader {bytes status} : Keeps s (execCfgHeader bytes status s) := by
  unfold Machine.execCfgHeader
  split
  · exact .ite
      (.ite
        (.next fun h => h)
        (by
          split
          exact .next fun h => .ite (.loadFail (.of_thd ‹_› (.srcRead h))) (.loadHeader (.of_thd ‹_› (.srcRead h)))))
      (by split; exacts [.ite (.next fun h => h) (.next fun h => .chainHeader h), .next fun h => h])
  · exact .ite (.next fun h => h) (.next fun h => .chainHeader h)
  · exact .next fun h => h

theorem Canon.of_imagePart {l ofs n status bs a b t} (e : s.imagePart l ofs n status bs = some (a, b, t)) (h : Canon s) : Canon t := by
  unfold State.imagePart at e
  split at e
  · split at e <;> cases e
    exact h
  · split at e
    · split at e <;> cases e
      exact h
    · exact .of_thd (Option.some.inj e) (.srcRead h)

theorem Keeps.execChunkAuthenticate {cipher tag status} (hw : wfChunk cipher tag = true) : Keeps s (execChunkAuthenticate cipher tag status s) := by
  refine .ite_wf hw ?_
  split
  · split
    · refine .ite (.next fun h => h) ?_
      split
      · exact .next fun h => h
      next st bs s0 e =>
        have h0 (h : Canon s) : Canon s0 := .of_imagePart e h
        exact .ite (.next fun h => .loadFail h) (.ite (.next fun h => .loadFail (h0 h)) (.ite (.next fun h => .loadFail (h0 h)) (.next fun h => .setFlds
          (.mapLoad (h0 h)))))
    · exact .next fun h => h
  · exact .next fun h => h

@[simp] theorem Keeps.execRegionMap : Keeps s (execRegionMap s) := .next fun h => .frame h fun _ _ _ _ _ h _ => .applyMap h

@[simp] theorem Keeps.execRegionDesc : Keeps s (execRegionDesc s) := .next fun h => .frame h fun _ _ _ _ _ h _ => .applyDesc h

@[simp] theorem Keeps.execCellWords : Keeps s (execCellWords s) := .next fun h => .frame h fun _ _ _ _ _ h _ => .applyCellWords h

@[simp] theorem Keeps.execRouteWords : Keeps s (execRouteWords s) := .next fun h => .frame h fun _ _ _ _ _ h _ => .applyRoutes h

@[simp] theorem Keeps.execMcellInit : Keeps s (execMcellInit s) := .next fun h => .frame h fun _ _ _ _ _ h _ => .applyMcell h

@[simp] theorem Keeps.execPsqImem : Keeps s (execPsqImem s) := .next fun h => .frame h fun _ _ _ _ _ h _ => .applyImem h

@[simp] theorem Keeps.execPsqConfig : Keeps s (execPsqConfig s) := .next fun h => .frame h fun _ _ _ _ _ h hc => .applyPsqConfig h (lt_of_checkPsqConfig hc)

@[simp] theorem Keeps.execSliceSite : Keeps s (execSliceSite s) := .next fun h => .frame h fun _ _ _ _ _ h _ => .applySliceSite h

@[simp] theorem Keeps.execInitState : Keeps s (execInitState s) := .next fun h => .frame h fun _ _ _ _ _ h _ => .applyInit h

@[simp] theorem Keeps.execFrameEnd : Keeps s (execFrameEnd s) := .next fun h => .frame h fun _ _ _ _ _ h _ => .applyEnd h

theorem Canon.commitLoad (h : Canon s) {l w digest} : Canon (s.commitLoad l w digest) := by
  unfold State.commitLoad
  extract_lets s0 s1 s2 s3 s4 s5 gs _ s6 s7 s8
  have h0 : Canon s0 := .foldl h fun _ _ h => .wantStandIn (.leaveRclk h)
  have h1 : Canon s1 := .foldl h0 fun _ _ h => .setFlds h
  have h2 : Canon s2 := by
    unfold s2
    split
    · exact .foldl h1 fun _ _ h => .setReg h
    · exact h1
  have h3 : Canon s3 := .foldl h2 fun _ _ h => .setReg (.setReg (.foldl h fun _ _ h => .setReg h))
  have h4 : Canon s4 := .foldl h3 fun _ _ h => .foldl h fun _ _ h => .setPage h
  have h5 : Canon s5 := .ite (.foldl h4 fun _ _ h => .setReg h) h4
  clear_value s5
  have h6 : Canon s6 := .setCfg h5 .none
  have h8 : Canon s8 := .setFld (.attest (.ownStatus (.setFlds (.updPmin h6))))
  exact .ite (.report h8) h8

theorem Canon.commitDue (h : Canon s) : Canon (s.commitDue) := by
  unfold State.commitDue
  split
  · split; exacts [.commitLoad h,
      h]
  · exact h

theorem Keeps.execSignatureCheck {bytes status} (hw : wfSignature bytes = true) : Keeps s (execSignatureCheck bytes status s) := by
  refine .ite_wf hw ?_
  split
  · split
    · refine .ite (.next fun h => h) (.ite (.next fun h => .loadFail h) ?_)
      split
      · exact .next fun h => h
      next st sig s0 e =>
        extract_lets s1
        have h0 (h : Canon s) : Canon s0 := .of_imagePart e h
        have h1 (h : Canon s) : Canon s1 := .setFld (.mapLoad (h0 h))
        exact .ite (.next fun h => .loadFail (h0 h)) (.ite (.next fun h => .loadFail (h0 h)) (.next fun h => .ite (h1 h) (.commitDue (h1 h))))
    · exact .next fun h => h
  · exact .next fun h => h

theorem Canon.loadStalls (h : Canon s) {l} : Canon (s.loadStalls l) := .ite (.endChain (.tookFree (.loadFail h))) (.tookFree (.loadFail h))

theorem Canon.chainStalls (h : Canon s) {c} : Canon (s.chainStalls c) := .endChain (.cfgRecord h)

@[simp] theorem Keeps.execFckEdge : Keeps s (execFckEdge s) := .ite (.next fun h => .commitDue (.fckEdge (.siteAnswers h))) (.next fun h => h)

@[simp] theorem Keeps.execCfgStallTimeout : Keeps s (execCfgStallTimeout s) := by
  unfold Machine.execCfgStallTimeout
  dsimp only
  split
  · exact .ite (.next fun h => .loadStalls (.tookFree h)) (.next fun h => .chainStalls (.tookFree h))
  · exact .next fun h => .loadStalls h
  · exact .ite (.next fun h => h) (.next fun h => .chainStalls h)
  · exact .ite (.next fun h => .otherCfg h) (.next fun h => h)

@[simp] theorem Keeps.execEndOfChain {bytes status} : Keeps s (execEndOfChain bytes status s) := by
  unfold Machine.execEndOfChain
  split
  · exact .next fun h => h
  · refine .ite (.next fun h => h) (.ite (.next fun h => h) ?_)
    split
    next s0 e =>
      have h0 (h : Canon s) : Canon s0 := .of_thd e (.srcRead h)
      exact .ite (.next fun h => .endChain (.cfgRecord (h0 h))) (.ite (.next fun h => h) (.ite (.next fun h => .otherCfg (.beginLoad (.endChain (.forward
        (h0 h))))) (.next fun h => .endChain (.forward (h0 h)))))

@[simp] theorem Keeps.execCfgChainWrite {req value} : Keeps s (execCfgChainWrite req value s) :=
  .ite (.next fun h => .logRefused h) (.next fun h => .writePlain h)

@[simp] theorem Keeps.execPortLoad {chain len} : Keeps s (execPortLoad chain len s) :=
  .ite
    (.next fun h => h)
    (by
      dsimp only
      split; exacts [.next fun h => .cfgRefuse (.otherCfg h), .next fun h => .beginLoad (.cfgAnswers (.otherCfg h))])

theorem Canon.rbAbort (h : Canon s) {req} : Canon (s.rbAbort req) := .ite (.abortSlices h) h

theorem SndCanon.portWords {n} (h : Canon s) : SndCanon (s.portWords n) := by
  induction n generalizing s with
  | zero => exact h
  | succ n ih => exact ih (.rbDataRead (.rbAbort h))

@[simp] theorem Keeps.execReadback {addr count} : Keeps s (execReadback addr count s) :=
  .ite (.next fun h => h) (.ite (.next fun h => .logRefused (.otherCfg h)) (.ite (.next fun h => .otherCfg h) (.next fun h => .otherCfg (.setReg (.snd
    (.portWords (.writePlain h)))))))

@[simp] theorem Keeps.execPortStatus : Keeps s (execPortStatus s) := .ite (.next fun h => h) (.next fun h => .otherCfg h)

@[simp] theorem Keeps.execPortAbort : Keeps s (execPortAbort s) :=
  .ite (.next fun h => h) (.ite (.next fun h => .cfgRefuse (.otherCfg h)) (.next fun h => .cfgAbort (.otherCfg h)))

@[simp] theorem Keeps.execCfgCsNRaise : Keeps s (execCfgCsNRaise s) := .next fun h => .otherCfg h

/-! ### What Machine/CscExec.lean defines -/

theorem Canon.badCtl (h : Canon s) {p body} : Canon (s.badCtl p body) := .ite (.addSat h) h

theorem Canon.onCtl (h : Canon s) {p t body f} (hf : ∀ v, Canon (f v)) : Canon (s.onCtl p t body f) := by
  unfold State.onCtl
  split
  · exact hf _
  · exact .badCtl h

@[simp] theorem Keeps.execCascadeLinkUp {p} : Keeps s (execCascadeLinkUp p s) := .ite (.next fun h => h) (.next fun h => .setCport (.setFld h))

@[simp] theorem Keeps.execCascadeLinkDown {p} : Keeps s (execCascadeLinkDown p s) := .next fun h => .portDown h

@[simp] theorem Keeps.execAlign {p body} : Keeps s (execAlign p body s) := .next fun h => .onCtl h fun _ => .setCport h

@[simp] theorem Keeps.execSync {p body ta} : Keeps s (execSync p body ta s) := .next fun h => .onCtl h fun _ => .ite (.sendNow h) h

theorem Canon.sendTickset (h : Canon s) {p n d} : Canon (s.sendTickset p n d) := .sendPkt (.setFld h)

@[simp] theorem Keeps.execEcho {p body n elapsed} : Keeps s (execEcho p body n elapsed s) :=
  .next fun h => .onCtl h fun _ => .ite h (.ite (.ite (.setCport h) (.ite (.calNext (.sendTickset (.setCport h))) (.sendTickset (.setCport h)))) (.ite
    (.sendTickset h) h))

theorem Canon.answerAbsent (h : Canon s) {k} : Canon (s.answerAbsent k) := .ite (.sendTo h) (.ite (.sendTo h) h)

theorem Canon.routePkt (h : Canon s) {p k} : Canon (s.routePkt p k) :=
  .ite
    (.addSat h)
    (.ite
      (.other h)
      (.ite (.foldl (.other h) fun _ _ h1 => .sendPkt h1) (.ite (.other h) (by split; exacts [.sendPkt h, .answerAbsent h]))))

theorem Keeps.execPkt {p seq bytes} (hw : wfPacket bytes = true) : Keeps s (execPkt p seq bytes s) :=
  .ite_wf
    hw
    (.ite
      (.next fun h => h)
      (by
        dsimp only
        split; exacts [.ite
            (.next fun h => .routePkt (.sendNow (.setCport h)))
            (.ite (.next fun h => .sendNow (.addSat h)) (.next fun h => .ite (.addSat h) (.sendNow (.setCport (.addSat h))))),
          .next fun h => .ite (.addSat h) (.sendNow (.setCport (.addSat h)))]))

theorem Canon.ackTo (h : Canon s) {p v} : Canon (s.ackTo p v) := by
  unfold State.ackTo
  dsimp only
  split
  · exact h
  · exact .foldl (.setCport h) fun _ _ h1 => .sendNow h1

@[simp] theorem Keeps.execAck {p body} : Keeps s (execAck p body s) := .next fun h => .onCtl h fun _ => .ackTo h

@[simp] theorem Keeps.execNak {p body} : Keeps s (execNak p body s) :=
  .next
    fun h =>
      .onCtl
        h
        fun _ =>
          (by
            dsimp only
            split; exacts [.ackTo h,
              .ite (.portDown (.addSat (.ackTo h))) (.foldl (.addSat (.setCport (.ackTo h))) fun _ _ h1 => .sendNow h1)])

@[simp] theorem Keeps.execPacketAckTimeout {p} : Keeps s (execPacketAckTimeout p s) := .ite (.next fun h => h) (.next fun h => .portDown h)

@[simp] theorem Keeps.execHoldBlock {p body} : Keeps s (execHoldBlock p body s) :=
  .next fun h => .onCtl h fun _ => .ite h (.sendAt (.tookFree (.other h)))

@[simp] theorem Keeps.execDown {p body} : Keeps s (execDown p body s) :=
  .next fun h => .onCtl h fun _ => .ite h (.ite (.loseNeighbour h) (.ite (.enterDiscover (.ite (.forgetPort h) (.loseMembers h))) (.ite (.ite
    (.forgetPort h) (.loseMembers h)) (.foldl (.other (.ite (.forgetPort h) (.loseMembers h))) fun _ _ h1 => .sendNow h1))))

theorem Canon.measure (h : Canon s) {p base phase} : Canon (s.measure p base phase) := by
  unfold State.measure
  extract_lets _ _ s1 _ _ s2 s3
  have hs1 : Canon s1 := .setCport h
  have hs2 : Canon s2 := .setCport hs1
  have hs3 : Canon s3 := .ite hs2 (.setFlds hs2)
  exact .ite h (.ite hs1 (.ite (.fixFlights hs3) (.ite (.sendReport hs3) hs3)))

theorem Canon.voteLost (h : Canon s) {k} : Canon (s.voteLost k) :=
  .ite h (.ite (.loseNeighbour (.raiseCscHold (.report (.setCport h)))) (.raiseCscHold (.report (.setCport h))))

@[simp] theorem Keeps.execVoteFieldReceived {p field phase} : Keeps s (execVoteFieldReceived p field phase s) := by
  unfold Machine.execVoteFieldReceived
  dsimp only
  split
  · exact .next fun h => .ite h (.addSat h)
  · exact .ite (.next fun h => .ite h (.addSat h)) (.ite (.next fun h => .voteLost (.ite h (.addSat h))) (.ite (.next fun h => .ite (.measure (.setCport
      (.ite h (.addSat h)))) (.setCport (.ite h (.addSat h)))) (.next fun h => .ite (.other (.ite (.ite h (.addSat h)) (.sendAt (.ite h (.addSat
      h))))) (.ite (.measure (.ite (.ite h (.addSat h)) (.sendAt (.ite h (.addSat h))))) (.ite (.ite h (.addSat h)) (.sendAt (.ite h (.addSat
      h))))))))

@[simp] theorem Keeps.execVoteFieldLost {p} : Keeps s (execVoteFieldLost p s) := .next fun h => .voteLost h

@[simp] theorem Keeps.execHoldEffective : Keeps s (execHoldEffective s) :=
  .next fun h => .other (.foldl h fun _ _ h1 => .setReg (.setFlds (.holdSites h1)))

theorem Canon.of_takePkt {op p k t} (e : s.takePkt op = some (p, k, t)) (h : Canon s) : Canon t := by
  unfold State.takePkt at e
  split at e
  · split at e <;> cases e
    exact .other h
  · cases e

@[simp] theorem Keeps.execMemRd {status} : Keeps s (execMemRd status s) := by
  unfold Machine.execMemRd
  split
  · exact .next fun h => h
  · exact .ite
      (.next fun h => .sendTo (.accLog (.ite (.eccSeen (.of_takePkt ‹_› h)) (.of_takePkt ‹_› h))))
      (by
        split
        exact .next fun h => .sendTo (.of_snd ‹_› (.readDpa (.ite (.eccSeen (.of_takePkt ‹_› h)) (.of_takePkt ‹_› h)))))

@[simp] theorem Keeps.execMemWr {status} : Keeps s (execMemWr status s) := by
  unfold Machine.execMemWr
  split
  · exact .next fun h => h
  · exact .next fun h => .sendTo (.ite (.unitWrite (.ite (.eccSeen (.of_takePkt ‹_› h)) (.of_takePkt ‹_› h))) (.accLog (.ite (.eccSeen (.of_takePkt ‹_›
      h)) (.of_takePkt ‹_› h))))

@[simp] theorem Keeps.execMemCpl : Keeps s (execMemCpl s) := by
  unfold Machine.execMemCpl
  split
  · exact .next fun h => h
  · exact .next fun h => .endCascade (.of_takePkt ‹_› h)

@[simp] theorem Keeps.execChain : Keeps s (execChain s) := by
  unfold Machine.execChain
  split
  · exact .next fun h => h
  · exact .ite
      (.next fun h => .of_takePkt ‹_› h)
      (by split; exacts [.ite (.next fun h => .chainIntake (.of_takePkt ‹_› h)) (.next fun h => h),
          .ite
            (.next fun h => .chainIntake (.otherCfg (.setFlds (.of_takePkt ‹_› h))))
            (.next fun h => .chainIntake (.beginLoad (.cfgAnswers (.of_takePkt ‹_› h))))])

theorem Canon.sendAssign (h : Canon s) {p} : Canon (s.sendAssign p) := by
  unfold State.sendAssign
  split
  · exact .ite (.sendPkt h) h
  · exact h

@[simp] theorem Keeps.execHello : Keeps s (execHello s) := by
  unfold Machine.execHello
  split
  · exact .next fun h => h
  next s0 e =>
    extract_lets c joined s1 s2 heard rival st _ adopt s3 offers
    have h2 (h : Canon s) : Canon s2 := .ite (.setCport (.of_takePkt e h)) (.setFld (.setCport (.of_takePkt e h)))
    have h3 (h : Canon s) : Canon s3 := .ite (.other (h2 h)) (h2 h)
    exact .ite (.next h2) (.ite (.next fun h => .report (.other (h2 h))) (.ite (.next fun h => .ite (.sendAssign (h3 h)) (h3 h)) (.ite (.next fun h =>
      .ite (.sendAssign (h2 h)) (h2 h)) (.next h2))))

@[simp] theorem Keeps.execPoleElected : Keeps s (execPoleElected s) :=
  .ite (.next fun h => h) (.next fun h => .foldl (.other (.setFlds h)) fun _ _ h1 => .sendAssign h1)

@[simp] theorem Keeps.execAssign : Keeps s (execAssign s) := by
  unfold Machine.execAssign
  split
  · exact .next fun h => h
  next s1 e =>
    have h1 (h : Canon s) : Canon s1 := .of_takePkt e h
    refine .ite (.ite (.next h1) (.ite (.next fun h => .setFld (.other (h1 h))) ?_))
      (.ite (.next h1) (.ite (.next h1) (.ite (.next fun h => .setFld (.other (h1 h))) ?_)))
    · exact .next fun h => .foldl (.setFlds (.other (.measureAnew (h1 h)))) fun _ _ h => .sendPkt h
    · extract_lets _ s2 s3
      have h3 (h : Canon s) : Canon s3 := .sendReport (.setFlds (.other (h1 h)))
      refine .next fun h => ?_
      split
      · exact .sendAssign (h3 h)
      · exact h3 h

theorem Canon.assignPositions (h : Canon s) : Canon (s.assignPositions) :=
  .foldl (.other h) fun _ _ h1 => (by split; exacts [.ite (.setFld (.setFlds (.sendPkt h1))) (.setFlds (.sendPkt h1)), h1])

theorem Canon.newEpoch (h : Canon s) {id} : Canon (s.newEpoch id) := .foldl (.measureAnew (.other h)) fun _ _ h1 => .sendPkt h1

theorem Canon.calibrateNew (h : Canon s) {p} : Canon (s.calibrateNew p) := .ite (.other h) (.startCal h)

theorem Canon.takeIn (h : Canon s) {m} : Canon (s.takeIn m) :=
  .ite (.calibrateNew (.assignPositions (.other (.setFld (.newEpoch h))))) (.assignPositions (.other (.setFld (.newEpoch h))))

theorem Canon.joinBelow (h : Canon s) {p} : Canon (s.joinBelow p) :=
  .ite (.setFld (.setCport h)) (.ite (.startCal (.ite (.setFld (.setCport h)) (.setFlds (.setFld (.setCport h))))) (.ite (.setFld (.setCport h))
    (.setFlds (.setFld (.setCport h)))))

theorem Canon.memberReports (h : Canon s) {m arg} : Canon (s.memberReports m arg) :=
  .fixFlights (.ite (.loseMembers (by split; exacts [.setFld (.other h), .other h])) (by split; exacts [.setFld (.other h), .other h]))

@[simp] theorem Keeps.execReport : Keeps s (execReport s) := by
  unfold Machine.execReport
  split
  · exact .next fun h => h
  · exact .ite
      (.ite
        (.next fun h => .of_takePkt ‹_› h)
        (by
          dsimp only
          split; exacts [.next fun h => .sendPkt (.ite (.joinBelow (.of_takePkt ‹_› h)) (.of_takePkt ‹_› h)),
            .next fun h => .ite (.joinBelow (.of_takePkt ‹_› h)) (.of_takePkt ‹_› h)]))
      (by split; exacts [.next fun h => .memberReports (.ite (.joinBelow (.of_takePkt ‹_› h)) (.of_takePkt ‹_› h)),
          .ite
            (.next fun h => .of_takePkt ‹_› h)
            (.next
              fun h =>
                .ite
                  (.other (.ite (.joinBelow (.of_takePkt ‹_› h)) (.of_takePkt ‹_› h)))
                  (.takeIn (.other (.ite (.joinBelow (.of_takePkt ‹_› h)) (.of_takePkt ‹_› h)))))])

@[simp] theorem Keeps.execPosition : Keeps s (execPosition s) := by
  unfold Machine.execPosition
  split
  · exact .next fun h => h
  · exact .ite (.next fun h => .foldl (.other (.of_takePkt ‹_› h)) fun _ _ h1 => .ite (.setFld (.sendPkt h1)) (.sendPkt h1)) (.next fun h => .ite
      (.report (.setFlds (.of_takePkt ‹_› h))) (.setFlds (.of_takePkt ‹_› h)))

@[simp] theorem Keeps.execTickset {elapsed err} : Keeps s (execTickset elapsed err s) := by
  unfold Machine.execTickset
  split
  · exact .next fun h => h
  · exact .ite (.next fun h => .of_takePkt ‹_› h) (.ite (.next fun h => .ite (.raiseCscHold (.report (.ite (.addSat (.setFld (.of_takePkt ‹_› h)))
      (.setFld (.of_takePkt ‹_› h))))) (.ite (.addSat (.setFld (.of_takePkt ‹_› h))) (.setFld (.of_takePkt ‹_› h)))) (.ite (.next fun h => .foldl
      (.sendReport (.setFld (.other (.of_takePkt ‹_› h)))) fun _ _ h1 => .startCal h1) (.next fun h => .of_takePkt ‹_› h)))

@[simp] theorem Keeps.execFlight : Keeps s (execFlight s) := by
  unfold Machine.execFlight
  split
  · exact .next fun h => h
  · exact .ite (.next fun h => .report (.setFld (.of_takePkt ‹_› h))) (.next fun h => .setFlds (.other (.of_takePkt ‹_› h)))

@[simp] theorem Keeps.execVgrp : Keeps s (execVgrp s) := by
  unfold Machine.execVgrp
  split
  · exact .next fun h => h
  · exact .next fun h => .foldl (.of_takePkt ‹_› h) fun _ _ h1 => .setReg (.setFlds h1)

@[simp] theorem Keeps.execFckset : Keeps s (execFckset s) := by
  unfold Machine.execFckset
  split
  · exact .next fun h => h
  · exact .ite (.next fun h => .of_takePkt ‹_› h) (.next fun h => .setFld (.other (.safeNow (.calFailAll (.of_takePkt ‹_› h)))))

@[simp] theorem Keeps.execFckStopTickReached : Keeps s (execFckStopTickReached s) := by
  unfold Machine.execFckStopTickReached
  split
  · exact .next fun h => h
  · exact .ite (.next fun h => h) (.ite (.next fun h => .setFld (.other h)) (.next fun h => .other (.calFailAll h)))

@[simp] theorem Keeps.execHelloTimer : Keeps s (execHelloTimer s) := .ite (.next fun h => h) (.next fun h => .foldl h fun _ _ h1 => .sendPkt h1)

theorem Canon.endJoining (h : Canon s) : Canon (s.endJoining) :=
  .ite (.report (.setFlds (.other h))) (.ite (.report (.setFlds (.other h))) (.foldl h fun _ _ h1 => .ite (.setFld h1) h1))

@[simp] theorem Keeps.execFormTimeout : Keeps s (execFormTimeout s) :=
  .ite (.next fun h => .enterAlone h) (.ite (.next fun h => .calibrateAll (.assignPositions (.foldl h fun _ _ h1 => .ite (.setFld h1) h1))) (.ite
    (.next fun h => .fixFlights (.ite (.loseMembers h) h)) (.ite (.next fun h => .endJoining h) (.ite (.next fun h => .report (.setFld h)) (.next
    fun h => h)))))

@[simp] theorem Keeps.execAlignTracking {p} : Keeps s (execAlignTracking p s) :=
  .ite (.next fun h => h) (.next fun h => .tookFree (.sendNow (.setCport h)))

theorem Canon.refuseCsc (h : Canon s) {req op} : Canon (s.refuseCsc req op) := .logRefused (.setFld h)

@[simp] theorem Keeps.execForm {req} : Keeps s (execForm req s) :=
  .ite (.next fun h => .refuseCsc h) (.next fun h => .ite (.enterAlone (.setFld (.other h))) (.enterDiscover (.setFld (.other h))))

@[simp] theorem Keeps.execLeave {req} : Keeps s (execLeave req s) :=
  .ite (.next fun h => .refuseCsc h) (.next fun h => .setFld (.enterAlone (.foldl h fun _ _ h1 => .sendNow h1)))

@[simp] theorem Keeps.execRecal {req} : Keeps s (execRecal req s) :=
  .ite (.next fun h => .refuseCsc h) (.ite (.next fun h => .setFld (.calibrateAll (.newEpoch h))) (.next fun h => .other (.calibrateAll (.newEpoch
    h))))

@[simp] theorem Keeps.execCscVgrpWrite {req g start value} : Keeps s (execCscVgrpWrite req g start value s) :=
  .ite (.next fun h => .logRefused h) (.ite (.next fun h => h) (.next fun h => .ite (.sendVgrp (.writePlain h)) (.writePlain h)))

/-! ### What Machine/BistExec.lean defines -/

@[simp] theorem Keeps.execBistSliceStart {cl j differs} : Keeps s (execBistSliceStart cl j differs s) :=
  .ite (.next fun h => h) (.ite (.next fun h => .passCheck (.other (.ite (.other h) (.setFld (.addSat (.other h)))))) (.next fun h => .other (.ite
    (.other h) (.setFld (.addSat (.other h))))))

theorem Canon.sparesTested (h : Canon s) {m ks ok} : Canon (s.sparesTested m ks ok) := .other h

theorem Canon.markSpare (h : Canon s) {m k} : Canon (s.markSpare m k) := .setFld h

theorem Canon.repairRow (h : Canon s) {m r} : Canon (s.repairRow m r) := by
  unfold State.repairRow
  dsimp only
  split
  · exact .reportPart (.setFld h)
  · exact .setFld
      (.setFld (by split; exacts [.markSpare (.setFld (.foldl h fun _ _ h1 => .setMword h1)), .foldl h fun _ _ h1 => .setMword h1]))

theorem Canon.markCell (h : Canon s) {m i} : Canon (s.markCell m i) := .setFld h

theorem Canon.judged (h : Canon s) {id unit verdict code e} : Canon (s.judged id unit verdict code e) :=
  .ite h (.ite (.reportPart (.recordPart h)) (.reportPart (.addSat (.recordPart h))))

theorem Canon.logicVerdict (h : Canon s) {x e} : Canon (s.logicVerdict x e) := by
  unfold State.logicVerdict
  dsimp only
  split
  · exact h
  · exact .ite (.judged h) (.ite (.setFld (.judged h)) (.markCell (.judged h)))

theorem Canon.chunkVerdict (h : Canon s) {x e rows spares} : Canon (s.chunkVerdict x e rows spares) := by
  unfold State.chunkVerdict
  split
  · exact h
  · exact .ite (.foldl (.sparesTested (.judged h)) fun _ _ h1 => .markSpare h1) (.ite (.foldl (.sparesTested (.judged h)) fun _ _ h1 => .repairRow h1)
      (.sparesTested (.judged h)))

theorem Canon.serveHeld (h : Canon s) {i} : Canon (s.serveHeld i) := by
  unfold State.serveHeld
  split
  · exact .armCmd h
  · exact .mrepWrite h
  · exact h

theorem Canon.serveAll (h : Canon s) : Canon (s.serveAll) := .foldl (.other h) fun _ _ h1 => .ite (.other h1) (.serveHeld h1)

theorem Canon.endSlice (h : Canon s) {x failed differs} : Canon (s.endSlice x failed differs) :=
  .ite (.putSlice h) (.passCheck (.sliceDone (.putSlice h)))

@[simp] theorem Keeps.execBistSliceEnd {cl logic chunk rows spares differs} : Keeps s (execBistSliceEnd cl logic chunk rows spares differs s) := by
  unfold Machine.execBistSliceEnd
  split
  · exact .ite (.next fun h => h) (.ite (.next fun h => .putSlice (.ite (.ite h (.logicVerdict h)) (.chunkVerdict (.ite h (.logicVerdict h))))) (.next
      fun h => .serveAll (.endSlice (.ite (.ite h (.logicVerdict h)) (.chunkVerdict (.ite h (.logicVerdict h)))))))
  · exact .next fun h => h

@[simp] theorem Keeps.execBistSliceAbort {cl how sig} : Keeps s (execBistSliceAbort cl how sig s) := by
  unfold Machine.execBistSliceAbort
  split
  · exact .ite (.next fun h => .serveAll (.abortSlice h)) (.next fun h => h)
  · exact .next fun h => h

@[simp] theorem Keeps.execFabRbDataRead {req} : Keeps s (execFabRbDataRead req s) := .next fun h => .rbDataRead (.rbAbort h)

@[simp] theorem Keeps.execNightfall {req} : Keeps s (execNightfall req s) :=
  .ite (.next fun h => .logRefused (.setFld h)) (.next fun h => .serveAll (.setFlds (.other (.emptyFabric (.abortSlices (.abortLoad h))))))

theorem Canon.groupVerdict (h : Canon s) {i g} : Canon (s.groupVerdict i g) := .judged h

theorem Canon.writeSector (h : Canon s) {a bs} : Canon (s.writeSector a bs) := .other h

theorem Canon.writeFlashLedger (h : Canon s) {bs} : Canon (s.writeFlashLedger bs) := .writeSector h

@[simp] theorem Keeps.execNightfallComplete {tck xcl psl key ended} : Keeps s (execNightfallComplete tck xcl psl key ended s) :=
  .ite (.next fun h => h) (.next fun h => .setFlds (.foldl (.writeFlashLedger (.foldl h fun _ _ h1 => .groupVerdict h1)) fun _ _ h1 => .setReg h1))

theorem Canon.setFuse (h : Canon s) {i f} : Canon (s.setFuse i f) := .other h

theorem Canon.setRec (h : Canon s) {i st rec f} : Canon (s.setRec i st rec f) := .setFlds (.setFuse h)

theorem Canon.refuseFuse (h : Canon s) {req op code} : Canon (s.refuseFuse req op code) := .ite (.logRefused (.setFld h)) (.report (.setFld h))

theorem Canon.fuseCommand (h : Canon s) {req op target} : Canon (s.fuseCommand req op target) :=
  .ite (.refuseFuse h) (.ite (.refuseFuse h) (by split; exacts [.refuseFuse h, .setFld (.other h)]))

@[simp] theorem Keeps.execBlow {req} : Keeps s (execBlow req s) := .next fun h => .fuseCommand h

@[simp] theorem Keeps.execVoid {req index} : Keeps s (execVoid req index s) := .next fun h => .fuseCommand h

@[simp] theorem Keeps.execFuseBlowDone {ok} : Keeps s (execFuseBlowDone ok s) := by
  unfold Machine.execFuseBlowDone
  split
  · exact .next fun h => h
  · exact .ite (.next fun h => .setFld (.setRec (.addSat (.setFld (.other h))))) (.next fun h => .tookFree (.report (.setFld (.setRec (.addSat (.setFld
      (.other h)))))))

/-! ### What Machine/BootExec.lean defines -/

theorem Canon.setRowBit (h : Canon s) {r b} : Canon (s.setRowBit r b) := .setReg h

theorem Canon.senseFuses (h : Canon s) {f} : Canon (s.senseFuses f) :=
  .foldl
    (.foldl
      (.foldl
        (.foldl (.foldl (.other h) fun _ _ h1 => .setFld h1) fun _ _ h1 => (by split; exacts [.ite h1 (.setFlds h1), h1]))
        fun _ _ h1 =>
          .setFld h1)
      fun _ _ h1 =>
        .report h1)
    fun _ _ h1 =>
      .ite (.setFlds h1) (.ite (.setRowBit h1) (.ite (.setRowBit h1) h1))

theorem Canon.acceptFw (h : Canon s) {slot w digest} : Canon (s.acceptFw slot w digest) := .setFld (.attest (.other h))

theorem Canon.imageCheck (h : Canon s0) {a b} : Canon (s0.imageCheck a b) :=
  .ite
    (.other h)
    (by
      split
      · exact .acceptFw (.powers (.romStart (.other h)))
      · split; exacts [.acceptFw (.powers (.romStart (.other h))), .setFld (.other (.powers (.romStart (.other h))))])

theorem Canon.tamperEvent (h : Canon s) : Canon (s.tamperEvent) := .reportAny (.attest (.setFld (.addSat h)))

theorem Canon.clearBbk (h : Canon s) {st} : Canon (s.clearBbk st) := .setFld (.other h)

@[simp] theorem Keeps.execPowerUp {kcvOk vbatLost sense a b} : Keeps s (execPowerUp kcvOk vbatLost sense a b s) :=
  .ite (.next fun h => h) (.next fun h => .imageCheck (.foldl (.other (.ite (.setFld (.clearBbk (.beginAttempt (.senseFuses (.powerOnCleared h)))))
    (.ite (.beginAttempt (.senseFuses (.powerOnCleared h))) (.clearBbk (.beginAttempt (.senseFuses (.powerOnCleared h))))))) fun _ _ h1 =>
    .tamperEvent h1))

@[simp] theorem Keeps.execPd00PowerLoss {mboxBlow} : Keeps s (execPd00PowerLoss mboxBlow s) :=
  .ite
    (.next fun h => h)
    (.next
      fun h =>
        .other
          (.setFlds
            (.powerOnCleared
              (by split; exacts [.ite
                    (.cutBlow h)
                    (.ite
                      (.setFld (.cutBlow h))
                      (.ite (.setFld (.cutBlow h)) (.ite (.setFld (.cutBlow h)) (.ite (.other (.cutBlow h)) (.cutBlow h))))),
                  .ite (.other (.cutBlow h)) (.cutBlow h)]))))

@[simp] theorem Keeps.execPorNRelease {sense} : Keeps s (execPorNRelease sense s) :=
  .ite (.next fun h => h) (.next fun h => .ite (.other (.senseFuses (.powerOnCleared h))) (.beginAttempt (.senseFuses (.powerOnCleared h))))

@[simp] theorem Keeps.execWrstNRelease : Keeps s (execWrstNRelease s) := .ite (.next fun h => h) (.next fun h => .warmReset h)

@[simp] theorem Keeps.execBootWdtExpired : Keeps s (execBootWdtExpired s) := .ite (.next fun h => .warmReset h) (.next fun h => h)

@[simp] theorem Keeps.execFirmwareFailureReset {code stage detail slotB} : Keeps s (execFirmwareFailureReset code stage detail slotB s) :=
  .ite
    (.next fun h => h)
    (by split; exacts [.next fun h => .declareFailure h,
        .ite (.next fun h => h) (.next fun h => .declareFailure (.setFld (.ite (.other h) h)))])

theorem Canon.bringUp (h : Canon s) : Canon (s.bringUp) := .setFlds (.foldl (.other (.other h)) fun _ _ h1 => .setFlds h1)

theorem Canon.useLedger (h : Canon s) {b} : Canon (s.useLedger b) := .setFld (.writeFlashLedger h)

theorem Canon.startGroups (h : Canon s0) {t0} : Canon (s0.startGroups t0) :=
  .setFld (.ite (.clearBbk (.foldl (.foldl (.foldl (.other h) fun _ _ h1 => .groupVerdict h1) fun _ _ h1 => .setRowBit h1) fun _ _ h1 => .setRowBit
    h1)) (.foldl (.foldl (.foldl (.other h) fun _ _ h1 => .groupVerdict h1) fun _ _ h1 => .setRowBit h1) fun _ _ h1 => .setRowBit h1))

theorem Canon.fuseCells (h : Canon s) : Canon (s.fuseCells) := .foldl h fun _ _ h1 => .ite (.setFlds h1) h1

theorem Canon.startPart (h : Canon s) {p} : Canon (s.startPart p) := .chunkVerdict (.logicVerdict h)

theorem Canon.countSkips (h : Canon s) : Canon (s.countSkips) := .foldl h fun _ _ h1 => .ite h1 (.setFld (.addSat h1))

theorem Canon.startSpares (h : Canon s) {t} : Canon (s.startSpares t) := .foldl h fun _ _ h1 => .sparesTested h1

theorem Canon.startPass (h : Canon s) {t} : Canon (s.startPass t) :=
  .setReg (.setFld (.foldl (.foldl (.startSpares (.countSkips (.fuseCells h))) fun _ _ h1 => .startPart h1) fun _ _ h1 => .standIn h1))

theorem Canon.priorRecord (h : Canon s) {r} : Canon (s.priorRecord r) := .reserveCheck (.elogEvent (.other h))

theorem Canon.restoreMirror (h : Canon s) : Canon (s.restoreMirror) := .ite h (.foldl h fun _ _ h1 => .priorRecord h1)

theorem Canon.reachReady (h : Canon s) : Canon (s.reachReady) := by
  unfold State.reachReady
  extract_lets s1 s2 s3 s4 s5 _ s6 _ s7
  have hs1 : Canon s1 := .restoreMirror h
  have hs2 : Canon s2 := .foldl hs1 fun _ _ h1 => .bootRecordLog h1
  have hs3 : Canon s3 := .foldl hs2 fun _ _ h1 => .setFld h1
  have hs4 : Canon s4 := .setFlds (.bootRecord hs3)
  have hs5 : Canon s5 := by
    unfold s5
    split; exacts [.setFld hs4,
      hs4]
  have hs6 : Canon s6 := .ite (.report (.other hs5)) hs5
  have hs7 : Canon s7 := .setFld (.other hs6)
  exact .ite (.beginLoad hs7) hs7

theorem Canon.bootForm (h : Canon s) : Canon (s.bootForm) := .ite (.enterAlone (.other h)) (.enterDiscover (.setFlds (.tookFree (.other h))))

@[simp] theorem Keeps.execBootReady {a b test} : Keeps s (execBootReady a b test s) :=
  .ite
    (.next fun h => h)
    (.ite
      (.next fun h => .imageCheck h)
      (.ite
        (.next fun h => .declareFailure (.trainStage (.imageCheck h)))
        (.ite
          (.next fun h => .trainStage (.imageCheck h))
          (by
            dsimp only
            split; exacts [.next
                fun h =>
                  .reachReady (.bootForm (.useLedger (.setFld (.startPass (.bringUp (.trainStage (.imageCheck h))))))),
              .ite
                (.next fun h => .declareFailure (.setFld (.startPass (.bringUp (.trainStage (.imageCheck h))))))
                (.next fun h => .reachReady (.bootForm (.startGroups (.setFld (.startPass (.bringUp (.trainStage (.imageCheck h))))))))]))))

/-! ### What Machine/SecExec.lean defines -/

theorem Canon.mboxRefuse (h : Canon s) {req op code} : Canon (s.mboxRefuse req op code) := .ite (.logRefused (.setFld h)) (.report (.setFld h))

theorem Canon.mboxCommand (h : Canon s) {req op arg} : Canon (s.mboxCommand req op arg) :=
  .ite (.logRefused h) (.ite (.mboxRefuse (.setFlds h)) (.ite (.mboxRefuse (.setFlds h)) (.ite (.warmReset (.setFld (.setFlds h))) (.setFld (.other
    (.setFlds h))))))

@[simp] theorem Keeps.execQuote {req} : Keeps s (execQuote req s) := .next fun h => .mboxCommand h

@[simp] theorem Keeps.execReadLog {req} : Keeps s (execReadLog req s) := .next fun h => .mboxCommand h

@[simp] theorem Keeps.execReadIdkey {req} : Keeps s (execReadIdkey req s) := .next fun h => .mboxCommand h

@[simp] theorem Keeps.execBootHost {req} : Keeps s (execBootHost req s) := .next fun h => .mboxCommand h

@[simp] theorem Keeps.execRetry {req} : Keeps s (execRetry req s) := .next fun h => .mboxCommand h

@[simp] theorem Keeps.execEnrolOwner {req} : Keeps s (execEnrolOwner req s) := .next fun h => .mboxCommand h

@[simp] theorem Keeps.execRotateOwner {req} : Keeps s (execRotateOwner req s) := .next fun h => .mboxCommand h

@[simp] theorem Keeps.execProvisionKey {req arg} : Keeps s (execProvisionKey req arg s) := .next fun h => .mboxCommand h

@[simp] theorem Keeps.execRevokeKey {req arg} : Keeps s (execRevokeKey req arg s) := .next fun h => .mboxCommand h

@[simp] theorem Keeps.execLock {req arg} : Keeps s (execLock req arg s) := .next fun h => .mboxCommand h

@[simp] theorem Keeps.execLoadModule {req} : Keeps s (execLoadModule req s) := .next fun h => .mboxCommand h

@[simp] theorem Keeps.execZeroize {req} : Keeps s (execZeroize req s) := .next fun h => .mboxCommand h

theorem Canon.mboxEnd (h : Canon s) {code len} : Canon (s.mboxEnd code len) := .setFlds (.other h)

theorem Canon.mboxFail (h : Canon s) {m code} : Canon (s.mboxFail m code) := .mboxEnd (.report h)

theorem Canon.setKey (h : Canon s) {k v} : Canon (s.setKey k v) := .other h

theorem Canon.mboxWrite (h : Canon s) {a bs status} : Canon (s.mboxWrite a bs status) :=
  .ite (.mboxEnd (.accLog (.ite h (.eccSeen h)))) (.mboxEnd (.unitWrite (.ite h (.eccSeen h))))

theorem Canon.mboxOwner (h : Canon s) {m k block blowOk} : Canon (s.mboxOwner m k block blowOk) :=
  .ite (.mboxFail h) (.ite (.mboxFail (.setFld h)) (.mboxEnd (.attest (.ite (.setFld (.setKey (.setFld h))) (.setKey (.setFld h))))))

theorem Canon.mboxProvision (h : Canon s) {m key blowOk status} : Canon (s.mboxProvision m key blowOk status) :=
  .ite (.ite (.mboxFail h) (.mboxWrite (.attest (.setKey (.setFld (.other h)))))) (.ite (.mboxFail h) (.ite (.mboxFail (.setFld h)) (.mboxWrite
    (.attest (.setKey (.setFld h))))))

theorem Canon.mboxRevoke (h : Canon s) {m blowOk} : Canon (s.mboxRevoke m blowOk) := .ite (.mboxFail (.setFld h)) (.mboxEnd (.attest (.setFld h)))

theorem Canon.mboxLock (h : Canon s) {m blowOk} : Canon (s.mboxLock m blowOk) :=
  .ite (.mboxFail h) (.mboxEnd (.ite (.setFld (.ite (.setFld (.ite (.setFld h) h)) (.ite (.setFld h) h))) (.ite (.setFld (.ite (.setFld h) h)) (.ite
    (.setFld h) h))))

theorem Canon.mboxModule (h : Canon s) {m img} : Canon (s.mboxModule m img) := .ite (.mboxFail h) (.mboxEnd (.other (.attest h)))

theorem Canon.mboxBootHost (h : Canon s) {m img} : Canon (s.mboxBootHost m img) := by
  unfold State.mboxBootHost
  split
  · exact .mboxEnd h
  · exact .acceptFw (.other (.setFlds h))

@[simp] theorem Keeps.execSecMboxComplete {status wstatus blowOk} : Keeps s0 (execSecMboxComplete status wstatus blowOk s0) := by
  unfold Machine.execSecMboxComplete
  split
  · exact .next fun h => h
  · extract_lets ni n c s1
    have h1 (h : Canon s0) : Canon s1 := .ite h (.eccSeen h)
    refine .ite (.next fun h => .mboxEnd (.accLog (h1 h))) ?_
    split
    next bs s2 e =>
      refine .next fun h => ?_
      have h2 : Canon s2 := .of_snd e (.readDpa (h1 h))
      exact .ite (.mboxWrite h2) (.ite (.mboxWrite h2) (.ite (.mboxWrite h2) (.ite (.mboxBootHost h2) (.ite (.mboxOwner h2) (.ite (.mboxOwner h2) (.ite
        (.mboxProvision h2) (.ite (.mboxRevoke h2) (.ite (.mboxLock h2) (.ite (.mboxModule h2) (.mboxEnd (.clearBbk h2)))))))))))

@[simp] theorem Keeps.execTamper {pin} : Keeps s (execTamper pin s) :=
  .ite (.next fun h => .other h) (.ite (.next fun h => .other (.clearBbk (.other h))) (.next fun h => .tamperEvent (.other (.clearBbk (.other h)))))

theorem Canon.selectIr (h : Canon s) {ir} : Canon (s.selectIr ir) := .tookFree (.other h)

theorem Canon.mboxBlown (h : Canon s) {m ok} : Canon (s.mboxBlown m ok) :=
  .ite (.setFld h) (.ite (.ite (.setFld (.setFld h)) (.setFld h)) (.ite (.setFld h) (.ite (.setFld h) (.ite (.mboxLock h) h))))

theorem Canon.blownKey (h : Canon s) {m} : Canon (s.blownKey m) := .ite (.setKey h) (.ite (.setKey h) h)

@[simp] theorem Keeps.execTestModeEntry {ir blowOk mboxBlow} : Keeps s (execTestModeEntry ir blowOk mboxBlow s) := by
  unfold Machine.execTestModeEntry
  refine .ite (.next fun h => h) ?_
  extract_lets _ s1
  have hs : Canon s → Canon s1 := fun h => .other h
  clear_value s1
  refine .of hs (.ite (.next fun h => h) ?_)
  obtain ⟨s2, e, ht⟩ : Keeps s1 (Machine.execFuseBlowDone blowOk s1) := .execFuseBlowDone
  rw [e]
  dsimp -zeta only
  extract_lets s3 s4 s5
  refine .next fun h => ?_
  have h2 := ht h
  have h3 : Canon s3 := by
    unfold s3
    split
    · exact .ite (.blownKey (.mboxBlown h2)) h2
    · exact h2
  have h4 : Canon s4 := .ite (.attemptFails h3) h3
  have h5 : Canon s5 := .setFlds (.clearBbk (.warmCleared h4))
  exact .other h5

theorem Canon.leaveTestMode (h : Canon s) : Canon (s.leaveTestMode) := .ite (.beginAttempt (.other h)) h

@[simp] theorem Keeps.execTestModeExit {trst ir} : Keeps s (execTestModeExit trst ir s) :=
  .ite (.next fun h => .leaveTestMode (.other h)) (.ite (.next fun h => .leaveTestMode (.selectIr h)) (.next fun h => h))

/-! ### What Machine/JtagExec.lean defines -/

theorem Canon.loadIr (h : Canon s) {ir drive captured} : Canon (s.loadIr ir drive captured) := .ite h (.leaveTestMode (.other h))

@[simp] theorem Keeps.execBypass : Keeps s (execBypass s) := .next fun h => .loadIr h

@[simp] theorem Keeps.execIdcode : Keeps s (execIdcode s) := .next fun h => .loadIr h

@[simp] theorem Keeps.execSample {pins} : Keeps s (execSample pins s) := .next fun h => .loadIr h

@[simp] theorem Keeps.execPreload {data} : Keeps s (execPreload data s) := .ite (.next fun h => h) (.next fun h => .loadIr (.other h))

@[simp] theorem Keeps.execExtest {pins} : Keeps s (execExtest pins s) := .next fun h => .loadIr h

@[simp] theorem Keeps.execClamp : Keeps s (execClamp s) := .next fun h => .loadIr h

@[simp] theorem Keeps.execHighz : Keeps s (execHighz s) := .next fun h => .loadIr h

@[simp] theorem Keeps.execExtestPulse {pins} : Keeps s (execExtestPulse pins s) := .next fun h => .loadIr h

@[simp] theorem Keeps.execExtestTrain {pins} : Keeps s (execExtestTrain pins s) := .next fun h => .loadIr h

/-! ### What Machine/DumpExec.lean defines -/

@[simp] theorem Keeps.execDumpComplete {slotStatus hostStatus} : Keeps s (execDumpComplete slotStatus hostStatus s) := by
  unfold Machine.execDumpComplete
  split
  · exact .next fun h => h
  · refine .ite (.next fun h => h) ?_
    extract_lets +onlyGivenNames s1 ni
    have h1 (h : Canon s) : Canon s1 := .summaries h
    clear_value s1 ni
    split
    extract_lets +onlyGivenNames s2 idle
    have h2 (h : Canon s) : Canon s2 := .ite (.report (h1 h)) (h1 h)
    have hi {t : State} (h : Canon t) : Canon (idle t) := .other h
    clear_value s2 idle
    refine .ite ?_ ?_
    · extract_lets st s3
      have h3 (h : Canon s) : Canon s3 := .setFlds (.accLog (.eccSeen (h2 h)))
      clear_value s3
      exact .next fun h => hi (.other (h3 h))
    · extract_lets seq s4 s5
      have h4 (h : Canon s) : Canon s4 := .setFlds (.tookFree (.unitWrite (h2 h)))
      clear_value s4
      have h5 (h : Canon s) : Canon s5 := .ite (.setFld (h4 h)) (.ite (.setFld (h4 h)) (h4 h))
      clear_value s5
      exact .next fun h => .postEvent (hi (h5 h))

@[simp] theorem Keeps.execDumpAutoReset : Keeps s (execDumpAutoReset s) := .ite (.next fun h => .warmReset h) (.next fun h => h)

/-! ### What Machine/HifExec.lean defines -/

theorem Canon.resetReg (h : Canon s) {off} : Canon (s.resetReg off) := .setReg h

theorem Canon.hostLost (h : Canon s) : Canon (s.hostLost) := .settle (.foldl h fun _ _ h1 => .complete (.accLog h1))

theorem Canon.holdOnLink (h : Canon s) : Canon (s.holdOnLink) := .ite (.holdSites h) h

theorem Canon.linkReset (h : Canon s) {seen} : Canon (s.linkReset seen) :=
  .holdOnLink (.other (.hostLost (.foldl (.setFlds h) fun _ _ h1 => .resetReg h1)))

@[simp] theorem Keeps.execPerst : Keeps s (execPerst s) := .next fun h => .linkReset (.ite (.report h) h)

@[simp] theorem Keeps.execHotReset : Keeps s (execHotReset s) := .ite (.next fun h => .linkReset (.report h)) (.next fun h => h)

theorem Canon.linkFalls (h : Canon s) : Canon (s.linkFalls) := .ite (.linkReset (.report h)) h

@[simp] theorem Keeps.execLinkDown : Keeps s (execLinkDown s) := .next fun h => .linkFalls h

theorem Canon.linkStage (h : Canon s) : Canon (s.linkStage) := .ite (.setFld (.powers (.other h))) h

@[simp] theorem Keeps.execPcieLinkUp {speed width msixOn busMaster} : Keeps s (execPcieLinkUp speed width msixOn busMaster s) :=
  .ite (.next fun h => h) (.next fun h => .linkStage (.flushVectors (.other (.setFlds h))))

@[simp] theorem Keeps.execAerUncorrectable {status} : Keeps s (execAerUncorrectable status s) := .next fun h => .report (.other h)

theorem Canon.programByte (h : Canon s) {a b} : Canon (s.programByte a b) := .other h

theorem Canon.programBytes {a bs} (h : Canon s) : Canon (s.programBytes a bs) := by
  induction bs generalizing s a with
  | nil => exact h
  | cons b bs ih => exact ih (.programByte h)

theorem Canon.finishPage (h : Canon s) : Canon (s.finishPage) := by
  unfold State.finishPage
  split
  · exact .ite (.tookFree (.programBytes h)) (.tookFree h)
  · exact h

theorem Canon.hostWarmReset (h : Canon s) : Canon (s.hostWarmReset) := .ite h (.warmReset (.other (.finishPage h)))

@[simp] theorem Keeps.execFlr : Keeps s (execFlr s) := .next fun h => .hostWarmReset h

@[simp] theorem Keeps.execHifResetWrite {_req value} : Keeps s (execHifResetWrite _req value s) := .next fun h => .ite (.hostWarmReset h) h

@[simp] theorem Keeps.execCmqEnable {_req q value} : Keeps s (execCmqEnable _req q value s) :=
  .ite (.next fun h => .setFld (.writePlain h)) (.ite (.next fun h => .writePlain h) (.next fun h => .setReg (.setReg (.setFld (.writePlain h)))))

theorem Canon.queueError (h : Canon s) {q value cpq} : Canon (s.queueError q value cpq) := .signal (.report (.setFld h))

@[simp] theorem Keeps.execCmqDoorbell {_req q value} : Keeps s (execCmqDoorbell _req q value s) :=
  .ite (.next fun h => .queueError h) (.next fun h => .setFld h)

@[simp] theorem Keeps.execCpqHeadWrite {_req q value} : Keeps s (execCpqHeadWrite _req q value s) :=
  .ite (.next fun h => .queueError h) (.next fun h => .setFld h)

@[simp] theorem Keeps.execCmdStart {q status} : Keeps s (execCmdStart q status s) :=
  .ite
    (.next fun h => h)
    (.ite
      (.next fun h => .accLog (.eccSeen h))
      (by
        split
        exact .ite
          (.next fun h => .eccSeen h)
          (.next
            fun h =>
              (by split; exacts [.tookFree (.report (.other (.setFld (.of_snd ‹_› (.readDpa (.eccSeen h)))))),
                  .other (.setFld (.of_snd ‹_› (.readDpa (.eccSeen h))))]))))

theorem Canon.carryOut (h : Canon s) {q op act} (ha : ∀ c, SndCanon (act c s)) : Canon (s.carryOut q op act) := by
  unfold State.carryOut
  split
  · exact h
  next c _ =>
    split
    next e => exact .other (.of_snd e (ha c))

@[simp] theorem Keeps.execCmdNop {q} : Keeps s (execCmdNop q s) := .next fun h => .carryOut h fun _ => .mk h

@[simp] theorem Keeps.execCmdCopy {q status done} : Keeps s (execCmdCopy q status done s) := by
  refine .next fun h => .carryOut h fun _ => .ite (.mk (.accLog h)) ?_
  extract_lets
  split
  exact .mk (.accLog (.tookFree (.unitWrite (.other h))))

@[simp] theorem Keeps.execCmdCfgLoad {q} : Keeps s (execCmdCfgLoad q s) := .next fun h => .carryOut h fun _ => .mk (.startLoad (.setFld (.setReg h)))

@[simp] theorem Keeps.execCmdSiteCmd {q} : Keeps s (execCmdSiteCmd q s) :=
  .next fun h => .carryOut h fun _ => .mk (.foldl h fun _ _ h1 => .psqCmdWrite (.ite (.setReg h1) h1))

theorem Canon.slvCmdWrite (h : Canon s) {req v status} : Canon (s.slvCmdWrite req v status) :=
  .outState
    h
    (by split; exacts [.execLaneMap,
        .execLaneReset,
        .execSlvOpen,
        .execSlvClose,
        .execSlvSolve,
        .execSlvResolve,
        .execSlvAbort,
        .execSlvRelease,
        .next fun _ => h])

@[simp] theorem Keeps.execCmdSlvCmd {q status} : Keeps s (execCmdSlvCmd q status s) :=
  .next fun h => .carryOut h fun _ => .mk (.slvCmdWrite (.setReg h))

@[simp] theorem Keeps.execCmdComplete {q cid status} : Keeps s (execCmdComplete q cid status s) := by
  unfold Machine.execCmdComplete
  split
  · exact .next fun h => h
  · split
    exact .ite (.next fun h => .accLog (.eccSeen h)) (.next fun h => .ite (.signal (.other (.setFld (.unitWrite (.eccSeen h))))) (.other (.setFld
      (.unitWrite (.eccSeen h)))))

@[simp] theorem Keeps.execElogEventWindow : Keeps s (execElogEventWindow s) :=
  .ite (.next fun h => h) (.next fun h => .ite (.elogEvent (.other h)) (.other h))

@[simp] theorem Keeps.execEvqEnable {_req value} : Keeps s (execEvqEnable _req value s) :=
  .next fun h => .ite (.setReg (.writePlain h)) (.writePlain h)

@[simp] theorem Keeps.execUploadEnable {_req j value} : Keeps s (execUploadEnable _req j value s) :=
  .ite (.next fun h => .writePlain h) (.next fun h => .other (.ite (.setReg (.writePlain h)) (.setFld (.setReg (.writePlain h)))))

@[simp] theorem Keeps.execUploadPacket {j status irq} : Keeps s (execUploadPacket j status irq s) :=
  .ite (.next fun h => h) (.ite (.next fun h => .ite (.accLog (.setFld (.other (.streamLeft (.eccSeen h))))) (.report (.accLog (.setFld (.other
    (.streamLeft (.eccSeen h))))))) (.next fun h => .ite (.signal (.setFld (.unitWrite (.ite (.other (.streamLeft (.eccSeen h))) (.tookFree
    (.unitWrite (.other (.streamLeft (.eccSeen h))))))))) (.setFld (.unitWrite (.ite (.other (.streamLeft (.eccSeen h))) (.tookFree (.unitWrite
    (.other (.streamLeft (.eccSeen h))))))))))

/-! ### What Machine/AuxExec.lean defines -/

theorem Canon.setPtBytes (h : Canon s) {e bs} : Canon (s.setPtBytes e bs) := .foldl h fun _ _ h1 => .setPtByte h1

theorem Canon.joinNow (h : Canon s) {x} : Canon (s.joinNow x) := by
  unfold State.joinNow
  dsimp only
  split
  · exact .ite
      h
      (.ite (.report (by split; exacts [.partnerLoss h, h])) (.postEvent (.report (.setPtBytes (by split; exacts [.partnerLoss h, h])))))
  · exact .report (by split; exacts [.partnerLoss h, h])

@[simp] theorem Keeps.execHotJoin {bus pid bcr dcr desc addr} : Keeps s (execHotJoin bus pid bcr dcr desc addr s) :=
  .ite (.next fun h => h) (.ite (.next fun h => .other h) (.next fun h => .joinNow h))

theorem Canon.joinAll (h : Canon s) : Canon (s.joinAll) := .foldl (.other h) fun _ _ h1 => .joinNow h1

theorem Canon.pollOne (h : Canon s) {failed e} : Canon (s.pollOne failed e) :=
  .ite h (.ite (.setPtByte h) (.ite (.setPtByte h) (.partnerLoss (.setPtByte h))))

@[simp] theorem Keeps.execPartnerPoll {fails} : Keeps s (execPartnerPoll fails s) := .next fun h => .foldl h fun _ _ h1 => .pollOne h1

@[simp] theorem Keeps.execAuxI3cXfer {req value} : Keeps s (execAuxI3cXfer req value s) :=
  .ite (.next fun h => .ite (.logRefused h) h) (.ite (.next fun h => .writePlain h) (.ite (.next fun h => .logRefused (.setFld (.writePlain h)))
    (.next fun h => .setFld (.writePlain h))))

@[simp] theorem Keeps.execI3cXferDone {ok data} : Keeps s (execI3cXferDone ok data s) :=
  .ite (.next fun h => h) (.ite (.next fun h => .joinAll (.report (.setFld (.setFld h)))) (.next fun h => .joinAll (.setFld (.ite (.foldl (.setFld h)
    fun _ _ h1 => .setFld h1) (.setFld h)))))

theorem Canon.xspiStart (h : Canon s) {req op} : Canon (s.xspiStart req op) :=
  .ite (.logRefused h) (.ite (.logRefused (.setFld (.setFld h))) (.other (.setFld (.setFld h))))

@[simp] theorem Keeps.execXspiRead {req} : Keeps s (execXspiRead req s) := .next fun h => .xspiStart h

@[simp] theorem Keeps.execXspiProgram {req} : Keeps s (execXspiProgram req s) := .next fun h => .xspiStart h

@[simp] theorem Keeps.execXspiErase4k {req} : Keeps s (execXspiErase4k req s) := .next fun h => .xspiStart h

@[simp] theorem Keeps.execXspiErase64k {req} : Keeps s (execXspiErase64k req s) := .next fun h => .xspiStart h

theorem Canon.setFlash (h : Canon s) {a bs} : Canon (s.setFlash a bs) := .other h

@[simp] theorem Keeps.execXspiCmdDone {status flashFail} : Keeps s (execXspiCmdDone status flashFail s) := by
  unfold Machine.execXspiCmdDone
  split
  · exact .next fun h => h
  · extract_lets c s' _ s0 s1 s2
    have h1 (h : Canon s) : Canon s1 := .setFld (.other (.ite (.eccSeen h) h))
    have h2 (h : Canon s) : Canon s2 := .ite (.unitWrite (h1 h)) (.ite (.tookFree (.programBytes (h1 h))) (.setFlash (h1 h)))
    split
    · extract_lets s3
      have h3 (h : Canon s) : Canon s3 := .report (.setFld (h1 h))
      exact .next fun h => .ite (.ite (.tookFree (.unitWrite (h3 h))) (h3 h)) (.tookFree (.setFlash (h3 h)))
    · exact .ite (.next fun h => .accLog (.setFld (h1 h))) (.next fun h => .setFld (h2 h))

/-! ### What Machine/PwrExec.lean defines -/

theorem Canon.refusePwr (h : Canon s) {req op} : Canon (s.refusePwr req op) := .logRefused (.setFld h)

theorem Canon.switchBegins (h : Canon s) {d on} : Canon (s.switchBegins d on) := .setFlds (.other h)

@[simp] theorem Keeps.execPwrOn {req d} : Keeps s (execPwrOn req d s) :=
  .ite (.next fun h => .logRefused h) (.ite (.next fun h => .refusePwr h) (.ite (.next fun h => .setFld h) (.next fun h => .switchBegins h)))

@[simp] theorem Keeps.execPwrOff {req d} : Keeps s (execPwrOff req d s) :=
  .ite (.next fun h => .logRefused h) (.ite (.next fun h => .refusePwr h) (.ite (.next fun h => .setFld h) (.next fun h => .ite (.fenceBegin (.ite
    (.abortSlices (.switchBegins h)) (.switchBegins h))) (.ite (.abortSlices (.switchBegins h)) (.switchBegins h)))))

theorem Canon.domainLoses (h : Canon s) {d} : Canon (s.domainLoses d) :=
  .ite (.foldl (.clearSlots h) fun _ _ h => .setFlds h) (.ite (.foldl h fun _ _ h => .setCport (.setFld (.portDown h))) (.ite (.mapPsq h fun _ _ _ =>
    .other .reset) h))

theorem Canon.switchEnds (h : Canon s) : Canon (s.switchEnds) := .foldl (.setFld (.other h)) fun _ _ h1 => .setFld h1

@[simp] theorem Keeps.execDomainSwitchDone : Keeps s (execDomainSwitchDone s) := by
  unfold Machine.execDomainSwitchDone
  split
  · exact .next fun h => h
  · exact .ite (.next fun h => .ite (.foldl (.setFlds (.switchEnds h)) fun _ _ h1 => .standIn h1) (.setFlds (.switchEnds h))) (.ite (.next fun h => h)
      (.next fun h => .setFld (.domainLoses (.switchEnds h))))

@[simp] theorem Keeps.execPwrDomainTimeout : Keeps s (execPwrDomainTimeout s) := by
  unfold Machine.execPwrDomainTimeout
  split
  · exact .next fun h => h
  · exact .next fun h => .ite (.report (.setFld (.switchEnds h))) (.setFlds (.report (.setFld (.switchEnds h))))

@[simp] theorem Keeps.execRefLost : Keeps s (execRefLost s) := .ite (.next fun h => h) (.next fun h => .fckUnlock (.setFld h))

theorem Canon.pskUnlock (h : Canon s) {qs} : Canon (s.pskUnlock qs) :=
  .holdSites (.safeNow (.foldl (.foldl h fun _ _ h1 => .calEnd h1) fun _ _ h1 => .setFld h1))

@[simp] theorem Keeps.execClkPllUnlock {pll} : Keeps s (execClkPllUnlock pll s) :=
  .ite (.next fun h => h) (.next fun h => .ite (.pskUnlock (.report (.setFlds h))) (.ite (.pskUnlock (.report (.setFlds h))) (.ite (.linkFalls
    (.report (.setFlds h))) (.ite (.foldl (.report (.setFlds h)) fun _ _ h1 => .portDown h1) (.report (.setFlds h))))))

@[simp] theorem Keeps.execPllRelock {pll} : Keeps s (execPllRelock pll s) :=
  .ite (.next fun h => h) (.next fun h => .ite (.fixFlights (.setFld (.setFld h))) (.ite (.foldl (.setFld h) fun _ _ h1 => .ite (.setFld h1) h1) (.ite
    (.foldl (.setFld h) fun _ _ h1 => .ite (.setFld h1) h1) (.setFld h))))

@[simp] theorem Keeps.execPwrRailFault {rail} : Keeps s (execPwrRailFault rail s) := .ite (.next fun h => .reportFatal (.setFld h)) (.next fun h => h)

theorem Canon.tempRead (h : Canon s) {k t} : Canon (s.tempRead k t) := .setFlds h

@[simp] theorem Keeps.execPwrThermalWarn {sensor temp} : Keeps s (execPwrThermalWarn sensor temp s) :=
  .ite (.next fun h => h) (.ite (.next fun h => .tempRead h) (.next fun h => .report (.other (.tempRead h))))

@[simp] theorem Keeps.execThermalWarnRearm {temps} : Keeps s (execThermalWarnRearm temps s) :=
  .ite (.next fun h => h) (.next fun h => .other (.foldl h fun _ _ h1 => .tempRead h1))

@[simp] theorem Keeps.execPwrThermalTrip {sensor temp} : Keeps s (execPwrThermalTrip sensor temp s) :=
  .ite (.next fun h => h) (.next fun h => .reportFatal (.tempRead h))

@[simp] theorem Keeps.execThermtrip {sensor temp} : Keeps s (execThermtrip sensor temp s) :=
  .ite (.next fun h => h) (.next fun h => .other (.safeNow (.calFailAll (.tempRead h))))

/-! ### What Machine/Bar0.lean defines -/

theorem Canon.after (h : Canon s) {f} (hf : Keeps s (f s)) : Canon (s.after f) := .outState h hf

theorem Canon.writeTick (h : Canon s) {req off v mask} : Canon (s.writeTick req off v mask) :=
  .ite (.iff (.iff h (.after h .execTickCntClr)) (.after (.iff h (.after h .execTickCntClr)) .execFckApply)) (.ite (.after h .execTickUirepWrite)
    (.writePlain h))

theorem Canon.writeXsCtrl (h : Canon s) {req x n} : Canon (s.writeXsCtrl req x n) :=
  .ite (.iff (.after h .execXsStart) (.after (.after h .execXsStart) .execXsAbort)) (.ite (.after h .execXsAbort) (.setFld h))

theorem Canon.writeFab (h : Canon s) {req off v mask} : Canon (s.writeFab req off v mask) := by
  unfold State.writeFab
  extract_lets _ s1 s2 s3 s4
  have hs1 : Canon s1 := .writePlain h
  have hs2 : Canon s2 := .iff hs1 (.after hs1 .execStarfixArm)
  have hs3 : Canon s3 := .iff hs2 (.after hs2 .execStarfixCancel)
  have hs4 : Canon s4 := .iff hs3 (.after hs3 .execStarfixRelease)
  exact .ite
    (.after h .execFabCtxselWrite)
    (.ite
      (.after h .execFabMrepWrite)
      (.ite
        (.writeXsCtrl h)
        (.ite
          (by split; exacts [.after h .execFreeze, .after h .execThaw, h])
          (.ite (.iff hs4 (.after hs4 .execStarfixUnload)) (.writePlain h)))))

theorem Canon.writePsl (h : Canon s) {req off v mask} : Canon (s.writePsl req off v mask) :=
  .ite
    (.ite
      h
      (.ite
        (.iff (.iff h (.after h .execPslCntClr)) (.after (.iff h (.after h .execPslCntClr)) .execPslCal))
        (.ite (.after h .execPslBind) (by split; exacts [.after h .execPslSettingWrite, .writePlain h]))))
    (.ite (.after h .execPwrEnWrite) (.ite (.iff h (.after h .execPslPartnerDrop)) (.writePlain h)))

theorem Canon.writeQCmd (h : Canon s) {req k n} : Canon (s.writeQCmd req k n) := by
  unfold State.writeQCmd
  dsimp only
  split
  · exact .after h .execCkpt
  · exact .after h .execQReset
  · exact .after h .execQDrop
  · exact .after h .execMarkSet
  · exact .after h .execMarkClr
  · exact h

theorem Canon.writeFcq (h : Canon s) {req off v mask} : Canon (s.writeFcq req off v mask) :=
  .ite
    (.ite (.fcqWrite h) (.writePlain h))
    (.ite
      (.ite (.fcqWrite h) (.ite (.writeQCmd h) (.ite (.fcqWrite h) (.writePlain h))))
      (.ite
        (.ite
          (.sqCfgWrite h)
          (.ite (.after h .execSqWmWrite) (.ite (by split; exacts [.after h .execSqDrop, .after h .execSqReset, h]) (.writePlain h))))
        (.writePlain h)))

theorem Canon.writeSlv (h : Canon s) {req off v mask} : Canon (s.writeSlv req off v mask) :=
  .ite (.after h .execSlvCtrlWrite) (.ite (.slvCmdWrite h) (.ite (.after h .execSlvLaneCfgWrite) (.writePlain h)))

theorem Canon.writeNoc (h : Canon s) {req off v mask} : Canon (s.writeNoc req off v mask) :=
  .ite
    (.after h .execNocTimeoutWrite)
    (.ite
      (by split; exacts [.after h .execNocBegin, .after h .execNocEnd, h])
      (.ite
        (by split; exacts [.after h .execNocFence, .after h .execNocUnfence, h])
        (.ite (.ite (.after h .execRouteCommit) (.after h .execRouteLoad)) (.ite (.ite (.writePlain h) (.logRefused h)) (.writePlain h)))))

theorem Canon.writeMemc (h : Canon s) {req off v mask} : Canon (s.writeMemc req off v mask) :=
  .ite
    (.after h .execMemcMapWrite)
    (.ite
      (.after h .execMemcBar2BaseWrite)
      (.ite
        (by split; exacts [.after h .execMemcInit,
            .after h .execMemcReady,
            .after h .execMemcSrEnter,
            .after h .execMemcSrExit,
            .after h .execMemcErase,
            .after h .execMemcUnerase,
            .after h .execMemcFail,
            h])
        (.ite (.after h .execMemcMrGo) (.writePlain h))))

theorem Canon.writeCfg (h : Canon s) {req off v mask} : Canon (s.writeCfg req off v mask) :=
  .ite (by split; exacts [.after h .execCfgLoad, .after h .execCfgAbort, h]) (.ite (.after h .execCfgChainWrite) (.writePlain h))

theorem Canon.portsEnabled (h : Canon s) : Canon (s.portsEnabled) := .foldl h fun _ _ h1 => .ite h1 (.setFld (.portDown h1))

theorem Canon.writeBistErrPwr (h : Canon s) {req off v mask} : Canon (s.writeBistErrPwr req off v mask) :=
  .ite
    (.iff h (.after h .execNightfall))
    (.ite
      (.ite h (by split; exacts [.after h .execBlow, .after h .execVoid, h]))
      (.ite
        (by split; exacts [.after h .execErrRoll, .after h .execErrClear, .after h .execDumpAck, h])
        (.ite (.after h .execErrRptrWrite) (.ite (by split; exacts [.after h .execPwrOn, .after h .execPwrOff, h]) (.writePlain h)))))

theorem Canon.writeHif (h : Canon s) {req off v mask} : Canon (s.writeHif req off v mask) :=
  .ite (.after h .execHifResetWrite) (.ite (.after h .execEvqEnable) (.ite (.ite (.after h .execCmqEnable) (.ite (.after h .execCmqDoorbell) (.ite
    (.after h .execCpqHeadWrite) (.writePlain h)))) (.ite (.after h .execUploadEnable) (.writePlain h))))

theorem Canon.writeAux (h : Canon s) {req off v mask} : Canon (s.writeAux req off v mask) :=
  .ite
    (.after h .execAuxI3cXfer)
    (.ite
      (.ite
        (.ite h (.writePlain h))
        (by split; exacts [.after h .execXspiRead, .after h .execXspiProgram, .after h .execXspiErase4k, .after h .execXspiErase64k, h]))
      (.writePlain h))

theorem Canon.writeCsc (h : Canon s) {req off v mask} : Canon (s.writeCsc req off v mask) :=
  .ite
    (by split; exacts [.after h .execForm, .after h .execLeave, .after h .execRecal, h])
    (.ite (.portsEnabled (.writePlain h)) (.ite (.after h .execCscVgrpWrite) (.ite (.after h .execCscVgrpWrite) (.writePlain h))))

theorem Canon.writeReg (h : Canon s) {req off v mask} : Canon (s.writeReg req off v mask) :=
  .ite (.writePlain h) (.ite (.ite (.mboxCommand h) (.ite (.logRefused h) (.writePlain h))) (.ite (.writeCfg h) (.ite (.writeTick h) (.ite (.writeFab
    h) (.ite (.writePsl h) (.ite (.psqBlockWrite h) (.ite (.writeFcq h) (.ite (.writeSlv h) (.ite (.writeNoc h) (.ite (.writeMemc h) (.ite
    (.writeCsc h) (.ite (.writeBistErrPwr h) (.ite (.writeHif h) (.writeAux h))))))))))))))

theorem Canon.writeDword (h : Canon s) {req a w} : Canon (s.writeDword req a w) :=
  .ite (.flushVectors (.other h)) (.ite h (by split; exacts [.writeReg h, .writeReg h, .ite (.setReg h) h]))

theorem Canon.barWrite (h : Canon s) {req a wide v} : Canon (s.barWrite req a wide v) :=
  .ite
    h
    (.ite
      (.ite h (by split; exacts [.ite (.writeReg h) (.writeDword (.writeDword h)), .writeDword (.writeDword h)]))
      (.ite h (.writeDword h)))

theorem Canon.cleared (h : Canon s) {off mask} : Canon (s.cleared off mask) := by
  unfold State.cleared
  split
  · exact .setReg h
  · exact h

theorem Canon.setLatch (h : Canon s) {off v} : Canon (s.setLatch off v) := .other h

theorem SndCanon.readDword (h : Canon s) {req a} : SndCanon (s.readDword req a) :=
  .ite
    (.mk (.after h .execFabRbDataRead))
    (.ite
      (.mk (.after h .execPsqWdbgAccess))
      (.ite
        (.mk (.after h .execSqPop))
        (.ite
          (.mk h)
          (by
            split
            · exact .mk (.iff (.cleared h) (.setLatch (.cleared h)))
            · split; exacts [.mk (.setLatch (.cleared h)),
                .mk (.cleared h)]
            · exact .mk h))))

theorem Canon.barRead (h : Canon s) {req a wide} : Canon (s.barRead req a wide) := by
  unfold State.barRead
  refine .ite h ?_
  extract_lets pair
  have hp (b : Nat) : Canon (pair b) := by
    unfold pair
    split
    · refine .ite (.other (.cleared h)) ?_
      split
      next e1 =>
        have h1 := Canon.of_snd e1 (.readDword h)
        split
        next e2 => exact .other (.of_snd e2 (.readDword h1))
    · split
      next e1 =>
        have h1 := Canon.of_snd e1 (.readDword h)
        split
        next e2 => exact .other (.of_snd e2 (.readDword h1))
  clear_value pair
  refine .ite (.ite h (.tookFree (hp _))) (.ite ?_ (.ite (.tookFree (hp _)) h))
  split
  next e => exact .tookFree (.other (.of_snd e (.readDword h)))

/-! ### What Machine/RegExec.lean defines -/

theorem Canon.remoteEnds (h : Canon s) {status} : Canon (s.remoteEnds status) := .ite (.setFlds (.other h)) (.report (.setFlds (.other h)))

theorem ThdCanon.remoteAccess (h : Canon s) {pos off write} : ThdCanon (s.remoteAccess pos off write) := by
  unfold State.remoteAccess
  split
  · exact .ite (.mk h) (.mk (.barWrite h))
  · exact .mk (.other (.barRead h))

@[simp] theorem Keeps.execRemote {req} : Keeps s (execRemote req s) :=
  .ite
    (.next fun h => .refuseCsc h)
    (.ite
      (.next fun h => .remoteEnds (.setFld h))
      (.ite
        (by
          split
          exact .next fun h => .remoteEnds (.ite (.of_thd ‹_› (.remoteAccess (.setFld h))) (.setFld (.of_thd ‹_› (.remoteAccess (.setFld h))))))
        (.ite (.next fun h => .remoteEnds (.setFld h)) (.next fun h => .sendTo (.setFlds (.other (.setFld h)))))))

theorem ThdCanon.remoteServed (h : Canon s) {pos off write} : ThdCanon (s.remoteServed pos off write) := .ite (.remoteAccess h) (.mk h)

@[simp] theorem Keeps.execRegRd : Keeps s (execRegRd s) := by
  unfold Machine.execRegRd
  split
  · exact .next fun h => h
  · extract_lets d
    split
    exact .next fun h => .sendTo (.of_thd ‹_› (.remoteServed (.of_takePkt ‹_› h)))

@[simp] theorem Keeps.execRegWr : Keeps s (execRegWr s) := by
  unfold Machine.execRegWr
  split
  · exact .next fun h => h
  · extract_lets d
    split
    exact .next fun h => .sendTo (.of_thd ‹_› (.remoteServed (.of_takePkt ‹_› h)))

@[simp] theorem Keeps.execRegRsp : Keeps s (execRegRsp s) := by
  unfold Machine.execRegRsp
  split
  · exact .next fun h => h
  · exact .ite (.next fun h => .of_takePkt ‹_› h) (.next fun h => .remoteEnds (.ite (.setFld (.of_takePkt ‹_› h)) (.of_takePkt ‹_› h)))

@[simp] theorem Keeps.execRemoteTimeout : Keeps s (execRemoteTimeout s) := by
  unfold Machine.execRemoteTimeout
  split
  · exact .next fun h => h
  · exact .next fun h => .remoteEnds h

theorem Canon.fullWrite (h : Canon s) {req a wide v} : Canon (s.fullWrite req a wide v) := .ite (.after (.barWrite h) .execRemote) (.barWrite h)

@[simp] theorem Keeps.execRegWrite {req off size value} : Keeps s (execRegWrite req off size value s) := by
  unfold Machine.execRegWrite
  split
  · exact .next fun h => .fullWrite h
  · exact .next fun h => .fullWrite h
  · exact .next fun h => h

@[simp] theorem Keeps.execRegRead {req off wide} : Keeps s (execRegRead req off wide s) := .next fun h => .hostCpl (.barRead h)

@[simp] theorem Keeps.execCmdRegWr {q} : Keeps s (execCmdRegWr q s) := .next fun h => .carryOut h fun _ => .mk (.foldl h fun _ _ h1 => .fullWrite h1)

@[simp] theorem Keeps.execCmdRegRd {q} : Keeps s (execCmdRegRd q s) := .next fun h => .carryOut h fun _ => .mk (.other (.barRead h))

/-! ### Every command -/

/-- A command whose operands are well formed completes and keeps the canonical forms. -/
theorem Keeps.exec {i : Instr} (hw : i.wf = true) : Keeps s (exec i s) := by
  cases i with
  | nocRequest => exact .execNocRequest hw
  | bar2Access => exact .execBar2Access hw
  | pkt => exact .execPkt hw
  | streamPacketWrite => exact .execStreamPacketWrite hw
  | chunkAuthenticate => exact .execChunkAuthenticate hw
  | signatureCheck => exact .execSignatureCheck hw
  | _ => simp

/-- The meaning of a command whose operands are not well formed is its refusal. -/
theorem exec_refused {i : Instr} (hw : i.wf = false) : exec i s = .refused .illFormed := by
  cases i with
  | nocRequest => exact if_pos (by rw [show wfRequest _ _ = _ from hw]; rfl)
  | bar2Access => exact if_pos (by rw [show wfTlp _ _ _ = _ from hw]; rfl)
  | pkt => exact if_pos (by rw [show wfPacket _ = _ from hw]; rfl)
  | streamPacketWrite => exact if_pos (by rw [show wfItems _ = _ from hw]; rfl)
  | chunkAuthenticate => exact if_pos (by rw [show wfChunk _ _ = _ from hw]; rfl)
  | signatureCheck => exact if_pos (by rw [show wfSignature _ = _ from hw]; rfl)
  | _ => cases hw

end

/-- A command that completes keeps the canonical forms. -/
theorem canon_of_exec {i : Instr} {s t : State} (hs : Canon s) (h : exec i s = .next t) : Canon t := by
  cases hw : i.wf with
  | false => exact nomatch (exec_refused hw).symm.trans h
  | true =>
    obtain ⟨u, e, hu⟩ := Keeps.exec (s := s) hw
    obtain rfl : u = t := by simpa using e.symm.trans h
    exact hu hs

/-- Settles O3: a step is the command at the front of the queue, and every command keeps the canonical forms. -/
theorem everyStepKeepsTheCanonicalForms : Obligations.EveryStepKeepsTheCanonicalForms := by
  intro s t hs h
  unfold step at h
  split at h
  · cases h
    exact hs
  · exact canon_of_exec (.other hs) h

/-- Settles O6: no meaning of a command but the test of its operands refuses it. -/
theorem wellFormedCommandsAlwaysComplete : Obligations.WellFormedCommandsAlwaysComplete := by
  intro i s
  exact ⟨fun hw => let ⟨t, e, _⟩ := Keeps.exec (s := s) hw; ⟨t, e⟩, exec_refused⟩

end Sys2Proof.Machine
end

section
/-! REGISTER ACCESSES. The state after reset, and what a read or a write in BAR0 does to a register, from the field rows of its table up to the
accesses themselves. -/

open Sys2Proof.Claims

namespace Sys2Proof.Machine

section

variable {s : State} {req : Requester} {off : BitVec 26} {a : Nat} {r : RegRow}

/-! ### The state after reset -/

theorem canon_reset : Canon State.reset :=
  canon_iff.2 ⟨mwf_nil _, mwf_nil _, mwf_nil _, mwf_nil _, mwf_nil _, mwf_nil _, fun _ => .reset, .none⟩

/-- Settles O4: every map of the state after reset is empty, so each of its parts reads its default. -/
theorem resetStateIsCanonical : Obligations.ResetStateIsCanonical :=
  ⟨canon_reset, rfl, rfl, rfl, rfl, rfl, fun _ => rfl, rfl, rfl, fun _ => rfl⟩

/-! ### Reads and the latch of the high half -/

/-- A value that is not the default is what its key reads, whatever the form of the map. -/
theorem mget_mset_of_ne {α : Type} [DecidableEq α] {d : Nat → α} {k : Nat} {v : α} (hv : v ≠ d k) :
    ∀ m : List (Nat × α), mget d k (mset d k v m) = v
  | [] => by simp [mset, mget, hv]
  | (j, w) :: m => by
    unfold mset
    rw [if_neg hv, if_neg hv]
    split
    · simp [mget]
    next hj =>
      split
      · simp [mget]
      · simpa [mget, hj] using mget_mset_of_ne hv m

theorem State.hostCpl_eq {b c} : s.hostCpl b c = { s with hif := { s.hif with cpl := if b then c else s.hif.cpl } } := by
  unfold State.hostCpl
  cases b <;> rfl

theorem State.cleared_eq {mask} (hr : regAt a = some (r, false)) : s.cleared a mask = s.setReg a (readClear r.fields (s.reg a) mask) := by
  unfold State.cleared
  rw [hr]

/-- The offset `a` is that of a register, or half of one, which a read finds with nothing beyond the register's own effects. -/
def Plain (a : Nat) : Prop := a < 0x800000 ∧ inWindow a = false ∧ actingRead a = false

theorem State.readDword_of_plain (h : Plain a) (hr : regAt a = some (r, false)) :
    s.readDword req a = ((s.regValue a).toNat % 2 ^ 32,
      (s.cleared a (maskBits 0 32)).iff r.wide (·.setLatch a (some (BitVec.ofNat 32 ((s.regValue a).toNat / 2 ^ 32))))) := by
  obtain ⟨hb, hw, ha⟩ := h
  simp only [actingRead, Bool.or_eq_false_iff, Bool.and_eq_false_iff, beq_eq_false_iff_ne, decide_eq_false_iff_not] at ha
  unfold State.readDword
  rw [if_neg (by omega), if_neg (by omega), if_neg (by omega), if_neg (not_or.2 ⟨by omega, by simp [hw]⟩), hr]

theorem State.readDword_of_latched {w : Word} (h : Plain a) (hr : regAt a = some (r, true))
    (hl : mget (fun _ => (none : Option Word)) (a - 4) s.latch = some w) :
    (s.readDword req a).1 = w.toNat := by
  obtain ⟨hb, hw, ha⟩ := h
  simp only [actingRead, Bool.or_eq_false_iff, Bool.and_eq_false_iff, beq_eq_false_iff_ne, decide_eq_false_iff_not] at ha
  unfold State.readDword
  rw [if_neg (by omega), if_neg (by omega), if_neg (by omega), if_neg (not_or.2 ⟨by omega, by simp [hw]⟩), hr]
  dsimp only
  rw [hl]

/-- A read of one dword takes a free value and shows what `readDword` gives. -/
theorem State.barRead_dword (hd : s.dev ≠ .off) (ha : a % 4 = 0) :
    s.barRead req a false = { (s.readDword req a).2 with rdata := BitVec.ofNat 64 (s.readDword req a).1 }.tookFree := by
  unfold State.barRead
  rw [if_neg hd]
  extract_lets pair
  rw [if_neg Bool.false_ne_true, if_pos ha]

/-- The low half of a 64-bit register latches the high half. -/
theorem State.latch_readDword (h : Plain a) (hr : regAt a = some (r, false)) (hw : r.wide = true) :
    mget (fun _ => (none : Option Word)) a (s.readDword req a).2.latch = some (BitVec.ofNat 32 ((s.regValue a).toNat / 2 ^ 32)) := by
  rw [State.readDword_of_plain h hr, hw]
  exact mget_mset_of_ne (Option.some_ne_none _) _

theorem State.barRead_qword (hd : s.dev ≠ .off) (ha : a % 8 = 0) (h : Plain a) (hr : regAt a = some (r, false)) (hw : r.wide = true)
    (h' : Plain (a + 4)) (hr' : regAt (a + 4) = some (r, true)) : (s.barRead req a true).rdata = s.regValue a := by
  unfold State.barRead
  rw [if_neg hd]
  extract_lets pair
  rw [if_pos rfl, if_neg (by simp [ha])]
  unfold pair
  rw [hr]
  dsimp only
  split
  · rfl
  · have hl := State.readDword_of_latched (req := req) h' hr' (by simpa using State.latch_readDword (s := s) (req := req) h hr hw)
    rw [State.tookFree_rdata]
    dsimp only
    rw [hl, State.readDword_of_plain h hr]
    apply BitVec.eq_of_toNat_eq
    have := (s.regValue a).isLt
    simp only [Nat.reducePow, BitVec.toNat_ofNat]
    omega

/-- The access answers what `barRead` leaves, but for the completion that the host gets. -/
theorem exec_regRead_eq {wide} : ∃ t, exec (.regRead req off wide) s = .next t ∧ t.rdata = (s.barRead req off.toNat wide).rdata ∧
    t.latch = (s.barRead req off.toNat wide).latch ∧ t.tick = (s.barRead req off.toNat wide).tick ∧
    ∀ o, t.reg o = (s.barRead req off.toNat wide).reg o := by
  refine ⟨_, rfl, ?_⟩
  rw [State.hostCpl_eq]
  exact ⟨rfl, rfl, rfl, fun _ => rfl⟩

/-- Settles O59: the low half is latched as it is read, and the latch alone answers the read of the high half. -/
theorem splitReadsReturnOneValue : Obligations.SplitReadsReturnOneValue := by
  intro req req' off hi r s hd ⟨hr, hw, hb, hwin, hact⟩ hr' hhi h8 h4 hwin' hact'
  have h : Plain off.toNat := ⟨hb, hwin, hact⟩
  have h' : Plain (off.toNat + 4) := ⟨by omega, hhi ▸ hwin', hhi ▸ hact'⟩
  refine ⟨?_, ?_⟩
  · obtain ⟨t, e, ht, -⟩ := exec_regRead_eq (req := req) (off := off) (s := s) (wide := true)
    exact ⟨t, e, ht.trans (State.barRead_qword hd h8 h hr hw h' hr')⟩
  · obtain ⟨t, e, ht, hl, -⟩ := exec_regRead_eq (req := req) (off := off) (s := s) (wide := false)
    rw [State.barRead_dword hd (by omega)] at ht hl
    refine ⟨t, e, ?_, fun u hu hlu => ?_⟩
    · rw [ht, State.readDword_of_plain h hr]
      simp only [State.tookFree_rdata, BitVec.toNat_ofNat]
      omega
    · obtain ⟨v, e', hv, -⟩ := exec_regRead_eq (req := req') (off := hi) (s := u) (wide := false)
      rw [State.barRead_dword hu h4, hhi] at hv
      have hlat := State.latch_readDword (s := s) (req := req) h hr hw
      refine ⟨v, e', ?_⟩
      have := State.readDword_of_latched (s := u) (req := req') h' hr' (by rw [hlu, hl]; simpa using hlat)
      rw [hv]
      have hv := (s.regValue off.toNat).isLt
      simp only [this, State.tookFree_rdata, BitVec.toNat_ofNat]
      omega

/-! ### Writes -/

/-- The offset `a` is that of a dword that is a register or the low half of one. -/
abbrev IsReg (a : Nat) : Prop :=
  a % 4 = 0 ∧ a < 0x800000 ∧ inWindow a = false ∧ ¬ (0x708000 ≤ a ∧ a < 0x709000) ∧ (regAt a).map (·.2) = some false

theorem State.writeDword_of_isReg {w} (h : IsReg a) : s.writeDword req a w = s.writeReg req a (w.setWidth 64) (maskBits 0 32) := by
  obtain ⟨-, hb, hw, hm, hr⟩ := h
  obtain ⟨⟨r, b⟩, hr, rfl⟩ := Option.map_eq_some_iff.1 hr
  unfold State.writeDword
  rw [if_neg hm, if_neg (not_or.2 ⟨by omega, by simp [hw]⟩), hr]

/-- No register lies beyond the blocks. -/
theorem State.writeDword_of_beyond {w} (h : 0x800000 ≤ a) : s.writeDword req a w = s := by
  unfold State.writeDword
  rw [if_neg (by omega), if_pos (.inl h)]

theorem State.barWrite_dword {v} (hd : s.dev ≠ .off) (ha : a % 4 = 0) : s.barWrite req a false v = s.writeDword req a (v.setWidth 32) := by
  unfold State.barWrite
  rw [if_neg hd, if_neg Bool.false_ne_true, if_neg (not_not.2 ha)]

theorem State.barWrite_off {wide v} (hd : s.dev = .off) : s.barWrite req a wide v = s := if_pos hd

/-- A misaligned write is without effect. -/
theorem State.barWrite_misaligned {wide v} (ha : a % 4 ≠ 0) : s.barWrite req a wide v = s := by
  unfold State.barWrite
  split
  · rfl
  · cases wide
    · simp
    · simp [show a % 8 ≠ 0 by omega]

theorem State.barWrite_beyond {wide v} (h : 0x800000 ≤ a) : s.barWrite req a wide v = s := by
  have h0 (w w' : Word) : (s.writeDword req a w).writeDword req (a + 4) w' = s := by
    rw [State.writeDword_of_beyond h, State.writeDword_of_beyond (by omega)]
  unfold State.barWrite
  split
  · rfl
  · cases wide
    · rw [if_neg Bool.false_ne_true, State.writeDword_of_beyond h, ite_self]
    · rw [if_pos rfl]
      split
      · rfl
      · split
        · rw [if_neg (by simp [show ¬ a < 0x800000 by omega]), h0]
        · exact h0 _ _

/-- Only a write to CSC_CMD can start a remote access. -/
theorem State.fullWrite_eq {wide v} (h : s.dev ≠ .off → a = R.CSC_CMD → v.toNat % 16 ≠ 4)
    (h' : s.dev ≠ .off → wide = true → a + 4 ≠ R.CSC_CMD) : s.fullWrite req a wide v = s.barWrite req a wide v := by
  unfold State.fullWrite
  refine if_neg ?_
  cases wide
  · simpa using fun ha hv => not_not.1 fun hd => h hd ha hv
  · simpa using fun ha _ hd => absurd ha (h' hd rfl)

/-- A write of a dword to a register is `writeReg`, but for the one that is a remote access. -/
theorem exec_regWrite_dword {v} (hd : s.dev ≠ .off) (h : IsReg off.toNat) (hc : ¬ (off.toNat = R.CSC_CMD ∧ v.toNat % 16 = 4)) :
    exec (.regWrite req off .dword v) s = .next (s.writeReg req off.toNat ((v.setWidth 32).setWidth 64) (maskBits 0 32)) := by
  rw [exec_regWrite]
  unfold execRegWrite
  dsimp only
  rw [State.fullWrite_eq (wide := false) (fun _ ha hv => hc ⟨ha, hv⟩) nofun, State.barWrite_dword hd h.1, State.writeDword_of_isReg h]

theorem next_after {f : State → Host.Outcome State Fault Refusal} (h : Keeps s (f s)) : .next (s.after f) = f s := by
  obtain ⟨t, e, -⟩ := h
  unfold State.after
  rw [e]
  rfl

/-- A write that is a command has the command's meaning. -/
theorem exec_regWrite_command {v} {f : State → Host.Outcome State Fault Refusal} (hd : s.dev ≠ .off) (h : IsReg off.toNat)
    (hc : ¬ (off.toNat = R.CSC_CMD ∧ v.toNat % 16 = 4))
    (hf : s.writeReg req off.toNat ((v.setWidth 32).setWidth 64) (maskBits 0 32) = s.after f) (hk : Keeps s (f s)) :
    exec (.regWrite req off .dword v) s = f s := by
  rw [exec_regWrite_dword hd h hc, hf, next_after hk]

/-! ### The accesses that find nothing -/

theorem exec_regWrite_nothing {z v} (h : s.dev = .off ∨ off.toNat % 4 ≠ 0 ∨ 0x800000 ≤ off.toNat) : exec (.regWrite req off z v) s = .next s := by
  have hb wide : s.fullWrite req off.toNat wide v = s := by
    have hc : R.CSC_CMD = 0x500004 := rfl
    have hn := h.resolve_left
    rw [State.fullWrite_eq (fun hd ha => by have := hn hd; omega) (fun hd _ => by have := hn hd; omega)]
    obtain h | h | h := h
    · exact State.barWrite_off h
    · exact State.barWrite_misaligned h
    · exact State.barWrite_beyond h
  cases z
  · exact congrArg _ (hb false)
  · exact congrArg _ (hb true)
  · rfl

theorem exec_regRead_off {wide} (hd : s.dev = .off) : exec (.regRead req off wide) s = .next s := by
  simp [execRegRead, State.barRead, State.hostCpl, hd]

theorem State.readDword_of_beyond (h : 0x800000 ≤ a) : s.readDword req a = (0, s) := by
  have hf : R.FAB_RB_DATA = 0x80064 := rfl
  unfold State.readDword
  rw [if_neg (by omega), if_neg (by omega), if_neg (by omega), if_pos (.inl h)]
  unfold State.barDword
  rw [if_pos h]

theorem exec_regRead_beyond (hd : s.dev ≠ .off) (h : 0x800000 ≤ off.toNat) (ha : off.toNat % 4 = 0) :
    exec (.regRead req off false) s = .next { s with
      rdata := 0, free := s.free + 1, hif := { s.hif with cpl := if req = .host then .success else s.hif.cpl } } := by
  have hc : (false && off.toNat % 8 != 0 || decide (4 < off.toNat % 8)) = false := decide_eq_false (by omega)
  have hb : (req == .host && s.dev != .off) = decide (req = .host) := by cases req <;> simp [hd]
  rw [exec_regRead]
  unfold execRegRead
  dsimp only
  rw [State.hostCpl_eq, State.barRead_dword hd ha, State.readDword_of_beyond h, hc, hb]
  simp [State.tookFree]

/-- What completes a read of the host depends on whether it crosses 8 bytes. -/
theorem exec_hostRead {wide} (hd : s.dev ≠ .off) : ∃ t, exec (.regRead .host off wide) s = .next t ∧
    t.hif.cpl = if wide && off.toNat % 8 != 0 || decide (4 < off.toNat % 8) then .ur else .success :=
  ⟨_, rfl, by rw [State.hostCpl_eq]; simp [hd]⟩

/-! ### Fields of a register -/

/-- Bits of a dword that is written to the low half of a register. -/
theorem getBits_merge {x : Word} {old : Wide} {lo w : Nat} (h : lo + w ≤ 32) :
    getBits ((x.setWidth 64 &&& maskBits 0 32) ||| (old &&& ~~~ maskBits 0 32)) lo w = x.toNat / 2 ^ lo % 2 ^ w := by
  apply Nat.eq_of_testBit_eq
  intro i
  simp only [testBit_getBits, Nat.testBit_mod_two_pow, Nat.testBit_div_two_pow]
  by_cases hi : i < w
  · have hl : lo + i < 32 := by omega
    rw [BitVec.getLsbD_or, BitVec.getLsbD_and, BitVec.getLsbD_and, BitVec.getLsbD_not, testBit_maskBits 0 32 _ (by decide),
      BitVec.getLsbD_setWidth, Nat.add_comm i]
    simp [hl, show lo + i < 64 by omega, hi, BitVec.getLsbD]
  · simp [hi]

/-- A one-bit field is its bit of the register. -/
theorem State.bit_eq {f : Fld} (hf : f.w = 1) : s.bit f = (s.reg f.off).getLsbD f.lo := by
  have h := testBit_getBits (s.reg f.off) f.lo 1 0
  have hlt : getBits (s.reg f.off) f.lo 1 < 2 := Nat.mod_lt _ (by decide)
  unfold State.bit State.fld
  rw [hf, ← show _ = (s.reg f.off).getLsbD f.lo by simpa using h, Nat.mod_eq_of_lt hlt]
  exact beq_eq_decide _ _

theorem getLsbD_putBits_same {v : Wide} {lo w x i : Nat} (h : lo + w ≤ 64) (hi : lo ≤ i ∧ i < lo + w) :
    (putBits v lo w x).getLsbD i = x.testBit (i - lo) := by
  rw [getLsbD_putBits _ _ _ _ _ h, if_pos hi]

theorem getLsbD_putBits_ne {v : Wide} {lo w x i : Nat} (h : lo + w ≤ 64) (hi : ¬ (lo ≤ i ∧ i < lo + w)) :
    (putBits v lo w x).getLsbD i = v.getLsbD i := by
  rw [getLsbD_putBits _ _ _ _ _ h, if_neg hi]

/-- A W1C bit stays where the dword that is written has a 0. -/
theorem testBit_w1c {old v : Wide} {i : Nat} (hi : i < 32) :
    (getBits (old &&& ~~~ ((v.setWidth 32).setWidth 64 &&& maskBits 0 32)) i 1).testBit 0 = (old.getLsbD i && !bitOf v.toNat i) := by
  rw [testBit_getBits, BitVec.getLsbD_and, BitVec.getLsbD_not, BitVec.getLsbD_and, testBit_maskBits 0 32 _ (by decide),
    BitVec.getLsbD_setWidth, BitVec.getLsbD_setWidth]
  simp [hi, show i < 64 by omega, bitOf, BitVec.getLsbD]

theorem onlyRegs_setReg {v} : onlyRegs s (s.setReg a v) [a] :=
  ⟨rfl, fun _ ho => State.reg_setReg_ne s v (List.ne_of_not_mem_cons ho)⟩

theorem State.glbState_lt : s.glbState < 16 := by
  unfold State.glbState
  extract_lets any
  split
  case h_6 => split_ifs <;> decide
  all_goals decide

/-! ### The registers named -/

/-- A write to HIF_CFG stores the two fields of its row, which software may write. -/
theorem hifCfg_written {v : Wide} (hs : s.regsWf) (hd : s.dev ≠ .off) :
    ∃ t, exec (.regWrite req 0x700000 .dword v) s = .next t ∧ t.fld F.HIF_CFG.ELOG_US = v.toNat / 2 ^ 16 % 256 ∧
      t.bit F.HIF_CFG.HOLD_ON_LINK = bitOf v.toNat 0 ∧ onlyRegs s t [R.HIF_CFG] := by
  have e : s.writeReg req R.HIF_CFG ((v.setWidth 32).setWidth 64) (maskBits 0 32) = s.setReg R.HIF_CFG (writeRow
      [⟨23, 16, "ELOG_US", .rw, 0xa⟩, ⟨0, 0, "HOLD_ON_LINK", .rw, 1⟩] (s.reg R.HIF_CFG) ((v.setWidth 32).setWidth 64) (maskBits 0 32)) := rfl
  refine ⟨_, (exec_regWrite_dword (off := 0x700000) hd (by decide) (fun h => nomatch h.1)).trans (congrArg _ e), ?_, ?_, onlyRegs_setReg⟩
  · unfold State.fld
    rw [State.reg_setReg _ _ hs]
    simp only [writeRow, writeField, List.foldl]
    rw [getBits_putBits_ne _ _ _ _ _ _ (by decide) (by decide), getBits_putBits _ _ _ _ (by decide), getBits_merge (by decide)]
    simp only [BitVec.toNat_setWidth]
    omega
  · rw [State.bit_eq rfl, State.reg_setReg _ _ hs]
    simp (disch := decide) only [writeRow, writeField, List.foldl, getLsbD_putBits_same, getBits_merge]
    simp [bitOf]

/-- A write to HIF_LINK clears the W1C bits that it has a 1 for, and no RO field. -/
theorem hifLink_written {v : Wide} (hs : s.regsWf) (hd : s.dev ≠ .off) :
    ∃ t, exec (.regWrite req 0x700004 .dword v) s = .next t ∧ t.bit F.HIF_LINK.UP = s.bit F.HIF_LINK.UP ∧
      t.bit F.HIF_LINK.DOWN_SEEN = (s.bit F.HIF_LINK.DOWN_SEEN && !bitOf v.toNat 18) ∧
      t.bit F.HIF_LINK.HOTRST_SEEN = (s.bit F.HIF_LINK.HOTRST_SEEN && !bitOf v.toNat 19) ∧ onlyRegs s t [R.HIF_LINK] := by
  have e : s.writeReg req R.HIF_LINK ((v.setWidth 32).setWidth 64) (maskBits 0 32) = s.setReg R.HIF_LINK (writeRow
      [⟨19, 19, "HOTRST_SEEN", .w1c, 0⟩, ⟨18, 18, "DOWN_SEEN", .w1c, 0⟩, ⟨17, 17, "NARROW", .ro, 0⟩, ⟨16, 16, "UP", .ro, 0⟩,
        ⟨9, 4, "WIDTH", .ro, 0⟩, ⟨3, 0, "SPEED", .ro, 0⟩] (s.reg R.HIF_LINK) ((v.setWidth 32).setWidth 64) (maskBits 0 32)) := rfl
  refine ⟨_, (exec_regWrite_dword (off := 0x700004) hd (by decide) (fun h => nomatch h.1)).trans (congrArg _ e), ?_, ?_, ?_, onlyRegs_setReg⟩
  all_goals
    rw [State.bit_eq rfl, State.bit_eq rfl, State.reg_setReg _ _ hs]
    simp (disch := decide) only [writeRow, writeField, List.foldl, getLsbD_putBits_same, getLsbD_putBits_ne]
  · exact (testBit_getBits _ _ _ _).trans (by simp)
  · exact testBit_w1c (by decide)
  · exact testBit_w1c (by decide)

/-- What a read of a dword that is a register leaves of the registers. -/
theorem State.reg_barRead (hd : s.dev ≠ .off) (ha : a % 4 = 0) (h : Plain a) (hr : regAt a = some (r, false)) (o : Nat) :
    (s.barRead req a false).reg o = (s.setReg a (readClear r.fields (s.reg a) (maskBits 0 32))).reg o := by
  rw [State.barRead_dword hd ha, State.readDword_of_plain h hr, State.cleared_eq hr]
  cases r.wide <;> rfl

theorem State.rdata_barRead (hd : s.dev ≠ .off) (ha : a % 4 = 0) (h : Plain a) (hr : regAt a = some (r, false)) :
    (s.barRead req a false).rdata.toNat = (s.regValue a).toNat % 2 ^ 32 := by
  rw [State.barRead_dword hd ha, State.readDword_of_plain h hr]
  simp only [State.tookFree_rdata, BitVec.toNat_ofNat]
  omega

/-- A register that has no RC field is as it was after a read. -/
theorem State.reg_setReg_self (hs : s.regsWf) (o : Nat) : (s.setReg a (s.reg a)).reg o = s.reg o := by
  by_cases ho : o = a
  · rw [ho, State.reg_setReg _ _ hs]
  · exact State.reg_setReg_ne s _ ho

/-- A read of PWR_TEMP_0 shows it and clears MAX. -/
theorem pwrTemp_read (hs : s.regsWf) (hd : s.dev ≠ .off) :
    ∃ t, exec (.regRead req 0x680040 false) s = .next t ∧ t.rdata.toNat = (s.reg (R.PWR_TEMP 0)).toNat % 2 ^ 32 ∧
      t.fld (F.PWR_TEMP.MAX 0) = 0 ∧ t.fld (F.PWR_TEMP.TEMP 0) = s.fld (F.PWR_TEMP.TEMP 0) ∧ regsBut s t [R.PWR_TEMP 0] := by
  have hr : regAt (R.PWR_TEMP 0) = some (⟨"PWR_TEMP_s", 0x680040, [(4, 0, 8)], false, .por, [⟨31, 16, "MAX", .rc, 0⟩, ⟨15, 0, "TEMP", .ro, 0⟩]⟩, false) :=
    rfl
  have hp : Plain (R.PWR_TEMP 0) := ⟨by decide, by decide, by decide⟩
  obtain ⟨t, e, hv, -, -, ht⟩ := exec_regRead_eq (req := req) (off := 0x680040) (s := s) (wide := false)
  have hreg o : t.reg o = (s.setReg (R.PWR_TEMP 0) (putBits (s.reg (R.PWR_TEMP 0)) 16 16 0)).reg o :=
    (ht o).trans (State.reg_barRead hd rfl hp hr o)
  refine ⟨t, e, ?_, ?_, ?_, fun o ho => ?_⟩
  · exact (congrArg _ hv).trans (State.rdata_barRead hd rfl hp hr)
  · unfold State.fld
    rw [hreg, State.reg_setReg _ _ hs, getBits_putBits _ _ _ _ (by decide)]
    rfl
  · unfold State.fld
    rw [hreg, State.reg_setReg _ _ hs, getBits_putBits_ne _ _ _ _ _ _ (by decide) (by decide)]
  · rw [hreg, State.reg_setReg_ne s _ (List.ne_of_not_mem_cons ho)]

/-- A read of TICK_COUNT with one access shows the tick and changes no register. -/
theorem tickCount_read (hs : s.regsWf) (hd : s.dev ≠ .off) :
    ∃ t, exec (.regRead req 0x40010 true) s = .next t ∧ t.rdata = s.tick ∧ t.tick = s.tick ∧ regsBut s t [] := by
  have e : s.barRead req R.TICK_COUNT true =
      { s.setReg R.TICK_COUNT (s.reg R.TICK_COUNT) with rdata := BitVec.ofNat 64 s.tick.toNat }.tookFree := if_neg hd
  obtain ⟨t, e', hv, -, ht, hreg⟩ := exec_regRead_eq (req := req) (off := 0x40010) (s := s) (wide := true)
  rw [show (0x40010 : BitVec 26).toNat = R.TICK_COUNT from rfl, e] at hv ht
  refine ⟨t, e', ?_, ht, fun o _ => ?_⟩
  · rw [hv]
    exact BitVec.eq_of_toNat_eq (Nat.mod_eq_of_lt s.tick.isLt)
  · rw [hreg, show (0x40010 : BitVec 26).toNat = R.TICK_COUNT from rfl, e]
    exact State.reg_setReg_self hs o

/-- A read of GLB_STATE shows the device's state and changes no register. -/
theorem glbState_read (hs : s.regsWf) (hd : s.dev ≠ .off) :
    ∃ t, exec (.regRead req 0x8 false) s = .next t ∧ t.rdata.toNat % 16 = s.glbState ∧ regsBut s t [] := by
  have hr : regAt 0x8 = some (⟨"GLB_STATE", 0x8, [], false, .warm, [⟨31, 16, "SITE_ACTIVE", .ro, 0⟩, ⟨3, 0, "STATE", .ro, 1⟩]⟩, false) := rfl
  have hp : Plain 0x8 := ⟨by decide, by decide, by decide⟩
  have hview : s.regValue 0x8 = BitVec.ofNat 64 (s.glbState + siteBits s.siteActive * 2 ^ 16) := rfl
  obtain ⟨t, e, hv, -, -, ht⟩ := exec_regRead_eq (req := req) (off := 0x8) (s := s) (wide := false)
  refine ⟨t, e, ?_, fun o _ => ?_⟩
  · have hlt := s.glbState_lt
    rw [hv, show (0x8 : BitVec 26).toNat = 0x8 from rfl, State.rdata_barRead hd rfl hp hr, hview, BitVec.toNat_ofNat]
    omega
  · exact ((ht o).trans (State.reg_barRead hd rfl hp hr o)).trans (State.reg_setReg_self hs o)

/-- PSQ_CMD of a sequencer is a register, and its offset gives the sequencer back. -/
theorem psqCmd_isReg : ∀ n : Fin 16, IsReg (R.PSQ_CMD n) ∧ idx 16 (R.PSQ_CMD n) 0x200000 0x1000 = n := by decide

theorem writeReg_psqCmd {n : Fin 16} : s.writeReg req (R.PSQ_CMD n) 1 (maskBits 0 32) = s.after (execPsqArm req n) := by
  have hi := (psqCmd_isReg n).2
  have hc : R.PSQ_CMD n = 0x200000 + 0x1000 * n := rfl
  have hn := n.isLt
  unfold State.writeReg
  rw [if_neg (by omega), if_neg (by omega), if_neg (by omega), if_neg (by omega), if_neg (by omega), if_neg (by omega),
    if_pos (by omega), hi, show R.PSQ_CMD n % 0x1000 = 0 by omega]
  rfl

/-- CSC_CMD with OP = 4 is REMOTE. -/
theorem exec_regWrite_remote (hd : s.dev ≠ .off) : exec (.regWrite req 0x500004 .dword 4) s = exec (.remote req) s := by
  have h : s.fullWrite req R.CSC_CMD false 4 = s.after (execRemote req) := by
    unfold State.fullWrite
    rw [State.barWrite_dword hd rfl, State.writeDword_of_isReg (by decide)]
    exact if_pos (by simpa using hd)
  exact (congrArg _ h).trans (next_after .execRemote)

/-- The commands that a write of one dword is. -/
theorem commands_written {n : Fin 16} (hd : s.dev ≠ .off) :
    exec (.regWrite req 0x600004 .dword 1) s = exec (.errRoll req) s ∧ exec (.regWrite req 0x600004 .dword 2) s = exec (.errClear req) s ∧
    exec (.regWrite req 0x600004 .dword 3) s = exec (.dumpAck req) s ∧ exec (.regWrite req 0x580004 .dword 1) s = exec (.nightfall req) s ∧
    exec (.regWrite req 0x500004 .dword 1) s = exec (.form req) s ∧ exec (.regWrite req 0x500004 .dword 2) s = exec (.leave req) s ∧
    exec (.regWrite req 0x500004 .dword 4) s = exec (.remote req) s ∧ exec (.regWrite req 0x680000 .dword 0x113) s = exec (.pwrOn req 19) s ∧
    exec (.regWrite req 0x680000 .dword 0x214) s = exec (.pwrOff req 20) s ∧
    exec (.regWrite req (BitVec.ofNat 26 (R.PSQ_CMD n)) .dword 1) s = exec (.psqArm req n) s := by
  have hoff : (BitVec.ofNat 26 (R.PSQ_CMD n)).toNat = R.PSQ_CMD n := by
    have hc : R.PSQ_CMD n = 0x200000 + 0x1000 * n := rfl
    have hn := n.isLt
    simp only [BitVec.toNat_ofNat]
    omega
  refine ⟨?_, ?_, ?_, ?_, ?_, ?_, exec_regWrite_remote hd, ?_, ?_, ?_⟩
  · exact exec_regWrite_command (off := 0x600004) hd (by decide) (by decide) rfl .execErrRoll
  · exact exec_regWrite_command (off := 0x600004) hd (by decide) (by decide) rfl .execErrClear
  · exact exec_regWrite_command (off := 0x600004) hd (by decide) (by decide) rfl .execDumpAck
  · exact exec_regWrite_command (off := 0x580004) hd (by decide) (by decide) rfl .execNightfall
  · exact exec_regWrite_command (off := 0x500004) hd (by decide) (by decide) rfl .execForm
  · exact exec_regWrite_command (off := 0x500004) hd (by decide) (by decide) rfl .execLeave
  · exact exec_regWrite_command (off := 0x680000) hd (by decide) (by decide) rfl .execPwrOn
  · exact exec_regWrite_command (off := 0x680000) hd (by decide) (by decide) rfl .execPwrOff
  · refine exec_regWrite_command hd (hoff.symm ▸ (psqCmd_isReg n).1) (fun h => nomatch h.2) ?_ .execPsqArm
    rw [hoff]
    exact writeReg_psqCmd

end

/-- Settles O60: each clause is the lemma above of the accesses or of the register that it names. -/
theorem registerAccesses : Obligations.RegisterAccesses := by
  refine ⟨fun req off w z v s => ⟨fun hd => ⟨?_, ?_⟩, rfl, fun ha => ?_, fun hb => ?_⟩, fun req off s hd hb ha => ?_, fun off w s hd => ⟨fun h => ?_, fun h => ?_⟩,
    fun req v s hs hd => ⟨?_, ?_⟩, fun req s hs hd => ?_, fun req s hs hd => ⟨?_, ?_⟩, fun req n s hd => ?_⟩
  · exact exec_regWrite_nothing (.inl hd)
  · exact exec_regRead_off hd
  · exact exec_regWrite_nothing (.inr (.inl ha))
  · exact exec_regWrite_nothing (.inr (.inr hb))
  · exact exec_regRead_beyond hd hb ha
  · obtain ⟨t, e, ht⟩ := exec_hostRead (off := off) (wide := w) hd
    exact ⟨t, e, ht.trans (if_neg (by cases w <;> simp at h ⊢ <;> omega))⟩
  · obtain ⟨t, e, ht⟩ := exec_hostRead (off := off) (wide := w) hd
    exact ⟨t, e, ht.trans (if_pos (by cases w <;> simp at h ⊢ <;> omega))⟩
  · exact hifCfg_written hs hd
  · exact hifLink_written hs hd
  · exact pwrTemp_read hs hd
  · exact tickCount_read hs hd
  · exact glbState_read hs hd
  · exact commands_written hd

end Sys2Proof.Machine
end

section
/-! THE FRAME TICK. What leaves the tick, FCK and the sequencers alone; arming a site, and the writes of TICK_CTRL.CNT_CLR and TICK_UIREP (R58). -/

open Sys2Proof.Claims

namespace Sys2Proof.Machine

section

variable {s t u : State} {q : Bool}

/-- `t` stands in the tick of `s`, and FCK runs in it, and is to stop, as in `s`; and when `q`, its sequencers are those of `s`. -/
def Paced (q : Bool) (s t : State) : Prop :=
  t.tick = s.tick ∧ t.fckOn = s.fckOn ∧ t.fckStop = s.fckStop ∧ (q = true → t.psq = s.psq)

namespace Paced

theorem refl : Paced q s s := ⟨rfl, rfl, rfl, fun _ => rfl⟩

theorem trans (h : Paced q s t) (h' : Paced q t u) : Paced q s u := by
  obtain ⟨ht, ho, hs, hq⟩ := h
  obtain ⟨ht', ho', hs', hq'⟩ := h'
  exact ⟨ht'.trans ht, ho'.trans ho, hs'.trans hs, fun e => (hq' e).trans (hq e)⟩

theorem getPsq (h : Paced true s t) {n} : t.getPsq n = s.getPsq n := congrArg (mget _ n) (h.2.2.2 rfl)

theorem ite {c : Prop} [Decidable c] (ht : Paced q s t) (hu : Paced q s u) : Paced q s (if c then t else u) := by split <;> assumption

theorem foldl {α : Type} {f : State → α → State} {l : List α} (h : Paced q s t) (hf : ∀ t x, Paced q s t → Paced q s (f t x)) :
    Paced q s (l.foldl f t) := by
  induction l generalizing t with
  | nil => exact h
  | cons x l ih => exact ih (hf t x h)

/-- No part of the state but the tick, FCK and the sequencers bears on it. -/
theorem other {pending free f128 dev devFault fckSet fckNew regs latch mem hmem msix err fab slices pslLost sources queues streams xPkts slv csc
    bist sec dump noc cfg hif jtag aux pwr rdata} (h : Paced q s t) :
    Paced q s { t with pending, free, f128, dev, devFault, fckSet, fckNew, regs, latch, mem, hmem, msix, err, fab, slices, pslLost, sources,
                       queues, streams, xPkts, slv, csc, bist, sec, dump, noc, cfg, hif, jtag, aux, pwr, rdata } := h

/-! ### The named updates of the state -/

theorem setReg (h : Paced q s t) {off v} : Paced q s (t.setReg off v) := h
theorem setFld (h : Paced q s t) {f x} : Paced q s (t.setFld f x) := h
theorem setFlds (h : Paced q s t) {xs} : Paced q s (t.setFlds xs) := .foldl h fun _ _ h => .setFld h
theorem addSat (h : Paced q s t) {f n} : Paced q s (t.addSat f n) := h
theorem tookFree (h : Paced q s t) : Paced q s t.tookFree := h
theorem setPsq (h : Paced false s t) {n p} : Paced false s (t.setPsq n p) := ⟨h.1, h.2.1, h.2.2.1, nofun⟩
theorem setSlice (h : Paced q s t) {k x} : Paced q s (t.setSlice k x) := h
theorem setSource (h : Paced q s t) {x v} : Paced q s (t.setSource x v) := h
theorem setQueue (h : Paced q s t) {k v} : Paced q s (t.setQueue k v) := h
theorem setXPkt (h : Paced q s t) {x l} : Paced q s (t.setXPkt x l) := h
theorem setCell (h : Paced q s t) {k c} : Paced q s (t.setCell k c) := h
theorem setNxt (h : Paced q s t) {k c} : Paced q s (t.setNxt k c) := h
theorem setCtx (h : Paced q s t) {k c} : Paced q s (t.setCtx k c) := h
theorem setSelWaiting (h : Paced q s t) {n c} : Paced q s (t.setSelWaiting n c) := h
theorem setLane (h : Paced q s t) {l v} : Paced q s (t.setLane l v) := h
theorem setCport (h : Paced q s t) {p v} : Paced q s (t.setCport p v) := h
theorem report (h : Paced q s t) {code source detail} : Paced q s (t.report code source detail) := h
theorem setRgnState (h : Paced q s t) {g st} : Paced q s (t.setRgnState g st) := h
theorem loseReplays (h : Paced q s t) {k} : Paced q s (t.loseReplays k) := h
theorem newRun (h : Paced q s t) {l} : Paced q s (t.newRun l) := h

/-! ### Writes of units, and reports -/

theorem setDpaByte (h : Paced q s t) {a b} : Paced q s (t.setDpaByte a b) := by
  unfold State.setDpaByte
  split
  case h_4 => exact .ite (.other h) h
  all_goals exact h

theorem setDpaBytes (h : Paced q s t) {a bs} : Paced q s (t.setDpaBytes a bs) := by
  induction bs generalizing t a with
  | nil => exact h
  | cons b bs ih => exact ih (.setDpaByte h)

theorem unitWrite (h : Paced q s t) {ni a bs} : Paced q s (t.unitWrite ni a bs) := by
  refine .setDpaBytes ?_
  unfold State.snoopInv
  split
  · exact .other h
  · exact h

theorem accLog (h : Paced q s t) {ni a c} : Paced q s (t.accLog ni a c) := .ite (.report h) (.ite (.ite (.report h) (.report h)) h)

theorem signal (h : Paced q s t) {v} : Paced q s (t.signal v) := .ite (.other h) (.other h)

theorem postEvent (h : Paced q s t) {typ arg0 arg1 vec} : Paced q s (t.postEvent typ arg0 arg1 vec) :=
  .ite (.signal h) (.ite (.signal (.setFld (.ite (.unitWrite h) (.accLog h)))) (.signal (.addSat h)))

/-! ### Contexts and queues as a site is armed -/

theorem logActivation (h : Paced q s t) {k p c} : Paced q s (t.logActivation k p c) := .ite h (.ite (.report (.setFld h)) (.report (.setFld h)))

theorem logMuxFaults (h : Paced q s t) {p c} : Paced q s (t.logMuxFaults p c) :=
  .foldl h fun _ _ h => .report (.setReg (.setReg (.ite (.addSat h) (.addSat h))))

theorem activate (h : Paced q s t) {k c} : Paced q s (t.activate k c) := by
  unfold State.activate
  split
  · exact .setCtx h
  · exact .ite (.logMuxFaults (.logActivation h)) (.logMuxFaults (.logActivation (.setCtx h)))

theorem armQueue (h : Paced q s t) {k} : Paced q s (t.armQueue k) := by
  unfold State.armQueue
  extract_lets _ s1 _ s2 s3 s4 s5
  have h2 : Paced q s s2 := .foldl (.setQueue h) fun _ _ h => .setSource h
  have h4 : Paced q s s4 := .foldl (.setReg (.setReg h2)) fun _ _ h => .setFld h
  have h5 : Paced q s s5 := .ite (.unitWrite h4) (.accLog h4)
  exact .ite (.unitWrite h5) h5

theorem clearLaneCounts (h : Paced q s t) {l} : Paced q s (t.clearLaneCounts l) := .setReg (.setReg (.setReg (.setReg (.setReg (.setReg h)))))

theorem acceptTap (h : Paced q s t) {l k n} : Paced q s (t.acceptTap l k n) := by
  unfold State.acceptTap
  extract_lets v s0 old e s1
  have h0 : Paced q s s0 := .ite h (.newRun (.clearLaneCounts h))
  have h1 : Paced q s s1 := .setLane h0
  exact .ite (.setFld (.setFld h1)) h1

theorem acceptTaps (h : Paced q s t) {n} : Paced q s (t.acceptTaps n) := .foldl h fun _ _ h => .ite (.acceptTap (.loseReplays h)) (.loseReplays h)

end Paced

/-- The sequencer of site `n` as ARM leaves it (R165). -/
def State.armedPsq (s : State) (n : Nat) : Psq :=
  (s.getPsq n).armed (s.fld (F.TICK_UIREP.REPEAT n)) (s.bit (F.PSQ_CFG.IE_INIT n)) (s.bit (F.PSQ_CFG.RUN_PRIV n))
    (BitVec.ofNat 16 (s.fld (F.PSQ_ENTRY.RUN_PC n)))

/-- Arming a site arms its sequencer, and leaves the others, the tick and FCK alone. -/
theorem Paced.commitArm_setPsq {n} : Paced q (s.setPsq n (s.armedPsq n)) (s.commitArm n) := by
  unfold State.commitArm
  extract_lets s1 s2 _ s3 s4 s5 s6
  have h2 : Paced q s1 s2 := .foldl .refl fun _ _ h => .ite (.setRgnState h) h
  have h4 : Paced q s1 s4 := .foldl (.setSelWaiting (.setFld (.setFld h2))) fun _ _ h => .foldl h fun _ _ h => .activate h
  have h5 : Paced q s1 s5 := .acceptTaps (.foldl h4 fun _ _ h => .armQueue h)
  have h6 : Paced q s1 s6 := .foldl h5 fun _ _ h => .foldl h fun _ _ h => .ite (.report h) h
  exact .other h6

theorem State.getPsq_commitArm {n : Nat} : (s.commitArm n).getPsq n = s.armedPsq n := by
  have hne : s.armedPsq n ≠ Psq.reset := fun e => SiteMode.noConfusion (congrArg Psq.mode e)
  rw [Paced.commitArm_setPsq.getPsq]
  exact mget_mset_of_ne (d := fun _ => Psq.reset) hne _

end

theorem logs_logRefused {s : State} {req : Requester} {off : Nat} : logs s (s.logRefused req off 0) C.STATE_REFUSED (srcRequester req) off := by
  unfold State.logRefused
  rw [Nat.zero_mul]
  rfl

/-- Settles O7: each clause is one branch of the write, and arming reads the stored factor. -/
theorem tickCounterAndRepeatWrites : Obligations.TickCounterAndRepeatWrites := by
  refine ⟨fun req s hs => ⟨_, rfl, State.reg_setReg _ _ hs, onlyRegs_setReg⟩, fun req n v s hs ha h1 h2 => ?_, fun req n v s ha hv => ?_,
    fun req n v s ha => ?_, fun n s => ?_⟩
  · rw [exec_tickUirepWrite, execTickUirepWrite, if_neg (by simp [ha]), if_neg (by omega)]
    refine ⟨_, rfl, ?_, onlyRegs_setReg⟩
    rw [State.fld_setFld _ _ hs (show 0 + 11 ≤ 64 by decide)]
    exact Nat.mod_mod _ _
  · rw [exec_tickUirepWrite, execTickUirepWrite, if_neg (by simp [ha]), if_pos (by omega)]
  · rw [exec_tickUirepWrite, execTickUirepWrite, if_pos ha]
    exact ⟨_, rfl, logs_logRefused, rfl, fun _ _ => rfl⟩
  · rw [State.getPsq_commitArm]
    exact ⟨rfl, rfl⟩

end Sys2Proof.Machine
end

section
/-! THE TICK BLOCK LEFT ALONE. Fields of a register after writes to others; and what holds, captures and failing calibrations leave alone: the tick,
FCK, attached memory, and the registers of the blocks below the fabric. -/

open Sys2Proof.Claims

namespace Sys2Proof.Machine

section

variable {s t : State}

/-! ### Fields after a list of writes -/

/-- A write to field `f` leaves field `g` alone. -/
def Fld.Apart (f g : Fld) : Prop := f.lo + f.w ≤ 64 ∧ (g.off ≠ f.off ∨ g.lo + g.w ≤ f.lo ∨ f.lo + f.w ≤ g.lo)

theorem State.fld_lt {f : Fld} : s.fld f < 2 ^ f.w := Nat.mod_lt _ (Nat.two_pow_pos _)

theorem State.fld_eq_zero_of_bit {f : Fld} (hf : f.w = 1) (h : s.bit f = false) : s.fld f = 0 := by
  have hlt : s.fld f < 2 ^ f.w := State.fld_lt
  have hne : s.fld f ≠ 1 := ne_of_beq_false h
  rw [hf] at hlt
  omega

theorem State.fld_setFlds_apart {g : Fld} {xs : List (Fld × Nat)} (hs : s.regsWf) (h : ∀ e ∈ xs, e.1.Apart g) :
    (s.setFlds xs).fld g = s.fld g := by
  induction xs generalizing s with
  | nil => rfl
  | cons e xs ih =>
    obtain ⟨⟨hfit, hd⟩, h⟩ := List.forall_mem_cons.1 h
    exact (ih (State.regsWf_setFld _ _ hs) h).trans (State.fld_setFld_ne _ _ _ hs hfit hd)

/-- A field that is written once in a list of writes reads what was written. -/
theorem State.fld_setFlds {f : Fld} {x : Nat} (pre post : List (Fld × Nat)) (hs : s.regsWf) (hf : f.lo + f.w ≤ 64)
    (h : ∀ e ∈ post, e.1.Apart f) : (s.setFlds (pre ++ (f, x) :: post)).fld f = x % 2 ^ f.w := by
  induction pre generalizing s with
  | nil => exact (State.fld_setFlds_apart (State.regsWf_setFld _ _ hs) h).trans (State.fld_setFld _ _ hs hf)
  | cons e pre ih => exact ih (State.regsWf_setFld _ _ hs)

theorem State.reg_setFlds_ne {o : Nat} {xs : List (Fld × Nat)} (h : ∀ e ∈ xs, o ≠ e.1.off) : (s.setFlds xs).reg o = s.reg o := by
  induction xs generalizing s with
  | nil => rfl
  | cons e xs ih =>
    obtain ⟨hne, h⟩ := List.forall_mem_cons.1 h
    exact (ih h).trans (State.reg_setFld_ne _ _ hne)

/-- A counter that has counted by `n`, held at its largest value. -/
theorem State.fld_addSat {f : Fld} {n : Nat} (hs : s.regsWf) (hf : f.lo + f.w ≤ 64) : (s.addSat f n).fld f = min (s.fld f + n) (2 ^ f.w - 1) := by
  have hpos : 0 < 2 ^ f.w := Nat.two_pow_pos _
  have hsat : satAt (2 ^ f.w - 1) (s.fld f + n) = min (s.fld f + n) (2 ^ f.w - 1) := by
    unfold satAt
    split <;> omega
  unfold State.addSat
  rw [State.fld_setFld _ _ hs hf, hsat, Nat.mod_eq_of_lt (by omega)]

theorem State.setFlds_eq {xs : List (Fld × Nat)} : s.setFlds xs = { s with regs := (s.setFlds xs).regs } := by
  induction xs generalizing s with
  | nil => rfl
  | cons e xs ih => exact ih.trans rfl

theorem State.setFlds_mem {xs : List (Fld × Nat)} : (s.setFlds xs).mem = s.mem := by
  rw [State.setFlds_eq]

theorem State.report_mem {code source detail : Nat} : (s.report code source detail).mem = s.mem := rfl

theorem onlyRegs_setFlds {xs : List (Fld × Nat)} {offs : List Nat} (h : ∀ e ∈ xs, e.1.off ∈ offs) : onlyRegs s (s.setFlds xs) offs :=
  ⟨State.setFlds_eq, fun _ ho => State.reg_setFlds_ne fun e he heq => ho (heq ▸ h e he)⟩

/-! ### Reports of a requester -/

/-- Beside SOURCE and DETAIL a report of a requester carries nothing, but under a code of the configuration block. -/
theorem State.reportMore_requester {req : Requester} {code : Nat} (hc : code / 256 ≠ 9) : s.reportMore code (srcRequester req) = 0 := by
  have hsrc : srcRequester req / 2 ^ 28 = 14 := by
    cases req with
    | remote p =>
      have := p.isLt
      simp only [srcRequester]
      omega
    | _ => rfl
  unfold State.reportMore
  rw [hsrc, if_neg (by decide), if_neg hc]

theorem logs_report_requester {req : Requester} {code detail : Nat} {offs : List Nat} (h : onlyRegs s t offs) (hc : code / 256 ≠ 9) :
    logs s (t.report code (srcRequester req) detail) code (srcRequester req) detail := by
  have hreport : reportOf t code (srcRequester req) detail = reportOf s code (srcRequester req) detail := by
    unfold reportOf
    rw [State.reportMore_requester hc, State.reportMore_requester hc, h.1]
  have herr : t.err = s.err := by rw [h.1]
  unfold logs
  rw [← herr, ← hreport]
  rfl

theorem onlyRegsLog_report {code source detail : Nat} {offs : List Nat} (h : onlyRegs s t offs) :
    onlyRegsLog s (t.report code source detail) offs := by
  obtain ⟨heq, hreg⟩ := h
  refine ⟨?_, hreg⟩
  unfold State.report
  rw [heq]

/-! ### Holds, captures and calibrations -/

/-- `t` is paced as `s`, holds its attached memory, and its registers of the blocks below the fabric but TICK_SLIP_SITES. -/
structure Calm (s t : State) : Prop where
  paced : Paced false s t
  mem : t.mem = s.mem
  reg : ∀ o < 0x80000, o ≠ R.TICK_SLIP_SITES → t.reg o = s.reg o

namespace Calm

theorem refl : Calm s s := ⟨.refl, rfl, fun _ _ _ => rfl⟩

theorem fld (h : Calm s t) {f : Fld} (ho : f.off < 0x80000) (hne : f.off ≠ R.TICK_SLIP_SITES) : t.fld f = s.fld f :=
  congrArg (getBits · f.lo f.w) (h.reg f.off ho hne)

theorem ite {c : Prop} [Decidable c] (ht : Calm s t) (hu : Calm s u) : Calm s (if c then t else u) := by split <;> assumption

theorem foldl {α : Type} {f : State → α → State} {l : List α} (h : Calm s t) (hf : ∀ t x, Calm s t → Calm s (f t x)) :
    Calm s (l.foldl f t) := by
  induction l generalizing t with
  | nil => exact h
  | cons x l ih => exact ih (hf t x h)

theorem setReg (h : Calm s t) {off v} (ho : 0x80000 ≤ off ∨ off = R.TICK_SLIP_SITES) : Calm s (t.setReg off v) :=
  ⟨.setReg h.paced, h.mem, fun o hlt hne => (State.reg_setReg_ne t v (by omega)).trans (h.reg o hlt hne)⟩

theorem setFld (h : Calm s t) {f x} (ho : 0x80000 ≤ f.off ∨ f.off = R.TICK_SLIP_SITES) : Calm s (t.setFld f x) := .setReg h ho

theorem report (h : Calm s t) {code source detail} : Calm s (t.report code source detail) := ⟨.report h.paced, h.mem, h.reg⟩

theorem setPsq (h : Calm s t) {n p} : Calm s (t.setPsq n p) := ⟨.setPsq h.paced, h.mem, h.reg⟩

theorem setSlice (h : Calm s t) {k x} : Calm s (t.setSlice k x) := ⟨.setSlice h.paced, h.mem, h.reg⟩

theorem setSfx (h : Calm s t) {x} : Calm s (t.setSfx x) := ⟨.other h.paced, h.mem, h.reg⟩

theorem raiseHold (h : Calm s t) {n code} : Calm s (t.raiseHold n code) := by
  unfold State.raiseHold
  refine .ite h ?_
  extract_lets p s1 low
  have h1 : Calm s s1 := by
    unfold s1
    split
    · exact .report (.setFld h (.inl (Nat.le_add_right_of_le (by decide))))
    · exact h
  exact .setPsq h1

theorem holdSites (h : Calm s t) {ns code} : Calm s (t.holdSites ns code) := .foldl h fun _ _ h => .raiseHold h

theorem holdAll (h : Calm s t) {code} : Calm s (t.holdAll code) := .foldl h fun _ _ h => .raiseHold h

theorem sfxTrigger (h : Calm s t) {at' cause src named} : Calm s (t.sfxTrigger at' cause src named) :=
  .ite (.report (.setFld h (.inl (by decide))))
    (.ite (.report (.setFld h (.inl (by decide)))) (.setFld (.setFld (.setSfx h) (.inl (by decide))) (.inl (by decide))))

theorem calEnd (h : Calm s t) {k status} : Calm s (t.calEnd k status) := by
  unfold State.calEnd
  extract_lets s0 _ s1
  have h0 : Calm s s0 := .ite h (.setReg h (.inl (Nat.le_add_right_of_le (by decide))))
  have h1 : Calm s s1 := .setFld (.setSlice h0) (.inl (Nat.le_add_right_of_le (by decide)))
  exact .ite (.report h1) h1

theorem calFailAll (h : Calm s t) : Calm s t.calFailAll := .foldl h fun _ _ h => .calEnd h

end Calm

end

end Sys2Proof.Machine
end

section
/-! THE TICK EDGE. Nothing that the edge does but the edge itself changes the tick or FCK: one lemma for each function that it calls, in the order of the
model, up to the edge and the load that commits with it (R27, R52, R415). -/

open Sys2Proof.Claims

namespace Sys2Proof.Machine

namespace Paced

section

variable {s t : State} {α : Type}

theorem foldl_fst {β : Type} {f : State × α → β → State × α} {l : List β} {r : State × α} (h : Paced false s r.1)
    (hf : ∀ r x, Paced false s r.1 → Paced false s (f r x).1) : Paced false s (l.foldl f r).1 := by
  induction l generalizing r with
  | nil => exact h
  | cons x l ih => exact ih (hf r x h)

theorem ite_fst {c : Prop} [Decidable c] {r r' : State × α} (h : Paced false s r.1) (h' : Paced false s r'.1) :
    Paced false s (if c then r else r').1 := by split <;> assumption

theorem mapPsq (h : Paced false s t) {f} : Paced false s { t with psq := mmap (fun _ => Psq.reset) f t.psq } := ⟨h.1, h.2.1, h.2.2.1, nofun⟩

/-! ### Queues, sources and slices -/

theorem rgnLeaveLive (h : Paced false s t) {g} : Paced false s (t.rgnLeaveLive g) := .ite (.setRgnState (.other h)) h

theorem landPkt (h : Paced false s t) {k p} : Paced false s (t.landPkt k p) := by
  unfold State.landPkt
  split
  · exact .setQueue (.setSource h)
  · exact .setQueue h

theorem landFlight (h : Paced false s t) : Paced false s t.landFlight := .foldl h fun _ _ h => .foldl (.setQueue h) fun _ _ h => .landPkt h

theorem takeRefill (h : Paced false s t) {x} : Paced false s (t.takeRefill x) := .ite (.setSource h) (.ite (.setSource h) (.setSource h))

theorem stepCredits (h : Paced false s t) : Paced false s t.stepCredits := .foldl (.other h) fun _ _ h => .takeRefill h

theorem leaveQueues (h : Paced false s t) {n} : Paced false s (t.leaveQueues n) := .foldl h fun _ _ h => .ite (.setQueue h) h

theorem loadFrame (h : Paced false s t) {k de ex} : Paced false s (t.loadFrame k de ex) := by
  unfold State.loadFrame
  refine .ite h ?_
  extract_lets x c r order f s1 s3 s4
  have h1 : Paced false s s1 := .setSlice h
  have h3 : Paced false s s3 := .ite (.setFld h1) h1
  have h4 : Paced false s s4 := .ite (.setFld h3) h3
  exact .ite (.report h4) h4

theorem countGaps (h : Paced false s t) : Paced false s t.countGaps := .foldl h fun _ _ h => .ite (.addSat h) h

theorem stepSlices (h : Paced false s t) : Paced false s t.stepSlices := .other h

theorem safeBy (h : Paced false s t) {k at' n} : Paced false s (t.safeBy k at' n) := .tookFree (.setSlice h)

theorem noteSafes (h : Paced false s t) : Paced false s t.noteSafes := .foldl h fun _ _ h => .ite h (.safeBy (.setSlice h))

theorem settleSlice (h : Paced false s t) {k} : Paced false s (t.settleSlice k) := by
  unfold State.settleSlice
  extract_lets _ u
  have hu : Paced false s u := .ite (.safeBy h) h
  refine .ite (.ite (.setSlice hu) hu) (.ite (.setSlice hu) ?_)
  split
  · exact .ite (.setSlice hu) hu
  · exact .ite (.ite (.setSlice hu) hu) hu

theorem settleSlices (h : Paced false s t) : Paced false s t.settleSlices := .foldl h fun _ _ h => .settleSlice h

theorem returnFails (h : Paced false s t) {x} : Paced false s (t.returnFails x) := by
  unfold State.returnFails
  extract_lets e o fe fo w k base s1
  have h1 : Paced false s s1 := .ite h (.setNxt h)
  exact .ite h (.ite (.setXPkt h1) h1)

theorem tapStart (h : Paced false s t) {n t0} : Paced false s (t.tapStart n t0) := by
  refine .foldl h fun u l h => ?_
  dsimp only
  split
  · exact .ite (.setLane h) h
  · exact h

/-! ### The constellation -/

theorem raiseCscHold (h : Paced false s t) {kind grp code} : Paced false s (t.raiseCscHold kind grp code) := by
  unfold State.raiseCscHold
  extract_lets origin eff hold _ s1 mine all groups c _ s2
  have h1 : Paced false s s1 := .other h
  have h2 : Paced false s s2 := .other h1
  exact .ite h (.ite (.other h2) h1)

theorem keepVotes (h : Paced false s t) : Paced false s t.keepVotes := .ite (.other h) (.other h)

theorem enterDiscover (h : Paced false s t) : Paced false s t.enterDiscover :=
  .other (.setReg (.setFlds (.foldl h fun _ _ h => .setFld (.setCport h))))

theorem sendPkt (h : Paced false s t) {p k} : Paced false s (t.sendPkt p k) := .ite h (.ite (.other (.setCport h)) (.setCport h))

theorem tellPole (h : Paced false s t) : Paced false s t.tellPole := by
  refine .ite h ?_
  unfold State.sendReport
  split
  · exact .other h
  · exact .sendPkt (.other h)

theorem sendSyncs (h : Paced false s t) : Paced false s t.sendSyncs := by
  refine .foldl h fun u p h => ?_
  split
  · exact .ite (.tookFree (.other (.setCport h))) h
  · exact h

theorem stepCsc (h : Paced false s t) : Paced false s t.stepCsc := by
  unfold State.stepCsc
  extract_lets _ _ sa sb u _ _ _ _ s1
  have hb : Paced false s sb := .sendSyncs (.other h)
  have hu : Paced false s u := .ite (.enterDiscover hb) (.tellPole hb)
  have h1 : Paced false s s1 := .ite (.other hu) hu
  refine .ite hu (.ite (.ite ?_ h1) (.ite hu (.foldl hu fun _ _ h => .other h)))
  split
  · exact .foldl h1 fun _ _ h => .other h
  · exact h1

/-! ### Sites -/

theorem raiseHold (h : Paced false s t) {n code} : Paced false s (t.raiseHold n code) := h.trans (Calm.raiseHold .refl).paced

theorem holdSites (h : Paced false s t) {ns code} : Paced false s (t.holdSites ns code) := .foldl h fun _ _ h => .raiseHold h

theorem leaveActive (h : Paced false s t) {n} : Paced false s (t.leaveActive n) := .leaveQueues (.foldl h fun _ _ h => .rgnLeaveLive h)

theorem commitHold (h : Paced false s t) {n code} : Paced false s (t.commitHold n code) := by
  unfold State.commitHold
  extract_lets p s1 s2 s3 s4
  have h1 : Paced false s s1 := .setPsq (.ite (.leaveActive h) h)
  have h3 : Paced false s s3 := .postEvent (.setReg (.setFld h1))
  have h4 : Paced false s s4 := .ite (.report h3) h3
  exact .ite (.raiseCscHold h4) h4

theorem commitStop (h : Paced false s t) {n} : Paced false s (t.commitStop n) := by
  unfold State.commitStop State.unsealIdle
  extract_lets p s1
  have h1 : Paced false s s1 := .ite (.leaveActive h) h
  exact .ite (.setPsq (.setPsq h1)) (.setPsq h1)

theorem commitArm (h : Paced false s t) {n} : Paced false s (t.commitArm n) := (Paced.setPsq h).trans .commitArm_setPsq

theorem commitStart (h : Paced false s t) {n t0} : Paced false s (t.commitStart n t0) := .tapStart (.setReg (.setPsq h))

theorem commitSite (h : Paced false s t) {n} : Paced false s (t.commitSite n) := by
  unfold State.commitSite
  extract_lets p
  split
  · exact h
  · exact .commitArm h
  · exact .commitStart h
  · exact .setPsq h
  · exact .setPsq h
  · exact .setPsq h
  · exact .commitStop h
  · exact .commitHold h

theorem pendSelect (h : Paced false s t) {n c since} : Paced false s (t.pendSelect n c since) := by
  unfold State.pendSelect
  extract_lets t1 t2
  have h2 : Paced false s t2 := by
    refine .foldl (.setFld (.setFld h)) fun u g h => .ite (.foldl h fun v k h => ?_) h
    split
    · exact .ite h (.setCtx h)
    · exact h
  exact .other h2

theorem commitSelects (h : Paced false s t) : Paced false s t.commitSelects := by
  refine .foldl h fun t0 n h => ?_
  extract_lets u
  have hu : Paced false s u := by
    unfold u State.releaseSelect
    split
    · exact .pendSelect (.setSelWaiting h)
    · exact h
  split
  · exact hu
  · exact .ite (.setSelWaiting hu) (.pendSelect hu)

theorem stepMatch (h : Paced false s t) {n issued decs} : Paced false s (t.stepMatch n issued decs) := by
  unfold State.stepMatch
  extract_lets p hit d f p1 p2 s0 s1
  have h1 : Paced false s s1 := .foldl (.setPsq h) fun _ _ h => .setReg h
  exact .ite (.setReg h1) h1

theorem seeClocks (h : Paced false s t) : Paced false s t.seeClocks := .foldl h fun _ _ h => .other h

theorem latchFreezing (h : Paced false s t) : Paced false s t.latchFreezing := by
  unfold State.latchFreezing
  split
  · exact .ite (.other h) h
  · exact h

theorem thawCopy (h : Paced false s t) : Paced false s t.thawCopy := by
  unfold State.thawCopy
  split
  · extract_lets g n _ s1 s2
    have h2 : Paced false s s2 := .setFld (.other h)
    refine .ite (.foldl h2 fun u k h => ?_) h
    extract_lets t1
    have h1 : Paced false s t1 := .activate h
    split
    · exact .ite h1 (.setCtx h1)
    · exact h1
  · exact h

theorem holdFaulty (h : Paced false s t) {gs} : Paced false s (t.holdFaulty gs) := by
  refine .foldl h fun u g h => .foldl h fun v p h => ?_
  split
  · exact .raiseHold h
  · exact h

theorem loadFrames (h : Paced false s t) {xs} : Paced false s (t.loadFrames xs) := .foldl h fun _ _ h => .loadFrame (.loadFrame h)

theorem cutOffHold (h : Paced false s t) : Paced false s t.cutOffHold := by
  unfold State.cutOffHold
  split
  · exact .ite (.foldl h fun _ _ h => .raiseHold h) h
  · exact h

theorem faultHold (h : Paced false s t) {entered} : Paced false s (t.faultHold entered) := .ite (.raiseCscHold h) h

theorem pushTrace (h : Paced false s t) {r at'} : Paced false s (t.pushTrace r at') := .ite (.other h) (.other h)

/-! ### Slices of the self-test engine -/

theorem sliceDone (h : Paced false s t) {x} : Paced false s (t.sliceDone x) := .ite h (.other h)

theorem loadUcell (h : Paced false s t) {m i st} : Paced false s (t.loadUcell m i st) := .setFlds (.setCtx (.setCell h))

theorem stepStandIn (h : Paced false s t) {m w} : Paced false s (t.stepStandIn m w).1 := by
  unfold State.stepStandIn
  split
  · exact .ite_fst (.loadUcell h) (.loadUcell h)
  · exact .ite_fst h (.loadUcell h)
  · exact h

theorem stepStandIns (h : Paced false s t) : Paced false s t.stepStandIns := .other (.foldl_fst h fun _ _ h => .stepStandIn h)

theorem stepHandover (h : Paced false s t) {x} : Paced false s (t.stepHandover x).1 := by
  unfold State.stepHandover
  extract_lets xs us bad mismatch
  have hm : Paced false s (mismatch t) := .report (.addSat h)
  split
  · have h1 : Paced false s (t.loadUcell x.cl (sliceCell x.j) 1) := .loadUcell h
    exact .ite_fst (.other (.setFld hm)) (.ite_fst (.setFld h1) h1)
  · have h1 : Paced false s ((t.setCell xs (t.cell us)).setCtx xs (t.ctxOf us)) := .setCtx (.setCell h)
    exact .ite_fst (.ite_fst (.sliceDone (.setFld hm)) hm) (.ite_fst (.sliceDone (.setFld h1)) h1)
  · exact h

theorem stepHandovers (h : Paced false s t) : Paced false s t.stepHandovers := by
  unfold State.stepHandovers
  extract_lets r
  have hr : Paced false s { r.1 with bist := { r.1.bist with slices := r.2 } } := .other (.foldl_fst h fun _ _ h => .stepHandover h)
  exact .ite (.setReg (.setFld (.other hr))) hr

theorem putSlice (h : Paced false s t) {cl y} : Paced false s (t.putSlice cl y) := .other h

theorem abortSlice (h : Paced false s t) {x counted count differs sig} : Paced false s (t.abortSlice x counted count differs sig) := by
  unfold State.abortSlice
  refine .ite h ?_
  extract_lets ids s1 s' s2 _ s3
  have h1 : Paced false s s1 := .foldl h fun _ _ h => .setReg (.setReg (.setReg h))
  have h2 : Paced false s s2 := .ite (.report (.addSat (.addSat h1))) h1
  clear_value s2
  have h3 : Paced false s s3 := .other h2
  clear_value s3
  cases x.logic with
  | rotated =>
    cases x.takeover with
    | some _ => exact .putSlice (.setFld h3)
    | none => exact .putSlice h3
  | _ => exact .putSlice h3

theorem abortSlices (h : Paced false s t) {p counted} : Paced false s (t.abortSlices p counted) :=
  .tookFree (.foldl h fun _ _ h => .tookFree (.abortSlice h))

/-! ### A load that commits at the edge -/

theorem leaveRclk (h : Paced false s t) {m} : Paced false s (t.leaveRclk m) := by
  unfold State.leaveRclk
  extract_lets k s1
  have h1 : Paced false s s1 := .ite (.setCtx (.setCell h)) h
  exact .ite (.setFlds (.other (.abortSlices h1))) h

theorem setPage (h : Paced false s t) {n p st} : Paced false s (t.setPage n p st) := .setFld (.setPsq h)

theorem ownStatus (h : Paced false s t) {l code} : Paced false s (t.ownStatus l code) := .ite (.ite (.addSat (.setFld h)) (.setFld h)) h

theorem attest (h : Paced false s t) {typ signer svn build digest} : Paced false s (t.attest typ signer svn build digest) := by
  unfold State.attest
  extract_lets e _ s1 s2 quote
  have h1 : Paced false s s1 := .other h
  have h2 : Paced false s s2 := .ite (.addSat h1) (.addSat h1)
  exact .other h2

theorem commitLoad (h : Paced false s t) {l w digest} : Paced false s (t.commitLoad l w digest) := by
  unfold State.commitLoad
  extract_lets s0 s1 s2 s3 s4 s5 gs _ s6 s7 s8
  have h0 : Paced false s s0 := .foldl h fun _ _ h => .ite (.leaveRclk h) (.other (.leaveRclk h))
  have h1 : Paced false s s1 := .foldl h0 fun _ _ h => .setFlds h
  have h2 : Paced false s s2 := by
    unfold s2
    split
    · exact .foldl h1 fun _ _ h => .setReg h
    · exact h1
  have h3 : Paced false s s3 := .foldl h2 fun _ _ h => .setReg (.setReg (.foldl h fun _ _ h => .setReg h))
  have h4 : Paced false s s4 := .foldl h3 fun _ _ h => .foldl h fun _ _ h => .setPage h
  have h5 : Paced false s s5 := .ite (.foldl h4 fun _ _ h => .setReg h) h4
  have h6 : Paced false s s6 := .other h5
  have h7 : Paced false s s7 := .attest (.ownStatus (.setFlds (.setFld h6)))
  have h8 : Paced false s s8 := .setFld h7
  exact .ite (.report h8) h8

theorem commitDue (h : Paced false s t) : Paced false s t.commitDue := by
  unfold State.commitDue
  split
  · split
    · exact .commitLoad h
    · exact h
  · exact h

end

end Paced

/-- The edge ends the tick, and FCK with it where it is to stop (R52, R56). -/
theorem State.fckEdge_pace (s : State) :
    s.fckEdge.tick = s.tick + 1 ∧ s.fckEdge.fckOn = (s.fckOn && !s.fckStop) ∧ s.fckEdge.fckStop = false := by
  unfold State.fckEdge
  extract_lets s1 decs issued arming s2 s4 s5 xs s6 s7 s8 s9 s10 thawed
  have h1 : Paced false s s1 := .commitSelects (.landFlight (.stepCredits (.seeClocks (.latchFreezing (.countGaps (.noteSafes .refl))))))
  have h4 : Paced false s s4 := .foldl (.keepVotes (.mapPsq h1)) fun _ _ h => .commitSite h
  have h5 : Paced false s s5 := .foldl h4 fun _ _ h => .setPsq (.stepMatch h)
  have h6 : Paced false s s6 := .foldl h5 fun _ _ h => .returnFails h
  have h7 : Paced false s s7 := .other (.stepSlices h6)
  clear_value s7
  have edge {t : State} (h : Paced false s8 t) : t.tick = s.tick + 1 ∧ t.fckOn = (s.fckOn && !s.fckStop) ∧ t.fckStop = false := by
    obtain ⟨htick, hon, hstop, -⟩ := h7
    obtain ⟨htick', hon', hstop', -⟩ := h
    exact ⟨htick'.trans (congrArg (· + 1) htick), hon'.trans (congrArg₂ (fun a b => a && !b) hon hstop), hstop'⟩
  have h9 : Paced false s8 s9 := .settleSlices (.loadFrames (.thawCopy (.stepStandIns (.stepHandovers .refl))))
  have h10 : Paced false s8 s10 := .foldl h9 fun _ _ h => .holdFaulty h
  exact edge (.pushTrace (.stepCsc (.faultHold (.holdSites (.cutOffHold (.holdFaulty h10))))))

end Sys2Proof.Machine
end

section
/-! FCK, SLIPS AND THE TICK EDGE. FCK changes, slips, a loss of lock and the edge (R44 to R56). -/

open Sys2Proof.Claims

namespace Sys2Proof.Machine

section

variable {s : State} {req : Requester} {code : Nat}

/-! ### FCK changes -/

/-- An FCK_APPLY refused while no change is in progress shows its code in APPLY_STATUS and logs it (R54, R55). -/
theorem State.refuseFck_idle (hs : s.regsWf) (hb : s.bit F.TICK_STAT.FCK_BUSY = false) (hlt : code < 2 ^ 16) (hc : code / 256 ≠ 9) :
    (s.refuseFck req code).fld F.TICK_STAT.APPLY_STATUS = code ∧
    logs s (s.refuseFck req code) code (srcRequester req)
      (if code = C.STATE_REFUSED then R.TICK_CTRL else if code = C.TICK_FCK_INVALID then (s.reg R.TICK_FCK_CFG).toNat else 0) ∧
    onlyRegsLog s (s.refuseFck req code) [R.TICK_STAT] := by
  have honly : onlyRegs s (s.setFld F.TICK_STAT.APPLY_STATUS code) [R.TICK_STAT] := onlyRegs_setReg
  have hcfg : (s.setFld F.TICK_STAT.APPLY_STATUS code).reg R.TICK_FCK_CFG = s.reg R.TICK_FCK_CFG := State.reg_setFld_ne _ _ (by decide)
  have heq : s.refuseFck req code = (s.setFld F.TICK_STAT.APPLY_STATUS code).report code (srcRequester req)
      (if code = C.STATE_REFUSED then R.TICK_CTRL else if code = C.TICK_FCK_INVALID then (s.reg R.TICK_FCK_CFG).toNat else 0) := by
    have hidle : (if s.bit F.TICK_STAT.FCK_BUSY then s else s.setFld F.TICK_STAT.APPLY_STATUS code) = s.setFld F.TICK_STAT.APPLY_STATUS code :=
      if_neg (by simp [hb])
    unfold State.refuseFck
    rw [hidle]
    split
    next h =>
      rw [State.logRefused, Nat.zero_mul, h]
    next h => rw [← hcfg]
  rw [heq]
  refine ⟨?_, logs_report_requester honly hc, onlyRegsLog_report honly⟩
  exact (State.fld_setFld _ _ hs (by decide)).trans (Nat.mod_eq_of_lt hlt)

/-- A device alone with no active site and no change in progress accepts FCK_APPLY from who may give it (R54). -/
theorem State.fckApplyOk_alone (ha : s.allows req .fckApply = true) (hb : s.bit F.TICK_STAT.FCK_BUSY = false)
    (hidle : ∀ n < 16, s.siteActive n = false) (hc : s.fld F.CSC_STAT.CSTATE = 0) : s.fckApplyOk req = true := by
  unfold State.fckApplyOk
  simpa [ha, hb, hc] using hidle

theorem State.fckApplyOk_active {n : Nat} (hn : n < 16) (ha : s.siteActive n = true) : s.fckApplyOk req = false := by
  have hany : ¬ ∀ m < 16, s.siteActive m = false := fun h => by simp [h n hn] at ha
  unfold State.fckApplyOk
  simp only [Bool.and_eq_false_iff]
  exact .inl (.inr (by simpa using hany))

/-- What FCK_APPLY comes to in a device alone that may take it: the setting is refused, or the change begins (R54 to R56). -/
theorem exec_fckApply_alone (ha : s.allows req .fckApply = true) (hb : s.bit F.TICK_STAT.FCK_BUSY = false)
    (hidle : ∀ n < 16, s.siteActive n = false) (hc : s.fld F.CSC_STAT.CSTATE = 0) (hp : s.bit F.CSC_STAT.POLE = false) :
    exec (.fckApply req) s =
      if fckValid (s.fld F.TICK_FCK_CFG.FBDIV) (s.fld F.TICK_FCK_CFG.POSTDIV) = true then
        if 10000 * s.fld F.TICK_FCK_CFG.POSTDIV < s.pminAll * s.fld F.TICK_FCK_CFG.FBDIV then .next (s.refuseFck req C.TICK_BUDGET_EXCEEDED)
        else .next { ((s.calFailAll.safeNow (List.range 256)).setFld F.TICK_STAT.FCK_BUSY 1) with
          fckNew := some (s.fld F.TICK_FCK_CFG.FBDIV, s.fld F.TICK_FCK_CFG.POSTDIV), fckStop := s.fckOn }
      else .next (s.refuseFck req C.TICK_FCK_INVALID) := by
  have hpole : ¬ (s.fckOn && s.bit F.CSC_STAT.POLE && s.formed) = true := by simp [hp]
  rw [exec_fckApply, execFckApply, if_neg (by simp [State.fckApplyOk_alone ha hb hidle hc])]
  cases fckValid (s.fld F.TICK_FCK_CFG.FBDIV) (s.fld F.TICK_FCK_CFG.POSTDIV) with
  | false => rfl
  | true => exact (if_neg (by decide)).trans (congrArg (ite (10000 * _ < _) _) (if_neg hpole))

/-- `s` with FCK running at the setting `fb` and `pd`, and no change under way. -/
def State.fckAt (s : State) (fb pd : Nat) : State := { s with fckOn := true, fckNew := none, fckSet := (fb, pd) }

/-- The fields that FCK_CHANGE_COMPLETE writes in a device that is alone (R56, R57). -/
def State.fckDone (s : State) (fb pd : Nat) : List (Fld × Nat) :=
  [(F.TICK_STAT.LOCK, 1), (F.TICK_BUDGET_STAT.PERIOD_PS, periodPs fb pd), (F.CLK_STAT.LOCK, s.fld F.CLK_STAT.LOCK ||| 1), (F.TICK_STAT.FCK_BUSY, 0),
    (F.TICK_STAT.APPLY_STATUS, 0)]

/-- FCK restarts with the setting of the change (R56, R57). -/
theorem fckChange_completes {fb pd : Nat} (hs : s.regsWf) (hnew : s.fckNew = some (fb, pd)) (hoff : s.fckOn = false) (hset : s.csc.fckset = none)
    (hc : s.fld F.CSC_STAT.CSTATE = 0) :
    ∃ t, exec .fckChangeComplete s = .next t ∧ t.fckOn = true ∧ t.fckNew = none ∧ t.fckSet = (fb, pd) ∧
      t.fld F.TICK_STAT.FCK_BUSY = 0 ∧ t.fld F.TICK_STAT.LOCK = 1 ∧ t.fld F.TICK_STAT.APPLY_STATUS = 0 ∧
      t.fld F.TICK_BUDGET_STAT.PERIOD_PS = ((10000 * pd + fb - 1) / fb) % 2 ^ F.TICK_BUDGET_STAT.PERIOD_PS.w ∧
      t = { s with regs := t.regs, fckOn := true, fckNew := none, fckSet := (fb, pd) } ∧
      ∀ o, o ∉ [R.TICK_STAT, R.TICK_BUDGET_STAT, R.CLK_STAT] → t.reg o = s.reg o := by
  have hs' : (s.fckAt fb pd).regsWf := hs
  have hcs : ((s.fckAt fb pd).setFlds (s.fckDone fb pd)).fld F.CSC_STAT.CSTATE = 0 :=
    (State.fld_setFlds_apart hs' (by simp [State.fckDone, Fld.Apart])).trans hc
  have hexec : exec .fckChangeComplete s = .next ((s.fckAt fb pd).setFlds (s.fckDone fb pd)) := by
    rw [exec_fckChangeComplete]
    unfold execFckChangeComplete
    rw [hnew]
    refine (if_neg (by simp [hoff])).trans ?_
    extract_lets s1 s2 _ s3 s4
    have hset2 : s2.csc.fckset = none := hset
    rw [hset2]
    exact congrArg Host.Outcome.next (if_pos hcs)
  obtain ⟨heq, hreg⟩ := onlyRegs_setFlds (s := s.fckAt fb pd) (xs := s.fckDone fb pd) (offs := [R.TICK_STAT, R.TICK_BUDGET_STAT, R.CLK_STAT])
    (by simp [State.fckDone])
  refine ⟨_, hexec, rfl, rfl, rfl, ?_, ?_, ?_, ?_, heq, hreg⟩
  · exact State.fld_setFlds [_, _, _] [_] hs' (by decide) (by simp [Fld.Apart])
  · exact State.fld_setFlds [] [_, _, _, _] hs' (by decide) (by simp [Fld.Apart])
  · exact State.fld_setFlds [_, _, _, _] [] hs' (by decide) (by simp)
  · exact State.fld_setFlds [_] [_, _, _] hs' (by decide) (by simp [Fld.Apart])

/-! ### Slips -/

/-- What a slip of sequencer `n` registers of the slip itself (R44, R46). -/
theorem State.slip_registered {v w : Wide} (hs : s.regsWf) :
    let u := (((s.addSat F.TICK_SLIP_CNT.SLIP_CNT 1).setReg R.TICK_SLIP_LAST v).setReg R.TICK_SLIP_TICK w).setFld F.TICK_STAT.SLIP_SEEN 1
    u.fld F.TICK_STAT.SLIP_SEEN = 1 ∧ u.reg R.TICK_SLIP_TICK = w ∧
      u.fld F.TICK_SLIP_CNT.SLIP_CNT = min (s.fld F.TICK_SLIP_CNT.SLIP_CNT + 1) 65535 := by
  intro u
  have h1 : (s.addSat F.TICK_SLIP_CNT.SLIP_CNT 1).regsWf := State.regsWf_setFld _ _ hs
  have h2 := State.regsWf_setReg R.TICK_SLIP_LAST v h1
  have h3 := State.regsWf_setReg R.TICK_SLIP_TICK w h2
  refine ⟨State.fld_setFld _ _ h3 (by decide), (State.reg_setFld_ne _ _ (by decide)).trans (State.reg_setReg _ _ h2), ?_⟩
  have hcnt : u.reg R.TICK_SLIP_CNT = (s.addSat F.TICK_SLIP_CNT.SLIP_CNT 1).reg R.TICK_SLIP_CNT :=
    calc u.reg R.TICK_SLIP_CNT
      _ = _ := State.reg_setFld_ne _ _ (by decide)
      _ = _ := State.reg_setReg_ne _ _ (by decide)
      _ = _ := State.reg_setReg_ne _ _ (by decide)
  exact (congrArg (getBits · 0 16) hcnt).trans (State.fld_addSat hs (by decide))

theorem seq_slips {n : Fin 16} (hon : s.fckOn = true) :
    ∃ t, exec (.tickSlip (.seq n)) s = .next t ∧ t.dump.marks % 2 = 1 ∧ t.tick = s.tick ∧ t.mem = s.mem ∧
      (s.regsWf → t.fld F.TICK_STAT.SLIP_SEEN = 1 ∧ t.reg R.TICK_SLIP_TICK = s.tick ∧
        t.fld F.TICK_SLIP_CNT.SLIP_CNT = min (s.fld F.TICK_SLIP_CNT.SLIP_CNT + 1) 65535) := by
  rw [exec_tickSlip]
  unfold execTickSlip
  rw [if_neg (by simp [hon, State.unitRclk])]
  extract_lets c src sites _ s1 s2 s3 s4 s5 s6
  have h4 : Calm s2 s4 := .foldl (.report .refl) fun _ _ h => .setFld h (.inr rfl)
  have h5 : Calm s2 s5 := .holdSites h4
  have h6 : Calm s2 s6 := .ite (.sfxTrigger h5) h5
  refine ⟨_, rfl, ?_, h6.paced.1, h6.mem, fun hs => ?_⟩
  · exact Nat.mod_two_eq_one_iff_testBit_zero.2 (by simp [s6])
  · obtain ⟨hseen, htick, hcnt⟩ := State.slip_registered (s := s1) (v := BitVec.ofNat 64 (unitSlipLast (.seq n) c)) (w := s.tick) hs
    exact ⟨(h6.fld (by decide) (by decide)).trans hseen, (h6.reg _ (by decide) (by decide)).trans htick,
      (h6.fld (by decide) (by decide)).trans hcnt⟩

theorem near_slips {u : UnitId} (hs : s.regsWf) (hon : s.fckOn = true) (hr : s.unitRclk u = false) :
    ∃ t, exec (.nearSlip u) s = .next t ∧ t.fld F.TICK_SLIP_CNT.NEAR_CNT = min (s.fld F.TICK_SLIP_CNT.NEAR_CNT + 1) 65535 ∧
      (∀ o, o ≠ R.TICK_SLIP_CNT → t.reg o = s.reg o) ∧ t = { s with regs := t.regs, dump := t.dump } := by
  rw [exec_nearSlip]
  unfold execNearSlip
  rw [if_neg (by simp [hon, hr])]
  exact ⟨_, rfl, State.fld_addSat hs (by decide), fun _ ho => State.reg_setFld_ne _ _ ho, rfl⟩

/-! ### Loss of lock -/

/-- A loss of lock outside a change is reported, calibrations fail, sites are held, and FCK, if it runs, is to stop (R50). -/
theorem State.fckUnlock_eq (hl : s.bit F.TICK_STAT.LOCK = true) (hb : s.bit F.TICK_STAT.FCK_BUSY = false) :
    ∃ u : State, Paced false s u ∧ u.mem = s.mem ∧ s.fckUnlock = { u with fckStop := s.fckOn } := by
  unfold State.fckUnlock
  extract_lets s1 s2
  have h2 : Paced false s s2 := .report (.setFlds (.setFlds .refl))
  have hmem : s2.mem = s.mem := State.report_mem.trans (State.setFlds_mem.trans State.setFlds_mem)
  have hcalm : Calm s2 (s2.calFailAll.holdAll C.TICK_PLL_UNLOCK) := .holdAll (.calFailAll .refl)
  have hstop : s2.fckOn = s.fckOn := h2.2.1
  rw [if_neg (by simp [hl]), if_neg (by simp [hb]), hstop]
  exact ⟨_, h2.trans hcalm.paced, hcalm.mem.trans hmem, rfl⟩

theorem fckPll_unlocks (hl : s.bit F.TICK_STAT.LOCK = true) (hb : s.bit F.TICK_STAT.FCK_BUSY = false) :
    ∃ t, exec .fckPllUnlock s = .next t ∧ t.fckStop = s.fckOn ∧ t.fckOn = s.fckOn ∧ t.tick = s.tick ∧ t.mem = s.mem := by
  obtain ⟨u, ⟨htick, hon, -⟩, hmem, heq⟩ := State.fckUnlock_eq hl hb
  rw [exec_fckPllUnlock, execFckPllUnlock, heq]
  exact ⟨_, rfl, rfl, hon, htick, hmem⟩

/-- A loss of lock within a change only clears LOCK (R50). -/
theorem fckPll_relocks (hs : s.regsWf) (hb : s.bit F.TICK_STAT.FCK_BUSY = true) :
    ∃ t, exec .fckPllUnlock s = .next t ∧ t.fld F.TICK_STAT.LOCK = 0 ∧ onlyRegs s t [R.TICK_STAT, R.CLK_STAT] := by
  rw [exec_fckPllUnlock]
  unfold execFckPllUnlock State.fckUnlock
  extract_lets s1 s2
  cases hl : s.bit F.TICK_STAT.LOCK with
  | false =>
    rw [if_pos (by simp)]
    exact ⟨s, rfl, State.fld_eq_zero_of_bit rfl hl, rfl, fun _ _ => rfl⟩
  | true =>
    rw [if_neg (by simp), if_pos hb]
    refine ⟨s1, rfl, ?_, onlyRegs_setFlds (by simp)⟩
    exact State.fld_setFlds [] [_] hs (by decide) (by simp [Fld.Apart])

/-! ### The edge -/

theorem fck_edge (hon : s.fckOn = true) :
    ∃ t, exec .fckEdge s = .next t ∧ t.tick = s.tick + 1 ∧ t.fckOn = !s.fckStop ∧ t.fckStop = false := by
  obtain ⟨htick, hrun, hstop⟩ := State.fckEdge_pace s.siteAnswers
  obtain ⟨htick', hrun', hstop', -⟩ := Paced.commitDue (s := s.siteAnswers.fckEdge) .refl
  have hgoes : (s.fckOn && !s.fckStop) = !s.fckStop := by rw [hon, Bool.true_and]
  rw [exec_fckEdge, execFckEdge, if_pos hon]
  exact ⟨_, rfl, htick'.trans htick, (hrun'.trans hrun).trans hgoes, hstop'.trans hstop⟩

end

/-- Settles O8: each clause is the lemma above of the change, the slip, the loss of lock or the edge that it names. -/
theorem fckChangesSlipsAndTickEdge : Obligations.FckChangesSlipsAndTickEdge := by
  refine ⟨fun req s ha hb hidle hc hp => ⟨?_, ?_, ?_⟩, fun req s n hn ha hb hs => ?_, fun s fb pd hs hnew hoff hset hc => ?_, fun n s hon => ?_,
    fun u s hoff => ⟨?_, ?_, ?_⟩, fun u s hr => ⟨?_, ?_⟩, fun u s hs hon hr => ?_, fun s hl => ?_, fun s hl hb => ?_, fun s hs hb => ?_,
    fun s hon => ?_⟩
  · intro hbudget h1 h2 h3 h4 h5 h6 hs
    have hvalid : fckValid (s.fld F.TICK_FCK_CFG.FBDIV) (s.fld F.TICK_FCK_CFG.POSTDIV) = true := decide_eq_true ⟨h1, h2, h3, h4, h5, h6⟩
    rw [exec_fckApply_alone ha hb hidle hc hp, if_pos hvalid, if_pos hbudget]
    exact ⟨_, rfl, State.refuseFck_idle hs hb (by decide) (by decide)⟩
  · intro hlow hs
    have hinvalid : ¬ fckValid (s.fld F.TICK_FCK_CFG.FBDIV) (s.fld F.TICK_FCK_CFG.POSTDIV) = true := fun h => by
      obtain ⟨hfb, -⟩ := of_decide_eq_true h
      omega
    rw [exec_fckApply_alone ha hb hidle hc hp, if_neg hinvalid]
    exact ⟨_, rfl, State.refuseFck_idle hs hb (by decide) (by decide)⟩
  · intro hbudget h1 h2 h3 h4 h5 h6
    have hvalid : fckValid (s.fld F.TICK_FCK_CFG.FBDIV) (s.fld F.TICK_FCK_CFG.POSTDIV) = true := decide_eq_true ⟨h1, h2, h3, h4, h5, h6⟩
    rw [exec_fckApply_alone ha hb hidle hc hp, if_pos hvalid, if_neg (by omega)]
  · rw [exec_fckApply, execFckApply, if_pos (by simp [State.fckApplyOk_active hn ha])]
    exact ⟨_, rfl, State.refuseFck_idle hs hb (by decide) (by decide)⟩
  · exact fckChange_completes hs hnew hoff hset hc
  · exact seq_slips hon
  · exact if_pos (by simp [hoff])
  · exact if_pos (by simp [hoff])
  · exact if_neg (by simp [hoff])
  · exact if_pos (by simp [hr])
  · exact if_pos (by simp [hr])
  · exact near_slips hs hon hr
  · exact congrArg Host.Outcome.next (if_pos (by simp [hl]))
  · exact fckPll_unlocks hl hb
  · exact fckPll_relocks hs hb
  · exact fck_edge hon

end Sys2Proof.Machine
end

section
/-! POWER AND CLOCKS. What refutes the statement about power, clocks and temperature (R50, R597 to R613). -/

open Sys2Proof.Claims

namespace Sys2Proof.Machine

/-- A pole in CALIBRATE, none of whose members is still to be measured, within an FCK change whose PLL has not locked yet: what keeps the flights from
being known is the missing lock (R50, R479). -/
def relockingPole : State := State.reset.setFlds [(F.CSC_STAT.CSTATE, 2), (F.CSC_STAT.POLE, 1), (F.TICK_STAT.FCK_BUSY, 1)]

/-- The lock completes the FCK change of the pole: it fixes the flights, and is FORMED. -/
theorem pllRelock_relockingPole : ∃ t, exec (.pllRelock 0) relockingPole = .next t ∧ t.fld F.CSC_STAT.CSTATE = 3 :=
  ⟨_, rfl, by decide⟩

/-- Refutes O58 by its clause on the relock of the FCK PLL: `flightsKnown` of the state before the lock does not rule out that the lock itself makes the
flights known, and then CSC_STAT changes beside CLK_STAT and TICK_STAT. -/
theorem not_powerClocksAndTemperature : ¬ Obligations.PowerClocksAndTemperature := by
  intro h
  obtain ⟨-, -, -, -, -, -, -, hrelock, -⟩ := h
  obtain ⟨t, e, -, -, -, hregs⟩ := hrelock relockingPole (by decide) (by decide) (by decide) (by decide)
  obtain ⟨u, e', hu⟩ := pllRelock_relockingPole
  cases e.symm.trans e'
  have hsame : t.fld F.CSC_STAT.CSTATE = relockingPole.fld F.CSC_STAT.CSTATE := congrArg (getBits · 0 3) (hregs R.CSC_STAT (by decide))
  have hbefore : relockingPole.fld F.CSC_STAT.CSTATE = 2 := by decide
  omega

end Sys2Proof.Machine
end

section
/-! THE CELLS' OPERATIONS. What a fabric cell that issues registers: the step of a cell reduced to its operation, and the operation's result
written to the registers that it names (R63 to R66, R71, R73, R89). -/

open Sys2Proof.Claims

namespace Sys2Proof.Machine

section

variable {s : State} {k p o : Nat} {fn : Wide} {c : CellRegs} {op : OpIn → OpOut} {used : List FWord} {d : Word}

/-! ### The cell that issues -/

theorem State.cellIssue_of_issues {f : Nat → Wide → State} (h : issues s k p fn o) : s.cellIssue k o f = f p fn := by
  obtain ⟨hpos, rfl, hen, hfence, hclk, hnxt, hissue, hctx, hop⟩ := h
  unfold State.cellIssue
  rw [hpos]
  dsimp only
  rw [if_neg (by simp [hen, hfence, hclk, hnxt, hissue]), if_neg (by simp [hctx]), if_pos (by simp [hop])]

theorem State.cellStep_of_issues (h : issues s k p fn o) : s.cellStep k o op = s.setNxt k (s.opResult k p fn op) := by
  have hissue : s.cellIssue k o (fun p fn => s.setNxt k (s.opResult k p fn op)) = s.setNxt k (s.opResult k p fn op) :=
    State.cellIssue_of_issues h
  obtain ⟨hpos, -, -, -, hclk, -⟩ := h
  rw [← hissue]
  unfold State.cellStep
  rw [hpos]
  exact if_neg (by simp [hclk])

/-! ### The registers after a result -/

/-- Of a cell's registers a result that it registers replaces Q, and at most one of the L registers (R71). -/
theorem loadQ_eq (c : CellRegs) (fn : Wide) (w : FWord) :
    ∃ l0 l1 l2 l3, loadQ c fn w = { c with q := w, l0 := l0, l1 := l1, l2 := l2, l3 := l3 } := by
  unfold loadQ CellRegs.setL
  split_ifs <;> exact ⟨_, _, _, _, rfl⟩

/-- A valid result is registered in Q, and in ACC, CY and W where the operation names them (R63, R64, R89). -/
theorem CellRegs.finish_of_valid {r : OpOut} (hv : r.used.all (·.v) = true) :
    c.finish fn r = loadQ { c with
        acc := r.acc.elim c.acc (⟨r.used.any (·.s), true, ·⟩)
        cy := r.cy.getD c.cy
        w := r.w.getD c.w
        wv := if r.w.isSome then true else c.wv
        ws := if r.w.isSome then r.used.any (·.s) else c.ws } fn
      ⟨r.used.any (·.s), true,
        if r.wOnly then (if getBits fn 39 1 = 1 then (r.w.getD c.w).extractLsb' 32 32 else (r.w.getD c.w).extractLsb' 0 32) else r.data⟩ := by
  unfold CellRegs.finish takesQ loadQ
  simp only [hv, Bool.true_or, Bool.not_true, Bool.false_eq_true, if_false, if_true]
  cases r.acc <;> rfl

theorem CellRegs.finish_toQ (hv : used.all (·.v) = true) : c.finish fn (toQ d used) = loadQ c fn ⟨used.any (·.s), true, d⟩ :=
  CellRegs.finish_of_valid hv

theorem CellRegs.finish_toQcy {cy : Bool} (hv : used.all (·.v) = true) :
    c.finish fn (toQcy d cy used) = loadQ { c with cy := cy } fn ⟨used.any (·.s), true, d⟩ :=
  CellRegs.finish_of_valid hv

theorem CellRegs.finish_toAcc (hv : used.all (·.v) = true) :
    c.finish fn (toAcc d used) = loadQ { c with acc := ⟨used.any (·.s), true, d⟩ } fn ⟨used.any (·.s), true, d⟩ :=
  CellRegs.finish_of_valid hv

theorem CellRegs.finish_toW {w : Wide} (hv : used.all (·.v) = true) :
    c.finish fn (toW w used) = loadQ { c with w := w, wv := true, ws := used.any (·.s) } fn
      ⟨used.any (·.s), true, if getBits fn 39 1 = 1 then w.extractLsb' 32 32 else w.extractLsb' 0 32⟩ :=
  CellRegs.finish_of_valid hv

/-- Under HOLDINV the registers hold on an invalid result (R65). -/
theorem CellRegs.finish_held {r : OpOut} (hv : r.used.all (·.v) = false) (hh : getBits fn 40 1 = 1) : c.finish fn r = c := by
  unfold CellRegs.finish takesQ
  simp only [hv, hh]
  rfl

/-- Without HOLDINV an invalid result goes to Q, and to an L register that is loaded, and nowhere else (R64, R65). -/
theorem CellRegs.finish_of_invalid {r : OpOut} (hv : r.used.all (·.v) = false) (hh : getBits fn 40 1 ≠ 1) :
    ∃ d, c.finish fn r = loadQ c fn ⟨r.used.any (·.s), false, d⟩ := by
  unfold CellRegs.finish takesQ
  simp only [hv, bne_iff_ne.2 hh]
  exact ⟨_, rfl⟩

/-! ### The commands of the operations -/

/-- The command `run k` has the cell in slot `k` perform opcode `o`, whose operation is `op`. -/
def Performs (run : Fin 2944 → Instr) (o : Nat) (op : OpIn → OpOut) : Prop := ∀ k s, exec (run k) s = .next (s.cellStep k.val o op)

/-- What a cell that issues registers is its operation's result, taken into its registers. -/
theorem exec_of_issues {run : Fin 2944 → Instr} {k : Fin 2944} (hrun : Performs run o op) (h : issues s k p fn o) :
    exec (run k) s = .next (s.setNxt k ((s.cell k).finish fn (op (s.opInputs k p fn)))) :=
  (hrun k s).trans (congrArg _ (State.cellStep_of_issues h))

end

end Sys2Proof.Machine
end

section
/-! LOGIC, ORDER, SELECTION, CARRY, BIT FIELDS AND COUNTERS. The operations of the A-cells on valid operands (R86 to R88). -/

open Sys2Proof.Claims

namespace Sys2Proof.Machine

section

variable {s : State} {p o : Nat} {fn : Wide} {run : Fin 2944 → Instr} {k : Fin 2944} {op : OpIn → OpOut}

/-! ### From an operation's result to the statement about its opcode -/

theorem unaryOp_of {f : Nat → Nat → Word → Word} (hrun : Performs run o op)
    (hop : ∀ {s k p fn}, op (s.opInputs k p fn) = toQ (f (getBits fn 36 4) (getBits fn 0 32) (opA s k p fn).data) [opA s k p fn]) :
    unaryOp run o f := by
  intro s k p fn h ha
  rw [exec_of_issues hrun h, hop, CellRegs.finish_toQ (by simp [ha])]
  simp only [List.any_cons, List.any_nil, Bool.or_false]

theorem binaryOp_of {f : Nat → Nat → Word → Word → Word} (hrun : Performs run o op)
    (hop : ∀ {s k p fn}, issues s k p fn o →
      op (s.opInputs k p fn) = toQ (f (getBits fn 36 4) (getBits fn 0 32) (opA s k p fn).data (opB s k p fn).data) [opA s k p fn, opB s k p fn]) :
    binaryOp run o f := by
  intro s k p fn h ha hb
  rw [exec_of_issues hrun h, hop h, CellRegs.finish_toQ (by simp [ha, hb])]
  simp only [List.any_cons, List.any_nil, Bool.or_false]

theorem carryOp_of {f : Nat → Word → Word → Word} {g : Nat → Nat → Nat → Bool} (hrun : Performs run o op)
    (hop : ∀ {s k p fn}, op (s.opInputs k p fn) = toQcy (f (b2n (s.cell k).cy) (opA s k p fn).data (opB s k p fn).data)
      (g (b2n (s.cell k).cy) (opA s k p fn).data.toNat (opB s k p fn).data.toNat) [opA s k p fn, opB s k p fn]) : carryOp run o f g := by
  intro s k p fn h ha hb
  rw [exec_of_issues hrun h, hop, CellRegs.finish_toQcy (by simp [ha, hb])]
  simp only [List.any_cons, List.any_nil, Bool.or_false]

/-! ### Single operations -/

/-- The low bits of a word as a number. -/
theorem toNat_low {n w : Nat} (b : BitVec n) : (b.extractLsb' 0 w).toNat = b.toNat % 2 ^ w := by
  rw [BitVec.extractLsb'_toNat, Nat.shiftRight_zero]

theorem mulLow_eq (sg : Bool) (a b : Word) : mulLow sg a b = lowProduct sg a b := by
  have hlow (x : Word) : x.extractLsb' 0 16 = x.setWidth 16 := BitVec.eq_of_toNat_eq (by rw [toNat_low, BitVec.toNat_setWidth])
  unfold mulLow lowProduct
  rw [hlow, hlow, BitVec.toNat_setWidth, BitVec.toNat_setWidth]

/-- A select of MOD[0] between two orders, taken inside or outside the choice that follows it. -/
theorem ite_ite_left {α : Type} {c x y : Bool} {a b : α} :
    (if (if c then x else y) then a else b) = if c then (if x then a else b) else if y then a else b := by cases c <;> rfl

/-- CMP is valid with the eight conditions of R87 only (R72). -/
theorem fnInvalid_of_cmp (ty : CellType) (hop : getBits fn 56 8 = 0x08) (hmod : 8 ≤ getBits fn 36 4) : fnInvalid ty fn = true := by
  cases ty <;> simp [fnInvalid, opcodeKnown, hop, hmod]

theorem mod_lt_of_issues {k : Nat} (h : issues s k p fn 0x08) : getBits fn 36 4 < 8 := by
  obtain ⟨-, rfl, -, -, -, -, -, hctx, hop⟩ := h
  by_contra hmod
  simp [State.ctxGood, fnInvalid_of_cmp _ hop (Nat.not_lt.1 hmod)] at hctx

theorem cmpCond_iff {m : Nat} {a b : Word} (hm : m < 8) :
    cmpCond m a b = true ↔ (m = 0 ∧ a = b) ∨ (m = 1 ∧ a ≠ b) ∨ (m = 2 ∧ a.toNat < b.toNat) ∨ (m = 3 ∧ b.toNat ≤ a.toNat) ∨
      (m = 4 ∧ a.toInt < b.toInt) ∨ (m = 5 ∧ b.toInt ≤ a.toInt) ∨ (m = 6 ∧ a &&& b ≠ 0) ∨ (m = 7 ∧ a &&& b = 0) := by
  interval_cases m <;> simp [cmpCond, BitVec.ult, BitVec.slt]

/-- Bit `j` of a field move: the field of `w` bits at `d` is that of `a` at `s`, the rest is `b` (R88). -/
theorem getLsbD_opBfm {i : OpIn} {j : Nat} (hj : j < 32) : (opBfm i).data.getLsbD j =
    if i.imm / 32 % 32 ≤ j ∧ j ≤ i.imm / 32 % 32 + i.imm / 1024 % 32
      then i.a.data.getLsbD (j - i.imm / 32 % 32 + i.imm % 32) else i.b.data.getLsbD j := by
  generalize hd : i.imm / 32 % 32 = d
  generalize hw : i.imm / 1024 % 32 = w
  simp only [opBfm, toQ, hd, hw, BitVec.getLsbD_or, BitVec.getLsbD_and, BitVec.getLsbD_not, BitVec.getLsbD_shiftLeft, BitVec.getLsbD_ofNat,
    BitVec.getLsbD_ushiftRight, Nat.testBit_two_pow_sub_one]
  by_cases hlo : d ≤ j
  · by_cases hhi : j ≤ d + w
    · simp [hj, hlo, hhi, show ¬ j < d by omega, show j - d < w + 1 by omega, show j - d < 32 by omega, Nat.add_comm]
    · simp [hj, hlo, hhi, show ¬ j < d by omega, show ¬ j - d < w + 1 by omega]
  · simp [hj, hlo, show j < d by omega]

/-- One modular step on numbers (R88). -/
theorem cntStep_eq {q a b : Word} : cntStep q a b =
    (BitVec.ofNat 32 (if b.toNat ≠ 0 ∧ b.toNat ≤ q.toNat + a.toNat then q.toNat + a.toNat - b.toNat else q.toNat + a.toNat),
      if b.toNat = 0 then decide (2 ^ 32 ≤ q.toNat + a.toNat) else decide (b.toNat ≤ q.toNat + a.toNat)) := by
  have hzero : b = 0 ↔ b.toNat = 0 := (BitVec.toNat_eq ..).trans Iff.rfl
  unfold cntStep
  simp only [hzero]
  by_cases hb : b.toNat = 0
  · simp [hb]
  · by_cases hle : b.toNat ≤ q.toNat + a.toNat <;> simp [hb, hle]

/-- A field of IMM is that field of the function word. -/
theorem imm_field {lo w : Nat} (h : lo + w ≤ 32) : getBits fn 0 32 / 2 ^ lo % 2 ^ w = getBits fn lo w := by
  apply Nat.eq_of_testBit_eq
  intro i
  simp only [Nat.testBit_mod_two_pow, Nat.testBit_div_two_pow, testBit_getBits]
  by_cases hi : i < w
  · simp [hi, Nat.add_comm i, show lo + i < 32 by omega]
  · simp [hi]

/-! ### The statements of the operations with an argument of their own -/

theorem brev_reverses : unaryOp .cellBrev 0x27 (fun _ i a => a.reverse >>> (31 - i % 32)) := by
  refine unaryOp_of (op := opBrev) (fun _ _ => rfl) fun {s k p fn} => ?_
  unfold opBrev
  rw [show 31 - getBits fn 0 32 % 32 = 32 - (getBits fn 0 32 % 32 + 1) by omega]
  rfl

theorem cmp_compares : binaryOp .cellCmp 0x08 (fun m _ a b =>
    if (m = 0 ∧ a = b) ∨ (m = 1 ∧ a ≠ b) ∨ (m = 2 ∧ a.toNat < b.toNat) ∨ (m = 3 ∧ b.toNat ≤ a.toNat) ∨ (m = 4 ∧ a.toInt < b.toInt) ∨
      (m = 5 ∧ b.toInt ≤ a.toInt) ∨ (m = 6 ∧ a &&& b ≠ 0) ∨ (m = 7 ∧ a &&& b = 0) then 1 else 0) := by
  refine binaryOp_of (op := opCmp) (fun _ _ => rfl) fun h => ?_
  simp only [← cmpCond_iff (mod_lt_of_issues h)]
  rfl

theorem addc_adds : carryOp .cellAddc 0x03 (fun cy a b => a + b + BitVec.ofNat 32 cy) (fun cy a b => decide (2 ^ 32 ≤ a + b + cy)) := by
  refine carryOp_of (op := opAddc) (fun _ _ => rfl) fun {s k p fn} => congrArg (toQcy · _ _) ?_
  simp only [BitVec.ofNat_add, BitVec.ofNat_toNat, BitVec.setWidth_eq]
  rfl

/-- SEL takes b or a, and its tags are those of all three operands. -/
theorem sel_selects (h : issues s k p fn 0x09) (ha : (opA s k p fn).v = true) (hb : (opB s k p fn).v = true) (hc : (opC s k p fn).v = true) :
    exec (.cellSel k) s = .next (s.setNxt k (loadQ (s.cell k) fn
      ⟨(opA s k p fn).s || (opB s k p fn).s || (opC s k p fn).s, true,
        if (opC s k p fn).data.getLsbD 0 then (opB s k p fn).data else (opA s k p fn).data⟩)) := by
  have hop : opSel (s.opInputs k p fn) = toQ (if (opC s k p fn).data.getLsbD 0 then (opB s k p fn).data else (opA s k p fn).data)
      [opA s k p fn, opB s k p fn, opC s k p fn] := rfl
  rw [exec_of_issues (op := opSel) (fun _ _ => rfl) h, hop, CellRegs.finish_toQ (by simp [ha, hb, hc])]
  simp only [List.any_cons, List.any_nil, Bool.or_false, Bool.or_assoc]

theorem bfm_moves (h : issues s k p fn 0x24) (ha : (opA s k p fn).v = true) (hb : (opB s k p fn).v = true) :
    ∃ r : Word, exec (.cellBfm k) s = .next (s.setNxt k (loadQ (s.cell k) fn ⟨(opA s k p fn).s || (opB s k p fn).s, true, r⟩)) ∧
      ∀ j < 32, r.getLsbD j = if getBits fn 5 5 ≤ j ∧ j ≤ getBits fn 5 5 + getBits fn 10 5
        then (opA s k p fn).data.getLsbD (j - getBits fn 5 5 + getBits fn 0 5) else (opB s k p fn).data.getLsbD j := by
  have hop : opBfm (s.opInputs k p fn) = toQ (opBfm (s.opInputs k p fn)).data [opA s k p fn, opB s k p fn] := rfl
  refine ⟨(opBfm (s.opInputs k p fn)).data, ?_, fun j hj => ?_⟩
  · rw [exec_of_issues (op := opBfm) (fun _ _ => rfl) h, hop, CellRegs.finish_toQ (by simp [ha, hb])]
    simp only [List.any_cons, List.any_nil, Bool.or_false]
    rfl
  · rw [getLsbD_opBfm hj, ← imm_field (lo := 0) (w := 5) (by decide), ← imm_field (lo := 5) (w := 5) (by decide),
      ← imm_field (lo := 10) (w := 5) (by decide), pow_zero, Nat.div_one]
    rfl

theorem cntm_counts (h : issues s k p fn 0x20) (ha : (opA s k p fn).v = true) (hb : (opB s k p fn).v = true) (hq : (s.cell k).q.v = true) :
    let t := (s.cell k).q.data.toNat + (opA s k p fn).data.toNat
    let b := (opB s k p fn).data.toNat
    exec (.cellCntm k) s = .next (s.setNxt k (loadQ
      { s.cell k with cy := if b = 0 then decide (2 ^ 32 ≤ t) else decide (b ≤ t) } fn
      ⟨(opA s k p fn).s || (opB s k p fn).s || (s.cell k).q.s, true, BitVec.ofNat 32 (if b ≠ 0 ∧ b ≤ t then t - b else t)⟩)) := by
  have hop : opCntm (s.opInputs k p fn) = toQcy (cntStep (s.cell k).q.data (opA s k p fn).data (opB s k p fn).data).1
      (cntStep (s.cell k).q.data (opA s k p fn).data (opB s k p fn).data).2 [opA s k p fn, opB s k p fn, (s.cell k).q] := rfl
  intro t b
  rw [exec_of_issues (op := opCntm) (fun _ _ => rfl) h, hop, CellRegs.finish_toQcy (by simp [ha, hb, hq]), cntStep_eq]
  simp only [List.any_cons, List.any_nil, Bool.or_false, Bool.or_assoc]
  rfl

/-- CNTE counts where c[0] is 1; else Q keeps its number, with the tags of all that it consumed, and CY is 0. -/
theorem cnte_counts (h : issues s k p fn 0x21) (ha : (opA s k p fn).v = true) (hb : (opB s k p fn).v = true) (hc : (opC s k p fn).v = true)
    (hq : (s.cell k).q.v = true) :
    let t := (s.cell k).q.data.toNat + (opA s k p fn).data.toNat
    let b := (opB s k p fn).data.toNat
    let st := (opA s k p fn).s || (opB s k p fn).s || (opC s k p fn).s || (s.cell k).q.s
    exec (.cellCnte k) s = .next (s.setNxt k (if (opC s k p fn).data.getLsbD 0 then loadQ
        { s.cell k with cy := if b = 0 then decide (2 ^ 32 ≤ t) else decide (b ≤ t) } fn
        ⟨st, true, BitVec.ofNat 32 (if b ≠ 0 ∧ b ≤ t then t - b else t)⟩
      else loadQ { s.cell k with cy := false } fn ⟨st, true, (s.cell k).q.data⟩)) := by
  let r : Word × Bool := if (opC s k p fn).data.getLsbD 0 then cntStep (s.cell k).q.data (opA s k p fn).data (opB s k p fn).data
    else ((s.cell k).q.data, false)
  have hop : opCnte (s.opInputs k p fn) = toQcy r.1 r.2 [opA s k p fn, opB s k p fn, opC s k p fn, (s.cell k).q] := rfl
  intro t b st
  rw [exec_of_issues (op := opCnte) (fun _ _ => rfl) h, hop, CellRegs.finish_toQcy (by simp [ha, hb, hc, hq])]
  simp only [List.any_cons, List.any_nil, Bool.or_false, st, Bool.or_assoc]
  unfold r
  split
  · rw [cntStep_eq]
  · rfl

end

/-- Settles O9: each operation's result on valid operands is the function that the clause names. -/
theorem logicOrderCarryAndCounterCells : Obligations.LogicOrderCarryAndCounterCells := by
  refine ⟨⟨?mov, ?min, ?max, cmp_compares, ?and, ?or, ?xor, ?andn, ?shl, ?shr, ?sra, ?rol, ?mul, brev_reverses, ?gray, ?xtap⟩,
    ?add, addc_adds, ?sub, ?subb, fun _ _ _ _ h => sel_selects h, fun _ _ _ _ h => bfm_moves h, fun _ _ _ _ h => cntm_counts h,
    fun _ _ _ _ h => cnte_counts h⟩
  case mov => exact unaryOp_of (op := opMov) (fun _ _ => rfl) rfl
  case gray => exact unaryOp_of (op := opGray) (fun _ _ => rfl) rfl
  case min => exact binaryOp_of (op := opMin) (fun _ _ => rfl) fun _ => congrArg (toQ · _) ite_ite_left
  case max => exact binaryOp_of (op := opMax) (fun _ _ => rfl) fun _ => congrArg (toQ · _) ite_ite_left
  case and => exact binaryOp_of (op := opAnd) (fun _ _ => rfl) fun _ => rfl
  case or => exact binaryOp_of (op := opOr) (fun _ _ => rfl) fun _ => rfl
  case xor => exact binaryOp_of (op := opXor) (fun _ _ => rfl) fun _ => rfl
  case andn => exact binaryOp_of (op := opAndn) (fun _ _ => rfl) fun _ => rfl
  case xtap => exact binaryOp_of (op := opXtap) (fun _ _ => rfl) fun _ => rfl
  case shl => exact binaryOp_of (op := opShl) (fun _ _ => rfl) fun _ => by rw [toNat_low]; rfl
  case shr => exact binaryOp_of (op := opShr) (fun _ _ => rfl) fun _ => by rw [toNat_low]; rfl
  case sra => exact binaryOp_of (op := opSra) (fun _ _ => rfl) fun _ => by rw [toNat_low]; rfl
  case rol => exact binaryOp_of (op := opRol) (fun _ _ => rfl) fun _ => by rw [toNat_low]; rfl
  case mul => exact binaryOp_of (op := opMul) (fun _ _ => rfl) fun _ => by rw [← mulLow_eq]; rfl
  case add => exact carryOp_of (op := opAdd) (fun _ _ => rfl) rfl
  case sub => exact carryOp_of (op := opSub) (fun _ _ => rfl) rfl
  case subb => exact carryOp_of (op := opSubb) (fun _ _ => rfl) rfl

end Sys2Proof.Machine
end

section
/-! ACCUMULATORS AND WIDE REGISTERS. Multiply-accumulate, and the operations of the B-cells (R86, R89 to R91). -/

open Sys2Proof.Claims

namespace Sys2Proof.Machine

section

variable {s : State} {p o : Nat} {fn : Wide} {run : Fin 2944 → Instr} {k : Fin 2944} {op : OpIn → OpOut}

/-! ### The accumulator -/

/-- What MAC makes of the sum: it wraps, or is held at the ends of the range (R86). -/
theorem clampSum_eq {sg sat : Bool} {t : Int} :
    (if sat then (if t > (if sg then 2 ^ 31 - 1 else 2 ^ 32 - 1) then (if sg then 2 ^ 31 - 1 else 2 ^ 32 - 1)
      else if t < (if sg then -(2 ^ 31) else 0) then (if sg then -(2 ^ 31) else 0) else t) else t) = clampSum sg sat t := by
  unfold clampSum
  cases sat with
  | false => rfl
  | true => cases sg <;> simp only [if_true, Bool.false_eq_true, if_false, Bool.not_true] <;> omega

theorem mac_accumulates (h : issues s k p fn 0x19) (ha : (opA s k p fn).v = true) (hb : (opB s k p fn).v = true)
    (hacc : (s.cell k).acc.v = true) :
    let sg := (getBits fn 36 4).testBit 0
    let acc : Int := if sg then (s.cell k).acc.data.toInt else (s.cell k).acc.data.toNat
    let r := BitVec.ofInt 32 (clampSum sg ((getBits fn 36 4).testBit 1) (acc + lowProduct sg (opA s k p fn).data (opB s k p fn).data))
    let st := (opA s k p fn).s || (opB s k p fn).s || (s.cell k).acc.s
    exec (.cellMac k) s = .next (s.setNxt k (loadQ { s.cell k with acc := ⟨st, true, r⟩ } fn ⟨st, true, r⟩)) := by
  intro sg acc r st
  have hop : opMac (s.opInputs k p fn) = toAcc r [opA s k p fn, opB s k p fn, (s.cell k).acc] := by
    unfold r
    rw [← clampSum_eq, ← mulLow_eq]
    rfl
  rw [exec_of_issues (op := opMac) (fun _ _ => rfl) h, hop, CellRegs.finish_toAcc (by simp [ha, hb, hacc])]
  simp only [List.any_cons, List.any_nil, Bool.or_false, st, Bool.or_assoc]

theorem macl_loads (h : issues s k p fn 0x1A) (ha : (opA s k p fn).v = true) (hb : (opB s k p fn).v = true) :
    let r := BitVec.ofInt 32 (lowProduct ((getBits fn 36 4).testBit 0) (opA s k p fn).data (opB s k p fn).data)
    let st := (opA s k p fn).s || (opB s k p fn).s
    exec (.cellMacl k) s = .next (s.setNxt k (loadQ { s.cell k with acc := ⟨st, true, r⟩ } fn ⟨st, true, r⟩)) := by
  intro r st
  have hop : opMacl (s.opInputs k p fn) = toAcc r [opA s k p fn, opB s k p fn] := by
    unfold r
    rw [← mulLow_eq]
    rfl
  rw [exec_of_issues (op := opMacl) (fun _ _ => rfl) h, hop, CellRegs.finish_toAcc (by simp [ha, hb])]
  simp only [List.any_cons, List.any_nil, Bool.or_false, st]

theorem accr_reads (h : issues s k p fn 0x1B) (hacc : (s.cell k).acc.v = true) :
    exec (.cellAccr k) s = .next (s.setNxt k (loadQ (s.cell k) fn (s.cell k).acc)) := by
  have hop : opAccr (s.opInputs k p fn) = toQ (s.cell k).acc.data [(s.cell k).acc] := rfl
  rw [exec_of_issues (op := opAccr) (fun _ _ => rfl) h, hop, CellRegs.finish_toQ (by simp [hacc])]
  simp only [List.any_cons, List.any_nil, Bool.or_false, ← hacc]

/-! ### Operations on W -/

/-- What an operation on W consumes of a, b and W. -/
def OpIn.consumed (i : OpIn) (usesA usesB usesW : Bool) : List FWord :=
  (if usesA then [i.a] else []) ++ (if usesB then [i.b] else []) ++ (if usesW then [i.wt] else [])

theorem all_optional {b : Bool} {w : FWord} (h : b = true → w.v = true) : (if b then [w] else []).all (·.v) = true := by
  cases b <;> simp_all

theorem any_optional {b : Bool} {w : FWord} : (if b then [w] else []).any (·.s) = (b && w.s) := by cases b <;> simp

theorem OpIn.consumed_valid {i : OpIn} {usesA usesB usesW : Bool} (ha : usesA = true → i.a.v = true) (hb : usesB = true → i.b.v = true)
    (hw : usesW = true → i.wt.v = true) : (i.consumed usesA usesB usesW).all (·.v) = true := by
  simp only [OpIn.consumed, List.all_append, all_optional ha, all_optional hb, all_optional hw, Bool.and_true]

theorem OpIn.consumed_stale {i : OpIn} {usesA usesB usesW : Bool} :
    (i.consumed usesA usesB usesW).any (·.s) = ((usesA && i.a.s) || (usesB && i.b.s) || (usesW && i.wt.s)) := by
  simp only [OpIn.consumed, List.any_append, any_optional]

theorem wideOp_of {usesA usesB usesW : Bool} {f : Nat → Wide → Wide → Word → Wide} (hrun : Performs run o op)
    (hop : ∀ i, op i = toW (f i.imm i.w i.x i.a.data) (i.consumed usesA usesB usesW)) : wideOp run o usesA usesB usesW f := by
  intro s k p fn h ha hb hw
  rw [exec_of_issues hrun h, hop, CellRegs.finish_toW (OpIn.consumed_valid ha hb hw), OpIn.consumed_stale]
  rfl

/-- X as a number: b is its high word (R89). -/
theorem OpIn.toNat_x (i : OpIn) : i.x.toNat = i.a.data.toNat + 2 ^ 32 * i.b.data.toNat := by
  unfold OpIn.x
  rw [BitVec.toNat_append, ← Nat.shiftLeft_add_eq_or_of_lt i.a.data.isLt, Nat.shiftLeft_eq, Nat.mul_comm, Nat.add_comm]

theorem OpIn.high_x (i : OpIn) : i.x.extractLsb' 32 32 = i.b.data := by
  have ha := i.a.data.isLt
  have hb := i.b.data.isLt
  apply BitVec.eq_of_toNat_eq
  rw [BitVec.extractLsb'_toNat, i.toNat_x, Nat.shiftRight_eq_div_pow]
  omega

theorem wlutn_maps (h : issues s k p fn 0x56) (hw : (s.cell k).wv = true) :
    let w := BitVec.ofNat 64 (lutNibbles (s.lutEntry p) 16 (s.cell k).w.toNat)
    exec (.cellWlutn k) s = .next (s.setNxt k (loadQ { s.cell k with w := w } fn
      ⟨(s.cell k).ws, true, if getBits fn 39 1 = 1 then w.extractLsb' 32 32 else w.extractLsb' 0 32⟩)) := by
  intro w
  have hop : opWlutn (s.opInputs k p fn) = toW w [(s.opInputs k p fn).wt] := rfl
  have hwt : [(s.opInputs k p fn).wt].all (·.v) = true := (Bool.and_true _).trans hw
  have hws : [(s.opInputs k p fn).wt].any (·.s) = (s.cell k).ws := Bool.or_false _
  rw [exec_of_issues (op := opWlutn) (fun _ _ => rfl) h, hop, CellRegs.finish_toW hwt, hws, ← hw]

/-! ### Counts over X, and look-ups -/

theorem popNat_append (m n : Nat) : ∀ a b : Nat, a < 2 ^ m → popNat (m + n) (a + 2 ^ m * b) = popNat m a + popNat n b := by
  induction m with
  | zero =>
    intro a b ha
    simp [popNat, show a = 0 by omega]
  | succ m ih =>
    intro a b ha
    have hpow : 2 ^ (m + 1) * b = 2 * (2 ^ m * b) := by ring
    have hhalf : (a + 2 ^ (m + 1) * b) / 2 = a / 2 + 2 ^ m * b := by omega
    rw [show m + 1 + n = (m + n) + 1 by omega, popNat, popNat, hhalf, ih _ _ (by omega)]
    omega

theorem OpIn.popNat_x (i : OpIn) : popNat 64 i.x.toNat = popNat 32 i.a.data.toNat + popNat 32 i.b.data.toNat := by
  rw [i.toNat_x]
  exact popNat_append 32 32 _ _ i.a.data.isLt

theorem opPopc_eq (i : OpIn) : opPopc i = toQ (BitVec.ofNat 32 (popNat 32 i.a.data.toNat + popNat 32 i.b.data.toNat)) [i.a, i.b] := by
  unfold opPopc
  rw [i.popNat_x]

theorem opPar_eq (i : OpIn) : opPar i = toQ (BitVec.ofNat 32 ((popNat 32 i.a.data.toNat + popNat 32 i.b.data.toNat) % 2)) [i.a, i.b] := by
  unfold opPar parityNat
  rw [i.popNat_x]

theorem log2_add_two_pow_mul {m a b : Nat} (ha : a < 2 ^ m) (hb : b ≠ 0) : Nat.log2 (a + 2 ^ m * b) = m + Nat.log2 b := by
  obtain ⟨hlo, hhi⟩ := (Nat.log2_eq_iff hb).1 rfl
  have hpos : 0 < 2 ^ m * b := Nat.mul_pos (Nat.two_pow_pos m) (Nat.pos_of_ne_zero hb)
  refine (Nat.log2_eq_iff (by omega)).2 ⟨?_, ?_⟩
  · rw [pow_add]
    exact (Nat.mul_le_mul_left _ hlo).trans (Nat.le_add_left _ _)
  · have hnext : 2 ^ m * (b + 1) ≤ 2 ^ m * 2 ^ (Nat.log2 b + 1) := Nat.mul_le_mul_left _ hhi
    rw [Nat.add_assoc, pow_add]
    rw [Nat.mul_add] at hnext
    omega

/-- The leading zeros of X are those of b, or where b is 0 those of a and 32 more (R90). -/
theorem opClz_eq (i : OpIn) : opClz i = toQ (BitVec.ofNat 32
    (if i.b.data = 0 then (if i.a.data = 0 then 64 else 63 - Nat.log2 i.a.data.toNat) else 31 - Nat.log2 i.b.data.toNat)) [i.a, i.b] := by
  have hzero {n : Nat} (x : BitVec n) : x = 0 ↔ x.toNat = 0 := by simp [BitVec.toNat_eq]
  unfold opClz
  simp only [hzero, i.toNat_x]
  by_cases hb : i.b.data.toNat = 0
  · simp [hb]
  · rw [if_neg (by omega), if_neg hb, log2_add_two_pow_mul i.a.data.isLt hb,
      show 63 - (32 + Nat.log2 i.b.data.toNat) = 31 - Nat.log2 i.b.data.toNat by omega]

theorem lutn_maps (h : issues s k p fn 0x54) (ha : (opA s k p fn).v = true) :
    exec (.cellLutn k) s = .next (s.setNxt k (loadQ (s.cell k) fn
      ⟨(opA s k p fn).s, true, BitVec.ofNat 32 (lutNibbles (s.lutEntry p) 8 (opA s k p fn).data.toNat)⟩)) := by
  have hop : opLutn (s.opInputs k p fn) = toQ (BitVec.ofNat 32 (lutNibbles (s.lutEntry p) 8 (opA s k p fn).data.toNat)) [opA s k p fn] := rfl
  rw [exec_of_issues (op := opLutn) (fun _ _ => rfl) h, hop, CellRegs.finish_toQ (by simp [ha])]
  simp only [List.any_cons, List.any_nil, Bool.or_false]

theorem lutw_reads (h : issues s k p fn 0x55) (ha : (opA s k p fn).v = true) :
    exec (.cellLutw k) s = .next (s.setNxt k (loadQ (s.cell k) fn
      ⟨(opA s k p fn).s, true, BitVec.ofNat 32 (s.lutEntry p ((opA s k p fn).data.toNat % 16))⟩)) := by
  have hop : opLutw (s.opInputs k p fn) = toQ (BitVec.ofNat 32 (s.lutEntry p ((opA s k p fn).data.toNat % 16))) [opA s k p fn] := rfl
  rw [exec_of_issues (op := opLutw) (fun _ _ => rfl) h, hop, CellRegs.finish_toQ (by simp [ha])]
  simp only [List.any_cons, List.any_nil, Bool.or_false]

end

/-- Settles O10: each operation's result on valid operands is the function that the clause names. -/
theorem accumulatorAndWideCells : Obligations.AccumulatorAndWideCells := by
  refine ⟨fun _ _ _ _ h => mac_accumulates h, fun _ _ _ _ h => macl_loads h, fun _ _ _ _ h => accr_reads h, ?wld, ?wand, ?wor, ?wxor, ?wandn,
    ?wnot, ?wrol, ?wshl, ?wshr, ?wbfly, ?lfsr, ?crc32, fun _ _ _ _ h => wlutn_maps h, ?popc, ?par, ?clz, fun _ _ _ _ h => lutn_maps h,
    fun _ _ _ _ h => lutw_reads h⟩
  case wld => exact wideOp_of (op := opWld) (fun _ _ => rfl) fun _ => rfl
  case wand => exact wideOp_of (op := opWand) (fun _ _ => rfl) fun _ => rfl
  case wor => exact wideOp_of (op := opWor) (fun _ _ => rfl) fun _ => rfl
  case wxor => exact wideOp_of (op := opWxor) (fun _ _ => rfl) fun _ => rfl
  case wandn => exact wideOp_of (op := opWandn) (fun _ _ => rfl) fun _ => rfl
  case wnot => exact wideOp_of (op := opWnot) (fun _ _ => rfl) fun _ => rfl
  case wrol => exact wideOp_of (op := opWrol) (fun _ _ => rfl) fun _ => by rw [toNat_low]; rfl
  case wshl => exact wideOp_of (op := opWshl) (fun _ _ => rfl) fun _ => by rw [toNat_low]; rfl
  case wshr => exact wideOp_of (op := opWshr) (fun _ _ => rfl) fun _ => by rw [toNat_low]; rfl
  case wbfly => exact wideOp_of (op := opWbfly) (fun _ _ => rfl) fun _ => rfl
  case lfsr => exact wideOp_of (op := opLfsr) (fun _ _ => rfl) fun _ => rfl
  case crc32 => exact wideOp_of (op := opCrc32) (fun _ _ => rfl) fun i => by rw [i.high_x]; rfl
  case popc => exact binaryOp_of (op := opPopc) (fun _ _ => rfl) fun _ => opPopc_eq _
  case par => exact binaryOp_of (op := opPar) (fun _ _ => rfl) fun _ => opPar_eq _
  case clz => exact binaryOp_of (op := opClz) (fun _ _ => rfl) fun _ => opClz_eq _

end Sys2Proof.Machine
end

section
/-! INVALID OPERANDS. An operation with an operand whose V is 0 leaves ACC, CY and W alone, and under HOLDINV the whole cell (R64, R65). -/

open Sys2Proof.Claims

namespace Sys2Proof.Machine

theorem holdsOnInvalid_of {run : Fin 2944 → Instr} {o : Nat} {op : OpIn → OpOut} (hrun : Performs run o op)
    (hused : ∀ i, ∃ rest, (op i).used = i.a :: i.b :: rest) : holdsOnInvalid run o := by
  intro s k p fn h hinv
  obtain ⟨rest, hrest⟩ := hused (s.opInputs k p fn)
  have hinv : (s.opInputs k p fn).a.v = false ∨ (s.opInputs k p fn).b.v = false := hinv
  have hv : (op (s.opInputs k p fn)).used.all (·.v) = false := by
    rw [hrest]
    obtain h | h := hinv <;> simp [h]
  refine ⟨_, exec_of_issues hrun h, ?_⟩
  by_cases hhold : getBits fn 40 1 = 1
  · rw [CellRegs.finish_held hv hhold]
    exact ⟨rfl, rfl, rfl, rfl, rfl, fun _ => rfl, fun h => by omega⟩
  · obtain ⟨d, hd⟩ := CellRegs.finish_of_invalid (c := s.cell k) hv hhold
    obtain ⟨l0, l1, l2, l3, hl⟩ := loadQ_eq (s.cell k) fn ⟨(op (s.opInputs k p fn)).used.any (·.s), false, d⟩
    rw [hd, hl]
    exact ⟨rfl, rfl, rfl, rfl, rfl, fun h => absurd h hhold, fun _ => rfl⟩

/-- Settles O11: each of these operations consumes a and b, and an invalid result goes nowhere but to Q and L. -/
theorem invalidOperandsHoldTheCell : Obligations.InvalidOperandsHoldTheCell := by
  refine ⟨?add, ?addc, ?sub, ?subb, ?min, ?max, ?cmp, ?sel, ?mul, ?mac, ?macl, ?cntm, ?cnte, ?wld, ?wxor, ?crc32, ?popc⟩
  case add => exact holdsOnInvalid_of (op := opAdd) (fun _ _ => rfl) fun _ => ⟨_, rfl⟩
  case addc => exact holdsOnInvalid_of (op := opAddc) (fun _ _ => rfl) fun _ => ⟨_, rfl⟩
  case sub => exact holdsOnInvalid_of (op := opSub) (fun _ _ => rfl) fun _ => ⟨_, rfl⟩
  case subb => exact holdsOnInvalid_of (op := opSubb) (fun _ _ => rfl) fun _ => ⟨_, rfl⟩
  case min => exact holdsOnInvalid_of (op := opMin) (fun _ _ => rfl) fun _ => ⟨_, rfl⟩
  case max => exact holdsOnInvalid_of (op := opMax) (fun _ _ => rfl) fun _ => ⟨_, rfl⟩
  case cmp => exact holdsOnInvalid_of (op := opCmp) (fun _ _ => rfl) fun _ => ⟨_, rfl⟩
  case sel => exact holdsOnInvalid_of (op := opSel) (fun _ _ => rfl) fun _ => ⟨_, rfl⟩
  case mul => exact holdsOnInvalid_of (op := opMul) (fun _ _ => rfl) fun _ => ⟨_, rfl⟩
  case mac => exact holdsOnInvalid_of (op := opMac) (fun _ _ => rfl) fun _ => ⟨_, rfl⟩
  case macl => exact holdsOnInvalid_of (op := opMacl) (fun _ _ => rfl) fun _ => ⟨_, rfl⟩
  case cntm => exact holdsOnInvalid_of (op := opCntm) (fun _ _ => rfl) fun _ => ⟨_, rfl⟩
  case cnte => exact holdsOnInvalid_of (op := opCnte) (fun _ _ => rfl) fun _ => ⟨_, rfl⟩
  case wld => exact holdsOnInvalid_of (op := opWld) (fun _ _ => rfl) fun _ => ⟨_, rfl⟩
  case wxor => exact holdsOnInvalid_of (op := opWxor) (fun _ _ => rfl) fun _ => ⟨_, rfl⟩
  case crc32 => exact holdsOnInvalid_of (op := opCrc32) (fun _ _ => rfl) fun _ => ⟨_, rfl⟩
  case popc => exact holdsOnInvalid_of (op := opPopc) (fun _ _ => rfl) fun _ => ⟨_, rfl⟩

end Sys2Proof.Machine
end

section
/-! ROUTED CLOCKS, MEMORY AND PINS. Cells with a routed clock and their synchronisers, NOP, M-cells and X-cells (R86, R93 to R97, R107 to R110,
R113 to R116). -/

open Sys2Proof.Claims

namespace Sys2Proof.Machine

section

variable {s : State} {k p o : Nat} {fn : Wide} {op : OpIn → OpOut}

/-! ### Routed clocks -/

theorem loadQ_w {c : CellRegs} {d : FWord} : (loadQ c fn d).w = c.w := by
  obtain ⟨l0, l1, l2, l3, h⟩ := loadQ_eq c fn d
  rw [h]

theorem loadQ_sync {c : CellRegs} {d : FWord} : (loadQ c fn d).sync = c.sync := by
  obtain ⟨l0, l1, l2, l3, h⟩ := loadQ_eq c fn d
  rw [h]

theorem State.cellStep_of_edge (hpos : s.workPos k = some p) (hclk : s.isRclk p = true) (hen : s.cellEn p = true) (hfence : s.cellFenced k = false)
    (hctx : s.ctxGood p 0 = true) (hop : getBits (s.workWord p 0) 56 8 = o) (hedge : s.rclkEdge k p = true) :
    s.cellStep k o op = s.rclkStep k p (s.workWord p 0) op := by
  unfold State.cellStep
  rw [hpos]
  dsimp only
  rw [if_pos hclk, if_neg (by simp [hen, hfence, hctx, hedge]), if_pos (by simp [hop])]

/-- Without an edge of its routed clock a cell holds (R113). -/
theorem State.cellStep_of_noEdge (hpos : s.workPos k = some p) (hclk : s.isRclk p = true) (hedge : s.rclkEdge k p = false) :
    s.cellStep k o op = s := by
  unfold State.cellStep
  rw [hpos]
  dsimp only
  rw [if_pos hclk, if_pos (by simp [hedge])]

/-- A valid result of a routed edge is in the registers at once, and waits for the synchroniser, where no word was waiting (R113, R116). -/
theorem State.rclkStep_of_valid (hv : (op (s.opInputs k p fn)).used.all (·.v) = true) (hpend : (s.cell k).syncPend = false) :
    s.rclkStep k p fn op =
      (s.setRclkLvl k (s.rclkLevel p)).setCell k { s.opResult k p fn op with syncPend := true, syncAt := s.tick } := by
  unfold State.rclkStep
  extract_lets s0 r s1
  rw [if_neg (by simp [takesQ, hv]), if_neg (by simp [hpend])]

theorem wxor_onEdge {k : Fin 2944} (hpos : s.workPos k = some p) (hclk : s.isRclk p = true) (hfn : fn = s.workWord p 0) (hen : s.cellEn p = true)
    (hfence : s.cellFenced k = false) (hctx : s.ctxGood p 0 = true) (hop : getBits fn 56 8 = 0x43) (hedge : s.rclkEdge k p = true)
    (hpend : (s.cell k).syncPend = false) (ha : (opA s k p fn).v = true) (hb : (opB s k p fn).v = true) (hw : (s.cell k).wv = true) :
    ∃ r, exec (.cellWxor k) s = .next ((s.setRclkLvl k (s.rclkLevel p)).setCell k r) ∧
      r.w = (s.cell k).w ^^^ ((opB s k p fn).data ++ (opA s k p fn).data) ∧ r.syncPend = true ∧ r.syncAt = s.tick ∧ r.sync = (s.cell k).sync := by
  subst hfn
  have hv : (opWxor (s.opInputs k p (s.workWord p 0))).used.all (·.v) = true :=
    OpIn.consumed_valid (i := s.opInputs k p (s.workWord p 0)) (usesA := true) (usesB := true) (usesW := true) (fun _ => ha) (fun _ => hb)
      (fun _ => hw)
  have hexec : exec (.cellWxor k) s = .next (s.cellStep k 0x43 opWxor) := rfl
  rw [hexec, State.cellStep_of_edge hpos hclk hen hfence hctx hop hedge, State.rclkStep_of_valid hv hpend]
  refine ⟨_, rfl, ?_, rfl, rfl, ?_⟩
  · exact (congrArg CellRegs.w (CellRegs.finish_of_valid hv)).trans loadQ_w
  · exact (congrArg CellRegs.sync (CellRegs.finish_of_valid hv)).trans loadQ_sync

theorem rclkSync_transfers {k : Fin 2560} (hclk : s.isRclk (k + 64) = true) (hpend : (s.cell k).syncPend = true)
    (hfrom : (s.cell k).syncAt.toNat + 2 ≤ s.tick.toNat) (hto : s.tick.toNat ≤ (s.cell k).syncAt.toNat + 4) :
    exec (.rclkSyncTransfer k) s = .next (s.setCell k { s.cell k with sync := (s.cell k).q, syncPend := false }) := by
  rw [exec_rclkSyncTransfer]
  exact if_pos (by simp [hclk, hpend, hfrom, hto])

/-! ### NOP -/

theorem nop_holds {k : Fin 2944} (h : issues s k p fn 0x00) (hx : slotType k ≠ .x) :
    exec (.cellNop k) s = .next (s.setNxt k (s.cell k).landReads) := by
  rw [exec_cellNop, execCellNop, State.cellIssue_of_issues h, if_neg hx]

theorem nop_feedsNone {k : Fin 2944} (h : issues s k p fn 0x00) (hx : slotType k = .x) :
    exec (.cellNop k) s = .next (s.setNxt k
      { s.cell k with xde := FWord.zero, xxe := FWord.zero, xdo := FWord.zero, xxo := FWord.zero }) := by
  rw [exec_cellNop, execCellNop, State.cellIssue_of_issues h, if_pos hx]

/-! ### M-cells -/

theorem PortAcc.reads_of_idle {x : PortAcc} (h : x.mode = 0) : x.reads = false := by simp [PortAcc.reads, h]

theorem PortAcc.writes_of_idle {x : PortAcc} (h : x.mode = 0) : x.writes = false := by simp [PortAcc.writes, h]

/-- The access of port 0 of the M-cell of cluster `m` under function word `fn` (R93, R94). -/
def State.port0 (s : State) (m p : Nat) (fn : Wide) : PortAcc := (s.portAccs (mSlot m) p fn).1

theorem State.port0_eq {m : Nat} : s.port0 m p fn = ⟨getBits fn 38 2, (s.operand p .m (s.cell (mSlot m)) 0 (getBits fn 52 4)).v,
    (s.operand p .m (s.cell (mSlot m)) 0 (getBits fn 52 4)).s,
    ((s.operand p .m (s.cell (mSlot m)) 0 (getBits fn 52 4)).data.toNat + getBits fn 0 12) % 4096,
    s.operand p .m (s.cell (mSlot m)) 0 (getBits fn 48 4)⟩ := rfl

/-- With port 1 idle, MEM is the access of port 0 (R93, R94). -/
theorem mem_accesses {m : Fin 256} (h : issues s (mSlot m) p fn 0x80) (hidle : getBits fn 36 2 = 0)
    (hgood : (s.port0 m p fn).reads = true → (s.mword m (s.physWord m (s.port0 m p fn).a)).bad = false) :
    ∃ r, exec (.cellMem m) s = .next ((s.setNxt (mSlot m) r).portWrite m (s.port0 m p fn)) ∧
      r.pipe0 = (s.cell (mSlot m)).landReads.pipe0.after (s.port0 m p fn) (s.mword m (s.physWord m (s.port0 m p fn).a)) ∧
      r.pipe1.busy = false := by
  have hmode : (s.portAccs (mSlot m) p fn).2.mode = 0 := hidle
  have hread : ((s.port0 m p fn).reads && (s.mword m (s.physWord m (s.port0 m p fn).a)).bad) = false := by
    cases hr : (s.port0 m p fn).reads <;> simp [hgood, hr]
  rw [exec_cellMem]
  unfold execCellMem
  dsimp only
  rw [State.cellIssue_of_issues h]
  unfold State.port0 at hread ⊢
  generalize s.portAccs (mSlot m) p fn = x at *
  obtain ⟨x0, x1⟩ := x
  dsimp only at *
  have hnone : ∀ t : State, t.portWrite m x1 = t := fun t => if_neg (by simp [PortAcc.writes_of_idle hmode])
  rw [hread, PortAcc.reads_of_idle hmode, PortAcc.writes_of_idle hmode]
  simp only [Bool.false_and, Bool.and_false, Bool.false_eq_true, if_false, hnone]
  exact ⟨_, rfl, rfl, by simp [PortPipe.after, hmode]⟩

theorem mem_reads {m : Fin 256} {ad : FWord} (h : issues s (mSlot m) p fn 0x80) (hread : getBits fn 38 2 = 1) (hidle : getBits fn 36 2 = 0)
    (had : s.operand p .m (s.cell (mSlot m)) 0 (getBits fn 52 4) = ad) (hv : ad.v = true) (hs : ad.s = false) :
    let a := (ad.data.toNat + getBits fn 0 12) % 4096
    let w := s.mword m (s.physWord m a)
    w.s = false → w.bad = false →
    ∃ r, exec (.cellMem m) s = .next (s.setNxt (mSlot m) r) ∧ r.pipe0 = ⟨a, 1, true, ⟨false, true, w.data⟩⟩ ∧ r.pipe1.busy = false := by
  intro a w hws hgood
  have hacc : s.port0 m p fn = ⟨1, true, false, a, s.operand p .m (s.cell (mSlot m)) 0 (getBits fn 48 4)⟩ := by
    rw [State.port0_eq, had, hread, hv, hs]
  obtain ⟨r, hexec, hpipe, hbusy⟩ := mem_accesses h hidle (by rw [hacc]; exact fun _ => hgood)
  refine ⟨r, ?_, ?_, hbusy⟩
  · rw [hexec, hacc]
    exact congrArg Host.Outcome.next (if_neg (by simp [PortAcc.writes]))
  · rw [hpipe, hacc]
    simp only [PortPipe.after, portRead, hgood, hws, w]
    simp

/-- A word is written with its parity good (R92). -/
theorem mkWord_good {d : Word} {st : Bool} : (mkWord d st).bad = false := by
  unfold MWord.bad mkWord
  dsimp only
  generalize parityNat 32 d.toNat + b2n st = n
  obtain h | h := Nat.mod_two_eq_zero_or_one n <;> simp [b2n, h, Nat.add_mod]

theorem mem_writes {m : Fin 256} {ad d : FWord} (h : issues s (mSlot m) p fn 0x80) (hwrite : getBits fn 38 2 = 2) (hidle : getBits fn 36 2 = 0)
    (had : s.operand p .m (s.cell (mSlot m)) 0 (getBits fn 52 4) = ad) (hv : ad.v = true) (hs : ad.s = false)
    (hd : s.operand p .m (s.cell (mSlot m)) 0 (getBits fn 48 4) = d) (hdv : d.v = true) :
    let a := (ad.data.toNat + getBits fn 0 12) % 4096
    ∃ r w, exec (.cellMem m) s = .next ((s.setNxt (mSlot m) r).setMword m (s.physWord m a) w) ∧ w.data = d.data ∧ w.s = d.s ∧ w.bad = false ∧
      r.pipe0.busy = false := by
  intro a
  have hacc : s.port0 m p fn = ⟨2, true, false, a, d⟩ := by rw [State.port0_eq, had, hd, hwrite, hv, hs]
  obtain ⟨r, hexec, hpipe, -⟩ := mem_accesses h hidle (by rw [hacc]; exact fun hr => by simp [PortAcc.reads] at hr)
  refine ⟨r, mkWord d.data d.s, ?_, rfl, rfl, mkWord_good, ?_⟩
  · rw [hexec, hacc, State.portWrite, if_pos (by simp [PortAcc.writes, hdv]), Bool.or_false]
    rfl
  · rw [hpipe, hacc]
    rfl

/-! ### X-cells -/

theorem xio_feedsEven {x : Fin 128} (h : issues s (xSlot x) p fn 0xC0) (heven : getBits fn 39 1 = 1) (hodd : getBits fn 38 1 = 0) :
    exec (.cellXio x) s = .next (s.setNxt (xSlot x) { s.cell (xSlot x) with
      xde := s.operand p .x (s.cell (xSlot x)) 0 (getBits fn 52 4), xxe := s.operand p .x (s.cell (xSlot x)) 0 (getBits fn 48 4),
      xdo := FWord.zero, xxo := FWord.zero }) := by
  rw [exec_cellXio, execCellXio, State.cellIssue_of_issues h]
  simp only [heven, hodd, if_true, Nat.zero_ne_one, if_false]

/-- The pop of an issue tick takes the oldest word of a stream buffer that holds one (R110). -/
theorem stream_pops {x : Fin 128} {r : CellRegs} {w : Word} {ws : List Word} :
    let p := posOfSlot (xSlot x)
    let fn := s.workWord p (s.activeCtx p)
    s.cellNxt (xSlot x) = some r → s.ctxGood p (s.activeCtx p) = true → getBits fn 37 1 = 1 → xSlot x ∉ s.fab.slipped →
    (s.xsBuf x).popAt ≠ some s.tick → getBits (s.staticWord p) 1 1 = 1 → (s.xsBuf x).words = w :: ws →
    exec (.streamPop x) s = .next ((s.setXsBuf x { s.xsBuf x with words := ws, rd := ((s.xsBuf x).rd + 1) % 1024, popAt := some s.tick }).setNxt
      (xSlot x) { r with q1 := ⟨false, true, w⟩ }) := by
  intro p fn hnxt hctx hpop hslip hfirst hbuf hwords
  rw [exec_streamPop]
  unfold execStreamPop
  dsimp only
  rw [hnxt, hwords]
  dsimp only
  rw [if_neg (by simp [p, fn, hctx, hpop, hfirst]), if_neg (by simp [p, hbuf]), if_neg (by simpa using hslip)]

end

/-- Settles O12: each clause is the lemma above of the cell that it names. -/
theorem routedMemoryAndPinCells : Obligations.RoutedMemoryAndPinCells := by
  refine ⟨fun _ _ _ _ => wxor_onEdge, fun s k p hpos hclk hedge => ⟨?_, ?_⟩, fun _ _ => rclkSync_transfers, fun s k p fn h hx => ?_,
    fun _ _ _ _ h hx => nop_feedsNone h hx, fun _ _ _ _ _ => mem_reads, fun _ _ _ _ _ _ => mem_writes, fun _ _ _ _ => xio_feedsEven,
    fun _ _ _ _ _ => stream_pops⟩
  · exact congrArg Host.Outcome.next (State.cellStep_of_noEdge hpos hclk hedge)
  · exact congrArg Host.Outcome.next (State.cellStep_of_noEdge hpos hclk hedge)
  · exact ⟨_, nop_holds h hx, rfl, rfl, rfl, rfl, rfl, rfl, rfl, fun hb => if_neg (by simp [hb]), fun hb => if_neg (by simp [hb])⟩

end Sys2Proof.Machine
end

section
/-! FABRIC SETTINGS AND READ-BACK. Writes of FAB_CTXSEL and of the spare-row entries, and reads of FAB_RB_DATA (R99, R119, R157 to R159). -/

open Sys2Proof.Claims

namespace Sys2Proof.Machine

section

variable {s : State} {req : Requester}

theorem onlyRegsLog_logRefused {off : Nat} : onlyRegsLog s (s.logRefused req off 0) [] := ⟨rfl, fun _ _ => rfl⟩

theorem ctxsel_written {n : Fin 16} {v : Word} (hs : s.regsWf) (hidle : s.siteActive n = false) :
    ∃ t, exec (.fabCtxselWrite req n v) s = .next t ∧ t.fld (F.FAB_CTXSEL.INIT n) = v.toNat / 65536 % 8 ∧ onlyRegs s t [R.FAB_CTXSEL n] := by
  rw [exec_fabCtxselWrite, execFabCtxselWrite, if_neg (by simp [hidle])]
  refine ⟨_, rfl, ?_, onlyRegs_setReg⟩
  rw [State.fld_setFld _ _ hs (show 16 + 3 ≤ 64 by decide)]
  exact Nat.mod_mod _ _

theorem ctxsel_refused {n : Fin 16} {v : Word} (hactive : s.siteActive n = true) :
    ∃ t, exec (.fabCtxselWrite req n v) s = .next t ∧ logs s t C.STATE_REFUSED (srcRequester req) (R.FAB_CTXSEL n) ∧ onlyRegsLog s t [] := by
  rw [exec_fabCtxselWrite, execFabCtxselWrite, if_pos hactive]
  exact ⟨_, rfl, logs_logRefused, onlyRegsLog_logRefused⟩

/-- An entry of a region that is EMPTY or HELD takes EN and ROW (R99). -/
theorem mrep_written {m : Fin 256} {k : Fin 16} {v : Word} (hs : s.regsWf) (htest : s.chunkTested m = false)
    (hst : s.rgnState (s.fld (F.FAB_RGN_MAP.REGION m)) = 0 ∨ s.rgnState (s.fld (F.FAB_RGN_MAP.REGION m)) = 2) :
    ∃ t, exec (.fabMrepWrite req m k v) s = .next t ∧ t.fld (F.FAB_MREP.ROW m k) = v.toNat % 256 ∧
      t.fld (F.FAB_MREP.EN m k) = v.toNat / 256 % 2 ∧ onlyRegs s t [R.FAB_MREP m k] := by
  have hexec : exec (.fabMrepWrite req m k v) s =
      .next (s.setFlds [(F.FAB_MREP.EN m k, v.toNat / 256 % 2), (F.FAB_MREP.ROW m k, v.toNat % 256)]) := by
    rw [exec_fabMrepWrite, execFabMrepWrite, if_neg (by simp [htest]), State.mrepWrite, if_pos hst]
    rfl
  refine ⟨_, hexec, ?_, ?_, onlyRegs_setFlds (by simp)⟩
  · exact (State.fld_setFlds [_] [] hs (show 0 + 8 ≤ 64 by decide) (by simp)).trans (Nat.mod_mod _ _)
  · exact (State.fld_setFlds [] [_] hs (show 8 + 1 ≤ 64 by decide) (by simp [Fld.Apart])).trans (Nat.mod_mod _ _)

/-- An entry of a region that is LOADING or LIVE is refused (R99). -/
theorem mrep_refused {m : Fin 256} {k : Fin 16} {v : Word} (htest : s.chunkTested m = false)
    (hst : s.rgnState (s.fld (F.FAB_RGN_MAP.REGION m)) = 1 ∨ s.rgnState (s.fld (F.FAB_RGN_MAP.REGION m)) = 3) :
    ∃ t, exec (.fabMrepWrite req m k v) s = .next t ∧ logs s t C.STATE_REFUSED (srcRequester req) (R.FAB_MREP m k) ∧ onlyRegsLog s t [] := by
  rw [exec_fabMrepWrite, execFabMrepWrite, if_neg (by simp [htest]), State.mrepWrite, if_neg (by omega)]
  exact ⟨_, rfl, logs_logRefused, onlyRegsLog_logRefused⟩

/-- With no slice under test a read of FAB_RB_DATA aborts none (R159, R520). -/
theorem exec_fabRbDataRead_untested (hslices : s.bist.slices = []) : exec (.fabRbDataRead req) s = .next (s.rbDataRead req) := by
  have habort : s.rbAbort req = s := if_neg (by simp [hslices])
  rw [exec_fabRbDataRead, execFabRbDataRead, habort]

theorem readBack_serves (hs : s.regsWf) (hslices : s.bist.slices = []) (hallow : s.allows req .readBack = true) (hok : s.readBackOk = true) :
    ∃ t, exec (.fabRbDataRead req) s = .next t ∧
      t.rdata = BitVec.ofNat 64 (s.readBack (s.fld F.FAB_RB_ADDR.SPACE) (s.fld F.FAB_RB_ADDR.SLOT) (s.fld F.FAB_RB_ADDR.WORD)) ∧
      t.fld F.FAB_RB_ADDR.WORD = (s.fld F.FAB_RB_ADDR.WORD + 1) % 2 ^ F.FAB_RB_ADDR.WORD.w ∧ t = { s with regs := t.regs, rdata := t.rdata } ∧
      regsBut s t [R.FAB_RB_ADDR] := by
  rw [exec_fabRbDataRead_untested hslices, State.rbDataRead, if_neg (by simp [hallow]), if_neg (by simp [hok])]
  refine ⟨_, rfl, rfl, ?_, rfl, fun o ho => ?_⟩
  · exact State.fld_setFld (s := { s with rdata := _ }) _ _ hs (by decide)
  · exact State.reg_setFld_ne { s with rdata := _ } _ (List.ne_of_not_mem_cons ho)

theorem readBack_notStopped (hslices : s.bist.slices = []) (hallow : s.allows req .readBack = true) (hok : s.readBackOk = false) :
    ∃ t, exec (.fabRbDataRead req) s = .next t ∧ t.rdata = 0 ∧ logs s t C.READBACK_NOT_STOPPED (srcRequester req) 0 ∧
      t = { s with err := t.err, rdata := 0 } := by
  rw [exec_fabRbDataRead_untested hslices, State.rbDataRead, if_neg (by simp [hallow]), if_pos (by simp [hok])]
  exact ⟨_, rfl, rfl, rfl, rfl⟩

theorem readBack_refused (hslices : s.bist.slices = []) (hallow : s.allows req .readBack = false) :
    ∃ t, exec (.fabRbDataRead req) s = .next t ∧ t.rdata = 0 ∧ logs s t C.STATE_REFUSED (srcRequester req) R.FAB_RB_DATA ∧
      t = { s with err := t.err, rdata := 0 } := by
  rw [exec_fabRbDataRead_untested hslices, State.rbDataRead, if_pos (by simp [hallow])]
  exact ⟨_, rfl, rfl, logs_logRefused (s := { s with rdata := 0 }), rfl⟩

end

/-- Settles O14: each clause is the lemma above of the write or the read that it names. -/
theorem fabricSettingsAndReadBack : Obligations.FabricSettingsAndReadBack :=
  ⟨fun _ _ _ _ => ctxsel_written, fun _ _ _ _ => ctxsel_refused, fun _ _ _ _ _ => mrep_written, fun _ _ _ _ _ => mrep_refused,
    fun _ _ hs hslices _ => readBack_serves hs hslices, fun _ _ hslices _ => readBack_notStopped hslices,
    fun _ _ hslices _ => readBack_refused hslices⟩

end Sys2Proof.Machine
end

section
/-! REGION COMMANDS AND STARFIX. What refutes the statement about FREEZE and THAW (R146, R147, R430), and the Starfix capture from its arming to the freeing
of its buffer (R149 to R156). -/

open Sys2Proof.Claims

namespace Sys2Proof.Machine

section

variable {s : State} {req : Requester}

/-! ### THAW -/

/-- A THAW of a region that is HELD, FROZEN and not FAILED is accepted where no region command is under way (R146, R147). -/
theorem exec_thaw_accepted {g : Fin 64} (hallow : s.allows req .freezeThaw = true) (hbusy : s.bit F.FAB_RGN_CMD_STAT.BUSY = false)
    (hst : s.rgnState g = 2) (hfrozen : s.bit (F.FAB_RGN_DESC.FROZEN g) = true) (hfailed : s.bit (F.FAB_RGN_DESC.FAILED g) = false) :
    exec (.thaw req g) s = .next (s.acceptRgn true g) := by
  rw [exec_thaw, execThaw, if_neg (by simp [hallow]), if_neg (by simp [hst]), if_neg (by simp [hbusy, hst, hfrozen, hfailed])]

/-- Region 63 in the tick in which its load commits: HELD, and still FROZEN. -/
def committingRegion : State :=
  ({ State.reset with dev := .loaded, fckOn := true, cfg := { CfgState.reset with committed := some (0, [63]) } } : State).setFlds
    [(F.FAB_RGN_DESC.STATE 63, 2), (F.FAB_RGN_DESC.FROZEN 63, 1)]

/-- Its THAW counts as accepted in the next tick (R430). -/
theorem rgnPend_thaw_committingRegion : (committingRegion.acceptRgn true 63).fab.rgnPend = some ⟨true, 63, 1, false⟩ := by decide

/-! ### Starfix -/

/-- A trigger of an idle engine arms it for the tick that it names, when that is at least four ticks ahead (R150, R151). -/
theorem State.sfxTrigger_armed {t cause src : Nat} {named : Bool} (hidle : s.fld F.FAB_SFX_STAT.STATE = 0) (hahead : s.tick.toNat + 4 ≤ t) :
    s.sfxTrigger t cause src named =
      (s.setSfx { s.fab.sfx with armed := some (BitVec.ofNat 64 t), cause := cause, halt := false, image := [] }).setFlds
        [(F.FAB_SFX_STAT.STATE, 1), (F.FAB_SFX_STAT.STATUS, 0)] := by
  rw [State.sfxTrigger, if_neg (by simp [hidle]), if_neg (by omega)]
  rfl

/-- What arming leaves in FAB_SFX_STAT. -/
theorem armed_stat (hs : s.regsWf) :
    (s.setFlds [(F.FAB_SFX_STAT.STATE, 1), (F.FAB_SFX_STAT.STATUS, 0)]).fld F.FAB_SFX_STAT.STATE = 1 ∧
    (s.setFlds [(F.FAB_SFX_STAT.STATE, 1), (F.FAB_SFX_STAT.STATUS, 0)]).fld F.FAB_SFX_STAT.STATUS = 0 :=
  ⟨State.fld_setFlds [] [_] hs (show 0 + 2 ≤ 64 by decide) (by simp [Fld.Apart]), State.fld_setFlds [_] [] hs (show 16 + 16 ≤ 64 by decide) (by simp)⟩

theorem starfixArm_accepted (hs : s.regsWf) (hallow : s.allows req .starfixArm = true) (hidle : s.fld F.FAB_SFX_STAT.STATE = 0)
    (hahead : s.tick.toNat + 4 ≤ (s.reg R.FAB_SFX_TICK).toNat) :
    ∃ t, exec (.starfixArm req) s = .next t ∧ t.fld F.FAB_SFX_STAT.STATE = 1 ∧ t.fld F.FAB_SFX_STAT.STATUS = 0 ∧
      t = { s with regs := t.regs, fab := { s.fab with sfx := { s.fab.sfx with
        armed := some (s.reg R.FAB_SFX_TICK), cause := 0, halt := false, image := [] } } } ∧
      regsBut s t [R.FAB_SFX_STAT] := by
  rw [exec_starfixArm, execStarfixArm, if_neg (by simp [hallow]), State.sfxTrigger_armed hidle hahead, BitVec.ofNat_toNat, BitVec.setWidth_eq]
  obtain ⟨hstate, hstatus⟩ := armed_stat (s := s.setSfx _) hs
  obtain ⟨heq, hregs⟩ := onlyRegs_setFlds (s := s.setSfx _) (xs := [(F.FAB_SFX_STAT.STATE, 1), (F.FAB_SFX_STAT.STATUS, 0)])
    (offs := [R.FAB_SFX_STAT]) (by simp)
  exact ⟨_, rfl, hstate, hstatus, heq, hregs⟩

/-- A tick less than four ahead is missed (R151). -/
theorem starfixArm_missed (hs : s.regsWf) (hallow : s.allows req .starfixArm = true) (hidle : s.fld F.FAB_SFX_STAT.STATE = 0)
    (hlate : (s.reg R.FAB_SFX_TICK).toNat < s.tick.toNat + 4) :
    ∃ t, exec (.starfixArm req) s = .next t ∧ t.fld F.FAB_SFX_STAT.STATUS = C.STARFIX_MISSED ∧
      logs s t C.STARFIX_MISSED (srcRequester req) 0 ∧ onlyRegsLog s t [R.FAB_SFX_STAT] := by
  rw [exec_starfixArm, execStarfixArm, if_neg (by simp [hallow]), State.sfxTrigger, if_neg (by simp [hidle]), if_pos ⟨rfl, hlate⟩]
  exact ⟨_, rfl, State.fld_setFld F.FAB_SFX_STAT.STATUS _ hs (by decide), logs_report_requester onlyRegs_setReg (by decide),
    onlyRegsLog_report onlyRegs_setReg⟩

theorem starfixCancel_disarms (hs : s.regsWf) (harmed : s.fld F.FAB_SFX_STAT.STATE = 1) :
    ∃ t, exec (.starfixCancel req) s = .next t ∧ t.fld F.FAB_SFX_STAT.STATE = 0 ∧
      t = { s with regs := t.regs, fab := { s.fab with sfx := { s.fab.sfx with armed := none } } } ∧ regsBut s t [R.FAB_SFX_STAT] := by
  rw [exec_starfixCancel, execStarfixCancel, if_pos harmed]
  exact ⟨_, rfl, State.fld_setFld (s := s.setSfx _) _ _ hs (by decide), rfl, onlyRegs_setReg.2⟩

theorem State.setFld_sfx_setSfx {x : Starfix} {f : Fld} {v : Nat} : ((s.setSfx x).setFld f v).fab.sfx = x := rfl

/-- The capture of the named tick without HALT: the image of the state in the tick and after its edge, and nothing stops (R149, R152). -/
theorem starfixCapture_captures (hs : s.regsWf) (hstate : s.fld F.FAB_SFX_STAT.STATE = 1) (harmed : s.fab.sfx.armed = some s.tick)
    (hmode : s.bit F.FAB_SFX_CTRL.MODE = false) :
    let s0 : State := { s with dump := { s.dump with marks := s.dump.marks ||| 4 } }
    let s1 : State := { s0 with queues := s.queues.map (fun q => (q.1, { q.2 with inFlight := [] })) }
    ∃ t, exec .starfixCapture s = .next t ∧ t.fld F.FAB_SFX_STAT.STATE = 2 ∧ t.fab.sfx.armed = none ∧
      t.fab.sfx.image = captureImage s0 (if s.fckOn then s1.fckEdge else s1) s.fab.sfx.cause false ∧
      t = { s with regs := t.regs, fab := { s.fab with sfx := t.fab.sfx }, dump := s0.dump } ∧ regsBut s t [R.FAB_SFX_STAT] := by
  intro s0 s1
  rw [exec_starfixCapture, execStarfixCapture, if_neg (by simp [hstate, harmed])]
  extract_lets _ u0 u1 e halt x levels u2
  have hhalt : halt = false := hmode
  rw [if_neg (by simp [hhalt])]
  have hsfx : u2.fab.sfx = { x with armed := none, halt, image := captureImage u0 e x.cause halt, levels := if halt then levels else x.levels } :=
    State.setFld_sfx_setSfx
  have himage : u2.fab.sfx.image = captureImage s0 e x.cause false := by rw [hsfx, hhalt]
  exact ⟨u2, rfl, State.fld_setFld (s := u0.setSfx _) _ _ hs (by decide), rfl, himage, rfl, onlyRegs_setReg.2⟩

theorem starfixDrain_readies (hs : s.regsWf) (hstate : s.fld F.FAB_SFX_STAT.STATE = 2) :
    ∃ t, exec .starfixDrainDone s = .next t ∧ t.fld F.FAB_SFX_STAT.STATE = 3 ∧ onlyRegs s t [R.FAB_SFX_STAT] := by
  rw [exec_starfixDrainDone, execStarfixDrainDone, if_pos hstate]
  exact ⟨_, rfl, State.fld_setFld _ _ hs (by decide), onlyRegs_setReg⟩

theorem starfixRelease_frees (hs : s.regsWf) (hstate : 2 ≤ s.fld F.FAB_SFX_STAT.STATE) :
    ∃ t, exec (.starfixRelease req) s = .next t ∧ t.fld F.FAB_SFX_STAT.STATE = 0 ∧
      t = { s with regs := t.regs, fab := { s.fab with sfx := { s.fab.sfx with image := [] } } } ∧ regsBut s t [R.FAB_SFX_STAT] := by
  rw [exec_starfixRelease, execStarfixRelease, if_pos hstate]
  exact ⟨_, rfl, State.fld_setFld (s := s.setSfx _) _ _ hs (by decide), rfl, onlyRegs_setReg.2⟩

/-- A one-bit field set to 1 is 1. -/
theorem State.bit_setFld_one {f : Fld} (hs : s.regsWf) (hf : f.lo + f.w ≤ 64) (hw : f.w = 1) : (s.setFld f 1).bit f = true := by
  rw [State.bit, State.fld_setFld _ _ hs hf, hw]
  rfl

theorem starfixUnload_begins (hs : s.regsWf) (hheld : s.bit F.FAB_SFX_STAT.ARRAYS_HELD = true) (hbusy : s.bit F.FAB_SFX_STAT.UNLOAD_BUSY = false) :
    ∃ t, exec (.starfixUnload req) s = .next t ∧ t.bit F.FAB_SFX_STAT.UNLOAD_BUSY = true ∧ onlyRegs s t [R.FAB_SFX_STAT] := by
  rw [exec_starfixUnload, execStarfixUnload, if_pos (by simp [hheld, hbusy])]
  exact ⟨_, rfl, State.bit_setFld_one hs (by decide) rfl, onlyRegs_setReg⟩

/-- The array copy ends when no slice tests an M-cell (R156, R520). -/
theorem starfixUnload_ends (hbusy : s.bit F.FAB_SFX_STAT.UNLOAD_BUSY = true) (htest : ∀ m < 256, s.chunkTested m = false) :
    exec .starfixUnloadDone s = .next (s.unloadArrays.setFld F.FAB_SFX_STAT.UNLOAD_BUSY 0) := by
  have hnone : (List.range 256).any s.chunkTested = false := List.any_eq_false.2 fun m hm => by simp [htest m (List.mem_range.1 hm)]
  rw [exec_starfixUnloadDone, execStarfixUnloadDone, if_pos (by simp [hbusy, hnone])]

end

/-- Refutes O15 by its clause on an accepted THAW: in the tick in which a load of the region commits, the THAW counts as accepted in the next tick
(R430), and the clause has it accepted in the present one. -/
theorem not_freezeAndThaw : ¬ Obligations.FreezeAndThaw := by
  intro h
  obtain ⟨haccepted, -⟩ := h
  have hallow : committingRegion.allows .host .freezeThaw = true := by decide
  have hbusy : committingRegion.bit F.FAB_RGN_CMD_STAT.BUSY = false := by decide
  have hst : committingRegion.rgnState 63 = 2 := by decide
  have hfrozen : committingRegion.bit (F.FAB_RGN_DESC.FROZEN 63) = true := by decide
  have hfailed : committingRegion.bit (F.FAB_RGN_DESC.FAILED 63) = false := by decide
  obtain ⟨t, e, -, -, heq, -⟩ := (haccepted .host 63 committingRegion (by decide) hallow hbusy).2 hst hfrozen hfailed
  cases e.symm.trans (exec_thaw_accepted (g := 63) hallow hbusy hst hfrozen hfailed)
  have hpend := (congrArg (fun u : State => u.fab.rgnPend) heq).symm.trans rgnPend_thaw_committingRegion
  exact absurd hpend (by decide)

/-- Settles O16: each clause is the lemma above of the step of the capture that it names. -/
theorem starfixCaptureAndUnload : Obligations.StarfixCaptureAndUnload :=
  ⟨fun _ _ hs hallow hidle => ⟨starfixArm_accepted hs hallow hidle, starfixArm_missed hs hallow hidle⟩, fun _ _ => starfixCancel_disarms,
    fun _ => starfixCapture_captures, fun _ => starfixDrain_readies, fun _ _ => starfixRelease_frees, fun _ _ => starfixUnload_begins,
    fun _ => starfixUnload_ends⟩

end Sys2Proof.Machine
end

section
/-! ISSUING AN INSTRUCTION. What a sequencer at an issue tick or a boundary does with a word that the shared checks let pass, reduced to the instruction's own
meaning (R169, R170, R175 to R177, R179, R190). -/

open Sys2Proof.Claims

namespace Sys2Proof.Machine

section

variable {s t u : State} {n : Nat} {p : Psq} {w : Word} {op : Nat}

/-! ### Sequencers of the state -/

/-- A sequencer that is not as reset leaves it reads back, whatever the form of the map. -/
theorem State.getPsq_setPsq_of_ne (h : p ≠ Psq.reset) : (s.setPsq n p).getPsq n = p := mget_mset_of_ne (d := fun _ => Psq.reset) h _

theorem State.fld_setPsq {f : Fld} : (s.setPsq n p).fld f = s.fld f := rfl

/-- Nothing but sequencer `n` differs between `s` and `t`. -/
def OnlyPsq (s : State) (n : Nat) (t : State) : Prop := (∀ m, m ≠ n → t.getPsq m = s.getPsq m) ∧ t = { s with psq := t.psq }

namespace OnlyPsq

theorem refl : OnlyPsq s n s := ⟨fun _ _ => rfl, rfl⟩

theorem setPsq (h : OnlyPsq s n t) : OnlyPsq s n (t.setPsq n p) := by
  obtain ⟨hother, heq⟩ := h
  exact ⟨fun m hm => (State.getPsq_setPsq_ne t p hm).trans (hother m hm), congrArg (State.setPsq · n p) heq⟩

theorem tick (h : OnlyPsq s n t) : t.tick = s.tick := by rw [h.2]

theorem regs (h : OnlyPsq s n t) : t.regs = s.regs := by rw [h.2]

theorem fld (h : OnlyPsq s n t) {f : Fld} : t.fld f = s.fld f := by
  unfold State.fld State.reg
  rw [h.regs]

theorem psqBecomes (h : OnlyPsq s n t) : psqBecomes s n (t.getPsq n) (.next t) := ⟨t, rfl, rfl, h.1, h.2⟩

end OnlyPsq

/-! ### The registers and immediates of an instruction -/

@[simp] theorem Psq.repLeft_setBankReg {b r : Nat} {v : Word} : (p.setBankReg b r v).repLeft = p.repLeft := by
  unfold Psq.setBankReg
  split <;> rfl

@[simp] theorem Psq.repLeft_setG {r : Nat} {v : Word} : (p.setG r v).repLeft = p.repLeft := Psq.repLeft_setBankReg

theorem setWidth_eq_imm : w.setWidth 16 = w.extractLsb' 0 16 := BitVec.setWidth_eq_extractLsb' (by decide)

theorem simm_eq_immS : simm w = immS w := congrArg (BitVec.signExtend 32) setWidth_eq_imm

theorem zimm_eq_immZ : zimm w = immZ w := congrArg (BitVec.setWidth 32) setWidth_eq_imm

/-! ### The vector word -/

/-- The state in which an instruction acts: its vector code stands for the coming edge, in a frame program and after NOPV. -/
def State.emitted (s : State) (n : Nat) (w : Word) : State :=
  if (s.getPsq n).exec = .frame ∨ fieldOf w 31 27 = 0 then s.emitWord n ((s.getPsq n).vcode (fieldOf w 26 24)) else s

/-! Emitting changes nothing of the sequencer but the word that is to be emitted. -/

@[simp] theorem emitting_g {r : Nat} : (emitting s n w).g r = (s.getPsq n).g r := by unfold emitting; split <;> rfl
@[simp] theorem emitting_bankReg {b r : Nat} : (emitting s n w).bankReg b r = (s.getPsq n).bankReg b r := by unfold emitting; split <;> rfl
@[simp] theorem emitting_exec : (emitting s n w).exec = (s.getPsq n).exec := by unfold emitting; split <;> rfl
@[simp] theorem emitting_pc : (emitting s n w).pc = (s.getPsq n).pc := by unfold emitting; split <;> rfl
@[simp] theorem emitting_depth : (emitting s n w).depth = (s.getPsq n).depth := by unfold emitting; split <;> rfl
@[simp] theorem emitting_priv : (emitting s n w).priv = (s.getPsq n).priv := by unfold emitting; split <;> rfl
@[simp] theorem emitting_trap : (emitting s n w).trap = (s.getPsq n).trap := by unfold emitting; split <;> rfl
@[simp] theorem emitting_sealFlag : (emitting s n w).sealFlag = (s.getPsq n).sealFlag := by unfold emitting; split <;> rfl
@[simp] theorem emitting_ecause : (emitting s n w).ecause = (s.getPsq n).ecause := by unfold emitting; split <;> rfl
@[simp] theorem emitting_winsel : (emitting s n w).winsel = (s.getPsq n).winsel := by unfold emitting; split <;> rfl
@[simp] theorem emitting_repLeft : (emitting s n w).repLeft = (s.getPsq n).repLeft := by unfold emitting; split <;> rfl
@[simp] theorem emitting_scratch : (emitting s n w).scratch = (s.getPsq n).scratch := by unfold emitting; split <;> rfl
@[simp] theorem emitting_fills : (emitting s n w).fills = (s.getPsq n).fills := by unfold emitting; split <;> rfl

theorem State.getPsq_emitted : (s.emitted n w).getPsq n = emitting s n w := by
  unfold State.emitted emitting
  split
  · exact State.getPsq_setPsq_of_ne fun h => Option.some_ne_none _ (congrArg Psq.vout h)
  · rfl

theorem OnlyPsq.emitted (w : Word) : OnlyPsq s n (s.emitted n w) := by
  unfold State.emitted
  split
  · exact .setPsq .refl
  · exact .refl

theorem State.emitted_eq (s : State) (n : Nat) (w : Word) : ∃ q, s.emitted n w = { s with psq := q } := ⟨_, (OnlyPsq.emitted w).2⟩

/-! ### The checks that all instructions share -/

theorem isOp_of_issuesWord (h : issuesWord s n w op) : isOp op w = true := by
  obtain ⟨-, -, -, hop, -⟩ := h
  exact beq_iff_eq.2 hop

theorem repLeft_of_issuesWord (h : issuesWord s n w op) : (s.getPsq n).repLeft = 0 := by
  obtain ⟨-, -, -, -, -, hrep⟩ := h
  exact hrep

/-- A sequencer that issues is executing. -/
theorem exec_of_issuesNow (h : s.issuesNow n = true) : (s.getPsq n).exec = .frame ∨ (s.getPsq n).exec = .svc := by
  unfold State.issuesNow State.atBoundary at h
  simp only [Bool.and_eq_true] at h
  obtain ⟨⟨⟨-, h⟩, -⟩, -⟩ := h
  cases he : (s.getPsq n).exec with
  | frame => exact .inl rfl
  | svc => exact .inr rfl
  | stop => simp [he] at h
  | wait => simp [he] at h
  | susp => simp [he] at h
  | fault => simp [he] at h

/-- A sequencer that issues is not as reset leaves it, nor is one with its execution state. -/
theorem ne_reset_of_issuesNow (h : s.issuesNow n = true) (hp : p.exec = (s.getPsq n).exec) : p ≠ Psq.reset := by
  have hreset : Psq.reset.exec = .stop := rfl
  rintro rfl
  obtain he | he := exec_of_issuesNow h <;> rw [← hp, hreset] at he <;> nomatch he

/-- The state that an instruction's result leaves where its traps are entered from `s`. -/
@[simp] def SeqResult.after (s : State) (n : Nat) : SeqResult → State
  | .done t => t
  | .trap c e d => s.trapAt n c e d

/-- An instruction that both kinds of program may issue, other than NOPV, does what is its own after the emit. -/
theorem State.issue_eq {mine : Word → Bool} {f : State → Psq → Word → SeqResult} (h : issuesWord s n w op) (hmine : mine w = true)
    (hop : 0 < op ∧ (op < 0x0E ∨ 0x11 < op) ∧ op < 0x1A) :
    s.issue n mine f = (f (s.emitted n w) (emitting s n w) w).after (s.emitted n w) n := by
  obtain ⟨hnow, hpage, rfl, rfl, hgood, hrep⟩ := h
  have hzero : fieldOf (s.getPsq n).fetch 31 27 ≠ 0 := by omega
  unfold State.issue
  extract_lets p w op frame service s1 s2
  have h1 : s1 = s.emitted n w := by
    unfold s1 State.emitted
    simp [frame, p, w, hzero]
  have h2 : s2 = s.emitted n w := by
    rw [← h1]
    exact if_neg (by simp [op, w, p, hzero])
  have hservice : service = false := decide_eq_false (show ¬ 0x1A ≤ fieldOf (s.getPsq n).fetch 31 27 by omega)
  have hclass : ¬ ((frame && service || !frame && (decide (0x0E ≤ op) && decide (op ≤ 0x11))) = true) := by
    simp [hservice, op, w, p]
    omega
  rw [if_neg (by simp [hnow]), if_neg (by simp [p, hpage]), if_neg (by simp [w, p, hmine]), if_neg (by simp [w, p, hgood, hrep]),
    if_neg hclass, h2, h1, State.getPsq_emitted]
  rfl

/-! ### Going on, and traps -/

theorem State.seqNext_eq {pc : Half} (hrep : p.repLeft = 0) : t.seqNext n p pc = .done (t.setPsq n (goesOn t p pc)) := by
  rw [State.seqNext, if_neg (by omega)]
  rfl

theorem goesOn_ne_reset {pc : Half} : goesOn s p pc ≠ Psq.reset := fun h => Option.some_ne_none _ (congrArg Psq.issuedAt h)

theorem goesOn_congr {pc : Half} (h : t.tick = s.tick) : goesOn t p pc = goesOn s p pc := by
  unfold goesOn
  rw [h]

/-- An instruction that only changes its sequencer, and goes on. -/
theorem psqBecomes_issue {mine : Word → Bool} {f : State → Psq → Word → SeqResult} {pc : Half} (h : issuesWord s n w op) (hmine : mine w = true)
    (hop : 0 < op ∧ (op < 0x0E ∨ 0x11 < op) ∧ op < 0x1A) (hf : f (s.emitted n w) (emitting s n w) w = t.seqNext n p pc) (ht : OnlyPsq s n t)
    (hrep : p.repLeft = 0) : psqBecomes s n (goesOn s p pc) (.next (s.issue n mine f)) := by
  rw [State.issue_eq h hmine hop, hf, State.seqNext_eq hrep, goesOn_congr ht.tick, SeqResult.after]
  have hread : (t.setPsq n (goesOn s p pc)).getPsq n = goesOn s p pc := State.getPsq_setPsq_of_ne goesOn_ne_reset
  have hbecomes := (ht.setPsq (p := goesOn s p pc)).psqBecomes
  rwa [hread] at hbecomes

/-- Outside a repetition a trap other than SYSCALL returns to the PC; it changes its sequencer only (R204, R206). -/
theorem State.trapAt_eq {cause detail : Nat} {eval : Word} (htrap : (s.getPsq n).trap = false) (hrep : (s.getPsq n).repLeft = 0)
    (hcause : cause ≠ T.SYSCALL) :
    s.trapAt n cause eval detail =
      s.setPsq n ((s.getPsq n).enterTrap (s.effFld n (F.PSQ_CFG.IVBASE n)) cause detail eval (s.getPsq n).pc s.tick) := by
  simp [State.trapAt, htrap, hrep, hcause]

theorem Psq.enterTrap_ne_reset {ivbase cause detail : Nat} {eval : Word} {epc : Half} {t : Wide} :
    p.enterTrap ivbase cause detail eval epc t ≠ Psq.reset := fun h => Bool.noConfusion (congrArg Psq.trap h)

end

end Sys2Proof.Machine
end

section
/-! SCRATCH MEMORY AND SPECIAL REGISTERS. LDS and STS, MFS and MTS, moves between banks, signals, captures and page fills (R150, R173, R178, R187, R188,
R212). -/

open Sys2Proof.Claims

namespace Sys2Proof.Machine

section

variable {s t : State} {n : Fin 16} {w : Word}

/-! ### Scratch memory -/

theorem scratchAddr_emitting : scratchAddr (emitting s n w) w = ((s.getPsq n).g (fieldOf w 19 16) + immS w) &&& 0x3FFF := by
  rw [scratchAddr, emitting_g, simm_eq_immS]

theorem seqLds_loads {a : Word} (ha : a = ((s.getPsq n).g (fieldOf w 19 16) + immS w) &&& 0x3FFF) (halign : a.toNat % 4 = 0)
    (h : issuesWord s n w 0x12) :
    psqBecomes s n (goesOn s ((emitting s n w).setG (fieldOf w 23 20) (mget (fun _ => 0) (a.toNat / 4) (s.getPsq n).scratch))
      ((s.getPsq n).pc + 1)) (exec (.seqLds n) s) := by
  refine psqBecomes_issue h (isOp_of_issuesWord h) (by decide) ?_ (.emitted w) (by simp [repLeft_of_issuesWord h])
  simp [scratchAddr_emitting.trans ha.symm, halign]

theorem seqSts_stores {a : Word} (ha : a = ((s.getPsq n).g (fieldOf w 19 16) + immS w) &&& 0x3FFF) (halign : a.toNat % 4 = 0)
    (h : issuesWord s n w 0x13) :
    psqBecomes s n (goesOn s { emitting s n w with
      scratch := mset (fun _ => 0) (a.toNat / 4) ((s.getPsq n).g (fieldOf w 23 20)) (s.getPsq n).scratch } ((s.getPsq n).pc + 1))
      (exec (.seqSts n) s) := by
  refine psqBecomes_issue h (isOp_of_issuesWord h) (by decide) ?_ (.emitted w) (by simp [repLeft_of_issuesWord h])
  simp [scratchAddr_emitting.trans ha.symm, halign]

/-- An address that is no multiple of 4 traps with ALIGN (R203). -/
theorem seqLds_unaligned {a : Word} (ha : a = ((s.getPsq n).g (fieldOf w 19 16) + immS w) &&& 0x3FFF) (halign : a.toNat % 4 ≠ 0)
    (htrap : (s.getPsq n).trap = false) (h : issuesWord s n w 0x12) :
    ∃ t, exec (.seqLds n) s = .next t ∧ (t.getPsq n).ecause = 10 ∧ (t.getPsq n).eval = a ∧ t = { s with psq := t.psq } ∧
      ∀ m, m ≠ n.val → t.getPsq m = s.getPsq m := by
  have hissue : exec (.seqLds n) s = .next ((s.emitted n w).trapAt n T.ALIGN a 0) := by
    rw [exec_seqLds, execSeqLds, State.issue_eq h (isOp_of_issuesWord h) (by decide)]
    simp [scratchAddr_emitting.trans ha.symm, halign]
  rw [State.trapAt_eq (by simpa [State.getPsq_emitted] using htrap) (by simpa [State.getPsq_emitted] using repLeft_of_issuesWord h) (by decide)]
    at hissue
  obtain ⟨hothers, heq⟩ := (OnlyPsq.emitted (s := s) (n := n) w).setPsq
  refine ⟨_, hissue, ?_, ?_, heq, hothers⟩
  all_goals
    rw [State.getPsq_setPsq_of_ne Psq.enterTrap_ne_reset]
    rfl

/-! ### Special registers -/

/-- MFS of a special register whose read gives `v` and leaves the sequencer as `q`. -/
theorem seqMfs_reads {r : Nat} {v : Word} {q : Psq} (h : issuesWord s n w 0x14) (hr : fieldOf w 11 0 = r)
    (hread : (s.emitted n w).sprRead n r = (v, t)) (ht : OnlyPsq s n t) (hq : t.getPsq n = q) (hrep : q.repLeft = (s.getPsq n).repLeft)
    (hpc : q.pc = (s.getPsq n).pc) :
    psqBecomes s n (goesOn s (q.setG (fieldOf w 23 20) v) ((s.getPsq n).pc + 1)) (exec (.seqMfs n) s) := by
  refine psqBecomes_issue h (isOp_of_issuesWord h) (by decide) ?_ ht (by simp [hrep, repLeft_of_issuesWord h])
  simp [hr, hread, hq, hpc]

theorem seqMfs_depth (h : issuesWord s n w 0x14) (hr : fieldOf w 11 0 = 0x009) :
    psqBecomes s n (goesOn s ((emitting s n w).setG (fieldOf w 23 20) (BitVec.ofNat 32 (s.getPsq n).depth)) ((s.getPsq n).pc + 1))
      (exec (.seqMfs n) s) := by
  refine seqMfs_reads h hr ?_ (.emitted w) State.getPsq_emitted emitting_repLeft emitting_pc
  rw [← emitting_depth (w := w), ← State.getPsq_emitted]
  rfl

theorem seqMfs_ecause (h : issuesWord s n w 0x14) (hr : fieldOf w 11 0 = 0x002) :
    psqBecomes s n (goesOn s ((emitting s n w).setG (fieldOf w 23 20) (s.getPsq n).ecause) ((s.getPsq n).pc + 1)) (exec (.seqMfs n) s) := by
  refine seqMfs_reads h hr ?_ (.emitted w) State.getPsq_emitted emitting_repLeft emitting_pc
  rw [← emitting_ecause (w := w), ← State.getPsq_emitted]
  rfl

/-- TICKLO latches TICKHI (R18, R188). -/
theorem seqMfs_tickLo (h : issuesWord s n w 0x14) (hr : fieldOf w 11 0 = 0x00F) :
    psqBecomes s n (goesOn s ({ emitting s n w with
      tickHi := some (BitVec.ofNat 32 (s.tick.toNat / 2 ^ 32)) }.setG (fieldOf w 23 20) (BitVec.ofNat 32 s.tick.toNat)) ((s.getPsq n).pc + 1))
      (exec (.seqMfs n) s) := by
  refine seqMfs_reads h hr ?_ (.setPsq (.emitted w)) (State.getPsq_setPsq_of_ne fun e => Option.some_ne_none _ (congrArg Psq.tickHi e))
    emitting_repLeft emitting_pc
  rw [← (OnlyPsq.emitted (s := s) (n := n) w).tick, ← State.getPsq_emitted]
  rfl

/-- MTS of a special register whose write leaves the sequencer as `q`. -/
theorem seqMts_writes {r : Nat} {q : Psq} (h : issuesWord s n w 0x15) (hpriv : (s.getPsq n).priv = true) (hseal : (s.getPsq n).sealFlag = false)
    (hr : fieldOf w 11 0 = r) (hwrite : (s.emitted n w).sprWrite n r ((s.getPsq n).g (fieldOf w 19 16)) = (s.emitted n w).setPsq n q)
    (hrep : q.repLeft = (s.getPsq n).repLeft) (hexec : q.exec = (s.getPsq n).exec) :
    psqBecomes s n (goesOn s q ((s.getPsq n).pc + 1)) (exec (.seqMts n) s) := by
  have hread : ((s.emitted n w).setPsq n q).getPsq n = q := State.getPsq_setPsq_of_ne (ne_reset_of_issuesNow h.1 hexec)
  refine psqBecomes_issue h (isOp_of_issuesWord h) (by decide) ?_ (OnlyPsq.setPsq (p := q) (.emitted w)) (hrep.trans (repLeft_of_issuesWord h))
  simp [hr, hseal, hpriv, hwrite, hread]

theorem seqMts_eval (h : issuesWord s n w 0x15) (hpriv : (s.getPsq n).priv = true) (hseal : (s.getPsq n).sealFlag = false)
    (hr : fieldOf w 11 0 = 0x003) :
    psqBecomes s n (goesOn s { emitting s n w with eval := (s.getPsq n).g (fieldOf w 19 16) } ((s.getPsq n).pc + 1)) (exec (.seqMts n) s) := by
  refine seqMts_writes h hpriv hseal hr ?_ emitting_repLeft emitting_exec
  rw [← State.getPsq_emitted]
  rfl

theorem seqMts_winsel (h : issuesWord s n w 0x15) (hpriv : (s.getPsq n).priv = true) (hseal : (s.getPsq n).sealFlag = false)
    (hr : fieldOf w 11 0 = 0x00A) :
    psqBecomes s n (goesOn s { emitting s n w with winsel := ((s.getPsq n).g (fieldOf w 19 16)).toNat % 16 } ((s.getPsq n).pc + 1))
      (exec (.seqMts n) s) := by
  refine seqMts_writes h hpriv hseal hr ?_ emitting_repLeft emitting_exec
  rw [← State.getPsq_emitted]
  rfl

/-! ### Moves between banks -/

theorem seqXmov_toBank (h : issuesWord s n w 0x16) (hseal : (s.getPsq n).sealFlag = false) (hpriv : (s.getPsq n).priv = true)
    (hdir : w.getLsbD 15 = true) :
    psqBecomes s n (goesOn s ((emitting s n w).setBankReg (s.getPsq n).winsel (fieldOf w 23 20) ((s.getPsq n).g (fieldOf w 19 16)))
      ((s.getPsq n).pc + 1)) (exec (.seqXmov n) s) := by
  have hbit : bitOf w.toNat 15 = true := hdir
  refine psqBecomes_issue h (isOp_of_issuesWord h) (by decide) ?_ (.emitted w) (by simp [repLeft_of_issuesWord h])
  simp [hseal, hpriv, hbit]

theorem seqXmov_fromBank (h : issuesWord s n w 0x16) (hseal : (s.getPsq n).sealFlag = false) (hpriv : (s.getPsq n).priv = true)
    (hdir : w.getLsbD 15 = false) :
    psqBecomes s n (goesOn s ((emitting s n w).setG (fieldOf w 23 20) ((s.getPsq n).bankReg (s.getPsq n).winsel (fieldOf w 19 16)))
      ((s.getPsq n).pc + 1)) (exec (.seqXmov n) s) := by
  have hbit : bitOf w.toNat 15 = false := hdir
  refine psqBecomes_issue h (isOp_of_issuesWord h) (by decide) ?_ (.emitted w) (by simp [repLeft_of_issuesWord h])
  simp [hseal, hpriv, hbit]

/-! ### Signals -/

theorem Psq.pending_pend {p : Psq} {src : Nat} {t : Wide} : (p.pend src t).pending src = true := by
  unfold Psq.pend
  split
  next h =>
    unfold Psq.pending
    rw [h]
    rfl
  next =>
    unfold Psq.pending
    rw [mget_mset_of_ne (Option.some_ne_none _)]
    rfl

theorem State.pending_pendIrq {k src : Nat} : ((s.pendIrq k src).getPsq k).pending src = true := by
  have hpend : ((s.getPsq k).pend src s.tick).pending src = true := Psq.pending_pend
  have hne : (s.getPsq k).pend src s.tick ≠ Psq.reset := fun h => Bool.noConfusion (hpend.symm.trans (congrArg (Psq.pending · src) h))
  rwa [State.pendIrq, State.getPsq_setPsq_of_ne hne]

/-- CODE of PSQ_SIG as a signal leaves it. -/
theorem getBits_sigCode {code k : Nat} {ovr : Bool} (hcode : code < 256) :
    getBits (BitVec.ofNat 64 (code + k * 2 ^ 8 + b2n ovr * 2 ^ 12)) 0 8 = code := by
  simp only [getBits, BitVec.toNat_ofNat, Nat.shiftRight_zero]
  omega

/-- A signal to another sequencer without HOST: its source SIGNAL is pending, and PSQ_SIG holds the code (R187). -/
theorem seqSig_signals {m : Fin 16} (hs : s.regsWf) (h : issuesWord s n w 0x17) (hne : m ≠ n) (hm : fieldOf w 19 16 = m)
    (hhost : w.getLsbD 15 = false) :
    ∃ t, exec (.seqSig n) s = .next t ∧ t.getPsq n = goesOn s (emitting s n w) ((s.getPsq n).pc + 1) ∧ (t.getPsq m).pending 4 = true ∧
      t.fld (F.PSQ_SIG.CODE m) = fieldOf w 7 0 ∧ t = { s with regs := t.regs, psq := t.psq } ∧ regsBut s t [R.PSQ_SIG m] := by
  have hbit : bitOf w.toNat 15 = false := hhost
  have hissue : exec (.seqSig n) s = .next
      (((s.emitted n w).setPsq n (goesOn (s.emitted n w) (emitting s n w) ((s.getPsq n).pc + 1))).signalSeq n m (fieldOf w 7 0) false) := by
    rw [exec_seqSig, execSeqSig, State.issue_eq h (isOp_of_issuesWord h) (by decide),
      State.seqNext_eq (emitting_repLeft.trans (repLeft_of_issuesWord h)), hm, hbit, emitting_pc]
    rfl
  obtain ⟨q, hq⟩ := s.emitted_eq n w
  rw [goesOn_congr (OnlyPsq.emitted w).tick, hq] at hissue
  refine ⟨_, hissue, ?_, State.pending_pendIrq, ?_, rfl, onlyRegs_setReg.2⟩
  · exact (State.getPsq_setPsq_ne _ _ (Fin.val_ne_of_ne hne.symm)).trans (State.getPsq_setPsq_of_ne goesOn_ne_reset)
  · exact (congrArg (getBits · 0 8) (State.reg_setReg _ _ hs)).trans (getBits_sigCode (Nat.mod_lt _ (by decide)))

/-! ### Captures -/

/-- The tick that SFX names is the sum in 64 bits, which is at least four ticks ahead. -/
theorem sfxTick_ahead {c i : Word} {now : Wide} (hfit : now.toNat + c.toNat + i.toNat < 2 ^ 64) (hahead : 4 ≤ c.toNat + i.toNat) :
    now.toNat + 4 ≤ (now + c.setWidth 64 + i.setWidth 64).toNat := by
  simp only [BitVec.toNat_add, BitVec.toNat_setWidth]
  omega

/-- SFX arms the Starfix capture of the tick that it names (R150, R151). -/
theorem seqSfx_arms {c : Word} (hs : s.regsWf) (h : issuesWord s n w 0x18) (hidle : s.fld F.FAB_SFX_STAT.STATE = 0)
    (hc : c = (s.getPsq n).g (fieldOf w 19 16)) (hfit : s.tick.toNat + c.toNat + (immZ w).toNat < 2 ^ 64)
    (hahead : 4 ≤ c.toNat + (immZ w).toNat) :
    ∃ t, exec (.seqSfx n) s = .next t ∧ t.fld F.FAB_SFX_STAT.STATE = 1 ∧
      t.fab.sfx.armed = some (s.tick + c.zeroExtend 64 + (immZ w).zeroExtend 64) ∧ t.fab.sfx.cause = 1 ∧
      t.getPsq n = goesOn s (emitting s n w) ((s.getPsq n).pc + 1) ∧ t = { s with regs := t.regs, psq := t.psq, fab := t.fab } ∧
      regsBut s t [R.FAB_SFX_STAT] := by
  obtain ⟨q, hq⟩ := s.emitted_eq n w
  have htick := sfxTick_ahead hfit hahead
  rw [exec_seqSfx, execSeqSfx, State.issue_eq h (isOp_of_issuesWord h) (by decide),
    State.seqNext_eq (emitting_repLeft.trans (repLeft_of_issuesWord h)), hq, emitting_g, emitting_pc, zimm_eq_immZ, ← hc]
  dsimp only
  rw [State.sfxTrigger_armed (s := { s with psq := q }) hidle htick, BitVec.ofNat_toNat, BitVec.setWidth_eq]
  exact ⟨_, rfl, (armed_stat (s := State.setSfx _ _) hs).1, rfl, rfl, State.getPsq_setPsq_of_ne goesOn_ne_reset, rfl,
    (onlyRegs_setFlds (s := State.setSfx _ _) (offs := [R.FAB_SFX_STAT]) (by simp)).2⟩

/-! ### Page fills -/

/-- The sequencer with a fill of page `page` from 16 KiB unit `unit` under way. -/
def Psq.filling (p : Psq) (page unit : Nat) : Psq := { p with fills := mset (fun _ => none) page (some unit) p.fills }

/-- The state in which a fill of page `page` of sequencer `n` has started (R173). -/
def State.fillStarted (s : State) (n page unit : Nat) : State :=
  (s.setPsq n ((s.getPsq n).filling page unit)).setFlds [(pageFld n page, 1), (F.PSQ_PG_STATUS.STATUS n, 0)]

/-- A fill of a page other than the PC's, none being under way for it, starts (R173, R174). -/
theorem State.startFill_starts {page unit : Nat} (hpage : (s.getPsq n).pc.toNat / 4096 ≠ page) (hfree : s.fld (pageFld n page) ≠ 1) :
    s.startFill n page unit = s.fillStarted n page unit := by
  rw [State.startFill, if_neg (not_or.2 ⟨hpage, hfree⟩)]
  rfl

theorem State.getPsq_fillStarted {page unit : Nat} (h : (s.getPsq n).filling page unit ≠ Psq.reset) :
    (s.fillStarted n page unit).getPsq n = (s.getPsq n).filling page unit := State.getPsq_setPsq_of_ne h

/-- PGLD starts the fill and goes on. -/
theorem exec_seqPgld_starts {page unit : Nat} (h : issuesWord s n w 0x19) (hp : fieldOf w 23 20 = page)
    (hunit : ((s.getPsq n).g (fieldOf w 19 16)).toNat = unit) (hpage : (s.getPsq n).pc.toNat / 4096 ≠ page) (hfree : s.fld (pageFld n page) ≠ 1) :
    exec (.seqPgld n) s =
      .next (((s.emitted n w).fillStarted n page unit).setPsq n (goesOn s ((emitting s n w).filling page unit) ((s.getPsq n).pc + 1))) := by
  have hne : ((s.emitted n w).getPsq n).filling page unit ≠ Psq.reset := by
    rw [State.getPsq_emitted]
    exact ne_reset_of_issuesNow h.1 emitting_exec
  have hstart : (s.emitted n w).startFill n page unit = (s.emitted n w).fillStarted n page unit :=
    State.startFill_starts (by rwa [State.getPsq_emitted, emitting_pc]) (by rwa [(OnlyPsq.emitted w).fld])
  have hrep : ((emitting s n w).filling page unit).repLeft = 0 := emitting_repLeft.trans (repLeft_of_issuesWord h)
  have htick : ((s.emitted n w).fillStarted n page unit).tick = s.tick := (OnlyPsq.emitted w).tick
  rw [exec_seqPgld, execSeqPgld, State.issue_eq h (isOp_of_issuesWord h) (by decide)]
  dsimp only
  rw [emitting_g, hp, hunit, hstart, State.getPsq_fillStarted hne, State.getPsq_emitted, State.seqNext_eq hrep, emitting_pc, goesOn_congr htick]
  rfl

theorem seqPgld_fills (hs : s.regsWf) (h : issuesWord s n w 0x19) (hpage : (s.getPsq n).pc.toNat / 4096 ≠ fieldOf w 23 20)
    (hfree : s.fld (pageFld n (fieldOf w 23 20)) ≠ 1) :
    ∃ t, exec (.seqPgld n) s = .next t ∧ t.fld (pageFld n (fieldOf w 23 20)) = 1 ∧ t.fld (F.PSQ_PG_STATUS.STATUS n) = 0 ∧
      (t.getPsq n).fills = mset (fun _ => none) (fieldOf w 23 20) (some ((s.getPsq n).g (fieldOf w 19 16)).toNat) (s.getPsq n).fills ∧
      (t.getPsq n).pc = (s.getPsq n).pc + 1 ∧ t = { s with regs := t.regs, psq := t.psq } ∧
      regsBut s t [(pageFld n (fieldOf w 23 20)).off, R.PSQ_PG_STATUS n] := by
  have hexec := exec_seqPgld_starts h rfl rfl hpage hfree
  have hlt : fieldOf w 23 20 < 2 ^ 4 := Nat.mod_lt _ (by decide)
  obtain ⟨q, hq⟩ := s.emitted_eq n w
  rw [hq] at hexec
  refine ⟨_, hexec, ?_, ?_, ?_, ?_, rfl, ?_⟩
  · rw [State.fld_setPsq]
    exact State.fld_setFlds [] [_] hs (show 2 * fieldOf w 23 20 + 2 ≤ 64 by omega) (by simp [Fld.Apart, pageFld])
  · rw [State.fld_setPsq]
    exact State.fld_setFlds [_] [] hs (show 0 + 16 ≤ 64 by decide) (by simp)
  · rw [State.getPsq_setPsq_of_ne goesOn_ne_reset, ← emitting_fills (w := w)]
    rfl
  · rw [State.getPsq_setPsq_of_ne goesOn_ne_reset]
    rfl
  · exact (onlyRegs_setFlds (s := State.setPsq _ _ _) (by simp)).2

end

/-- Settles O24: each clause is the lemma above of the instruction that it names. -/
theorem sequencerScratchAndSpecial : Obligations.SequencerScratchAndSpecial :=
  ⟨fun _ _ _ halign => ⟨seqLds_loads rfl halign, seqSts_stores rfl halign⟩, fun _ _ _ => seqLds_unaligned rfl,
    fun _ _ _ h => ⟨seqMfs_depth h, seqMfs_tickLo h, seqMfs_ecause h⟩,
    fun _ _ _ h hpriv hseal => ⟨seqMts_eval h hpriv hseal, seqMts_winsel h hpriv hseal⟩,
    fun _ _ _ h hseal hpriv => ⟨seqXmov_toBank h hseal hpriv, seqXmov_fromBank h hseal hpriv⟩, fun _ _ _ _ => seqSig_signals,
    fun _ _ _ _ => seqSfx_arms, fun _ _ _ => seqPgld_fills⟩

end Sys2Proof.Machine
end

section
/-! PIN SLICES: STATE AND REPORTS. Slices and registers as they read after a chain of writes, reports of a slice, and its refused commands (R238, R249,
R256). -/

open Sys2Proof.Claims

namespace Sys2Proof.Machine

section

variable {s t : State} {k : Nat} {x : Slice} {f : Fld} {offs : List Nat}

/-! ### Slices of the state -/

theorem State.slice_setSlice (h : mwf (fun _ => Slice.reset) s.slices = true) : (s.setSlice k x).slice k = x := mget_mset_same _ k x _ h

/-- A slice that is not as reset leaves it reads back, whatever the form of the map. -/
theorem State.slice_setSlice_of_ne (h : x ≠ Slice.reset) : (s.setSlice k x).slice k = x := mget_mset_of_ne (d := fun _ => Slice.reset) h _

theorem State.slice_setSlice_ne {j : Nat} (h : j ≠ k) : (s.setSlice k x).slice j = s.slice j := mget_mset_ne _ x h _

theorem State.slice_setFlds {xs : List (Fld × Nat)} : (s.setFlds xs).slice k = s.slice k := by
  rw [State.setFlds_eq]
  rfl

/-- A state that differs from `s` in its registers and slices is `s` with its own registers and slices. -/
theorem State.eq_of_regs_slices {regs slices} (h : t = { s with regs, slices }) : t = { s with regs := t.regs, slices := t.slices } := by
  rw [h]

theorem State.eq_of_regs_slices_err {regs slices err} (h : t = { s with regs, slices, err }) :
    t = { s with regs := t.regs, slices := t.slices, err := t.err } := by
  rw [h]

/-! ### Registers after a chain of writes -/

theorem regsBut_refl : regsBut s s offs := fun _ _ => rfl

theorem regsBut_setReg {off : Nat} {v : Wide} (h : regsBut s t offs) (hoff : off ∈ offs) : regsBut s (t.setReg off v) offs :=
  fun o ho => (State.reg_setReg_ne t v (ne_of_mem_of_not_mem hoff ho).symm).trans (h o ho)

theorem regsBut_setFld {v : Nat} (h : regsBut s t offs) (hf : f.off ∈ offs) : regsBut s (t.setFld f v) offs := regsBut_setReg h hf

theorem regsBut_setFlds {xs : List (Fld × Nat)} (h : regsBut s t offs) (hxs : ∀ e ∈ xs, e.1.off ∈ offs) : regsBut s (t.setFlds xs) offs :=
  fun o ho => ((onlyRegs_setFlds hxs).2 o ho).trans (h o ho)

theorem regsBut_addSat {n : Nat} (h : regsBut s t offs) (hf : f.off ∈ offs) : regsBut s (t.addSat f n) offs := regsBut_setFld h hf

theorem regsBut_append {u : State} {offs' : List Nat} (h : regsBut s t offs) (h' : regsBut t u offs') : regsBut s u (offs ++ offs') := by
  intro o ho
  obtain ⟨ho, ho'⟩ := not_or.1 (mt List.mem_append.2 ho)
  exact (h' o ho').trans (h o ho)

theorem regsBut_report {code source detail : Nat} (h : regsBut s t offs) : regsBut s (t.report code source detail) offs := h

theorem State.fld_report {code source detail : Nat} : (s.report code source detail).fld f = s.fld f := rfl

theorem State.bit_report {code source detail : Nat} : (s.report code source detail).bit f = s.bit f := rfl

theorem State.fld_of_regsBut (h : regsBut s t offs) (hf : f.off ∉ offs) : t.fld f = s.fld f := congrArg (getBits · f.lo f.w) (h f.off hf)

theorem State.fld_of_regs (h : t.regs = s.regs) : t.fld f = s.fld f := by
  unfold State.fld State.reg
  rw [h]

theorem State.bit_of_fld {n : Nat} (h : s.fld f = n) : s.bit f = (n == 1) := congrArg (· == 1) h

theorem State.regsWf_setFlds {xs : List (Fld × Nat)} (h : s.regsWf) : (s.setFlds xs).regsWf := by
  induction xs generalizing s with
  | nil => exact h
  | cons e xs ih => exact ih (State.regsWf_setFld _ _ h)

/-! ### Reports -/

/-- Beside SOURCE and DETAIL a report carries nothing, but from a U-cell or under a code of the configuration block. -/
theorem State.reportMore_of_ne {code source : Nat} (hsrc : source / 2 ^ 28 ≠ 2) (hcode : code / 256 ≠ 9) : s.reportMore code source = 0 := by
  rw [State.reportMore, if_neg hsrc, if_neg hcode]

theorem logs_report {code source detail : Nat} (herr : t.err = s.err) (htick : t.tick = s.tick) (hsrc : source / 2 ^ 28 ≠ 2)
    (hcode : code / 256 ≠ 9) : logs s (t.report code source detail) code source detail := by
  unfold logs reportOf State.report
  dsimp only
  rw [State.reportMore_of_ne hsrc hcode, State.reportMore_of_ne hsrc hcode, herr, htick]

theorem logs_logRefused_after {req : Requester} {off : Nat} (h : onlyRegs s t offs) :
    logs s (t.logRefused req off 0) C.STATE_REFUSED (srcRequester req) off := by
  rw [State.logRefused, Nat.zero_mul]
  exact logs_report_requester h (by decide)

theorem srcSlice_kind {k : Fin 256} : srcSlice k / 2 ^ 28 ≠ 2 := by
  unfold srcSlice
  omega

/-! ### Refused commands -/

/-- What a refused command of a slice leaves: its code in CMD_STATUS, and one report. -/
def RefusedPsl (s : State) (k code source detail : Nat) (t : State) : Prop :=
  t.fld (F.PSL_STAT.CMD_STATUS k) = code ∧ logs s t code source detail ∧ onlyRegsLog s t [R.PSL_STAT k]

theorem State.refusePsl_refused {req : Requester} {off detail : Nat} (hs : s.regsWf) :
    RefusedPsl s k C.STATE_REFUSED (srcRequester req) off (s.refusePsl req k C.STATE_REFUSED off detail) := by
  rw [State.refusePsl, if_pos rfl]
  exact ⟨State.fld_setFld (F.PSL_STAT.CMD_STATUS k) _ hs (show 16 + 16 ≤ 64 by decide), logs_logRefused_after onlyRegs_setReg,
    onlyRegsLog_report onlyRegs_setReg⟩

/-- A refusal with a code of the block of the slices. -/
theorem State.refusePsl_reported {req : Requester} {k : Fin 256} {code off detail : Nat} (hs : s.regsWf) (hcode : code / 256 = 4) :
    RefusedPsl s k code (srcSlice k) detail (s.refusePsl req k code off detail) := by
  have hne : code ≠ C.STATE_REFUSED := by
    rintro rfl
    exact absurd hcode (by decide)
  rw [State.refusePsl, if_neg hne]
  refine ⟨?_, logs_report rfl rfl srcSlice_kind (by omega), onlyRegsLog_report onlyRegs_setReg⟩
  exact (State.fld_setFld (F.PSL_STAT.CMD_STATUS k) _ hs (show 16 + 16 ≤ 64 by decide)).trans (Nat.mod_eq_of_lt (show code < 2 ^ 16 by omega))

end

end Sys2Proof.Machine
end

section
/-! CALIBRATION OF A SLICE. CAL, its end and its failure, and CNT_CLR (R237 to R241). -/

open Sys2Proof.Claims

namespace Sys2Proof.Machine

section

variable {s : State} {req : Requester} {k : Fin 256}

theorem State.present_of_quadReady {k : Nat} (h : s.quadReady k = true) : s.present k = true := (Bool.and_eq_true_iff.1 h).1

theorem pslCal_begins (hs : s.regsWf) (hquad : s.quadReady k = true) (hallow : s.allows req .pslCal = true) (hnf : s.fld F.BIST_STAT.NF ≠ 1)
    (hsafe : s.sliceState k = 1) (hbound : s.bit (F.PSL_STAT.BOUND k) = true) (hfck : s.bit F.TICK_STAT.FCK_BUSY = false)
    (hbusy : s.sliceBusy k = false) :
    ∃ t, exec (.pslCal req k) s = .next t ∧ t.slice k = { s.slice k with
        cal := true, calAt := s.tick, calRx := s.reg (R.PSL_DSK_RX k), set := { s.settings k with rx := 0 } } ∧
      t.fld (F.PSL_STAT.CMD_STATUS k) = 0 ∧ t.reg (R.PSL_DSK_RX k) = 0 ∧
      t = { s with regs := t.regs, slices := t.slices } ∧ (∀ j, j ≠ k.val → t.slice j = s.slice j) ∧
      regsBut s t [R.PSL_STAT k, R.PSL_DSK_RX k] := by
  rw [exec_pslCal, execPslCal, if_neg (by simp [State.present_of_quadReady hquad]), if_neg (by simp [hallow]), if_neg (by simp [hquad]),
    if_neg (by simp [hnf, hsafe, hbound, hfck, hbusy])]
  have hcal {x : Slice} (h : x.cal = true) : x ≠ Slice.reset := fun e => Bool.noConfusion (h.symm.trans (congrArg Slice.cal e))
  have hrx (x : Slice) : ((s.setSlice k x).setReg (R.PSL_DSK_RX k) 0).regsWf := State.regsWf_setReg _ _ hs
  refine ⟨_, rfl, State.slice_setSlice_of_ne (hcal rfl), ?_, ?_, rfl, fun j hj => State.slice_setSlice_ne hj, ?_⟩
  · exact State.fld_setFld (F.PSL_STAT.CMD_STATUS k) 0 (hrx _) (show 16 + 16 ≤ 64 by decide)
  · exact (State.reg_setFld_ne _ _ (by simp)).trans (State.reg_setReg _ _ hs)
  · exact regsBut_setFld (regsBut_setReg regsBut_refl (by simp)) (by simp)

theorem pslCal_refused (hs : s.regsWf) (hpresent : s.present k = true) (hallow : s.allows req .pslCal = false) :
    ∃ t, exec (.pslCal req k) s = .next t ∧ RefusedPsl s k C.STATE_REFUSED (srcRequester req) (R.PSL_CTRL k) t := by
  rw [exec_pslCal, execPslCal, if_neg (by simp [hpresent]), if_pos (by simp [hallow])]
  exact ⟨_, rfl, State.refusePsl_refused hs⟩

theorem pslCal_quadOff (hs : s.regsWf) (hpresent : s.present k = true) (hallow : s.allows req .pslCal = true)
    (hquad : s.bit (F.PSL_QSTAT.READY (k / 64)) = false) :
    ∃ t, exec (.pslCal req k) s = .next t ∧ RefusedPsl s k C.PSL_QUAD_OFF (srcSlice k) (s.pslDetail k) t := by
  rw [exec_pslCal, execPslCal, if_neg (by simp [hpresent]), if_neg (by simp [hallow]), if_pos (by simp [State.quadReady, hquad])]
  exact ⟨_, rfl, State.refusePsl_reported hs (by decide)⟩

/-! ### The end of a calibration -/

/-- Slice `k` as the end of its calibration leaves it, when `t` holds its settings. -/
def State.calEnded (t : State) (k : Nat) : Slice := { (t.slice k).safe with cal := false, set := t.settings k }

theorem State.calEnd_zero {k : Nat} : s.calEnd k 0 = (s.setSlice k (s.calEnded k)).setFld (F.PSL_STAT.CMD_STATUS k) 0 := rfl

/-- What was written once before a calibration ends well, outside PSL_STAT, reads as it was written. -/
theorem State.fld_calEnd_setFlds {k v : Nat} {f : Fld} (pre post : List (Fld × Nat)) (hs : s.regsWf) (hf : f.lo + f.w ≤ 64)
    (hpost : ∀ e ∈ post, e.1.Apart f) (hoff : f.off ≠ R.PSL_STAT k) (hv : v < 2 ^ f.w) :
    ((s.setFlds (pre ++ (f, v) :: post)).calEnd k 0).fld f = v := by
  rw [State.calEnd_zero, State.fld_setFld_off (State.setSlice _ _ _) _ _ _ hoff]
  exact (State.fld_setFlds pre post hs hf hpost).trans (Nat.mod_eq_of_lt hv)

theorem State.calEnd_zero_eq {u : State} {k : Nat} (h : u = { s with regs := u.regs }) :
    u.calEnd k 0 = { s with regs := (u.calEnd k 0).regs, slices := (u.calEnd k 0).slices } := by
  obtain ⟨m, rfl⟩ : ∃ m, u = { s with regs := m } := ⟨_, h⟩
  rfl

theorem State.calEnd_zero_ended {k : Nat} (hs : s.regsWf) (hm : mwf (fun _ => Slice.reset) s.slices = true) :
    ((s.calEnd k 0).slice k).cal = false ∧ (s.calEnd k 0).fld (F.PSL_STAT.CMD_STATUS k) = 0 :=
  ⟨congrArg Slice.cal (State.slice_setSlice (x := s.calEnded k) hm),
    State.fld_setFld (s := s.setSlice k (s.calEnded k)) (F.PSL_STAT.CMD_STATUS k) 0 hs (show 16 + 16 ≤ 64 by decide)⟩

/-- A calibration that fails puts PSL_DSK_RX back. -/
theorem State.calEnd_fail {k : Nat} : s.calEnd k C.PSL_CAL_FAIL =
    (((s.setReg (R.PSL_DSK_RX k) (s.slice k).calRx).setSlice k ((s.setReg (R.PSL_DSK_RX k) (s.slice k).calRx).calEnded k)).setFld
      (F.PSL_STAT.CMD_STATUS k) C.PSL_CAL_FAIL).report C.PSL_CAL_FAIL (srcSlice k) (s.pslDetail k) := rfl

theorem calDone_fails (hs : s.regsWf) (hm : mwf (fun _ => Slice.reset) s.slices = true) (hcal : (s.slice k).cal = true) :
    ∃ t, exec (.calDone k .noMarker) s = .next t ∧ (t.slice k).cal = false ∧ t.fld (F.PSL_STAT.CMD_STATUS k) = C.PSL_CAL_FAIL ∧
      logs s t C.PSL_CAL_FAIL (srcSlice k) (s.pslDetail k) ∧ t.reg (R.PSL_DSK_RX k) = (s.slice k).calRx ∧
      regsBut s t [R.PSL_STAT k, R.PSL_DSK_RX k] := by
  have hexec : exec (.calDone k .noMarker) s = .next (s.calEnd k C.PSL_CAL_FAIL) := by
    rw [exec_calDone, execCalDone, if_neg (by simp [hcal])]
  rw [hexec, State.calEnd_fail]
  have hrx (x : Slice) : ((s.setReg (R.PSL_DSK_RX k) (s.slice k).calRx).setSlice k x).regsWf := State.regsWf_setReg _ _ hs
  refine ⟨_, rfl, ?_, ?_, logs_report rfl rfl srcSlice_kind (by decide), ?_, ?_⟩
  · exact congrArg Slice.cal (State.slice_setSlice (s := s.setReg _ _) hm)
  · exact State.fld_setFld (F.PSL_STAT.CMD_STATUS k) _ (hrx _) (show 16 + 16 ≤ 64 by decide)
  · exact (State.reg_setFld_ne _ _ (by simp)).trans (State.reg_setReg _ _ hs)
  · exact regsBut_setFld (t := State.setSlice _ _ _) (regsBut_setReg regsBut_refl (by simp)) (by simp)

/-- What a calibration writes that has measured the later return in `r` steps, CMPH in `h` and CMPL in `l` (R240, R241). -/
def calWrites (k r h l : Nat) : List (Fld × Nat) :=
  [(F.PSL_DSK_RX.CMPH k, r - h), (F.PSL_DSK_RX.CMPL k, r - l), (F.PSL_POS_STRB.FINE k, (r + 64) % 128),
    (F.PSL_RXALIGN.K k, 3 + (r + 64) / 128 / 16), (F.PSL_RXALIGN.RXOFS k, (r + 64) / 128 % 16), (F.PSL_CAL_RESULT.RTRIP k, r)]

theorem calDone_measured {rH rL : BitVec 17} (hs : s.regsWf) (hcal : (s.slice k).cal = true)
    (hspread : max rH.toNat rL.toNat - min rH.toNat rL.toNat ≤ 1023) (hk : 3 + (max rH.toNat rL.toNat + 64) / 128 / 16 ≤ 64)
    (hm : mwf (fun _ => Slice.reset) s.slices = true) :
    ∃ t, exec (.calDone k (.measured rH rL)) s = .next t ∧ (t.slice k).cal = false ∧ t.fld (F.PSL_STAT.CMD_STATUS k) = 0 ∧
      t.fld (F.PSL_DSK_RX.CMPH k) = max rH.toNat rL.toNat - rH.toNat ∧ t.fld (F.PSL_DSK_RX.CMPL k) = max rH.toNat rL.toNat - rL.toNat ∧
      t.fld (F.PSL_POS_STRB.FINE k) = (max rH.toNat rL.toNat + 64) % 128 ∧
      t.fld (F.PSL_RXALIGN.K k) = 3 + (max rH.toNat rL.toNat + 64) / 128 / 16 ∧
      t.fld (F.PSL_RXALIGN.RXOFS k) = (max rH.toNat rL.toNat + 64) / 128 % 16 ∧ t = { s with regs := t.regs, slices := t.slices } := by
  generalize hr : max rH.toNat rL.toNat = r at *
  have hexec : exec (.calDone k (.measured rH rL)) s = .next ((s.setFlds (calWrites k r rH.toNat rL.toNat)).calEnd k 0) := by
    subst hr
    rw [exec_calDone, execCalDone, if_neg (by simp [hcal])]
    exact if_neg (by omega)
  have hslices : (s.setFlds (calWrites k r rH.toNat rL.toNat)).slices = s.slices := by rw [State.setFlds_eq]
  obtain ⟨hended, hstatus⟩ := State.calEnd_zero_ended (k := k) (State.regsWf_setFlds hs) ((congrArg (mwf _) hslices).trans hm)
  refine ⟨_, hexec, hended, hstatus, ?_, ?_, ?_, ?_, ?_, State.calEnd_zero_eq State.setFlds_eq⟩
  · exact State.fld_calEnd_setFlds [] _ hs (show 0 + 10 ≤ 64 by decide) (by simp [Fld.Apart]) (by simp) (show _ < 2 ^ 10 by omega)
  · exact State.fld_calEnd_setFlds [_] _ hs (show 16 + 10 ≤ 64 by decide) (by simp [Fld.Apart]) (by simp) (show _ < 2 ^ 10 by omega)
  · exact State.fld_calEnd_setFlds [_, _] _ hs (show 0 + 7 ≤ 64 by decide) (by simp [Fld.Apart]) (by simp) (Nat.mod_lt _ (by decide))
  · exact State.fld_calEnd_setFlds [_, _, _] _ hs (show 0 + 7 ≤ 64 by decide) (by simp [Fld.Apart]) (by simp) (show _ < 2 ^ 7 by omega)
  · exact State.fld_calEnd_setFlds [_, _, _, _] _ hs (show 8 + 4 ≤ 64 by decide) (by simp [Fld.Apart]) (by simp) (Nat.mod_lt _ (by decide))

/-! ### CNT_CLR -/

/-- The registers `offs` cleared in order. -/
def State.clearRegs (s : State) (offs : List Nat) : State := offs.foldl (fun t a => t.setReg a 0) s

theorem State.reg_clearRegs {o : Nat} {offs : List Nat} (hs : s.regsWf) (ho : o ∈ offs ∨ s.reg o = 0) : (s.clearRegs offs).reg o = 0 := by
  induction offs generalizing s with
  | nil => exact ho.resolve_left List.not_mem_nil
  | cons a offs ih =>
    refine ih (State.regsWf_setReg a 0 hs) ?_
    by_cases ha : o = a
    · exact .inr (ha ▸ State.reg_setReg a 0 hs)
    · rw [State.reg_setReg_ne s 0 ha]
      exact ho.imp_left fun h => (List.mem_cons.1 h).resolve_left ha

theorem onlyRegs_clearRegs {offs : List Nat} : onlyRegs s (s.clearRegs offs) offs := by
  induction offs generalizing s with
  | nil => exact ⟨rfl, fun _ _ => rfl⟩
  | cons a offs ih =>
    obtain ⟨heq, hreg⟩ := ih (s := s.setReg a 0)
    refine ⟨heq.trans rfl, fun o ho => ?_⟩
    obtain ⟨hne, ho⟩ := not_or.1 (mt List.mem_cons.2 ho)
    exact (hreg o ho).trans (State.reg_setReg_ne s 0 hne)

theorem pslCntClr_clears (hs : s.regsWf) :
    ∃ t, exec (.pslCntClr req k) s = .next t ∧ t.reg (R.PSL_CNT_FRAMES k) = 0 ∧ t.reg (R.PSL_CNT_FAILUI k) = 0 ∧ t.reg (R.PSL_CNT_MISC k) = 0 ∧
      t.reg (R.PSL_FIRST_FAIL k) = 0 ∧ t.reg (R.PSL_FIRST_FAIL_TICK k) = 0 ∧
      onlyRegs s t [R.PSL_CNT_FRAMES k, R.PSL_CNT_FAILUI k, R.PSL_CNT_MISC k, R.PSL_FIRST_FAIL k, R.PSL_FIRST_FAIL_TICK k] := by
  refine ⟨s.clearRegs [R.PSL_CNT_FRAMES k, R.PSL_CNT_FAILUI k, R.PSL_CNT_MISC k, R.PSL_FIRST_FAIL k, R.PSL_FIRST_FAIL_TICK k], rfl, ?_, ?_, ?_, ?_, ?_,
    onlyRegs_clearRegs⟩
  all_goals exact State.reg_clearRegs hs (.inl (by simp))

end

/-- Settles O30: each clause is the lemma above of the command and the outcome that it names. -/
theorem sliceCalibrationAndCounters : Obligations.SliceCalibrationAndCounters :=
  ⟨fun _ _ _ => pslCal_begins, fun _ _ _ => pslCal_refused, fun _ _ _ => pslCal_quadOff, fun _ _ _ _ => calDone_measured,
    fun _ _ => calDone_fails, fun _ _ _ => pslCntClr_clears⟩

end Sys2Proof.Machine
end

section
/-! A SLICE COMPARES. The compare step taken apart into what it leaves in the slice, in the counters, of an impossible comparator state and of the first
fail (R224, R235 to R237). -/

open Sys2Proof.Claims

namespace Sys2Proof.Machine

section

variable {s : State} {k : Nat} {fw : Half} {f : SliceFrame}

/-! ### The fail word -/

/-- The number whose bit `i` is 1 where `p i` holds, for `i` below `n`. -/
def bitSum (p : Nat → Bool) (n : Nat) : Nat := ((List.range n).map (fun i => if p i then 2 ^ i else 0)).sum

theorem bitSum_succ {p : Nat → Bool} {n : Nat} : bitSum p (n + 1) = (if p n then 2 ^ n else 0) + bitSum p n := by
  simp [bitSum, List.range_succ, Nat.add_comm]

theorem bitSum_lt {p : Nat → Bool} {n : Nat} : bitSum p n < 2 ^ n := by
  induction n with
  | zero => exact Nat.one_pos
  | succ n ih =>
    rw [bitSum_succ]
    split <;> omega

theorem testBit_bitSum {p : Nat → Bool} {n j : Nat} (hj : j < n) : (bitSum p n).testBit j = p j := by
  induction n with
  | zero => exact absurd hj (Nat.not_lt_zero j)
  | succ n ih =>
    rw [bitSum_succ]
    obtain hlt | rfl := Nat.lt_succ_iff_lt_or_eq.1 hj
    · split
      · rw [Nat.testBit_two_pow_add_gt hlt, ih hlt]
      · rw [Nat.zero_add, ih hlt]
    · have hhigh : (bitSum p j).testBit j = false := Nat.testBit_lt_two_pow bitSum_lt
      split
      next h => rw [Nat.testBit_two_pow_add_eq, hhigh, h]; rfl
      next h => rw [Nat.zero_add, hhigh, Bool.eq_false_of_not_eq_true h]

/-! What fails a UI under each expect code (R235): L, H, M and X. -/

theorem uiFails_low {h l : Bool} : uiFails 0 h l = (h || !l) := by cases h <;> cases l <;> rfl

theorem uiFails_high {h l : Bool} : uiFails 1 h l = (!h || l) := by cases h <;> cases l <;> rfl

theorem uiFails_mid {h l : Bool} : uiFails 2 h l = (h || l) := rfl

theorem uiFails_unchecked {h l : Bool} {n : Nat} : uiFails (n + 3) h l = false := rfl

theorem getLsbD_failWord {ex : Word} {h l : Half} {j : Nat} (hj : j < 16) :
    (failWord ex h l).getLsbD j = uiFails (ex.toNat / 4 ^ j % 4) (h.getLsbD j) (l.getLsbD j) := by
  have hsum : failWord ex h l = BitVec.ofNat 16 (bitSum (fun j => uiFails (ex.toNat / 4 ^ j % 4) (h.getLsbD j) (l.getLsbD j)) 16) := rfl
  rw [hsum, BitVec.getLsbD_ofNat, testBit_bitSum hj]
  simp [hj]

theorem cmpBad_iff {ex : Word} {h l : Half} :
    cmpBad ex h l = true ↔ ∃ j < 16, ex.toNat / 4 ^ j % 4 ≠ 3 ∧ h.getLsbD j = true ∧ l.getLsbD j = true := by
  simp [cmpBad, and_assoc]

/-! ### The steps of a comparison -/

/-- The slice has compared, with fail word `fw`. -/
def State.compared (s : State) (k : Nat) (fw : Half) : State :=
  s.setSlice k { s.slice k with now := { (s.slice k).now with compared := true, fail := fw } }

/-- The frame and its failing UIs counted. -/
def State.countFails (s : State) (k : Nat) (fw : Half) : State :=
  (s.addSat (F.PSL_CNT_FRAMES.COUNT k) 1).addSat (F.PSL_CNT_FAILUI.COUNT k) (popNat 16 fw.toNat)

/-- An impossible comparator state, where `bad` says that there was one, counted and logged. -/
def State.noteCmpBad (s : State) (k detail : Nat) (bad : Bool) : State :=
  if bad then ((s.addSat (F.PSL_CNT_MISC.CMPBAD k) 1).setFld (F.PSL_STAT.CMPBAD_SEEN k) 1).report C.PSL_CMP_INVALID (srcSlice k) detail else s

/-- The fail word and the tick kept, when they are the first. -/
def State.keepFirstFail (s : State) (k : Nat) (fw : Half) (tick : Wide) : State :=
  if fw ≠ 0 ∧ s.bit (F.PSL_FIRST_FAIL.VALID k) = false then
    (s.setReg (R.PSL_FIRST_FAIL k) (BitVec.ofNat 64 (2 ^ 16 + fw.toNat))).setReg (R.PSL_FIRST_FAIL_TICK k) tick
  else s

/-- The state in which a comparison with fail word `fw` is counted, and an impossible comparator state noted. -/
def State.comparedNoted (s : State) (k : Nat) (fw : Half) (bad : Bool) : State :=
  ((s.compared k fw).countFails k fw).noteCmpBad k (s.pslDetail k) bad

theorem polWord_data {b : Bool} {w : FWord} : (polWord b w).data = w.data := by
  unfold polWord
  split <;> rfl

theorem polWord_v {b : Bool} {w : FWord} (h : (w.v && !(b && w.s)) = true) : (polWord b w).v = true := by
  unfold polWord
  split <;> simp_all

/-- A comparator's samples, inverted where PSL_CFG says so. -/
def State.inverted (s : State) (k : Nat) (g : Fld) (h : Half) : Half := if sliceBit s k g then ~~~ h else h

theorem exec_sliceCompare_compares {k : Fin 256} {h l hh ll : Half} (hframe : (s.slice k).frameAt s.tick = some f)
    (hstate : s.sliceState k = 2 ∨ s.sliceState k = 3 ∨ s.sliceState k = 4) (hnow : (s.slice k).now.compared = false)
    (hvalid : (f.expect.v && !(sliceBit s k (F.PSL_CFG.SPOL k) && f.expect.s)) = true)
    (hhh : s.inverted k (F.PSL_CFG.CMPH_INV k) h = hh) (hll : s.inverted k (F.PSL_CFG.CMPL_INV k) l = ll) :
    exec (.sliceCompare k h l) s = .next ((s.comparedNoted k (failWord f.expect.data hh ll) (cmpBad f.expect.data hh ll)).keepFirstFail k
      (failWord f.expect.data hh ll) s.tick) := by
  rw [exec_sliceCompare]
  unfold execSliceCompare
  extract_lets k x st cfg hh' ll' _
  rw [hframe]
  dsimp -zeta only
  extract_lets e
  have hv : e.v = true := polWord_v hvalid
  have hdata : e.data = f.expect.data := polWord_data
  have hgo : ¬ (!(st == 2 || st == 3 || st == 4) || x.now.compared || !e.v) = true := by
    obtain h | h | h := hstate <;> simp [st, x, k, h, hnow, hv]
  rw [if_neg hgo, ← hdata, ← hhh, ← hll]
  rfl

/-! ### What each step leaves -/

variable {detail : Nat} {bad : Bool} {tick : Wide}

theorem State.fld_countFails (hs : s.regsWf) :
    (s.countFails k fw).fld (F.PSL_CNT_FRAMES.COUNT k) = min (s.fld (F.PSL_CNT_FRAMES.COUNT k) + 1) (2 ^ (F.PSL_CNT_FRAMES.COUNT k).w - 1) ∧
    (s.countFails k fw).fld (F.PSL_CNT_FAILUI.COUNT k) =
      min (s.fld (F.PSL_CNT_FAILUI.COUNT k) + popNat 16 fw.toNat) (2 ^ (F.PSL_CNT_FAILUI.COUNT k).w - 1) := by
  have hwf : (s.addSat (F.PSL_CNT_FRAMES.COUNT k) 1).regsWf := State.regsWf_setFld _ _ hs
  have hother : (s.addSat (F.PSL_CNT_FRAMES.COUNT k) 1).fld (F.PSL_CNT_FAILUI.COUNT k) = s.fld (F.PSL_CNT_FAILUI.COUNT k) :=
    State.fld_setFld_off s _ _ _ (by simp)
  refine ⟨(State.fld_setFld_off _ _ _ _ (by simp)).trans (State.fld_addSat hs (show 0 + 32 ≤ 64 by decide)), ?_⟩
  rw [State.countFails, State.fld_addSat hwf (show 0 + 32 ≤ 64 by decide), hother]

theorem regsBut_countFails : regsBut s (s.countFails k fw) [R.PSL_CNT_FRAMES k, R.PSL_CNT_FAILUI k] :=
  regsBut_addSat (regsBut_addSat regsBut_refl (by simp)) (by simp)

theorem State.noteCmpBad_eq : s.noteCmpBad k detail bad =
    { s with regs := (s.noteCmpBad k detail bad).regs, err := (s.noteCmpBad k detail bad).err } := by
  unfold State.noteCmpBad
  split <;> rfl

theorem regsBut_noteCmpBad : regsBut s (s.noteCmpBad k detail bad) [R.PSL_CNT_MISC k, R.PSL_STAT k] := by
  unfold State.noteCmpBad
  split
  · exact regsBut_report (regsBut_setFld (regsBut_addSat regsBut_refl (by simp)) (by simp))
  · exact regsBut_refl

theorem State.regsWf_noteCmpBad (hs : s.regsWf) : (s.noteCmpBad k detail bad).regsWf := by
  unfold State.noteCmpBad
  split
  · exact State.regsWf_setFld _ _ (State.regsWf_setFld _ _ hs)
  · exact hs

/-- An impossible comparator state is counted and marked. -/
theorem State.noteCmpBad_counts (hs : s.regsWf) :
    (s.noteCmpBad k detail true).fld (F.PSL_CNT_MISC.CMPBAD k) = min (s.fld (F.PSL_CNT_MISC.CMPBAD k) + 1) 0xFFFF ∧
    (s.noteCmpBad k detail true).bit (F.PSL_STAT.CMPBAD_SEEN k) = true := by
  have hwf : (s.addSat (F.PSL_CNT_MISC.CMPBAD k) 1).regsWf := State.regsWf_setFld _ _ hs
  rw [State.noteCmpBad, if_pos rfl, State.fld_report, State.bit_report, State.fld_setFld_off _ _ _ _ (by simp),
    State.fld_addSat hs (show 16 + 16 ≤ 64 by decide)]
  exact ⟨rfl, State.bit_setFld_one hwf (show 13 + 1 ≤ 64 by decide) rfl⟩

theorem State.noteCmpBad_logs {t : State} {k : Fin 256} (herr : t.err = s.err) (htick : t.tick = s.tick) :
    logs s (t.noteCmpBad k detail true) C.PSL_CMP_INVALID (srcSlice k) detail := by
  rw [State.noteCmpBad, if_pos rfl]
  exact logs_report herr htick srcSlice_kind (by decide)

theorem State.keepFirstFail_eq : s.keepFirstFail k fw tick = { s with regs := (s.keepFirstFail k fw tick).regs } := by
  unfold State.keepFirstFail
  split <;> rfl

theorem regsBut_keepFirstFail : regsBut s (s.keepFirstFail k fw tick) [R.PSL_FIRST_FAIL k, R.PSL_FIRST_FAIL_TICK k] := by
  unfold State.keepFirstFail
  split
  · exact regsBut_setReg (regsBut_setReg regsBut_refl (by simp)) (by simp)
  · exact regsBut_refl

theorem State.keepFirstFail_of_not_first (h : fw = 0 ∨ s.bit (F.PSL_FIRST_FAIL.VALID k) = true) : s.keepFirstFail k fw tick = s :=
  if_neg fun ⟨hfw, hvalid⟩ => h.elim hfw (by simp [hvalid])

/-- PSL_FIRST_FAIL as the first fail leaves it. -/
theorem getBits_firstFail : getBits (BitVec.ofNat 64 (2 ^ 16 + fw.toNat)) 16 1 = 1 ∧ getBits (BitVec.ofNat 64 (2 ^ 16 + fw.toNat)) 0 16 = fw.toNat := by
  have hlt := fw.isLt
  simp only [getBits, BitVec.toNat_ofNat, Nat.shiftRight_eq_div_pow]
  omega

theorem State.keepFirstFail_first (hs : s.regsWf) (hfw : fw ≠ 0) (hvalid : s.bit (F.PSL_FIRST_FAIL.VALID k) = false) :
    (s.keepFirstFail k fw tick).bit (F.PSL_FIRST_FAIL.VALID k) = true ∧
    (s.keepFirstFail k fw tick).fld (F.PSL_FIRST_FAIL.WORD k) = fw.toNat ∧
    (s.keepFirstFail k fw tick).reg (R.PSL_FIRST_FAIL_TICK k) = tick := by
  obtain ⟨hone, hword⟩ := getBits_firstFail (fw := fw)
  have hreg : (s.keepFirstFail k fw tick).reg (R.PSL_FIRST_FAIL k) = BitVec.ofNat 64 (2 ^ 16 + fw.toNat) := by
    rw [State.keepFirstFail, if_pos ⟨hfw, hvalid⟩, State.reg_setReg_ne _ _ (by simp), State.reg_setReg _ _ hs]
  have hvalid' : (s.keepFirstFail k fw tick).fld (F.PSL_FIRST_FAIL.VALID k) = 1 := (congrArg (getBits · 16 1) hreg).trans hone
  refine ⟨State.bit_of_fld hvalid', (congrArg (getBits · 0 16) hreg).trans hword, ?_⟩
  rw [State.keepFirstFail, if_pos ⟨hfw, hvalid⟩]
  exact State.reg_setReg _ _ (State.regsWf_setReg _ _ hs)

/-! ### The comparison as a whole -/

/-- The state after a comparison with fail word `fw`. -/
def State.afterCompare (s : State) (k : Nat) (fw : Half) (bad : Bool) : State := (s.comparedNoted k fw bad).keepFirstFail k fw s.tick

theorem State.afterCompare_eq : s.afterCompare k fw bad =
    { s with regs := (s.afterCompare k fw bad).regs, slices := (s.compared k fw).slices, err := (s.comparedNoted k fw bad).err } :=
  State.keepFirstFail_eq.trans (congrArg (fun v : State => { v with regs := (s.afterCompare k fw bad).regs }) State.noteCmpBad_eq)

theorem State.tick_afterCompare : (s.afterCompare k fw bad).tick = s.tick := by rw [State.afterCompare_eq]

theorem State.err_afterCompare : (s.afterCompare k fw bad).err = (s.comparedNoted k fw bad).err := by rw [State.afterCompare_eq]

theorem State.slice_afterCompare : (s.afterCompare k fw bad).slice k =
    { s.slice k with now := { (s.slice k).now with compared := true, fail := fw } } := by
  have hne : { s.slice k with now := { (s.slice k).now with compared := true, fail := fw } } ≠ Slice.reset :=
    fun e => Bool.noConfusion (congrArg (fun x : Slice => x.now.compared) e)
  rw [State.afterCompare_eq]
  exact State.slice_setSlice_of_ne (s := s) hne

theorem State.slice_afterCompare_ne {j : Nat} (hj : j ≠ k) : (s.afterCompare k fw bad).slice j = s.slice j := by
  rw [State.afterCompare_eq]
  exact State.slice_setSlice_ne (s := s) hj

/-- The mark of a frame that its slice compares (R224). -/
theorem Slice.stale_eq : (s.slice k).stale f = (!sliceBit s k (F.PSL_CFG.SPOL k) && (f.expect.s || f.drive.s)) := by
  have hlt : (F.PSL_CFG.SPOL k).of (s.slice k).set.cfg < 2 := Nat.mod_lt _ Nat.two_pos
  have hzero : ((F.PSL_CFG.SPOL k).of (s.slice k).set.cfg == 0) = !((F.PSL_CFG.SPOL k).of (s.slice k).set.cfg == 1) := by
    generalize (F.PSL_CFG.SPOL k).of (s.slice k).set.cfg = n at hlt
    interval_cases n <;> rfl
  exact congrArg (· && (f.expect.s || f.drive.s)) hzero

theorem State.stale_afterCompare (hframe : (s.slice k).frameAt s.tick = some f) :
    ((s.afterCompare k fw bad).sliceResult k).stale = (!sliceBit s k (F.PSL_CFG.SPOL k) && (f.expect.s || f.drive.s)) := by
  have hsame : ((s.afterCompare k fw bad).slice k).frameAt (s.afterCompare k fw bad).tick = some f := by
    rw [State.slice_afterCompare, State.tick_afterCompare]
    exact hframe
  unfold State.sliceResult
  dsimp only
  rw [hsame, State.slice_afterCompare]
  exact Slice.stale_eq

theorem State.regsWf_comparedNoted (hs : s.regsWf) : (s.comparedNoted k fw bad).regsWf :=
  State.regsWf_noteCmpBad (State.regsWf_setFld _ _ (State.regsWf_setFld _ _ hs))

theorem regsBut_comparedNoted :
    regsBut s (s.comparedNoted k fw bad) [R.PSL_CNT_FRAMES k, R.PSL_CNT_FAILUI k, R.PSL_CNT_MISC k, R.PSL_STAT k] :=
  regsBut_append (regsBut_countFails (s := s.compared k fw)) regsBut_noteCmpBad

theorem regsBut_afterCompare : regsBut s (s.afterCompare k fw bad)
    [R.PSL_CNT_FRAMES k, R.PSL_CNT_FAILUI k, R.PSL_CNT_MISC k, R.PSL_STAT k, R.PSL_FIRST_FAIL k, R.PSL_FIRST_FAIL_TICK k] :=
  regsBut_append regsBut_comparedNoted regsBut_keepFirstFail

theorem State.fld_afterCompare_counts (hs : s.regsWf) :
    (s.afterCompare k fw bad).fld (F.PSL_CNT_FRAMES.COUNT k) = min (s.fld (F.PSL_CNT_FRAMES.COUNT k) + 1) (2 ^ (F.PSL_CNT_FRAMES.COUNT k).w - 1) ∧
    (s.afterCompare k fw bad).fld (F.PSL_CNT_FAILUI.COUNT k) =
      min (s.fld (F.PSL_CNT_FAILUI.COUNT k) + popNat 16 fw.toNat) (2 ^ (F.PSL_CNT_FAILUI.COUNT k).w - 1) := by
  obtain ⟨hframes, hfails⟩ := State.fld_countFails (s := s.compared k fw) (k := k) (fw := fw) hs
  have hlater : regsBut ((s.compared k fw).countFails k fw) (s.afterCompare k fw bad)
      [R.PSL_CNT_MISC k, R.PSL_STAT k, R.PSL_FIRST_FAIL k, R.PSL_FIRST_FAIL_TICK k] := regsBut_append regsBut_noteCmpBad regsBut_keepFirstFail
  exact ⟨(State.fld_of_regsBut hlater (by simp)).trans hframes, (State.fld_of_regsBut hlater (by simp)).trans hfails⟩

theorem State.afterCompare_first (hs : s.regsWf) (hfw : fw ≠ 0) (hvalid : s.bit (F.PSL_FIRST_FAIL.VALID k) = false) :
    (s.afterCompare k fw bad).bit (F.PSL_FIRST_FAIL.VALID k) = true ∧ (s.afterCompare k fw bad).fld (F.PSL_FIRST_FAIL.WORD k) = fw.toNat ∧
    (s.afterCompare k fw bad).reg (R.PSL_FIRST_FAIL_TICK k) = s.tick := by
  have hsame := State.fld_of_regsBut (f := F.PSL_FIRST_FAIL.VALID k) (regsBut_comparedNoted (s := s) (k := k) (fw := fw) (bad := bad)) (by simp)
  exact State.keepFirstFail_first (State.regsWf_comparedNoted hs) hfw ((State.bit_of_fld hsame).trans hvalid)

theorem State.afterCompare_notFirst (h : fw = 0 ∨ s.bit (F.PSL_FIRST_FAIL.VALID k) = true) :
    (s.afterCompare k fw bad).reg (R.PSL_FIRST_FAIL k) = s.reg (R.PSL_FIRST_FAIL k) ∧
    (s.afterCompare k fw bad).reg (R.PSL_FIRST_FAIL_TICK k) = s.reg (R.PSL_FIRST_FAIL_TICK k) := by
  have hnoted := regsBut_comparedNoted (s := s) (k := k) (fw := fw) (bad := bad)
  have hsame := State.bit_of_fld (State.fld_of_regsBut (f := F.PSL_FIRST_FAIL.VALID k) hnoted (by simp))
  rw [State.afterCompare, State.keepFirstFail_of_not_first (h.imp_right hsame.trans)]
  exact ⟨hnoted _ (by simp), hnoted _ (by simp)⟩

theorem State.afterCompare_bad {k : Fin 256} (hs : s.regsWf) :
    (s.afterCompare k fw true).fld (F.PSL_CNT_MISC.CMPBAD k) = min (s.fld (F.PSL_CNT_MISC.CMPBAD k) + 1) 0xFFFF ∧
    (s.afterCompare k fw true).bit (F.PSL_STAT.CMPBAD_SEEN k) = true ∧
    logs s (s.afterCompare k fw true) C.PSL_CMP_INVALID (srcSlice k) (s.pslDetail k) := by
  have hwf : ((s.compared k fw).countFails k fw).regsWf := State.regsWf_setFld _ _ (State.regsWf_setFld _ _ hs)
  obtain ⟨hcount, hseen⟩ := State.noteCmpBad_counts (k := k) (detail := s.pslDetail k) hwf
  have hbefore : ((s.compared k fw).countFails k fw).fld (F.PSL_CNT_MISC.CMPBAD k) = s.fld (F.PSL_CNT_MISC.CMPBAD k) :=
    State.fld_of_regsBut (regsBut_countFails (s := s.compared k fw)) (by simp)
  have hlater {g : Fld} (hg : g.off ∉ [R.PSL_FIRST_FAIL k, R.PSL_FIRST_FAIL_TICK k]) :
      (s.afterCompare k fw true).fld g = (s.comparedNoted k fw true).fld g := State.fld_of_regsBut regsBut_keepFirstFail hg
  refine ⟨(hlater (by simp)).trans (hcount.trans (by rw [hbefore])), (State.bit_of_fld (hlater (by simp))).trans hseen, ?_⟩
  unfold logs
  rw [State.err_afterCompare]
  exact State.noteCmpBad_logs (t := (s.compared k fw).countFails k fw) rfl rfl

theorem State.afterCompare_notBad : (s.afterCompare k fw false).err = s.err ∧
    (s.afterCompare k fw false).reg (R.PSL_CNT_MISC k) = s.reg (R.PSL_CNT_MISC k) ∧
    (s.afterCompare k fw false).reg (R.PSL_STAT k) = s.reg (R.PSL_STAT k) := by
  have hregs : regsBut s (s.afterCompare k fw false) [R.PSL_CNT_FRAMES k, R.PSL_CNT_FAILUI k, R.PSL_FIRST_FAIL k, R.PSL_FIRST_FAIL_TICK k] :=
    regsBut_append (regsBut_countFails (s := s.compared k fw)) regsBut_keepFirstFail
  exact ⟨State.err_afterCompare, hregs _ (by simp), hregs _ (by simp)⟩

end

/-- Settles O29: the comparison leaves what the lemmas above say of its steps. -/
theorem sliceCompareMarksFails : Obligations.SliceCompareMarksFails := by
  intro k h l s f hs hframe hstate hnow hvalid hh ll
  generalize hfw : failWord f.expect.data hh ll = fw
  generalize hbad : cmpBad f.expect.data hh ll = bad
  have hexec : exec (.sliceCompare k h l) s = .next (s.afterCompare k fw bad) :=
    hfw ▸ hbad ▸ exec_sliceCompare_compares hframe hstate hnow hvalid rfl rfl
  have hslice := State.slice_afterCompare (s := s) (k := k) (fw := fw) (bad := bad)
  have hfail : ((s.afterCompare k fw bad).slice k).now.fail = fw := by rw [hslice]
  obtain ⟨hframes, hfails⟩ := State.fld_afterCompare_counts (k := k) (fw := fw) (bad := bad) hs
  refine ⟨_, hexec, by rw [hslice], fun j hj => ?_, State.stale_afterCompare hframe, hframes, ?_⟩
  · rw [hfail, ← hfw, getLsbD_failWord hj]
    generalize f.expect.data.toNat / 4 ^ j % 4 = code
    match code with
    | 0 => exact uiFails_low
    | 1 => exact uiFails_high
    | 2 => exact uiFails_mid
    | _ + 3 => exact uiFails_unchecked
  rw [hfail]
  refine ⟨hfails, State.afterCompare_first hs, State.afterCompare_notFirst, fun hany => ?_, fun hnone => ?_, regsBut_afterCompare,
    State.eq_of_regs_slices_err State.afterCompare_eq, fun j hj => State.slice_afterCompare_ne hj⟩
  · obtain rfl : bad = true := hbad ▸ cmpBad_iff.2 hany
    exact State.afterCompare_bad hs
  · obtain rfl : bad = false := by
      rw [← hbad, ← Bool.not_eq_true, cmpBad_iff]
      rintro ⟨j, hj, hcode, hhigh, hlow⟩
      obtain h | h | h := hnone j hj
      · exact hcode h
      · exact Bool.noConfusion (hhigh.symm.trans h)
      · exact Bool.noConfusion (hlow.symm.trans h)
    exact State.afterCompare_notBad

end Sys2Proof.Machine
end

section
/-! SETTINGS AND BINDINGS OF A SLICE. The rows of a slice's registers, its setting writes, and PSL_BIND (R232, R249, R251). -/

open Sys2Proof.Claims

namespace Sys2Proof.Machine

section

variable {s : State} {req : Requester} {k : Fin 256} {v : Word}

/-! ### The rows of a slice's registers -/

/-- A table row of one 32-bit register of each slice. -/
abbrev RegRow.OfSlice (r : RegRow) : Prop := r.wide = false ∧ r.dims = [(0x400, 0, 256)] ∧ 0x100000 ≤ r.base ∧ r.base < 0x100400

theorem RegRow.OfSlice.hit {r : RegRow} {k : Nat} (h : r.OfSlice) (hk : k < 256) : dimsHit r.wide r.dims (r.base + 0x400 * k - r.base) = some false := by
  obtain ⟨hwide, hdims, -⟩ := h
  rw [hdims, Nat.add_sub_cancel_left]
  simp [dimsHit, hk]

theorem RegRow.OfSlice.miss {p : RegRow} {base k : Nat} (h : p.OfSlice) (hlt : p.base < base) (hbase : base < 0x100400) :
    dimsHit p.wide p.dims (base + 0x400 * k - p.base) = none := by
  obtain ⟨hwide, hdims, hlo, -⟩ := h
  rw [hwide, hdims]
  simp [dimsHit, show (base + 0x400 * k - p.base) % 0x400 ≠ 0 by omega]

/-- A register of slice `k` is found past the rows of the slice's registers below it. -/
theorem findRow_ofSlice {r : RegRow} {rows post : List RegRow} {k : Nat} (hk : k < 256) (hr : r.OfSlice)
    (hrows : ∀ p ∈ rows, p.OfSlice ∧ p.base < r.base) : findRow (r.base + 0x400 * k) (rows ++ r :: post) = some (r, false) := by
  induction rows with
  | nil =>
    rw [List.nil_append, findRow, if_neg (by omega), hr.hit hk]
  | cons p rows ih =>
    obtain ⟨⟨hp, hlt⟩, hrows⟩ := List.forall_mem_cons.1 hrows
    rw [List.cons_append, findRow, if_neg (by omega), hp.miss hlt hr.2.2.2]
    exact ih hrows

theorem regAt_ofSlice {r : RegRow} {k : Nat} (n : Nat) (hk : k < 256) (hr : r.OfSlice)
    (htable : regRowsPsl = regRowsPsl.take n ++ r :: regRowsPsl.drop (n + 1))
    (hrows : ∀ p ∈ regRowsPsl.take n, p.OfSlice ∧ p.base < r.base) : regAt (r.base + 0x400 * k) = some (r, false) := by
  obtain ⟨-, -, hlo, hhi⟩ := id hr
  have hblock : regRowsAt (r.base + 0x400 * k) = regRowsPsl := by
    rw [regRowsAt, if_neg (by omega), if_neg (by omega), if_neg (by omega), if_neg (by omega), if_neg (by omega), if_pos (by omega)]
  rw [regAt, hblock, htable]
  exact findRow_ofSlice hk hr hrows

theorem regAt_pslBind : regAt (R.PSL_BIND k) = some (⟨"PSL_BIND", 0x10000c, [(0x400, 0, 256)], false, .warm,
    [⟨31, 31, "EN", .rw, 0⟩, ⟨23, 16, "GEN", .rw, 0⟩, ⟨13, 8, "PARTNER", .rw, 0⟩, ⟨7, 0, "CHANNEL", .rw, 0⟩]⟩, false) :=
  regAt_ofSlice 3 k.isLt (by decide) rfl (by decide)

theorem regAt_pslPosLead : regAt (R.PSL_POS_LEAD k) = some (⟨"PSL_POS_LEAD", 0x100014, [(0x400, 0, 256)], false, .warm,
    [⟨16, 7, "COARSE", .rw, 0⟩, ⟨6, 0, "FINE", .rw, 0⟩]⟩, false) :=
  regAt_ofSlice 5 k.isLt (by decide) rfl (by decide)

theorem State.writePlain_eq {off : Nat} {r : RegRow} {x mask : Wide} (hr : regAt off = some (r, false)) :
    s.writePlain off x mask = s.setReg off (writeRow r.fields (s.reg off) x mask) := by
  rw [State.writePlain, hr]

/-! ### Setting writes -/

theorem State.not_present (hvar : s.f128 = true) (hk : 128 ≤ k.val) : s.present k = false := by
  simp [State.present, hvar, show ¬ k.val < 128 by omega]

theorem absentSlice_ignores (hvar : s.f128 = true) (hk : 128 ≤ k.val) :
    exec (.pslCal req k) s = .next s ∧ exec (.pslSettingWrite req k .cfg v) s = .next s ∧ exec (.pslBind req k v) s = .next s := by
  have habsent := State.not_present hvar hk
  refine ⟨?_, ?_, ?_⟩
  · rw [exec_pslCal, execPslCal, if_pos (by simp [habsent])]
  · rw [exec_pslSettingWrite, execPslSettingWrite, if_pos (by simp [habsent])]
  · rw [exec_pslBind, execPslBind, if_pos (by simp [habsent])]

theorem posLead_written (hs : s.regsWf) (hpresent : s.present k = true) (hbusy : s.sliceBusy k = false) :
    ∃ t, exec (.pslSettingWrite req k .posLead v) s = .next t ∧ t.fld (F.PSL_POS_LEAD.FINE k) = getBits (v.zeroExtend 64) 0 7 ∧
      onlyRegs s t [R.PSL_POS_LEAD k] := by
  rw [exec_pslSettingWrite, execPslSettingWrite, if_neg (by simp [hpresent]), if_neg (by simp [hbusy]), if_neg (by simp), pslRegOff,
    State.writePlain_eq regAt_pslPosLead]
  refine ⟨_, rfl, ?_, onlyRegs_setReg⟩
  unfold State.fld
  rw [State.reg_setReg _ _ hs]
  simp only [writeRow, writeField, List.foldl]
  rw [getBits_putBits _ _ _ _ (by decide), getBits_merge (by decide)]
  simp [getBits]

theorem setting_refused {r : PslReg} (hpresent : s.present k = true) (hbusy : s.sliceBusy k = true) :
    ∃ t, exec (.pslSettingWrite req k r v) s = .next t ∧ logs s t C.STATE_REFUSED (srcRequester req) (pslRegOff k r) ∧ onlyRegsLog s t [] := by
  rw [exec_pslSettingWrite, execPslSettingWrite, if_neg (by simp [hpresent]), if_pos hbusy]
  exact ⟨_, rfl, logs_logRefused, onlyRegsLog_logRefused⟩

/-! ### Bindings -/

/-- PSL_BIND after a write of `v` over `old`. -/
def bindWord (old : Wide) (v : Word) : Wide :=
  writeRow [⟨31, 31, "EN", .rw, 0⟩, ⟨23, 16, "GEN", .rw, 0⟩, ⟨13, 8, "PARTNER", .rw, 0⟩, ⟨7, 0, "CHANNEL", .rw, 0⟩] old (v.setWidth 64)
    (maskBits 0 32)

theorem getBits_bindWord_channel {old : Wide} : getBits (bindWord old v) 0 8 = v.toNat % 256 := by
  simp only [bindWord, writeRow, writeField, List.foldl]
  rw [getBits_putBits _ _ _ _ (by decide), getBits_merge (by decide)]
  omega

theorem getBits_bindWord_partner {old : Wide} : getBits (bindWord old v) 8 6 = v.toNat / 256 % 64 := by
  simp only [bindWord, writeRow, writeField, List.foldl]
  rw [getBits_putBits_ne _ _ _ _ _ _ (by decide) (by decide), getBits_putBits _ _ _ _ (by decide), getBits_merge (by decide)]
  omega

/-- What an accepted PSL_BIND write keeps of the binding before it. -/
def State.bindRecNow (s : State) (k : Nat) : BindRec := ⟨s.tick, s.reg (R.PSL_BIND k), s.fld (F.PSL_STAT.BOUND k), s.fld (F.PSL_STAT.STALE k)⟩

/-- The state after an accepted PSL_BIND write: slice `k` is bound when `en`, unbound else. -/
def State.rebound (s : State) (k : Nat) (v : Word) (en : Bool) : State :=
  ((s.setSlice k { s.slice k with bindRec := some (s.bindRecNow k) }).setReg (R.PSL_BIND k) (bindWord (s.reg (R.PSL_BIND k)) v)).setFlds
    [(F.PSL_STAT.CMD_STATUS k, 0), (F.PSL_STAT.BOUND k, b2n en), (F.PSL_STAT.STALE k, 0)]

theorem exec_pslBind_accepted {en : Bool} (hquad : s.quadReady k = true) (hallow : s.allows req .pslCal = true) (hbusy : s.sliceBusy k = false)
    (hlost : (s.slice k).lostAt ≠ some s.tick) (hen : v.getLsbD 31 = en) (hvalid : en = true → s.bindInvalid k v.toNat = false) :
    exec (.pslBind req k v) s = .next (s.rebound k v en) := by
  have hbit : bitOf v.toNat 31 = en := hen
  rw [exec_pslBind, execPslBind, if_neg (by simp [State.present_of_quadReady hquad]), if_neg (by simp [hallow, hbusy]), if_neg (by simp [hquad]),
    if_neg (by simpa [hbit, hlost] using hvalid), hbit]
  dsimp only
  rw [State.writePlain_eq regAt_pslBind]
  rfl

/-- What an accepted write leaves in PSL_STAT. -/
theorem State.rebound_status {k : Nat} {en : Bool} (hs : s.regsWf) :
    (s.rebound k v en).fld (F.PSL_STAT.CMD_STATUS k) = 0 ∧ (s.rebound k v en).bit (F.PSL_STAT.BOUND k) = en ∧
      (s.rebound k v en).bit (F.PSL_STAT.STALE k) = false := by
  unfold State.rebound
  have hu := State.regsWf_setReg (s := s.setSlice k { s.slice k with bindRec := some (s.bindRecNow k) }) (R.PSL_BIND k)
    (bindWord (s.reg (R.PSL_BIND k)) v) hs
  refine ⟨State.fld_setFlds [] _ hu (show 16 + 16 ≤ 64 by decide) (by simp [Fld.Apart]), ?_, ?_⟩
  · refine (State.bit_of_fld (State.fld_setFlds [_] _ hu (show 6 + 1 ≤ 64 by decide) (by simp [Fld.Apart]))).trans ?_
    cases en <;> rfl
  · exact State.bit_of_fld (State.fld_setFlds [_, _] [] hu (show 7 + 1 ≤ 64 by decide) (by simp))

/-- An accepted write changes nothing but its slice and the slice's PSL_BIND and PSL_STAT. -/
theorem State.rebound_frame {k : Nat} {en : Bool} :
    s.rebound k v en = { s with regs := (s.rebound k v en).regs, slices := (s.rebound k v en).slices } ∧
      (∀ j, j ≠ k → (s.rebound k v en).slice j = s.slice j) ∧ regsBut s (s.rebound k v en) [R.PSL_BIND k, R.PSL_STAT k] :=
  ⟨State.eq_of_regs_slices State.setFlds_eq, fun _ hj => State.slice_setFlds.trans (State.slice_setSlice_ne hj),
    regsBut_setFlds (t := State.setReg _ _ _) (regsBut_setReg (t := State.setSlice _ _ _) regsBut_refl (by simp)) (by simp)⟩

theorem State.reg_rebound {k : Nat} {en : Bool} (hs : s.regsWf) :
    (s.rebound k v en).reg (R.PSL_BIND k) = bindWord (s.reg (R.PSL_BIND k)) v :=
  (State.reg_setFlds_ne (by simp)).trans (State.reg_setReg (s := State.setSlice _ _ _) _ _ hs)

theorem State.bindRec_rebound {k : Nat} {en : Bool} : ((s.rebound k v en).slice k).bindRec = some (s.bindRecNow k) := by
  have hne : { s.slice k with bindRec := some (s.bindRecNow k) } ≠ Slice.reset := fun e => Option.some_ne_none _ (congrArg Slice.bindRec e)
  unfold State.rebound
  rw [State.slice_setFlds]
  exact congrArg Slice.bindRec (State.slice_setSlice_of_ne (s := s) hne)

theorem pslBind_binds (hs : s.regsWf) (hquad : s.quadReady k = true) (hallow : s.allows req .pslCal = true) (hbusy : s.sliceBusy k = false)
    (hlost : (s.slice k).lostAt ≠ some s.tick) (hen : v.getLsbD 31 = true) (hvalid : s.bindInvalid k v.toNat = false) :
    ∃ t, exec (.pslBind req k v) s = .next t ∧ t.bit (F.PSL_STAT.BOUND k) = true ∧ t.bit (F.PSL_STAT.STALE k) = false ∧
      t.fld (F.PSL_STAT.CMD_STATUS k) = 0 ∧ t.fld (F.PSL_BIND.PARTNER k) = v.toNat / 256 % 64 ∧ t.fld (F.PSL_BIND.CHANNEL k) = v.toNat % 256 ∧
      (t.slice k).bindRec = some ⟨s.tick, s.reg (R.PSL_BIND k), s.fld (F.PSL_STAT.BOUND k), s.fld (F.PSL_STAT.STALE k)⟩ ∧
      t = { s with regs := t.regs, slices := t.slices } ∧ (∀ j, j ≠ k.val → t.slice j = s.slice j) ∧
      regsBut s t [R.PSL_BIND k, R.PSL_STAT k] := by
  obtain ⟨hstatus, hbound, hstale⟩ := State.rebound_status (k := k) (v := v) (en := true) hs
  refine ⟨_, exec_pslBind_accepted hquad hallow hbusy hlost hen fun _ => hvalid, hbound, hstale, hstatus, ?_, ?_, State.bindRec_rebound,
    State.rebound_frame⟩
  · rw [State.fld, State.reg_rebound hs]
    exact getBits_bindWord_partner
  · rw [State.fld, State.reg_rebound hs]
    exact getBits_bindWord_channel

theorem pslBind_unbinds (hs : s.regsWf) (hquad : s.quadReady k = true) (hallow : s.allows req .pslCal = true) (hbusy : s.sliceBusy k = false)
    (hlost : (s.slice k).lostAt ≠ some s.tick) (hen : v.getLsbD 31 = false) :
    ∃ t, exec (.pslBind req k v) s = .next t ∧ t.bit (F.PSL_STAT.BOUND k) = false ∧ t.bit (F.PSL_STAT.STALE k) = false ∧
      t = { s with regs := t.regs, slices := t.slices } ∧ (∀ j, j ≠ k.val → t.slice j = s.slice j) ∧
      regsBut s t [R.PSL_BIND k, R.PSL_STAT k] := by
  obtain ⟨-, hbound, hstale⟩ := State.rebound_status (k := k) (v := v) (en := false) hs
  exact ⟨_, exec_pslBind_accepted hquad hallow hbusy hlost hen nofun, hbound, hstale, State.rebound_frame⟩

theorem pslBind_invalid (hs : s.regsWf) (hquad : s.quadReady k = true) (hallow : s.allows req .pslCal = true) (hbusy : s.sliceBusy k = false)
    (hen : v.getLsbD 31 = true) (hinvalid : s.bindInvalid k v.toNat = true) :
    ∃ t, exec (.pslBind req k v) s = .next t ∧
      RefusedPsl s k C.PSL_BIND_INVALID (srcSlice k) (v.toNat / 256 % 64 + v.toNat % 256 * 256) t := by
  have hbit : bitOf v.toNat 31 = true := hen
  rw [exec_pslBind, execPslBind, if_neg (by simp [State.present_of_quadReady hquad]), if_neg (by simp [hallow, hbusy]), if_neg (by simp [hquad]),
    if_pos (by simp [hbit, hinvalid])]
  exact ⟨_, rfl, State.refusePsl_reported hs (by decide)⟩

theorem pslBind_refused (hs : s.regsWf) (hpresent : s.present k = true) (hno : s.allows req .pslCal = false ∨ s.sliceBusy k = true) :
    ∃ t, exec (.pslBind req k v) s = .next t ∧ RefusedPsl s k C.STATE_REFUSED (srcRequester req) (R.PSL_BIND k) t := by
  rw [exec_pslBind, execPslBind, if_neg (by simp [hpresent]), if_pos (by simpa using hno)]
  exact ⟨_, rfl, State.refusePsl_refused hs⟩

end

/-- Settles O31: each clause is the lemma above of the write and the outcome that it names. -/
theorem sliceSettingsAndBindings : Obligations.SliceSettingsAndBindings :=
  ⟨fun _ _ _ _ => absentSlice_ignores, fun _ _ _ _ => posLead_written, fun _ _ _ _ _ => setting_refused,
    fun _ _ _ _ hs _ hquad hallow hbusy hlost => ⟨pslBind_binds hs hquad hallow hbusy hlost, pslBind_unbinds hs hquad hallow hbusy hlost,
      pslBind_invalid hs hquad hallow hbusy⟩,
    fun _ _ _ _ => pslBind_refused⟩

end Sys2Proof.Machine
end

section
/-! LOSS OF SIGNAL AND OF PARTNERS. What the loss of a binding does to its slice and leaves alone of the others, loss of signal, and the loss of a partner
(R243 to R252, R255). -/

open Sys2Proof.Claims

namespace Sys2Proof.Machine

section

variable {s t : State} {k : Nat} {f : Fld} {status : Nat}

/-! ### The end of a calibration -/

theorem State.calEnd_eq (s : State) (k status : Nat) : ∃ regs slices err, s.calEnd k status = { s with regs, slices, err } := by
  unfold State.calEnd
  split_ifs <;> exact ⟨_, _, _, rfl⟩

theorem State.regsWf_calEnd (hs : s.regsWf) : (s.calEnd k status).regsWf := by
  unfold State.calEnd
  extract_lets s0 _ s1
  have h0 : s0.regsWf := by
    unfold s0
    split
    · exact hs
    · exact State.regsWf_setReg _ _ hs
  have h1 : s1.regsWf := State.regsWf_setFld (s := s0.setSlice _ _) _ _ h0
  split <;> exact h1

theorem regsBut_calEnd : regsBut s (s.calEnd k status) [R.PSL_DSK_RX k, R.PSL_STAT k] := by
  unfold State.calEnd
  extract_lets s0 _ s1
  have h0 : regsBut s s0 [R.PSL_DSK_RX k, R.PSL_STAT k] := by
    unfold s0
    split
    · exact regsBut_refl
    · exact regsBut_setReg regsBut_refl (by simp)
  have h1 : regsBut s s1 [R.PSL_DSK_RX k, R.PSL_STAT k] := regsBut_setFld (t := s0.setSlice _ _) h0 (by simp)
  split <;> exact h1

/-- Of PSL_STAT the end of a calibration writes only CMD_STATUS. -/
theorem State.fld_calEnd_stat (hs : s.regsWf) (hoff : f.off = R.PSL_STAT k) (hlow : f.lo + f.w ≤ 16) : (s.calEnd k status).fld f = s.fld f := by
  have hrx : f.off ≠ R.PSL_DSK_RX k := by rw [hoff]; simp
  unfold State.calEnd
  extract_lets s0 _ s1
  have h0 : s0.regsWf ∧ s0.fld f = s.fld f := by
    unfold s0
    split
    · exact ⟨hs, rfl⟩
    · exact ⟨State.regsWf_setReg _ _ hs, congrArg (getBits · f.lo f.w) (State.reg_setReg_ne _ _ hrx)⟩
  have h1 : s1.fld f = s.fld f :=
    (State.fld_setFld_ne (s := s0.setSlice _ _) _ _ _ h0.1 (show 16 + 16 ≤ 64 by decide) (.inr (.inl hlow))).trans h0.2
  split <;> exact h1

/-! ### The loss of a binding -/

/-- The tick of the loss kept in slice `k`, and its calibration ended. -/
def State.lossMarked (s : State) (k : Nat) : State :=
  let s' := s.setSlice k { s.slice k with lostAt := some s.tick }
  if (s'.slice k).cal then s'.calEnd k C.PSL_PARTNER_LOST else s'

/-- Slice `k` unbound, its binding stale, and the loss logged. -/
def State.stale (s : State) (k detail : Nat) : State :=
  ((s.setFld (F.PSL_STAT.BOUND k) 0).setFld (F.PSL_STAT.STALE k) 1).report C.PSL_PARTNER_LOST (srcSlice k) detail

/-- Site of slice `k`, when it is active, among those that lost a binding. -/
def State.siteLost (s : State) (k : Nat) : State := if s.sliceBusy k then { s with pslLost := s.sliceSite k :: s.pslLost } else s

theorem State.psq_stale {detail : Nat} : (s.stale k detail).psq = s.psq := rfl

theorem regsBut_stale {detail : Nat} : regsBut s (s.stale k detail) [R.PSL_STAT k] :=
  regsBut_report (regsBut_setFld (regsBut_setFld regsBut_refl (by simp)) (by simp))

theorem State.loseBinding_eq : ∃ detail, s.loseBinding k = ((s.lossMarked k).stale k detail).siteLost k := ⟨_, rfl⟩

theorem State.lossMarked_eq (s : State) (k : Nat) : ∃ regs slices err, s.lossMarked k = { s with regs, slices, err } := by
  unfold State.lossMarked
  extract_lets _ s'
  split
  · obtain ⟨regs, slices, err, h⟩ := s'.calEnd_eq k C.PSL_PARTNER_LOST
    exact ⟨regs, slices, err, h.trans rfl⟩
  · exact ⟨_, _, _, rfl⟩

theorem State.regsWf_lossMarked (hs : s.regsWf) : (s.lossMarked k).regsWf := by
  unfold State.lossMarked
  extract_lets _ s'
  split
  · exact State.regsWf_calEnd hs
  · exact hs

theorem regsBut_lossMarked : regsBut s (s.lossMarked k) [R.PSL_DSK_RX k, R.PSL_STAT k] := by
  unfold State.lossMarked
  extract_lets _ s'
  split
  · exact regsBut_calEnd (s := s')
  · exact regsBut_refl

theorem State.fld_lossMarked_stat (hs : s.regsWf) (hoff : f.off = R.PSL_STAT k) (hlow : f.lo + f.w ≤ 16) : (s.lossMarked k).fld f = s.fld f := by
  unfold State.lossMarked
  extract_lets _ s'
  split
  · exact State.fld_calEnd_stat (s := s') hs hoff hlow
  · rfl

theorem State.siteLost_eq (s : State) (k : Nat) : ∃ pslLost, s.siteLost k = { s with pslLost } := by
  unfold State.siteLost
  split <;> exact ⟨_, rfl⟩

/-- What a lost binding leaves: unbound and stale. -/
def Lost (t : State) (k : Nat) : Prop := t.bit (F.PSL_STAT.BOUND k) = false ∧ t.bit (F.PSL_STAT.STALE k) = true

theorem State.loseBinding_parts (s : State) (k : Nat) : ∃ regs slices err pslLost, s.loseBinding k = { s with regs, slices, err, pslLost } := by
  obtain ⟨detail, h⟩ := s.loseBinding_eq (k := k)
  obtain ⟨regs, slices, err, hmarked⟩ := s.lossMarked_eq k
  obtain ⟨pslLost, hlost⟩ := ((s.lossMarked k).stale k detail).siteLost_eq k
  rw [h, hlost, hmarked]
  exact ⟨_, _, _, _, rfl⟩

/-- The registers after the loss of a binding are those of the slice unbound and stale. -/
theorem State.reg_loseBinding {o : Nat} :
    (s.loseBinding k).reg o = (((s.lossMarked k).setFld (F.PSL_STAT.BOUND k) 0).setFld (F.PSL_STAT.STALE k) 1).reg o := by
  obtain ⟨detail, h⟩ := s.loseBinding_eq (k := k)
  obtain ⟨pslLost, hlost⟩ := ((s.lossMarked k).stale k detail).siteLost_eq k
  rw [h, hlost]
  rfl

theorem State.loseBinding_lost (hs : s.regsWf) : Lost (s.loseBinding k) k := by
  have h0 := State.regsWf_lossMarked (k := k) hs
  have h1 := State.regsWf_setFld (F.PSL_STAT.BOUND k) 0 h0
  have hbound : (((s.lossMarked k).setFld (F.PSL_STAT.BOUND k) 0).setFld (F.PSL_STAT.STALE k) 1).fld (F.PSL_STAT.BOUND k) = 0 :=
    (State.fld_setFld_ne _ _ _ h1 (show 7 + 1 ≤ 64 by decide) (by simp)).trans (State.fld_setFld _ 0 h0 (show 6 + 1 ≤ 64 by decide))
  have hstale : (((s.lossMarked k).setFld (F.PSL_STAT.BOUND k) 0).setFld (F.PSL_STAT.STALE k) 1).fld (F.PSL_STAT.STALE k) = 1 :=
    State.fld_setFld _ 1 h1 (show 7 + 1 ≤ 64 by decide)
  exact ⟨State.bit_of_fld ((congrArg (getBits · 6 1) State.reg_loseBinding).trans hbound),
    State.bit_of_fld ((congrArg (getBits · 7 1) State.reg_loseBinding).trans hstale)⟩

/-- The loss of a binding leaves LOS_SEEN as it is. -/
theorem State.losSeen_loseBinding (hs : s.regsWf) : (s.loseBinding k).bit (F.PSL_STAT.LOS_SEEN k) = s.bit (F.PSL_STAT.LOS_SEEN k) := by
  have h0 := State.regsWf_lossMarked (k := k) hs
  have hmarked : (s.lossMarked k).fld (F.PSL_STAT.LOS_SEEN k) = s.fld (F.PSL_STAT.LOS_SEEN k) :=
    State.fld_lossMarked_stat hs rfl (show 10 + 1 ≤ 16 by decide)
  have hbound := State.fld_setFld_ne (F.PSL_STAT.BOUND k) (F.PSL_STAT.LOS_SEEN k) 0 h0 (show 6 + 1 ≤ 64 by decide) (by simp)
  have hstale := State.fld_setFld_ne (F.PSL_STAT.STALE k) (F.PSL_STAT.LOS_SEEN k) 1 (State.regsWf_setFld (F.PSL_STAT.BOUND k) 0 h0)
    (show 7 + 1 ≤ 64 by decide) (by simp)
  exact State.bit_of_fld ((congrArg (getBits · 10 1) State.reg_loseBinding).trans (hstale.trans (hbound.trans hmarked)))

/-- Whether a slice belongs to an active site, and to which, rests on its PSL_SITE and the sequencers. -/
theorem State.sliceBusy_congr (hreg : t.reg (R.PSL_SITE k) = s.reg (R.PSL_SITE k)) (hpsq : t.psq = s.psq) :
    t.sliceBusy k = s.sliceBusy k ∧ t.sliceSite k = s.sliceSite k := by
  have hen : t.assigned k = s.assigned k := congrArg (getBits · 4 1 == 1) hreg
  have hsite : t.sliceSite k = s.sliceSite k := congrArg (getBits · 0 4) hreg
  have hactive n : t.siteActive n = s.siteActive n := by
    unfold State.siteActive State.getPsq
    rw [hpsq]
  refine ⟨?_, hsite⟩
  rw [State.sliceBusy, hen, hsite, hactive]
  rfl

theorem State.siteLost_mem (hbusy : s.sliceBusy k = true) : s.sliceSite k ∈ (s.siteLost k).pslLost := by
  rw [State.siteLost, if_pos hbusy]
  exact List.mem_cons_self

/-- The site of a slice that loses its binding is noted when it is active. -/
theorem State.sliceSite_mem_loseBinding (hbusy : s.sliceBusy k = true) : s.sliceSite k ∈ (s.loseBinding k).pslLost := by
  obtain ⟨detail, h⟩ := s.loseBinding_eq (k := k)
  obtain ⟨regs, slices, err, hmarked⟩ := s.lossMarked_eq k
  have hreg : ((s.lossMarked k).stale k detail).reg (R.PSL_SITE k) = s.reg (R.PSL_SITE k) :=
    regsBut_append regsBut_lossMarked regsBut_stale _ (by simp)
  have hpsq : ((s.lossMarked k).stale k detail).psq = s.psq := State.psq_stale.trans (by rw [hmarked])
  obtain ⟨hsame, hsite⟩ := State.sliceBusy_congr hreg hpsq
  rw [h, ← hsite]
  exact State.siteLost_mem (hsame.trans hbusy)

/-! ### A binding of the present tick -/

theorem State.unbindNow_of_noBindNow (h : noBindNow s k) : s.unbindNow k = s := by
  unfold State.unbindNow
  split
  next b hb => rw [if_neg (by simp [h b hb])]
  next => rfl

/-- What is left of a PSL_BIND write whose partner is lost in its tick. -/
def Refused (t : State) (k : Nat) (reg : Wide) : Prop :=
  t.bit (F.PSL_STAT.BOUND k) = false ∧ t.bit (F.PSL_STAT.STALE k) = false ∧ t.fld (F.PSL_STAT.CMD_STATUS k) = C.PSL_BIND_INVALID ∧
    t.reg (R.PSL_BIND k) = reg

theorem Refused.report {reg : Wide} {code source detail : Nat} (h : Refused t k reg) : Refused (t.report code source detail) k reg := by
  obtain ⟨hbound, hstale, hstatus, hreg⟩ := h
  exact ⟨hbound, hstale, hstatus, hreg⟩

/-- Slice `k` with the binding that it had before the write that `b` records. -/
def State.bindUndone (s : State) (k : Nat) (b : BindRec) : State :=
  ((s.setSlice k { s.slice k with bindRec := none }).setReg (R.PSL_BIND k) b.reg).setFlds
    [(F.PSL_STAT.BOUND k, b.bound), (F.PSL_STAT.STALE k, b.stale), (F.PSL_STAT.CMD_STATUS k, C.PSL_BIND_INVALID)]

theorem State.unbindNow_undoes {b : BindRec} (hon : s.fckOn = true) (hb : (s.slice k).bindRec = some b) (htick : b.tick = s.tick) :
    s.unbindNow k = (s.bindUndone k b).report C.PSL_BIND_INVALID (srcSlice k) (s.pslDetail k) := by
  unfold State.unbindNow
  rw [hb]
  exact if_pos (by simp [hon, htick])

theorem State.bindUndone_refused {b : BindRec} (hs : s.regsWf) (hbound : b.bound = 0) (hstale : b.stale = 0) :
    Refused (s.bindUndone k b) k b.reg := by
  have hu := State.regsWf_setReg (s := s.setSlice k { s.slice k with bindRec := none }) (R.PSL_BIND k) b.reg hs
  have hreg := State.reg_setReg (s := s.setSlice k { s.slice k with bindRec := none }) (R.PSL_BIND k) b.reg hs
  unfold State.bindUndone
  rw [hbound, hstale]
  exact ⟨State.bit_of_fld (State.fld_setFlds [] _ hu (show 6 + 1 ≤ 64 by decide) (by simp [Fld.Apart])),
    State.bit_of_fld (State.fld_setFlds [_] _ hu (show 7 + 1 ≤ 64 by decide) (by simp [Fld.Apart])),
    State.fld_setFlds [_, _] [] hu (show 16 + 16 ≤ 64 by decide) (by simp), (State.reg_setFlds_ne (by simp)).trans hreg⟩

theorem State.unbindNow_refused {b : BindRec} (hs : s.regsWf) (hon : s.fckOn = true) (hb : (s.slice k).bindRec = some b) (htick : b.tick = s.tick)
    (hbound : b.bound = 0) (hstale : b.stale = 0) : Refused (s.unbindNow k) k b.reg := by
  rw [State.unbindNow_undoes hon hb htick]
  exact .report (State.bindUndone_refused hs hbound hstale)

end

/-! ### What writes of memory and events leave alone -/

theorem State.unitWrite_eq (s : State) (ni a : Nat) (bs : List Byte) : ∃ mem hmem noc, s.unitWrite ni a bs = { s with mem, hmem, noc } := by
  obtain ⟨mem, hmem, heq, -⟩ := State.setDpaBytes_cases bs (s.snoopInv ni a bs.length) a
  obtain ⟨noc, hsnoop⟩ : ∃ noc, s.snoopInv ni a bs.length = { s with noc } := by
    unfold State.snoopInv
    split <;> exact ⟨_, rfl⟩
  exact ⟨mem, hmem, noc, heq.trans (by rw [hsnoop])⟩

theorem regsBut_postEvent {s : State} {typ arg0 arg1 vec : Nat} : regsBut s (s.postEvent typ arg0 arg1 vec) [R.HIF_EVQ_PTR, R.HIF_EVQ_CTRL] := by
  have hsignal {t : State} (h : regsBut s t [R.HIF_EVQ_PTR, R.HIF_EVQ_CTRL]) : regsBut s (t.signal vec) [R.HIF_EVQ_PTR, R.HIF_EVQ_CTRL] := by
    unfold State.signal
    extract_lets masked
    split <;> exact h
  unfold State.postEvent
  extract_lets size tail free a s1
  split
  · exact hsignal regsBut_refl
  · have h1 : regsBut s s1 [R.HIF_EVQ_PTR, R.HIF_EVQ_CTRL] := by
      unfold s1
      split
      · obtain ⟨mem, hmem, noc, heq⟩ := s.unitWrite_eq 169 a (eventBytes s.tick typ (tail / size % 2 == 0) arg0 arg1)
        rw [heq]
        exact regsBut_refl (s := s)
      · unfold State.accLog
        split_ifs <;> exact regsBut_refl (s := s)
    generalize (if typ = 4 then 0 else 2) = reserve
    split
    · exact hsignal (regsBut_setFld h1 (by simp))
    · exact hsignal (regsBut_addSat regsBut_refl (by simp))

/-! ### What a command leaves alone of a slice -/

/-- `t` stands in the tick of `s`, with FCK as in `s`, and holds slice `k` and the registers of its block as `s` does. -/
structure Aside (k : Nat) (s t : State) : Prop where
  tick : t.tick = s.tick
  fckOn : t.fckOn = s.fckOn
  slice : t.slice k = s.slice k
  reg : ∀ o, R.PSL_CTRL k ≤ o → o < R.PSL_CTRL k + 0x400 → t.reg o = s.reg o
  wf : s.regsWf → t.regsWf

namespace Aside

section

variable {s t : State} {k j : Nat} {f : Fld}

theorem refl : Aside k s s := ⟨rfl, rfl, rfl, fun _ _ _ => rfl, id⟩

theorem ite {c : Prop} [Decidable c] {u : State} (ht : Aside k s t) (hu : Aside k s u) : Aside k s (if c then t else u) := by
  split <;> assumption

theorem foldl {α : Type} {g : State → α → State} {l : List α} (h : Aside k s t) (hg : ∀ u, ∀ x ∈ l, Aside k s u → Aside k s (g u x)) :
    Aside k s (l.foldl g t) := by
  induction l generalizing t with
  | nil => exact h
  | cons x l ih => exact ih (hg t x List.mem_cons_self h) fun u y hy => hg u y (List.mem_cons_of_mem x hy)

theorem fld (h : Aside k s t) (hlo : R.PSL_CTRL k ≤ f.off) (hhi : f.off < R.PSL_CTRL k + 0x400) : t.fld f = s.fld f :=
  congrArg (getBits · f.lo f.w) (h.reg f.off hlo hhi)

/-- No part of the state bears on a slice but its registers, the slices, the tick and FCK. -/
theorem other {mem hmem msix err noc pslLost} (h : Aside k s t) : Aside k s { t with mem, hmem, msix, err, noc, pslLost } :=
  ⟨h.tick, h.fckOn, h.slice, h.reg, h.wf⟩

theorem setReg {off : Nat} {v : Wide} (h : Aside k s t) (hoff : off < R.PSL_CTRL k ∨ R.PSL_CTRL k + 0x400 ≤ off) : Aside k s (t.setReg off v) :=
  ⟨h.tick, h.fckOn, h.slice, fun o hlo hhi => (State.reg_setReg_ne t v (by omega)).trans (h.reg o hlo hhi),
    fun hs => State.regsWf_setReg off v (h.wf hs)⟩

theorem setFld {v : Nat} (h : Aside k s t) (hoff : f.off < R.PSL_CTRL k ∨ R.PSL_CTRL k + 0x400 ≤ f.off) : Aside k s (t.setFld f v) := setReg h hoff

theorem setSlice {x : Slice} (h : Aside k s t) (hj : j ≠ k) : Aside k s (t.setSlice j x) :=
  ⟨h.tick, h.fckOn, (State.slice_setSlice_ne hj.symm).trans h.slice, h.reg, h.wf⟩

theorem report {code source detail : Nat} (h : Aside k s t) : Aside k s (t.report code source detail) := other h

theorem setFlds {xs : List (Fld × Nat)} (h : Aside k s t) (hxs : ∀ e ∈ xs, e.1.off < R.PSL_CTRL k ∨ R.PSL_CTRL k + 0x400 ≤ e.1.off) :
    Aside k s (t.setFlds xs) := foldl h fun _ e he h => setFld h (hxs e he)

/-! What the commands of another slice do. -/

/-- The block of another slice lies apart. -/
theorem apart (hj : j ≠ k) {d : Nat} (hd : d < 0x400) : 0x100000 + d + 0x400 * j < R.PSL_CTRL k ∨ R.PSL_CTRL k + 0x400 ≤ 0x100000 + d + 0x400 * j := by
  have hctrl : R.PSL_CTRL k = 0x100000 + 0x400 * k := rfl
  omega

theorem setStat {lo w v : Nat} (h : Aside k s t) (hj : j ≠ k) : Aside k s (t.setFld ⟨R.PSL_STAT j, lo, w⟩ v) :=
  setFld h (apart (d := 4) hj (by decide))

theorem calEnd {status : Nat} (h : Aside k s t) (hj : j ≠ k) : Aside k s (t.calEnd j status) := by
  unfold State.calEnd
  extract_lets s0 _ s1
  have h0 : Aside k s s0 := .ite h (.setReg h (apart (d := 0x28) hj (by decide)))
  have h1 : Aside k s s1 := .setStat (.setSlice h0 hj) hj
  exact .ite (.report h1) h1

theorem lossMarked (h : Aside k s t) (hj : j ≠ k) : Aside k s (t.lossMarked j) := .ite (.calEnd (.setSlice h hj) hj) (.setSlice h hj)

theorem loseBinding (h : Aside k s t) (hj : j ≠ k) : Aside k s (t.loseBinding j) := by
  obtain ⟨detail, heq⟩ := t.loseBinding_eq (k := j)
  obtain ⟨pslLost, hlost⟩ := ((t.lossMarked j).stale j detail).siteLost_eq j
  have hstale : Aside k s ((t.lossMarked j).stale j detail) := .report (.setStat (.setStat (.lossMarked h hj) hj) hj)
  rw [heq, hlost]
  exact .other hstale

theorem bindUndone {b : BindRec} (h : Aside k s t) (hj : j ≠ k) : Aside k s (t.bindUndone j b) :=
  .setStat (.setStat (.setStat (.setReg (.setSlice h hj) (apart (d := 0xc) hj (by decide))) hj) hj) hj

theorem unbindNow (h : Aside k s t) (hj : j ≠ k) : Aside k s (t.unbindNow j) := by
  unfold State.unbindNow
  split
  · exact .ite (.report (.bindUndone h hj)) h
  · exact h

/-! What the table of partners, memory and the host interface do. -/

theorem unitWrite {ni a : Nat} {bs : List Byte} (h : Aside k s t) : Aside k s (t.unitWrite ni a bs) := by
  obtain ⟨mem, hmem, noc, heq⟩ := t.unitWrite_eq ni a bs
  rw [heq]
  exact .other h

theorem accLog {ni a c : Nat} (h : Aside k s t) : Aside k s (t.accLog ni a c) := .ite (.report h) (.ite (.ite (.report h) (.report h)) h)

theorem signal {v : Nat} (h : Aside k s t) : Aside k s (t.signal v) := .ite (.other h) (.other h)

/-- A register above those of the slices lies apart. -/
theorem above {off : Nat} (hk : k < 256) (hoff : 0x140000 ≤ off) : off < R.PSL_CTRL k ∨ R.PSL_CTRL k + 0x400 ≤ off := by
  have hctrl : R.PSL_CTRL k = 0x100000 + 0x400 * k := rfl
  omega

theorem postEvent {typ arg0 arg1 vec : Nat} (hk : k < 256) (h : Aside k s t) : Aside k s (t.postEvent typ arg0 arg1 vec) :=
  .ite (.signal h) (.ite (.signal (.setFld (.ite (.unitWrite h) (.accLog h)) (above hk (by decide))))
    (.signal (.setFld h (above hk (by decide)))))

theorem setPtByte {e b v : Nat} (hk : k < 256) (h : Aside k s t) : Aside k s (t.setPtByte e b v) :=
  .setReg h (above hk (by unfold R.AUX_PT; omega))

end

end Aside

section

variable {s t : State} {k : Nat}

theorem Aside.regOfBlock {d : Nat} (h : Aside k s t) (hd : d < 0x400) : t.reg (0x100000 + d + 0x400 * k) = s.reg (0x100000 + d + 0x400 * k) := by
  have hctrl : R.PSL_CTRL k = 0x100000 + 0x400 * k := rfl
  exact h.reg _ (by omega) (by omega)

theorem Aside.stat (h : Aside k s t) : t.reg (R.PSL_STAT k) = s.reg (R.PSL_STAT k) := h.regOfBlock (d := 4) (by decide)

theorem Lost.of_aside (h : Lost s k) (ha : Aside k s t) : Lost t k := by
  obtain ⟨hbound, hstale⟩ := h
  exact ⟨(congrArg (getBits · 6 1 == 1) ha.stat).trans hbound, (congrArg (getBits · 7 1 == 1) ha.stat).trans hstale⟩

theorem Refused.of_aside {reg : Wide} (h : Refused s k reg) (ha : Aside k s t) : Refused t k reg := by
  obtain ⟨hbound, hstale, hstatus, hreg⟩ := h
  exact ⟨(congrArg (getBits · 6 1 == 1) ha.stat).trans hbound, (congrArg (getBits · 7 1 == 1) ha.stat).trans hstale,
    (congrArg (getBits · 16 16) ha.stat).trans hstatus, (ha.regOfBlock (d := 0xc) (by decide)).trans hreg⟩

/-! ### The loss of a partner -/

theorem State.regsWf_loseBinding (hs : s.regsWf) : (s.loseBinding k).regsWf := by
  obtain ⟨detail, h⟩ := s.loseBinding_eq (k := k)
  obtain ⟨pslLost, hlost⟩ := ((s.lossMarked k).stale k detail).siteLost_eq k
  rw [h, hlost]
  exact State.regsWf_setFld (F.PSL_STAT.STALE k) 1 (State.regsWf_setFld (F.PSL_STAT.BOUND k) 0 (State.regsWf_lossMarked hs))

/-- The slices `ks` lose their bindings. -/
def State.loseBindings (s : State) (ks : List Nat) : State := ks.foldl (fun t k => t.loseBinding k) s

/-- The PSL_BIND writes of the present tick of the slices `ks` are undone. -/
def State.unbindsNow (s : State) (ks : List Nat) : State := ks.foldl (fun t k => t.unbindNow k) s

theorem State.regsWf_loseBindings {ks : List Nat} (hs : s.regsWf) : (s.loseBindings ks).regsWf := by
  induction ks generalizing s with
  | nil => exact hs
  | cons j ks ih => exact ih (State.regsWf_loseBinding hs)

theorem Aside.loseBindings {ks : List Nat} (h : Aside k s t) (hk : k ∉ ks) : Aside k s (t.loseBindings ks) :=
  .foldl h fun _ _ hj h => .loseBinding h (ne_of_mem_of_not_mem hj hk)

theorem Aside.unbindsNow {ks : List Nat} (h : Aside k s t) (hk : k ∉ ks) : Aside k s (t.unbindsNow ks) :=
  .foldl h fun _ _ hj h => .unbindNow h (ne_of_mem_of_not_mem hj hk)

/-- A slice that has lost its binding stays so, and every slice listed comes to it. -/
theorem State.loseBindings_lost {ks : List Nat} (hs : s.regsWf) (h : k ∈ ks ∨ Lost s k) : Lost (s.loseBindings ks) k := by
  induction ks generalizing s with
  | nil => exact h.resolve_left List.not_mem_nil
  | cons j ks ih =>
    refine ih (State.regsWf_loseBinding hs) ?_
    by_cases hj : j = k
    · exact .inr (hj ▸ State.loseBinding_lost hs)
    · exact h.imp (fun h => (List.mem_cons.1 h).resolve_left (Ne.symm hj)) fun h => h.of_aside (.loseBinding .refl hj)

theorem State.unbindsNow_of_noBindNow {ks : List Nat} (h : ∀ k ∈ ks, noBindNow s k) : s.unbindsNow ks = s := by
  induction ks with
  | nil => rfl
  | cons j ks ih =>
    obtain ⟨hj, h⟩ := List.forall_mem_cons.1 h
    rw [State.unbindsNow, List.foldl_cons, State.unbindNow_of_noBindNow hj]
    exact ih h

theorem State.mem_boundTo {e : Nat} : k ∈ s.boundTo e ↔ k < 256 ∧ s.bit (F.PSL_STAT.BOUND k) = true ∧ s.fld (F.PSL_BIND.PARTNER k) = e := by
  simp [State.boundTo]

/-- Partner `e` is GONE: its entry, the log and the host's event (R250, R587). -/
def State.partnerGone (s : State) (e : Nat) : State :=
  let u := (s.setPtByte e 8 3).report C.AUX_PARTNER_LEAVE 0 (s.ptDetail e)
  u.postEvent 5 e (u.ptGen e) 2

theorem State.partnerLoss_eq {e : Nat} (he : s.ptState e = 2) :
    s.partnerLoss e = ((s.unbindsNow (s.boundTo e)).loseBindings ((s.unbindsNow (s.boundTo e)).boundTo e)).partnerGone e :=
  if_neg (not_not.2 he)

theorem Aside.partnerGone {e : Nat} (hk : k < 256) (h : Aside k s t) : Aside k s (t.partnerGone e) :=
  .postEvent hk (.report (.setPtByte hk h))

theorem State.ptState_partnerGone {e : Nat} (hs : s.regsWf) : (s.partnerGone e).ptState e = 3 := by
  have hne {o : Nat} (ho : o < 0x781000) : R.AUX_PT e 2 ≠ o := by
    unfold R.AUX_PT
    omega
  have hoff : R.AUX_PT e 2 ∉ [R.HIF_EVQ_PTR, R.HIF_EVQ_CTRL] :=
    List.not_mem_cons_of_ne_of_not_mem (hne (by decide)) (List.not_mem_cons_of_ne_of_not_mem (hne (by decide)) List.not_mem_nil)
  have hkept : (s.partnerGone e).reg (R.AUX_PT e 2) = (s.setPtByte e 8 3).reg (R.AUX_PT e 2) := regsBut_postEvent _ hoff
  have hput : (s.setPtByte e 8 3).reg (R.AUX_PT e 2) = putBits (s.reg (R.AUX_PT e 2)) 0 8 3 := State.reg_setReg _ _ hs
  exact (congrArg (getBits · 0 8) (hkept.trans hput)).trans (getBits_putBits _ 0 8 3 (by decide))

/-- A partner that is lost in a tick without a PSL_BIND write takes the bindings to it with it, and is GONE. -/
theorem partnerLoss_unbinds {e : Nat} (hs : s.regsWf) (he : s.ptState e = 2) (hno : ∀ k < 256, noBindNow s k) :
    (s.partnerLoss e).ptState e = 3 ∧ ∀ k < 256, s.bit (F.PSL_STAT.BOUND k) = true → s.fld (F.PSL_BIND.PARTNER k) = e →
      (s.partnerLoss e).bit (F.PSL_STAT.BOUND k) = false ∧ (s.partnerLoss e).bit (F.PSL_STAT.STALE k) = true := by
  have hsame : s.unbindsNow (s.boundTo e) = s := State.unbindsNow_of_noBindNow fun k hk => hno k (State.mem_boundTo.1 hk).1
  rw [State.partnerLoss_eq he, hsame]
  refine ⟨State.ptState_partnerGone (State.regsWf_loseBindings hs), fun k hk hbound hpartner => ?_⟩
  have hlost : Lost (s.loseBindings (s.boundTo e)) k := State.loseBindings_lost hs (.inl (State.mem_boundTo.2 ⟨hk, hbound, hpartner⟩))
  exact hlost.of_aside (.partnerGone hk .refl)

/-- A PSL_BIND write to the partner lost in its tick is refused after all (R255). -/
theorem partnerLoss_refuses {e : Nat} {b : BindRec} (hk : k < 256) (hs : s.regsWf) (hon : s.fckOn = true) (he : s.ptState e = 2)
    (hb : (s.slice k).bindRec = some b) (htick : b.tick = s.tick) (hbound : b.bound = 0) (hstale : b.stale = 0)
    (hnow : s.bit (F.PSL_STAT.BOUND k) = true) (hpartner : s.fld (F.PSL_BIND.PARTNER k) = e) : Refused (s.partnerLoss e) k b.reg := by
  obtain ⟨before, after, hlist⟩ := List.append_of_mem (State.mem_boundTo.2 ⟨hk, hnow, hpartner⟩)
  have hnodup : (s.boundTo e).Nodup := List.nodup_range.filter _
  rw [hlist] at hnodup
  have hpre : k ∉ before := fun h => (List.disjoint_of_nodup_append hnodup) h List.mem_cons_self
  have hpost : k ∉ after := (List.nodup_cons.1 hnodup.of_append_right).1
  have hbefore : Aside k s (s.unbindsNow before) := .unbindsNow .refl hpre
  have hundone : Refused ((s.unbindsNow before).unbindNow k) k b.reg :=
    State.unbindNow_refused (hbefore.wf hs) (hbefore.fckOn.trans hon) ((congrArg Slice.bindRec hbefore.slice).trans hb)
      (htick.trans hbefore.tick.symm) hbound hstale
  have hall : Refused (s.unbindsNow (s.boundTo e)) k b.reg := by
    rw [hlist, State.unbindsNow, List.foldl_append, List.foldl_cons]
    exact hundone.of_aside (.unbindsNow .refl hpost)
  have hnot : k ∉ (s.unbindsNow (s.boundTo e)).boundTo e := fun h => Bool.noConfusion (hall.1.symm.trans (State.mem_boundTo.1 h).2.1)
  rw [State.partnerLoss_eq he]
  exact hall.of_aside (.partnerGone hk (.loseBindings .refl hnot))

theorem partnerDrop_unbinds {req : Requester} {e : Fin 64} (hs : s.regsWf) (he : s.ptState e = 2) (hno : ∀ k < 256, noBindNow s k) :
    ∃ t, exec (.pslPartnerDrop req e) s = .next t ∧ t.ptState e = 3 ∧
      (∀ k < 256, s.bit (F.PSL_STAT.BOUND k) = true → s.fld (F.PSL_BIND.PARTNER k) = e →
        t.bit (F.PSL_STAT.BOUND k) = false ∧ t.bit (F.PSL_STAT.STALE k) = true) := ⟨_, rfl, partnerLoss_unbinds hs he hno⟩

theorem presenceAbsent_unbinds {e : Fin 64} (hs : s.regsWf) (he : s.ptState e = 2) (hdev : s.dev = .loaded) (hpin : s.ptByte e 14 < 24)
    (hfunc : s.fld (F.AUX_GPIO_CFG.FUNC (s.ptByte e 14)) = 2) (hno : ∀ k < 256, noBindNow s k) :
    ∃ t, exec (.presenceAbsent e) s = .next t ∧ t.ptState e = 3 ∧
      (∀ k < 256, s.bit (F.PSL_STAT.BOUND k) = true → s.fld (F.PSL_BIND.PARTNER k) = e →
        t.bit (F.PSL_STAT.BOUND k) = false ∧ t.bit (F.PSL_STAT.STALE k) = true) := by
  rw [exec_presenceAbsent, execPresenceAbsent, if_neg (by simp [hdev, hpin, hfunc])]
  exact ⟨_, rfl, partnerLoss_unbinds hs he hno⟩

theorem partnerDrop_ignored {req : Requester} {e : Fin 64} (he : s.ptState e ≠ 2) : exec (.pslPartnerDrop req e) s = .next s :=
  congrArg Host.Outcome.next (if_pos he)

/-! ### Loss of signal -/

variable {onH onL : Bool}

theorem b2n_mod_two {b : Bool} : (b2n b % 2 == 1) = b := by cases b <;> rfl

/-- PSL_LOS lies apart from the blocks of the slices. -/
theorem losWord_ne {k : Fin 256} {d : Nat} (hd : d < 0x400) : 0x100000 + d + 0x400 * k.val ≠ R.PSL_LOS (k.val / 32) := by
  have hlos : R.PSL_LOS (k.val / 32) = 0x140020 + 4 * (k.val / 32) := rfl
  omega

theorem onlyRegs_setLos : onlyRegs s (s.setLos k onH onL) [R.PSL_STAT k, R.PSL_LOS (k / 32)] := onlyRegs_setFlds (by simp)

theorem State.setLos_live {k : Fin 256} (hs : s.regsWf) :
    (s.setLos k onH onL).bit (F.PSL_STAT.LOS_H k) = onH ∧ (s.setLos k onH onL).bit (F.PSL_STAT.LOS_L k) = onL := by
  have hfit : k.val % 32 + 1 ≤ 64 := by omega
  have hword : R.PSL_STAT k ≠ R.PSL_LOS (k.val / 32) := losWord_ne (d := 4) (by decide)
  exact ⟨(State.bit_of_fld (State.fld_setFlds [] _ hs (show 8 + 1 ≤ 64 by decide) (by simp [Fld.Apart, hfit, hword]))).trans b2n_mod_two,
    (State.bit_of_fld (State.fld_setFlds [_] _ hs (show 9 + 1 ≤ 64 by decide) (by simp [Fld.Apart, hfit, hword]))).trans b2n_mod_two⟩

/-- Of PSL_STAT the live LOS bits are bits 8 and 9. -/
theorem State.fld_setLos_stat {k : Fin 256} {f : Fld} (hs : s.regsWf) (hoff : f.off = R.PSL_STAT k) (hf : f.lo + f.w ≤ 8 ∨ 10 ≤ f.lo) :
    (s.setLos k onH onL).fld f = s.fld f := by
  have hfit : k.val % 32 + 1 ≤ 64 := by omega
  have hword : R.PSL_STAT k ≠ R.PSL_LOS (k.val / 32) := losWord_ne (d := 4) (by decide)
  refine State.fld_setFlds_apart hs ?_
  simp only [List.forall_mem_cons, Fld.Apart, hoff]
  exact ⟨⟨by decide, .inr (by omega)⟩, ⟨by decide, .inr (by omega)⟩, ⟨hfit, .inl hword⟩, nofun⟩

/-- Slice `k` without signal on the comparators named, and LOS_SEEN set. -/
def State.losSeen (s : State) (k : Nat) (onH onL : Bool) : State :=
  (s.setLos k (onH || s.bit (F.PSL_STAT.LOS_H k)) (onL || s.bit (F.PSL_STAT.LOS_L k))).setFld (F.PSL_STAT.LOS_SEEN k) 1

theorem onlyRegs_losSeen : onlyRegs s (s.losSeen k onH onL) [R.PSL_STAT k, R.PSL_LOS (k / 32)] := by
  obtain ⟨heq, hregs⟩ := onlyRegs_setLos (s := s) (k := k) (onH := onH || s.bit (F.PSL_STAT.LOS_H k)) (onL := onL || s.bit (F.PSL_STAT.LOS_L k))
  exact ⟨congrArg (State.setFld · (F.PSL_STAT.LOS_SEEN k) 1) heq, regsBut_setFld hregs (by simp)⟩

theorem State.regsWf_losSeen (hs : s.regsWf) : (s.losSeen k onH onL).regsWf := State.regsWf_setFld _ _ (State.regsWf_setFlds hs)

theorem State.losSeen_stat {k : Fin 256} (hs : s.regsWf) :
    (s.losSeen k onH onL).bit (F.PSL_STAT.LOS_H k) = (onH || s.bit (F.PSL_STAT.LOS_H k)) ∧
    (s.losSeen k onH onL).bit (F.PSL_STAT.LOS_SEEN k) = true ∧
    (s.losSeen k onH onL).bit (F.PSL_STAT.BOUND k) = s.bit (F.PSL_STAT.BOUND k) := by
  have hwf : (s.setLos k (onH || s.bit (F.PSL_STAT.LOS_H k)) (onL || s.bit (F.PSL_STAT.LOS_L k))).regsWf := State.regsWf_setFlds hs
  have hother {f : Fld} (hf : f.off ≠ R.PSL_STAT k ∨ f.lo + f.w ≤ 10 ∨ 10 + 1 ≤ f.lo) :=
    State.fld_setFld_ne (F.PSL_STAT.LOS_SEEN k) f 1 hwf (show 10 + 1 ≤ 64 by decide) hf
  refine ⟨(State.bit_of_fld (hother (by simp))).trans (State.setLos_live hs).1, State.bit_setFld_one hwf (show 10 + 1 ≤ 64 by decide) rfl,
    (State.bit_of_fld (hother (by simp))).trans (State.bit_of_fld (State.fld_setLos_stat hs rfl (by simp)))⟩

theorem exec_los_bound {k : Fin 256} (hs : s.regsWf) (hquad : s.quadReady k = true) (hon : (onH || onL) = true)
    (hbound : s.bit (F.PSL_STAT.BOUND k) = true) (hen : sliceBit s k (F.PSL_CFG.LOS_EN k) = true) (hno : noBindNow s k) :
    exec (.los k onH onL) s = .next ((s.losSeen k onH onL).loseBinding k) := by
  have hseen : (s.losSeen k onH onL).bit (F.PSL_STAT.BOUND k) = true := (State.losSeen_stat hs).2.2.trans hbound
  have hkept : (s.losSeen k onH onL).unbindNow k = s.losSeen k onH onL := State.unbindNow_of_noBindNow (by rwa [onlyRegs_losSeen.1])
  have hgo : ((s.losSeen k onH onL).bit (F.PSL_STAT.BOUND k) && (F.PSL_CFG.LOS_EN k).of (s.slice k).set.cfg == 1) = true := by
    rw [hseen]
    exact hen
  rw [exec_los, execLos, if_neg (by simp [hquad, hon])]
  refine congrArg Host.Outcome.next ((if_pos hgo).trans ?_)
  refine (if_pos ((congrArg (State.bit · (F.PSL_STAT.BOUND k)) hkept).trans hseen)).trans ?_
  exact congrArg (State.loseBinding · k) hkept

theorem exec_los_unbound {k : Fin 256} (hs : s.regsWf) (hquad : s.quadReady k = true) (hon : (onH || onL) = true)
    (hbound : s.bit (F.PSL_STAT.BOUND k) = false) :
    exec (.los k onH onL) s = .next ((s.losSeen k onH onL).report C.PSL_RX_LOS (srcSlice k) (s.pslDetail k)) := by
  have hseen : (s.losSeen k onH onL).bit (F.PSL_STAT.BOUND k) = false := (State.losSeen_stat hs).2.2.trans hbound
  rw [exec_los, execLos, if_neg (by simp [hquad, hon])]
  exact congrArg Host.Outcome.next (if_neg (Bool.not_eq_true _ ▸ (congrArg (· && _) hseen)))

theorem los_unbinds {k : Fin 256} (hs : s.regsWf) (hquad : s.quadReady k = true) (hon : (onH || onL) = true)
    (hbound : s.bit (F.PSL_STAT.BOUND k) = true) (hen : sliceBit s k (F.PSL_CFG.LOS_EN k) = true) (hno : noBindNow s k) :
    ∃ t, exec (.los k onH onL) s = .next t ∧ t.bit (F.PSL_STAT.BOUND k) = false ∧ t.bit (F.PSL_STAT.STALE k) = true ∧
      t.bit (F.PSL_STAT.LOS_SEEN k) = true ∧ (s.sliceBusy k = true → s.sliceSite k ∈ t.pslLost) ∧ t.mem = s.mem := by
  have hwf : (s.losSeen k onH onL).regsWf := State.regsWf_losSeen hs
  obtain ⟨heq, hregs⟩ := onlyRegs_losSeen (s := s) (k := k) (onH := onH) (onL := onL)
  obtain ⟨hunbound, hstale⟩ := State.loseBinding_lost (k := k) hwf
  obtain ⟨regs, slices, err, pslLost, hloss⟩ := (s.losSeen k onH onL).loseBinding_parts k
  have hword : R.PSL_SITE k ≠ R.PSL_LOS (k.val / 32) := losWord_ne (d := 8) (by decide)
  obtain ⟨hbusy, hsame⟩ := State.sliceBusy_congr (hregs (R.PSL_SITE k) (by simp [hword])) (by rw [heq])
  refine ⟨_, exec_los_bound hs hquad hon hbound hen hno, hunbound, hstale, (State.losSeen_loseBinding hwf).trans (State.losSeen_stat hs).2.1,
    fun h => ?_, ?_⟩
  · rw [← hsame]
    exact State.sliceSite_mem_loseBinding (hbusy.trans h)
  · rw [hloss, heq]

theorem los_logs {k : Fin 256} (hs : s.regsWf) (hquad : s.quadReady k = true) (hbound : s.bit (F.PSL_STAT.BOUND k) = false) :
    ∃ t, exec (.los k true false) s = .next t ∧ t.bit (F.PSL_STAT.LOS_H k) = true ∧ t.bit (F.PSL_STAT.LOS_SEEN k) = true ∧
      logs s t C.PSL_RX_LOS (srcSlice k) (s.pslDetail k) ∧ onlyRegsLog s t [R.PSL_STAT k, R.PSL_LOS (k / 32)] := by
  obtain ⟨hhigh, hseen, -⟩ := State.losSeen_stat (k := k) (onH := true) (onL := false) hs
  have honly := onlyRegs_losSeen (s := s) (k := k) (onH := true) (onL := false)
  have herr : (s.losSeen k true false).err = s.err := by rw [honly.1]
  have htick : (s.losSeen k true false).tick = s.tick := by rw [honly.1]
  exact ⟨_, exec_los_unbound hs hquad rfl hbound, State.bit_report.trans hhigh, State.bit_report.trans hseen, logs_report herr htick srcSlice_kind (by decide), onlyRegsLog_report honly⟩

theorem losRecovery_returns {k : Fin 256} (hs : s.regsWf) :
    ∃ t, exec (.losRecovery k onH onL) s = .next t ∧ t.bit (F.PSL_STAT.LOS_H k) = (s.bit (F.PSL_STAT.LOS_H k) && !onH) ∧
      t.bit (F.PSL_STAT.LOS_L k) = (s.bit (F.PSL_STAT.LOS_L k) && !onL) ∧ t.bit (F.PSL_STAT.STALE k) = s.bit (F.PSL_STAT.STALE k) ∧
      onlyRegs s t [R.PSL_STAT k, R.PSL_LOS (k / 32)] := by
  obtain ⟨hhigh, hlow⟩ := State.setLos_live (k := k) (onH := s.bit (F.PSL_STAT.LOS_H k) && !onH) (onL := s.bit (F.PSL_STAT.LOS_L k) && !onL) hs
  exact ⟨_, rfl, hhigh, hlow, State.bit_of_fld (State.fld_setLos_stat hs rfl (by simp)), onlyRegs_setLos⟩

end

end Sys2Proof.Machine
end

section
/-! POWER OF A QUADRANT. PWR_EN, a quadrant that becomes READY, and one that does not in time (R242, R253, R254). -/

open Sys2Proof.Claims

namespace Sys2Proof.Machine

section

variable {s : State} {req : Requester} {q : Fin 4}

theorem pwrEnWrite_absent {en : Bool} (hvar : s.f128 = true) (hq : 2 ≤ q.val) : exec (.pwrEnWrite req q en) s = .next s := by
  rw [exec_pwrEnWrite, execPwrEnWrite, if_pos (by simp [hvar, hq])]

/-- The quadrants that the variant has (R2). -/
theorem quadrant_present (hvar : s.f128 = false ∨ q.val < 2) : ¬ (s.f128 && decide (2 ≤ q.val)) = true := by
  rw [Bool.and_eq_true, decide_eq_true_eq]
  rintro ⟨hf, hq⟩
  exact hvar.elim (fun h => Bool.noConfusion (hf.symm.trans h)) (by omega)

theorem pwrEnWrite_on (hs : s.regsWf) (hvar : s.f128 = false ∨ q.val < 2) (hallow : s.allows req .pwrEn = true) :
    ∃ t, exec (.pwrEnWrite req q true) s = .next t ∧ t.bit (F.PSL_QCTRL.PWR_EN q) = true ∧
      t.bit (F.PSL_QSTAT.PWR_GOOD q) = (s.pwr.switching.isNone || s.bit (F.PSL_QSTAT.PWR_GOOD q)) ∧ t.fld (F.PSL_QSTAT.STATUS q) = 0 ∧
      onlyRegs s t [R.PSL_QCTRL q, R.PSL_QSTAT q] := by
  rw [exec_pwrEnWrite, execPwrEnWrite, if_neg (quadrant_present hvar), if_neg (by simp [hallow])]
  have hapart : R.PSL_QSTAT q ≠ R.PSL_QCTRL q := by simp
  cases hsw : s.pwr.switching with
  | none =>
    refine ⟨s.setFlds [(F.PSL_QSTAT.STATUS q, 0), (F.PSL_QCTRL.PWR_EN q, 1), (F.PSL_QSTAT.PWR_GOOD q, 1)], ?_, ?_, ?_, ?_, onlyRegs_setFlds (by simp)⟩
    · dsimp only
      rw [if_pos rfl, if_neg (by simp [hsw])]
      rfl
    · exact State.bit_of_fld (State.fld_setFlds [_] _ hs (show 0 + 1 ≤ 64 by decide) (by simp [Fld.Apart]))
    · exact State.bit_of_fld (State.fld_setFlds [_, _] [] hs (show 0 + 1 ≤ 64 by decide) (by simp))
    · exact State.fld_setFlds [] _ hs (show 16 + 16 ≤ 64 by decide) (by simp [Fld.Apart])
  | some x =>
    refine ⟨s.setFlds [(F.PSL_QSTAT.STATUS q, 0), (F.PSL_QCTRL.PWR_EN q, 1)], ?_, ?_, ?_, ?_, onlyRegs_setFlds (by simp)⟩
    · dsimp only
      rw [if_pos rfl, if_pos (by simp [hsw])]
      rfl
    · exact State.bit_of_fld (State.fld_setFlds [_] [] hs (show 0 + 1 ≤ 64 by decide) (by simp))
    · exact State.bit_of_fld (State.fld_setFlds_apart hs (by simp [Fld.Apart]))
    · exact State.fld_setFlds [] _ hs (show 16 + 16 ≤ 64 by decide) (by simp [Fld.Apart])

theorem pwrEnWrite_refused (hs : s.regsWf) (hvar : s.f128 = false ∨ q.val < 2) (hbusy : ∃ i < 64, s.sliceBusy (64 * q + i) = true) :
    ∃ t, exec (.pwrEnWrite req q false) s = .next t ∧ t.fld (F.PSL_QSTAT.STATUS q) = C.STATE_REFUSED ∧
      logs s t C.STATE_REFUSED (srcRequester req) (R.PSL_QCTRL q) ∧ onlyRegsLog s t [R.PSL_QSTAT q] := by
  obtain ⟨i, hi, hbusy⟩ := hbusy
  have hany : (quadSlices q).any (fun x => (s.slice x).cal || s.sliceBusy x) = true :=
    List.any_eq_true.2 ⟨64 * q + i, List.mem_map.2 ⟨i, List.mem_range.2 hi, rfl⟩, by simp [hbusy]⟩
  rw [exec_pwrEnWrite, execPwrEnWrite, if_neg (quadrant_present hvar), if_pos (by simp [hany])]
  exact ⟨_, rfl, State.fld_setFld (F.PSL_QSTAT.STATUS q) _ hs (show 16 + 16 ≤ 64 by decide), logs_logRefused_after onlyRegs_setReg,
    onlyRegsLog_report onlyRegs_setReg⟩

/-! ### A quadrant that is switched off -/

theorem foldl_setSlice_eq {g : State → Nat → Slice} {ks : List Nat} : ∃ slices, ks.foldl (fun t k => t.setSlice k (g t k)) s = { s with slices } := by
  induction ks generalizing s with
  | nil => exact ⟨_, rfl⟩
  | cons k ks ih =>
    obtain ⟨slices, h⟩ := ih (s := s.setSlice k (g s k))
    exact ⟨slices, h.trans rfl⟩

/-- The register fields that the end of a quadrant's power clears. -/
def quadOffWrites (q : Nat) : List (Fld × Nat) :=
  [(F.PSL_QCTRL.PWR_EN q, 0), (F.PSL_QSTAT.READY q, 0), (F.PSL_QSTAT.PWR_GOOD q, 0), (⟨R.PWR_DOM_STAT, 12 + q, 1⟩, 0)]

theorem State.quadOff_eq (s : State) (q : Nat) : ∃ slices pwr, s.quadOff q = { s.setFlds (quadOffWrites q) with slices, pwr } := by
  obtain ⟨slices, h⟩ := foldl_setSlice_eq (s := s.setFlds (quadOffWrites q)) (g := fun t k => { (t.slice k).safe with cal := false, frames := [] })
    (ks := quadSlices q)
  exact ⟨slices, _, congrArg (fun u : State => { u with pwr := { u.pwr with quadUp := u.pwr.quadUp.filter (· != q) } }) h⟩

theorem State.fld_quadOff {f : Fld} {q : Nat} : (s.quadOff q).fld f = (s.setFlds (quadOffWrites q)).fld f := by
  obtain ⟨slices, pwr, h⟩ := s.quadOff_eq q
  exact State.fld_of_regs (by rw [h])

theorem State.quadOff_clears (hs : s.regsWf) :
    (s.quadOff q).bit (F.PSL_QCTRL.PWR_EN q) = false ∧ (s.quadOff q).bit (F.PSL_QSTAT.READY q) = false := by
  have hdom : 12 + q.val + 1 ≤ 64 ∧ 1 ≤ 12 + q.val ∧ 2 ≤ 12 + q.val := by omega
  exact ⟨State.bit_of_fld (State.fld_quadOff.trans (State.fld_setFlds [] _ hs (show 0 + 1 ≤ 64 by decide) (by simp [Fld.Apart, hdom]))),
    State.bit_of_fld (State.fld_quadOff.trans (State.fld_setFlds [_] _ hs (show 1 + 1 ≤ 64 by decide) (by simp [Fld.Apart, hdom])))⟩

theorem pwrEnWrite_off (hs : s.regsWf) (hvar : s.f128 = false ∨ q.val < 2) (hallow : s.allows req .pwrEn = true) (hnf : s.fld F.BIST_STAT.NF ≠ 1)
    (hidle : ∀ i < 64, (s.slice (64 * q + i)).cal = false ∧ s.sliceBusy (64 * q + i) = false) :
    ∃ t, exec (.pwrEnWrite req q false) s = .next t ∧ t.bit (F.PSL_QCTRL.PWR_EN q) = false ∧ t.bit (F.PSL_QSTAT.READY q) = false ∧
      t = { s with regs := t.regs, slices := t.slices, pwr := t.pwr } := by
  have hnone : (quadSlices q).any (fun x => (s.slice x).cal || s.sliceBusy x) = false := by
    refine List.any_eq_false.2 fun x hx => ?_
    obtain ⟨i, hi, rfl⟩ := List.mem_map.1 hx
    obtain ⟨hcal, hbusy⟩ := hidle i (List.mem_range.1 hi)
    simp [hcal, hbusy]
  obtain ⟨hen, hready⟩ := State.quadOff_clears (q := q) (State.regsWf_setFld (F.PSL_QSTAT.STATUS q) 0 hs)
  obtain ⟨slices, pwr, heq⟩ := (s.setFld (F.PSL_QSTAT.STATUS q) 0).quadOff_eq q
  rw [exec_pwrEnWrite, execPwrEnWrite, if_neg (quadrant_present hvar), if_neg (by simp [hallow, hnf, hnone])]
  refine ⟨_, congrArg Host.Outcome.next (if_neg Bool.false_ne_true), hen, hready, ?_⟩
  rw [heq, State.setFlds_eq]
  rfl

theorem quadrantTimeout_fails (hs : s.regsWf) (hen : s.bit (F.PSL_QCTRL.PWR_EN q) = true) (hready : s.bit (F.PSL_QSTAT.READY q) = false)
    (hup : q.val ∉ s.pwr.quadUp) :
    ∃ t, exec (.quadrantTimeout q) s = .next t ∧ t.bit (F.PSL_QCTRL.PWR_EN q) = false ∧ t.fld (F.PSL_QSTAT.STATUS q) = C.PWR_DOMAIN_TIMEOUT ∧
      logs s t C.PWR_DOMAIN_TIMEOUT (srcDomain (12 + q)) 0 := by
  obtain ⟨hoff, -⟩ := State.quadOff_clears (q := q) hs
  obtain ⟨slices, pwr, heq⟩ := s.quadOff_eq q
  have hwf : (s.quadOff q).regsWf := by
    rw [heq]
    exact State.regsWf_setFlds (s := s) hs
  have hkind : srcDomain (12 + q) / 2 ^ 28 ≠ 2 := by
    unfold srcDomain
    omega
  rw [exec_quadrantTimeout, execQuadrantTimeout, if_pos (by simp [hen, hready, hup])]
  refine ⟨_, rfl, ?_, ?_, logs_report ?_ ?_ hkind (by decide)⟩
  · exact State.bit_report.trans ((State.bit_of_fld (State.fld_setFld_off _ _ _ _ (by simp))).trans hoff)
  · exact State.fld_report.trans (State.fld_setFld _ _ hwf (show 16 + 16 ≤ 64 by decide))
  · rw [State.setFld_err, heq, State.setFlds_eq]
  · rw [State.setFld_tick, heq, State.setFlds_eq]

/-! ### A quadrant that is READY -/

theorem mem_insertSorted {c : Nat} {l : List Nat} : c ∈ insertSorted c l := by
  induction l with
  | nil => exact List.mem_singleton.2 rfl
  | cons x l ih =>
    unfold insertSorted
    split
    · exact List.mem_cons_self
    · split
      next h => exact List.mem_cons.2 (.inl h)
      next => exact List.mem_cons_of_mem x ih

theorem quadrantReady_readies (hs : s.regsWf) (hgood : s.bit (F.PSL_QSTAT.PWR_GOOD q) = true) (hready : s.bit (F.PSL_QSTAT.READY q) = false)
    (hlock : (s.fld F.CLK_STAT.LOCK).testBit (1 + q / 2) = true) :
    ∃ t, exec (.quadrantReady q) s = .next t ∧ t.bit (F.PSL_QSTAT.READY q) = true ∧ q.val ∈ t.pwr.quadUp ∧
      t = { s with regs := t.regs, pwr := t.pwr } ∧ regsBut s t [R.PSL_QSTAT q, R.PWR_DOM_STAT] := by
  have hbit : bitOf (s.fld F.CLK_STAT.LOCK) (pskOf q) = true := hlock
  have hdom : 12 + q.val + 1 ≤ 64 ∧ 2 ≤ 12 + q.val := by omega
  rw [exec_quadrantReady, execQuadrantReady, if_pos (by simp [hgood, hready, hbit])]
  refine ⟨_, rfl, ?_, ?_, ?_, ?_⟩
  · have hfld := State.fld_setFlds (s := { s with pwr := { s.pwr with quadUp := insertSorted q s.pwr.quadUp } })
      (f := F.PSL_QSTAT.READY q) (x := 1) [] [(⟨R.PWR_DOM_STAT, 12 + q, 1⟩, 1)] hs (show 1 + 1 ≤ 64 by decide)
      (by simp [Fld.Apart, hdom])
    exact State.bit_of_fld hfld
  · rw [State.setFlds_eq]
    exact mem_insertSorted
  · rw [State.setFlds_eq]
  · exact regsBut_setFlds (regsBut_refl (s := s)) (by simp)

end

/-- Settles O32: each clause is the lemma above of the loss or of the quadrant's event that it names. -/
theorem signalsPartnersAndQuadrants : Obligations.SignalsPartnersAndQuadrants :=
  ⟨fun _ _ _ _ => los_unbinds, fun _ _ => los_logs, fun _ _ _ _ => losRecovery_returns, fun _ _ _ => partnerDrop_unbinds,
    fun _ _ => presenceAbsent_unbinds, fun _ _ k _ _ hs _ hon he hb htick hbound hstale hnow hpartner =>
      ⟨_, rfl, partnerLoss_refuses k.isLt hs hon he hb htick hbound hstale hnow hpartner⟩,
    fun _ _ _ => partnerDrop_ignored, fun _ _ _ _ => pwrEnWrite_absent, fun _ _ _ => pwrEnWrite_on, fun _ _ _ => pwrEnWrite_off,
    fun _ _ _ hs hvar _ => pwrEnWrite_refused hs hvar, fun _ _ => quadrantReady_readies, fun _ _ => quadrantTimeout_fails⟩

end Sys2Proof.Machine
end

section
/-! FAIL PACKETS AND CREDITS. Capture sources and queues as they read after a write, a fail packet at its queue, saturation episodes, and the refills at
the end of a tick (R264 to R271, R303). -/

open Sys2Proof.Claims

namespace Sys2Proof.Machine

section

variable {s : State} {x y k : Nat} {v : Source} {q : CapQueue} {tick : Wide} {e o : Half} {p : CapPkt} {ui : Nat}

/-! ### Maps whose values are rewritten -/

/-- A key reads `f` of what it read, when `f` keeps the default where the key is unlisted. -/
theorem mget_mmap_of_keeps {α : Type} [DecidableEq α] {d : Nat → α} {f : Nat → α → α} {k : Nat} :
    ∀ {m : List (Nat × α)}, mwf d m = true → (mget d k m = d k → f k (d k) = d k) → mget d k (mmap d f m) = f k (mget d k m)
  | [], _, h => (h rfl).symm
  | (j, v) :: m, hm, h => by
    simp only [mwf, Bool.and_eq_true, decide_eq_true_eq] at hm
    obtain ⟨⟨habove, -⟩, hm⟩ := hm
    by_cases hj : j = k
    · subst hj
      by_cases hv : f j v = d j
      · simp [mmap, hv, mget, mget_of_mabove d j _ (mabove_mmap d f j m habove)]
      · simp [mmap, hv, mget]
    · have ih := mget_mmap_of_keeps (f := f) (k := k) hm (by simpa [mget, hj] using h)
      by_cases hv : f j v = d j <;> simpa [mmap, hv, mget, hj] using ih

theorem lt_of_mem_mabove {α : Type} {j k : Nat} {v : α} : ∀ {m : List (Nat × α)}, mabove k m = true → (j, v) ∈ m → k < j
  | (_, _) :: _, h, hmem => by
    simp only [mabove, Bool.and_eq_true, decide_eq_true_eq] at h
    obtain heq | hmem := List.mem_cons.1 hmem
    · cases heq
      exact h.1
    · exact lt_of_mem_mabove h.2 hmem

/-- A pair listed in a canonical map is what its key reads. -/
theorem mget_of_mem {α : Type} [DecidableEq α] {d : Nat → α} {j : Nat} {v : α} :
    ∀ {m : List (Nat × α)}, mwf d m = true → (j, v) ∈ m → mget d j m = v
  | (i, w) :: m, h, hmem => by
    simp only [mwf, Bool.and_eq_true, decide_eq_true_eq] at h
    obtain ⟨⟨habove, -⟩, hm⟩ := h
    obtain heq | hmem := List.mem_cons.1 hmem
    · cases heq
      exact if_pos rfl
    · have hlt := lt_of_mem_mabove habove hmem
      rw [mget, if_neg (by omega)]
      exact mget_of_mem hm hmem

/-- The one key whose value satisfies `b` is all that a canonical map lists with such a value. -/
theorem filter_eq_singleton {α : Type} [DecidableEq α] {d : Nat → α} {b : α → Bool} {k : Nat} (hd : ∀ j, b (d j) = false) :
    ∀ {m : List (Nat × α)}, mwf d m = true → b (mget d k m) = true → (∀ j, j ≠ k → b (mget d j m) = false) →
      m.filter (fun e => b e.2) = [(k, mget d k m)]
  | [], _, hk, _ => absurd hk (by simp [mget, hd])
  | (i, w) :: m, hm, hk, hother => by
    have hwf := hm
    simp only [mwf, Bool.and_eq_true, decide_eq_true_eq] at hm
    obtain ⟨⟨habove, -⟩, hm⟩ := hm
    by_cases hi : i = k
    · subst hi
      have hrest : m.filter (fun e => b e.2) = [] := List.filter_eq_nil_iff.2 fun e he => by
        have hlt := lt_of_mem_mabove (v := e.2) habove he
        have hread := mget_of_mem (v := e.2) hwf (List.mem_cons_of_mem _ he)
        simpa [hread] using hother e.1 (by omega)
      have hread : mget d i ((i, w) :: m) = w := if_pos rfl
      rw [hread] at hk ⊢
      rw [List.filter_cons_of_pos (by exact hk), hrest]
    · have hw : b w = false := by simpa [mget] using hother i hi
      have hread : mget d k ((i, w) :: m) = mget d k m := if_neg hi
      rw [hread] at hk ⊢
      rw [List.filter_cons_of_neg (by simp [hw])]
      refine filter_eq_singleton hd hm hk fun j hj => ?_
      by_cases hij : i = j
      · rw [mget_of_mabove d j m (hij ▸ habove), hd]
      · simpa [mget, hij] using hother j hj

/-! ### Sources and queues of the state -/

theorem State.source_setSource (h : mwf (fun _ => Source.reset) s.sources = true) : (s.setSource x v).source x = v := mget_mset_same _ x v _ h

/-- A source that is not as reset leaves it reads back, whatever the form of the map. -/
theorem State.source_setSource_of_ne (h : v ≠ Source.reset) : (s.setSource x v).source x = v := mget_mset_of_ne (d := fun _ => Source.reset) h _

theorem State.source_setSource_ne (h : y ≠ x) : (s.setSource x v).source y = s.source y := mget_mset_ne _ v h _

/-- A queue that is not as reset leaves it reads back, whatever the form of the map. -/
theorem State.queue_setQueue_of_ne (h : q ≠ CapQueue.reset) : (s.setQueue k q).queue k = q := mget_mset_of_ne (d := fun _ => CapQueue.reset) h _

/-! ### A fail packet at its queue -/

theorem State.satExitDue_of_unsaturated (h : (s.source x).saturated = false) : s.satExitDue x = false := by
  simp [State.satExitDue, h]

/-- A packet of a source with a credit is placed. -/
theorem State.handOver_places (hsat : (s.source x).saturated = false) (hcr : 0 < (s.source x).cr)
    (hst : (s.queue (s.srcQueueOf x)).st = .run ∨ (s.queue (s.srcQueueOf x)).st = .flush) :
    s.handOver x tick e o p = (s.setSource x { s.source x with cr := (s.source x).cr - 1 }).setQueue (s.srcQueueOf x)
      { s.queue (s.srcQueueOf x) with inFlight := (s.queue (s.srcQueueOf x)).inFlight ++ [p] } := by
  have hplaced : ¬ ((s.source x).saturated || (s.source x).cr = 0 ||
      !((s.queue (s.srcQueueOf x)).st == .run || (s.queue (s.srcQueueOf x)).st == .flush)) = true := by
    obtain hst | hst := hst <;> simp [hsat, hst, show (s.source x).cr ≠ 0 by omega]
  simp only [State.handOver, State.satExitDue_of_unsaturated hsat, Bool.false_eq_true, if_false]
  exact if_neg hplaced

/-- A packet of a source without credits is refused. -/
theorem State.handOver_refuses (hsat : (s.source x).saturated = false) (hcr : (s.source x).cr = 0) :
    s.handOver x tick e o p = s.refusePkt x tick (popNat 16 e.toNat + popNat 16 o.toNat) := by
  simp [State.handOver, State.satExitDue_of_unsaturated hsat, hcr]

/-! ### The first packet of a saturation episode -/

/-- The registers that tell of an episode as it begins in source `x` of queue `k` with a packet of tick `tick` (R269, R271). -/
def State.episodeMarked (s : State) (x k : Nat) (tick : Wide) : State :=
  (((s.setReg (R.FCQ_SRC_SATFIRST x) tick).setReg (R.FCQ_SRC_SATCNT x) 0).setReg (R.FCQ_SAT_SUM (x / 32))
    (s.reg (R.FCQ_SAT_SUM (x / 32)) ||| (1 <<< (x % 32)))).setFld (F.FCQ_Q_STAT.SEEN k) (s.fld (F.FCQ_Q_STAT.SEEN k) ||| 1)

/-- A refused packet of tick `tick` with `ui` failing UIs, counted in the registers of source `x` (R271). -/
def State.refusalCounted (s : State) (x : Nat) (tick : Wide) (ui : Nat) : State :=
  ((s.setReg (R.FCQ_SRC_SATLAST x) tick).addSat (F.FCQ_SRC_SATCNT.PKTS x) 1).addSat (F.FCQ_SRC_SATCNT.FAILUI x) ui

theorem State.episodeMarked_eq : s.episodeMarked x k tick = { s with regs := (s.episodeMarked x k tick).regs } := rfl

theorem State.refusalCounted_eq : s.refusalCounted x tick ui = { s with regs := (s.refusalCounted x tick ui).regs } := rfl

theorem State.err_refusalCounted : (s.refusalCounted x tick ui).err = s.err := by rw [State.refusalCounted_eq]

theorem State.queue_episodeMarked {j : Nat} : (s.episodeMarked x k tick).queue j = s.queue j := by
  simp [State.queue, State.episodeMarked]

theorem State.queue_refusalCounted {j : Nat} : (s.refusalCounted x tick ui).queue j = s.queue j := by
  simp [State.queue, State.refusalCounted]

theorem State.queue_report {j code source detail : Nat} : (s.report code source detail).queue j = s.queue j := by
  simp [State.queue, State.report]

/-- The first packet that a source is refused begins an episode. -/
theorem State.refusePkt_begins (hsat : (s.source x).saturated = false) (hst : (s.queue (s.srcQueueOf x)).st = .run) :
    s.refusePkt x tick ui =
      (((((s.episodeMarked x (s.srcQueueOf x) tick).report C.FCQ_SATURATED (srcSource x) tick.toNat).refusalCounted x tick ui).setSource x
        { s.source x with saturated := true, refusedNow := true, cause := if 256 ≤ (s.source x).acc then 2 else 1,
                          refused := (s.source x).refused + 1 })).setQueue (s.srcQueueOf x)
        { s.queue (s.srcQueueOf x) with episodes := (s.queue (s.srcQueueOf x)).episodes + 1 } := by
  unfold State.refusePkt
  extract_lets k v why s1 s2 q
  have hwhy : why = if 256 ≤ v.acc then 2 else 1 := if_neg (by simp [k, hst])
  have hs1 : s1 = (s.episodeMarked x k tick).report C.FCQ_SATURATED (srcSource x) tick.toNat := if_neg (by simp [v, hsat])
  have hs2 : s2 = ((s.episodeMarked x k tick).report C.FCQ_SATURATED (srcSource x) tick.toNat).refusalCounted x tick ui :=
    congrArg (State.refusalCounted · x tick ui) hs1
  have hq : q = s.queue k := by
    unfold q
    rw [hs2, State.queue_refusalCounted, State.queue_report, State.queue_episodeMarked]
  have hbegins : ¬ v.saturated = true := by simp [v, hsat]
  rw [if_neg hbegins, if_neg hbegins, hq, hs2, hwhy]

theorem State.regsWf_episodeMarked (hs : s.regsWf) : (s.episodeMarked x k tick).regsWf :=
  State.regsWf_setFld _ _ (State.regsWf_setReg _ _ (State.regsWf_setReg _ _ (State.regsWf_setReg _ _ hs)))

theorem State.reg_episodeMarked_satFirst (hs : s.regsWf) : (s.episodeMarked x k tick).reg (R.FCQ_SRC_SATFIRST x) = tick :=
  calc (s.episodeMarked x k tick).reg (R.FCQ_SRC_SATFIRST x)
    _ = ((s.setReg (R.FCQ_SRC_SATFIRST x) tick).setReg (R.FCQ_SRC_SATCNT x) 0).reg (R.FCQ_SRC_SATFIRST x) :=
      (State.reg_setFld_ne _ _ (show 0x301018 + 64 * x ≠ 0x304008 + 0x100 * k by omega)).trans
        (State.reg_setReg_ne _ _ (show 0x301018 + 64 * x ≠ 0x300010 + 4 * (x / 32) by omega))
    _ = tick := (State.reg_setReg_ne _ _ (by simp)).trans (State.reg_setReg _ _ hs)

theorem State.reg_episodeMarked_satCnt (hs : s.regsWf) : (s.episodeMarked x k tick).reg (R.FCQ_SRC_SATCNT x) = 0 :=
  calc (s.episodeMarked x k tick).reg (R.FCQ_SRC_SATCNT x)
    _ = ((s.setReg (R.FCQ_SRC_SATFIRST x) tick).setReg (R.FCQ_SRC_SATCNT x) 0).reg (R.FCQ_SRC_SATCNT x) :=
      (State.reg_setFld_ne _ _ (show 0x301010 + 64 * x ≠ 0x304008 + 0x100 * k by omega)).trans
        (State.reg_setReg_ne _ _ (show 0x301010 + 64 * x ≠ 0x300010 + 4 * (x / 32) by omega))
    _ = 0 := State.reg_setReg _ _ (State.regsWf_setReg _ _ hs)

theorem State.reg_refusalCounted_satFirst : (s.refusalCounted x tick ui).reg (R.FCQ_SRC_SATFIRST x) = s.reg (R.FCQ_SRC_SATFIRST x) :=
  (State.reg_setFld_ne _ _ (by simp)).trans ((State.reg_setFld_ne _ _ (by simp)).trans (State.reg_setReg_ne _ _ (by simp)))

theorem State.reg_refusalCounted_satLast (hs : s.regsWf) : (s.refusalCounted x tick ui).reg (R.FCQ_SRC_SATLAST x) = tick :=
  (State.reg_setFld_ne _ _ (by simp)).trans ((State.reg_setFld_ne _ _ (by simp)).trans (State.reg_setReg _ _ hs))

/-- The counts of an episode's first packet, which no counter is too small for. -/
theorem State.fld_refusalCounted (hs : s.regsWf) (hcnt : s.reg (R.FCQ_SRC_SATCNT x) = 0) (hui : ui < 2 ^ 32) :
    (s.refusalCounted x tick ui).fld (F.FCQ_SRC_SATCNT.PKTS x) = 1 ∧ (s.refusalCounted x tick ui).fld (F.FCQ_SRC_SATCNT.FAILUI x) = ui := by
  let last := s.setReg (R.FCQ_SRC_SATLAST x) tick
  have hlast : last.regsWf := State.regsWf_setReg _ _ hs
  have hpkt : (last.addSat (F.FCQ_SRC_SATCNT.PKTS x) 1).regsWf := State.regsWf_setFld _ _ hlast
  have hzero : last.reg (R.FCQ_SRC_SATCNT x) = 0 := (State.reg_setReg_ne _ _ (by simp)).trans hcnt
  have hpkts : last.fld (F.FCQ_SRC_SATCNT.PKTS x) = 0 := by simp [State.fld, hzero, getBits]
  have hfailui : (last.addSat (F.FCQ_SRC_SATCNT.PKTS x) 1).fld (F.FCQ_SRC_SATCNT.FAILUI x) = 0 :=
    (State.fld_setFld_ne _ _ _ hlast (show 0 + 32 ≤ 64 by decide) (.inr (.inr (by simp)))).trans (by simp [State.fld, hzero, getBits])
  constructor
  · refine (State.fld_setFld_ne _ _ _ hpkt (show 32 + 32 ≤ 64 by decide) (.inr (.inl (by simp)))).trans ?_
    rw [State.fld_addSat hlast (show 0 + 32 ≤ 64 by decide), hpkts]
    rfl
  · refine (State.fld_addSat hpkt (show 32 + 32 ≤ 64 by decide)).trans ?_
    rw [hfailui, Nat.zero_add]
    exact Nat.min_eq_left (by dsimp only; omega)

theorem popNat_le : ∀ n v : Nat, popNat n v ≤ n
  | 0, _ => le_rfl
  | n + 1, v => by
    have := popNat_le n (v / 2)
    rw [popNat]
    omega

theorem srcSource_kind (hx : x < 128) : srcSource x / 2 ^ 28 ≠ 2 := by
  unfold srcSource
  omega

/-- What the first packet that a source is refused leaves: its tick and failing UIs in the registers of the episode, one report, and the source saturated. -/
theorem State.handOver_begins (s : State) (hx : x < 128) (hs : s.regsWf) (hsat : (s.source x).saturated = false) (hcr : (s.source x).cr = 0)
    (hst : (s.queue (s.srcQueueOf x)).st = .run) :
    ∃ u, s.handOver x tick e o p = (u.setSource x
        { s.source x with saturated := true, refusedNow := true, cause := if 256 ≤ (s.source x).acc then 2 else 1,
                          refused := (s.source x).refused + 1 }).setQueue (s.srcQueueOf x)
        { s.queue (s.srcQueueOf x) with episodes := (s.queue (s.srcQueueOf x)).episodes + 1 } ∧
      u.reg (R.FCQ_SRC_SATFIRST x) = tick ∧ u.reg (R.FCQ_SRC_SATLAST x) = tick ∧ u.fld (F.FCQ_SRC_SATCNT.PKTS x) = 1 ∧
      u.fld (F.FCQ_SRC_SATCNT.FAILUI x) = popNat 16 e.toNat + popNat 16 o.toNat ∧ logs s u C.FCQ_SATURATED (srcSource x) tick.toNat ∧
      u = { s with regs := u.regs, err := u.err } := by
  have hui : popNat 16 e.toNat + popNat 16 o.toNat < 2 ^ 32 := by
    have := popNat_le 16 e.toNat
    have := popNat_le 16 o.toNat
    omega
  have hmarked := State.regsWf_episodeMarked (x := x) (k := s.srcQueueOf x) (tick := tick) hs
  have hfirst := State.reg_episodeMarked_satFirst (x := x) (k := s.srcQueueOf x) (tick := tick) hs
  have hcnt := State.reg_episodeMarked_satCnt (x := x) (k := s.srcQueueOf x) (tick := tick) hs
  have hlog : logs s ((s.episodeMarked x (s.srcQueueOf x) tick).report C.FCQ_SATURATED (srcSource x) tick.toNat) C.FCQ_SATURATED (srcSource x)
      tick.toNat := logs_report (by rw [State.episodeMarked_eq]) (by rw [State.episodeMarked_eq]) (srcSource_kind hx) (by decide)
  obtain ⟨hpkts, hfailui⟩ := State.fld_refusalCounted (s := (s.episodeMarked x (s.srcQueueOf x) tick).report C.FCQ_SATURATED (srcSource x) tick.toNat)
    (tick := tick) hmarked hcnt hui
  refine ⟨_, (State.handOver_refuses hsat hcr).trans (State.refusePkt_begins hsat hst), State.reg_refusalCounted_satFirst.trans hfirst,
    State.reg_refusalCounted_satLast hmarked, hpkts, hfailui, State.err_refusalCounted.trans hlog, ?_⟩
  rw [State.refusalCounted_eq, State.report, State.episodeMarked_eq]

end

/-! ### The commands on a packet and on an episode -/

section

variable {s : State} {tick : Wide} {e o : Half} {x : Fin 128} {src : Nat} {flags : Byte} {site ctx : Nat} {ps : List CapPkt}

theorem exec_failPacketHandover_fail (hpkt : s.xPkt x = .fail tick e o src flags site ctx :: ps) :
    exec (.failPacketHandover x) s = .next ((s.setXPkt x ps).handOver x tick e o (.fail tick e o src flags site ctx)) := by
  rw [exec_failPacketHandover, execFailPacketHandover, hpkt]

theorem failPacket_placed (hpkt : s.xPkt x = .fail tick e o src flags site ctx :: ps) (hsat : (s.source x).saturated = false)
    (hcr : 0 < (s.source x).cr) (hst : (s.queue (s.srcQueueOf x)).st = .run ∨ (s.queue (s.srcQueueOf x)).st = .flush) :
    ∃ t, exec (.failPacketHandover x) s = .next t ∧ t.xPkts = (s.setXPkt x ps).xPkts ∧
      t.sources = (s.setSource x { s.source x with cr := (s.source x).cr - 1 }).sources ∧
      t.queues = (s.setQueue (s.srcQueueOf x) { s.queue (s.srcQueueOf x) with
        inFlight := (s.queue (s.srcQueueOf x)).inFlight ++ [.fail tick e o src flags site ctx] }).queues ∧
      t = { s with xPkts := t.xPkts, sources := t.sources, queues := t.queues } := by
  have hplace := State.handOver_places (s := s.setXPkt x ps) (x := x) (tick := tick) (e := e) (o := o)
    (p := .fail tick e o src flags site ctx) hsat hcr hst
  exact ⟨_, (exec_failPacketHandover_fail hpkt).trans (congrArg _ hplace), rfl, rfl, rfl, rfl⟩

theorem failPacket_refused (hs : s.regsWf) (hpkt : s.xPkt x = .fail tick e o src flags site ctx :: ps) (hsat : (s.source x).saturated = false)
    (hcr : (s.source x).cr = 0) (hst : (s.queue (s.srcQueueOf x)).st = .run) :
    ∃ t, exec (.failPacketHandover x) s = .next t ∧ (t.source x).saturated = true ∧
      (t.source x).cause = (if 256 ≤ (s.source x).acc then 2 else 1) ∧ (t.source x).refused = (s.source x).refused + 1 ∧
      (t.queue (s.srcQueueOf x)).episodes = (s.queue (s.srcQueueOf x)).episodes + 1 ∧
      (t.queue (s.srcQueueOf x)).pkts = (s.queue (s.srcQueueOf x)).pkts ∧
      t.reg (R.FCQ_SRC_SATFIRST x) = tick ∧ t.reg (R.FCQ_SRC_SATLAST x) = tick ∧ t.fld (F.FCQ_SRC_SATCNT.PKTS x) = 1 ∧
      t.fld (F.FCQ_SRC_SATCNT.FAILUI x) = popNat 16 e.toNat + popNat 16 o.toNat ∧
      logs s t C.FCQ_SATURATED (srcSource x) tick.toNat ∧
      t = { s with regs := t.regs, err := t.err, xPkts := t.xPkts, sources := t.sources, queues := t.queues } := by
  let q : CapQueue := { s.queue (s.srcQueueOf x) with episodes := (s.queue (s.srcQueueOf x)).episodes + 1 }
  have hsource (v : Source) (hv : v.saturated = true) (u : State) : (u.setSource x v).source x = v :=
    State.source_setSource_of_ne fun h => by simp [h, Source.reset] at hv
  have hqueue (q : CapQueue) (hq : q.st = .run) (u : State) : (u.setQueue (s.srcQueueOf x) q).queue (s.srcQueueOf x) = q :=
    State.queue_setQueue_of_ne fun h => by simp [h, CapQueue.reset] at hq
  obtain ⟨u, hu, hfirst, hlast, hpkts, hfailui, hlog, hframe⟩ := (s.setXPkt x ps).handOver_begins (x := x) (tick := tick) (e := e) (o := o)
    (p := .fail tick e o src flags site ctx) x.isLt hs hsat hcr hst
  refine ⟨_, (exec_failPacketHandover_fail hpkt).trans (congrArg _ hu), congrArg _ (hsource _ rfl u), congrArg _ (hsource _ rfl u),
    congrArg _ (hsource _ rfl u), (congrArg CapQueue.episodes (hqueue q hst _)).trans rfl, (congrArg CapQueue.pkts (hqueue q hst _)).trans rfl,
    hfirst, hlast, hpkts, hfailui, hlog, ?_⟩
  rw [hframe]
  rfl

theorem saturation_ends (hsat : (s.source x).saturated = true) (hcr : s.fld (F.FCQ_SRC_CRED.SAT_EXIT x) ≤ (s.source x).cr)
    (hst : (s.queue (s.srcQueueOf x)).st ≠ .reset) :
    ∃ t, exec (.saturationExit x) s = .next t ∧ (t.source x).saturated = false ∧ (t.source x).marker = true ∧
      (t.queue (s.srcQueueOf x)).pkts = (s.queue (s.srcQueueOf x)).pkts ++ [⟨(s.queue (s.srcQueueOf x)).wptr,
        .sat (s.reg (R.FCQ_SRC_SATFIRST x)) (s.fld (F.FCQ_SRC_SATCNT.PKTS x)) x (s.source x).cause (s.rgnSite (s.xRegion x))
          (s.reg (R.FCQ_SRC_SATLAST x)) (s.fld (F.FCQ_SRC_SATCNT.FAILUI x))⟩] ∧
      (t.queue (s.srcQueueOf x)).wptr = (s.queue (s.srcQueueOf x)).wptr + 8 ∧ t = { s with sources := t.sources, queues := t.queues } := by
  have hdue : s.satExitDue x = true := by simp [State.satExitDue, hsat, hcr, hst]
  have hsource (v : Source) (hv : v.marker = true) : (s.setSource x v).source x = v :=
    State.source_setSource_of_ne fun h => by simp [h, Source.reset] at hv
  have hqueue (q : CapQueue) (hq : 0 < q.wptr) (u : State) : (u.setQueue (s.srcQueueOf x) q).queue (s.srcQueueOf x) = q :=
    State.queue_setQueue_of_ne fun h => by simp [h, CapQueue.reset] at hq
  rw [exec_saturationExit, execSaturationExit, if_pos hdue]
  exact ⟨_, rfl, congrArg _ (hsource _ rfl), congrArg _ (hsource _ rfl), congrArg _ (hqueue _ (Nat.succ_pos _) _),
    congrArg _ (hqueue _ (Nat.succ_pos _) _), rfl⟩

theorem creditRefill_commands (hlive : s.srcLive x = true) (hacc : 256 ≤ s.accNext x) :
    exec (.creditRefill x) s = .next (s.setSource x { s.source x with refill := true }) := by
  rw [exec_creditRefill, execCreditRefill, State.refill, if_neg (by simp [hlive, hacc])]

theorem creditRefill_ignored (h : s.srcLive x = false ∨ s.accNext x < 256) : exec (.creditRefill x) s = .next s := by
  rw [exec_creditRefill, execCreditRefill, State.refill, if_pos (by obtain h | h := h <;> simp [h])]

theorem saturationExit_ignored (h : (s.source x).saturated = false) : exec (.saturationExit x) s = .next s := by
  rw [exec_saturationExit, execSaturationExit, State.satExitDue_of_unsaturated h, if_neg Bool.false_ne_true]

end

/-! ### The end of the tick -/

section

variable {s : State} {x y : Nat}

/-- The accumulators of the live sources step at the end of a tick (R264). -/
def State.accsStepped (s : State) : State :=
  { s with sources := mmap (fun _ => Source.reset) (fun x v =>
    { v with refusedNow := false, acc := if s.srcLive x then s.accNext x else v.acc }) s.sources }

theorem State.stepCredits_eq : s.stepCredits = (s.sources.filter (fun e => e.2.refill)).foldl (fun t e => t.takeRefill e.1) s.accsStepped := rfl

/-- A source that no site has armed is not refilled, so what an unlisted one reads is kept. -/
theorem State.source_accsStepped (hwf : mwf (fun _ => Source.reset) s.sources = true) :
    s.accsStepped.source y = { s.source y with refusedNow := false, acc := if s.srcLive y then s.accNext y else (s.source y).acc } := by
  refine mget_mmap_of_keeps hwf fun (hreset : s.source y = Source.reset) => ?_
  have hdead : s.srcLive y = false := by simp [State.srcLive, hreset, Source.reset]
  rw [hdead]
  rfl

/-- Refills are judged by what the packets of the tick have left: neither credits nor markers change with the accumulators. -/
theorem State.freeItems_accsStepped (hwf : mwf (fun _ => Source.reset) s.sources = true) (k : Nat) : s.accsStepped.freeItems k = s.freeItems k := by
  have hmarker : (fun y => (s.accsStepped.source y).marker) = fun y => (s.source y).marker := by simp [State.source_accsStepped hwf]
  have hcr : (fun y => (s.accsStepped.source y).cr) = fun y => (s.source y).cr := by simp [State.source_accsStepped hwf]
  unfold State.freeItems
  rw [hmarker, hcr]
  rfl

theorem State.takeRefill_eq : ∃ v, s.takeRefill x = s.setSource x v := by
  unfold State.takeRefill
  extract_lets v k
  split
  · exact ⟨_, rfl⟩
  · split <;> exact ⟨_, rfl⟩

theorem State.takeRefill_discards (hcap : s.fld (F.FCQ_SRC_CRED.CAP x) ≤ (s.source x).cr) :
    s.takeRefill x = s.setSource x { s.source x with refill := false, acc := (s.source x).acc - 256 } := if_pos hcap

theorem State.takeRefill_credits (hcap : (s.source x).cr < s.fld (F.FCQ_SRC_CRED.CAP x)) (hst : (s.queue (s.srcQueueOf x)).st ≠ .reset)
    (hroom : 4 ≤ s.freeItems (s.srcQueueOf x)) :
    s.takeRefill x = s.setSource x { s.source x with refill := false, acc := (s.source x).acc - 256, cr := (s.source x).cr + 1 } :=
  (if_neg (Nat.not_le.2 hcap)).trans (if_neg (by simpa using ⟨hst, hroom⟩))

theorem State.takeRefill_waits (hcap : (s.source x).cr < s.fld (F.FCQ_SRC_CRED.CAP x))
    (hfull : (s.queue (s.srcQueueOf x)).st = .reset ∨ s.freeItems (s.srcQueueOf x) < 4) :
    s.takeRefill x = s.setSource x { s.source x with refill := false } :=
  (if_neg (Nat.not_le.2 hcap)).trans (if_pos (by simpa using hfull))

theorem source_foldl_takeRefill {l : List (Nat × Source)} (h : ∀ e ∈ l, x ≠ e.1) :
    (l.foldl (fun t e => t.takeRefill e.1) s).source x = s.source x := by
  induction l generalizing s with
  | nil => rfl
  | cons e l ih =>
    obtain ⟨hne, h⟩ := List.forall_mem_cons.1 h
    obtain ⟨v, hv⟩ := State.takeRefill_eq (s := s) (x := e.1)
    exact (ih h).trans ((congrArg (State.source · x) hv).trans (State.source_setSource_ne hne))

theorem foldl_takeRefill_eq {l : List (Nat × Source)} : ∃ sources, l.foldl (fun t e => t.takeRefill e.1) s = { s with sources } := by
  induction l generalizing s with
  | nil => exact ⟨s.sources, rfl⟩
  | cons e l ih =>
    obtain ⟨v, hv⟩ := State.takeRefill_eq (s := s) (x := e.1)
    obtain ⟨sources, hl⟩ := ih (s := s.takeRefill e.1)
    exact ⟨sources, hl.trans (by rw [hv]; rfl)⟩

theorem source_stepCredits_idle (hwf : mwf (fun _ => Source.reset) s.sources = true) (hidle : (s.source x).refill = false) :
    s.stepCredits.source x = { s.source x with refusedNow := false, acc := if s.srcLive x then s.accNext x else (s.source x).acc } := by
  rw [State.stepCredits_eq, source_foldl_takeRefill, State.source_accsStepped hwf]
  rintro ⟨y, v⟩ hmem rfl
  obtain ⟨hmem, hrefill⟩ := List.mem_filter.1 hmem
  have hread : s.source x = v := mget_of_mem hwf hmem
  rw [hread, hrefill] at hidle
  contradiction

/-- The one refill that the tick commanded is all that its end attempts. -/
theorem State.stepCredits_single (hwf : mwf (fun _ => Source.reset) s.sources = true) (hrefill : (s.source x).refill = true)
    (honly : ∀ y, y ≠ x → (s.source y).refill = false) : s.stepCredits = s.accsStepped.takeRefill x := by
  rw [State.stepCredits_eq, filter_eq_singleton (b := Source.refill) (fun _ => rfl) hwf hrefill honly]
  rfl

theorem source_stepCredits_refill (hwf : mwf (fun _ => Source.reset) s.sources = true) (hrefill : (s.source x).refill = true)
    (honly : ∀ y, y ≠ x → (s.source y).refill = false) (hlive : s.srcLive x = true) :
    (s.fld (F.FCQ_SRC_CRED.CAP x) ≤ (s.source x).cr →
      s.stepCredits.source x = { s.source x with refusedNow := false, refill := false, acc := s.accNext x - 256 }) ∧
    ((s.source x).cr < s.fld (F.FCQ_SRC_CRED.CAP x) → (s.queue (s.srcQueueOf x)).st ≠ .reset → 4 ≤ s.freeItems (s.srcQueueOf x) →
      s.stepCredits.source x = { s.source x with refusedNow := false, refill := false, acc := s.accNext x - 256, cr := (s.source x).cr + 1 }) ∧
    ((s.source x).cr < s.fld (F.FCQ_SRC_CRED.CAP x) → ((s.queue (s.srcQueueOf x)).st = .reset ∨ s.freeItems (s.srcQueueOf x) < 4) →
      s.stepCredits.source x = { s.source x with refusedNow := false, refill := false, acc := s.accNext x }) := by
  have hread := State.source_accsStepped (y := x) hwf
  have hfree := State.freeItems_accsStepped hwf (s.srcQueueOf x)
  have hwrite (v : Source) : (s.accsStepped.setSource x v).source x = v := State.source_setSource (mwf_mmap _ _ _ hwf)
  rw [if_pos hlive] at hread
  rw [State.stepCredits_single hwf hrefill honly]
  refine ⟨fun hcap => ?_, fun hcap hst hroom => ?_, fun hcap hfull => ?_⟩
  · rw [State.takeRefill_discards (by rwa [hread]), hwrite, hread]
  · rw [State.takeRefill_credits (show (s.accsStepped.source x).cr < _ by rwa [hread]) hst (hfree.symm ▸ hroom), hwrite, hread]
  · rw [State.takeRefill_waits (by rwa [hread]) (hfull.imp_right (lt_of_eq_of_lt hfree)), hwrite, hread]

theorem stepCredits_frame : s.stepCredits = { s with sources := s.stepCredits.sources } := by
  obtain ⟨sources, h⟩ := foldl_takeRefill_eq (s := s.accsStepped) (l := s.sources.filter (fun e => e.2.refill))
  rw [State.stepCredits_eq, h]
  rfl

end

/-- Settles O33: each clause is the lemma above of the packet, the refill, the episode or the end of the tick that it names. -/
theorem failPacketsCreditsAndSaturation : Obligations.FailPacketsCreditsAndSaturation :=
  ⟨fun _ _ _ _ _ _ _ _ _ _ => failPacket_placed, fun _ _ _ _ _ _ _ _ _ _ => failPacket_refused, fun _ _ => creditRefill_commands,
    fun _ _ => creditRefill_ignored, fun _ _ => saturation_ends, fun _ _ => saturationExit_ignored, fun _ _ => source_stepCredits_idle,
    fun _ _ => source_stepCredits_refill, fun _ => stepCredits_frame⟩

end Sys2Proof.Machine
end

section
/-! DRAIN AND FLUSH. What refutes the statement about the drain of a capture queue (R276, R284 to R289). -/

open Sys2Proof.Claims

namespace Sys2Proof.Machine

/-- Memory is READY, and queue 0 is listed twice: as after reset but for one record under way, and then in RUN. -/
def queueListedTwice : State :=
  { State.reset.setFlds ((F.FCQ_FR_SIZE.SIZE 0, 2) :: (List.range 8).map (fun c => (F.MEMC_STAT.STATE c, 2))) with
    queues := [(0, { CapQueue.reset with writes := [List.replicate 16 0] }), (0, { CapQueue.reset with st := .run })] }

/-- Without its record the first entry is as after reset and goes from the list, and the second is what the queue reads from then on. -/
theorem recordWriteDone_queueListedTwice : ∃ t, exec (.recordWriteDone 0 0) queueListedTwice = .next t ∧ (t.queue 0).st = .run :=
  ⟨_, rfl, by decide⟩

/-- Refutes O34 by its clause on the end of a record's memory write: unlike O33 of `s.sources` it does not ask that `s.queues` be in canonical form, and
where the queue that is left without records under way is as after reset, an entry that hides behind it comes up. -/
theorem not_drainAndFlush : ¬ Obligations.DrainAndFlush := by
  intro h
  obtain ⟨-, -, hwritten, -⟩ := h
  obtain ⟨t, e, -, hqueues, -⟩ := hwritten 0 (List.replicate 16 0) [] queueListedTwice (by decide) (by decide) (by decide) (by decide) (by decide)
    (by decide) (by decide) (by decide) (by decide) (by decide)
  obtain ⟨u, e', hrun⟩ := recordWriteDone_queueListedTwice
  cases e.symm.trans e'
  have hoff : (t.queue 0).st = .off := congrArg (fun m => (mget (fun _ => CapQueue.reset) 0 m).st) hqueues
  exact absurd (hrun.symm.trans hoff) (by decide)

end Sys2Proof.Machine
end

section
/-! SOLVER COMMANDS AND RUNS. What refutes the statements about the commands of the repair engine and about its runs (R328, R345, R384, R577). -/

open Sys2Proof.Claims

namespace Sys2Proof.Machine

/-- An SLV_CMD of the host (OP 6) was carried out, and the command that it gave the repair engine is in progress. -/
def engineServesHost : State :=
  ({ State.reset with
    slv := { SlvState.reset with cmd := some ⟨0, 1, none⟩ }
    hif := { HifState.reset with cmds := [⟨0, 6 :: List.replicate 63 0, 1, true, none, false⟩] } } : State).setFld F.SLV_CMD_STAT.BUSY 1

/-- The end of the engine's command answers the host's (R577). -/
theorem slvCmdComplete_engineServesHost :
    ∃ t, exec .slvCmdComplete engineServesHost = .next t ∧ t.hif.cmds.map (·.answer) = [some (0, 1)] :=
  ⟨_, rfl, by decide⟩

/-- Refutes O37 by its clause on the end of a command: beside SLV_CMD_STAT and SLV_CMD_DETAIL it changes the host command that waits for the outcome,
which gets its STATUS and RESULT then. -/
theorem not_solverCommands : ¬ Obligations.SolverCommands := by
  intro h
  obtain ⟨-, -, -, -, -, -, -, -, -, -, hcomplete⟩ := h
  obtain ⟨t, e, -, -, -, -, -, hframe, -⟩ := hcomplete ⟨0, 1, none⟩ engineServesHost (by decide) rfl
  obtain ⟨u, e', hanswer⟩ := slvCmdComplete_engineServesHost
  cases e.symm.trans e'
  have hopen : t.hif.cmds.map (·.answer) = [none] := by
    rw [hframe]
    rfl
  exact absurd (hanswer.symm.trans hopen) (by decide)

/-- A replay of region 7 on lane 0 that reads records of queues 0 and 1: the fail region of queue 0 lies at an address that is not mapped, that of queue 1 in
memory that is READY. -/
def replayOfTwoQueues : SlvReplay := ⟨7, none, 0, [⟨⟨0, 0, 0, 1⟩, 0, 16⟩, ⟨⟨1, 0, 0, 1⟩, 0, 16⟩], false⟩

/-- The engine with that replay in progress. -/
def replayingTwoQueues : State :=
  (State.reset.setFlds ([(F.FCQ_FR_BASE.ADDR 0, 0x5000000), (F.FCQ_FR_SIZE.SIZE 0, 2), (F.FCQ_FR_SIZE.SIZE 1, 2)] ++
    (List.range 8).map (fun c => (F.MEMC_STAT.STATE c, 2)))).setLane 0 { SlvLane.reset with replays := [replayOfTwoQueues] }

/-- Where the read of queue 1's records is corrected, it is logged as MEM_CE (R384), and the failed read of queue 0's as SLV_REPLAY_ERR. -/
theorem replayComplete_replayingTwoQueues :
    ∃ t, exec (.replayComplete 0 (BitVec.ofNat 16 C.MEM_CE)) replayingTwoQueues = .next t ∧ t.err.intake.length = 2 :=
  ⟨_, rfl, by decide⟩

/-- Refutes O38 by its clause on a replay with a read that failed: it lets the reads end in MEM_CE, and then the log takes a corrected read of another queue
in beside SLV_REPLAY_ERR. -/
theorem not_solverRuns : ¬ Obligations.SolverRuns := by
  intro h
  obtain ⟨-, -, -, -, -, hfailed, -⟩ := h
  obtain ⟨t, e, -, -, -, hlogs, -⟩ := hfailed 0 (BitVec.ofNat 16 C.MEM_CE) replayOfTwoQueues [] replayingTwoQueues (by decide) (by decide) (by decide)
  obtain ⟨u, e', htwo⟩ := replayComplete_replayingTwoQueues
  cases e.symm.trans e'
  have hone : t.err.intake.length = 1 := congrArg (fun x => x.intake.length) hlogs
  omega

end Sys2Proof.Machine
end

section
/-! THE COLLECTOR. Repair regions as they read after a write, a fail bit at the fail-line store, loss of input, and a unit that an error takes (R316 to R318,
R320, R322). -/

open Sys2Proof.Claims

namespace Sys2Proof.Machine

section

variable {s t : State} {l k g j n gr gc : Nat} {r : SlvRgn} {u : StoreUnit} {live : Bool}

/-! ### Repair regions of the state -/

/-- A region that is not as reset leaves it reads back, whatever the form of the map. -/
theorem State.srgn_setSrgn_of_ne (h : r ≠ SlvRgn.reset) : (s.setSrgn g r).srgn g = r := mget_mset_of_ne (d := fun _ => SlvRgn.reset) h _

theorem State.srgn_setSrgn_ne (h : j ≠ g) : (s.setSrgn g r).srgn j = s.srgn j := mget_mset_ne _ r h _

theorem State.srgn_of_slv (h : t.slv = s.slv) : t.srgn g = s.srgn g := by
  unfold State.srgn
  rw [h]

theorem SlvRgn.ne_reset_of_storeLoss (h : r.storeLoss = true) : r ≠ SlvRgn.reset := by
  rintro rfl
  exact absurd h (by decide)

theorem SlvRgn.ne_reset_of_spilled (h : r.spilled = true) : r ≠ SlvRgn.reset := by
  rintro rfl
  exact absurd h (by decide)

theorem SlvRgn.ne_reset_of_failBits (h : r.failBits ≠ 0) : r ≠ SlvRgn.reset := by
  rintro rfl
  exact h rfl

theorem SlvRgn.ne_reset_of_opened (h : r.st = .opened) : r ≠ SlvRgn.reset := by
  rintro rfl
  exact absurd h (by decide)

/-- Only a listed key reads anything but the default. -/
theorem mem_keys_of_mget_ne {α : Type} {d : Nat → α} {k : Nat} : ∀ {m : List (Nat × α)}, mget d k m ≠ d k → k ∈ m.map (·.1)
  | [], h => absurd rfl h
  | (i, v) :: m, h => by
    rw [List.map_cons, List.mem_cons]
    by_cases hi : i = k
    · exact .inl hi.symm
    · rw [mget, if_neg hi] at h
      exact .inr (mem_keys_of_mget_ne h)

/-! ### A list with its repeats dropped -/

theorem mem_insertSorted_iff {c x : Nat} {xs : List Nat} : x ∈ insertSorted c xs ↔ x = c ∨ x ∈ xs := by
  induction xs with
  | nil => simp [insertSorted]
  | cons y ys ih =>
    unfold insertSorted
    split
    · simp
    · split
      next h => simp [h]
      next => simp [ih, or_left_comm]

theorem pairwise_insertSorted {c : Nat} {xs : List Nat} (h : xs.Pairwise (· < ·)) : (insertSorted c xs).Pairwise (· < ·) := by
  induction xs with
  | nil => exact List.pairwise_singleton _ _
  | cons y ys ih =>
    obtain ⟨hy, hys⟩ := List.pairwise_cons.1 h
    unfold insertSorted
    split
    next hlt => exact List.pairwise_cons.2 ⟨List.forall_mem_cons.2 ⟨hlt, fun z hz => hlt.trans (hy z hz)⟩, h⟩
    next hge =>
      split
      next => exact h
      next hne =>
        refine List.pairwise_cons.2 ⟨fun z hz => ?_, ih hys⟩
        obtain rfl | hz := mem_insertSorted_iff.1 hz
        · omega
        · exact hy z hz

theorem foldl_insertSorted {xs acc : List Nat} (h : acc.Pairwise (· < ·)) :
    (xs.foldl (fun acc x => insertSorted x acc) acc).Pairwise (· < ·) ∧
      ∀ z, z ∈ xs.foldl (fun acc x => insertSorted x acc) acc ↔ z ∈ xs ∨ z ∈ acc := by
  induction xs generalizing acc with
  | nil => simpa using h
  | cons x xs ih =>
    obtain ⟨hsorted, hmem⟩ := ih (pairwise_insertSorted (c := x) h)
    refine ⟨hsorted, fun z => ?_⟩
    rw [List.foldl_cons, hmem, mem_insertSorted_iff, List.mem_cons, or_left_comm, or_assoc]

theorem length_distinct (xs : List Nat) : (distinct xs).length = xs.toFinset.card := by
  obtain ⟨hsorted, hmem⟩ := foldl_insertSorted (xs := xs) List.Pairwise.nil
  have hset : (distinct xs).toFinset = xs.toFinset := by
    ext z
    rw [List.mem_toFinset, List.mem_toFinset, distinct, hmem, or_iff_left List.not_mem_nil]
  rw [← hset]
  exact (List.toFinset_card_of_nodup (hsorted.imp Nat.ne_of_lt)).symm

theorem length_distinct_insertSorted {f : Nat → Nat} {c : Nat} {xs : List Nat} :
    (distinct ((insertSorted c xs).map f)).length ≤ (distinct (xs.map f)).length + 1 := by
  have hset : ((insertSorted c xs).map f).toFinset = insert (f c) (xs.map f).toFinset := by
    ext z
    simp [mem_insertSorted_iff, eq_comm]
  rw [length_distinct, length_distinct, hset]
  exact Finset.card_insert_le _ _

/-- A stored cell takes at most the units of its row group and of its column group (R318). -/
theorem SlvRgn.units_insertSorted {c : Nat} : { r with cells := insertSorted c r.cells }.units ≤ r.units + 2 := by
  have hrows := length_distinct_insertSorted (f := cellR) (c := c) (xs := r.cells)
  have hcols := length_distinct_insertSorted (f := cellC) (c := c) (xs := r.cells)
  unfold SlvRgn.units
  dsimp only
  omega

/-! ### Units of the store -/

theorem sum_mset {α : Type} [DecidableEq α] {d : Nat → α} {w : α → Nat} {k : Nat} {v : α} (hv : v ≠ d k) :
    ∀ {m : List (Nat × α)}, mwf d m = true → mget d k m ≠ d k → w v = w (mget d k m) →
      ((mset d k v m).map (fun e => w e.2)).sum = (m.map (fun e => w e.2)).sum
  | [], _, hne, _ => absurd rfl hne
  | (i, x) :: m, hwf, hne, hw => by
    simp only [mwf, Bool.and_eq_true] at hwf
    obtain ⟨⟨habove, -⟩, hwf⟩ := hwf
    unfold mset
    rw [if_neg hv, if_neg hv]
    split
    next hi =>
      rw [mget, if_pos hi] at hw
      rw [List.map_cons, List.map_cons, hw]
    next hi =>
      rw [mget, if_neg hi] at hw hne
      split
      next hlt => exact absurd (mget_of_mabove d k m (mabove_trans (Nat.le_of_lt hlt) m habove)) hne
      next => rw [List.map_cons, List.map_cons, List.sum_cons, List.sum_cons, sum_mset hv hwf hne hw]

/-- A region that is written with as many units as it had, in the place where it had them, leaves the units on the die as they are. -/
theorem State.storeUnits_setSrgn (hwf : mwf (fun _ => SlvRgn.reset) s.slv.rgns = true) (hold : s.srgn g ≠ SlvRgn.reset) (hnew : r ≠ SlvRgn.reset)
    (hunits : r.units = (s.srgn g).units) (hplace : r.spilled = (s.srgn g).spilled) : (s.setSrgn g r).storeUnits = s.storeUnits :=
  sum_mset (d := fun _ => SlvRgn.reset) (w := fun x => if x.spilled then 0 else x.units) hnew hwf hold
    (show (if r.spilled then 0 else r.units) = if (s.srgn g).spilled then 0 else (s.srgn g).units by rw [hunits, hplace])

/-! ### Room in the store -/

theorem State.spillWrite_eq (s : State) (l : Nat) : ∃ mem hmem noc free, s.spillWrite l = { s with mem, hmem, noc, free } := by
  unfold State.spillWrite
  dsimp only
  split
  · exact ⟨_, _, _, _, rfl⟩
  · obtain ⟨mem, hmem, noc, h⟩ := s.unitWrite_eq (solverNi l) (s.fld F.SLV_SPILL_BASE.ADDR * 4096) (s.openBytes 0x50000 (16 * s.spillUnits))
    rw [h]
    exact ⟨_, _, _, _, rfl⟩

theorem State.slv_spillWrite : (s.spillWrite l).slv = s.slv := by
  obtain ⟨_, _, _, _, h⟩ := s.spillWrite_eq l
  rw [h]

theorem State.regs_spillWrite : (s.spillWrite l).regs = s.regs := by
  obtain ⟨_, _, _, _, h⟩ := s.spillWrite_eq l
  rw [h]

/-- Making room changes of a region no more than whether it is in the spill area, and no register. -/
theorem State.slvRoom_keeps (j : Nat) : ∀ (rounds : Nat) (s : State),
    (State.slvRoom l g n rounds s).1.regs = s.regs ∧ ∃ b, (State.slvRoom l g n rounds s).1.srgn j = { s.srgn j with spilled := b }
  | 0, s => ⟨rfl, _, rfl⟩
  | rounds + 1, s => by
    unfold State.slvRoom
    split
    · exact ⟨rfl, _, rfl⟩
    split
    · exact ⟨rfl, _, rfl⟩
    dsimp only
    generalize (s.spillVictim l).getD g = v
    split
    · obtain ⟨hregs, b, hb⟩ := slvRoom_keeps j rounds ((s.setSrgn v { s.srgn v with spilled := true }).spillWrite l)
      refine ⟨hregs.trans State.regs_spillWrite, b, ?_⟩
      rw [hb, State.srgn_of_slv State.slv_spillWrite]
      by_cases hj : j = v
      · rw [hj, State.srgn_setSrgn_of_ne (SlvRgn.ne_reset_of_spilled rfl)]
      · rw [State.srgn_setSrgn_ne hj]
    · exact ⟨rfl, _, rfl⟩

theorem State.slvRoom_fits {rounds : Nat} (hdie : (s.srgn g).spilled = false) (hfit : s.storeUnits + n ≤ 1048576) :
    State.slvRoom l g n (rounds + 1) s = (s, true) := by
  rw [State.slvRoom, if_neg (by simp [hdie]), if_pos hfit]

/-! ### A fail bit at the store -/

/-- Region `r` with one more fail bit counted. -/
def SlvRgn.failCounted (r : SlvRgn) : SlvRgn := { r with failBits := satAt 0xFFFFFFFF (r.failBits + 1) }

theorem SlvRgn.failBits_failCounted : r.failCounted.failBits = min (r.failBits + 1) 0xFFFFFFFF := by
  unfold SlvRgn.failCounted satAt
  dsimp only
  split <;> omega

theorem SlvRgn.failCounted_ne_reset : r.failCounted ≠ SlvRgn.reset :=
  SlvRgn.ne_reset_of_failBits (by rw [SlvRgn.failBits_failCounted]; omega)

theorem SlvRgn.failBits_earlyMust : (r.earlyMust gr gc).failBits = r.failBits := by
  unfold SlvRgn.earlyMust
  dsimp only
  repeat' split
  all_goals rfl

/-- What apply() makes of a region that it stores the cell in: the cell put in, and the early must-repair. -/
def SlvRgn.stored (r : SlvRgn) (gr gc : Nat) : SlvRgn :=
  SlvRgn.earlyMust { r.failCounted with cells := insertSorted (gr * 65536 + gc) r.cells } gr gc

/-- Whether apply() has nothing to store for group (gr, gc): the search is over, a must line covers it, or the cell stands there. -/
def SlvRgn.covers (r : SlvRgn) (gr gc : Nat) : Bool :=
  r.early || r.mustRows.contains gr || r.mustCols.contains gc || r.cells.contains (gr * 65536 + gc)

/-- The state with the fail bit counted, in the lane's counter for a live packet and in the region. -/
def State.failCounted (s : State) (l g : Nat) (live : Bool) : State :=
  (if live then s.addSat (F.SLV_LANE_APPLIED.BITS l) 1 else s).setSrgn g (s.srgn g).failCounted

/-- The state with room made for what the region is to hold, and whether there is room. -/
def State.roomMade (s : State) (l g gr gc : Nat) (live : Bool) : State × Bool :=
  if ((s.srgn g).stored gr gc).units ≤ (s.srgn g).failCounted.units then (s.failCounted l g live, true)
  else State.slvRoom l g (((s.srgn g).stored gr gc).units - (s.srgn g).failCounted.units) 4 (s.failCounted l g live)

theorem State.srgn_failCounted : (s.failCounted l g live).srgn g = (s.srgn g).failCounted :=
  State.srgn_setSrgn_of_ne SlvRgn.failCounted_ne_reset

theorem State.slvApply_covered (h : (s.srgn g).covers gr gc = true) : s.slvApply l g gr gc live = s.failCounted l g live := by
  cases live <;> exact if_pos h

/-- Region `r` with a cell lost for want of room. -/
def SlvRgn.cellLost (r : SlvRgn) : SlvRgn := { r with storeLoss := true, dropped := satAt 0xFFFFFFFF (r.dropped + 1), fullLog := true }

/-- What apply() does where the store has no room: the cell is lost, counted, and logged once for each run (R321). -/
def State.cellLost (s : State) (l g : Nat) (live : Bool) : State :=
  let s3 := (s.setSrgn g (s.srgn g).cellLost).setFld F.SLV_STAT.FULL_SEEN 1
  let s4 := if live then s3.addSat (F.SLV_LANE_DROP_STORE.COUNT l) 1 else s3
  if (s.srgn g).fullLog then s4 else s4.report C.SLV_STORE_FULL (srcSolver l g) 0

theorem State.srgn_cellLost : (s.cellLost l g live).srgn g = (s.srgn g).cellLost := by
  have hslv : (s.cellLost l g live).slv = (s.setSrgn g (s.srgn g).cellLost).slv := by
    unfold State.cellLost
    cases live <;> dsimp only <;> split <;> rfl
  exact (State.srgn_of_slv hslv).trans (State.srgn_setSrgn_of_ne (SlvRgn.ne_reset_of_storeLoss rfl))

theorem State.regs_cellLost : regsBut s (s.cellLost l g live) [R.SLV_STAT, R.SLV_LANE_DROP_STORE l] := by
  unfold State.cellLost
  extract_lets s3 s4
  have h3 : regsBut s s3 [R.SLV_STAT, R.SLV_LANE_DROP_STORE l] := regsBut_setFld (t := s.setSrgn g _) regsBut_refl (by simp)
  have h4 : regsBut s s4 [R.SLV_STAT, R.SLV_LANE_DROP_STORE l] := by
    cases live with
    | true => exact regsBut_addSat h3 (by simp)
    | false => exact h3
  split
  · exact h4
  · exact regsBut_report h4

/-- What apply() does with the region that it is to store in, once room was looked for: `p` is the state then, and whether there is room. -/
def State.cellPlaced (l g : Nat) (after : SlvRgn) (live : Bool) (p : State × Bool) : State :=
  let r2 := p.1.srgn g
  if p.2 then
    let s3 := p.1.setSrgn g { after with spilled := r2.spilled }
    if r2.spilled then s3.spillWrite l else s3
  else p.1.cellLost l g live

theorem State.slvApply_uncovered (h : (s.srgn g).covers gr gc = false) :
    s.slvApply l g gr gc live = State.cellPlaced l g ((s.srgn g).stored gr gc) live (s.roomMade l g gr gc live) := by
  have hneg : ¬ (s.srgn g).covers gr gc = true := by rw [h]; exact Bool.false_ne_true
  cases live <;> exact if_neg hneg

theorem SlvRgn.failBits_stored : (r.stored gr gc).failBits = r.failCounted.failBits := SlvRgn.failBits_earlyMust

theorem SlvRgn.failBits_stored_ne : (r.stored gr gc).failBits ≠ 0 := by
  rw [SlvRgn.failBits_stored, SlvRgn.failBits_failCounted]
  omega

/-- Making room changes of the region no more than whether it is in the spill area, and no register. -/
theorem State.roomMade_keeps : (s.roomMade l g gr gc live).1.regs = (s.failCounted l g live).regs ∧
    ∃ b, (s.roomMade l g gr gc live).1.srgn g = { (s.srgn g).failCounted with spilled := b } := by
  unfold State.roomMade
  split
  · exact ⟨rfl, _, State.srgn_failCounted⟩
  · obtain ⟨hregs, b, hb⟩ := State.slvRoom_keeps (l := l) (g := g)
      (n := ((s.srgn g).stored gr gc).units - (s.srgn g).failCounted.units) g 4 (s.failCounted l g live)
    exact ⟨hregs, b, hb.trans (by rw [State.srgn_failCounted])⟩

theorem State.srgn_cellPlaced_fits {p : State × Bool} {after : SlvRgn} (hroom : p.2 = true) (hafter : after.failBits ≠ 0) :
    (State.cellPlaced l g after live p).srgn g = { after with spilled := (p.1.srgn g).spilled } := by
  have hne : { after with spilled := (p.1.srgn g).spilled } ≠ SlvRgn.reset := SlvRgn.ne_reset_of_failBits hafter
  unfold State.cellPlaced
  dsimp only
  rw [if_pos hroom]
  split
  · exact (State.srgn_of_slv State.slv_spillWrite).trans (State.srgn_setSrgn_of_ne hne)
  · exact State.srgn_setSrgn_of_ne hne

theorem State.srgn_cellPlaced_full {p : State × Bool} {after : SlvRgn} (hroom : p.2 = false) :
    (State.cellPlaced l g after live p).srgn g = (p.1.srgn g).cellLost := by
  unfold State.cellPlaced
  rw [if_neg (by simp [hroom]), State.srgn_cellLost]

theorem State.regs_cellPlaced {p : State × Bool} {after : SlvRgn} :
    regsBut p.1 (State.cellPlaced l g after live p) [R.SLV_STAT, R.SLV_LANE_DROP_STORE l] := by
  unfold State.cellPlaced
  dsimp only
  split
  · split
    · exact fun o _ => congrArg (mget resetVal o) State.regs_spillWrite
    · exact regsBut_refl
  · exact State.regs_cellLost

/-- apply() counts the fail bit of the region once, whatever it does with the cell (R318). -/
theorem State.failBits_slvApply : ((s.slvApply l g gr gc live).srgn g).failBits = min ((s.srgn g).failBits + 1) 0xFFFFFFFF := by
  rw [← SlvRgn.failBits_failCounted]
  cases hc : (s.srgn g).covers gr gc with
  | true => rw [State.slvApply_covered hc, State.srgn_failCounted]
  | false =>
    rw [State.slvApply_uncovered hc]
    cases hroom : (s.roomMade l g gr gc live).2 with
    | true =>
      rw [State.srgn_cellPlaced_fits hroom SlvRgn.failBits_stored_ne]
      exact SlvRgn.failBits_stored
    | false =>
      obtain ⟨-, b, hb⟩ := s.roomMade_keeps (l := l) (g := g) (gr := gr) (gc := gc) (live := live)
      rw [State.srgn_cellPlaced_full hroom, hb]
      rfl

/-- Beside the count of applied bits apply() writes SLV_STAT and the lane's count of bits that the store had no room for. -/
theorem State.regs_slvApply : regsBut (s.failCounted l g live) (s.slvApply l g gr gc live) [R.SLV_STAT, R.SLV_LANE_DROP_STORE l] := by
  cases hc : (s.srgn g).covers gr gc with
  | true =>
    rw [State.slvApply_covered hc]
    exact regsBut_refl
  | false =>
    rw [State.slvApply_uncovered hc]
    intro o ho
    obtain ⟨hregs, -⟩ := s.roomMade_keeps (l := l) (g := g) (gr := gr) (gc := gc) (live := live)
    exact (State.regs_cellPlaced o ho).trans (congrArg (mget resetVal o) hregs)

theorem State.applied_slvApply {l : Fin 16} (hs : s.regsWf) : (s.slvApply l g gr gc true).fld (F.SLV_LANE_APPLIED.BITS l) =
    min (s.fld (F.SLV_LANE_APPLIED.BITS l) + 1) (2 ^ (F.SLV_LANE_APPLIED.BITS l).w - 1) := by
  have hoff : ∀ l : Fin 16, R.SLV_LANE_APPLIED l ∉ [R.SLV_STAT, R.SLV_LANE_DROP_STORE l] := by decide
  exact (State.fld_of_regsBut State.regs_slvApply (hoff l)).trans (State.fld_addSat hs (show 0 + 64 ≤ 64 by decide))

/-- Where block spares are available nothing is repaired early: the cell is put in, and no more. -/
theorem SlvRgn.stored_of_nbAvail (h : r.desc.nbAvail ≠ 0) :
    r.stored gr gc = { r.failCounted with cells := insertSorted (gr * 65536 + gc) r.cells } := if_pos h

/-- A cell of a region on the die that has room for two units stands in the store after apply() (R318). -/
theorem State.cell_mem_slvApply (hearly : (s.srgn g).early = false) (hrows : (s.srgn g).mustRows = []) (hcols : (s.srgn g).mustCols = [])
    (hdie : (s.srgn g).spilled = false) (hblocks : (s.srgn g).desc.nbAvail ≠ 0) (hopen : (s.srgn g).st = .opened)
    (hwf : mwf (fun _ => SlvRgn.reset) s.slv.rgns = true) (hfit : s.storeUnits + 2 ≤ 1048576) :
    gr * 65536 + gc ∈ ((s.slvApply l g gr gc live).srgn g).cells := by
  cases hc : (s.srgn g).covers gr gc with
  | true =>
    rw [State.slvApply_covered hc, State.srgn_failCounted]
    simpa [SlvRgn.covers, SlvRgn.failCounted, hearly, hrows, hcols] using hc
  | false =>
    have hstored := SlvRgn.stored_of_nbAvail (gr := gr) (gc := gc) hblocks
    have hunits : ((s.srgn g).stored gr gc).units ≤ (s.srgn g).failCounted.units + 2 := by
      rw [hstored]
      exact SlvRgn.units_insertSorted
    have hsame : (s.failCounted l g live).storeUnits = s.storeUnits := by
      cases live <;> exact State.storeUnits_setSrgn hwf (SlvRgn.ne_reset_of_opened hopen) SlvRgn.failCounted_ne_reset rfl rfl
    have hroom : s.roomMade l g gr gc live = (s.failCounted l g live, true) := by
      unfold State.roomMade
      split
      · rfl
      · exact State.slvRoom_fits (by rw [State.srgn_failCounted]; exact hdie) (by rw [hsame]; omega)
    rw [State.slvApply_uncovered hc, hroom, State.srgn_cellPlaced_fits rfl SlvRgn.failBits_stored_ne, hstored]
    exact mem_insertSorted

/-! ### A packet at the tap -/

variable {tick : Wide} {src site ctx : Nat} {fwE fwO : Half} {f : Byte} {e : TapEntry} {m : LaneMap} {p : CapPkt}

/-- Passing a packet at a tap changes capture queues and sources only. -/
theorem State.tapAdvance_eq (s : State) (k : Nat) (p : CapPkt) : ∃ queues sources, s.tapAdvance k p = { s with queues, sources } := by
  unfold State.tapAdvance State.freeRead
  refine List.foldlRecOn (motive := fun t => ∃ queues sources, t = { s with queues, sources }) _ _ ?_ ?_
  · exact ⟨_, _, rfl⟩
  rintro _ ⟨queues, sources, rfl⟩ x -
  split
  · exact ⟨_, _, rfl⟩
  · exact ⟨_, _, rfl⟩

theorem State.slv_tapAdvance : (s.tapAdvance k p).slv = s.slv := by
  obtain ⟨_, _, h⟩ := s.tapAdvance_eq k p
  rw [h]

theorem State.regs_tapAdvance : (s.tapAdvance k p).regs = s.regs := by
  obtain ⟨_, _, h⟩ := s.tapAdvance_eq k p
  rw [h]

theorem State.mem_tapAdvance : (s.tapAdvance k p).mem = s.mem := by
  obtain ⟨_, _, h⟩ := s.tapAdvance_eq k p
  rw [h]

theorem exec_collectPacket_fail {l : Fin 16} {k : Fin 64} (h : s.tapPacket l k = some (.fail tick fwE fwO src f site ctx, e, m)) :
    exec (.collectPacket l k) s =
      .next ((s.collectFail l none m e tick.toNat src fwE fwO f).tapAdvance k (.fail tick fwE fwO src f site ctx)) := by
  rw [exec_collectPacket, execCollectPacket, h]

/-- A packet whose flags name the even side, neither stale nor slipped, is collected for that side alone. -/
theorem State.collectFail_even {now : Nat} (heven : f.getLsbD 0 = true) (hodd : f.getLsbD 1 = false) (hstale : f.getLsbD 2 = false)
    (hslip : f.getLsbD 4 = false) : s.collectFail l none m e now src fwE fwO f = s.collectSide l none m e now src 0 fwE false := by
  unfold State.collectFail
  rw [if_neg (by rw [hodd]; exact Bool.false_ne_true), if_pos heven, hstale, hslip]
  rfl

theorem onesFrom_oneHot : ∀ j : Fin 16, onesFrom 16 0 (1 <<< j.val : Half).toNat = [j.val] := by decide

theorem oneHot_ne_zero : ∀ j : Fin 16, (1 <<< j.val : Half) ≠ 0 := by decide

/-- What the collector makes of one fail bit that the lane's map takes to row `row` and column `col` of region `rg` (R316). -/
def State.collectBit (s : State) (l rg row col : Nat) : State :=
  if !s.collects l none rg then s.dropBits none (F.SLV_LANE_DROP_RGN.COUNT l) 1
  else
    let d := (s.srgn rg).desc
    if d.rowsM1 < row ∨ d.colsM1 < col then s.dropBits none (F.SLV_LANE_DROP_RANGE.COUNT l) 1
    else s.slvApply l rg (row / 2 ^ d.rgs) (col / 2 ^ d.cgs) true

theorem State.collectSide_single {now side i : Nat} {j : Fin 16} {p : MapPin} {g : MapSeg} (hpin : m.pin src side = some p) (hbegun : e.t0 ≤ now)
    (hseg : m.seg ((now - e.t0) / e.rep) = some g) (hi : i = (now - e.t0) / e.rep - g.fStart) :
    s.collectSide l none m e now src side (1 <<< j.val) false = s.collectBit l (g.rgnBase + p.rgnOfs) ((g.row0 + i / g.fpr * g.rstep) % 65536)
      ((g.col0 + i % g.fpr * g.cstep + p.colOfs + j.val * p.uiCstep) % 16384) := by
  subst hi
  unfold State.collectSide
  dsimp only
  rw [if_neg (oneHot_ne_zero j), if_neg (by simp), hpin]
  dsimp only
  rw [if_neg (by omega), hseg]
  dsimp only
  rw [onesFrom_oneHot]
  rfl

theorem State.collectBit_applied {rg row col : Nat} (hrg : rg ≤ 4095) (hopen : (s.srgn rg).st = .opened) (hlane : (s.srgn rg).desc.lane = l)
    (hrow : row ≤ (s.srgn rg).desc.rowsM1) (hcol : col ≤ (s.srgn rg).desc.colsM1) :
    s.collectBit l rg row col = s.slvApply l rg (row / 2 ^ (s.srgn rg).desc.rgs) (col / 2 ^ (s.srgn rg).desc.cgs) true := by
  have hcollects : s.collects l none rg = true := by simp [State.collects, hrg, hopen, hlane]
  unfold State.collectBit
  dsimp only
  rw [if_neg (by simp [hcollects]), if_neg (by omega)]

theorem State.collectBit_dropped {rg row col : Nat} (hclosed : (s.srgn rg).st ≠ .opened) :
    s.collectBit l rg row col = s.addSat (F.SLV_LANE_DROP_RGN.COUNT l) 1 := by
  have hcollects : s.collects l none rg = false := by simp [State.collects, hclosed]
  exact if_pos (by simp [hcollects])

theorem State.collectSide_unmapped {now side : Nat} {w : Half} (hw : w ≠ 0) (hpin : m.pin src side = none) :
    s.collectSide l none m e now src side w false = s.addSat (F.SLV_LANE_DROP_MAP.COUNT l) (popNat 16 w.toNat) := by
  unfold State.collectSide
  dsimp only
  rw [if_neg hw, if_neg (by simp), hpin]
  rfl

/-! ### Markers -/

/-- Region `r` with loss of input, logged in this run. -/
def SlvRgn.inputLost (r : SlvRgn) : SlvRgn := { r with inputLoss := true, lossLog := true }

theorem SlvRgn.inputLost_ne_reset : r.inputLost ≠ SlvRgn.reset := fun h => Bool.false_ne_true (congrArg SlvRgn.inputLoss h).symm

theorem State.markLoss_eq (s : State) (l g : Nat) : ∃ err, s.markLoss l g = { s.setSrgn g (s.srgn g).inputLost with err } := by
  unfold State.markLoss
  dsimp only
  split
  · exact ⟨_, rfl⟩
  · exact ⟨_, rfl⟩

theorem State.srgn_markLoss : (s.markLoss l g).srgn g = (s.srgn g).inputLost := by
  obtain ⟨err, h⟩ := s.markLoss_eq l g
  rw [h]
  exact State.srgn_setSrgn_of_ne SlvRgn.inputLost_ne_reset

theorem State.srgn_markLoss_ne (hj : j ≠ g) : (s.markLoss l g).srgn j = s.srgn j := by
  obtain ⟨err, h⟩ := s.markLoss_eq l g
  rw [h]
  exact State.srgn_setSrgn_ne hj

theorem State.srgn_markLoss_ite_ne {c : Prop} [Decidable c] (hj : j ≠ g) : (if c then s.markLoss l g else s).srgn j = s.srgn j := by
  split
  · exact State.srgn_markLoss_ne hj
  · rfl

/-- Loss of input marked on those of the regions `gs` that lane `l` collects for (R317). -/
def State.markLosses (s : State) (l : Nat) (gs : List Nat) : State :=
  gs.foldl (fun u g => if u.collects l none g then u.markLoss l g else u) s

theorem State.markLosses_eq (s : State) (l : Nat) (gs : List Nat) : ∃ err slv, s.markLosses l gs = { s with err, slv } := by
  unfold State.markLosses
  refine List.foldlRecOn (motive := fun t => ∃ err slv, t = { s with err, slv }) _ _ ?_ ?_
  · exact ⟨_, _, rfl⟩
  rintro _ ⟨err, slv, rfl⟩ g -
  split
  · obtain ⟨err', h⟩ := State.markLoss_eq { s with err, slv } l g
    rw [h]
    exact ⟨_, _, rfl⟩
  · exact ⟨_, _, rfl⟩

theorem State.srgn_markLosses_of_notMem {gs : List Nat} (hg : g ∉ gs) : (s.markLosses l gs).srgn g = s.srgn g := by
  induction gs generalizing s with
  | nil => rfl
  | cons x gs ih =>
    obtain ⟨hx, hgs⟩ := List.ne_and_not_mem_of_not_mem_cons hg
    exact (ih hgs).trans (State.srgn_markLoss_ite_ne hx)

/-- A region that is open on the lane and named once or more loses input. -/
theorem State.srgn_markLosses {gs : List Nat} (hg : g ∈ gs) (hbound : g ≤ 4095) (hopen : (s.srgn g).st = .opened)
    (hlane : (s.srgn g).desc.lane = l) : (s.markLosses l gs).srgn g = (s.srgn g).inputLost := by
  induction gs generalizing s with
  | nil => exact absurd hg List.not_mem_nil
  | cons x gs ih =>
    by_cases hx : g = x
    · subst hx
      have hcollects : s.collects l none g = true := by simp [State.collects, hbound, hopen, hlane]
      have hstep : s.markLosses l (g :: gs) = (s.markLoss l g).markLosses l gs := by
        unfold State.markLosses
        rw [List.foldl_cons, if_pos hcollects]
      rw [hstep]
      by_cases hgs : g ∈ gs
      · rw [ih hgs (by rw [State.srgn_markLoss]; exact hopen) (by rw [State.srgn_markLoss]; exact hlane), State.srgn_markLoss]
        rfl
      · rw [State.srgn_markLosses_of_notMem hgs, State.srgn_markLoss]
    · have hkept : (if s.collects l none x then s.markLoss l x else s).srgn g = s.srgn g := State.srgn_markLoss_ite_ne hx
      refine (ih (List.mem_of_ne_of_mem hx hg) (by rw [hkept]; exact hopen) (by rw [hkept]; exact hlane)).trans ?_
      rw [hkept]

theorem exec_collectMarker_sat {l : Fin 16} {k : Fin 64} {t1 t2 : Wide} {n src cause site ui : Nat}
    (h : s.tapPacket l k = some (.sat t1 n src cause site t2 ui, e, m)) : exec (.collectMarker l k) s =
      .next ((s.markLosses l (m.lossRegions e src t1.toNat t2.toNat)).tapAdvance k (.sat t1 n src cause site t2 ui)) := by
  rw [exec_collectMarker, execCollectMarker, h]
  rfl

theorem exec_collectMarker_reset {l : Fin 16} {k : Fin 64} {tk : Wide} {n site : Nat} (h : s.tapPacket l k = some (.reset tk n site, e, m)) :
    exec (.collectMarker l k) s = .next ((s.markLosses l (s.slv.rgns.map (·.1))).tapAdvance k (.reset tk n site)) := by
  rw [exec_collectMarker, execCollectMarker, h]
  rfl

/-! ### Units that an error takes -/

theorem SlvRgn.holds_discard : (r.discard u).holds u = false := by
  cases u <;> simp [SlvRgn.discard, SlvRgn.holds]

theorem srcSolver_kind (l g : Nat) : srcSolver l g / 2 ^ 28 ≠ 2 := by
  unfold srcSolver
  omega

theorem exec_slvStoreEcc_held {g : Fin 4096} (hdie : (s.srgn g).spilled = false) (hheld : (s.srgn g).holds u = true) :
    exec (.slvStoreEcc g u) s = .next (((s.setSrgn g { (s.srgn g).discard u with storeLoss := true }).setFld F.SLV_STAT.ECC_SEEN 1).report
      C.SLV_STORE_ECC (srcSolver (s.srgn g).desc.lane g) 0) := by
  rw [exec_slvStoreEcc, execSlvStoreEcc, if_neg (by simp [hdie, hheld])]

end

/-! ### The clauses -/

section

variable {s : State} {l : Fin 16} {k : Fin 64} {tick : Wide} {src site ctx : Nat} {f : Byte} {e : TapEntry} {m : LaneMap}

/-- A packet with one fail bit of the even side, which the lane's map takes to row `row` and column `col` of region `rg`. -/
theorem collectPacket_bit {j : Fin 16} {p : MapPin} {g : MapSeg} {i row col rg : Nat}
    (hpkt : s.tapPacket l k = some (.fail tick (1 <<< j.val) 0 src f site ctx, e, m)) (heven : f.getLsbD 0 = true) (hodd : f.getLsbD 1 = false)
    (hstale : f.getLsbD 2 = false) (hslip : f.getLsbD 4 = false) (hpin : m.pin src 0 = some p) (hbegun : e.t0 ≤ tick.toNat)
    (hseg : m.seg ((tick.toNat - e.t0) / e.rep) = some g) (hi : i = (tick.toNat - e.t0) / e.rep - g.fStart)
    (hrow : row = (g.row0 + i / g.fpr * g.rstep) % 65536) (hcol : col = (g.col0 + i % g.fpr * g.cstep + p.colOfs + j.val * p.uiCstep) % 16384)
    (hrg : rg = g.rgnBase + p.rgnOfs) : exec (.collectPacket l k) s =
      .next ((s.collectBit l rg row col).tapAdvance k (.fail tick (1 <<< j.val) 0 src f site ctx)) := by
  rw [exec_collectPacket_fail hpkt, State.collectFail_even heven hodd hstale hslip, State.collectSide_single hpin hbegun hseg hi, hrow, hcol, hrg]

/-- The bit is applied to an open region of the lane that has the row and the column. -/
theorem collectBit_counts {rg row col : Nat} {p : CapPkt} (hs : s.regsWf) (hrg : rg ≤ 4095) (hopen : (s.srgn rg).st = .opened)
    (hlane : (s.srgn rg).desc.lane = l.val) (hrow : row ≤ (s.srgn rg).desc.rowsM1) (hcol : col ≤ (s.srgn rg).desc.colsM1) :
    let t := (s.collectBit l rg row col).tapAdvance k p
    (t.srgn rg).failBits = min ((s.srgn rg).failBits + 1) 0xFFFFFFFF ∧
      t.fld (F.SLV_LANE_APPLIED.BITS l) = min (s.fld (F.SLV_LANE_APPLIED.BITS l) + 1) (2 ^ (F.SLV_LANE_APPLIED.BITS l).w - 1) ∧
      ((s.srgn rg).early = false → (s.srgn rg).mustRows = [] → (s.srgn rg).mustCols = [] → (s.srgn rg).spilled = false →
        (s.srgn rg).desc.nbAvail ≠ 0 → mwf (fun _ => SlvRgn.reset) s.slv.rgns = true → s.storeUnits + 2 ≤ 1048576 →
        row / 2 ^ (s.srgn rg).desc.rgs * 65536 + col / 2 ^ (s.srgn rg).desc.cgs ∈ (t.srgn rg).cells) := by
  intro t
  have ht : t = (s.slvApply l rg (row / 2 ^ (s.srgn rg).desc.rgs) (col / 2 ^ (s.srgn rg).desc.cgs) true).tapAdvance k p :=
    congrArg (State.tapAdvance · k p) (State.collectBit_applied hrg hopen hlane hrow hcol)
  have hrgn : t.srgn rg = (s.slvApply l rg (row / 2 ^ (s.srgn rg).desc.rgs) (col / 2 ^ (s.srgn rg).desc.cgs) true).srgn rg := by
    rw [ht, State.srgn_of_slv State.slv_tapAdvance]
  refine ⟨hrgn ▸ State.failBits_slvApply, ?_, fun hearly hrows hcols hdie hblocks hwf hfit =>
    hrgn ▸ State.cell_mem_slvApply hearly hrows hcols hdie hblocks hopen hwf hfit⟩
  rw [ht, State.fld_of_regs State.regs_tapAdvance, State.applied_slvApply hs]

/-- The bit is counted as dropped where the region is not open. -/
theorem collectBit_drops {rg row col : Nat} {p : CapPkt} (hs : s.regsWf) (hclosed : (s.srgn rg).st ≠ .opened) :
    let t := (s.collectBit l rg row col).tapAdvance k p
    t.slv = s.slv ∧
      t.fld (F.SLV_LANE_DROP_RGN.COUNT l) = min (s.fld (F.SLV_LANE_DROP_RGN.COUNT l) + 1) (2 ^ (F.SLV_LANE_DROP_RGN.COUNT l).w - 1) := by
  dsimp only
  rw [State.collectBit_dropped hclosed, State.slv_tapAdvance, State.fld_of_regs State.regs_tapAdvance]
  exact ⟨rfl, State.fld_addSat hs (show 0 + 32 ≤ 64 by decide)⟩

/-- The bits of a source and side that the map has no pin for are counted as dropped. -/
theorem collectPacket_unmapped {w : Half} (hs : s.regsWf) (hpkt : s.tapPacket l k = some (.fail tick w 0 src f site ctx, e, m)) (hw : w ≠ 0)
    (heven : f.getLsbD 0 = true) (hodd : f.getLsbD 1 = false) (hstale : f.getLsbD 2 = false) (hslip : f.getLsbD 4 = false)
    (hpin : m.pin src 0 = none) :
    ∃ t, exec (.collectPacket l k) s = .next t ∧ t.slv = s.slv ∧
      t.fld (F.SLV_LANE_DROP_MAP.COUNT l) = min (s.fld (F.SLV_LANE_DROP_MAP.COUNT l) + popNat 16 w.toNat) (2 ^ (F.SLV_LANE_DROP_MAP.COUNT l).w - 1) ∧
      t = { s with regs := t.regs, queues := t.queues, sources := t.sources } ∧ regsBut s t [R.SLV_LANE_DROP_MAP l] := by
  have hexec := exec_collectPacket_fail hpkt
  rw [State.collectFail_even heven hodd hstale hslip, State.collectSide_unmapped hw hpin] at hexec
  obtain ⟨queues, sources, htap⟩ := (s.addSat (F.SLV_LANE_DROP_MAP.COUNT l) (popNat 16 w.toNat)).tapAdvance_eq k (.fail tick w 0 src f site ctx)
  rw [htap] at hexec
  exact ⟨_, hexec, rfl, State.fld_addSat hs (show 0 + 32 ≤ 64 by decide), rfl,
    regsBut_addSat (f := F.SLV_LANE_DROP_MAP.COUNT l) (offs := [R.SLV_LANE_DROP_MAP l]) regsBut_refl (List.mem_singleton.2 rfl)⟩

/-- A saturation marker sets INPUT_LOSS of the open regions of the lane that its source maps to. -/
theorem collectMarker_sat {t1 t2 : Wide} {n cause ui : Nat} (hpkt : s.tapPacket l k = some (.sat t1 n src cause site t2 ui, e, m)) :
    ∃ t, exec (.collectMarker l k) s = .next t ∧
      (∀ g ∈ m.lossRegions e src t1.toNat t2.toNat, g ≤ 4095 → (s.srgn g).st = .opened → (s.srgn g).desc.lane = l.val →
        t.srgn g = { s.srgn g with inputLoss := true, lossLog := true }) ∧
      onlyRgns s t (m.lossRegions e src t1.toNat t2.toNat) ∧ t.regs = s.regs ∧ t.mem = s.mem := by
  obtain ⟨err, slv, hmark⟩ := s.markLosses_eq l (m.lossRegions e src t1.toNat t2.toNat)
  refine ⟨_, exec_collectMarker_sat hpkt, fun g hg hbound hopen hlane => ?_, fun g hg => ?_, ?_, ?_⟩
  · rw [State.srgn_of_slv State.slv_tapAdvance, State.srgn_markLosses hg hbound hopen hlane]
    rfl
  · rw [State.srgn_of_slv State.slv_tapAdvance, State.srgn_markLosses_of_notMem hg]
  · rw [State.regs_tapAdvance, hmark]
  · rw [State.mem_tapAdvance, hmark]

/-- A reset marker sets INPUT_LOSS of every open region of the lane. -/
theorem collectMarker_reset {tk : Wide} {n : Nat} (hpkt : s.tapPacket l k = some (.reset tk n site, e, m)) :
    ∃ t, exec (.collectMarker l k) s = .next t ∧ ∀ g, g ≤ 4095 → (s.srgn g).st = .opened → (s.srgn g).desc.lane = l.val →
      (t.srgn g).inputLoss = true := by
  refine ⟨_, exec_collectMarker_reset hpkt, fun g hbound hopen hlane => ?_⟩
  have hlisted : g ∈ s.slv.rgns.map (·.1) := mem_keys_of_mget_ne (d := fun _ => SlvRgn.reset) (SlvRgn.ne_reset_of_opened hopen)
  rw [State.srgn_of_slv State.slv_tapAdvance, State.srgn_markLosses hlisted hbound hopen hlane]
  rfl

/-- A unit with an uncorrectable error is discarded and logged, and its region has lost what it stored. -/
theorem slvStoreEcc_discards {g : Fin 4096} {u : StoreUnit} (hs : s.regsWf) (hdie : (s.srgn g).spilled = false) (hheld : (s.srgn g).holds u = true) :
    ∃ t, exec (.slvStoreEcc g u) s = .next t ∧ t.srgn g = { (s.srgn g).discard u with storeLoss := true } ∧ (t.srgn g).holds u = false ∧
      t.bit F.SLV_STAT.ECC_SEEN = true ∧ logs s t C.SLV_STORE_ECC (srcSolver (s.srgn g).desc.lane g) 0 ∧
      t = { s with regs := t.regs, err := t.err, slv := t.slv } ∧ onlyRgns s t [g.val] ∧ regsBut s t [R.SLV_STAT] := by
  have hrgn : (s.setSrgn g { (s.srgn g).discard u with storeLoss := true }).srgn g = { (s.srgn g).discard u with storeLoss := true } :=
    State.srgn_setSrgn_of_ne (SlvRgn.ne_reset_of_storeLoss rfl)
  refine ⟨_, exec_slvStoreEcc_held hdie hheld, hrgn, ?_, State.bit_setFld_one hs (by decide) rfl,
    logs_report rfl rfl (srcSolver_kind _ _) (by decide), rfl, fun j hj => ?_, ?_⟩
  · refine (congrArg (SlvRgn.holds · u) hrgn).trans (Eq.trans ?_ (SlvRgn.holds_discard (r := s.srgn g) (u := u)))
    cases u <;> rfl
  · exact State.srgn_setSrgn_ne (List.ne_of_not_mem_cons hj)
  · exact regsBut_setFld (s := s) (t := s.setSrgn g _) regsBut_refl (by decide)

end

/-- Settles O39: a fail bit by where the lane's map takes it, then markers and units that an error takes. -/
theorem collectorMapsFails : Obligations.CollectorMapsFails := by
  refine ⟨?_, fun _ _ _ _ _ _ _ _ _ _ _ => collectPacket_unmapped, fun _ _ _ _ _ _ _ _ _ _ _ _ => collectMarker_sat,
    fun _ _ _ _ _ _ _ _ => collectMarker_reset, fun _ _ _ => slvStoreEcc_discards⟩
  intro l k tick src j f site ctx e m p g s hs hpkt heven hodd hstale hslip hpin hbegun hseg i row col rg hi hrow hcol hrg
  have hexec := collectPacket_bit hpkt heven hodd hstale hslip hpin hbegun hseg hi hrow hcol hrg
  exact ⟨fun hle hopen hlane hr hc => ⟨_, hexec, collectBit_counts hs hle hopen hlane hr hc⟩, fun hclosed => ⟨_, hexec, collectBit_drops hs hclosed⟩⟩

end Sys2Proof.Machine
end

section
/-! ATTACHED MEMORY. The places of the bytes of attached memory, and what a byte reads after a write (R386, R387). -/

open Sys2Proof.Claims

namespace Sys2Proof.Machine

section

variable {s : State} {a b : Nat} {v : Byte}

/-- Below 256 GiB the address map holds the interleaved area and the channel windows (R386). -/
theorem dpaRangeAt_attached (ha : a < 0x4000000000) : dpaRangeAt a = some .interleaved ∨ ∃ c, dpaRangeAt a = some (.window c) := by
  unfold dpaRangeAt
  by_cases hlow : a < 0x3F80000000
  · exact .inl (if_pos hlow)
  · exact .inr ⟨_, (if_neg hlow).trans (if_pos ha)⟩

theorem State.dpaByte_attached (ha : a < 0x4000000000) : s.dpaByte a = s.memByte a := by
  unfold State.dpaByte
  obtain h | ⟨c, h⟩ := dpaRangeAt_attached ha <;> rw [h]

theorem State.setDpaByte_attached (ha : a < 0x4000000000) : s.setDpaByte a v = s.setMemByte a v := by
  unfold State.setDpaByte
  obtain h | ⟨c, h⟩ := dpaRangeAt_attached ha <;> rw [h]

/-- The interleaving with granules of `p` bytes: the channel is told by the bits above the granule, scattered by those above them (R387). -/
theorem interleaved_inj {p : Nat} (hp : p = 2 ^ 8 ∨ p = 2 ^ 12)
    (hc : a / p % 8 ^^^ a / (p * 8) % 8 = b / p % 8 ^^^ b / (p * 8) % 8) (hl : a / (p * 8) * p + a % p = b / (p * 8) * p + b % p) : a = b := by
  obtain ⟨hrow, hbyte⟩ : a / (p * 8) = b / (p * 8) ∧ a % p = b % p := by
    obtain rfl | rfl := hp <;> omega
  rw [hrow] at hc
  have hgranule : a / p % 8 = b / p % 8 := Nat.xor_left_inj.1 hc
  obtain rfl | rfl := hp <;> omega

/-- The bytes of a granule of the interleaving (R387). -/
def State.granule (s : State) : Nat := if s.bit F.MEMC_MAP.GRAN then 2 ^ 12 else 2 ^ 8

theorem State.granule_eq : s.granule = 2 ^ 8 ∨ s.granule = 2 ^ 12 := (ite_eq_or_eq ..).symm

theorem dpaChannel_interleaved (ha : a < 0x3F80000000) :
    dpaChannel s a = (a / s.granule % 8 ^^^ a / (s.granule * 8) % 8, a / (s.granule * 8) * s.granule + a % s.granule) := by
  unfold dpaChannel State.granule
  rw [if_pos ha]
  cases s.bit F.MEMC_MAP.GRAN <;> rfl

/-- The interleaved area fills the part of each channel below its window. -/
theorem dpaChannel_interleaved_lt (ha : a < 0x3F80000000) : (dpaChannel s a).2 < 0x7F0000000 := by
  rw [dpaChannel_interleaved ha]
  dsimp only
  obtain h | h := s.granule_eq <;> rw [h] <;> omega

theorem dpaChannel_window (ha : ¬ a < 0x3F80000000) :
    dpaChannel s a = ((a - 0x3F80000000) / 0x10000000 % 8, 0x7F0000000 + (a - 0x3F80000000) % 0x10000000) := if_neg ha

theorem dpaChannel_local_lt : (dpaChannel s a).2 < 2 ^ 35 := by
  by_cases ha : a < 0x3F80000000
  · exact (dpaChannel_interleaved_lt ha).trans (by decide)
  · rw [dpaChannel_window ha]
    dsimp only
    omega

/-- No two addresses of attached memory share a place in a channel (R387). -/
theorem dpaChannel_inj (ha : a < 0x4000000000) (hb : b < 0x4000000000) (h : dpaChannel s a = dpaChannel s b) : a = b := by
  have hlocal : (dpaChannel s a).2 = (dpaChannel s b).2 := congrArg Prod.snd h
  by_cases hla : a < 0x3F80000000 <;> by_cases hlb : b < 0x3F80000000
  · rw [dpaChannel_interleaved hla, dpaChannel_interleaved hlb, Prod.mk.injEq] at h
    exact interleaved_inj s.granule_eq h.1 h.2
  · have hlt : (dpaChannel s a).2 < 0x7F0000000 := dpaChannel_interleaved_lt hla
    rw [dpaChannel_window hlb] at hlocal
    omega
  · have hlt : (dpaChannel s b).2 < 0x7F0000000 := dpaChannel_interleaved_lt hlb
    rw [dpaChannel_window hla] at hlocal
    omega
  · rw [dpaChannel_window hla, dpaChannel_window hlb, Prod.mk.injEq] at h
    omega

theorem memKey_dpaChannel_inj (ha : a < 0x4000000000) (hb : b < 0x4000000000)
    (h : memKey (dpaChannel s a).1 (dpaChannel s a).2 = memKey (dpaChannel s b).1 (dpaChannel s b).2) : a = b := by
  have hlta : (dpaChannel s a).2 < 2 ^ 35 := dpaChannel_local_lt
  have hltb : (dpaChannel s b).2 < 2 ^ 35 := dpaChannel_local_lt
  unfold memKey at h
  exact dpaChannel_inj (s := s) ha hb (Prod.ext (by omega) (by omega))

end

/-- Settles O40: both bytes lie in attached memory, whose places are those of `dpaChannel`, and the canonical map keeps them apart. -/
theorem attachedMemoryReadsBack : Obligations.AttachedMemoryReadsBack := by
  intro s a b v ha hb hm
  rw [State.setDpaByte_attached ha, State.dpaByte_attached ha, State.dpaByte_attached hb, State.dpaByte_attached hb]
  exact ⟨mget_mset_same memDefault _ v s.mem hm, fun hne => mget_mset_ne memDefault v (mt (memKey_dpaChannel_inj hb ha) hne) s.mem⟩

end Sys2Proof.Machine
end

section
/-! MEMORY CHANNELS. What refutes the statement about the memory channels (R374, R380, R436). -/

open Sys2Proof.Claims

namespace Sys2Proof.Machine

/-- Firmware has fenced PD16 at stage 5 of a start attempt, and the fence is pending. -/
def fencePendingAtTraining : State := (State.reset.setFld F.SEC_BOOT_STAT.STAGE 5).fenceBegin 16

/-- Training powers PD16 and takes its fence away where that is complete; one that is pending stays, and the NIs answer for the domain (R374). -/
theorem memcInit_fencePendingAtTraining : ∃ t, exec (.memcInit .firmware 0) fencePendingAtTraining = .next t ∧ t.fenced 16 = true :=
  ⟨_, rfl, by decide⟩

/-- Refutes O43 by its clause on the INIT with which training begins: no premise rules out that a fence of PD16 is pending, and only the bits FENCED of PD16
and PD17 are cleared. -/
theorem not_memoryChannels : ¬ Obligations.MemoryChannels := by
  intro h
  obtain ⟨-, hbegin, -⟩ := h
  obtain ⟨t, e, -, -, -, hopen, -⟩ := hbegin .firmware 0 fencePendingAtTraining (by decide) rfl rfl (by decide)
  obtain ⟨u, e', hfenced⟩ := memcInit_fencePendingAtTraining
  cases e.symm.trans e'
  exact Bool.noConfusion (hopen.symm.trans hfenced)

end Sys2Proof.Machine
end

section
/-! THE MESH LEFT TO ITSELF. What the mesh changes when it runs: the packets that it carries, and on the cascade those of pooled requests (R365, R491). -/

open Sys2Proof.Claims

namespace Sys2Proof.Machine

section

variable {s t u : State}

/-- `t` is `s` but for the packets on the mesh, the grants and arrivals that it counts, and the constellation block. -/
def Carried (s t : State) : Prop :=
  ∃ reqs granted stamps csc, t = { s with noc := { s.noc with reqs, granted, stamps }, csc }

namespace Carried

theorem refl : Carried s s := ⟨_, _, _, _, rfl⟩

theorem trans (h : Carried s t) (h' : Carried t u) : Carried s u := by
  obtain ⟨_, _, _, _, rfl⟩ := h
  obtain ⟨_, _, _, _, rfl⟩ := h'
  exact ⟨_, _, _, _, rfl⟩

theorem ite {c : Prop} [Decidable c] (ht : Carried s t) (hu : Carried s u) : Carried s (if c then t else u) := by split <;> assumption

theorem foldl {α : Type} {f : State → α → State} {l : List α} (hf : ∀ t x, Carried t (f t x)) : Carried s (l.foldl f s) := by
  induction l generalizing s with
  | nil => exact refl
  | cons x l ih => exact (hf s x).trans ih

theorem putReq {q : NocReq} : Carried s (s.putReq q) := ⟨_, _, _, _, rfl⟩

theorem complete {q : NocReq} {status : Nat} {data : List Byte} : Carried s (s.complete q status data) := putReq

theorem sendPkt {p : Nat} {k : CscPkt} : Carried s (s.sendPkt p k) := .ite refl (.ite ⟨_, _, _, _, rfl⟩ ⟨_, _, _, _, rfl⟩)

theorem sendTo {d : Nat} {k : CscPkt} : Carried s (s.sendTo d k) := by
  refine .ite (.foldl fun _ _ => sendPkt) ?_
  split
  · exact sendPkt
  · exact refl

theorem sendPooled {q : NocReq} {pos : Nat} : Carried s (s.sendPooled q pos) := putReq.trans sendTo

theorem land {q : NocReq} : Carried s (s.land q) := by
  unfold State.land
  extract_lets q1 n1 s1
  have h1 : Carried s s1 := ⟨_, _, _, _, rfl⟩
  refine .ite (h1.trans complete) (.ite (h1.trans complete) ?_)
  split
  · exact .ite h1 (h1.trans sendPooled)
  · exact h1

theorem landAll : Carried s s.landAll := foldl fun _ _ => land

theorem meshCycle : Carried s s.meshCycle := ⟨_, _, _, _, rfl⟩

theorem meshRun {n : Nat} : Carried s (s.meshRun n) := by
  induction n generalizing s with
  | zero => exact refl
  | succ n ih => exact .ite ((meshCycle.trans landAll).trans ih) refl

theorem settle : Carried s s.settle := landAll.trans meshRun

theorem eq (h : Carried s t) : t = { s with noc := t.noc, csc := t.csc } := by
  obtain ⟨_, _, _, _, rfl⟩ := h
  rfl

theorem regs (h : Carried s t) : t.regs = s.regs := by rw [h.eq]

theorem reg (h : Carried s t) {o : Nat} : t.reg o = s.reg o := congrArg (mget resetVal o) h.regs

theorem regsWf (h : Carried s t) (hs : s.regsWf) : t.regsWf := by
  rw [State.regsWf, h.regs]
  exact hs

end Carried

/-- Without a request the mesh stands still. -/
theorem State.settle_of_idle (h : s.noc.reqs = []) : s.settle = s := by
  have hland : s.landAll = s := by rw [State.landAll, h]; rfl
  rw [State.settle, h, hland]
  rfl

end

end Sys2Proof.Machine
end

section
/-! ROUTERS, FENCES AND ROUTES. Bits of the masks of withdrawn routers and fenced domains, and the commands that change them (R361 to R364, R368,
R372 to R376, R394). -/

open Sys2Proof.Claims

namespace Sys2Proof.Machine

section

variable {s t : State} {req : Requester} {r : Fin 64}

/-! ### Bits of a register -/

/-- One bit of a register as it reads after it, or another, is written. -/
theorem State.bitOf_setBitOf {off i j : Nat} {b : Bool} (hs : s.regsWf) (hi : i < 64) :
    bitOf ((s.setBitOf off i b).reg off).toNat j = if j = i then b else bitOf (s.reg off).toNat j := by
  have hreg : (s.setBitOf off i b).reg off = putBits (s.reg off) i 1 (b2n b) := State.reg_setReg _ _ hs
  have hbit : (b2n b).testBit 0 = b := by cases b <;> rfl
  have h : (putBits (s.reg off) i 1 (b2n b)).getLsbD j = if j = i then b else (s.reg off).getLsbD j := by
    by_cases hj : j = i
    · rw [hj, getLsbD_putBits_same (by omega) (by omega), if_pos rfl, Nat.sub_self, hbit]
    · rw [getLsbD_putBits_ne (by omega) (by omega), if_neg hj]
  rw [hreg]
  exact h

/-- The bit of a number that is taken away from it. -/
theorem testBit_sub_two_pow {x d : Nat} (h : x.testBit d = true) : (x - 2 ^ d).testBit d = false := by
  rw [Nat.testBit_eq_decide_div_mod_eq, decide_eq_true_eq] at h
  have hpos : 0 < x / 2 ^ d := Nat.pos_of_ne_zero fun e => by simp [e] at h
  have hle : 2 ^ d * 1 ≤ x := by
    have := Nat.mul_le_of_le_div _ _ _ hpos
    omega
  have hdiv : (x - 2 ^ d) / 2 ^ d = x / 2 ^ d - 1 := by
    have := Nat.sub_mul_div x (2 ^ d) 1
    simpa using this
  rw [Nat.testBit_eq_decide_div_mod_eq, hdiv, decide_eq_false_iff_not]
  omega

/-! ### Withdrawn routers -/

theorem State.withdrawn_of_reg (h : t.reg R.NOC_RTR_WITHDRAWN = s.reg R.NOC_RTR_WITHDRAWN) {j : Nat} : t.withdrawn j = s.withdrawn j := by
  unfold State.withdrawn
  rw [h]

theorem State.withdrawn_of_lt {j : Nat} (h : j < 64) : s.withdrawn j = bitOf (s.reg R.NOC_RTR_WITHDRAWN).toNat j := by
  rw [State.withdrawn, decide_eq_true h, Bool.true_and]

/-- `t` has router `r` withdrawn or not, as `b` says, and the others as in `s`. -/
def WithdrawnBut (s t : State) (r : Fin 64) (b : Bool) : Prop := t.withdrawn r = b ∧ ∀ j < 64, j ≠ r.val → t.withdrawn j = s.withdrawn j

theorem withdrawnBut_setBitOf {b : Bool} (hs : s.regsWf) : WithdrawnBut s (s.setBitOf R.NOC_RTR_WITHDRAWN r b) r b := by
  refine ⟨?_, fun j hj hne => ?_⟩
  · rw [State.withdrawn_of_lt r.isLt, State.bitOf_setBitOf hs r.isLt, if_pos rfl]
  · rw [State.withdrawn_of_lt hj, State.bitOf_setBitOf hs r.isLt, if_neg hne, State.withdrawn_of_lt hj]

theorem WithdrawnBut.of_reg {s' t' : State} {b : Bool} (h : WithdrawnBut s t r b) (hs : s.reg R.NOC_RTR_WITHDRAWN = s'.reg R.NOC_RTR_WITHDRAWN)
    (ht : t'.reg R.NOC_RTR_WITHDRAWN = t.reg R.NOC_RTR_WITHDRAWN) : WithdrawnBut s' t' r b := by
  obtain ⟨hr, hother⟩ := h
  exact ⟨(State.withdrawn_of_reg ht).trans hr, fun j hj hne =>
    ((State.withdrawn_of_reg ht).trans (hother j hj hne)).trans (State.withdrawn_of_reg hs)⟩

theorem nocBegin_withdraws (hs : s.regsWf) (hr : s.withdrawn r = false) (hcount : s.withdrawnCount ≤ 1) :
    ∃ t, exec (.nocBegin req r) s = .next t ∧ t.withdrawn r = true ∧ (∀ j < 64, j ≠ r.val → t.withdrawn j = s.withdrawn j) ∧
      t.fld F.NOC_RTR_CMDSTAT.STATUS = 0 ∧ onlyRegs s t [R.NOC_RTR_CMDSTAT, R.NOC_RTR_WITHDRAWN, R.NOC_RTR_DRAINED] := by
  rw [exec_nocBegin, execNocBegin, if_neg (by simp [hr, hcount])]
  have hstat : (s.setFld F.NOC_RTR_CMDSTAT.STATUS 0).regsWf := State.regsWf_setFld _ _ hs
  obtain ⟨hself, hother⟩ := (withdrawnBut_setBitOf (r := r) (b := true) hstat).of_reg (s' := s)
    (t' := ((s.setFld F.NOC_RTR_CMDSTAT.STATUS 0).setBitOf R.NOC_RTR_WITHDRAWN r true).setBitOf R.NOC_RTR_DRAINED r false)
    (State.reg_setFld_ne _ _ (by decide)) (State.reg_setFld_ne _ _ (show R.NOC_RTR_WITHDRAWN ≠ R.NOC_RTR_DRAINED by decide))
  refine ⟨_, rfl, hself, hother, ?_, ?_⟩
  · exact (State.fld_setFld_off _ _ _ _ (show R.NOC_RTR_CMDSTAT ≠ R.NOC_RTR_DRAINED by decide)).trans
      ((State.fld_setFld_off _ _ _ _ (show R.NOC_RTR_CMDSTAT ≠ R.NOC_RTR_WITHDRAWN by decide)).trans (State.fld_setFld _ _ hs (by decide)))
  · exact onlyRegs_setFlds (xs := [(F.NOC_RTR_CMDSTAT.STATUS, 0), (⟨R.NOC_RTR_WITHDRAWN, r, 1⟩, 1), (⟨R.NOC_RTR_DRAINED, r, 1⟩, 0)]) (by simp)

theorem nocBegin_refused (hs : s.regsWf) (h : s.withdrawn r = true ∨ 2 ≤ s.withdrawnCount) :
    ∃ t, exec (.nocBegin req r) s = .next t ∧ t.fld F.NOC_RTR_CMDSTAT.STATUS = C.STATE_REFUSED ∧
      logs s t C.STATE_REFUSED (srcRequester req) (R.NOC_RTR_CMD + 2 ^ 32) ∧ onlyRegsLog s t [R.NOC_RTR_CMDSTAT] := by
  rw [exec_nocBegin, execNocBegin, if_pos (by simpa [Nat.lt_iff_add_one_le] using h)]
  exact ⟨_, rfl, State.fld_setFld F.NOC_RTR_CMDSTAT.STATUS _ hs (by decide), logs_report_requester onlyRegs_setReg (by decide),
    onlyRegsLog_report onlyRegs_setReg⟩

theorem routerDrained_drained (hs : s.regsWf) (hr : s.withdrawn r = true) (hheld : s.routerHolds r = false) :
    ∃ t, exec (.routerDrained r) s = .next t ∧ bitOf (t.reg R.NOC_RTR_DRAINED).toNat r = true ∧ onlyRegs s t [R.NOC_RTR_DRAINED] := by
  rw [exec_routerDrained, execRouterDrained, if_pos (by simp [hr, hheld])]
  refine ⟨_, rfl, ?_, onlyRegs_setReg⟩
  rw [State.bitOf_setBitOf hs r.isLt, if_pos rfl]

/-- Router `r` is in service again, its head counts in no register, and the mesh has run. -/
theorem State.routerBack_back (hs : s.regsWf) :
    WithdrawnBut s (s.routerBack r) r false ∧ regsBut s (s.routerBack r) [R.NOC_RTR_WITHDRAWN, R.NOC_RTR_DRAINED] ∧ (s.routerBack r).regsWf ∧
    s.routerBack r = { s with regs := (s.routerBack r).regs, noc := (s.routerBack r).noc, csc := (s.routerBack r).csc } ∧
    (s.noc.reqs = [] → (s.routerBack r).noc = s.noc ∧ (s.routerBack r).csc = s.csc) := by
  generalize hu : (s.setBitOf R.NOC_RTR_WITHDRAWN r false).setBitOf R.NOC_RTR_DRAINED r false = u
  have hback : s.routerBack r = u.settle := by rw [State.routerBack, hu]
  have hset : Carried u u.settle := .settle
  obtain ⟨heq, hreg⟩ : onlyRegs s u [R.NOC_RTR_WITHDRAWN, R.NOC_RTR_DRAINED] :=
    hu ▸ onlyRegs_setFlds (xs := [(⟨R.NOC_RTR_WITHDRAWN, r, 1⟩, 0), (⟨R.NOC_RTR_DRAINED, r, 1⟩, 0)]) (by simp)
  have hwf : u.regsWf := hu ▸ State.regsWf_setFld _ _ (State.regsWf_setFld _ _ hs)
  have hkeep : u.reg R.NOC_RTR_WITHDRAWN = (s.setBitOf R.NOC_RTR_WITHDRAWN r false).reg R.NOC_RTR_WITHDRAWN :=
    hu ▸ State.reg_setFld_ne _ _ (show R.NOC_RTR_WITHDRAWN ≠ R.NOC_RTR_DRAINED by decide)
  rw [hback]
  refine ⟨(withdrawnBut_setBitOf hs).of_reg rfl (hset.reg.trans hkeep), fun o ho => hset.reg.trans (hreg o ho), hset.regsWf hwf, ?_, fun hidle => ?_⟩
  · obtain ⟨reqs, granted, stamps, csc, e⟩ := hset
    rw [e, heq]
  · rw [State.settle_of_idle (by rw [heq]; exact hidle), heq]
    exact ⟨rfl, rfl⟩

theorem nocEnd_returns (hs : s.regsWf) (hr : s.withdrawn r = true) :
    ∃ t, exec (.nocEnd req r) s = .next t ∧ t.withdrawn r = false ∧ (∀ j < 64, j ≠ r.val → t.withdrawn j = s.withdrawn j) ∧
      t.fld F.NOC_RTR_CMDSTAT.STATUS = 0 ∧ regsBut s t [R.NOC_RTR_CMDSTAT, R.NOC_RTR_WITHDRAWN, R.NOC_RTR_DRAINED] ∧
      t = { s with regs := t.regs, noc := t.noc, csc := t.csc } ∧ (s.noc.reqs = [] → t.noc = s.noc ∧ t.csc = s.csc) := by
  rw [exec_nocEnd, execNocEnd, if_pos hr]
  obtain ⟨hback, hregs, hwf, heq, hidle⟩ := State.routerBack_back (r := r) hs
  obtain ⟨hself, hother⟩ := hback.of_reg (t' := (s.routerBack r).setFld F.NOC_RTR_CMDSTAT.STATUS 0) rfl (State.reg_setFld_ne _ _ (by decide))
  refine ⟨_, rfl, hself, hother, State.fld_setFld _ _ hwf (by decide), ?_, ?_, hidle⟩
  · exact regsBut_setFld (fun o ho => hregs o (mt (List.mem_cons_of_mem _) ho)) (by simp)
  · exact congrArg (State.setFld · F.NOC_RTR_CMDSTAT.STATUS 0) heq

theorem nocReconfTimeout_returns (hs : s.regsWf) (hr : s.withdrawn r = true) :
    ∃ t, exec (.nocReconfTimeout r) s = .next t ∧ t.withdrawn r = false ∧ t.bit F.NOC_STAT.RECONF_TO_SEEN = true ∧
      logs s t C.NOC_RECONF_TIMEOUT (srcRouter r) 0 ∧ regsBut s t [R.NOC_STAT, R.NOC_RTR_WITHDRAWN, R.NOC_RTR_DRAINED] ∧
      t = { s with regs := t.regs, noc := t.noc, csc := t.csc, err := t.err } ∧ (s.noc.reqs = [] → t.noc = s.noc ∧ t.csc = s.csc) := by
  rw [exec_nocReconfTimeout, execNocReconfTimeout, if_pos hr]
  obtain ⟨hback, hregs, hwf, heq, hidle⟩ := State.routerBack_back (r := r) hs
  obtain ⟨hself, -⟩ := hback.of_reg (t' := (s.routerBack r).setFld F.NOC_STAT.RECONF_TO_SEEN 1) rfl (State.reg_setFld_ne _ _ (by decide))
  have hsrc : srcRouter r / 2 ^ 28 ≠ 2 := by
    unfold srcRouter
    omega
  refine ⟨_, rfl, hself, State.bit_setFld_one hwf (by decide) rfl, ?_, ?_, ?_, hidle⟩
  · exact logs_report (t := (s.routerBack r).setFld _ _) (congrArg (·.err) heq) (congrArg (·.tick) heq) hsrc (by decide)
  · exact regsBut_report (regsBut_setFld (fun o ho => hregs o (mt (List.mem_cons_of_mem _) ho)) (by simp))
  · rw [heq]
    rfl

/-! ### Fences -/

theorem le_of_fenceable {d : Nat} (h : fenceable d = true) : d ≤ 23 := by
  simp only [fenceable, Bool.or_eq_true, Bool.and_eq_true, beq_iff_eq, decide_eq_true_eq] at h
  omega

/-- Bit `d` taken into a field that has a place for it. -/
theorem State.fld_setFld_or {f : Fld} {x d : Nat} (hs : s.regsWf) (hf : f.lo + f.w ≤ 64) (hx : x < 2 ^ f.w) (hd : d < f.w) :
    (s.setFld f (x ||| 2 ^ d)).fld f = x ||| 2 ^ d := by
  rw [State.fld_setFld _ _ hs hf]
  exact Nat.mod_eq_of_lt (Nat.or_lt_two_pow hx (Nat.pow_lt_pow_right (by decide) hd))

/-- Bit `d` taken from a field. -/
theorem State.bitOf_setFld_sub {f : Fld} {x d : Nat} (hs : s.regsWf) (hf : f.lo + f.w ≤ 64) (hx : x < 2 ^ f.w) (hd : bitOf x d = true) :
    bitOf ((s.setFld f (x - 2 ^ d)).fld f) d = false := by
  rw [State.fld_setFld _ _ hs hf, Nat.mod_eq_of_lt ((Nat.sub_le _ _).trans_lt hx)]
  exact testBit_sub_two_pow hd

theorem State.fenced_of_fld {f p e : Nat} (hf : s.fld F.NOC_FENCE_STAT.FENCED = f) (hp : s.fld F.NOC_FENCE_STAT.PENDING = p) :
    s.fenced e = (bitOf f e || bitOf p e) := by
  rw [State.fenced, hf, hp]

theorem nocFence_fences {d : Fin 32} (hs : s.regsWf) (hd : fenceable d = true)
    (hquiet : (d.val ≠ 4 ∧ d.val ≠ 11) ∨ ∀ n < 16, s.siteActive n = false) :
    ∃ t, exec (.nocFence req d) s = .next t ∧ t.fenced d = true ∧ t.fld F.NOC_FENCE_STAT.STATUS = 0 ∧
      (∀ e < 32, e ≠ d.val → t.fenced e = s.fenced e) ∧ onlyRegs s t [R.NOC_FENCE_STAT] := by
  have hsites : ¬ (!fenceable d || ((d.val = 4 ∨ d.val = 11) && (List.range 16).any s.siteActive)) = true := by
    obtain ⟨h4, h11⟩ | hidle := hquiet
    · simp [hd, h4, h11]
    · rw [List.any_eq_false.2 fun n hn => by simp [hidle n (List.mem_range.1 hn)]]
      simp [hd]
  have hd24 : d.val < 24 := Nat.lt_succ_of_le (le_of_fenceable hd)
  rw [exec_nocFence, execNocFence, if_neg hsites]
  generalize hu : s.setFld F.NOC_FENCE_STAT.STATUS 0 = u
  have hwf : u.regsWf := hu ▸ State.regsWf_setFld _ _ hs
  have hfenced : u.fld F.NOC_FENCE_STAT.FENCED = s.fld F.NOC_FENCE_STAT.FENCED := hu ▸ State.fld_setFld_ne _ _ _ hs (by decide) (by decide)
  have hpend : u.fld F.NOC_FENCE_STAT.PENDING = s.fld F.NOC_FENCE_STAT.PENDING := hu ▸ State.fld_setFld_ne _ _ _ hs (by decide) (by decide)
  have hnew : ∀ e, (u.fenceBegin d).fenced e = (bitOf (s.fld F.NOC_FENCE_STAT.FENCED) e || bitOf (s.fld F.NOC_FENCE_STAT.PENDING ||| 2 ^ d.val) e) :=
    fun e => State.fenced_of_fld ((State.fld_setFld_ne _ _ _ hwf (by decide) (by decide)).trans hfenced)
      ((State.fld_setFld_or hwf (by decide) State.fld_lt hd24).trans (by rw [hpend]))
  refine ⟨_, rfl, ?_, ?_, fun e _ hne => ?_, ?_⟩
  · rw [hnew]
    simp [bitOf]
  · refine (State.fld_setFld_ne _ _ _ hwf (by decide) (by decide)).trans ?_
    rw [← hu]
    exact State.fld_setFld _ _ hs (by decide)
  · rw [hnew, State.fenced]
    simp [bitOf, Nat.testBit_two_pow_of_ne hne.symm]
  · rw [← hu]
    exact onlyRegs_setFlds (xs := [(F.NOC_FENCE_STAT.STATUS, 0), (F.NOC_FENCE_STAT.PENDING, _)]) (by simp)

theorem domainFenced_fenced {d : Fin 32} (hs : s.regsWf) (hd : fenceable d = true) (hpend : bitOf (s.fld F.NOC_FENCE_STAT.PENDING) d = true)
    (hbusy : s.domainBusy d = false) :
    ∃ t, exec (.domainFenced d) s = .next t ∧ bitOf (t.fld F.NOC_FENCE_STAT.PENDING) d = false ∧ bitOf (t.fld F.NOC_FENCE_STAT.FENCED) d = true ∧
      onlyRegs s t [R.NOC_FENCE_STAT] := by
  have hd24 : d.val < 24 := Nat.lt_succ_of_le (le_of_fenceable hd)
  rw [exec_domainFenced, execDomainFenced, if_pos (by simp [hpend, hbusy])]
  refine ⟨_, rfl, ?_, ?_, onlyRegs_setFlds (by simp)⟩
  · exact (congrArg (bitOf · d) (State.fld_setFld_ne F.NOC_FENCE_STAT.FENCED F.NOC_FENCE_STAT.PENDING _ (State.regsWf_setFld _ _ hs) (by decide)
      (by decide))).trans (State.bitOf_setFld_sub (f := F.NOC_FENCE_STAT.PENDING) hs (by decide) State.fld_lt hpend)
  · refine (congrArg (bitOf · d) (State.fld_setFld_or (f := F.NOC_FENCE_STAT.FENCED) (State.regsWf_setFld _ _ hs) (by decide) State.fld_lt hd24)).trans ?_
    simp [bitOf]

theorem nocUnfence_unfences {d : Fin 32} (hs : s.regsWf) (hfenced : bitOf (s.fld F.NOC_FENCE_STAT.FENCED) d = true)
    (hon : bitOf (s.fld F.PWR_DOM_STAT.ON) d = true) :
    ∃ t, exec (.nocUnfence req d) s = .next t ∧ bitOf (t.fld F.NOC_FENCE_STAT.FENCED) d = false ∧ t.fld F.NOC_FENCE_STAT.STATUS = 0 ∧
      onlyRegs s t [R.NOC_FENCE_STAT] := by
  rw [exec_nocUnfence, execNocUnfence, if_pos (by simp [hfenced, hon])]
  exact ⟨_, rfl, State.bitOf_setFld_sub (f := F.NOC_FENCE_STAT.FENCED) (State.regsWf_setFld _ _ hs) (by decide) State.fld_lt hfenced,
    State.fld_setFlds [] _ hs (by decide) (by simp [Fld.Apart]), onlyRegs_setFlds (by simp)⟩

theorem nocFence_refused {d : Fin 32} (hs : s.regsWf) (hd : fenceable d = false) :
    ∃ t, exec (.nocFence req d) s = .next t ∧ t.fld F.NOC_FENCE_STAT.STATUS = C.STATE_REFUSED ∧
      logs s t C.STATE_REFUSED (srcRequester req) (R.NOC_FENCE_CMD + 2 ^ 32) ∧ onlyRegsLog s t [R.NOC_FENCE_STAT] := by
  rw [exec_nocFence, execNocFence, if_pos (by simp [hd])]
  exact ⟨_, rfl, State.fld_setFld F.NOC_FENCE_STAT.STATUS _ hs (by decide), logs_report_requester onlyRegs_setReg (by decide),
    onlyRegsLog_report onlyRegs_setReg⟩

/-! ### Routes -/

/-- NOC_RT_ADDR names the entry of `src` and `dst`. -/
def State.routeAddressed (s : State) (src dst : Byte) : State := s.setFlds [(F.NOC_RT_ADDR.DEST, dst.toNat), (F.NOC_RT_ADDR.SRC, src.toNat)]

theorem onlyRegs_routeAddressed {src dst : Byte} : onlyRegs s (s.routeAddressed src dst) [R.NOC_RT_ADDR] := onlyRegs_setFlds (by simp)

theorem State.regsWf_routeAddressed {src dst : Byte} (hs : s.regsWf) : (s.routeAddressed src dst).regsWf := State.regsWf_setFlds hs

/-- Both words of an entry written. -/
def State.setRoutes (s : State) (src dst : Nat) (pri alt : Wide) : State := (s.setRoute src dst false pri).setRoute src dst true alt

theorem State.regs_setRoutes {src dst : Nat} {pri alt : Wide} : (s.setRoutes src dst pri alt).regs = s.regs := rfl

theorem routeCommit_commits {src dst : Byte} (hs : s.regsWf) (hsrc : src.toNat ≤ 176) (hdst : dst.toNat ≤ 176)
    (hpri : routeLegal src.toNat dst.toNat (s.reg R.NOC_RT_PRI) = true) (halt : routeLegal src.toNat dst.toNat (s.reg R.NOC_RT_ALT) = true) :
    ∃ t, exec (.routeCommit .firmware src dst) s = .next t ∧ t.fld F.NOC_RT_STATUS.STATUS = 0 ∧
      t.noc = ((s.setRoute src.toNat dst.toNat false (s.reg R.NOC_RT_PRI)).setRoute src.toNat dst.toNat true (s.reg R.NOC_RT_ALT)).noc ∧
      t = { s with regs := t.regs, noc := t.noc } ∧ regsBut s t [R.NOC_RT_ADDR, R.NOC_RT_STATUS] := by
  rw [exec_routeCommit, execRouteCommit, if_neg (by simp)]
  dsimp only
  rw [if_neg (by simp [hpri, halt]; omega), ← State.routeAddressed]
  obtain ⟨heq, hreg⟩ := onlyRegs_routeAddressed (s := s) (src := src) (dst := dst)
  have hwf : (s.routeAddressed src dst).regsWf := State.regsWf_routeAddressed hs
  generalize s.routeAddressed src dst = u at heq hreg hwf
  rw [← State.setRoutes]
  generalize hv : u.setRoutes _ _ _ _ = v
  have hvregs : v.regs = u.regs := hv ▸ State.regs_setRoutes
  have hvwf : v.regsWf := by rw [State.regsWf, hvregs]; exact hwf
  refine ⟨_, rfl, State.fld_setFld _ _ hvwf (by decide), ?_, ?_, regsBut_setFld (fun o ho => ?_) (by simp)⟩
  · rw [State.setFld_noc, ← hv, heq]
    rfl
  · rw [← hv, heq]
    rfl
  · exact (congrArg (mget resetVal o) hvregs).trans (hreg o (List.mem_singleton.not.2 (List.ne_of_not_mem_cons ho)))

theorem routeCommit_refused {src dst : Byte} (hs : s.regsWf) (hsrc : src.toNat ≤ 176) (hvalid : routeValid (s.reg R.NOC_RT_PRI) = true)
    (hpri : routeLegal src.toNat dst.toNat (s.reg R.NOC_RT_PRI) = false) :
    ∃ t, exec (.routeCommit .firmware src dst) s = .next t ∧ t.fld F.NOC_RT_STATUS.STATUS = C.NOC_ROUTE_INVALID ∧
      logs s t C.NOC_ROUTE_INVALID (srcNi src.toNat) 0 ∧ onlyRegsLog s t [R.NOC_RT_ADDR, R.NOC_RT_STATUS] := by
  rw [exec_routeCommit, execRouteCommit, if_neg (by simp)]
  dsimp only
  rw [if_pos (by simp [hvalid, hpri]), Nat.mod_eq_of_lt (show src.toNat < 256 by omega)]
  refine ⟨_, rfl, ?_, ?_, ?_⟩
  · exact State.fld_report.trans (State.fld_setFld (s := s.routeAddressed src dst) F.NOC_RT_STATUS.STATUS _ (State.regsWf_routeAddressed hs) (by decide))
  · exact logs_report rfl rfl (by unfold srcNi; omega) (by decide)
  · exact onlyRegsLog_report (onlyRegs_setFlds (xs := [(F.NOC_RT_ADDR.DEST, _), (F.NOC_RT_ADDR.SRC, _), (F.NOC_RT_STATUS.STATUS, _)]) (by simp))

theorem routeLoad_loads {src dst : Byte} (hs : s.regsWf) :
    ∃ t, exec (.routeLoad req src dst) s = .next t ∧ t.reg R.NOC_RT_PRI = s.route src.toNat dst.toNat false ∧
      t.reg R.NOC_RT_ALT = s.route src.toNat dst.toNat true ∧ onlyRegs s t [R.NOC_RT_ADDR, R.NOC_RT_PRI, R.NOC_RT_ALT] := by
  have hwf : (s.routeAddressed src dst).regsWf := State.regsWf_routeAddressed hs
  refine ⟨_, rfl, ?_, State.reg_setReg _ _ (State.regsWf_setReg _ _ hwf), rfl, ?_⟩
  · exact (State.reg_setReg_ne _ _ (by decide)).trans (State.reg_setReg _ _ hwf)
  · exact regsBut_setReg (regsBut_setReg (regsBut_setFlds (s := s) (t := s) regsBut_refl (by simp)) (by simp)) (by simp)

theorem nocTimeoutWrite_taken {v : Word} (hs : s.regsWf) (hreconf : v.toNat / 2 ^ 20 ≠ 0) (hlt : v.toNat / 2 ^ 20 < v.toNat % 2 ^ 20) :
    ∃ t, exec (.nocTimeoutWrite req v) s = .next t ∧ t.reg R.NOC_TIMEOUT = v.setWidth 64 ∧ onlyRegs s t [R.NOC_TIMEOUT] := by
  rw [exec_nocTimeoutWrite, execNocTimeoutWrite, if_neg (by omega)]
  exact ⟨_, rfl, State.reg_setReg _ _ hs, onlyRegs_setReg⟩

theorem nocTimeoutWrite_refused {v : Word} (h : v.toNat / 2 ^ 20 = 0 ∨ v.toNat % 2 ^ 20 ≤ v.toNat / 2 ^ 20) :
    ∃ t, exec (.nocTimeoutWrite req v) s = .next t ∧ logs s t C.STATE_REFUSED (srcRequester req) R.NOC_TIMEOUT ∧ onlyRegsLog s t [] := by
  rw [exec_nocTimeoutWrite, execNocTimeoutWrite, if_pos h]
  exact ⟨_, rfl, logs_logRefused, onlyRegsLog_logRefused⟩

end

/-- Settles O42: each clause is the lemma above of the command and the outcome that it names. -/
theorem routersFencesAndRoutes : Obligations.RoutersFencesAndRoutes := by
  refine ⟨fun req r s hs => ⟨nocBegin_withdraws hs, nocBegin_refused hs, fun hr => ⟨routerDrained_drained hs hr, fun hheld => ?_, nocEnd_returns hs hr,
      nocReconfTimeout_returns hs hr⟩⟩,
    fun req d s hs hd => ⟨nocFence_fences hs hd, domainFenced_fenced hs hd, nocUnfence_unfences hs⟩, fun _ _ _ => nocFence_refused,
    fun src dst s hs hsrc hdst hpri halt => ⟨routeCommit_commits hs hsrc hdst, routeCommit_refused hs hsrc hpri⟩,
    fun _ _ _ _ => routeLoad_loads, fun req v s hs => ⟨nocTimeoutWrite_taken hs, nocTimeoutWrite_refused⟩⟩
  rw [exec_routerDrained, execRouterDrained, if_neg (by simp [hheld])]

end Sys2Proof.Machine
end

section
/-! PACKETS AND REQUESTS. The fields of a packet's header, the outstanding request of an NI and tag, the counts of the network, and the request
as its NI takes it (R355 to R357, R371). -/

open Sys2Proof.Claims

namespace Sys2Proof.Machine

section

variable {s t : State} {q : NocReq} {ni tag : Nat}

/-! ### Packets -/

theorem getBits_ofNat {n lo w : Nat} : getBits (BitVec.ofNat 64 n) lo w = n % 2 ^ 64 / 2 ^ lo % 2 ^ w := by
  rw [getBits, BitVec.toNat_ofNat, Nat.shiftRight_eq_div_pow]

/-- Each field of a header reads what was put there (R356). -/
theorem getBits_packetHeader {w : Wide} {alt : Bool} {urg typ src : Nat} (hurg : urg < 8) (htyp : typ < 16) (hsrc : src < 256) (htag : tag < 256) :
    getBits (packetHeader w alt urg typ src tag) 0 39 = getBits w 0 39 ∧ getBits (packetHeader w alt urg typ src tag) 39 1 = b2n alt ∧
    getBits (packetHeader w alt urg typ src tag) 40 3 = urg ∧ getBits (packetHeader w alt urg typ src tag) 43 1 = 0 ∧
    getBits (packetHeader w alt urg typ src tag) 44 4 = typ ∧ getBits (packetHeader w alt urg typ src tag) 48 8 = src ∧
    getBits (packetHeader w alt urg typ src tag) 56 8 = tag := by
  have hroute : getBits w 0 39 < 2 ^ 39 := Nat.mod_lt _ (by decide)
  have halt : b2n alt ≤ 1 := by cases alt <;> decide
  unfold packetHeader
  generalize getBits w 0 39 = g at *
  generalize b2n alt = b at *
  simp only [getBits_ofNat]
  omega

theorem getBits_requestWord {addr len : Nat} (haddr : addr < 2 ^ 48) (hlen : len ≤ 256) :
    getBits (requestWord addr len) 0 48 = addr ∧ getBits (requestWord addr len) 48 16 = len - 1 := by
  unfold requestWord
  simp only [getBits_ofNat]
  omega

theorem ReqKind.typ_lt {k : ReqKind} : k.typ < 16 := by cases k <;> decide

/-! ### The outstanding request of an NI and tag -/

theorem State.key_of_nocReq (h : s.nocReq ni tag = some q) : q.ni = ni ∧ q.tag = tag := by
  simpa using List.find?_some h

theorem State.nocReq_dropReq : (s.dropReq ni tag).nocReq ni tag = none := by
  rw [State.nocReq, List.find?_eq_none]
  intro r hr hkey
  have hout := (List.mem_filter.1 hr).2
  rw [hkey] at hout
  exact nomatch hout

theorem State.nocReq_dropReq_ne {m u : Nat} (h : (m, u) ≠ (ni, tag)) : (s.dropReq ni tag).nocReq m u = s.nocReq m u := by
  have hother : (fun r : NocReq => decide ((!(r.ni == ni && r.tag == tag)) = true ∧ (r.ni == m && r.tag == u) = true)) =
      fun r => r.ni == m && r.tag == u := by
    funext r
    by_cases hr : r.ni = m ∧ r.tag = u
    · obtain ⟨rfl, rfl⟩ := hr
      simpa [imp_iff_not_or] using h
    · have hkey : (r.ni == m && r.tag == u) = false := by simpa using hr
      rw [hkey]
      exact decide_eq_false fun h => Bool.noConfusion h.2
  exact List.find?_filter.trans (congrArg (List.find? · s.noc.reqs) hother)

/-- A request that is replaced by one of its NI and tag is that one from then on. -/
theorem State.nocReq_putReq {q' : NocReq} (h : s.nocReq ni tag = some q) (hni : q'.ni = ni) (htag : q'.tag = tag) :
    (s.putReq q').nocReq ni tag = some q' := by
  obtain ⟨hqn, hqt⟩ := State.key_of_nocReq h
  have hkey : ((fun r : NocReq => r.ni == ni && r.tag == tag) ∘ fun r => if r.ni = q'.ni ∧ r.tag = q'.tag then q' else r) =
      fun r => r.ni == ni && r.tag == tag := by
    funext r
    by_cases hr : r.ni = q'.ni ∧ r.tag = q'.tag
    · simp [hr, hni, htag]
    · simp [hr]
  refine List.find?_map.trans ?_
  rw [hkey]
  refine (congrArg (Option.map _) h).trans ?_
  simp [hqn, hqt, hni, htag]

/-! ### Counts -/

/-- A sticky bit of NOC_STAT that is set with a count of NOC_ERR_CNT. -/
theorem State.bit_nocCount {i : Nat} {count : Fld} (hs : s.regsWf) (hi : i < 64) (hcount : count.off = R.NOC_ERR_CNT) :
    (s.nocCount ⟨R.NOC_STAT, i, 1⟩ count).bit ⟨R.NOC_STAT, i, 1⟩ = true :=
  (congrArg (· == 1) (State.fld_setFld_off _ _ _ _ (by simp [hcount]))).trans (State.bit_setFld_one hs hi rfl)

theorem regsBut_nocCount {i : Nat} {count : Fld} (hcount : count.off = R.NOC_ERR_CNT) :
    regsBut s (s.nocCount ⟨R.NOC_STAT, i, 1⟩ count) [R.NOC_STAT, R.NOC_ERR_CNT] :=
  regsBut_addSat (regsBut_setFld regsBut_refl (by simp)) (by simp [hcount])

theorem srcNi_kind (hni : ni < 256) : srcNi ni / 2 ^ 28 ≠ 2 := by
  unfold srcNi
  omega

theorem srcRouter_kind {r : Fin 64} : srcRouter r / 2 ^ 28 ≠ 2 := by
  unfold srcRouter
  omega

/-- A request that no route can carry ends with ROUTE_UNAVAILABLE, is counted and logged (R371). -/
theorem State.unavailable_ends {a : Nat} (hs : s.regsWf) (hni : ni < 256) :
    (s.unavailable ni tag a).noc = (s.nocResult ni tag C.ROUTE_UNAVAILABLE []).noc ∧ (s.unavailable ni tag a).bit F.NOC_STAT.UNAVAIL_SEEN = true ∧
    logs s (s.unavailable ni tag a) C.ROUTE_UNAVAILABLE (srcNi ni) (reqDetail ni a) ∧
    s.unavailable ni tag a = { s with
      regs := (s.unavailable ni tag a).regs, noc := (s.unavailable ni tag a).noc, err := (s.unavailable ni tag a).err } ∧
    regsBut s (s.unavailable ni tag a) [R.NOC_STAT, R.NOC_ERR_CNT] :=
  ⟨rfl, State.bit_report.trans (State.bit_nocCount (s := s.nocResult _ _ _ _) hs (by decide) rfl),
    logs_report (t := State.nocCount _ _ _) rfl rfl (srcNi_kind hni) (by decide), rfl, regsBut_nocCount (s := s.nocResult _ _ _ _) rfl⟩

/-! ### The request as its NI takes it -/

theorem nocRequest_injects {ni : Fin 177} {tag : Byte} {w : Option (List Byte)} {a : BitVec 48} {n : Fin 257} {r : DpaRange} {x : Wide} {alt : Bool}
    (hwf : wfRequest w n = true) (hfree : s.nocWaits ni tag.toNat a.toNat n = false) (hcheck : memCheck s ni a.toNat n w.isSome = 0)
    (hr : dpaRange a.toNat n = some r) (hroute : s.injectRoute ni (targetNi s a.toNat r) = some (x, alt)) :
    exec (.nocRequest ni tag ⟨w, .none⟩ a n) s = .next (s.addReq (newReq ni tag.toNat (targetNi s a.toNat r) a.toNat n
      (if w.isSome then .wr else .rd) (w.getD []) (requestPacket ni (targetNi s a.toNat r) tag.toNat a.toNat n (baseUrgency ni)
        (if w.isSome then .wr else .rd) x alt))).settle := by
  rw [exec_nocRequest, execNocRequest]
  dsimp only
  rw [if_neg (by simp [hwf]), if_neg (by simp [hfree]), if_neg (by simp [hcheck]), hr]
  dsimp only
  rw [hroute]
  rfl

theorem nocRequest_barred {ni : Fin 177} {tag : Byte} {w : Option (List Byte)} {a : BitVec 48} {n : Fin 257} {f : LinkFault}
    (hwf : wfRequest w n = true) (hfree : s.nocWaits ni tag.toNat a.toNat n = false)
    (hcheck : memCheck s ni a.toNat n w.isSome = C.NOC_ADDR_PROTECTED) :
    ∃ t, exec (.nocRequest ni tag ⟨w, f⟩ a n) s = .next t ∧ t.noc = (s.nocResult ni tag.toNat C.NOC_ADDR_PROTECTED []).noc ∧
      logs s t C.NOC_ADDR_PROTECTED (srcNi ni) (a.toNat + ni * 2 ^ 48) ∧ t = { s with noc := t.noc, err := t.err } := by
  rw [exec_nocRequest, execNocRequest]
  dsimp only
  rw [if_neg (by simp [hwf]), if_neg (by simp [hfree]), hcheck, if_pos (by decide), State.accLog, if_pos rfl]
  exact ⟨_, rfl, rfl, rfl, rfl⟩

theorem State.injectRoute_none {dst : Nat} (hpri : routeValid (s.route ni dst false) = false) (halt : routeValid (s.route ni dst true) = false) :
    s.injectRoute ni dst = none := by
  unfold State.injectRoute
  simp [hpri, halt]

theorem nocRequest_unroutable {ni : Fin 177} {tag : Byte} {w : Option (List Byte)} {a : BitVec 48} {n : Fin 257} {r : DpaRange} {f : LinkFault}
    (hwf : wfRequest w n = true) (hfree : s.nocWaits ni tag.toNat a.toNat n = false) (hcheck : memCheck s ni a.toNat n w.isSome = 0)
    (hr : dpaRange a.toNat n = some r) (hpri : routeValid (s.route ni (targetNi s a.toNat r) false) = false)
    (halt : routeValid (s.route ni (targetNi s a.toNat r) true) = false) :
    exec (.nocRequest ni tag ⟨w, f⟩ a n) s = .next (s.unavailable ni tag.toNat a.toNat) := by
  rw [exec_nocRequest, execNocRequest]
  dsimp only
  rw [if_neg (by simp [hwf]), if_neg (by simp [hfree]), if_neg (by simp [hcheck]), hr]
  dsimp only
  rw [State.injectRoute_none hpri halt]

end

end Sys2Proof.Machine
end

section
/-! A REQUEST THAT TRAVELS ALONE. Its head moves in every cycle, and it lands where its route ends (R362, R365 to R368). -/

open Sys2Proof.Claims

namespace Sys2Proof.Machine

section

variable {s t : State} {q : NocReq} {p : NocPkt}

/-- A packet that moves leaves the router before it behind, and of its header changes VC at most. -/
theorem NocPkt.move_ahead {r : Nat} {rs : List Nat} (h : p.ahead = r :: rs) :
    p.move.ahead = rs ∧ p.move.lost = p.lost ∧ p.move.poison = p.poison ∧ p.move.typ = p.typ ∧ p.move.urg = p.urg := by
  unfold NocPkt.move
  rw [h]
  split
  · next e _ => exact ⟨(List.cons.inj e).2.symm, rfl, rfl, rfl, rfl⟩
  · next e _ =>
    refine ⟨(List.cons.inj e).2.symm, rfl, rfl, ?_⟩
    dsimp only [NocPkt.typ, NocPkt.urg]
    split
    · exact ⟨getBits_putBits_ne _ _ _ _ _ _ (by decide) (by decide), getBits_putBits_ne _ _ _ _ _ _ (by decide) (by decide)⟩
    · exact ⟨rfl, rfl⟩
  · next e => exact nomatch e

/-- `q` is the one request on the mesh: it has not landed, no router on its way is withdrawn, and its target is a memory channel of this device. -/
structure TravelsAlone (s : State) (q : NocReq) : Prop where
  reqs : s.noc.reqs = [q]
  unserved : q.unserved = true
  stamp : q.stamp = none
  poison : q.pkt.poison = false
  snoop : q.snoop = false
  lost : q.pkt.lost = false
  clear : ∀ r ∈ q.pkt.ahead, s.withdrawn r = false
  attached : (s.attachedDpa q.addr q.len).isSome = true

/-- In `t` the request `q` of `s` has arrived, next in the order of arrivals (R367). -/
def LandsIn (s t : State) (q : NocReq) : Prop :=
  ∃ q' : NocReq, t.noc.reqs = [q'] ∧ q'.pkt.ahead = [] ∧ q'.stamp = some s.noc.stamps ∧ q'.arrUrg = q.pkt.urg ∧ q'.unserved = true ∧
    q'.ni = q.ni ∧ q'.tag = q.tag ∧ q'.kind = q.kind ∧ q'.addr = q.addr ∧ q'.len = q.len ∧ q'.data = q.data

theorem State.reqs_putReq_single {r : NocReq} (h : s.noc.reqs = [r]) (hni : r.ni = q.ni) (htag : r.tag = q.tag) : (s.putReq q).noc.reqs = [q] := by
  unfold State.putReq
  simp [h, hni, htag]

/-- A request for a channel of this device that lands takes its place there, and nothing more. -/
theorem State.land_attached (hpoison : q.pkt.poison = false) (hsnoop : q.snoop = false) (hatt : (s.attachedDpa q.addr q.len).isSome = true) :
    s.land q = { s with noc := { s.noc with stamps := s.noc.stamps + 1 } }.putReq { q with stamp := some s.noc.stamps, arrUrg := q.pkt.urg } := by
  unfold State.land
  extract_lets q1 n1 s1
  rw [if_neg (by simp [q1, hpoison]), if_neg (by simpa [q1, NocReq.snoop] using hsnoop)]
  unfold State.attachedDpa at hatt
  change (match dpaRange q.addr q.len with
    | some (.pooled p) => if s.ownPool p then s1 else s1.sendPooled q1 p
    | _ => s1) = s1
  split
  · next pos hpool =>
    rw [hpool] at hatt
    dsimp only at hatt
    split at hatt
    · next hown => exact if_pos hown
    · exact nomatch hatt
  · rfl

namespace TravelsAlone

theorem moves {r : Nat} {rs : List Nat} (h : TravelsAlone s q) (hahead : q.pkt.ahead = r :: rs) : s.moves q = true := by
  have hclear : s.withdrawn r = false := h.clear r (by rw [hahead]; exact List.mem_cons_self)
  obtain ⟨o, ho⟩ : ∃ o, s.wants q.pkt = some o := ⟨_, by simp only [State.wants, hahead, h.lost, hclear]; rfl⟩
  have hwin : s.winner o = some q := by
    unfold State.winner
    rw [h.reqs, List.filter_cons_of_pos (by simp [ho])]
    rfl
  unfold State.moves
  rw [ho]
  simp [hwin]

/-- A cycle of the mesh takes its head on by one router. -/
theorem meshCycle {r : Nat} {rs : List Nat} (h : TravelsAlone s q) (hahead : q.pkt.ahead = r :: rs) :
    TravelsAlone s.meshCycle { q with pkt := q.pkt.move } := by
  obtain ⟨hrest, hlost, hpoison, htyp, -⟩ := NocPkt.move_ahead hahead
  refine ⟨?_, ?_, h.stamp, hpoison.trans h.poison, h.snoop, hlost.trans h.lost, fun x hx => ?_, h.attached⟩
  · simp [State.meshCycle, h.reqs, h.moves hahead]
  · have := h.unserved
    unfold NocReq.unserved NocPkt.isRequest at this ⊢
    rwa [htyp]
  · rw [hrest] at hx
    exact h.clear x (by rw [hahead]; exact List.mem_cons_of_mem _ hx)

theorem landAll_of_ahead {r : Nat} {rs : List Nat} (h : TravelsAlone s q) (hahead : q.pkt.ahead = r :: rs) : s.landAll = s := by
  unfold State.landAll
  rw [h.reqs, List.filter_cons_of_neg (by simp [NocPkt.arrived, hahead])]
  rfl

/-- At the end of its way it lands, and no head is left to move. -/
theorem lands (h : TravelsAlone s q) (hahead : q.pkt.ahead = []) {n : Nat} : LandsIn s (s.landAll.meshRun n) q := by
  have hland : s.landAll = s.land q := by
    unfold State.landAll
    rw [h.reqs, List.filter_cons_of_pos (by simp [NocPkt.arrived, hahead, h.unserved, h.lost, h.stamp])]
    rfl
  have hreqs : s.landAll.noc.reqs = [{ q with stamp := some s.noc.stamps, arrUrg := q.pkt.urg }] := by
    rw [hland, State.land_attached h.poison h.snoop h.attached]
    exact State.reqs_putReq_single h.reqs rfl rfl
  have hstill : s.landAll.meshRun n = s.landAll := by
    cases n with
    | zero => rfl
    | succ n => exact if_neg (by simp [hreqs, State.moves, State.wants, hahead])
  rw [hstill]
  exact ⟨_, hreqs, hahead, rfl, rfl, h.unserved, rfl, rfl, rfl, rfl, rfl, rfl⟩

theorem meshRun {n : Nat} (h : TravelsAlone s q) (hn : q.pkt.ahead.length ≤ n) : LandsIn s (s.landAll.meshRun n) q := by
  induction n generalizing s q with
  | zero => exact h.lands (List.length_eq_zero_iff.1 (Nat.le_zero.1 hn))
  | succ n ih =>
    cases hahead : q.pkt.ahead with
    | nil => exact h.lands hahead
    | cons r rs =>
      obtain ⟨hrest, -, -, -, hurg⟩ := NocPkt.move_ahead hahead
      rw [hahead, List.length_cons] at hn
      obtain ⟨q', hreqs, hend, hstamp, harr, hrest'⟩ := ih (h.meshCycle hahead) (by rw [hrest]; omega)
      have hrun : s.landAll.meshRun (n + 1) = s.meshCycle.landAll.meshRun n := by
        rw [h.landAll_of_ahead hahead]
        exact if_pos (by simp [h.reqs, h.moves hahead])
      rw [hrun]
      exact ⟨q', hreqs, hend, hstamp, harr.trans hurg, hrest'⟩

theorem settle (h : TravelsAlone s q) (hway : q.pkt.ahead.length ≤ 18) : LandsIn s s.settle q := by
  refine h.meshRun (hway.trans ?_)
  rw [h.reqs, List.length_singleton]
  decide

end TravelsAlone

end

end Sys2Proof.Machine
end

section
/-! THE MEMORY CONTROLLERS. The bytes of an access line by line, symbols in error, and the patrol reads that wait (R367, R383 to R385, R391, R393). -/

open Sys2Proof.Claims

namespace Sys2Proof.Machine

section

variable {s t : State} {q : NocReq} {a : Nat}

/-! ### Bytes from an address on -/

theorem State.dpaBytes_add {m n : Nat} : s.dpaBytes a (m + n) = s.dpaBytes a m ++ s.dpaBytes (a + m) n := by
  induction m generalizing a with
  | zero => simp [State.dpaBytes]
  | succ m ih =>
    rw [Nat.succ_add, State.dpaBytes, State.dpaBytes, ih, Nat.succ_add_eq_add_succ, List.cons_append]

theorem State.setDpaBytes_append {xs ys : List Byte} : s.setDpaBytes a (xs ++ ys) = (s.setDpaBytes a xs).setDpaBytes (a + xs.length) ys := by
  induction xs generalizing s a with
  | nil => rfl
  | cons x xs ih =>
    rw [List.cons_append, State.setDpaBytes, State.setDpaBytes, ih, List.length_cons, Nat.add_assoc, Nat.add_comm 1]

/-- What a byte reads rests on memory, the count of free values and three registers. -/
theorem State.dpaBytes_congr {n : Nat} (hmem : t.mem = s.mem) (hfree : t.free = s.free) (hmap : t.reg R.MEMC_MAP = s.reg R.MEMC_MAP)
    (hcsc : t.reg R.CSC_STAT = s.reg R.CSC_STAT) (hhost : t.reg R.HIF_HMEM_HI = s.reg R.HIF_HMEM_HI) : t.dpaBytes a n = s.dpaBytes a n := by
  have hfld {f : Fld} (h : t.reg f.off = s.reg f.off) : t.fld f = s.fld f := congrArg (getBits · f.lo f.w) h
  have hchan (b : Nat) : dpaChannel t b = dpaChannel s b := by
    rw [dpaChannel, dpaChannel, State.bit, State.bit, hfld (f := F.MEMC_MAP.GRAN) hmap]
  have hown (p : Nat) : t.ownPool p = s.ownPool p := by
    rw [State.ownPool, State.ownPool, hfld (f := F.CSC_STAT.CSTATE) hcsc, hfld (f := F.CSC_STAT.POSITION) hcsc]
  have hattached (b : Nat) : t.memByte b = s.memByte b := by rw [State.memByte, State.memByte, hchan, hmem]
  have hbus (b : Nat) : t.busAddr b = s.busAddr b := by
    unfold State.busAddr
    rw [hfld (f := F.HIF_HMEM_HI.UPPER) hhost]
  have hbyte (b : Nat) : t.dpaByte b = s.dpaByte b := by
    unfold State.dpaByte
    simp only [hown, hattached, hbus, hfree]
  induction n generalizing a with
  | zero => rfl
  | succ n ih => rw [State.dpaBytes, State.dpaBytes, hbyte, ih]

theorem dpaChannel_lt : (dpaChannel s a).1 < 8 := by
  unfold dpaChannel
  split
  · exact Nat.xor_lt_two_pow (n := 3) (Nat.mod_lt _ (by decide)) (Nat.mod_lt _ (by decide))
  · exact Nat.mod_lt _ (by decide)

/-! ### Accesses without symbols in error -/

theorem symbolsIn_nil : symbolsIn [] = [] := by
  unfold symbolsIn
  simp

/-- A burst without symbols in error is clean, with an erasure or without. -/
theorem State.burstOutcome_nil {c l : Nat} : s.burstOutcome c l [] = .clean := by
  unfold State.burstOutcome
  rw [symbolsIn_nil]
  cases s.erasureAt c l <;> rfl

/-- Where the part of an access at `a` that lies in its line `i` begins. -/
def lineStart (a i : Nat) : Nat := max a ((a / 64 + i) * 64)

/-- Where it ends. -/
def lineEnd (q : NocReq) (a i : Nat) : Nat := min (a + q.len) ((a / 64 + i) * 64 + 64)

theorem State.serveLine_read {i : Nat} (hq : q.write = false) :
    s.serveLine q a i [] = (s, false, s.dpaBytes (lineStart a i) (lineEnd q a i - lineStart a i)) := by
  unfold State.serveLine
  dsimp only
  rw [State.burstOutcome_nil]
  exact if_neg (by simp [hq])

theorem State.serveLine_write {i : Nat} (hq : q.write = true) : s.serveLine q a i [] =
    (s.setDpaBytes (lineStart a i) ((q.data.drop (lineStart a i - a)).take (lineEnd q a i - lineStart a i)), false, []) := by
  unfold State.serveLine
  dsimp only
  rw [State.burstOutcome_nil]
  exact if_pos hq

/-- Line `i` of an access ends where the next begins, but for the last. -/
theorem lineEnd_cases {i n : Nat} (hn : i + (n + 1) = (a + q.len - 1) / 64 - a / 64 + 1) :
    lineStart a i ≤ lineEnd q a i ∧ lineEnd q a i ≤ a + q.len ∧
      (lineEnd q a i = lineStart a (i + 1) ∨ lineEnd q a i = a + q.len ∧ a + q.len ≤ lineStart a (i + 1)) := by
  unfold lineStart lineEnd
  omega

theorem lineStart_end {i : Nat} (hn : i = (a + q.len - 1) / 64 - a / 64 + 1) : a + q.len ≤ lineStart a i := by
  unfold lineStart
  omega

theorem lineStart_zero : lineStart a 0 = a := by
  unfold lineStart
  omega

theorem State.serveLines_read {i n : Nat} (hq : q.write = false) (hn : i + n = (a + q.len - 1) / 64 - a / 64 + 1) :
    s.serveLines q a [] i n = (s, false, s.dpaBytes (lineStart a i) (a + q.len - lineStart a i)) := by
  induction n generalizing i with
  | zero =>
    have hend : a + q.len ≤ lineStart a i := lineStart_end hn
    rw [State.serveLines, Nat.sub_eq_zero_of_le hend, State.dpaBytes]
  | succ n ih =>
    obtain ⟨hle, hend, hnext⟩ := lineEnd_cases hn
    simp only [State.serveLines, List.filter_nil, List.map_nil]
    rw [State.serveLine_read hq, ih (by omega)]
    refine Prod.ext rfl (Prod.ext rfl ?_)
    dsimp only
    obtain hnext | ⟨hlast, hpast⟩ := hnext
    · have hsplit : a + q.len - lineStart a i = (lineEnd q a i - lineStart a i) + (a + q.len - lineStart a (i + 1)) := by omega
      rw [hsplit, State.dpaBytes_add, Nat.add_sub_of_le hle, hnext]
    · rw [Nat.sub_eq_zero_of_le hpast, State.dpaBytes, List.append_nil, hlast]

theorem State.serveLines_write {i n : Nat} (hq : q.write = true) (hlen : 1 ≤ q.len) (hdata : q.data.length = q.len)
    (hn : i + n = (a + q.len - 1) / 64 - a / 64 + 1) :
    s.serveLines q a [] i n = (s.setDpaBytes (lineStart a i) (q.data.drop (lineStart a i - a)), false, []) := by
  induction n generalizing s i with
  | zero =>
    have hend : a + q.len ≤ lineStart a i := lineStart_end hn
    rw [State.serveLines, List.drop_eq_nil_of_le (by omega), State.setDpaBytes]
  | succ n ih =>
    obtain ⟨hle, hend, hnext⟩ := lineEnd_cases hn
    have hstart : a ≤ lineStart a i := Nat.le_max_left _ _
    simp only [State.serveLines, List.filter_nil, List.map_nil]
    rw [State.serveLine_write hq, ih (by omega)]
    refine Prod.ext ?_ rfl
    dsimp only
    have hrest : q.data.drop (lineStart a (i + 1) - a) = (q.data.drop (lineStart a i - a)).drop (lineEnd q a i - lineStart a i) := by
      rw [List.drop_drop]
      obtain hnext | ⟨hlast, hpast⟩ := hnext
      · congr 1
        omega
      · rw [List.drop_eq_nil_of_le (by omega), List.drop_eq_nil_of_le (by omega)]
    conv_rhs => rw [← List.take_append_drop (lineEnd q a i - lineStart a i) (q.data.drop (lineStart a i - a)), State.setDpaBytes_append, ← hrest]
    obtain hnext | ⟨hlast, hpast⟩ := hnext
    · rw [List.length_take_of_le (by rw [List.length_drop]; omega), Nat.add_sub_of_le hle, hnext]
    · have hnone : q.data.drop (lineStart a (i + 1) - a) = [] := List.drop_eq_nil_of_le (by omega)
      rw [hnone]
      rfl

/-- A controller whose channels are READY serves the lines and answers, where it is not a core that reads (R384, R391). -/
theorem State.serveMem_served {fs : List (Fin 5 × MemFault)} {u : State} {bad : Bool} {bs : List Byte} (hready : chansReady s a q.len = true)
    (hcore : ¬ (q.kind = .rd ∧ (q.ni = 169 ∨ q.ni = 170))) (h : s.serveLines q a fs 0 ((a + q.len - 1) / 64 - a / 64 + 1) = (u, bad, bs)) :
    s.serveMem q a fs = if bad then u.complete q C.MEM_UE [] else u.complete q 0 bs := by
  unfold State.serveMem
  rw [if_neg (by simp [hready])]
  dsimp only
  rw [h]
  dsimp only
  rw [if_neg hcore]

theorem State.serveMem_read (hkind : q.kind = .rd) (hni : q.ni < 169) (hready : chansReady s a q.len = true) :
    s.serveMem q a [] = s.complete q 0 (s.dpaBytes a q.len) := by
  have hlines := State.serveLines_read (s := s) (q := q) (a := a) (i := 0) (by simp [NocReq.write, hkind]) (Nat.zero_add _)
  rw [lineStart_zero, Nat.add_sub_cancel_left] at hlines
  exact State.serveMem_served hready (by omega) hlines

theorem State.serveMem_write (hlen : 1 ≤ q.len) (hkind : q.kind = .wr) (hdata : q.data.length = q.len) (hready : chansReady s a q.len = true) :
    s.serveMem q a [] = (s.setDpaBytes a q.data).complete q 0 [] := by
  have hlines := State.serveLines_write (s := s) (q := q) (a := a) (i := 0) (by simp [NocReq.write, hkind]) hlen hdata (Nat.zero_add _)
  rw [lineStart_zero, Nat.sub_self, List.drop_zero] at hlines
  exact State.serveMem_served hready (by simp [hkind]) hlines

/-! ### Symbols in error -/

/-- How a request is answered rests on what the network keeps. -/
theorem State.noc_complete (h : t.noc = s.noc) {status : Nat} {data : List Byte} :
    (t.complete q status data).noc = (s.complete q status data).noc := by
  unfold State.complete State.completionRoute State.route State.putReq
  rw [h]

theorem logs_of_err {u : State} {code source detail : Nat} (h : logs s t code source detail) (herr : u.err = t.err) : logs s u code source detail :=
  herr.trans h

theorem regsBut_of_regs {u : State} {offs : List Nat} (hregs : u.regs = t.regs) (h : regsBut s t offs) : regsBut s u offs :=
  fun o ho => (congrArg (mget resetVal o) hregs).trans (h o ho)

theorem eccRegs_notMem {c o : Nat} (hc : c < 8) (ho : o < 0x480000 ∨ 0x4c0000 ≤ o) : o ∉ [R.MEMC_ECC_CNT c, R.MEMC_ERR_ADDR c] := by
  have hcnt : o ≠ 0x480010 + 0x2000 * c := by omega
  have haddr : o ≠ 0x480018 + 0x2000 * c := by omega
  simp [hcnt, haddr]

theorem srcChannel_kind {c : Nat} (hc : c < 8) : srcChannel c / 2 ^ 28 ≠ 2 := by
  unfold srcChannel
  omega

/-- An uncorrectable burst of channel `c`: counted, logged, and of the registers MEMC_ECC_CNT and MEMC_ERR_ADDR change (R384). -/
theorem State.memUe_noted {c l ni : Nat} {scrub : Bool} (hs : s.regsWf) (hc : c < 8) :
    (s.memUe c l ni scrub).fld (F.MEMC_ECC_CNT.UE c) = min (s.fld (F.MEMC_ECC_CNT.UE c) + 1) (2 ^ (F.MEMC_ECC_CNT.UE c).w - 1) ∧
    logs s (s.memUe c l ni scrub) C.MEM_UE (srcChannel c) (l + ni * 2 ^ 48) ∧
    regsBut s (s.memUe c l ni scrub) [R.MEMC_ECC_CNT c, R.MEMC_ERR_ADDR c] := by
  refine ⟨?_, logs_report rfl rfl (srcChannel_kind hc) (by decide),
    regsBut_report (regsBut_setReg (regsBut_addSat regsBut_refl (by simp)) (by simp))⟩
  refine State.fld_report.trans (Eq.trans ?_ (State.fld_addSat (f := F.MEMC_ECC_CNT.UE c) hs (by simp)))
  exact congrArg (getBits · 32 32) (State.reg_setReg_ne _ _ (show R.MEMC_ECC_CNT c ≠ R.MEMC_ERR_ADDR c by simp))

/-- The same of a corrected one. -/
theorem State.memCe_noted {c l ni n comp : Nat} {scrub : Bool} (hs : s.regsWf) (hc : c < 8) :
    (s.memCe c l ni n comp scrub).fld (F.MEMC_ECC_CNT.CE c) = min (s.fld (F.MEMC_ECC_CNT.CE c) + 1) (2 ^ (F.MEMC_ECC_CNT.CE c).w - 1) ∧
    logs s (s.memCe c l ni n comp scrub) C.MEM_CE (srcChannel c) (l + ni * 2 ^ 48) ∧
    regsBut s (s.memCe c l ni n comp scrub) [R.MEMC_ECC_CNT c, R.MEMC_ERR_ADDR c] := by
  refine ⟨?_, logs_report rfl rfl (srcChannel_kind hc) (by decide),
    regsBut_report (regsBut_setReg (regsBut_addSat regsBut_refl (by simp)) (by simp))⟩
  refine State.fld_report.trans (Eq.trans ?_ (State.fld_addSat (f := F.MEMC_ECC_CNT.CE c) hs (by simp)))
  exact congrArg (getBits · 0 32) (State.reg_setReg_ne _ _ (show R.MEMC_ECC_CNT c ≠ R.MEMC_ERR_ADDR c by simp))

/-- With more than 4 and at most 12 symbols in error a burst is uncorrectable, with fewer it is corrected (R383). -/
theorem State.burstOutcome_of_symbols {c l : Nat} {fs : List MemFault} (herase : s.erasureAt c l = none) :
    (5 ≤ (symbolsIn fs).length → (symbolsIn fs).length ≤ 12 → s.burstOutcome c l fs = .uncorrectable) ∧
    (1 ≤ (symbolsIn fs).length → (symbolsIn fs).length ≤ 4 → ∃ n comp, s.burstOutcome c l fs = .corrected n comp) := by
  unfold State.burstOutcome
  rw [herase]
  dsimp only
  cases symbolsIn fs with
  | nil => exact ⟨fun h => absurd h (by decide), fun h => absurd h (by decide)⟩
  | cons i is =>
    rw [List.length_cons]
    dsimp only
    refine ⟨fun h5 h12 => ?_, fun _ h4 => ⟨_, _, if_pos (by omega)⟩⟩
    rw [if_neg (by omega), if_pos (by omega)]

/-- The one line of a read that lies within it, with symbols in error. -/
theorem State.serveLines_single {fs : List MemFault} (hline : a / 64 = (a + q.len - 1) / 64) :
    s.serveLines q a (fs.map (fun f => (0, f))) 0 ((a + q.len - 1) / 64 - a / 64 + 1) =
      ((s.serveLine q a 0 fs).1, (s.serveLine q a 0 fs).2.1, (s.serveLine q a 0 fs).2.2) := by
  have hfaults : (((fs.map (fun f => ((0 : Fin 5), f))).filter (fun f => f.1.val == 0)).map (·.2)) = fs := by
    rw [List.filter_map, List.map_map]
    exact (congrArg (List.map _) (List.filter_eq_self.2 fun _ _ => rfl)).trans (List.map_id fs)
  rw [hline, Nat.sub_self, State.serveLines, State.serveLines, hfaults]
  simp

theorem line_single (hlen : 1 ≤ q.len) (hline : a / 64 = (a + q.len - 1) / 64) :
    max a ((a / 64 + 0) * 64) = a ∧ min (a + q.len) ((a / 64 + 0) * 64 + 64) - a = q.len := by
  omega

theorem serveMem_uncorrectable {fs : List MemFault} (hs : s.regsWf) (hline : a / 64 = (a + q.len - 1) / 64) (hkind : q.kind = .rd)
    (hni : q.ni < 169) (hready : chansReady s a q.len = true)
    (hburst : s.burstOutcome (dpaChannel s (a / 64 * 64)).1 (dpaChannel s (a / 64 * 64)).2 fs = .uncorrectable) :
    ∃ t, s.serveMem q a (fs.map (fun f => (0, f))) = t ∧ t.noc = (s.complete q C.MEM_UE []).noc ∧ t.mem = s.mem ∧
      t.fld (F.MEMC_ECC_CNT.UE (dpaChannel s (a / 64 * 64)).1) =
        min (s.fld (F.MEMC_ECC_CNT.UE (dpaChannel s (a / 64 * 64)).1) + 1) (2 ^ (F.MEMC_ECC_CNT.UE (dpaChannel s (a / 64 * 64)).1).w - 1) ∧
      logs s t C.MEM_UE (srcChannel (dpaChannel s (a / 64 * 64)).1) ((dpaChannel s (a / 64 * 64)).2 + q.ni * 2 ^ 48) ∧
      regsBut s t [R.MEMC_ECC_CNT (dpaChannel s (a / 64 * 64)).1, R.MEMC_ERR_ADDR (dpaChannel s (a / 64 * 64)).1] := by
  have hserve : s.serveLine q a 0 fs =
      ((s.memUe (dpaChannel s (a / 64 * 64)).1 (dpaChannel s (a / 64 * 64)).2 q.ni false).tookFree, true, []) := by
    unfold State.serveLine
    dsimp only [Nat.add_zero]
    rw [hburst]
    exact if_pos (by simp [NocReq.write, hkind])
  have hlines := State.serveLines_single (s := s) (fs := fs) hline
  rw [hserve] at hlines
  obtain ⟨hcount, hlogs, hregs⟩ := State.memUe_noted (l := (dpaChannel s (a / 64 * 64)).2) (ni := q.ni) (scrub := false) hs dpaChannel_lt
  have hmem : (s.memUe (dpaChannel s (a / 64 * 64)).1 (dpaChannel s (a / 64 * 64)).2 q.ni false).mem = s.mem := rfl
  have hnoc : (s.memUe (dpaChannel s (a / 64 * 64)).1 (dpaChannel s (a / 64 * 64)).2 q.ni false).noc = s.noc := rfl
  generalize s.memUe _ _ _ _ = u at hlines hcount hlogs hregs hmem hnoc
  exact ⟨_, (State.serveMem_served hready (by omega) hlines).trans (if_pos rfl), State.noc_complete (t := u.tookFree) hnoc, hmem,
    (State.fld_of_regs (Carried.complete (s := u.tookFree)).regs).trans hcount, logs_of_err hlogs rfl,
    regsBut_of_regs (Carried.complete (s := u.tookFree)).regs hregs⟩

theorem serveMem_corrected {fs : List MemFault} {n comp : Nat} (hs : s.regsWf) (hlen : 1 ≤ q.len) (hline : a / 64 = (a + q.len - 1) / 64)
    (hkind : q.kind = .rd) (hni : q.ni < 169) (hready : chansReady s a q.len = true)
    (hburst : s.burstOutcome (dpaChannel s (a / 64 * 64)).1 (dpaChannel s (a / 64 * 64)).2 fs = .corrected n comp) :
    ∃ t, s.serveMem q a (fs.map (fun f => (0, f))) = t ∧ t.noc = (s.complete q 0 (s.dpaBytes a q.len)).noc ∧ t.mem = s.mem ∧
      t.fld (F.MEMC_ECC_CNT.CE (dpaChannel s (a / 64 * 64)).1) =
        min (s.fld (F.MEMC_ECC_CNT.CE (dpaChannel s (a / 64 * 64)).1) + 1) (2 ^ (F.MEMC_ECC_CNT.CE (dpaChannel s (a / 64 * 64)).1).w - 1) ∧
      logs s t C.MEM_CE (srcChannel (dpaChannel s (a / 64 * 64)).1) ((dpaChannel s (a / 64 * 64)).2 + q.ni * 2 ^ 48) ∧
      regsBut s t [R.MEMC_ECC_CNT (dpaChannel s (a / 64 * 64)).1, R.MEMC_ERR_ADDR (dpaChannel s (a / 64 * 64)).1] := by
  have hc : (dpaChannel s (a / 64 * 64)).1 < 8 := dpaChannel_lt
  have hread : q.write = false := by simp [NocReq.write, hkind]
  obtain ⟨hcount, hlogs, hregs⟩ :=
    State.memCe_noted (l := (dpaChannel s (a / 64 * 64)).2) (ni := q.ni) (n := n) (comp := comp) (scrub := false) hs hc
  obtain ⟨hlo, hhi⟩ := line_single (q := q) hlen hline
  have hbytes : (s.memCe (dpaChannel s (a / 64 * 64)).1 (dpaChannel s (a / 64 * 64)).2 q.ni n comp false).dpaBytes a q.len = s.dpaBytes a q.len :=
    State.dpaBytes_congr rfl rfl (hregs _ (eccRegs_notMem hc (by decide))) (hregs _ (eccRegs_notMem hc (by decide)))
      (hregs _ (eccRegs_notMem hc (by decide)))
  have hserve : s.serveLine q a 0 fs =
      (s.memCe (dpaChannel s (a / 64 * 64)).1 (dpaChannel s (a / 64 * 64)).2 q.ni n comp false, false, s.dpaBytes a q.len) := by
    unfold State.serveLine
    dsimp only
    rw [hlo, hhi, Nat.add_zero, hburst]
    simp only [hread, Bool.not_false, Bool.true_or, if_true, Bool.false_eq_true, if_false, hbytes]
  have hlines := State.serveLines_single (s := s) (fs := fs) hline
  rw [hserve] at hlines
  have hmem : (s.memCe (dpaChannel s (a / 64 * 64)).1 (dpaChannel s (a / 64 * 64)).2 q.ni n comp false).mem = s.mem := rfl
  have hnoc : (s.memCe (dpaChannel s (a / 64 * 64)).1 (dpaChannel s (a / 64 * 64)).2 q.ni n comp false).noc = s.noc := rfl
  generalize s.memCe _ _ _ _ _ _ = u at hlines hcount hlogs hregs hmem hnoc
  exact ⟨_, (State.serveMem_served hready (by omega) hlines).trans (if_neg Bool.false_ne_true), State.noc_complete hnoc, hmem,
    (State.fld_of_regs Carried.complete.regs).trans hcount, logs_of_err hlogs rfl, regsBut_of_regs Carried.complete.regs hregs⟩

/-! ### The request whose turn it is -/

/-- With no line in a cache no snoop is needed (R391). -/
theorem State.snoopFor_of_filter_nil {c : Nat} (h : s.noc.filter = []) : s.snoopFor c q = s := by
  have hheld (b : Nat) : s.heldLines q b = [] := by rw [State.heldLines, h]; rfl
  unfold State.snoopFor
  split
  · rfl
  · rw [hheld]
    rfl

theorem memAccess_unsnooped {c : Fin 8} {cycles : Half} {fs : List (Fin 5 × MemFault)} (h : s.noc.filter = []) :
    (∀ q a, (s.ageHeads cycles.toNat).nextAt c = some (q, a) →
      exec (.memAccess c cycles fs) s = .next (((s.ageHeads cycles.toNat).serveMem q a fs).settle.scrubsDue c)) ∧
    ((s.ageHeads cycles.toNat).nextAt c = none → exec (.memAccess c cycles fs) s = .next (s.ageHeads cycles.toNat).settle) := by
  have hsnoop : ((s.ageHeads cycles.toNat).atChannel c).foldl (fun t x => t.snoopFor c x.1) (s.ageHeads cycles.toNat) = s.ageHeads cycles.toNat :=
    List.foldl_fixed' (fun _ => State.snoopFor_of_filter_nil (s := s.ageHeads _) h) _
  rw [exec_memAccess, execMemAccess, hsnoop]
  refine ⟨fun q a hnext => ?_, fun hnext => ?_⟩ <;> rw [hnext]

/-! ### Patrol reads that wait -/

theorem State.scrubsDue_nil {c : Nat} (h : s.noc.scrubs = []) : s.scrubsDue c = s := by
  unfold State.scrubsDue
  simp only [h, List.filter_nil, List.foldl_nil]
  exact congrArg (fun x => ({ s with noc := { s.noc with scrubs := x } } : State)) h.symm

/-- A patrol read that no request at its channel holds up any more is made (R393). -/
theorem State.scrubsDue_single {c l n : Nat} {fs : List MemFault} (h : s.noc.scrubs = [(c, l, fs, n)]) (hidle : s.atChannel c = []) :
    s.scrubsDue c = ({ s with noc := { s.noc with scrubs := [] } } : State).scrubLine c l fs := by
  unfold State.scrubsDue
  rw [h]
  simp [hidle]

end

end Sys2Proof.Machine
end

section
/-! THE ENDS OF REQUESTS. Completions with parity errors and without, timeouts, heads that are dropped, NACKs, and answers of the host (R355, R358,
R359, R369 to R371, R569). -/

open Sys2Proof.Claims

namespace Sys2Proof.Machine

section

variable {s t : State} {q : NocReq} {ni : Fin 177} {tag : Byte} {f : LinkFault} {c : Nat}

/-! ### Completions -/

/-- A request that has been answered is one no longer. -/
theorem NocReq.unserved_of_served (h : q.served = some c) : q.unserved = false := by
  unfold NocReq.served at h
  split at h
  · next htyp =>
    unfold NocReq.unserved NocPkt.isRequest
    obtain htyp | htyp | htyp := htyp <;> rw [htyp] <;> rfl
  · exact nomatch h

theorem State.hostServe_of_served (h : q.served = some c) : s.hostServe q f = s := by
  unfold State.hostServe
  exact if_pos (by simp [NocReq.unserved_of_served h])

theorem nocCompletion_served (hq : s.nocReq ni tag.toNat = some q) (hserved : q.served = some c) :
    exec (.nocCompletion ni tag f) s = .next (if q.pkt.arrived then s.takeCompletion q c f else s) := by
  rw [exec_nocCompletion, execNocCompletion, hq]
  dsimp only
  rw [State.hostServe_of_served hserved, hq]
  dsimp only
  rw [hserved]

/-- A request of a block ends with its status and data (R355). -/
theorem State.endReq_live {status : Nat} {data : List Byte} (hsnoop : q.snoop = false) (hdead : q.dead = false) :
    s.endReq q status data = (s.dropReq q.ni q.tag).nocResult q.ni q.tag status data := by
  unfold State.endReq
  dsimp only
  rw [if_neg (by simp [hsnoop]), if_neg (by simp [hdead])]

theorem nocCompletion_ends (hq : s.nocReq ni tag.toNat = some q) (hserved : q.served = some c) (harr : q.pkt.arrived = true)
    (hsnoop : q.snoop = false) (hdead : q.dead = false) :
    ∃ t, exec (.nocCompletion ni tag .none) s = .next t ∧ t.nocReq ni tag.toNat = none ∧
      (∀ m u, (m, u) ≠ (ni.val, tag.toNat) → t.nocReq m u = s.nocReq m u) ∧
      t.noc.results = mset (fun _ => ⟨0, []⟩) (256 * ni.val + tag.toNat) ⟨c, if c = 0 ∧ q.kind = .rd then q.data else []⟩ s.noc.results ∧
      t = { s with noc := t.noc } := by
  obtain ⟨hni, htag⟩ := State.key_of_nocReq hq
  have hends : s.takeCompletion q c .none =
      (s.dropReq ni tag.toNat).nocResult ni tag.toNat c (if c = 0 ∧ q.kind = .rd then q.data else []) := by
    rw [← hni, ← htag]
    exact State.endReq_live hsnoop hdead
  rw [nocCompletion_served hq hserved, if_pos harr, hends]
  exact ⟨_, rfl, State.nocReq_dropReq, fun m u hne => State.nocReq_dropReq_ne hne, rfl, rfl⟩

/-- A parity error that a router finds is counted and logged (R359). -/
theorem State.linkError_noted {r : Fin 64} (hs : s.regsWf) :
    (s.linkError q r).bit F.NOC_STAT.LINK_SEEN = true ∧ logs s (s.linkError q r) C.NOC_LINK_ERR (srcRouter r) (reqDetail q.ni q.addr) ∧
    regsBut s (s.linkError q r) [R.NOC_STAT, R.NOC_ERR_CNT] ∧ (s.linkError q r).noc = s.noc := by
  unfold State.linkError
  exact ⟨State.bit_report.trans (State.bit_nocCount hs (by decide) rfl), logs_report rfl rfl srcRouter_kind (by decide),
    regsBut_report (regsBut_nocCount rfl), rfl⟩

theorem State.nocReq_of_noc (h : t.noc = s.noc) {m u : Nat} : t.nocReq m u = s.nocReq m u := by
  unfold State.nocReq
  rw [h]

/-- A parity error in the body of a completion ends the request with NOC_LINK_ERR (R359). -/
theorem nocCompletion_poisoned {r : Fin 64} (hs : s.regsWf) (hq : s.nocReq ni tag.toNat = some q) (hserved : q.served = some c)
    (harr : q.pkt.arrived = true) (hsnoop : q.snoop = false) (hdead : q.dead = false) (hr : r.val ∈ q.pkt.entered) :
    ∃ t, exec (.nocCompletion ni tag (.body r)) s = .next t ∧ t.nocReq ni tag.toNat = none ∧ t.bit F.NOC_STAT.LINK_SEEN = true ∧
      t.noc.results = mset (fun _ => ⟨0, []⟩) (256 * ni.val + tag.toNat) ⟨C.NOC_LINK_ERR, []⟩ s.noc.results ∧
      logs s t C.NOC_LINK_ERR (srcRouter r) (reqDetail q.ni q.addr) ∧ regsBut s t [R.NOC_STAT, R.NOC_ERR_CNT] := by
  obtain ⟨hni, htag⟩ := State.key_of_nocReq hq
  obtain ⟨hseen, hlogs, hregs, hnoc⟩ := State.linkError_noted (q := q) (r := r) hs
  have hends : s.takeCompletion q c (.body r) = ((s.linkError q r).dropReq ni tag.toNat).nocResult ni tag.toNat C.NOC_LINK_ERR [] := by
    rw [← hni, ← htag]
    exact (if_pos (List.contains_iff_mem.2 hr)).trans (State.endReq_live hsnoop hdead)
  rw [nocCompletion_served hq hserved, if_pos harr, hends]
  generalize s.linkError q r = u at hseen hlogs hregs hnoc
  refine ⟨_, rfl, State.nocReq_dropReq, hseen, ?_, hlogs, hregs⟩
  rw [← hnoc]
  rfl

/-- A parity error in its header discards it (R359). -/
theorem nocCompletion_discarded {r : Fin 64} (hs : s.regsWf) (hq : s.nocReq ni tag.toNat = some q) (hserved : q.served = some c)
    (harr : q.pkt.arrived = true) (hdead : q.dead = false) (hr : r.val ∈ q.pkt.entered) :
    ∃ t, exec (.nocCompletion ni tag (.header r)) s = .next t ∧ (t.nocReq ni tag.toNat).map (·.pkt.lost) = some true ∧
      t.noc.results = s.noc.results ∧ logs s t C.NOC_LINK_ERR (srcRouter r) (reqDetail q.ni q.addr) ∧
      regsBut s t [R.NOC_STAT, R.NOC_ERR_CNT] := by
  obtain ⟨hni, htag⟩ := State.key_of_nocReq hq
  obtain ⟨-, hlogs, hregs, hnoc⟩ := State.linkError_noted (q := q) (r := r) hs
  have hends : s.takeCompletion q c (.header r) = (s.linkError q r).putReq { q with pkt := { q.pkt with lost := true } } :=
    (if_pos (List.contains_iff_mem.2 hr)).trans (if_neg (by simp [hdead]))
  rw [nocCompletion_served hq hserved, if_pos harr, hends]
  have hqu : (s.linkError q r).nocReq ni tag.toNat = some q := (State.nocReq_of_noc hnoc).trans hq
  generalize s.linkError q r = u at hlogs hregs hnoc hqu
  have hput := State.nocReq_putReq (q' := { q with pkt := { q.pkt with lost := true } }) hqu hni htag
  exact ⟨_, rfl, congrArg (Option.map (·.pkt.lost)) hput, congrArg (·.results) hnoc, hlogs, hregs⟩

/-! ### Timeouts -/

theorem nocTimeout_ends (hs : s.regsWf) (hq : s.nocReq ni tag.toNat = some q) (hdead : q.dead = false) (hsnoop : q.snoop = false) :
    ∃ t, exec (.nocTimeout ni tag) s = .next t ∧ (t.nocReq ni tag.toNat).map (·.dead) = (if q.pkt.lost then none else some true) ∧
      t.bit F.NOC_STAT.TIMEOUT_SEEN = true ∧
      t.noc.results = mset (fun _ => ⟨0, []⟩) (256 * ni.val + tag.toNat) ⟨C.NOC_TIMEOUT, []⟩ s.noc.results ∧
      t = { s with regs := t.regs, noc := t.noc } ∧ regsBut s t [R.NOC_STAT, R.NOC_ERR_CNT] := by
  obtain ⟨hni, htag⟩ := State.key_of_nocReq hq
  have hseen : (s.nocCount F.NOC_STAT.TIMEOUT_SEEN F.NOC_ERR_CNT.TIMEOUT).bit F.NOC_STAT.TIMEOUT_SEEN = true := State.bit_nocCount hs (by decide) rfl
  have hregs : regsBut s (s.nocCount F.NOC_STAT.TIMEOUT_SEEN F.NOC_ERR_CNT.TIMEOUT) [R.NOC_STAT, R.NOC_ERR_CNT] := regsBut_nocCount rfl
  rw [exec_nocTimeout, execNocTimeout, hq]
  dsimp only
  rw [if_neg (by simp [hdead]), if_neg (by simp [hsnoop])]
  cases hlost : q.pkt.lost
  · have hput := State.nocReq_putReq (s := s.nocCount F.NOC_STAT.TIMEOUT_SEEN F.NOC_ERR_CNT.TIMEOUT) (q' := { q with dead := true }) hq hni htag
    exact ⟨_, rfl, congrArg (Option.map (·.dead)) hput, hseen, rfl, rfl, hregs⟩
  · exact ⟨_, rfl, congrArg (Option.map (·.dead)) State.nocReq_dropReq, hseen, rfl, rfl, hregs⟩

/-! ### Dropped heads and NACKs -/

/-- The head of a request before a withdrawn router is dropped, and a NACK sent at URG 7 (R366, R369, R370). -/
theorem routeHoldExpiry_drops {h : Fin 64} {r : Nat} {rs : List Nat} (hs : s.regsWf) (hq : s.nocReq ni tag.toNat = some q)
    (hhere : q.pkt.here = some h.val)
    (hahead : q.pkt.ahead = r :: rs) (huns : q.unserved = true) (hlost : q.pkt.lost = false) (hwd : s.withdrawn r = true) :
    exec (.routeHoldExpiry ni tag h) s =
      .next ((s.nocCount F.NOC_STAT.NACK_SEEN F.NOC_ERR_CNT.NACK).putReq { q with pkt := s.nackPacket q h }).settle ∧
    (s.nocCount F.NOC_STAT.NACK_SEEN F.NOC_ERR_CNT.NACK).bit F.NOC_STAT.NACK_SEEN = true ∧
    (s.nackPacket q h).isNack = true ∧ (s.nackPacket q h).urg = 7 := by
  obtain ⟨hni, htag⟩ := State.key_of_nocReq hq
  have hsrc : q.ni < 256 := by omega
  have htaglt : q.tag < 256 := htag ▸ tag.isLt
  obtain ⟨-, -, hurg, -, htyp, -, -⟩ :=
    getBits_packetHeader (w := s.nackRoute h q.ni) (alt := false) (urg := 7) (typ := 5) (by decide) (by decide) hsrc htaglt
  refine ⟨?_, State.bit_nocCount hs (by decide) rfl, congrArg (· == 5) htyp, hurg⟩
  rw [exec_routeHoldExpiry, execRouteHoldExpiry, hq]
  dsimp only
  rw [hhere, hahead]
  exact if_pos (by simp [huns, hlost, hwd])

theorem nack_taken (hq : s.nocReq ni tag.toNat = some q) (hnack : q.pkt.isNack = true) (harr : q.pkt.arrived = true) :
    (s.earlierNack q = true → exec (.nack ni tag) s = .next s) ∧ (s.earlierNack q = false → exec (.nack ni tag) s = .next (s.takeNack q)) := by
  rw [exec_nack, execNack, hq]
  dsimp only
  exact ⟨fun h => by rw [if_neg (by simp [h])], fun h => by rw [if_pos (by simp [hnack, harr, h])]⟩

theorem State.takeNack_resends (hdead : q.dead = false) (hproxy : s.proxied q = false) (halt : routeValid (s.route q.ni q.dst true) = true)
    (hresent : q.resent = false) :
    s.takeNack q = (s.putReq { q with
      resent := true, stamp := none,
      pkt := requestPacket q.ni q.dst q.tag q.addr q.len (baseUrgency q.ni) q.kind (s.route q.ni q.dst true) true }).settle := by
  unfold State.takeNack
  dsimp only
  rw [if_neg (by simp [hdead]), if_neg (by simp [hproxy]), if_pos (by simp [halt, hresent])]

theorem nack_ends (hs : s.regsWf) (hq : s.nocReq ni tag.toNat = some q) (hdead : q.dead = false) (hproxy : s.proxied q = false)
    (h : routeValid (s.route q.ni q.dst true) = false ∨ q.resent = true) :
    (s.takeNack q).nocReq ni tag.toNat = none ∧ (s.takeNack q).bit F.NOC_STAT.UNAVAIL_SEEN = true ∧
      (s.takeNack q).noc.results = mset (fun _ => ⟨0, []⟩) (256 * ni.val + tag.toNat) ⟨C.ROUTE_UNAVAILABLE, []⟩ s.noc.results ∧
      logs s (s.takeNack q) C.ROUTE_UNAVAILABLE (srcNi ni) (reqDetail ni q.addr) ∧ regsBut s (s.takeNack q) [R.NOC_STAT, R.NOC_ERR_CNT] := by
  obtain ⟨hni, htag⟩ := State.key_of_nocReq hq
  have hends : s.takeNack q = (s.dropReq ni tag.toNat).unavailable ni tag.toNat q.addr := by
    unfold State.takeNack
    dsimp only
    rw [if_neg (by simp [hdead]), if_neg (by simp [hproxy]), if_neg (by simpa [or_iff_not_imp_left] using h), hni, htag]
  obtain ⟨hnoc, hseen, hlogs, -, hregs⟩ :=
    State.unavailable_ends (s := s.dropReq ni tag.toNat) (ni := ni) (tag := tag.toNat) (a := q.addr) hs (by omega)
  rw [hends]
  exact ⟨(State.nocReq_of_noc hnoc).trans State.nocReq_dropReq, hseen, congrArg (·.results) hnoc, hlogs, hregs⟩

/-! ### Answers of the host -/

theorem State.endReq_eq {status : Nat} {data : List Byte} :
    ∃ reqs filter results, s.endReq q status data = { s with noc := { s.noc with reqs, filter, results } } := by
  unfold State.endReq
  dsimp only
  split_ifs <;> exact ⟨_, _, _, rfl⟩

/-- Whatever else an answer of the host leaves, beside a request that it ends. -/
theorem nocCompletion_after_host {st : Fin 8} {u : State} (hq : s.nocReq ni tag.toNat = some q) (hu : s.hostServe q (.host st) = u) :
    ∃ reqs filter results, exec (.nocCompletion ni tag (.host st)) s = .next { u with noc := { u.noc with reqs, filter, results } } := by
  rw [exec_nocCompletion, execNocCompletion, hq]
  dsimp only
  rw [hu]
  split
  · exact ⟨_, _, _, rfl⟩
  · next q' _ =>
    split
    · next c' _ =>
      split
      · obtain ⟨reqs, filter, results, hends⟩ :=
          State.endReq_eq (s := u) (q := q') (status := c') (data := if c' = 0 ∧ q'.kind = .rd then q'.data else [])
        exact ⟨reqs, filter, results, congrArg Host.Outcome.next hends⟩
      · exact ⟨_, _, _, rfl⟩
    · exact ⟨_, _, _, rfl⟩

/-- The host has answered with completion status `st` (R569). -/
def State.hostAnswered (s : State) (st : Nat) : State := { s with noc := { s.noc with hostSt := st } }

/-- A host that can be reached and answers without success: logged, and the request is answered with HIF_DMA_ERR (R569). -/
theorem State.hostServe_failed {st : Fin 8} (huns : q.unserved = true) (hstamp : q.stamp.isSome = true)
    (hrange : dpaRange q.addr q.len = some .hostMem) (hreach : s.hostReachable = true) :
    s.hostServe q (.host st) =
      (((s.hostAnswered st).report C.HIF_DMA_ERR (srcNi 168) (st + q.addr * 2 ^ 16)).complete q C.HIF_DMA_ERR []).settle := by
  have hlog : (s.hostAnswered st).accLog q.ni q.addr C.HIF_DMA_ERR = (s.hostAnswered st).report C.HIF_DMA_ERR (srcNi 168) (st + q.addr * 2 ^ 16) := by
    rw [State.accLog, if_neg (by decide), if_pos rfl]
    exact if_pos hreach
  unfold State.hostServe
  dsimp only
  rw [if_neg (by simp [huns, hstamp, hrange]), if_neg (by simp [hreach]), ← State.hostAnswered, hlog]

theorem nocCompletion_hostFails {st : Fin 8} (hq : s.nocReq ni tag.toNat = some q) (huns : q.unserved = true) (hstamp : q.stamp.isSome = true)
    (hrange : dpaRange q.addr q.len = some .hostMem) (hreach : s.hostReachable = true) :
    ∃ t, exec (.nocCompletion ni tag (.host st)) s = .next t ∧ logs s t C.HIF_DMA_ERR (srcNi 168) (st + q.addr * 2 ^ 16) ∧ t.noc.hostSt = st ∧
      t.mem = s.mem ∧ t.hmem = s.hmem ∧ t.regs = s.regs := by
  obtain ⟨reqs, granted, stamps, csc, hrun⟩ : Carried ((s.hostAnswered st).report C.HIF_DMA_ERR (srcNi 168) (st + q.addr * 2 ^ 16)) _ :=
    Carried.complete.trans Carried.settle
  obtain ⟨reqs', filter, results, hexec⟩ := nocCompletion_after_host hq ((State.hostServe_failed huns hstamp hrange hreach).trans hrun)
  exact ⟨_, hexec, rfl, rfl, rfl, rfl, rfl⟩

end

/-- Settles O41: the request as its NI takes it, its way over the mesh, its service at the controller, and its end, by the
lemmas of the four sections above. -/
theorem networkCarriesRequests : Obligations.NetworkCarriesRequests := by
  refine ⟨fun _ _ _ _ _ _ _ _ _ => nocRequest_injects, ?header, fun _ _ _ _ _ _ _ => nocRequest_barred, ?unroutable, fun _ => Carried.settle.eq,
    fun q s hreqs huns hstamp hpoison hsnoop hlost hway hclear hatt =>
      TravelsAlone.settle ⟨hreqs, huns, hstamp, hpoison, hsnoop, hlost, hclear, hatt⟩ hway,
    fun _ _ _ q a _ hfilter => (memAccess_unsnooped hfilter).1 q a, fun _ _ => State.scrubsDue_nil, fun _ _ _ _ _ => State.scrubsDue_single,
    fun _ _ _ _ hfilter => (memAccess_unsnooped hfilter).2, fun _ _ _ _ _ => State.serveMem_read, ?write, ?errors,
    fun _ _ _ _ _ => nocCompletion_ends, ?waits, ?parity, fun _ _ _ _ => nocTimeout_ends, fun _ _ _ _ _ _ _ => routeHoldExpiry_drops, ?nack,
    fun _ _ _ _ _ => nocCompletion_hostFails⟩
  case header =>
    intro ni dst tag a len u k x alt _ hlen hu
    obtain ⟨hroute, halt, hurg, hvc, htyp, hsrc, htag⟩ :=
      getBits_packetHeader (w := x) (alt := alt) hu (ReqKind.typ_lt (k := k)) (show ni.val < 256 by omega) tag.isLt
    obtain ⟨haddr, hlast⟩ := getBits_requestWord (len := len) a.isLt hlen
    exact ⟨hroute, halt, hurg, hvc, htyp.trans (by cases k <;> rfl), hsrc, htag, haddr, hlast⟩
  case unroutable =>
    intro ni tag w a n r f s hs hwf hfree hcheck hr hpri halt
    obtain ⟨hnoc, hseen, hlogs, heq, hregs⟩ := State.unavailable_ends (ni := ni) (tag := tag.toNat) (a := a.toNat) hs (by omega)
    exact ⟨_, nocRequest_unroutable hwf hfree hcheck hr hpri halt, hnoc, hseen, hlogs, heq, hregs⟩
  case write =>
    intro q a s _ hlen hkind hdata hready
    obtain ⟨mem, hmem, hset, -, -⟩ := State.setDpaBytes_cases q.data s a
    rw [State.serveMem_write hlen hkind hdata hready]
    exact ⟨rfl, by rw [hset]; rfl, State.noc_complete (by rw [hset])⟩
  case errors =>
    intro q a fs s hs hlen hline hkind hni hready herase
    obtain ⟨hbad, hfixed⟩ := State.burstOutcome_of_symbols (fs := fs) herase
    refine ⟨fun h5 h12 => serveMem_uncorrectable hs hline hkind hni hready (hbad h5 h12), fun h1 h4 => ?_⟩
    obtain ⟨n, comp, hburst⟩ := hfixed h1 h4
    exact serveMem_corrected hs hlen hline hkind hni hready hburst
  case waits =>
    intro ni tag f q c s hq hserved harr
    rw [nocCompletion_served hq hserved, if_neg (by simp [harr])]
  case parity =>
    intro ni tag q c r s hs hq hserved harr hsnoop hdead hr
    exact ⟨nocCompletion_poisoned hs hq hserved harr hsnoop hdead hr, nocCompletion_discarded hs hq hserved harr hdead hr⟩
  case nack =>
    intro ni tag q s hs hq hnack harr hdead hproxy
    obtain ⟨hearlier, htaken⟩ := nack_taken hq hnack harr
    refine ⟨hearlier, fun hfirst => ⟨fun halt hresent => ?_, fun hlast => ⟨_, htaken hfirst, nack_ends hs hq hdead hproxy hlast⟩⟩⟩
    rw [htaken hfirst, State.takeNack_resends hdead hproxy halt hresent]

end Sys2Proof.Machine
end
